-- ==== Sys2Proof/Word.lean ====
section
/-! DEFINITION. The word types of the VR3-32K's registers, frames and memory, and the sparse tables State is made of. -/

namespace Sys2Proof

/-- One byte of a frame, of a flash image or of the SRAM (R5, R371). -/
abbrev Byte := BitVec 8

/-- A native word of the SRAM: 8 bytes, most significant byte first (R371, R107). -/
abbrev Word := BitVec 64

/-- A sparse table over unit numbers: keys strictly rising, no entry equal to what an absent key reads as.
The accessors `tget` and `tset` of Machine/Ops.lean keep that form. -/
abbrev Tab (α : Type) := List (Nat × α)

end Sys2Proof
end

