-- ==== Sys2Proof/Syntax.lean ====
section
/-! DEFINITION. The commands of the VR3-32K: one constructor of Instr per row of spec/opcode_table.json, with the operands
its rule gives it, and the operand types. A direct object command is a write item that has reached the object's own
checks (R327); an event command says that the event has come about, with what the outside world contributes (log entry 5). -/

namespace Sys2Proof

/-- Response codes (R325), in the order of their numbers 0 to 9. -/
inductive Resp where
  | ok | busy | denied | noent | existsOtherPort | stale | poisoned | invalid | conflict | late
deriving DecidableEq, Repr

/-- Finder codes of LAST_ERROR byte 5 (R390), in the order 0 to 6. -/
inductive Finder where
  | loopEngine | core | scrubber | checkpointUnit | requestService | other | circuitTables
deriving DecidableEq, Repr

/-- What the outside world contributes to one tick: whether the checker test's injected errors went unflagged (R395), the standby
self-test items that fail in this cycle (R355, bits [0] to [7]), what is good again of [0] REFCLK_A, [1] REFCLK_B and [2] the lock of
the timebase PLL (R397), and that every core runs and the firmware heartbeat has come (R344 [7]). -/
structure TickEnv where
  checkerMissed : Bool := false
  selftestFail : BitVec 8 := 0
  clocks : BitVec 3 := 0
  heartbeat : Bool := false
deriving DecidableEq, Repr

/-- What the comparator of a column's pad finds at L - 5.0 ns (R94): current in uA and voltage in uV. -/
structure PadReading where
  col : Nat
  current : Int
  voltage : Int
deriving DecidableEq, Repr

/-- What the outside world contributes to one slot. -/
structure SlotEnv where
  /-- elements whose update of this slot meets a residue mismatch (R126) -/
  residue : List Nat := []
  /-- elements whose update acquires a poison mark after S1, with the address of the word met (R110, R140) -/
  latePoison : List (Nat × BitVec 24) := []
  /-- readings at L - 5.0 ns of the columns whose pads carry a current or stand off their voltage (R94) -/
  pads : List PadReading := []
  /-- row lines, numbered as in ROW_FAULT, that fail the check at 4.0 ns of their slot (R96) -/
  rowLow : List Nat := []
  /-- row lines that fail the check at L - 1.0 ns (R96) -/
  rowHigh : List Nat := []
  /-- elements whose queue write of this slot reaches the Column Drive after the next tick (R89) -/
  late : List Nat := []
  /-- columns whose last-code read meets a parity error in one copy (R90) -/
  parityOne : List Nat := []
  /-- columns whose last-code read meets a parity error in both copies (R90) -/
  parityBoth : List Nat := []
deriving DecidableEq, Repr

/-- INJECT_REQUEST (R76, R84): site, count, tag, start cycle number (0: the cycle that begins at the next tick). -/
structure InjectReq where
  site : BitVec 16
  count : BitVec 8
  tag : BitVec 8
  start : BitVec 64
deriving DecidableEq, Repr

/-- The element fields a host write stages (R108, R130, R156). -/
inductive RecField where
  | mode | tone | ditherEn | kp | ki | demodPhase | demodLog2 | codeSlew | feTimer | phiMin | phiMax | feLimit
  | spTarget | spRate | darkTh | manualCode | spRateLimit
deriving DecidableEq, Repr

/-- What one rotation step measures (R168, R169): whether the comparator converged, the TDAC codes it converged to for the
halved output at driver codes 1,024 and 15,360, and for converters A and B at the three gains the sums of raw codes at zero injection and at 75 % of full scale over n conversions, and the skews. -/
structure StepMeasure where
  converged : Bool
  low : BitVec 16
  high : BitVec 16
  n : Nat
  zeroA : Nat × Nat × Nat
  fullA : Nat × Nat × Nat
  zeroB : Nat × Nat × Nat
  fullB : Nat × Nat × Nat
  skewA : Int
  skewB : Int
deriving DecidableEq, Repr

/-- COMMIT (R229): commit tick, EXPECT_GEN and GROUP. -/
structure CommitReq where
  secs : BitVec 48
  nanos : BitVec 32
  expectGen : BitVec 32
  group : BitVec 16
deriving DecidableEq, Repr

/-- A Label Table command (R245) with the requester's address (R247). -/
structure LabelCmd where
  opcode : BitVec 8
  flags : BitVec 8
  tag : BitVec 16
  key : BitVec 24
  port : BitVec 16
  cursor : BitVec 16
  count : BitVec 8
  requester : BitVec 16
deriving DecidableEq, Repr

/-- Codewords of RS(528,514) that a lane's receiver has decoded since it last reported them (R254, R276). -/
structure FecSeen where
  corrected : BitVec 32
  uncorrectable : BitVec 32
deriving DecidableEq, Repr

/-- What the PCS reports with a frame: the codeword alignment term in 0.1 ns (R297), and the codewords. -/
structure RxInfo where
  align : BitVec 12
  fec : FecSeen
deriving DecidableEq, Repr

/-- A received frame: its bytes, DA to FCS, and what the PCS reports with it (R257, R297). -/
structure RxFrame where
  bytes : List Byte
  rx : RxInfo
deriving DecidableEq, Repr

/-- A lane that has lost its lock, and the codewords its receiver decoded till then (R261, R276). -/
structure LockLoss where
  lane : Fin 96
  fec : FecSeen
deriving DecidableEq, Repr

/-- The sender's time when a time frame was queued, bytes 0 to 9 of its payload (R300, R301). -/
structure QueuedTime where
  secs : BitVec 48
  nanos : BitVec 32
deriving DecidableEq, Repr

/-- The image word of a WORD_REPLY and the POISON bit of its frame (R361, R386). -/
structure WordSent where
  word : BitVec 64
  poison : Bool
deriving DecidableEq, Repr

/-- The payload of an ENUMERATE frame (R262). -/
structure EnumMsg where
  op : BitVec 8
  depth : BitVec 8
  status : BitVec 8
  chain : Bool
  gen : BitVec 32
  value : BitVec 16
  blockHigh : BitVec 16
  dome : BitVec 16
deriving DecidableEq, Repr

/-- The payload of a TIME_SYNC frame (R300) and its SRC. -/
structure TimeSyncMsg where
  state : BitVec 8
  steps : BitVec 8
  root : BitVec 16
  syncLog2 : Int
deriving DecidableEq, Repr

/-- The payload of a DELAY_RESP frame (R301). -/
structure DelayRespMsg where
  secs : BitVec 48
  nanos : BitVec 32
  reqSeq : BitVec 16
deriving DecidableEq, Repr

/-- A TRIGGER entry as written (R309): the named tick and the ACTION. -/
structure TriggerReq where
  secs : BitVec 48
  nanos : BitVec 32
  action : BitVec 8
deriving DecidableEq, Repr

/-- An object as named in an item (R316, R322): the selector is none where SEL is clear. -/
structure ObjRef where
  index : BitVec 16
  sub : BitVec 8
  sel : Option (BitVec 16)
deriving DecidableEq, Repr

/-- An object value (R317): a number of an integer or BOOL type, a TIME, or the bytes of a STRING or DOMAIN. -/
inductive ObjVal where
  | num (v : Int)
  | time (secs nanos : Nat)
  | bytes (b : List Byte)
deriving DecidableEq, Repr

/-- A request as the Request Service receives it (R321, R326). -/
structure ReqFrame where
  src : BitVec 16
  dest : BitVec 16
  seq : BitVec 16
  cls : BitVec 3
  planeB : Bool
  poison : Bool
  /-- over the board SPI port (R275) -/
  spi : Bool
  body : List Byte
deriving DecidableEq, Repr

/-- A staged write of an access-rights object (R342). -/
inductive RightsWrite where
  | rangeRights (r : BitVec 16) (read write : BitVec 8)
  | addrRule (j : BitVec 16) (low high : BitVec 16) (level : BitVec 8) (valid : Bool)
  | bspiLevel (level : BitVec 8)
deriving DecidableEq, Repr

/-- A CHECKPOINT chunk frame (R359). -/
structure ChunkMsg where
  chunk : BitVec 16
  chunkCount : BitVec 16
  first : BitVec 16
  imageCycle : BitVec 64
  generation : BitVec 32
  words : List (BitVec 64)
deriving DecidableEq, Repr

/-- A CHECKPOINT seal frame (R359). -/
structure SealMsg where
  chunkCount : BitVec 16
  imageCycle : BitVec 64
  generation : BitVec 32
  bankDigest : List Byte
  imageDigest : List Byte
  fabricDigest : List Byte
deriving DecidableEq, Repr

/-- The payload of a MATE_HEALTH frame (R356). -/
structure MateHealthMsg where
  claim : BitVec 16
  role : BitVec 8
  readiness : BitVec 8
  imageCycle : BitVec 64
  generation : BitVec 32
  causes : BitVec 32
  selftest : BitVec 32
  dieTempMax : BitVec 16
  timeState : BitVec 8
  dutyState : BitVec 8
  flags : BitVec 8
deriving DecidableEq, Repr

/-- What REJOIN read of the mate (R435): the response code of the reading, the generation read before and after,
the circuit entries (number, 16 bytes), the targets (element, target word of R209) and the mate's BANK_DIGEST. -/
structure RejoinData where
  status : Resp
  genBefore : BitVec 32
  genAfter : BitVec 32
  entries : List (Nat × List Byte)
  targets : List (Nat × BitVec 64)
  bankDigest : List Byte
deriving DecidableEq, Repr

/-- The commands: one constructor per row of the table of operations and events. -/
inductive Instr where
  /-- TICK (R17): At each multiple of the cycle period the controller carries out the ordered tick actions and starts a new cycle. -/
  | tick (env : TickEnv)
  /-- SLOT (R13): At the start of each enabled slot the columns take their queue entries, the selected rows are written and read, and the Loop Engine issues updates. -/
  | slot (env : SlotEnv)
  /-- CONVERSION_COMPLETE (R53): A finished conversion is corrected, averaged and stored with its validity flags, becoming usable four slots after its read. -/
  | conversionComplete (col : Fin 256) (convB : Bool) (raw : BitVec 14)
  /-- CONVERTER_TIMEOUT (R73): A conversion not complete within 50 ns of sampling is stored INVALID with code 0 and CONVERTER_TIMEOUT is raised. -/
  | converterTimeout (col : Fin 256) (convB : Bool)
  /-- CLAIM_WINDOW_START (R343): 1,500 ns before the next tick each unit forms its claim number from HEALTH and begins sending it on CLMA and CLMB. -/
  | claimWindowStart
  /-- CLAIM_WINDOW_END (R347): At the end of the claim window each line is judged, the result latched for the next tick, and claim-line faults raised. -/
  | claimWindowEnd (va : BitVec 16) (vb : BitVec 16)
  /-- OUTPUT_RELEASE (R42): A unit that lost arbitration places all its outputs at high impedance 1.0 ns before the next tick. -/
  | outputRelease
  /-- TICK_WINDOW_OPEN (R56): TICK_WINDOW nanoseconds before each tick only class 0 frames may start on every Spire link. -/
  | tickWindowOpen
  /-- ARMING_POINT (R216): One cycle before a pending commit's tick the commit is tested, armed with its changed rows marked, or missed with COMMIT_MISSED. -/
  | armingPoint
  /-- COMMIT_DONE (R222): At tick T+3 the Circuit Tables raise COMMIT_DONE and complete COMMIT_REPORT. -/
  | commitDone
  /-- FF_ERROR_RECORD (R221): At tick T+256 the largest integrator among marked settled elements is recorded in FF_ERROR_MAX. -/
  | ffErrorRecord
  /-- BANK_COPY (R209): After a commit tick the new current bank is copied into the new next bank within 1 ms in unused memory cycles. -/
  | bankCopy
  /-- CYCLE_APPLY (R51): Writing 1 checks the staged cycle configuration against the rules and the map and schedules it, or answers INVALID or BUSY. -/
  | cycleApply (v : BitVec 8)
  /-- CYCLE_CONFIG_EFFECT (R51): The staged cycle configuration takes effect at the first common tick, recomputing loop delays and clipping dependent settings. -/
  | cycleConfigEffect
  /-- LOAD_MEASURE (R46): Writing 1 measures every drive and monitor column load, refused with CONFLICT while outputs are enabled or the mate claims. -/
  | loadMeasure (v : BitVec 8) (drive : List Nat) (monitor : List Nat)
  /-- TOWER_WIRED_WRITE (R44): A write of TOWER_WIRED declares at the next tick whether a mate shares the array. -/
  | towerWiredWrite (v : Bool)
  /-- MATE_MISSING (R44): With TOWER_WIRED 1 and no mate HELLO for 1 s, MATE_MISSING is raised once per such period. -/
  | mateMissing
  /-- AUX_POSITION (R82): Each 7,812.5 ns the auxiliary converter converts its sequence position, updating zone temperatures and supply measurements. -/
  | auxPosition (code : BitVec 16)
  /-- INJECT_REQUEST (R76): A host request for an injected conversion of a site is checked and queued, or answered INVALID, LATE or BUSY. -/
  | injectRequest (req : InjectReq)
  /-- IDLE_CODE_WRITE (R90): A write of IDLE_CODE fills the whole last-code memory with the new code. -/
  | idleCodeWrite (v : BitVec 16)
  /-- ROW_FAULT_CLEAR (R103): Writing 1 clears ROW_FAULT, refused with CONFLICT while outputs are enabled. -/
  | rowFaultClear (v : BitVec 8)
  /-- GROUP_STOP (R97): A stop of a column group, refused while it carries a circuit, moves its elements toward code 0 from the next tick. -/
  | groupStop (g : Fin 8)
  /-- GROUP_STOP_FORCED (R97): A forced stop stops the column group whatever circuits it carries. -/
  | groupStopForced (g : Fin 8)
  /-- GROUP_ENABLE (R98): An enable restarts a stopped group at the next tick with soft start, or sets RESTART_PENDING while it is stopping. -/
  | groupEnable (g : Fin 8)
  /-- GROUP_STOPPED (R97): A stopping group becomes STOPPED when every element has been written with 0 or after 4,096 ticks, parking its columns. -/
  | groupStopped (g : Fin 8)
  /-- REVERSE_LINEARISATION (R122): In a spare issue slot three Newton steps find the phase whose linearisation is a given code and write it to PHI_OUT. -/
  | reverseLinearisation (elem : BitVec 15) (mismatch : Option (Fin 16))
  /-- LANE_UNFENCE (R127): Writing a lane number starts a 4,096-update self-test of that fenced lane, refused with CONFLICT if it is not fenced. -/
  | laneUnfence (v : BitVec 8)
  /-- LANE_SELFTEST_DONE (R127): A lane self-test that passes rejoins the lane at the next tick; a failure raises LANE_SELFTEST_FAIL. -/
  | laneSelftestDone (lane : Fin 16) (pass : Bool)
  /-- LOOP_STOP (R128): A stop puts the Loop Engine in STOPPING at the next tick and STOPPED at the tick after. -/
  | loopStop
  /-- LOOP_START (R128): A start of a stopped engine takes effect at the next tick, sets RESTART_PENDING while stopping, or is refused while a stop cause persists. -/
  | loopStart
  /-- RECORD_FIELD_WRITE (R108): A host write to an element-record field is checked and staged for the element's first update after the next tick. -/
  | recordFieldWrite (elem : BitVec 16) (field : RecField) (v : Int)
  /-- MODE_WRITE (R131): A host write of MODE requests AUTO, MANUAL or HOLD as a staged transition, refused for 3 or 4 or while a fault cause persists. -/
  | modeWrite (elem : BitVec 16) (v : BitVec 8)
  /-- SETPOINT_REQUEST (R144): A write of SP_TARGET, with optional SP_RATE, starts or turns a setpoint ramp, clamping the rate to SP_RATE_LIMIT. -/
  | setpointRequest (elem : BitVec 16) (target : BitVec 32) (rate : Option (BitVec 16))
  /-- TRACE_ARM (R152): ARM checks the trace set, clears the buffer and begins capture at the next tick in ARMED. -/
  | traceArm
  /-- TRACE_FORCE (R152): FORCE triggers an ARMED trace in the cycle in which it executes. -/
  | traceForce
  /-- TRACE_DISARM (R152): DISARM returns the trace to IDLE at the next tick, keeping captured groups readable. -/
  | traceDisarm
  /-- CAL_POINTS_WRITE (R160): A write of an element's calibration point set is checked and enters by gradual entry from the next tick. -/
  | calPointsWrite (elem : BitVec 16) (points : List Byte)
  /-- DARK_CAPTURE (R166): Writing 1 starts a 256-cycle capture of dark values at the next tick, refused while a circuit exists or a capture runs. -/
  | darkCapture (v : BitVec 8)
  /-- DARK_CAPTURE_DONE (R166): After 256 cycles each site's DARK is set to the mean of its valid samples, or counted in DARK_SHORT. -/
  | darkCaptureDone
  /-- ROTATION_STEP_END (R169): After 256 cycles new calibration values take effect as the column returns, raising COLUMN_CAL_FAIL or CAL_DRIFT as found. -/
  | rotationStepEnd (g : Fin 8) (m : StepMeasure)
  /-- SPARE_MOVE_DEFERRED (R172): A column move waiting on pending injected conversions takes place at the tick after the last of them completes. -/
  | spareMoveDeferred (g : Fin 8)
  /-- CAL_COLUMN_SKIPPED (R172): A column that would wait more than 4,096 cycles is skipped in this rotation and CAL_COLUMN_SKIPPED is raised. -/
  | calColumnSkipped (g : Fin 8)
  /-- CAL_COLUMN_REQUEST (R172): A host request makes the named column its group's next rotation step, or is refused. -/
  | calColumnRequest (col : BitVec 16)
  /-- CAL_ROTATION_STOP (R173): A stop puts the rotation in STOPPING; it becomes STOPPED when the last group's column returns and releases the TDAC. -/
  | calRotationStop
  /-- CAL_ROTATION_START (R173): A start runs the rotation, or sets RESTART_PENDING while it is stopping. -/
  | calRotationStart
  /-- SWEEP_REQUEST (R174): A sweep request is checked and started or queued, or answered INVALID, CONFLICT or BUSY. -/
  | sweepRequest (elem : BitVec 16) (force : Bool)
  /-- SWEEP_START (R175): A queued sweep starts at the first tick at which fewer than 64 run. -/
  | sweepStart
  /-- SWEEP_END (R176): At the end of a 2,048-cycle sweep firmware fits the curve, stores the point and writes SWEEP_RESULT. -/
  | sweepEnd (elem : BitVec 15)
  /-- SWEEP_CANCEL (R177): A cancel starts the return move at the next tick and records CANCELLED. -/
  | sweepCancel (elem : BitVec 16)
  /-- REFIT_WINDOW_CLOSE (R180): At the close of a refit window firmware applies the offset and slope refits to the bracketing points. -/
  | refitWindowClose (elem : BitVec 15)
  /-- CAL_POINTS_FORWARD (R182): The driving unit forwards each point set changed by sweep or refit to its mate within 1 s. -/
  | calPointsForward (elem : BitVec 15)
  /-- FABRIC_BLOCK_WRITE (R189): A block of the map image is staged, refused with CONFLICT while FABRIC_STATE is PENDING. -/
  | fabricBlockWrite (block : BitVec 16) (bytes : List Byte)
  /-- FABRIC_APPLY (R189): Writing 1 checks the staged image in order and, if accepted, makes firmware write records and tables. -/
  | fabricApply (v : BitVec 8)
  /-- FABRIC_IN_FORCE (R189): The new map comes into force at the first tick after firmware's work, removing pending commits and stale label entries. -/
  | fabricInForce
  /-- SOLVE_STRICT (R201): A STRICT solve request runs, queues, or is answered BUSY, placing changed circuits without disturbing others. -/
  | solveStrict
  /-- SOLVE_PERMISSIVE (R200): A PERMISSIVE solve request runs, queues, or is answered BUSY, running the full looping solve. -/
  | solvePermissive
  /-- SOLVE_DONE (R199): A solve ends with its status, sets the report objects, raises SOLVE_DONE and starts any queued solve. -/
  | solveDone (time : Nat)
  /-- RAW_TARGET_WRITE (R204): A write sets a non-cell element's next-bank target directly, or is refused INVALID or LATE. -/
  | rawTargetWrite (elem : BitVec 16) (bytes : List Byte)
  /-- CIRCUIT_NEXT_WRITE (R211): A single circuit entry is checked and written into the next bank, incrementing the generation. -/
  | circuitNextWrite (k : BitVec 16) (bytes : List Byte)
  /-- CIRCUIT_BATCH (R211): Up to 64 entries are checked item by item and applied whole or not at all. -/
  | circuitBatch (bytes : List Byte)
  /-- NEXT_RESET_COPY (R211): Value 1 makes the next bank equal to the current bank as one change. -/
  | nextResetCopy
  /-- NEXT_RESET_CLEAR (R211): Value 2 clears every circuit of the next bank as one change. -/
  | nextResetClear
  /-- PORT_ATTEN_WRITE (R213): A write of a port's attenuator settings changes the next bank and increments the generation. -/
  | portAttenWrite (port : BitVec 16) (bytes : List Byte)
  /-- COMMIT (R214): A commit request naming a tick is checked and becomes the pending commit. -/
  | commit (req : CommitReq)
  /-- COMMIT_CANCEL (R215): A cancel removes the pending commit before its arming point, or is answered NOENT or LATE. -/
  | commitCancel (v : BitVec 8)
  /-- VERIFY_ENABLE_WRITE (R227): A write of VERIFY_ENABLE takes effect at the next tick, putting checkable circuits in PENDING or NOT_CHECKED. -/
  | verifyEnableWrite (v : Bool)
  /-- VERIFY_TIMEOUT (R227): A circuit without a decision or counting decode for VERIFY_TIMEOUT enters NO_LABEL and LABEL_LOST is raised. -/
  | verifyTimeout (k : BitVec 10)
  /-- QUARTER_BIT (R234): At each quarter-bit boundary every label channel decides a bit per pair and alignment and advances its decodes. -/
  | quarterBit
  /-- LABEL_GONE (R236): No good decode of the current label for 240 ms loses the label and posts GONE on an ingress channel. -/
  | labelGone (chan : BitVec 11) (pair : Fin 8)
  /-- LEARN_READ_INDEX_WRITE (R239): Advancing LEARN_READ_INDEX frees notification records, refused outside the valid span. -/
  | learnReadIndexWrite (v : BitVec 16)
  /-- INSERT (R246): INSERT adds, refreshes or replaces a label entry, or answers EXISTS_OTHER_PORT or TABLE_FULL. -/
  | labelInsert (cmd : LabelCmd)
  /-- DELETE (R246): DELETE removes a label entry or answers NOENT. -/
  | labelDelete (cmd : LabelCmd)
  /-- SEARCH (R246): SEARCH returns the entry of a key with OK or STALE, or NOENT. -/
  | labelSearch (cmd : LabelCmd)
  /-- NEXT (R246): NEXT returns up to COUNT entries from a cursor in position order and the following cursor. -/
  | labelNext (cmd : LabelCmd)
  /-- FLUSH_BY_PORT (R246): FLUSH_BY_PORT removes a port's entries, visiting one bucket per cycle over 2,176 cycles. -/
  | flushByPort (cmd : LabelCmd)
  /-- FLUSH_BY_PORT_DONE (R246): A flush completes after its last step and answers with the count removed. -/
  | flushByPortDone
  /-- AGING_PASS_START (R243): At each multiple of AGE_TIME / 2 the aging sweep starts a new pass over the Label Table. -/
  | agingPassStart
  /-- DECODER_STOP (R248): A stop puts the Label Decoder in STOPPING at the next tick. -/
  | decoderStop
  /-- DECODER_START (R248): A start runs the decoder, or sets RESTART_PENDING while stopping. -/
  | decoderStart
  /-- DECODER_STOPPED (R248): The decoder becomes STOPPED at the first tick after its last decode ends. -/
  | decoderStopped
  /-- PAIR_WRITE (R232): A write of a tone pair's frequencies or enable is checked against the pair conditions at the period in force. -/
  | pairWrite (pair : Fin 8) (f0 : BitVec 32) (f1 : BitVec 32) (enable : Bool)
  /-- LABEL_COMMAND_FORWARD (R249): The driving unit forwards each successful table command to its mate within 1 s. -/
  | labelCommandForward
  /-- FRAME_RECEIVE (R257): A received frame is checked, stamped, metered and routed to delivery, an egress queue or a drop. -/
  | frameReceive (lane : Fin 96) (frame : RxFrame)
  /-- HELLO_SEND (R261): Every HELLO_PERIOD an enabled lane sends HELLO. -/
  | helloSend (lane : Fin 96)
  /-- HELLO_RECEIVE (R261): A received HELLO updates the peer, lane state, plane-B entries and mate address, raising LINK_UP or wiring faults. -/
  | helloReceive (lane : Fin 96) (payload : List Byte)
  /-- HELLO_TIMEOUT (R261): No HELLO in 3 consecutive periods puts the lane DOWN, flushes its queues and raises LINK_DOWN. -/
  | helloTimeout (lane : Fin 96)
  /-- LINK_LOCK_LOSS (R261): Loss of block lock or excess uncorrectable FEC puts the lane DOWN within 10 µs and raises LINK_DOWN. -/
  | linkLockLoss (loss : LockLoss)
  /-- ENUM_START (R262): On a Dome, writing 1 starts enumeration with the count pass; refused elsewhere or while running. -/
  | enumStart (v : BitVec 8)
  /-- ENUM_COUNT (R263): A received COUNT sets the depth and sends COUNT to the controller's own plane-A children. -/
  | enumCount (lane : Fin 96) (msg : EnumMsg)
  /-- ENUM_COUNT_REPLY (R263): A received COUNT_REPLY adds the child's count; when all are in the controller replies or the Dome assigns. -/
  | enumCountReply (lane : Fin 96) (msg : EnumMsg)
  /-- ENUM_ASSIGN (R264): A received ASSIGN sets the address, installs downlink entries and assigns blocks to children, or along a chain. -/
  | enumAssign (lane : Fin 96) (msg : EnumMsg)
  /-- ENUM_ASSIGN_DONE (R264): A received ASSIGN_DONE completes a child's assignment; at the Dome the last sets ENUM_STATE DONE and raises ENUM_DONE. -/
  | enumAssignDone (lane : Fin 96) (msg : EnumMsg)
  /-- ENUM_CHILD_TIMEOUT (R263): A child that does not reply within (8 − DEPTH) × 25 ms is excluded and ENUM_CHILD_EXCLUDED is raised. -/
  | enumChildTimeout (lane : Fin 96)
  /-- LANE_DISABLE (R274): A write of 0 puts the lane in STOPPING, discarding queued frames. -/
  | laneDisable (lane : Fin 96)
  /-- LANE_ENABLE (R274): An enable restarts a disabled lane or sets RESTART_PENDING while stopping. -/
  | laneEnable (lane : Fin 96)
  /-- LANE_DISABLED (R274): The lane becomes DISABLED when the frame in transmission ends, within 2 µs. -/
  | laneDisabled (lane : Fin 96)
  /-- BSPI_WRITE_REQUEST (R275): Command 0x02 takes a request body over the board SPI port, or sets OVERRUN or LENGTH_ERROR. -/
  | bspiWriteRequest (length : BitVec 16) (body : List Byte)
  /-- BSPI_READ_STATUS (R275): Command 0x05 returns the status byte and clears OVERRUN and LENGTH_ERROR. -/
  | bspiReadStatus
  /-- BSPI_READ_RESPONSE (R275): Command 0x0B returns the waiting response and clears RESPONSE_READY. -/
  | bspiReadResponse
  /-- BSPI_CS_ABORT (R275): BSPI_CS_N rising before a transfer completes discards it, setting LENGTH_ERROR for a short write. -/
  | bspiCsAbort (shortWrite : Bool)
  /-- SCHEDULER_SELECT (R280): When a lane finishes a frame or idles and something changes, the scheduler selects the next frame by priority and DRR. -/
  | schedulerSelect (lane : Fin 96)
  /-- SHAPER_RATE_WRITE (R285): A SHAPER_RATE write brings the bucket up at the old rate and refills at the new one, keeping any debt. -/
  | shaperRateWrite (x : BitVec 16) (v : BitVec 32)
  /-- SHAPER_BURST_WRITE (R285): A SHAPER_BURST write below the bucket lowers the bucket to the new burst. -/
  | shaperBurstWrite (x : BitVec 16) (v : BitVec 32)
  /-- METER_PROFILE_WRITE (R289): A valid meter profile applies at once to every instance of the class, lowering buckets above the new sizes. -/
  | meterProfileWrite (cls : BitVec 16) (cir : BitVec 32) (cbs : BitVec 32) (pir : BitVec 32) (pbs : BitVec 32)
  /-- METER_INSTANCE_FREE (R287): A meter instance whose buckets have stayed full for 1 s is freed. -/
  | meterInstanceFree (src : BitVec 16) (cls : Fin 8)
  /-- HIST_CLEAR (R290): Writing 1 clears every histogram at the next tick. -/
  | histClear (v : BitVec 8)
  /-- TIME_SYNC_SEND (R300): Every 2^SYNC_LOG2 s a controller sends TIME_SYNC on each UP downlink of both planes. -/
  | timeSyncSend
  /-- TIME_SYNC_RECEIVE (R302): A received TIME_SYNC updates the time parent and servo, advancing qualification and lock. -/
  | timeSyncReceive (lane : Fin 96) (t1 : BitVec 32) (queued : QueuedTime) (msg : TimeSyncMsg)
  /-- DELAY_REQ_SEND (R301): Every 2^DELAY_REQ_LOG2 s a time child sends DELAY_REQ to its parent. -/
  | delayReqSend
  /-- DELAY_REQ_RECEIVE (R301): A parent answers a received DELAY_REQ with DELAY_RESP within 100 µs. -/
  | delayReqReceive (lane : Fin 96) (seq : BitVec 16) (queued : QueuedTime)
  /-- DELAY_RESP_RECEIVE (R302): A received DELAY_RESP completes an exchange from which the servo forms offset and path delay. -/
  | delayRespReceive (lane : Fin 96) (msg : DelayRespMsg)
  /-- TIME_STEP (R304): The clock is stepped once to the parent's time at the first tick with the Loop Engine stopped, making a stretch cycle. -/
  | timeStep
  /-- PARENT_LOST (R307): No TIME_SYNC for 4 parent intervals moves a locked controller to HOLDOVER or an unlocked one back to FREE or ACQUIRING. -/
  | parentLost
  /-- HOLDOVER_EXPIRED (R307): After HOLDOVER_LIMIT in HOLDOVER the state becomes HOLDOVER_EXPIRED and TIME_LOST is raised. -/
  | holdoverExpired
  /-- TIME_SET (R305): On a Dome under FREE or PPS, TIME_SET names the time or the seconds of the next PPS edge, refused otherwise. -/
  | timeSet (secs : BitVec 48) (nanos : BitVec 32)
  /-- TIME_SOURCE_WRITE (R305): A write of TIME_SOURCE chooses the Dome's source, refused with CONFLICT on any other controller. -/
  | timeSourceWrite (v : BitVec 8)
  /-- PPS_IN_EDGE (R296): A PPS_IN rising edge is stamped into PPS_IN_STAMP and, on a PPS Dome, serves as the time source. -/
  | ppsInEdge
  /-- PPS_HOLDOVER (R306): A locked PPS Dome that receives no edge for 3 s enters HOLDOVER. -/
  | ppsHoldover
  /-- TRIGGER_SCHEDULE (R309): A TRIGGER write with an action names a tick and is checked and made pending. -/
  | triggerSchedule (j : BitVec 16) (trig : TriggerReq)
  /-- TRIGGER_CANCEL (R309): A TRIGGER write of ACTION 0 empties the entry, or answers NOENT for an empty one. -/
  | triggerCancel (j : BitVec 16)
  /-- SNAP_NOW (R312): Writing 1 requests a snapshot at the next tick. -/
  | snapNow (v : BitVec 8)
  /-- SNAP_IN_EDGE (R312): A rising SNAP_IN edge while enabled requests a snapshot at the first tick at least 20 ns later. -/
  | snapInEdge
  /-- REQUEST_RECEIVE (R326): A request is checked in order, executed item by item between two ticks, recorded in the window and answered. -/
  | requestReceive (req : ReqFrame)
  /-- REGISTER_WRITE (R327): A write item to an object without a row of its own is checked and applied as its table gives. -/
  | registerWrite (level : Fin 4) (obj : ObjRef) (v : ObjVal)
  /-- DESCRIBE (R322): A DESCRIBE item returns the object's type, access, privilege, size and selector range. -/
  | describe (obj : ObjRef)
  /-- DOMAIN_PART_WRITE (R330): A WRITE part with MORE set is held in the requester's assembly buffer; the last part writes the value whole. -/
  | domainPartWrite (src : BitVec 16) (level : Fin 4) (obj : ObjRef) (offset : Nat) (bytes : List Byte) (more : Bool)
  /-- ASSEMBLY_TIMEOUT (R330): Held DOMAIN parts are discarded after 1 s without a further part. -/
  | assemblyTimeout (src : BitVec 16)
  /-- WINDOW_FREE (R332): A requester window is freed after 10 s without a request. -/
  | windowFree (src : BitVec 16)
  /-- RIGHTS_WRITE (R334): A level-0 write of RANGE_RIGHTS, ADDR_RULE or BSPI_LEVEL is staged for the next tick. -/
  | rightsWrite (w : RightsWrite)
  /-- CHECKPOINT_SEND (R359): From tick c+1 the image is sent in CHECKPOINT chunk frames and a seal on the mate links. -/
  | checkpointSend
  /-- CHECKPOINT_RECEIVE (R360): A received chunk is stored in the non-resident buffer, abandoning an older reception or refused when poisoned. -/
  | checkpointReceive (chunk : ChunkMsg) (poison : Bool)
  /-- CHECKPOINT_SEAL (R360): A complete verified seal schedules the image to become resident, or raises BANK_MISMATCH and discards it. -/
  | checkpointSeal (msg : SealMsg)
  /-- IMAGE_RESIDENT (R360): At the next tick the image becomes resident, loads last codes and records, and IMAGE_ACK is sent. -/
  | imageResident
  /-- IMAGE_ACK (R366): A received IMAGE_ACK advances a pending YIELD to WITHDRAWING. -/
  | imageAck (imageCycle : Nat)
  /-- WORD_REQUEST (R361): A received WORD_REQUEST is answered with the element's checkpoint word within 1 ms, or STALE. -/
  | wordRequest (elem : BitVec 16) (sync : BitVec 32)
  /-- WORD_REPLY (R386): A received WORD_REPLY supplies the image word for a record rebuild. -/
  | wordReply (elem : BitVec 16) (status : Resp) (imageCycle : Nat) (word : WordSent)
  /-- MATE_HEALTH_SEND (R356): A unit sends MATE_HEALTH every 1,024 cycles and within 2 cycles of a change. -/
  | mateHealthSend
  /-- MATE_HEALTH_RECEIVE (R356): A received MATE_HEALTH updates MATE_REPORT. -/
  | mateHealthReceive (msg : MateHealthMsg)
  /-- MATE_SYNC_CAL_POINTS (R368): A received CAL_POINTS sync frame is applied once by R160 and acknowledged. -/
  | mateSyncCalPoints (sync : BitVec 32) (elem : BitVec 16) (points : List Byte) (poison : Bool)
  /-- MATE_SYNC_LABEL_COMMAND (R368): A received LABEL_COMMAND sync frame is applied once as a local command and acknowledged. -/
  | mateSyncLabelCommand (sync : BitVec 32) (cmd : LabelCmd) (poison : Bool)
  /-- MATE_SYNC_ACK (R368): A received ACK ends resending of the acknowledged sync frame. -/
  | mateSyncAck (sync : BitVec 32)
  /-- MATE_SYNC_RESEND (R368): An unacknowledged sync frame is resent every 10 ms, alternating mate links. -/
  | mateSyncResend (sync : BitVec 32)
  /-- MATE_SYNC_LOST (R368): After 1 s without ACK the sender raises MATE_SYNC_LOST and drops the frame. -/
  | mateSyncLost (sync : BitVec 32)
  /-- YIELD (R366): A YIELD of 1 on the ACTIVE unit takes an extra capture and withdraws after the mate's IMAGE_ACK. -/
  | yieldReq
  /-- YIELD_FORCED (R366): A YIELD of 2 withdraws from the next window without a capture. -/
  | yieldForced
  /-- YIELD_TIMEOUT (R366): No IMAGE_ACK within 64 cycles, or no mate win within 4 cycles of withdrawal, sets YIELD_STATE FAILED. -/
  | yieldTimeout
  /-- TOWER_DUTY_DISABLE (R367): A disable on a non-ACTIVE unit withdraws it at the next window and stops it; refused on the ACTIVE unit. -/
  | towerDutyDisable
  /-- TOWER_DUTY_ENABLE (R367): An enable restores standby duty, or sets RESTART_PENDING while stopping. -/
  | towerDutyEnable
  /-- CLAIM_LINE_CLEAR (R348): Writing 1 readmits FAULTY claim lines from the next window. -/
  | claimLineClear (v : BitVec 8)
  /-- CLAIM_LINE_MASK_WRITE (R370): A write excludes claim lines, refused with CONFLICT if it would exclude both. -/
  | claimLineMaskWrite (v : BitVec 8)
  /-- MEMORY_UE (R373): A read meeting an uncorrectable error sets the poison bit, counts UE_COUNT and raises MEM_UE. -/
  | memoryUe (addr : BitVec 24) (finder : Finder) (flips : List Nat)
  /-- CORRECTIVE_WRITEBACK (R374): A corrected word is written back within 64 ns unless a requester write cancels it. -/
  | correctiveWriteback (addr : BitVec 24)
  /-- MERGE_RETIRE (R375): A merge-buffer entry reads, merges and rewrites its word within 6 ns, poisoning it if found bad. -/
  | mergeRetire (flips : List Nat)
  /-- CE_LEAK (R379): Every CE_LEAK_INTERVAL the corrected-error bucket falls by 1; MEM_CE_RATE is raised above the threshold. -/
  | ceLeak
  /-- SCRUB_READ (R382): The Scrubber reads the next word of its range at SCRUB_RATE, correcting or poisoning it and ending the pass with SCRUB_DONE. -/
  | scrubRead (flips : List Nat)
  /-- BANK_STORE_SCRUB_READ (R382): The Circuit Tables read the next word of region 8 at 4,096 words per ms as a finder. -/
  | bankStoreScrubRead (flips : List Nat)
  /-- SCRUB_START (R385): A start begins a scrub pass from START, refused while running or under SCRUB_AUTO. -/
  | scrubStart
  /-- SCRUB_STOP (R385): A stop ends the pass after the word in progress with STATUS STOPPED. -/
  | scrubStop
  /-- SCRUB_AUTO_PASS (R382): While SCRUB_AUTO is 1 firmware starts a pass over the whole map whenever the Scrubber is STOPPED. -/
  | scrubAutoPass
  /-- RECORD_REBUILD (R386): Within 20 ms of MEM_UE in region 0 firmware rewrites the record from image and settings copy and raises RECORD_REBUILT. -/
  | recordRebuild (elem : BitVec 15) (settingsOk : Bool)
  /-- WINDOW_MODE_WRITE (R377): A change of WINDOW_MODE clears the compatibility window within 100 µs. -/
  | windowModeWrite (v : BitVec 8)
  /-- COMPAT_LOAD (R378): Writing 1 converts the VR2-8K image in the window into a map and settings and applies them. -/
  | compatLoad (v : BitVec 8)
  /-- REPAIR_ROW (R388): A host repair request copies the row to a spare and maps it, or is refused. -/
  | repairRow (mac : BitVec 8) (row : BitVec 16)
  /-- REPAIR_AUTO (R388): Under REPAIR_AUTO a repair candidate is copied to a spare row and mapped, raising REPAIR_MAPPED. -/
  | repairAuto (mac : Fin 152) (row : Fin 1024)
  /-- REPAIR_FUSE_DONE (R388): The field fuse entry is programmed and read back, and REPAIR_DONE is raised. -/
  | repairFuseDone
  /-- CORE_DATA_ABORT (R381): A core loading poisoned data aborts; the request item answers POISONED or the core halts. -/
  | coreDataAbort (addr : BitVec 24) (inRequest : Bool)
  /-- HEARTBEAT_MISSING (R344): A halted core or a heartbeat missing for 2 ms caps HEALTH at 3 and raises CORE_HALTED. -/
  | heartbeatMissing (halted : Bool)
  /-- DEVICE_RESTART (R397): Writing 1 clears a device fault unless a declared cause persists. -/
  | deviceRestart (v : BitVec 8)
  /-- REFCLK_LOSS (R396): Loss of REFCLK_A moves the timebase to REFCLK_B within 1 µs; loss of both is a device fault. -/
  | refclkLoss (which : Bool)
  /-- EVENT_SUMMARY (R400): At the end of each 1,024-cycle run a SUMMARY record is posted for each code that was suppressed. -/
  | eventSummary
  /-- EVENT_SEND (R401): Posted records are sent in EVENT frames to EVENT_DEST within 1 ms. -/
  | eventSend
  /-- FAULT_LOG_COPY (R402): Firmware copies each ERROR or FATAL record into the flash fault log within 100 ms. -/
  | faultLogCopy
  /-- EVENT_READ_INDEX_WRITE (R400): Advancing EVENT_READ_INDEX frees records and may release IRQ_N; refused outside the span. -/
  | eventReadIndexWrite (v : BitVec 16)
  /-- FAULT_LOG_CLEAR (R402): A level-0 write of 1 erases the fault log and is answered when the erasure completes. -/
  | faultLogClear (v : BitVec 8)
  /-- FAULT_ACK (R403): Writing 1 acknowledges earlier FATAL records and releases FAULT_N unless a cause persists. -/
  | faultAck (v : BitVec 8)
  /-- DIE_SENSOR_SAMPLE (R409): At each sample the die sensors are read, broken sensors judged and THERMAL_STATE updated. -/
  | dieSensorSample (readings : List (Option Int))
  /-- THERMAL_RESTART (R412): Writing 1 after shutdown restarts the pumps and analogue stages into standby, unless refused. -/
  | thermalRestart (v : BitVec 8)
  /-- RAIL_OUT_OF_RANGE (R415): A rail leaving its operating range for 2 µs raises RAIL_OUT_OF_RANGE and sets RAIL_STATE. -/
  | railOutOfRange (rail : Fin 6)
  /-- RAIL_FAULT (R415): A rail passing its fault limit for 2 µs declares device fault 4 and raises RAIL_FAULT. -/
  | railFault (rail : Fin 6)
  /-- RAIL_RECOVERED (R415): RAIL_STATE returns to OK after 1 ms within the operating range. -/
  | railRecovered (rail : Fin 6)
  /-- PUMP_FAULT (R418): A pump past its fault level in 2 consecutive checks sets PUMP_STATE FAULT and raises PUMP_FAULT. -/
  | pumpFault (pump : Fin 2)
  /-- PUMP_RESTART (R418): A faulted pump restarts once after 100 µs. -/
  | pumpRestart (pump : Fin 2)
  /-- RESET_ASSERT (R423): RESET_N low puts every pin in its reset state. -/
  | resetAssert
  /-- RESET_RELEASE (R424): RESET_N rising latches the straps, clears the SRAM and starts the boot ROM. -/
  | resetRelease (straps : BitVec 16)
  /-- BOOT (R428): The boot ROM verifies the firmware slots and starts the first bootable image, or enters RECOVERY. -/
  | boot
  /-- FIRMWARE_START (R8): Firmware checks the revision, clears HEALTH_CAUSES [18], writes TOWER_DUTY 0 and begins its start mode. -/
  | firmwareStart
  /-- START_COMPLETE (R433): The start completes, restoring saved state or falling back to CALIBRATION, and START_RESULT reads DONE. -/
  | startComplete
  /-- SAVED_DUTY_RESTORE (R433): In SAVED mode firmware writes the saved TOWER_DUTY at the first tick with TIME_STATE LOCKED. -/
  | savedDutyRestore
  /-- SAVED_STATE_WRITE (R432): Firmware writes a change or commit into the alternate saved-state copy within 1 s. -/
  | savedStateWrite
  /-- FIRMWARE_BLOCK (R430): A block write is programmed into the target firmware slot. -/
  | firmwareBlock (block : BitVec 16) (bytes : List Byte)
  /-- FIRMWARE_APPLY (R430): Writing 1 checks the target slot and makes it preferred, resetting in RECOVERY. -/
  | firmwareApply (v : BitVec 8)
  /-- SECURITY_VERSION_COMMIT (R430): Writing 1 blows the security version fuses to the running image's version, refused unless the guarantee holds. -/
  | securityVersionCommit (v : BitVec 8)
  /-- DEVICE_RESET (R431): Writing 1 resets the controller, refused while ACTIVE. -/
  | deviceReset (v : BitVec 8)
  /-- OWNER_KEY_INSTALL (R436): A write installs the owner key and blows the next owner slot, refused if a slot image would not verify. -/
  | ownerKeyInstall (key : List Byte)
  /-- ATTEST_NONCE (R439): A nonce write builds and signs an attestation report within 50 ms. -/
  | attestNonce (nonce : List Byte)
  /-- SAVED_STATE_ERASE (R441): Writing 1 erases both saved-state copies. -/
  | savedStateErase (v : BitVec 8)
  /-- REJOIN (R435): Writing 1 starts reading the mate's current bank over the network, refused when ACTIVE, mateless or map-different. -/
  | rejoin (v : BitVec 8)
  /-- REJOIN_COMPLETE (R435): At equal generations firmware writes both banks from the mate's data and REJOIN_STATE ends DONE or FAILED. -/
  | rejoinComplete (data : RejoinData)
  /-- BLOCK_LOCK_GAINED (R261): A lane's PCS gains block lock, moving the lane from DOWN to LOCKED so that HELLO reception can bring it UP. -/
  | blockLockGained (lane : Fin 96)
  /-- PUMP_REGULATING (R417): A charge pump that was started reaches regulation within 200 µs, moving PUMP_STATE from STARTING to REGULATING and RAIL_STATE of VRH or VRL to OK. -/
  | pumpRegulating (pump : Fin 2)
  /-- TIMEBASE_PLL_UNLOCK (R396): The timebase PLL stays unlocked for more than 1 µs, which is declared as device fault 3. -/
  | timebasePllUnlock
  /-- ENUM_ASSIGN_TIMEOUT (R264): When (8 − DEPTH) × 25 ms pass in the assignment pass, or (63 − DEPTH) × 25 ms on a chain, without every child answering, the controller answers ASSIGN_DONE anyway. -/
  | enumAssignTimeout
deriving DecidableEq, Repr

end Sys2Proof
end

