-- ==== Sys2Proof/Decode.lean ====
section
/-! DEFINITION. The command a table word spells: no row of the table of operations and events gives bits. -/

namespace Sys2Proof

/-- The command spelled by a word of nbits bits: the table gives no row any bits, so there is none. -/
def decodeTableWord (_nbits _w : Nat) : Option Instr := none

end Sys2Proof
end

