-- ==== Sys2Proof/Config.lean ====
section
/-! DEFINITION. What one implementation, one device or one firmware release fixes and the manual does not state.
Every constant here is opaque: nothing in Lean can evaluate it, so a claim holds whatever its value is.
Free values are these constants applied to their operands, or to State.free (log entry 4). -/

namespace Sys2Proof.Config

/-- CODE[7:0] of the event number n of the model's own list: assigned by each firmware release (R399). -/
opaque eventLow : Nat → BitVec 8

/-- Severity (0 to 3) of the event number n where no rule gives it: EVENT_INFO of the firmware release (R399). -/
opaque eventSeverity : Nat → BitVec 2

/-- The running mean of a label channel after one more sample: a first-order filter of 4 ms whose arithmetic
R234 does not state. Operands: the mean before, the sample, the cycle period in ns. -/
opaque meanFilter : Int → Int → Nat → Int

/-- Zone temperature in 0.01 degree C that a sensor's conversions give: R39 states the beta law and bounds the error around it.
Operands: sum of the last conversions, their count, nominal resistance, beta. -/
opaque zoneTemp : Nat → Nat → Nat → Nat → BitVec 16

/-- ADDEND the servo of firmware chooses (R293, R302). Operands: ADDEND before, offset, path delay (0.01 ns), a fresh number. -/
opaque servoAddend : Nat → Int → Int → Nat → Nat

/-- OFFSET_LAST (0) and PATH_DELAY (1) in 0.01 ns (R314) where the 32 bits of the object cannot hold the value. -/
opaque wideTime : Nat → Int → BitVec 32

/-- ADDEND by which the servo holds the offset constant in LOCK_PENDING (R304). -/
opaque holdAddend : Nat → Int → Nat → Nat

/-- Arccosine of a sweep's fit (R176): where between two neighbouring entries of the sine table a phase lies; the arithmetic is not stated. Operands:
the normalised response and its denominator. -/
opaque sweepFine : Int → Int → Nat

/-- Side of its extreme on which the unwrapping of a sweep puts a point (R176): how it tells the turn from noise is not stated.
Operands: the averaged points, and the point's place among them. -/
opaque sweepFalling : List (Nat × Int) → Nat → Bool

/-- Least-squares fit of points whose phases do not determine one. -/
opaque sweepFit : List (Int × Int) → Int × Int × Int

/-- VISIBILITY, RESIDUAL and RESP_RATIO of a sweep (R178), by which of them, where no quotient exists or it fits no U16. -/
opaque sweepWide : Nat → Int → Int → BitVec 16

/-- Which of its two neighbouring units the measured slope s of R181 is rounded to. Operands: accumulator, updates, amplitude,
visibility. -/
opaque slopeUp : Int → Nat → Nat → Nat → Bool

/-- Measured slope s of R181, in units of 2^-20 LSB per phase unit, of an accumulator that is not above 0. Operands as above. -/
opaque measuredSlope : Int → Nat → Nat → Nat → Int

/-- M_REF after a transfer of an ATTEN element whose measurement lies outside 0 to 65,535 (R133): the field has 16 bits (R107). -/
opaque wideRef : Int → BitVec 16

/-- INTEG after a preset or a clamp (R116, R133, R134) whose value its 32 bits (R107) cannot hold. -/
opaque wideInteg : Int → BitVec 32

/-- Whether a quotient whose rounding no rule states goes up to the next whole number. Operands: dividend and divisor. -/
opaque roundUp : Int → Int → Bool

/-- TP of a sweep at a zone temperature that no TP names (R176): one outside -20 to 106 degrees. -/
opaque tempCode : Int → Nat

/-- The fabric-map image and the record settings that firmware makes of a VR2-8K image (R378): the format is not in the manual. -/
opaque compatImage : List Byte → Option (List Byte)

/-- The record settings made of a VR2-8K image (R378): element, field number, value. -/
opaque compatSettings : List Byte → List (Nat × Nat × Int)

/-- The private identity key (R438), and the signing engine's own secret numbers: by signature and try. -/
opaque identitySecret : Nat
opaque signNonce : Nat → Nat → Nat

/-- The private keys of Loiviar's device CA and of its root, and what they put into a certificate beside what R438 states: serial
number, issuer, validity and extensions in DER, and the numbers their signatures drew. By certificate: 0 the device's, 1 the CA's. -/
opaque caSecret : Nat
opaque rootSecret : Nat
opaque certNumber : Nat → List Byte
opaque certName : Nat → List Byte
opaque certValidity : Nat → List Byte
opaque certExtensions : Nat → List Byte
opaque certNonce : Nat → Nat → Nat

/-- SERIAL_NUMBER, 16 bytes (R339): per device. -/
opaque serialNumber : Nat → Byte

/-- Loiviar's firmware key, the one whose SHA-384 is in the vendor fuse (R428). -/
opaque vendorKey : List Byte

/-- The owner record as bytes (R426): its parts' places in the 64 KiB are not stated. Operands: key, slot, counters. -/
opaque ownerRecord : List Byte → Nat → List (BitVec 64) → List Byte

/-- BOOT_ROM_VERSION (R339): per device. -/
opaque bootRomVersion : BitVec 32

/-- Spare rows (0 to 3) of a macro that the factory fuse map has used (R387): per device. -/
opaque factorySpares : Nat → List Nat

/-- SPARE_LOAD_RATIO (R46) where its 16 bits cannot hold the ratio, or the group's mean is 0. Operands: the spare's load, the sum
of the group's 32. -/
opaque spareRatio : Nat → Nat → BitVec 16

/-- Code of a driver that the Calibration Unit feeds outside the time line of R168 (R91). Operand: the driver. -/
opaque calCode : Nat → BitVec 14

/-- Code at which a driver's gain trim leaves its output unmoved: R86 gives the trim's size, not its pivot. -/
opaque gainPivot : Nat

/-- Load of a column in 0.01 pF as a LOAD_MEASURE asked for over the dictionary finds it (R46): the array's own.
Operands: a fresh number; the drive column, or 264 plus the monitor column. -/
opaque columnLoad : Nat → Nat → BitVec 16

/-- TYPE of a response item that no rule gives a type (R324): one that carries no value, or the answer to a DESCRIBE.
Operand: the item's response code, or 16 for a DESCRIBE. -/
opaque openType : Nat → BitVec 8

/-- WINDOW_HIGH of a response to a requester without a window (R324). Operand: its address. -/
opaque noWindowHigh : Nat → BitVec 16

/-- A fresh free value for what is open at one moment and nothing else names (log entry 4). -/
opaque fresh : Nat → Nat

end Sys2Proof.Config
end

