-- ==== Sys2Proof/Machine/State.lean ====
section
/-! DEFINITION. The state of the VR3-32K: plain data, every register and every piece of state the spec gives the part.
Dev is the device; State adds the queue of waiting commands. Settings (RW and RWI objects, R318) stand in Cfg.
A Tab is a sparse table over unit numbers, keyed by the selector of its object; its reading of an absent key is said
in the field's comment (0 where nothing is said). -/

namespace Sys2Proof.Machine

/-! ## Times and events -/

/-- A TIME (R317): seconds and nanoseconds. -/
structure Time where
  secs : Nat := 0
  nanos : Nat := 0
deriving DecidableEq, Repr

/-- The event names of the manual (R399), each with the block that raises it. -/
inductive EventName where
  -- 0x1000 identity, 0xC000 boot
  | unsupportedRevision | firmwareSlotBad
  -- 0x20 cycle and clock
  | tickWindowClipped | timeStepWaiting | timeLocked | timeHoldover | timeLost
  -- 0x21 triggers and snapshot
  | triggerFailed | snapshotTaken | snapshotSkipped
  -- 0x30 links, 0x31 addressing
  | linkUp | linkDown | wiringFault | planeBMismatch | addressChanged | enumDone | enumChildExcluded | enumNoSpace
  -- 0x40 array interface
  | columnLoadHigh | spareLoadRatio | zoneSensorFault | mateMissing
  -- 0x41 readout
  | monitorOverrange | converterTimeout | auxRefFault
  -- 0x42 drive
  | columnContention | outputContention | columnLineFault | rowDriveFault | lateDriveCode | poisonedDriveCode | lastCodeLost
  -- 0x50 loop engine
  | residueMismatch | laneFenced | laneSelftestFail | checkerFail | elementFault | elementDark | elementLit
  -- 0x53 calibration
  | calPoisoned | calDrift | columnCalFail | calColumnSkipped | sweepForcedOnCircuit | refitLimited
  -- 0x61, 0x62, 0x63 reconfiguration
  | solveDone | commitMissed | commitDone | commitElementNotAuto | bankMismatch | misconnect | labelLost | verifyDone
  -- 0x70 labels
  | labelPairSuspended | learnQueueOverflow
  -- 0x80 memory
  | memUe | memCeRate | memPoisonConsumed | scrubDone | recordRebuilt | rebuildFailed | hardError | repairCandidate
  | repairMapped | repairDone | repairExhausted
  -- 0x90 tower
  | takeover | claimLineFault | towerUndriven | mateLinksLost | readinessChanged | standbySelftestFail
  | yieldFailed | mateSyncLost | coreHalted
  -- 0xA0 thermal, 0xA1 supplies
  | thermalNormal | thermalWarning | thermalThrottle | thermalShutdown | dieSensorFault | zoneTempHigh
  | railOutOfRange | railFault | pumpFault
  -- 0xB0 faults
  | deviceFaultDeclared | guaranteeLost | guaranteeRestored | refclkFail
deriving DecidableEq, Repr

/-- An event record as posted (R398): its low code byte and severity come from Config where the manual gives none (R399). -/
structure EventRec where
  seq : BitVec 32
  at_ : Time
  ev : EventName
  locked : Bool
  faultN : Bool
  summary : Bool
  source : BitVec 16
  args : List Nat
deriving DecidableEq, Repr

/-- The event queue, the fault log and the fault pins (R396 to R405). -/
structure Events where
  /-- EVENT_RECORD, by ring position (R398) -/
  ring : List (Nat × EventRec) := []
  writeIndex : BitVec 16 := 0
  dropped : BitVec 32 := 0
  /-- events posted since reset, for SEQUENCE [23:0] -/
  posted : BitVec 24 := 0
  bootCount : BitVec 32 := 0
  /-- records of each code posted and suppressed in the present run of 1,024 cycles (R400) -/
  counts : List (EventName × Nat × Nat) := []
  /-- number of the present run, and the codes suppressed in runs that have ended, whose SUMMARY records are still to be posted (R400) -/
  run : Nat := 0
  ended : List (EventName × Nat) := []
  /-- records waiting for an EVENT frame (R401) -/
  toSend : List EventRec := []
  /-- ERROR and FATAL records waiting for the fault log (R402) -/
  toLog : List EventRec := []
  /-- FATAL records not acknowledged (R403) -/
  unacked : Nat := 0
  /-- DEVICE_FAULT (R396), and every cause declared since it was last cleared (R397) -/
  deviceFault : Nat := 0
  declared : List Nat := []
  refA : Bool := true
  refB : Bool := true
  pllLocked : Bool := true
  /-- the timebase runs on REFCLK_B -/
  onRefB : Bool := false
  /-- GUARANTEE_STATE (R392) -/
  guarantee : BitVec 16 := 0x001F
deriving DecidableEq, Repr

structure EventCfg where
  readIndex : BitVec 16 := 0
  dest : BitVec 16 := 0
  irqLevel : Nat := 1
  suppressLimit : Nat := 64
deriving DecidableEq, Repr

/-! ## Belfry (R292 to R315) -/

inductive TimeState where
  | free | acquiring | lockPending | locked | holdover | expired
deriving DecidableEq, Repr

/-- The last TIME_SYNC heard on an uplink (R300, R302). -/
structure SyncHeard where
  state : Nat
  steps : Nat
  root : BitVec 16
  syncLog2 : Int
  /-- local time (`Belfry.up`) of its receipt -/
  at_ : Nat
  /-- local time of the last TIME_SYNC of that lane whose sender was in LOCKED or HOLDOVER (R307) -/
  goodAt : Option Nat
  /-- t1 and t2 are on the clock's present time: not those of before its step -/
  stamped : Bool
  t1 : Nat
  t2 : Nat
deriving DecidableEq, Repr

/-- A TRIGGER entry (R309); the state is EMPTY, PENDING, DONE or FAILED. -/
inductive TriggerState where
  | empty | pending | done | failed
deriving DecidableEq, Repr

structure Trigger where
  at_ : Time := {}
  action : Nat := 0
  state : TriggerState := .empty
deriving DecidableEq, Repr

structure Belfry where
  secs : Nat := 0
  nanos : Nat := 0
  frac : BitVec 32 := 0
  addend : BitVec 36 := 0x100000000
  /-- total time of the tick that began the present cycle -/
  lastTick : Nat := 0
  /-- total time of the tick before that one -/
  prevTick : Nat := 0
  /-- total time of the next tick: a stretch cycle makes it later than one period (R304) -/
  nextTick : Nat := 4000
  state : TimeState := .free
  stepped : Bool := false
  /-- TIME_STEP_WAITING has been raised for this entry to LOCK_PENDING -/
  waitRaised : Bool := false
  /-- offset that the single step of a Dome under PPS removes, in ns (R306) -/
  stepBy : Option Int := none
  /-- TIME_SET of a Dome under FREE that waits for the step (R305) -/
  setTo : Option Time := none
  /-- seconds that the next PPS_IN edge stands for (R305) -/
  ppsSeconds : Option Nat := none
  ppsStamp : Time := {}
  ppsLast : Option Nat := none
  ppsGood : Nat := 0
  /-- TIME_SYNC heard on SL0 and SL1 -/
  syncA : Option SyncHeard := none
  syncB : Option SyncHeard := none
  parentLane : Option Nat := none
  parentAddr : BitVec 16 := 0
  switches : BitVec 32 := 0
  /-- the DELAY_REQ in flight: SEQ and its transmit time -/
  delayReq : Option (BitVec 16 × Nat) := none
  /-- the latest answered exchange: t3 and t4 -/
  exchange : Option (Nat × Nat) := none
  /-- path delays of the consecutive exchanges that qualify, newest first, in 0.01 ns -/
  delays : List Int := []
  /-- consecutive syncs within 10 ns -/
  inLock : Nat := 0
  offsetLast : Int := 0
  pathDelay : Int := 0
  holdoverAt : Nat := 0
  /-- a lost source has not been locked to again, and ADDEND as the loss froze it (R306, R307) -/
  recover : Bool := false
  held : BitVec 36 := 0x100000000
  /-- total times up to which TICK_OUT is high -/
  tickOutUntil : Nat := 0
  triggers : Tab Trigger := []
  snapNow : Bool := false
  /-- local time (`up`) of the SNAP_IN edge that waits for its tick -/
  snapIn : Option Nat := none
  snapSeq : BitVec 32 := 0
  snapTick : Time := {}
  snapCause : BitVec 8 := 0
  snapSkipped : BitVec 32 := 0
  /-- nanoseconds since reset on the local clock, the single step apart: UPTIME and every duration -/
  up : Nat := 0
deriving DecidableEq, Repr

structure TimeCfg where
  source : Nat := 0
  syncLog2 : Int := -4
  delayReqLog2 : Int := -2
  holdoverLimit : Nat := 1000
  /-- ASYM_TRIM by lane, in 0.1 ns -/
  asymTrim : Tab Int := []
  tickOutDiv : Nat := 0
  snapInEnable : Bool := false
  snapLock : Bool := false
deriving DecidableEq, Repr

/-! ## Memory (R371 to R390) -/

/-- An entry of the merge buffer (R375): a word and the bytes to be merged into it. -/
structure MergeEntry where
  word : Nat
  bytes : List Host.Cell
  finder : Finder
  /-- the write answers a host write -/
  host : Bool
deriving DecidableEq, Repr

structure Mem where
  /-- bytes by address, canonical; an unlisted byte reads 0 (R372) -/
  cells : List Host.Cell := []
  /-- addresses of the words whose poison bit is set, rising -/
  poison : Tab Bool := []
  /-- addresses of the bytes of the PER_BYTE window whose poison is set, rising -/
  bytePoison : Tab Bool := []
  merge : List MergeEntry := []
  /-- corrective write-backs not yet carried out: address and syndrome (R374); the word already reads corrected -/
  writebacks : List (Nat × Nat) := []
  /-- words whose poison the present command's full-word writes cleared: `Dev.mem` hands them on with the time (R387) -/
  cleared : List Nat := []
deriving DecidableEq, Repr

inductive RunState where
  | stopped | running | stopping | restartPending
deriving DecidableEq, Repr

/-- SCRUB_SUMMARY (R384). -/
structure ScrubSummary where
  start : Nat := 0
  stop : Nat := 0
  read : Nat := 0
  corrected : Nat := 0
  uncorrectable : Nat := 0
  poisonSeen : Nat := 0
  firstFail : Nat := 0
  lastFail : Nat := 0
  /-- 0 NONE, 1 RUNNING, 2 DONE, 3 STOPPED -/
  status : Nat := 0
  finish : Time := {}
deriving DecidableEq, Repr

/-- LAST_ERROR (R390). -/
structure LastError where
  addr : Nat := 0
  kind : Nat := 0
  finder : Nat := 0
  syndrome : Nat := 0
  cycle : Nat := 0
deriving DecidableEq, Repr

/-- A repair under way (R388). -/
structure Repair where
  mac : Nat
  row : Nat
  spare : Nat
  entry : Nat
deriving DecidableEq, Repr

structure Memory where
  /-- CE_COUNT, UE_COUNT, CE_BUCKET and the raised flag of R379 by region -/
  ce : Tab (BitVec 32) := []
  ue : Tab (BitVec 32) := []
  bucket : Tab Nat := []
  ceRaised : Tab Bool := []
  lastError : LastError := {}
  rebuilds : BitVec 32 := 0
  scrubState : RunState := .stopped
  scrub : ScrubSummary := {}
  /-- next word of the pass (R382) -/
  scrubNext : Nat := 0
  /-- next word of the Circuit Tables' pass -/
  bankNext : Nat := 0xA00000
  /-- corrected errors written back: address, syndrome, time (R387) -/
  corrected : List (Nat × Nat × Nat) := []
  /-- words whose poison a full-word write cleared: address, time (R387) -/
  cleared : List (Nat × Nat) := []
  /-- the table of 64 rows, oldest first: macro, row, hard errors, candidate (R387) -/
  hardRows : List (Nat × Nat × Nat × Bool) := []
  /-- soft mappings: macro, row, spare (R388) -/
  softMap : List (Nat × Nat × Nat) := []
  /-- field fuse entries by number (R389) -/
  fuses : Tab (BitVec 32) := []
  repairs : List Repair := []
  /-- COMPAT_STATUS (R378) -/
  compat : Nat × Nat × Nat := (0, 0, 0)
  /-- elements whose record waits for a rebuild, with the image word received (R386) -/
  rebuild : List (Nat × Option (BitVec 64)) := []
deriving DecidableEq, Repr

structure MemCfg where
  /-- CE_THRESHOLD by region; absent reads 64 -/
  ceThreshold : Tab Nat := []
  ceLeakInterval : Nat := 100
  scrubStart : Nat := 0
  scrubEnd : Nat := 0x97FFF8
  scrubRate : Nat := 4096
  scrubControl : Nat := 0
  scrubAuto : Bool := true
  windowMode : Nat := 0
  repairAuto : Bool := false
  repairThreshold : Nat := 2
deriving DecidableEq, Repr

/-! ## Array Interface (R23 to R46) -/

inductive OutputState where
  | highZ | driving | highZFault
deriving DecidableEq, Repr

structure ArrayIf where
  outputState : OutputState := .highZ
  columnLoad : Tab Nat := []
  mcolumnLoad : Tab Nat := []
  spareRatio : Tab Nat := []
  /-- ZONE_TEMP, in use (0.01 degree C), and the zone's own last good temperature -/
  zoneTemp : Tab Int := []
  zoneOwn : Tab Int := []
  /-- ZONE_STATUS: 0 OK, 1 OPEN, 2 SHORT -/
  zoneStatus : Tab Nat := []
  /-- last good conversions, newest first, at most 4 -/
  zoneConv : Tab (List Nat) := []
  /-- consecutive good conversions of a faulted zone (R40) -/
  zoneGood : Tab Nat := []
  /-- local time (`Belfry.up`) of the last mate HELLO or MATE_MISSING, or of TOWER_WIRED 1 coming into force (R44) -/
  mateHeard : Nat := 0
  /-- TOWER_WIRED in force until the next tick after a write (R44) -/
  wiredOn : Bool := false
deriving DecidableEq, Repr

structure ArrayCfg where
  dcolEnable : BitVec 256 := BitVec.allOnes 256
  mcolEnable : BitVec 256 := BitVec.allOnes 256
  towerWired : Bool := false
  /-- ZONE_NOM_RES and ZONE_BETA by zone; absent reads 10,000 and 3,435 -/
  nomRes : Tab Nat := []
  beta : Tab Nat := []
  /-- ZONE_FALLBACK by zone, written values -/
  fallback : List (Nat × Nat) := []
deriving DecidableEq, Repr

/-! ## The cycle (R47 to R62) -/

/-- A cycle configuration: P in ns, R, I and the slot-length setting (R47 to R49). -/
structure CycleConf where
  period : Nat := 4000
  rows : Nat := 128
  idle : Nat := 0
  slotLen : Nat := 0
deriving DecidableEq, Repr

structure Cycle where
  /-- the configuration in force -/
  conf : CycleConf := {}
  /-- the accepted one that waits for its common tick (R51) -/
  next : Option CycleConf := none
  /-- the configuration came into force at the present cycle's tick, and its consequences (R55, R56) are still to be drawn -/
  changed : Bool := false
  /-- TICK_WINDOW in force -/
  windowOn : Nat := 800
  /-- the tick window is open on every link (R56) -/
  windowOpen : Bool := false
  /-- the next slot of the present cycle -/
  slot : Nat := 0
  /-- ticks since reset: extents counted in cycles are kept on it -/
  ticks : Nat := 0
  /-- changed rows at the head of the present cycle's drive scan (R57) -/
  scan : List Nat := []
  /-- changed rows at the head of the next cycle's drive scan, from the arming point (R58) -/
  nextScan : List Nat := []
  lastChanged : Nat := 0
  /-- elements at half rate (R61) -/
  halfRate : Tab Bool := []
deriving DecidableEq, Repr

structure CycleCfg where
  staged : CycleConf := {}
  tickWindow : Nat := 800
deriving DecidableEq, Repr

/-! ## Monitor Readout (R63 to R84) -/

inductive ReadoutState where
  | run | standby | off
deriving DecidableEq, Repr

/-- A stored sample of a site: value in q, flags of R84, from when it is usable, the mark of its accumulator's word (R71). -/
structure Sample where
  value : Int := 0
  flags : BitVec 8 := 0
  /-- tick count and slot from which it is usable (R14, R54) -/
  fromTick : Nat := 0
  fromSlot : Nat := 0
  /-- its site's word is poisoned (R71, R112): a reader of the sample finds the mark, the store itself keeps none -/
  poison : Bool := false
deriving DecidableEq, Repr

/-- A conversion under way (R53, R67). -/
structure Conversion where
  col : Nat
  convB : Bool
  chain : Nat
  site : Nat
  slot : Nat
  tick : Nat
  cycle : Nat
  /-- network time of the tick of its cycle (R234) -/
  start : Nat := 0
  /-- tick count and slot from which its sample is usable (R14, R54): four slots on, as slots are counted in the cycle of the
  read -/
  fromTick : Nat
  fromSlot : Nat
  gain : Nat
  spare : Bool
  invalid : Bool
  /-- CONV_OFFSET, CONV_GAIN and DARK in force at the read (R69) -/
  offset : Int
  cgain : Nat
  dark : Int
deriving DecidableEq, Repr

/-- An injected-conversion entry (R76). -/
structure InjectEntry where
  site : Nat
  count : Nat
  tag : BitVec 8
  start : Nat
  stored : Nat
  /-- cycle number up to which its cycles have been captured -/
  nextCycle : Nat
  /-- number of its acceptance: the request's item waits for it (R328) -/
  id : Nat
deriving DecidableEq, Repr

structure Readout where
  state : ReadoutState := .run
  leftOff : Bool := false
  /-- a restart after shutdown takes it from OFF to STANDBY at the next tick (R83, R412) -/
  restartDue : Bool := false
  /-- values still in force until the next tick after a write (R66): gain, AVG_LOG2, DARK, CONV_OFFSET, CONV_GAIN, SKEW_TRIM -/
  oldGain : List (Nat × Nat) := []
  oldAvg : List (Nat × Nat) := []
  oldDark : List (Nat × Int) := []
  oldOffset : List (Nat × Int) := []
  oldCGain : List (Nat × Nat) := []
  oldSkew : List (Nat × Int) := []
  oldTdac : Option (Nat × Nat × Nat) := none
  /-- latest stored sample of each site, and the one before it -/
  samples : Tab Sample := []
  before : Tab Sample := []
  invalidCount : Tab (BitVec 32) := []
  overCount : Tab (BitVec 32) := []
  /-- run of 1,024 cycles of the last MONITOR_OVERRANGE of a column, plus 1 -/
  overRun : Tab Nat := []
  /-- tick counts before which samples of a column, a site or all sites are INVALID (R73) -/
  invCol : Tab Nat := []
  invSite : Tab Nat := []
  invAll : Nat := 0
  /-- averaging fill: samples entered and N (R72) -/
  fill : Tab (Nat × Nat) := []
  /-- accumulators preset after poison, waiting for the word's other site (R71) -/
  preset : List (Nat × Int) := []
  conversions : List Conversion := []
  injects : List InjectEntry := []
  injectNext : Nat := 0
  injectRing : List (Nat × List Byte) := []
  injectIndex : BitVec 16 := 0
  auxPos : Nat := 0
  auxRaw : Tab Nat := []
  auxRefBad : Nat := 0
  auxHeld : Bool := false
  /-- zone temperatures at the end of the last good pass (R82) -/
  auxGood : Tab Int := []
deriving DecidableEq, Repr

structure ReadoutCfg where
  gain : Tab Nat := []
  avgLog2 : Tab Nat := []
  /-- CONV_OFFSET and CONV_GAIN by chain converter; absent reads 256 and 0x4000 -/
  convOffset : Tab Int := []
  convGain : Tab Nat := []
  skewTrim : Tab Int := []
  tdacRoute : Nat := 0
  tdacGroup : Nat := 0
  tdacCode : Nat := 0
deriving DecidableEq, Repr

/-! ## Column Drive (R85 to R103) -/

/-- The settings of a tone generator (R100, R101). -/
structure Tone where
  ftw : BitVec 32 := 0
  phase : BitVec 32 := 0
  amplitude : Nat := 0
  enable : Bool := false
deriving DecidableEq, Repr

structure Drive where
  /-- code queues by 128 * column + slot: POISON, WRITTEN, CODE (R87) -/
  active : Tab (BitVec 16) := []
  fill : Tab (BitVec 16) := []
  /-- last codes by drive site; an absent site holds lastFill (R90) -/
  lastCode : List (Nat × Nat) := []
  lastFill : Nat := 0
  lastRepairs : BitVec 32 := 0
  contentionCount : Tab (BitVec 32) := []
  lateCount : Tab (BitVec 32) := []
  poisonCount : Tab (BitVec 32) := []
  /-- row that the last enabled slot wrote since the outputs were enabled: each driving column still holds its code (R35) -/
  lastRow : Option Nat := none
  /-- columns whose queue writes reach the Column Drive after the next tick (R89) -/
  late : List Nat := []
  /-- columns flagged in the last enabled slot, and declared in the present cycle (R94) -/
  flagged : List Nat := []
  declared : List Nat := []
  /-- OUTPUT_CONTENTION is declared for the next tick (R96) -/
  rowContention : Bool := false
  /-- data column that the spare of a group stands in for -/
  standIn : List (Nat × Nat) := []
  /-- groups whose spare is in permanent duty, failed spares (R38, R170) -/
  permanent : Tab Bool := []
  spareFailed : Tab Bool := []
  failedDriver : Tab Bool := []
  failedChain : Tab Bool := []
  /-- columns held at high impedance (R95) -/
  heldHighZ : Tab Bool := []
  rowFault : BitVec 256 := 0
  /-- lines that failed each check in the last cycle and in this one (R96) -/
  rowLow0 : List Nat := []
  rowHigh0 : List Nat := []
  rowLow1 : List Nat := []
  rowHigh1 : List Nat := []
  /-- GROUP_STATE (R98); absent reads running -/
  groupState : Tab RunState := []
  /-- ticks since STOPPING began -/
  groupTicks : Tab Nat := []
  /-- GROUP_CONTROL written for the next tick -/
  groupDue : List (Nat × Nat) := []
  toneAcc : Tab (BitVec 32) := []
  /-- phase index of cycles N, N-1 and N-2 of a generator; none while disabled (R101) -/
  toneIdx : Tab (List (Option Nat)) := []
  /-- tone settings still in force until the next tick after a write -/
  oldTone : List (Nat × Tone) := []
deriving DecidableEq, Repr

structure DriveCfg where
  offsetTrim : Tab Int := []
  gainTrim : Tab Int := []
  idleCode : Nat := 0
  contentionLimit : Nat := 200
  /-- GROUP_CONTROL by group; absent reads 1 -/
  groupControl : Tab Nat := []
  tones : Tab Tone := []
deriving DecidableEq, Repr

/-! ## Loop Engine (R104 to R149) -/

/-- A staged field write (R108), with the tick count from which an update applies it. -/
structure Staged where
  elem : Nat
  field : RecField
  v : Int
  due : Nat
deriving DecidableEq, Repr

/-- A line fault whose elements enter FAULT (R139, R140): cause, line or column, ARG2, and the tick count from which it acts. -/
structure LineFault where
  cause : Nat
  line : Nat
  arg2 : Nat
  due : Nat
deriving DecidableEq, Repr

structure Loop where
  state : RunState := .stopped
  /-- STOP_CAUSE: 0 HOST, 1 THERMAL, 2 STANDBY, 3 DEVICE_FAULT, 4 RESET -/
  stopCause : Nat := 4
  /-- LOOP_CONTROL written for the next tick -/
  due : Option Nat := none
  fenced : BitVec 16 := 0
  residue : Tab (BitVec 32) := []
  /-- mismatches: lane and tick count (R127) -/
  mismatches : List (Nat × Nat) := []
  fenceDue : List Nat := []
  selftests : List Nat := []
  rejoinDue : List Nat := []
  updatesNow : Nat := 0
  updatesLast : Nat := 0
  spareNow : Nat := 0
  spareLast : Nat := 0
  discarded : BitVec 32 := 0
  staged : List Staged := []
  recordHold : Tab Bool := []
  /-- elements whose record hold has ended, all eight words being rewritten, and whose next update makes the transfer (R110) -/
  holdEnded : Tab Bool := []
  /-- record holds by a mark acquired after S1: they last until all eight words have been rewritten (R110) -/
  holdLate : Tab Bool := []
  /-- elements whose next update makes the transfer from HOLD (R110, R128) -/
  fromHold : Tab Bool := []
  /-- elements whose next update makes a soft start, with the start value of INTEG (R142) -/
  softStart : List (Nat × Int) := []
  lineFaults : List LineFault := []
  /-- elements that a line cause puts in FAULT at their next update, with the cause -/
  lineElems : List (Nat × Nat) := []
  /-- reverse linearisations requested, first in, first out (R122): element, code, and whether the phase is clamped to the limits -/
  reverse : List (Nat × Nat × Bool) := []
  /-- elements that entered and left DARK in this cycle (R138) -/
  darkIn : List Nat := []
  darkOut : List Nat := []
  /-- elements whose staged setpoint was held back by a commit (R146) -/
  heldBack : Tab Bool := []
  /-- tick count of the cycle in which a takeover began: its updates are HOLD updates or jumps (R362) -/
  takeover : Option Nat := none
  /-- lane under the checker test of R395 -/
  checkerLane : Nat := 0
deriving DecidableEq, Repr

structure LoopCfg where
  control : Nat := 0
  settleEntry : Nat := 16
deriving DecidableEq, Repr

/-! ## Trace (R150 to R157) -/

inductive TraceState where
  | idle | armed | triggered | done
deriving DecidableEq, Repr

structure TraceCfg where
  elements : List Byte := List.replicate 512 0xFF
  nodes : BitVec 64 := 0
  mode : Nat := 0
  post : Nat := 0
  decimate : Nat := 1
  trigger : BitVec 8 := 1
deriving DecidableEq, Repr

structure Trace where
  state : TraceState := .idle
  /-- the set last armed: elements, nodes, mode, TRACE_POST, decimation, sources, depth -/
  elems : List Nat := []
  nodes : BitVec 64 := 0
  mode : Nat := 0
  post : Nat := 0
  decimate : Nat := 1
  sources : BitVec 8 := 0
  depth : Nat := 0
  /-- ARM or DISARM taking effect at the next tick -/
  armDue : Bool := false
  disarmDue : Bool := false
  /-- groups written since arming -/
  written : Nat := 0
  /-- the present cycle is being captured into the group `written - 1` -/
  capturing : Bool := false
  /-- sampled cycles still to be captured after the trigger cycle -/
  left : Nat := 0
  cause : Nat := 0xFF
  triggerGroup : Nat := 0xFFFF
  triggerElem : Nat := 0xFFFF
  triggerCycle : Nat := 0
deriving DecidableEq, Repr

/-! ## Calibration (R158 to R183) -/

/-- A group's step of the rotation (R167, R168): cycles counted and the column displaced (none: the spare's own step). -/
structure RotStep where
  count : Nat := 0
  col : Option Nat := none
deriving DecidableEq, Repr

/-- A move that was requested (R172): its column, the tick count for which it was scheduled, and the injected-conversion
entries that were pending at the request. -/
structure RotWait where
  col : Nat
  since : Nat
  entries : List Nat
deriving DecidableEq, Repr

inductive SweepPhase where
  | sweeping | returning
deriving DecidableEq, Repr

/-- A running sweep (R175): the tick count of its start, the code before it, the samples of each point and how it ends. -/
structure Sweep where
  elem : Nat
  start : Nat
  phase : SweepPhase := .sweeping
  /-- tick count at which the return move began -/
  back : Nat := 0
  code0 : Nat := 0
  points : List (Nat × Int) := []
  cancelled : Bool := false
  /-- largest A and B seen -/
  maxA : Int := 0
  maxB : Int := 0
deriving DecidableEq, Repr

structure SweepResult where
  elem : Nat := 0
  status : Nat := 0
  tempCode : Nat := 0
  used : Nat := 0
  index : Nat := 0
  residual : Nat := 0
  visibility : Nat := 0
  ratio : Nat := 0
  a0 : Int := 0
  a1 : Int := 0
  a2 : Int := 0
deriving DecidableEq, Repr

/-- A refit window (R179). -/
structure Refit where
  elem : Nat
  start : Nat
  acc : Int := 0
  updates : Nat := 0
deriving DecidableEq, Repr

structure Calib where
  /-- next element the gradual-entry check visits (R162) -/
  checkNext : Nat := 0
  calPoisoned : Tab Bool := []
  /-- elements whose point set was written in this cycle, with the set that entry still uses (R160) -/
  oldPoints : List (Nat × List (Nat × Int × Int × Int)) := []
  /-- elements whose point set was written over marked words in this cycle: entry has no set to use (R165) -/
  overMark : List Nat := []
  /-- elements whose next check forms the working curve without steps (R163, R165) -/
  atOnce : List Nat := []
  /-- elements whose point set was written over a marked working curve: entry forms it anew and clears the mark (R165) -/
  renew : List Nat := []
  /-- dark capture: due at the next tick, or the cycles done, with sum and count per site (R166) -/
  darkDue : Bool := false
  darkRun : Option Nat := none
  darkSums : Tab (Int × Nat) := []
  darkShort : Nat := 0
  rotState : RunState := .stopped
  /-- ROTATION_POSITION by group -/
  rotPos : Tab Nat := []
  rotStep : List (Nat × RotStep) := []
  rotWait : List (Nat × RotWait) := []
  rotRequest : List (Nat × Nat) := []
  /-- COLUMN_CAL_STATUS by column -/
  colStatus : Tab Nat := []
  sweeps : List Sweep := []
  sweepQueue : List (Nat × Bool) := []
  sweepResult : Tab SweepResult := []
  refits : List Refit := []
  refitNext : Nat := 0
  refitCount : Tab (BitVec 16) := []
  /-- corrections limited in one direction in a row: by 2 * element (offset) and 2 * element + 1 (slope) -/
  limited : Tab Int := []
  /-- elements whose point sets are to be forwarded to the mate (R182) -/
  forward : List Nat := []
  /-- tick count of the last commit tick, plus 1 (R171) -/
  commitTick : Nat := 0
deriving DecidableEq, Repr

structure CalCfg where
  entrySlew : Nat := 8
  rotation : Nat := 0
  driftOffset : Nat := 8
  driftGain : Nat := 33
  refitEnable : BitVec 8 := 3
  refitWindow : Nat := 4096
  refitA0Max : Nat := 32
  refitDeadband : Nat := 2
  refitSlopeTol : Nat := 10
deriving DecidableEq, Repr

/-! ## Fabric map and Route Solver (R184 to R208) -/

inductive FabricState where
  | none_ | pending | inForce
deriving DecidableEq, Repr

structure Fabric where
  /-- staged image by blocks of 1,024 bytes (R189) -/
  staged : Tab (List Byte) := []
  state : FabricState := .none_
  /-- check code and item of the last apply (R190) -/
  error : Nat × Nat := (0, 0)
  /-- the image accepted and not yet in force -/
  pending : List Byte := []
  /-- the image in force; empty before the first -/
  image : List Byte := []
deriving DecidableEq, Repr

structure FabricCfg where
  length : Nat := 0
deriving DecidableEq, Repr

inductive SolveStatus where
  | none_ | ok | conflict | stale | poisoned
deriving DecidableEq, Repr

/-- What a running solve will leave (R199): it read its inputs at its start (R198). -/
structure SolveRun where
  strict : Bool
  gen : BitVec 32
  status : SolveStatus
  /-- cell states by cell number, where they are not the current bank's -/
  cells : List (Nat × Bool) := []
  /-- target words of the elements that change -/
  targets : List (Nat × BitVec 64) := []
  moved : List Nat := []
  changed : Nat := 0
  dual : Nat := 0
  unplaced : Nat := 0xFFFF
  region : Nat := 0xFFFFFFFF
deriving DecidableEq, Repr

structure Solver where
  running : Option SolveRun := none
  /-- mode of the queued solve: true STRICT -/
  queued : Option Bool := none
  status : SolveStatus := .none_
  solvedGen : BitVec 32 := 0
  unplaced : Nat := 0xFFFF
  moved : List Nat := []
  changed : Nat := 0
  dual : Nat := 0
  lastTime : Nat := 0
deriving DecidableEq, Repr

/-! ## Circuit Tables and verification (R209 to R230) -/

structure PendingCommit where
  at_ : Time
  expectGen : BitVec 32
  group : BitVec 16
deriving DecidableEq, Repr

/-- An armed commit (R216): marked elements, changed rows, whether jumps are computed. -/
structure Armed where
  commit : PendingCommit
  marked : List Nat
  rows : List Nat
  jumps : Bool
  /-- a takeover fell in the arming cycle or in cycles T to T+2 (R223) -/
  overtaken : Bool := false
  /-- jumps made one cycle late (R223) -/
  retries : Nat := 0
  /-- the generation committed and the in-use circuits of the new current bank -/
  gen : BitVec 32 := 0
  circuits : Nat := 0
deriving DecidableEq, Repr

/-- COMMIT_REPORT (R222). -/
structure CommitReport where
  at_ : Time := {}
  group : BitVec 16 := 0
  result : Nat := 0
  cause : Nat := 0
  rows : Nat := 0
  flags : BitVec 8 := 0
  marked : Nat := 0
  retries : Nat := 0
  gen : BitVec 32 := 0
  ffError : Nat := 0
  circuits : Nat := 0
deriving DecidableEq, Repr

structure Circuits where
  /-- physical bank that holds the current bank (R209) -/
  physical : Nat := 0
  /-- words of the next bank (offsets) written since the banks changed roles; none once the copy is done -/
  written : Option (List Nat) := none
  gen : BitVec 32 := 0
  committedGen : BitVec 32 := 0
  batchError : Nat × Nat := (0, 0)
  pending : Option PendingCommit := none
  armed : Option Armed := none
  /-- the commits that took place, with their tick counts, until COMMIT_DONE (R222) -/
  committing : List (Nat × Armed) := []
  report : CommitReport := {}
  /-- elements whose jump is still to be made in this or the next cycle: element, and whether it is a retry (R223) -/
  jumpDue : List (Nat × Bool) := []
  /-- tick count of the last takeover, won or lost, plus 1 (R223) -/
  takenAt : Nat := 0
  /-- elements that jumped, with the first tick count whose updates are measured again (R220) -/
  jumpHold : List (Nat × Nat) := []
  /-- commits whose FF_ERROR_MAX is still to be recorded: tick count, commit tick and marked elements (R221) -/
  ffDue : List (Nat × Time × List Nat) := []
  bankDigest : List Byte := List.replicate 48 0
  /-- the current bank has changed since BANK_DIGEST was formed (R218) -/
  digestDue : Bool := false
deriving DecidableEq, Repr

/-- PORT_ATTEN (R213). -/
structure PortAtten where
  phiOpen : Int := 0
  phiBlock : Int := 0
  power : Nat := 1
deriving DecidableEq, Repr

structure CircCfg where
  rejectStale : Bool := false
  portAtten : Tab PortAtten := []
deriving DecidableEq, Repr

inductive VerState where
  | notChecked | pending | verified | misconnect | noLabel
deriving DecidableEq, Repr

structure Verify where
  state : Tab VerState := []
  /-- total time of the verification epoch, and of the commit tick, by circuit (R227) -/
  epoch : Tab Nat := []
  since : Tab Nat := []
  /-- last counting label decoded at the egress -/
  seen : Tab (BitVec 24) := []
  /-- last counting decode and how many equal ones came in a row -/
  last : List (Nat × BitVec 24 × Nat) := []
  /-- end of the last counting decode -/
  lastAt : Tab Nat := []
  /-- circuits that each commit put in PENDING, while any of them is (R228) -/
  batch : List (List Nat) := []
  enableOn : Bool := true
deriving DecidableEq, Repr

structure VerifyCfg where
  enable : Bool := true
  timeout : Nat := 300
deriving DecidableEq, Repr

/-! ## Label Decoder and Label Table (R231 to R253) -/

inductive DecoderState where
  | stopped | running | stopping | restartPending | idle
deriving DecidableEq, Repr

inductive PairState where
  | off | active | suspended
deriving DecidableEq, Repr

/-- Sums over a quarter-bit (R234): I and Q of both tones, and the samples used. -/
structure Quarter where
  i0 : Int := 0
  q0 : Int := 0
  i1 : Int := 0
  q1 : Int := 0
  used : Nat := 0
deriving DecidableEq, Repr

/-- A bit decision: the bit or an erasure, the energy of the winning tone and the samples used. -/
structure BitDec where
  bit : Option Bool
  energy : Nat
  used : Nat
deriving DecidableEq, Repr

/-- A decode in progress (R235): its alignment and the decisions read, newest first. -/
structure Decode where
  align : Nat
  start : Nat
  bits : List BitDec
deriving DecidableEq, Repr

/-- The current label of a channel and pair (R236, R237). -/
structure CurLabel where
  key : BitVec 24
  level : Nat
  lastStart : Nat
  lastEnd : Nat
  /-- status last posted: 0 ABSENT, 1 SAME, 2 OTHER; none on a new label -/
  status : Option Nat
  postedAt : Nat
deriving DecidableEq, Repr

structure PairChan where
  now : Quarter := {}
  /-- samples of the quarter-bit that follows -/
  ahead : Quarter := {}
  /-- the last quarter-bits, newest first, at most 4 -/
  quarters : List Quarter := []
  /-- decisions of the four alignments, newest first, at most 8 each -/
  streams : List (List BitDec) := [[], [], [], []]
  decode : Option Decode := none
  /-- the last good decode: key and end -/
  cand : Option (BitVec 24 × Nat) := none
  current : Option CurLabel := none
  /-- the label that was lost: shown by TAP_LABEL -/
  lost : Option CurLabel := none
deriving DecidableEq, Repr

structure Decoder where
  state : DecoderState := .idle
  due : Option Nat := none
  pairState : Tab PairState := []
  /-- PAIR_ENABLE still in force until the next tick after a write -/
  oldEnable : List (Nat × Bool) := []
  /-- running mean by channel -/
  mean : Tab Int := []
  /-- tone phases by 2 * pair + tone -/
  phases : Tab (BitVec 32) := []
  /-- by 8 * channel + pair -/
  chans : Tab PairChan := []
  good : Tab (BitVec 32) := []
  bad : Tab (BitVec 32) := []
  /-- number of the quarter-bit being summed: network time divided by 500,000 ns -/
  quarter : Nat := 0
  /-- ticks within the present quarter-bit, within later ones, and within the three before it (R234) -/
  ticksNow : Nat := 0
  ticksAhead : Nat := 0
  tickCounts : List Nat := []
  learnRing : List (Nat × List Byte) := []
  learnWrite : BitVec 16 := 0
  learnDropped : BitVec 32 := 0
  learnSeq : BitVec 16 := 0
  learnRun : Bool := false
deriving DecidableEq, Repr

structure DecoderCfg where
  control : Nat := 1
  minLevel : Nat := 64
  learnMode : Nat := 0
  learnRepost : Nat := 1000
  f0 : Tab (BitVec 32) := []
  f1 : Tab (BitVec 32) := []
  enable : Tab Bool := []
  learnRead : BitVec 16 := 0
deriving DecidableEq, Repr

/-- Where a label command came from: a host requester, firmware with the notification it waits for (R240), or the mate (R249). -/
inductive CmdOrigin where
  | host (id : Nat)
  | firmware (record : List Byte)
  | mate
deriving DecidableEq, Repr

inductive SweepState where
  | running | suspended | off
deriving DecidableEq, Repr

structure LabelTable where
  /-- commands accepted and not completed -/
  queue : List (LabelCmd × CmdOrigin) := []
  nextId : Nat := 0
  /-- a command has executed in this cycle, or its turn in it is past (R244) -/
  busy : Bool := false
  /-- FLUSH_BY_PORT under way: steps done and entries removed -/
  flush : Option (LabelCmd × CmdOrigin × Nat × Nat) := none
  results : List (Nat × List Byte) := []
  resultIndex : BitVec 16 := 0
  /-- cycle of the aging pass; none between passes -/
  pass : Option Nat := none
  agedOut : BitVec 32 := 0
  /-- AGE_TIME of the present pass -/
  ageOn : Nat := 2000
  /-- commands to be forwarded to the mate (R249) -/
  forward : List LabelCmd := []
deriving DecidableEq, Repr

structure LabelCfg where
  ageTime : Nat := 2000
deriving DecidableEq, Repr

/-! ## Links, addressing and traffic (R254 to R291) -/

/-- LANE_STATE (R276), in the order of its numbers. -/
inductive LaneState where
  | disabled | down | locked | up | stopping | restartPending
deriving DecidableEq, Repr

/-- A frame: bytes 14 to 33 (the Dengaler header) and the bytes from 34 to the last before the FCS (R257, R258).
DA, SA and FCS are formed as a lane sends it. -/
structure Frame where
  hdr : List Byte
  body : List Byte
  /-- receive stamp (R297); 0 for a frame of this controller -/
  rx : Nat := 0
  /-- its FCS failed while it was sent on cut-through (R259) -/
  bad : Bool := false
deriving DecidableEq, Repr

/-- A frame in an egress queue, with the time it was queued (R290). -/
structure QFrame where
  frame : Frame
  at_ : Nat
  /-- it found its queue empty and the scheduler ready, so that it goes cut-through (R259) -/
  cut : Bool := false
deriving DecidableEq, Repr

structure Lane where
  state : LaneState := .disabled
  /-- the PCS holds block lock -/
  lock : Bool := false
  /-- HELLO periods in a row in which HELLO was received, and the period and time of the last (R261) -/
  helloRun : Nat := 0
  helloPeriod : Nat := 0
  helloAt : Nat := 0
  /-- last HELLO payload (PEER), and whether one was received since the lane was last down -/
  peer : List Byte := List.replicate 24 0
  heard : Bool := false
  /-- a mate lane counted in WIRING_FAULTS -/
  wiring : Bool := false
  /-- marked unused: a mate lane under a UNIT clash (R271) -/
  unused : Bool := false
  /-- egress queues by class (R278) -/
  queues : Tab (List QFrame) := []
  deficit : Tab Nat := []
  fresh : Tab Bool := [(1, true)]
  ptr : Nat := 1
  /-- the frame in transmission, and whether it goes cut-through -/
  sending : Option Frame := none
  cut : Bool := false
  /-- LANE_COUNTERS 0 to 7 (R276), INVALID_FRAME at 8 (R260); FEC_COUNTERS 0 and 1 -/
  counters : Tab (BitVec 64) := []
  fec : Tab (BitVec 64) := []
deriving DecidableEq, Repr

/-- A route entry (R277). -/
structure Route where
  low : Nat
  high : Nat
  lane : Nat
  planeB : Bool
  hello : Bool
deriving DecidableEq, Repr

/-- ROLE (R277). -/
inductive Role where
  | unassigned | dome | turret | finial
deriving DecidableEq, Repr

/-- ENUM_STATE (R277). -/
inductive EnumState where
  | none_ | counting | assigning | done | failed
deriving DecidableEq, Repr

/-- One child of an enumeration: its lane, its count once answered, whether it is excluded, the first address it was
offered, and whether it has answered ASSIGN. -/
structure EnumChild where
  lane : Nat
  count : Option Nat := none
  excluded : Bool := false
  offered : Option Nat := none
  assigned : Bool := false
deriving DecidableEq, Repr

/-- A board SPI port (R275). -/
structure BoardSpi where
  request : Option (List Byte) := none
  response : Option (List Byte) := none
  overrun : Bool := false
  lengthError : Bool := false
  /-- the bytes the last READ_STATUS or READ_RESPONSE sent -/
  sent : List Byte := []
deriving DecidableEq, Repr

structure Net where
  lanes : Tab Lane := []
  address : Nat := 0
  role : Role := .unassigned
  depth : Nat := 0xFF
  blockHigh : Nat := 0
  enumState : EnumState := .none_
  enumGen : BitVec 32 := 0
  enumTotal : Nat := 0
  enumStatus : Nat := 0
  enumExcluded : Nat := 0
  /-- when the wait for the children's answers began (R263, R264) -/
  enumAt : Nat := 0
  /-- the pass under way on this controller, and the lane of its parent; none at the Dome that started it -/
  children : List EnumChild := []
  enumParent : Option Nat := none
  /-- its addresses came from its parent's spares (R267): its block ends with what it uses -/
  late : Bool := false
  chain : Bool := false
  /-- the Dome's address, as the last ENUMERATE gave it -/
  domeAddr : Nat := 0
  routes : Tab (Option Route) := []
  mateAddress : Nat := 0
  seq : BitVec 16 := 0
  bspi : BoardSpi := {}
  /-- frames delivered to this controller, with their ingress lane, first in, first out -/
  delivered : List (Nat × Frame) := []
deriving DecidableEq, Repr

structure NetCfg where
  /-- LANE_ENABLE by lane; absent reads 1 -/
  laneEnable : Tab Bool := []
  /-- LANE_RATE and LANE_FEC written values; a lane not listed follows the strap -/
  laneRate : List (Nat × Nat) := []
  laneFec : List (Nat × Bool) := []
  etherType : Nat := 0x88B5
  helloPeriod : Nat := 1000
  domainBase : Nat := 1
  domainSize : Nat := 65024
  hostLow : Nat := 0xFF00
  hostHigh : Nat := 0xFFFE
  spareAddresses : Nat := 0
deriving DecidableEq, Repr

/-- A meter instance (R286, R287): the two buckets in 1/8,000,000 byte, the time they were brought up to,
and the time from which both have been full. -/
structure Meter where
  src : Nat
  cls : Nat
  c : Nat
  p : Nat
  at_ : Nat
  full : Option Nat := none
deriving DecidableEq, Repr

structure Traffic where
  /-- shaper buckets by x: B in units of 1 byte / (65,536 * 15,625), and the time they were brought up to -/
  bucket : List (Nat × Int × Nat) := []
  /-- QUEUE_COUNTERS by 4 x + i, METER_COUNTERS by 3 x + i -/
  queueCount : Tab (BitVec 64) := []
  meterCount : Tab (BitVec 64) := []
  /-- DEPTH_HIST and DELAY_HIST bins by 16 x + bin -/
  depthHist : Tab Nat := []
  delayHist : Tab Nat := []
  histClearDue : Bool := false
  meters : List Meter := []
  /-- shared meter of each class, created full -/
  shared : List Meter := []
  sharedCount : BitVec 32 := 0
deriving DecidableEq, Repr

/-- METER_PROFILE (R291). -/
structure MeterProfile where
  cir : Nat := 25000000
  cbs : Nat := 65536
  pir : Nat := 25000000
  pbs : Nat := 65536
deriving DecidableEq, Repr

structure TrafficCfg where
  quantum : Tab Nat := []
  queueLimit : Tab Nat := []
  yellow : Tab Nat := []
  shaperOn : Tab Bool := []
  shaperRate : Tab Nat := []
  shaperBurst : Tab Nat := []
  meterOn : Tab Bool := []
  profile : Tab MeterProfile := []
deriving DecidableEq, Repr

/-! ## Requests and access rights (R316 to R342) -/

/-- One answered item of a response: code, type code and value (R324). -/
structure Answer where
  code : Resp
  ty : Nat := 0
  value : List Byte := []
deriving DecidableEq, Repr

/-- An entry of a requester window (R331): sequence number, digest, level, STATUS, item codes, and the full response
while it is held. -/
structure WinEntry where
  seq : BitVec 16
  digest : List Byte
  level : Nat
  status : Resp
  codes : List Resp
  full : Option (List Byte)
  /-- the body holds a value read from poisoned data (R329) -/
  poison : Bool := false
  /-- age in the pool of responses: the oldest bodies go first -/
  stamp : Nat
deriving DecidableEq, Repr

structure ReqWindow where
  src : Nat
  high : BitVec 16
  entries : List WinEntry := []
  lastAt : Nat := 0
deriving DecidableEq, Repr

/-- What an item that answers later waits for: a label command, an injected conversion (R328), the merge reads of the words that its
narrow write met (R375, R376). -/
inductive WaitFor where
  | label (id : Nat)
  | inject (id : Nat)
  | merge (words : List Nat)
deriving DecidableEq, Repr

/-- A request that has been accepted and not yet answered (R333): its header, its answers so far, and what it waits for. -/
structure Outstanding where
  src : BitVec 16
  seq : BitVec 16
  cls : BitVec 3
  planeB : Bool
  spi : Bool
  quiet : Bool
  level : Nat
  digest : List Byte
  answers : List Answer
  /-- item number and what it waits for -/
  waits : List (Nat × WaitFor)
  /-- class and plane of the duplicates that wait for it (R331) -/
  dups : List (BitVec 3 × Bool) := []
deriving DecidableEq, Repr

/-- A requester's assembly buffer (R330). -/
structure Assembly where
  src : Nat
  obj : ObjRef
  bytes : List Byte
  at_ : Nat
deriving DecidableEq, Repr

structure AddrRule where
  low : Nat := 0
  high : Nat := 0
  level : Nat := 0
  valid : Bool := false
deriving DecidableEq, Repr

/-- The access rights (R319, R320, R338, R342): RANGE_RIGHTS by r, ADDR_RULE by j, BSPI_LEVEL. -/
structure Rights where
  ranges : List (Nat × Nat × Nat) := [(27, 3, 0), (28, 2, 0)]
  rules : Tab AddrRule := [(0, { low := 1, high := 0xFFFE, level := 1, valid := true })]
  bspi : Nat := 1
deriving DecidableEq, Repr

structure Requests where
  windows : List ReqWindow := []
  outstanding : List Outstanding := []
  assembly : List Assembly := []
  /-- executed, from cache, BUSY, DENIED, STALE, INVALID before execution (R341) -/
  counters : Tab (BitVec 64) := []
  ownerCounter : BitVec 64 := 0
  stamp : Nat := 0
  telemSent : Tab (BitVec 32) := []
  rights : Rights := {}
  staged : Rights := {}
  rightsPending : Bool := false
  rightsGen : BitVec 32 := 0
  /-- code and value of the last direct object command, or the whole last response body -/
  answer : Option Answer := none
  response : Option (List Byte) := none
deriving DecidableEq, Repr

structure ReqCfg where
  /-- TELEM_LIST by list; an absent list reads six zero bytes -/
  telem : Tab (List Byte) := []
  label : List Byte := []
  systemId : BitVec 32 := 0
  domainId : BitVec 16 := 0
deriving DecidableEq, Repr

/-! ## Tower (R343 to R370) -/

/-- The head of a checkpoint image (R359) and the buffer of region 5 that holds its words. -/
structure Image where
  cycle : Nat
  gen : BitVec 32
  chunks : Nat
  buffer : Nat
  bankDigest : List Byte
  fabricDigest : List Byte
deriving DecidableEq, Repr

/-- An image being received (R360): its cycle, generation, chunk count, buffer and the chunks present. -/
structure Reception where
  cycle : Nat
  gen : BitVec 32
  chunks : Nat
  buffer : Nat
  got : List Nat
  poisoned : Bool
deriving DecidableEq, Repr

/-- An image being sent (R359): the next chunk to send. -/
structure Stream where
  image : Image
  next : Nat
deriving DecidableEq, Repr

/-- A MATE_SYNC frame of kind 1 or 2 that is not acknowledged (R368). -/
structure SyncOut where
  seq : BitVec 32
  kind : Nat
  item : Nat
  body : List Byte
  since : Nat
  sends : Nat
  /-- the body holds poisoned data: POISON is set in each sending (R380) -/
  poison : Bool := false
deriving DecidableEq, Repr

structure Tower where
  dutyState : RunState := .running
  dutyDue : Bool := false
  /-- the withdrawal of a stopping duty has reached a window -/
  dutyWindow : Bool := false
  role : Nat := 3
  /-- it has become STANDBY and has not won since (R352) -/
  standing : Bool := false
  claim : BitVec 16 := 0
  /-- V of CLMA and CLMB, and the accepted value, of the last window (R347) -/
  va : BitVec 16 := 0
  vb : BitVec 16 := 0
  accepted : BitVec 16 := 0
  /-- CLAIM_RESULT byte 6 -/
  result : Nat := 0
  /-- CLAIM_RESULT as the object shows it: the result that the last tick applied (R17, R347) -/
  shown : List Byte := List.replicate 8 0
  /-- the result latched for the next tick: the unit drives -/
  latched : Option Bool := none
  /-- the claim window of this cycle: 0 not yet open, 1 open, 2 over (R16, R346) -/
  window : Nat := 0
  /-- a positive win is latched (R362) -/
  won : Bool := false
  /-- the winning claim of the last arbitration had INCUMBENT set -/
  winIncumbent : Bool := false
  lineA : Nat := 0
  lineB : Nat := 0
  /-- FAULTY lines admitted from the next window by CLAIM_LINE_CLEAR -/
  clearDue : Bool := false
  /-- a line was FAULTY, or the lines differed, in the last window: item [6] of the self-test (R355) -/
  lineBad : Bool := false
  /-- the column and row drivers are out of biased standby (R93) -/
  driversAwake : Bool := false
  coreHalted : Bool := false
  heartbeatLost : Bool := false
  /-- OUTPUT_CONTENTION declared while incumbent in this cycle (R344 [4]) -/
  contention : Bool := false
  readiness : Nat := 0
  resident : Option Image := none
  verified : Option Image := none
  /-- tick count of the cycle in which its seal came: it becomes resident at a later tick (R360) -/
  verifiedAt : Nat := 0
  reception : Option Reception := none
  /-- capture under way: its image completes at the next tick (R357) -/
  capture : Option Image := none
  /-- elements whose word it took as their update wrote their record back -/
  taken : List Nat := []
  stream : Option Stream := none
  nextBuffer : Nat := 0
  lastSent : Nat := 0
  /-- CHECKPOINT_INTERVAL in force until the common tick (R369) -/
  intervalOn : Nat := 256
  counters : Tab (BitVec 64) := []
  mateReport : List Byte := List.replicate 32 0
  /-- bytes 0 to 3, 12 to 23 and 28 of the last MATE_HEALTH sent, before the first those of reset, and the tick count of the last one sent
  for its cycle number (R356) -/
  healthSent : List Byte := [0, 0, 3, 0, 0, 0, 0, 0, 0, 4, 0, 0, 0, 0, 0, 0, 1]
  healthAt : Option Nat := none
  /-- tick count at which MATE_REPORT was received -/
  reportAt : Option Nat := none
  selftest : BitVec 32 := 0
  /-- cycle of the self-test's pass, 0 to 2,111 (R355) -/
  selfStep : Nat := 0
  /-- items that have failed in their present pass, and the clean passes in a row of each failed item -/
  selfFailed : BitVec 8 := 0
  selfPass : Tab Nat := []
  yieldState : Nat := 0
  yieldCycle : Option Nat := none
  yieldDue : Bool := false
  /-- tick count of the YIELD, and of the withdrawal -/
  yieldAt : Nat := 0
  withdrawAt : Nat := 0
  takeovers : BitVec 32 := 0
  lastTakeover : List Byte := List.replicate 16 0
  mateLost : Bool := false
  /-- both mate links were DOWN and no image has become resident since a link returned (R354) -/
  awaitImage : Bool := false
  undrivenRun : Option Nat := none
  syncSeq : BitVec 32 := 0
  syncOut : List SyncOut := []
  /-- the last 64 SYNC_SEQ values applied, newest first -/
  syncApplied : List (BitVec 32) := []
  /-- elements asked of the mate by WORD_REQUEST: SYNC_SEQ, element, and until the answer comes the time of asking (R386) -/
  wordAsked : List (BitVec 32 × Nat × Option Nat) := []
  /-- the mate's FABRIC_DIGEST as its last image told it (R435) -/
  mateFabric : Option (List Byte) := none
deriving DecidableEq, Repr

structure TowerCfg where
  duty : Nat := 1
  rank : Nat := 0x80
  mask : BitVec 8 := 0
  interval : Nat := 256
  enable : Bool := true
  freshLimit : Nat := 768
deriving DecidableEq, Repr

/-! ## Thermal and supplies (R406 to R422) -/

structure Thermal where
  dieTemp : Tab Int := []
  sensorState : Tab Nat := []
  /-- the last samples of all sensors, newest first, at most 1,024, in 0.01 degree C (R407) -/
  history : List (List (Option Int)) := []
  /-- consecutive good samples of a broken sensor -/
  good : Tab Nat := []
  dieTempMax : Int := 0
  peak : Int := 0
  state : Nat := 0
  fast : Bool := false
  fastNext : Bool := false
  /-- THROTTLE in force, from tick to tick (R410) -/
  throttled : Bool := false
  throttleCount : BitVec 32 := 0
  zoneState : Tab Nat := []
  railVoltage : Tab Int := []
  railCurrent : Tab Nat := []
  /-- RAIL_STATE of rails 0 to 5 -/
  railState : Tab Nat := []
  /-- state of the VRH and VRL pumps: 0 OFF, 1 STARTING, 2 REGULATING, 3 FAULT -/
  pumpH : Nat := 0
  pumpL : Nat := 0
  power : Nat := 0
deriving DecidableEq, Repr

structure ThermalCfg where
  zoneWarn : Int := 8500
  zoneHigh : Int := 9500
deriving DecidableEq, Repr

/-! ## Settings -/

/-- The value of every RW and RWI object, the firmware objects excepted (R318, R432). Fields of the element records,
column tables of regions 1 and 3 and the circuit banks stand in memory. -/
structure Cfg where
  time : TimeCfg := {}
  mem : MemCfg := {}
  ev : EventCfg := {}
  arr : ArrayCfg := {}
  cyc : CycleCfg := {}
  rd : ReadoutCfg := {}
  drv : DriveCfg := {}
  loop : LoopCfg := {}
  trace : TraceCfg := {}
  cal : CalCfg := {}
  fab : FabricCfg := {}
  circ : CircCfg := {}
  ver : VerifyCfg := {}
  dec : DecoderCfg := {}
  lab : LabelCfg := {}
  net : NetCfg := {}
  traf : TrafficCfg := {}
  req : ReqCfg := {}
  tow : TowerCfg := {}
  therm : ThermalCfg := {}
deriving DecidableEq, Repr

/-! ## Reset, boot and security (R423 to R441) -/

/-- Where the controller stands between reset and service (R423, R428, R429, R8). -/
inductive Phase where
  /-- RESET_N is low -/
  | held
  /-- the boot ROM runs -/
  | rom
  | recovery
  /-- the boot ROM has handed over to a verified image -/
  | loaded
  /-- firmware runs: the revision has passed (R8) -/
  | firmware
  /-- firmware has stopped on a foreign revision (R8) -/
  | stopped
deriving DecidableEq, Repr

/-- A saved-state copy (R432). -/
structure Saved where
  seq : BitVec 32
  at_ : Time
  cfg : Cfg
  rights : Rights
  /-- the settings copy of R386: elements with the words of their records, working fields cleared -/
  records : List (Nat × List Nat)
  /-- calibration points, DARK, TAP_RESP, chain corrections and SP_RATE_LIMIT: bytes of regions 1 and 3 -/
  tables : List Host.Cell
  /-- the current bank's bytes, by offset in the bank -/
  bank : List Host.Cell
  fabric : List Byte
  gen : BitVec 32
  bankDigest : List Byte
  /-- the entries of TRIGGER (R315) -/
  triggers : Tab Trigger := []
  /-- the length and SHA-384 of its header are those of its content: not yet, while it is being written (R432) -/
  whole : Bool := true
deriving DecidableEq, Repr

/-- The external flash (R426): firmware slots by blocks of 1,024 bytes, an absent block is erased. -/
structure Flash where
  /-- the flash has a readable SFDP table, and that offers the 1-1-4 or 1-4-4 fast read (R425) -/
  sfdp : Bool := true
  quad : Bool := true
  bootRecord : Byte := 0xFF
  slot0 : Tab (List Byte) := []
  slot1 : Tab (List Byte) := []
  /-- the owner record: key, number of its owner slot, OWNER_COUNTER_LAST as the entries appended, oldest first (R426) -/
  ownerKey : List Byte := []
  ownerSlot : Nat := 0
  ownerCounters : List (BitVec 64) := []
  log : List (Nat × List Byte) := []
  logIndex : BitVec 32 := 0
  copy0 : Option Saved := none
  copy1 : Option Saved := none
  startMode : Nat := 0
  bootCount : BitVec 32 := 0
deriving DecidableEq, Repr

/-- Instructions of the test access port (R443). -/
inductive ScanInstr where
  | bypass | idcode | samplePreload | extest
deriving DecidableEq, Repr

/-- The test access port (R443, R456): held in reset by the pull-down on TRST_N unless a tester drives it; IDCODE is the instruction it
has in reset (PRESUMED, from IEEE 1149.1; log entry 131). -/
structure Scan where
  inReset : Bool := true
  instr : ScanInstr := .idcode
deriving DecidableEq, Repr

structure Boot where
  phase : Phase := .held
  scan : Scan := {}
  /-- the boot ROM and firmware read the flash by a quad fast read (R425) -/
  quadRead : Bool := false
  /-- the saved copy that is being written (R432) -/
  saving : Option Nat := none
  straps : BitVec 16 := 0
  /-- REVISION, the silicon's own (R8) -/
  revision : BitVec 16 := 0x00A1
  flash : Flash := {}
  /-- owner key hashes of the slots blown, slot 0 first -/
  ownerSlots : List (List Byte) := []
  securityVersion : Nat := 0
  target : Nat := 1
  bootSlot : Nat := 0
  /-- digest, FIRMWARE_VERSION and SECURITY_VERSION of the running image -/
  imageDigest : List Byte := List.replicate 48 0
  imageVersion : BitVec 32 := 0
  imageSecurity : Nat := 0
  /-- preferred slot passed over and the check it failed -/
  passedOver : Option (Nat × Nat) := none
  /-- START_RESULT -/
  startDone : Bool := false
  startMode : Nat := 0
  startWhy : Nat := 0
  /-- saved TOWER_DUTY that waits for LOCKED (R433) -/
  savedDuty : Option Nat := none
  attest : List Byte := List.replicate 368 0
  rejoinState : Nat := 0
  rejoinCode : Nat := 0
  rejoinTries : Nat := 0
  /-- requests of the present reading that have been sent (R435) -/
  rejoinSent : Nat := 0
deriving DecidableEq, Repr

/-! ## The device -/

/-- Everything the part holds beside the snapshot registers. -/
structure Live where
  time : Belfry := {}
  ev : Events := {}
  sram : Mem := {}
  memory : Memory := {}
  arr : ArrayIf := {}
  cyc : Cycle := {}
  rd : Readout := {}
  drv : Drive := {}
  loop : Loop := {}
  trace : Trace := {}
  cal : Calib := {}
  fab : Fabric := {}
  solve : Solver := {}
  circ : Circuits := {}
  ver : Verify := {}
  dec : Decoder := {}
  lab : LabelTable := {}
  net : Net := {}
  traf : Traffic := {}
  req : Requests := {}
  tow : Tower := {}
  therm : Thermal := {}
  boot : Boot := {}
  cfg : Cfg := {}
  /-- the model's own: number of free values drawn so far (log entry 4); not a register of the part -/
  free : Nat := 0
deriving DecidableEq, Repr

/-- The device. The snapshot registers (subindexes 0xF0 to 0xFF) read `snap`: each register's own object as it stood
at the end of the cycle that ended at the last snapshot (R311), and at its reset value before the first. -/
structure Dev extends Live where
  snap : Live := {}
deriving DecidableEq, Repr

/-- The state: the device and the commands that are waiting, first in, first out. -/
structure State where
  dev : Dev := {}
  pending : List Instr := []
deriving DecidableEq, Repr

/-- Why the machine stops. -/
inductive Fault where
  /-- Raised by MEMORY_UE, CORE_DATA_ABORT and CORRECTIVE_WRITEBACK for an SRAM address that R371 says does not exist.
  Safe: the part has no such word. -/
  | noSuchAddress (addr : Nat)
deriving DecidableEq, Repr

/-- Why a command is refused. -/
inductive Refusal where
  /-- Raised by Machine/Dispatch.lean for a command that has no meaning yet. Safe. -/
  | notModelled (mnemonic : String)
deriving DecidableEq, Repr

/-- The machine with RESET_N low (R423): every register at the value the spec gives for reset. -/
def State.reset : State := {}

end Sys2Proof.Machine
end

