-- ==== Sys2Proof/Machine/Ops.lean ====
section
/-! DEFINITION. The named operations over tables, numbers, the SRAM, time, events and answers.
Every meaning is written over them. -/

namespace Sys2Proof.Machine

/-! ## Sparse tables -/

/-- Reading of key k where absent keys read d. -/
def tget {α : Type} (d : α) : Tab α → Nat → α
  | [], _ => d
  | (j, v) :: t, k => if j = k then v else tget d t k

/-- The table with (k, v) in its place in the rising order of keys. -/
def tins {α : Type} : Tab α → Nat → α → Tab α
  | [], k, v => [(k, v)]
  | (j, w) :: t, k, v =>
    if k < j then (k, v) :: (j, w) :: t else if j = k then (k, v) :: t else (j, w) :: tins t k v

/-- The table without key k. -/
def tdel {α : Type} : Tab α → Nat → Tab α
  | [], _ => []
  | (j, w) :: t, k => if j = k then tdel t k else (j, w) :: tdel t k

/-- Writing v at key k: an entry equal to what an absent key reads as is not kept. -/
def tset {α : Type} [DecidableEq α] (d : α) (t : Tab α) (k : Nat) (v : α) : Tab α :=
  if v = d then tdel t k else tins t k v

/-- The entry of key k, where a table tells an absent key from every value. -/
def tfind {α : Type} : List (Nat × α) → Nat → Option α
  | [], _ => none
  | (j, v) :: t, k => if j = k then some v else tfind t k

/-- Keys rise strictly and no entry equals d. -/
def Tab.wf {α : Type} [DecidableEq α] (d : α) : Tab α → Bool
  | [] => true
  | [(_, v)] => v ≠ d
  | (j, v) :: (k, w) :: t => j < k && (v ≠ d : Bool) && Tab.wf d ((k, w) :: t)

/-- Keys 0 to n - 1 at which the table reads true. -/
def trueKeys (t : Tab Bool) : List Nat := (t.filter (fun e => e.2)).map (fun e => e.1)

/-- f applied n times with the indexes i, i + 1, ... -/
def iter {α : Type} (f : Nat → α → α) : Nat → Nat → α → α
  | 0, _, a => a
  | n + 1, i, a => iter f n (i + 1) (f i a)

/-- f applied to every element of a list, from the left. -/
def each {α β : Type} (l : List α) (f : α → β → β) (b : β) : β := l.foldl (fun b a => f a b) b

/-- The first n keys where p holds. -/
def firstWhere (p : Nat → Bool) : Nat → Nat → Option Nat
  | 0, _ => none
  | n + 1, i => if p i then some i else firstWhere p n (i + 1)

/-! ## Numbers (R4, R5, R317) -/

/-- Bits [lo + n - 1 : lo] of a word. -/
def bitsOf (w lo n : Nat) : Nat := w / 2 ^ lo % 2 ^ n

/-- The word with bits [lo + n - 1 : lo] replaced by those of v. -/
def putBits (w lo n v : Nat) : Nat := w / 2 ^ (lo + n) * 2 ^ (lo + n) + v % 2 ^ n * 2 ^ lo + w % 2 ^ lo

/-- Two's complement reading of an n-bit number. -/
def signed (n v : Nat) : Int := if v < 2 ^ (n - 1) then (v : Int) else (v : Int) - 2 ^ n

/-- The n-bit two's complement code of a number. -/
def code (n : Nat) (v : Int) : Nat := (v % (2 ^ n : Int)).toNat

/-- Signed field [lo + n - 1 : lo] of a word. -/
def sbitsOf (w lo n : Nat) : Int := signed n (bitsOf w lo n)

/-- v limited to lo ... hi. -/
def clampI (lo hi v : Int) : Int := if v < lo then lo else if hi < v then hi else v

/-- v limited to n-bit two's complement. -/
def satI (n : Nat) (v : Int) : Int := clampI (-(2 ^ (n - 1) : Int)) (2 ^ (n - 1) - 1) v

/-- Arithmetic right shift: the quotient is rounded down. -/
def shr (v : Int) (n : Nat) : Int := v / (2 ^ n : Int)

/-- A quotient whose rounding no rule states: exact where it is whole, else one of its two neighbours (log entry 4). -/
def openQuot (a b : Int) : Int := if a % b = 0 then a / b else a / b + (if Config.roundUp a b then 1 else 0)

/-- Integer square root, bit by bit from the k-th down. -/
def rootBits (n : Nat) : Nat → Nat → Nat
  | 0, r => r
  | k + 1, r => rootBits n k (if (r + 2 ^ k) * (r + 2 ^ k) ≤ n then r + 2 ^ k else r)

/-- Bit n of a number. -/
def bit (w n : Nat) : Bool := w / 2 ^ n % 2 = 1

/-- 1 for true. -/
def ofBool (b : Bool) : Nat := if b then 1 else 0

/-- n bytes of v, most significant first (R5). -/
def be : Nat → Nat → List Byte
  | 0, _ => []
  | n + 1, v => BitVec.ofNat 8 (v / 256 ^ n) :: be n (v % 256 ^ n)

/-- The number that bytes spell, most significant first (R5). -/
def ofBe (l : List Byte) : Nat := l.foldl (fun a b => a * 256 + b.toNat) 0

/-- Bytes off to off + n - 1 of a list, read as a number. -/
def field (l : List Byte) (off n : Nat) : Nat := ofBe ((l.drop off).take n)

/-- The list with its elements from off replaced by those of v. -/
def splice {α : Type} (l : List α) (off : Nat) (v : List α) : List α := l.take off ++ v ++ l.drop (off + v.length)

/-- v padded with zero bytes, or cut, to n bytes. -/
def fit (n : Nat) (v : List Byte) : List Byte := (v ++ List.replicate n 0).take n

/-- A TIME in its encoding (R317). -/
def Time.bytes (t : Time) : List Byte := be 6 t.secs ++ be 4 t.nanos

/-- Bits set in a number below 2 ^ n. -/
def popcount (n w : Nat) : Nat := iter (fun i a => a + w / 2 ^ i % 2) n 0 0

/-! ## The SRAM (R371 to R376) -/

/-- Region of an address that exists, and none outside the map (R371). -/
def regionOf (a : Nat) : Option Nat :=
  if a < 0x200000 then some 0 else if a < 0x500000 then some 1 else if a < 0x540000 then some 2
  else if a < 0x5C0000 then some 3 else if a < 0x6C0000 then some 4 else if a < 0x740000 then some 5
  else if a < 0x940000 then some 6 else if a < 0x980000 then some 7
  else if 0xA00000 ≤ a ∧ a < 0xA90000 then some 8 else none

/-- Bases and sizes of the regions (R371). -/
def regionBase : Nat → Nat
  | 0 => 0 | 1 => 0x200000 | 2 => 0x500000 | 3 => 0x540000 | 4 => 0x5C0000
  | 5 => 0x6C0000 | 6 => 0x740000 | 7 => 0x940000 | _ => 0xA00000
def regionSize : Nat → Nat
  | 0 => 0x200000 | 1 => 0x300000 | 2 => 0x40000 | 3 => 0x80000 | 4 => 0x100000
  | 5 => 0x80000 | 6 => 0x200000 | 7 => 0x40000 | _ => 0x90000

/-- The word that holds a byte address. -/
def wordOf (a : Nat) : Nat := a / 8 * 8

/-- The canonical form of memory (R372): addresses rise, no listed byte reads 0, no listed mark is clear. -/
def Mem.wf (m : Mem) : Bool := Tab.wf 0 m.cells && Tab.wf false m.poison && Tab.wf false m.bytePoison

/-- One stored byte; an unlisted byte reads 0 (R372). -/
def Mem.cell (m : Mem) (a : Nat) : Byte := tget 0 m.cells a

/-- The merge-buffer entry of a word. -/
def mergeEntry : List MergeEntry → Nat → Option MergeEntry
  | [], _ => none
  | e :: l, a => if e.word = a then some e else mergeEntry l a

/-- One byte as a reader sees it: a merge-buffer entry's bytes win (R375). -/
def Mem.byte (m : Mem) (a : Nat) : Byte :=
  match mergeEntry m.merge (wordOf a) with
  | some e => (tfind e.bytes a).getD (m.cell a)
  | none => m.cell a

/-- n bytes from a, as a reader sees them. -/
def Mem.bytes (m : Mem) : Nat → Nat → List Byte
  | _, 0 => []
  | a, n + 1 => m.byte a :: m.bytes (a + 1) n

/-- The word at a, most significant byte first (R107, R371). -/
def Mem.word (m : Mem) (a : Nat) : Nat := ofBe (m.bytes a 8)

/-- A word's poison mark: its own bit, or that of any of its bytes under PER_BYTE (R373, R377). -/
def Mem.poisoned (m : Mem) (a : Nat) : Bool :=
  tget false m.poison (wordOf a) || m.bytePoison.any (fun e => e.2 && wordOf e.1 = wordOf a)

/-- One stored byte is replaced. -/
def Mem.setCell (m : Mem) (a : Nat) (b : Byte) : Mem := { m with cells := tset 0 m.cells a b }

/-- Stored bytes from a are replaced. -/
def Mem.setCells (m : Mem) : Nat → List Byte → Mem
  | _, [] => m
  | a, b :: l => (m.setCell a b).setCells (a + 1) l

/-- The poison bit of the word at a is set to b. -/
def Mem.mark (m : Mem) (a : Nat) (b : Bool) : Mem := { m with poison := tset false m.poison (wordOf a) b }

/-- The word holds no merge-buffer entry and no pending write-back (R374, R375). -/
def Mem.settle (m : Mem) (a : Nat) : Mem :=
  { m with merge := m.merge.filter (fun e => e.word ≠ a), writebacks := m.writebacks.filter (fun e => e.1 ≠ a) }

/-- A full-word write: eight bytes, poison cleared (R376). An entry of the merge buffer retires first (R375) and a
corrective write-back is cancelled (R374). -/
def Mem.putBytes8 (m : Mem) (a : Nat) (l : List Byte) : Mem :=
  let m' := ((m.settle a).setCells a (fit 8 l)).mark a false
  if m.poisoned a then { m' with cleared := a :: m'.cleared } else m'

def Mem.putWord (m : Mem) (a w : Nat) : Mem := m.putBytes8 a (be 8 w)

/-- Several full-word writes from a. -/
def Mem.putWords (m : Mem) : Nat → List Nat → Mem
  | _, [] => m
  | a, w :: l => (m.putWord a w).putWords (a + 8) l

/-- Bytes that cover whole words are written word by word; n counts the words. -/
def Mem.putBlock (m : Mem) : Nat → Nat → List Byte → Mem
  | _, 0, _ => m
  | a, n + 1, l => (m.putBytes8 a (l.take 8)).putBlock (a + 8) n (l.drop 8)

/-- A word is written together with the mark its data carries (R380). -/
def Mem.copyWord (m : Mem) (a w : Nat) (p : Bool) : Mem := (m.putWord a w).mark a p

/-- The words and bytes that p picks are rewritten whole with zero (R374, R376): marks, entries and write-backs go, and the words whose
marks went are noted (R387). -/
def Mem.blank (m : Mem) (p : Nat → Bool) : Mem := { m with
  cells := m.cells.filter (fun c => !p c.1), poison := m.poison.filter (fun c => !p c.1)
  bytePoison := m.bytePoison.filter (fun c => !p c.1), merge := m.merge.filter (fun e => !p e.word)
  writebacks := m.writebacks.filter (fun c => !p c.1)
  cleared := ((m.poison.filter (fun c => p c.1)).map (fun c => c.1))
    ++ ((m.bytePoison.filter (fun c => p c.1)).map (fun c => wordOf c.1)) ++ m.cleared }

/-- A merge-buffer entry retires over a clean or poisoned word: its bytes are merged, poison stays as it is (R376). -/
def Mem.retire (m : Mem) (e : MergeEntry) : Mem :=
  { each e.bytes (fun c m => m.setCell c.1 c.2) m with merge := m.merge.filter (fun x => x.word ≠ e.word) }

/-- The oldest entry retires when all eight are busy (R375); its read finds no error: one that does is a MERGE_RETIRE of its own. -/
def Mem.makeRoom (m : Mem) : Mem :=
  match m.merge with
  | e :: _ => if m.merge.length < 8 then m else m.retire e
  | [] => m

/-- A narrow write of bytes that lie in one word (R375). -/
def Mem.narrow (m : Mem) (cells : List Host.Cell) (f : Finder) (host : Bool) : Mem :=
  match cells with
  | [] => m
  | c :: _ =>
    let a := wordOf c.1
    let m1 := { m with writebacks := m.writebacks.filter (fun e => e.1 ≠ a) }
    match mergeEntry m1.merge a with
    | some e =>
      let e' := { e with bytes := each cells (fun c t => tins t c.1 c.2) e.bytes, host := e.host || host }
      { m1 with merge := m1.merge.map (fun x => if x.word = a then e' else x) }
    | none =>
      let m2 := m1.makeRoom
      { m2 with merge := m2.merge ++ [⟨a, each cells (fun c t => tins t c.1 c.2) [], f, host⟩] }

/-- Bytes paired with their addresses. -/
def cellsFrom : Nat → List Byte → List Host.Cell
  | _, [] => []
  | a, b :: l => (a, b) :: cellsFrom (a + 1) l

/-- A write of bytes within one word: narrow unless it covers the word (R375). -/
def Mem.putPart (m : Mem) (a : Nat) (l : List Byte) (f : Finder) (host : Bool) : Mem :=
  if l.length = 8 ∧ a % 8 = 0 then m.putBytes8 a l else m.narrow (cellsFrom a l) f host

/-- Fields within the word at a are written by a narrow write of the bytes that change, on behalf of a block (R375, R376). -/
def Mem.putField (m : Mem) (a w : Nat) (f : Finder) : Mem :=
  m.narrow ((cellsFrom a (be 8 w)).filter (fun c => m.byte c.1 ≠ c.2)) f false

/-- Fields within several words from a. -/
def Mem.putFields (m : Mem) (f : Finder) : Nat → List Nat → Mem
  | _, [] => m
  | a, w :: l => (m.putField a w f).putFields f (a + 8) l

/-! ## Addresses of the tables (R107, R160, R165, R209, R241, R371) -/

def recAddr (e : Nat) : Nat := 64 * e
def calAddr (e : Nat) : Nat := 0x200000 + 88 * e
def darkAddr (i : Nat) : Nat := 0x4C0000 + 2 * i
def tapAddr (i : Nat) : Nat := 0x4D0000 + 2 * i
def chainAddr (k : Nat) : Nat := 0x4E0000 + 12 * k
def accAddr (i : Nat) : Nat := 0x540000 + 4 * i
def labelAddr (p : Nat) : Nat := 0x560000 + 8 * p
def elemAddr (e : Nat) : Nat := 0x571000 + 4 * e
def traceAddr (o : Nat) : Nat := 0x5C0000 + o
def bufferAddr (b : Nat) : Nat := 0x6C0000 + 0x40000 * b
def windowAddr (o : Nat) : Nat := 0x940000 + o
def bankAddr (b : Nat) : Nat := 0xA00000 + 0x48000 * b
def entryOff (k : Nat) : Nat := 16 * k
def targetOff (e : Nat) : Nat := 0x4000 + 8 * e
def cellOff (w : Nat) : Nat := 0x44000 + 8 * w

/-! ## States -/

/-- A command that changes only the device. -/
def State.upd (f : Dev → Dev) (s : State) : Host.Outcome State Fault Refusal := .next { s with dev := f s.dev }

/-- A command that the device may stop on. -/
def State.updM (f : Dev → Except Fault Dev) (s : State) : Host.Outcome State Fault Refusal :=
  match f s.dev with
  | .ok d => .next { s with dev := d }
  | .error e => .fault e

/-- The code of a write item is kept for the requester. -/
def Dev.reply (d : Dev) (r : Resp) : Dev := { d with req := { d.req with answer := some { code := r } } }

/-- The code and value of an item are kept for the requester. -/
def Dev.replyWith (d : Dev) (a : Answer) : Dev := { d with req := { d.req with answer := some a } }

/-- A write item: its effect stands and its code is kept for the requester. -/
def State.ask (f : Dev → Resp × Dev) (s : State) : Host.Outcome State Fault Refusal :=
  .next { s with dev := (f s.dev).2.reply (f s.dev).1 }

/-- Network time in nanoseconds. -/
def Belfry.now (t : Belfry) : Nat := 1000000000 * t.secs + t.nanos

def Dev.now (d : Dev) : Nat := d.time.now

/-- Local time since reset in ns, which the single step of R304 leaves alone: durations are measured on it. -/
def Dev.mono (d : Dev) : Nat := d.time.up

/-- The pairs of a list whose time lies less than 60 s back (R387). -/
def within60 {α : Type} (now : Nat) (time : α → Nat) (l : List α) : List α :=
  l.filter (fun e => now - time e < 60000000000)

/-- A command's effect on the SRAM; words whose poison it cleared are noted with the time (R387). -/
def Dev.mem (d : Dev) (f : Mem → Mem) : Dev :=
  let m := f d.sram
  { d with
    sram := { m with cleared := [] }
    memory := { d.memory with
      cleared := within60 d.mono (fun e => e.2) (m.cleared.map (fun a => (a, d.mono)) ++ d.memory.cleared) } }

/-- One more free value is drawn (log entry 4). -/
def Dev.draw (d : Dev) : Nat × Dev := (Config.fresh d.free, { d with free := d.free + 1 })

/-! ## Time (R17, R292) -/

/-- Cycle period in ns. -/
def Dev.period (d : Dev) : Nat := d.cyc.conf.period

/-- Cycle number: the network time of the cycle's tick divided by the period (R17). -/
def Dev.cycleNo (d : Dev) : Nat := d.time.lastTick / d.cyc.conf.period

/-- The tick count (extents in cycles are kept on it). -/
def Dev.ticks (d : Dev) : Nat := d.cyc.ticks

/-- A total time as a TIME. -/
def timeOf (ns : Nat) : Time := ⟨ns / 1000000000, ns % 1000000000⟩

def Time.total (t : Time) : Nat := 1000000000 * t.secs + t.nanos

/-- SECONDS wraps at 2 ^ 48 (R292): total times lie below this. -/
def timeWrap : Nat := 2 ^ 48 * 1000000000

/-- A clock set to a total time. -/
def Belfry.setNow (t : Belfry) (ns : Nat) : Belfry :=
  { t with secs := ns / 1000000000 % 2 ^ 48, nanos := ns % 1000000000 }

def Dev.setTime (d : Dev) (f : Belfry → Belfry) : Dev := { d with time := f d.time }

/-- The clock moves on to an instant of the present grid (a tick, the start of a slot, an instant counted back from the next
tick), whole nanoseconds on (R295); it never moves back. -/
def Dev.advanceTo (d : Dev) (t : Nat) : Dev :=
  if d.now < t then d.setTime (fun b => { b.setNow t with up := b.up + (t - b.now) }) else d

/-- The time is locked for R20: LOCKED or HOLDOVER (R303). -/
def Dev.locked (d : Dev) : Bool := d.time.state = .locked || d.time.state = .holdover

/-! ## Events (R398 to R404) -/

/-- High byte of an event's code: that of the index of its block (R399). -/
def EventName.high : EventName → Nat
  | .unsupportedRevision => 0x10
  | .firmwareSlotBad => 0xC0
  | .tickWindowClipped | .timeStepWaiting | .timeLocked | .timeHoldover | .timeLost => 0x20
  | .triggerFailed | .snapshotTaken | .snapshotSkipped => 0x21
  | .linkUp | .linkDown | .wiringFault => 0x30
  | .planeBMismatch | .addressChanged | .enumDone | .enumChildExcluded | .enumNoSpace => 0x31
  | .columnLoadHigh | .spareLoadRatio | .zoneSensorFault | .mateMissing => 0x40
  | .monitorOverrange | .converterTimeout | .auxRefFault => 0x41
  | .columnContention | .outputContention | .columnLineFault | .rowDriveFault | .lateDriveCode
  | .poisonedDriveCode | .lastCodeLost => 0x42
  | .residueMismatch | .laneFenced | .laneSelftestFail | .checkerFail | .elementFault | .elementDark | .elementLit => 0x50
  | .calPoisoned | .calDrift | .columnCalFail | .calColumnSkipped | .sweepForcedOnCircuit
  | .refitLimited => 0x53
  | .solveDone => 0x61
  | .commitMissed | .commitDone | .commitElementNotAuto | .bankMismatch => 0x62
  | .misconnect | .labelLost | .verifyDone => 0x63
  | .labelPairSuspended => 0x70
  | .learnQueueOverflow => 0x72
  | .memUe | .memCeRate | .memPoisonConsumed | .scrubDone | .recordRebuilt | .rebuildFailed | .hardError
  | .repairCandidate | .repairMapped | .repairDone | .repairExhausted => 0x80
  | .takeover | .claimLineFault | .towerUndriven | .mateLinksLost | .readinessChanged
  | .standbySelftestFail | .yieldFailed | .mateSyncLost | .coreHalted => 0x90
  | .thermalNormal | .thermalWarning | .thermalThrottle | .thermalShutdown | .dieSensorFault | .zoneTempHigh => 0xA0
  | .railOutOfRange | .railFault | .pumpFault => 0xA1
  | .deviceFaultDeclared | .guaranteeLost | .guaranteeRestored | .refclkFail => 0xB0

/-- Every event of the manual (R399). -/
def allEvents : List EventName := [
  .unsupportedRevision, .firmwareSlotBad, .tickWindowClipped, .timeStepWaiting, .timeLocked, .timeHoldover, .timeLost,
  .triggerFailed, .snapshotTaken, .snapshotSkipped, .linkUp, .linkDown, .wiringFault, .planeBMismatch, .addressChanged,
  .enumDone, .enumChildExcluded, .enumNoSpace, .columnLoadHigh, .spareLoadRatio, .zoneSensorFault, .mateMissing,
  .monitorOverrange, .converterTimeout, .auxRefFault, .columnContention, .outputContention, .columnLineFault,
  .rowDriveFault, .lateDriveCode, .poisonedDriveCode, .lastCodeLost, .residueMismatch, .laneFenced, .laneSelftestFail,
  .checkerFail, .elementFault, .elementDark, .elementLit, .calPoisoned, .calDrift, .columnCalFail, .calColumnSkipped,
  .sweepForcedOnCircuit, .refitLimited, .solveDone, .commitMissed, .commitDone, .commitElementNotAuto, .bankMismatch,
  .misconnect, .labelLost, .verifyDone, .labelPairSuspended, .learnQueueOverflow, .memUe, .memCeRate, .memPoisonConsumed,
  .scrubDone, .recordRebuilt, .rebuildFailed, .hardError, .repairCandidate, .repairMapped, .repairDone, .repairExhausted,
  .takeover, .claimLineFault, .towerUndriven, .mateLinksLost, .readinessChanged, .standbySelftestFail, .yieldFailed,
  .mateSyncLost, .coreHalted, .thermalNormal, .thermalWarning, .thermalThrottle, .thermalShutdown, .dieSensorFault,
  .zoneTempHigh, .railOutOfRange, .railFault, .pumpFault, .deviceFaultDeclared, .guaranteeLost, .guaranteeRestored,
  .refclkFail]

/-- The first number from v on, modulo 256, that is not in use; n bounds the search. -/
def firstUnused (used : List Nat) : Nat → Nat → Nat
  | 0, v => v
  | n + 1, v => if used.contains v then firstUnused used n ((v + 1) % 256) else v

/-- Low bytes of the events, given one after another: the firmware release's choice, which gives no two events of one block the same
number (R399). -/
def lowBytes : List EventName → List (EventName × Nat) → List (EventName × Nat)
  | [], l => l
  | e :: es, l =>
    let used := (l.filter (fun p => p.1.high = e.high)).map (fun p => p.2)
    lowBytes es (l ++ [(e, firstUnused used 255 (Config.eventLow e.ctorIdx).toNat)])

/-- Event code (R399): the low byte is the firmware release's. -/
def EventName.code (e : EventName) : Nat :=
  e.high * 256 + (((lowBytes allEvents []).find? (fun p => p.1 = e)).map (fun p => p.2)).getD 0

/-- Severity: given by R396, R409 and R411 for three events, and by the firmware release for the others (R399). -/
def EventName.severity (e : EventName) : Nat :=
  match e with
  | .deviceFaultDeclared | .thermalShutdown => 3
  | .thermalThrottle => 1
  | _ => (Config.eventSeverity e.ctorIdx).toNat

/-- Unread records. -/
def Dev.unread (d : Dev) : Nat := (d.ev.writeIndex - d.cfg.ev.readIndex).toNat

/-- A record is posted (R398, R400 to R403). -/
def Dev.post (d : Dev) (e : EventName) (args : List Nat) (summary : Bool) : Dev :=
  let r : EventRec := {
    seq := BitVec.ofNat 32 (d.ev.bootCount.toNat % 256 * 2 ^ 24 + d.ev.posted.toNat)
    at_ := ⟨d.time.secs, d.time.nanos⟩
    ev := e, locked := d.locked, faultN := e.severity = 3, summary := summary
    source := BitVec.ofNat 16 d.net.address, args := args }
  let v := { d.ev with
    posted := d.ev.posted + 1
    toSend := if d.cfg.ev.dest = 0 then d.ev.toSend else d.ev.toSend ++ [r]
    toLog := if e.severity < 2 then d.ev.toLog else d.ev.toLog ++ [r]
    unacked := if e.severity = 3 then d.ev.unacked + 1 else d.ev.unacked }
  if d.unread < 1024 then
    { d with ev := { v with ring := tins v.ring (v.writeIndex.toNat % 1024) r, writeIndex := v.writeIndex + 1 } }
  else { d with ev := { v with dropped := v.dropped + 1 } }

/-- Posted and suppressed records of a code in the present run. -/
def runCount : List (EventName × Nat × Nat) → EventName → Nat × Nat
  | [], _ => (0, 0)
  | (n, c) :: l, e => if n = e then c else runCount l e

def setRun (l : List (EventName × Nat × Nat)) (e : EventName) (c : Nat × Nat) : List (EventName × Nat × Nat) :=
  l.filter (fun x => x.1 ≠ e) ++ [(e, c)]

/-- An event is raised: posted, or counted as suppressed (R400). -/
def Dev.raise (d : Dev) (e : EventName) (args : List Nat := []) : Dev :=
  let c := runCount d.ev.counts e
  if c.1 < d.cfg.ev.suppressLimit then
    ({ d with ev := { d.ev with counts := setRun d.ev.counts e (c.1 + 1, c.2) } }).post e args false
  else if e.severity = 3 then
    ({ d with ev := { d.ev with counts := setRun d.ev.counts e (c.1 + 1, c.2) } }).post e args false
  else { d with ev := { d.ev with counts := setRun d.ev.counts e (c.1, c.2 + 1) } }

/-- An event is raised when a condition holds. -/
def Dev.raiseIf (d : Dev) (b : Bool) (e : EventName) (args : List Nat := []) : Dev := if b then d.raise e args else d

/-- An event record in its 32 bytes (R398). -/
def EventRec.bytes (r : EventRec) : List Byte :=
  be 4 r.seq.toNat ++ r.at_.bytes ++ be 2 r.ev.code ++ be 1 r.ev.severity
    ++ be 1 (ofBool r.locked + 2 * ofBool r.faultN + 4 * ofBool r.summary) ++ be 2 r.source.toNat
    ++ (fit 12 ((r.args.map (fun a => be 4 (a % 2 ^ 32))).flatten))

end Sys2Proof.Machine
end

