-- ==== Sys2Proof/Machine/Crypto.lean ====
section
/-! DEFINITION. The checks and digests the manual names: CRC-16 of the Dengaler header (R258), the frame check sequence of
IEEE 802.3 (R257), SHA-384, ECDSA P-384 (R323, R331, R359, R427, R432, R436, R438, R439). -/

namespace Sys2Proof.Machine

/-! ## Cyclic redundancy codes -/

/-- One bit of a CRC of n bits, most significant bit first. -/
def crcBit (n poly : Nat) (c : Nat) : Nat :=
  if bit c (n - 1) then (c * 2 % 2 ^ n) ^^^ poly else c * 2 % 2 ^ n

/-- One byte into a CRC of n bits, most significant bit first. -/
def crcByte (n poly : Nat) (c : Nat) (b : Byte) : Nat :=
  iter (fun _ c => crcBit n poly c) 8 0 (c ^^^ (b.toNat * 2 ^ (n - 8)))

/-- CRC-16 of the header: polynomial 0x1021, initial value 0xFFFF, no reflection, no final XOR (R258). -/
def crc16 (l : List Byte) : Nat := l.foldl (crcByte 16 0x1021) 0xFFFF

/-- One bit of the reflected CRC-32. -/
def crc32Bit (c : Nat) : Nat := if c % 2 = 1 then (c / 2) ^^^ 0xEDB88320 else c / 2

def crc32Byte (c : Nat) (b : Byte) : Nat := iter (fun _ c => crc32Bit c) 8 0 (c ^^^ b.toNat)

/-- The frame check sequence in the order its bytes are sent (R257): that of IEEE 802.3. -/
def fcs (l : List Byte) : List Byte :=
  let c := (l.foldl crc32Byte 0xFFFFFFFF) ^^^ 0xFFFFFFFF
  [BitVec.ofNat 8 c, BitVec.ofNat 8 (c / 2 ^ 8), BitVec.ofNat 8 (c / 2 ^ 16), BitVec.ofNat 8 (c / 2 ^ 24)]

/-! ## SHA-384 -/

def rotr64 (x n : Nat) : Nat := (x / 2 ^ n) ||| (x * 2 ^ (64 - n) % 2 ^ 64)

def sha384K : List Nat :=
  [0x428a2f98d728ae22, 0x7137449123ef65cd, 0xb5c0fbcfec4d3b2f, 0xe9b5dba58189dbbc, 0x3956c25bf348b538, 0x59f111f1b605d019, 0x923f82a4af194f9b, 0xab1c5ed5da6d8118, 0xd807aa98a3030242, 0x12835b0145706fbe]
  ++ [0x243185be4ee4b28c, 0x550c7dc3d5ffb4e2, 0x72be5d74f27b896f, 0x80deb1fe3b1696b1, 0x9bdc06a725c71235, 0xc19bf174cf692694, 0xe49b69c19ef14ad2, 0xefbe4786384f25e3, 0xfc19dc68b8cd5b5, 0x240ca1cc77ac9c65]
  ++ [0x2de92c6f592b0275, 0x4a7484aa6ea6e483, 0x5cb0a9dcbd41fbd4, 0x76f988da831153b5, 0x983e5152ee66dfab, 0xa831c66d2db43210, 0xb00327c898fb213f, 0xbf597fc7beef0ee4, 0xc6e00bf33da88fc2, 0xd5a79147930aa725]
  ++ [0x6ca6351e003826f, 0x142929670a0e6e70, 0x27b70a8546d22ffc, 0x2e1b21385c26c926, 0x4d2c6dfc5ac42aed, 0x53380d139d95b3df, 0x650a73548baf63de, 0x766a0abb3c77b2a8, 0x81c2c92e47edaee6, 0x92722c851482353b]
  ++ [0xa2bfe8a14cf10364, 0xa81a664bbc423001, 0xc24b8b70d0f89791, 0xc76c51a30654be30, 0xd192e819d6ef5218, 0xd69906245565a910, 0xf40e35855771202a, 0x106aa07032bbd1b8, 0x19a4c116b8d2d0c8, 0x1e376c085141ab53]
  ++ [0x2748774cdf8eeb99, 0x34b0bcb5e19b48a8, 0x391c0cb3c5c95a63, 0x4ed8aa4ae3418acb, 0x5b9cca4f7763e373, 0x682e6ff3d6b2b8a3, 0x748f82ee5defb2fc, 0x78a5636f43172f60, 0x84c87814a1f0ab72, 0x8cc702081a6439ec]
  ++ [0x90befffa23631e28, 0xa4506cebde82bde9, 0xbef9a3f7b2c67915, 0xc67178f2e372532b, 0xca273eceea26619c, 0xd186b8c721c0c207, 0xeada7dd6cde0eb1e, 0xf57d4f7fee6ed178, 0x6f067aa72176fba, 0xa637dc5a2c898a6]
  ++ [0x113f9804bef90dae, 0x1b710b35131c471b, 0x28db77f523047d84, 0x32caab7b40c72493, 0x3c9ebe0a15c9bebc, 0x431d67c49c100d4c, 0x4cc5d4becb3e42b6, 0x597f299cfc657e2a, 0x5fcb6fab3ad6faec, 0x6c44198c4a475817]

def sha384Start : List Nat :=
  [0xcbbb9d5dc1059ed8, 0x629a292a367cd507, 0x9159015a3070dd17, 0x152fecd8f70e5939, 0x67332667ffc00b31, 0x8eb44a8768581511, 0xdb0c2e0d64f98fa7, 0x47b5481dbefa4fa4]

/-- The next word of the message schedule from the last sixteen, newest first. -/
def shaNext (w : List Nat) : Nat :=
  let x := w.getD 1 0
  let y := w.getD 14 0
  let s1 := rotr64 x 19 ^^^ rotr64 x 61 ^^^ (x / 2 ^ 6)
  let s0 := rotr64 y 1 ^^^ rotr64 y 8 ^^^ (y / 2 ^ 7)
  (s1 + w.getD 6 0 + s0 + w.getD 15 0) % 2 ^ 64

/-- One round on the eight working variables. -/
def shaRound (v : List Nat) (k w : Nat) : List Nat :=
  match v with
  | [a, b, c, d, e, f, g, h] =>
    let s1 := rotr64 e 14 ^^^ rotr64 e 18 ^^^ rotr64 e 41
    let ch := (e &&& f) ^^^ ((2 ^ 64 - 1 - e) &&& g)
    let t1 := h + s1 + ch + k + w
    let s0 := rotr64 a 28 ^^^ rotr64 a 34 ^^^ rotr64 a 39
    let maj := (a &&& b) ^^^ (a &&& c) ^^^ (b &&& c)
    [(t1 + s0 + maj) % 2 ^ 64, a, b, c, (d + t1) % 2 ^ 64, e, f, g]
  | _ => v

/-- Eighty rounds: the constants left, the schedule's last sixteen words newest first, the words of the block still unused. -/
def shaRounds : List Nat → List Nat → List Nat → List Nat → List Nat
  | [], _, _, v => v
  | k :: ks, w, m :: ms, v => shaRounds ks ((m :: w).take 16) ms (shaRound v k m)
  | k :: ks, w, [], v =>
    let m := shaNext w
    shaRounds ks ((m :: w).take 16) [] (shaRound v k m)

/-- The words of a block of 128 bytes. -/
def words64 : Nat → List Byte → List Nat
  | 0, _ => []
  | n + 1, l => ofBe (l.take 8) :: words64 n (l.drop 8)

def shaBlock (h : List Nat) (l : List Byte) : List Nat :=
  List.zipWith (fun a b => (a + b) % 2 ^ 64) h (shaRounds sha384K [] (words64 16 l) h)

def shaBlocks : Nat → List Byte → List Nat → List Nat
  | 0, _, h => h
  | n + 1, l, h => shaBlocks n (l.drop 128) (shaBlock h (l.take 128))

/-- SHA-384 of a byte string: 48 bytes. -/
def sha384 (l : List Byte) : List Byte :=
  let zeros := (239 - l.length % 128) % 128
  let p := l ++ [0x80] ++ List.replicate zeros 0 ++ be 16 (l.length * 8)
  ((shaBlocks (p.length / 128) p sha384Start).take 6).flatMap (be 8)

/-! ## ECDSA P-384 -/

def p384P : Nat := 0xfffffffffffffffffffffffffffffffffffffffffffffffffffffffffffffffeffffffff0000000000000000ffffffff
def p384N : Nat := 0xffffffffffffffffffffffffffffffffffffffffffffffffc7634d81f4372ddf581a0db248b0a77aecec196accc52973
def p384B : Nat := 0xb3312fa7e23ee7e4988e056be3f82d19181d9c6efe8141120314088f5013875ac656398d8a2ed19d2a85c8edd3ec2aef
def p384Gx : Nat := 0xaa87ca22be8b05378eb1c71ef320ad746e1d3b628ba79b9859f741e082542a385502f25dbf55296c3a545e3872760ab7
def p384Gy : Nat := 0x3617de4a96262c6f5d9e98bf9292dc29f8f41dbd289a147ce9da3113b5f0b8c00a60b1ce1d7e819d7a431d7c90ea0e5f

/-- b to the power e modulo m, over n bits of e. -/
def powMod (m : Nat) : Nat → Nat → Nat → Nat → Nat
  | 0, _, _, acc => acc
  | n + 1, b, e, acc => powMod m n (b * b % m) (e / 2) (if e % 2 = 1 then acc * b % m else acc)

/-- Inverse modulo a prime of 384 bits. -/
def invMod (m a : Nat) : Nat := powMod m 384 (a % m) (m - 2) 1

/-- A point in Jacobian coordinates; z = 0 is the point at infinity. -/
structure ECPoint where
  x : Nat
  y : Nat
  z : Nat
deriving DecidableEq, Repr

def subP (a b : Nat) : Nat := (a + p384P - b % p384P) % p384P

def ECPoint.double (q : ECPoint) : ECPoint :=
  let zz := q.z * q.z % p384P
  let yy := q.y * q.y % p384P
  let s := 4 * q.x * yy % p384P
  let m := 3 * subP q.x zz * (q.x + zz) % p384P
  let x := subP (m * m) (2 * s)
  let y := subP (m * subP s x) (8 * yy * yy)
  ⟨x, y, 2 * q.y * q.z % p384P⟩

def ECPoint.add (a b : ECPoint) : ECPoint :=
  if a.z = 0 then b else if b.z = 0 then a else
  let za := a.z * a.z % p384P
  let zb := b.z * b.z % p384P
  let u1 := a.x * zb % p384P
  let u2 := b.x * za % p384P
  let s1 := a.y * zb * b.z % p384P
  let s2 := b.y * za * a.z % p384P
  if u1 = u2 then (if s1 = s2 then a.double else ⟨1, 1, 0⟩) else
  let h := subP u2 u1
  let r := subP s2 s1
  let hh := h * h % p384P
  let hhh := h * hh % p384P
  let v := u1 * hh % p384P
  let x := subP (r * r) (hhh + 2 * v)
  let y := subP (r * subP v x) (s1 * hhh)
  ⟨x, y, h * a.z * b.z % p384P⟩

/-- k times a point, over n bits of k, least significant first. -/
def ecMul : Nat → Nat → ECPoint → ECPoint → ECPoint
  | 0, _, _, acc => acc
  | n + 1, k, q, acc => ecMul n (k / 2) q.double (if k % 2 = 1 then acc.add q else acc)

/-- ECDSA P-384 verification: key 0x04, X, Y (97 bytes), a 48-byte digest, r and s of 48 bytes each. -/
def ecdsaVerify (key digest sig : List Byte) : Bool :=
  let qx := field key 1 48
  let qy := field key 49 48
  let r := field sig 0 48
  let s := field sig 48 48
  let w := invMod p384N s
  let u1 := ofBe digest * w % p384N
  let u2 := r * w % p384N
  let q := (ecMul 384 u1 ⟨p384Gx, p384Gy, 1⟩ ⟨1, 1, 0⟩).add (ecMul 384 u2 ⟨qx, qy, 1⟩ ⟨1, 1, 0⟩)
  let zi := invMod p384P q.z
  key.length = 97 && key.head? == some 0x04 && sig.length = 96
    && qx < p384P && qy < p384P && qy * qy % p384P = subP (qx * qx * qx + p384B) (3 * qx)
    && 0 < r && r < p384N && 0 < s && s < p384N
    && q.z ≠ 0 && q.x * (zi * zi % p384P) % p384P % p384N = r

/-- A secret number as a scalar that the curve admits. -/
def scalarOf (x : Nat) : Nat := x % (p384N - 1) + 1

/-- X and Y of a multiple of the curve's generator. -/
def ecBase (k : Nat) : Nat × Nat :=
  let q := ecMul 384 k ⟨p384Gx, p384Gy, 1⟩ ⟨1, 1, 0⟩
  let zi := invMod p384P q.z
  (q.x * (zi * zi % p384P) % p384P, q.y * (zi * zi % p384P * zi % p384P) % p384P)

/-- The public key of a private one: 0x04, X, Y. -/
def publicKey (secret : Nat) : List Byte :=
  let q := ecBase (scalarOf secret)
  [0x04] ++ be 48 q.1 ++ be 48 q.2

/-- r and s of ECDSA P-384 over a digest, with one number drawn. -/
def ecdsaPair (secret k : Nat) (digest : List Byte) : Nat × Nat :=
  let r := (ecBase (scalarOf k)).1 % p384N
  (r, invMod p384N (scalarOf k) * ((ofBe digest + r * scalarOf secret) % p384N) % p384N)

/-- ECDSA P-384 signature of 96 bytes: another number is drawn where r or s would be 0. -/
def ecdsaSign (secret : Nat) (nonce : Nat → Nat) (digest : List Byte) : List Byte :=
  let tries := (List.range 4).map (fun i => ecdsaPair secret (nonce i) digest)
  let p := (tries.find? (fun p => p.1 ≠ 0 && p.2 ≠ 0)).getD (1, 1)
  be 48 p.1 ++ be 48 p.2

end Sys2Proof.Machine
end

