-- ==== Sys2Proof/Machine/Flags.lean ====
section
/-! DEFINITION. Status the part computes from other state: HEALTH_CAUSES, HEALTH and the claim number, the role,
GUARANTEE_STATE, FAULT_N and IRQ_N, lane duties. -/

namespace Sys2Proof.Machine

/-! ## Straps and lane duties (R255, R340, R424) -/

def Dev.domeEn (d : Dev) : Bool := bit d.boot.straps.toNat 0
def Dev.chainEn (d : Dev) : Bool := bit d.boot.straps.toNat 1
def Dev.unit (d : Dev) : Nat := bitsOf d.boot.straps.toNat 4 4

/-- The record of a lane. -/
def Dev.lane (d : Dev) (l : Nat) : Lane := tget {} d.net.lanes l

def Dev.setLane (d : Dev) (l : Nat) (x : Lane) : Dev :=
  { d with net := { d.net with lanes := tset {} d.net.lanes l x } }

def Dev.laneUp (d : Dev) (l : Nat) : Bool := (d.lane l).state = .up

/-- LANE_ENABLE (R276). -/
def Dev.laneEnabled (d : Dev) (l : Nat) : Bool := tget true d.cfg.net.laneEnable l

/-- LANE_RATE: 1 is 25G; a lane not written follows the strap LINK_RATE (R254, R276). -/
def Dev.laneRate (d : Dev) (l : Nat) : Nat := (tfind d.cfg.net.laneRate l).getD (bitsOf d.boot.straps.toNat 2 1)

/-- LANE_FEC: there is none at 10G, whatever was strapped or written before the rate. -/
def Dev.laneFec (d : Dev) (l : Nat) : Bool := d.laneRate l = 1 && (tfind d.cfg.net.laneFec l).getD (bit d.boot.straps.toNat 3)

/-- Largest frame of a lane, and largest payload (R254, R257). -/
def Dev.mtu (d : Dev) (l : Nat) : Nat := if d.laneRate l = 1 then 2048 else 1024
def Dev.maxPayload (d : Dev) (l : Nat) : Nat := if d.laneRate l = 1 then 2010 else 986

/-- A mate link is UP (R353, R392). -/
def Dev.mateUp (d : Dev) : Bool := d.laneUp 2 || d.laneUp 3

/-! ## Claim (R343 to R351) -/

/-- The outputs are enabled. -/
def Dev.driving (d : Dev) : Bool := d.arr.outputState = .driving

/-- "While a mate drives" (R344). -/
def Dev.mateDrives (d : Dev) : Bool := !d.driving && d.tow.winIncumbent

def Dev.fencedCount (d : Dev) : Nat := popcount 16 d.loop.fenced.toNat

/-- Time states that cap HEALTH (R344 [2]). -/
def TimeState.unsure : TimeState → Bool
  | .free | .acquiring | .lockPending | .expired => true
  | .locked | .holdover => false

/-- A claim line takes part: it is neither FAULTY nor excluded by CLAIM_LINE_MASK (R347). -/
def Dev.lineUsable (d : Dev) (b : Bool) : Bool :=
  (if b then d.tow.lineB else d.tow.lineA) ≠ 2 && !bit d.cfg.tow.mask.toNat (ofBool b)

/-- No line will be usable in the next window (R348, R349): a FAULTY line that CLAIM_LINE_CLEAR has admitted is usable in it. -/
def Dev.cannotArbitrate (d : Dev) : Bool :=
  !([false, true].any (fun b => d.lineUsable b || (d.tow.clearDue && !bit d.cfg.tow.mask.toNat (ofBool b))))

/-- HEALTH_CAUSES (R344); under RESET_N low it reads its reset value. -/
def Dev.healthCauses (d : Dev) : Nat :=
  if d.boot.phase = .held then 0x40000 else
  ofBool (d.fencedCount = 1)
  + 2 * ofBool (d.drv.permanent ≠ [] ∨ d.drv.heldHighZ ≠ [])
  + 2 ^ 2 * ofBool d.time.state.unsure
  + 2 ^ 3 * ofBool (2 ≤ d.fencedCount)
  + 2 ^ 4 * ofBool d.tow.contention
  + 2 ^ 5 * ofBool (d.drv.rowFault ≠ 0)
  + 2 ^ 6 * ofBool (d.tow.readiness = 1 ∧ d.mateDrives)
  + 2 ^ 7 * ofBool (d.tow.coreHalted || d.tow.heartbeatLost)
  + 2 ^ 8 * ofBool (d.tow.selftest ≠ 0)
  + 2 ^ 9 * ofBool d.cannotArbitrate
  + 2 ^ 10 * ofBool (d.tow.readiness = 0 ∧ d.mateDrives)
  + 2 ^ 16 * ofBool (d.tow.dutyState ≠ .running ∨ d.tow.yieldState = 2)
  + 2 ^ 17 * ofBool (d.therm.state = 3 ∨ d.ev.deviceFault ≠ 0)
  + 2 ^ 18 * ofBool (d.boot.phase ≠ .firmware)
  + 2 ^ 19 * ofBool (d.unit = 15)

/-- Cap on HEALTH of each bit of HEALTH_CAUSES (R344). -/
def healthCap : Nat → Nat
  | 0 | 1 => 6
  | 2 | 3 | 4 => 5
  | 5 | 6 => 4
  | 7 | 8 | 9 => 3
  | 10 => 2
  | 16 | 17 | 18 | 19 => 0
  | _ => 7

/-- HEALTH: the smallest cap among the conditions present, 7 when none is (R344). -/
def healthOf (causes : Nat) : Nat := iter (fun i h => if bit causes i then min h (healthCap i) else h) 20 0 7

def Dev.health (d : Dev) : Nat := healthOf d.healthCauses

/-- The claim number (R343). -/
def claimNumber (health : Nat) (incumbent : Bool) (rank unit : Nat) : BitVec 16 :=
  BitVec.ofNat 16 (health * 2 ^ 13 + ofBool incumbent * 2 ^ 12 + rank % 256 * 2 ^ 4 + unit % 16)

def Dev.claimNumber (d : Dev) : BitVec 16 := Machine.claimNumber d.health d.driving d.cfg.tow.rank d.unit

/-- TOWER_ROLE as a tick judges it (R351): 0 ACTIVE, 1 STANDBY, 2 IDLE, 3 WITHDRAWN. -/
def Dev.roleNow (d : Dev) : Nat :=
  if d.driving then 0 else if d.health = 0 then 3 else if d.mateDrives then 1 else 2

/-! ## Pins (R403, R404) -/

/-- FAULT_N is low (R403). -/
def Dev.faultLow (d : Dev) : Bool :=
  d.boot.phase = .held || bit d.healthCauses 17 || bit d.healthCauses 18 || d.ev.unacked ≠ 0

/-- The record at a write index. -/
def Dev.recordAt (d : Dev) (i : Nat) : Option EventRec := tfind d.ev.ring (i % 1024)

/-- IRQ_N is low: an unread record reaches IRQ_LEVEL (R404), from firmware start on (R423), where firmware then stopped (R8) as well. -/
def Dev.irqLow (d : Dev) : Bool :=
  (d.boot.phase = .firmware || d.boot.phase = .stopped) &&
  (firstWhere (fun i => match d.recordAt (d.cfg.ev.readIndex.toNat + i) with
    | some r => d.cfg.ev.irqLevel ≤ r.ev.severity
    | none => false) (min d.unread 1024) 0).isSome

/-! ## GUARANTEE_STATE (R392) -/

/-- MATE_REPORT is current: fewer than 2,048 cycles have passed since its receipt (R356). -/
def Dev.reportCurrent (d : Dev) : Bool :=
  match d.tow.reportAt with
  | some t => d.ticks - t < 2048
  | none => false

/-- Fields of MATE_REPORT (R356). -/
def Dev.mateRole (d : Dev) : Nat := field d.tow.mateReport 2 1
def Dev.mateReadiness (d : Dev) : Nat := field d.tow.mateReport 3 1
def Dev.mateHealth (d : Dev) : Nat := healthOf (field d.tow.mateReport 16 4)
def Dev.mateCheckpoint (d : Dev) : Bool := bit (field d.tow.mateReport 28 1) 0

/-- Condition [0]: rails OK, pumps regulating, no broken sensor, die and zones below their warning levels (R413). -/
def Dev.environmentGood (d : Dev) : Bool :=
  d.therm.railState = [] && d.therm.pumpH = 2 && d.therm.pumpL = 2
    && d.therm.sensorState = [] && d.therm.dieTempMax < 10000
    && (List.range 16).all (fun z => tget 0 d.arr.zoneTemp z < d.cfg.therm.zoneWarn)

/-- Condition [1]: one ACTIVE unit and one STANDBY unit with HEALTH 7 and READINESS READY; it stays failed in a controller
alone on its array (R44). -/
def Dev.towerGood (d : Dev) : Bool :=
  d.arr.wiredOn && d.reportCurrent &&
  ((d.tow.role = 0 && d.mateRole = 1 && d.mateHealth = 7 && d.mateReadiness = 2)
    || (d.tow.role = 1 && d.health = 7 && d.tow.readiness = 2 && d.mateRole = 0))

/-- Condition [4]: the diagnostic settings. -/
def Dev.diagnosticsGood (d : Dev) : Bool :=
  d.cfg.cal.rotation = 1 && d.cfg.mem.scrubAuto && 4096 ≤ d.cfg.mem.scrubRate && d.cfg.tow.interval ≤ 256
    && d.cfg.tow.mask = 0 && d.cfg.net.helloPeriod ≤ 1000 && d.cfg.time.syncLog2 ≤ -4
    && d.cfg.drv.contentionLimit ≤ 200 && (d.tow.role ≠ 0 || d.cfg.loop.control = 1)

def Dev.guaranteeNow (d : Dev) : Nat :=
  ofBool (!d.environmentGood)
  + 2 * ofBool (!d.towerGood)
  + 4 * ofBool (!(d.cfg.tow.enable && d.reportCurrent && d.mateCheckpoint && d.mateUp))
  + 8 * ofBool (!(d.laneUp 0 && d.laneUp 1 && !d.net.chain))
  + 16 * ofBool (!d.diagnosticsGood)
  + 32 * ofBool (bitsOf d.healthCauses 0 10 ≠ 0)

/-- The tick's evaluation of GUARANTEE_STATE, with GUARANTEE_LOST and GUARANTEE_RESTORED (R392). -/
def Dev.judgeGuarantee (d : Dev) : Dev :=
  let g := d.guaranteeNow
  let old := d.ev.guarantee.toNat
  let d := { d with ev := { d.ev with guarantee := BitVec.ofNat 16 g } }
  (d.raiseIf (old = 0 ∧ g ≠ 0) .guaranteeLost [g]).raiseIf (old ≠ 0 ∧ g = 0) .guaranteeRestored

end Sys2Proof.Machine
end

