-- ==== Sys2Proof/Machine/Frames.lean ====
section
/-! DEFINITION. Dengaler frames, routing, egress queues and ingress meters: the operations that every sender and receiver
of frames shares (R254 to R260, R268 to R271, R278, R279, R286 to R288). -/

namespace Sys2Proof.Machine

/-! ## The header (R258) -/

def Frame.version (f : Frame) : Nat := field f.hdr 0 1 / 16
def Frame.poison (f : Frame) : Bool := bit (field f.hdr 0 1) 3
def Frame.planeB (f : Frame) : Bool := bit (field f.hdr 0 1) 2
def Frame.switched (f : Frame) : Bool := bit (field f.hdr 0 1) 1
def Frame.cls (f : Frame) : Nat := field f.hdr 1 1 / 32
def Frame.typ (f : Frame) : Nat := field f.hdr 1 1 % 32
def Frame.dest (f : Frame) : Nat := field f.hdr 2 2
def Frame.src (f : Frame) : Nat := field f.hdr 4 2
def Frame.hops (f : Frame) : Nat := field f.hdr 6 1 / 4
def Frame.seq (f : Frame) : Nat := field f.hdr 8 2
def Frame.length (f : Frame) : Nat := field f.hdr 10 2
def Frame.timestamp (f : Frame) : Nat := field f.hdr 12 4
def Frame.payload (f : Frame) : List Byte := f.body.take f.length

/-- Bytes of the frame, DA to FCS. -/
def Frame.size (f : Frame) : Nat := 38 + f.body.length

/-- Wire size W: the bytes plus 20 for preamble, delimiter and gap. -/
def Frame.wire (f : Frame) : Nat := f.size + 20

/-- The frame's bytes by LENGTH of its header, which the meter and the window test use (R282, R286), and its W. -/
def Frame.stated (f : Frame) : Nat := max 64 (38 + f.length)
def Frame.statedWire (f : Frame) : Nat := f.stated + 20

/-- HCRC is recomputed over bytes 14 to 25. -/
def fixHcrc (h : List Byte) : List Byte := splice h 16 (be 2 (crc16 (h.take 12)))

/-- PLANE and SWITCHED are set, HOPS goes up (R259, R268, R269). -/
def Frame.setPlane (f : Frame) (b sw : Bool) : Frame :=
  let x := field f.hdr 0 1
  { f with hdr := fixHcrc (splice f.hdr 0 (be 1 (putBits (putBits x 2 1 (ofBool b)) 1 1 (ofBool sw)))) }

def Frame.hop (f : Frame) : Frame :=
  { f with hdr := fixHcrc (splice f.hdr 6 (be 1 (putBits (field f.hdr 6 1) 2 6 (f.hops + 1)))) }

/-- A frame of this controller (R257, R258): HOPS 0, TIMESTAMP 0 until it leaves. -/
def mkFrame (cls typ dest src seq : Nat) (planeB poison : Bool) (payload : List Byte) : Frame :=
  let h := be 1 (0x30 + 8 * ofBool poison + 4 * ofBool planeB) ++ be 1 (cls * 32 + typ) ++ be 2 dest ++ be 2 src
    ++ [0, 0] ++ be 2 seq ++ be 2 payload.length
  { hdr := h ++ be 4 0 ++ be 2 (crc16 h) ++ [0, 0]
    body := payload ++ List.replicate (26 - payload.length) 0 }

/-- Classes a type may take (R260). -/
def classAllowed (typ cls : Nat) : Bool :=
  match typ with
  | 0 | 1 => cls = 2
  | 3 | 4 | 5 => cls = 0
  | 8 | 9 => cls = 1 || cls = 2
  | 12 | 18 => cls = 3
  | 16 | 17 => cls = 4
  | 20 => cls = 5
  | n => 24 ≤ n && (cls = 6 || cls = 7)

/-- A change of the network's state. -/
def Dev.setNet (d : Dev) (f : Net → Net) : Dev := { d with net := f d.net }

/-! ## Counters and queues (R276, R278, R279, R291) -/

/-- Lane counter i of a lane goes up by n (wrapping). -/
def Dev.countLane (d : Dev) (l i n : Nat) : Dev :=
  let x := d.lane l
  d.setLane l { x with counters := tset 0 x.counters i (tget 0 x.counters i + BitVec.ofNat 64 n) }

/-- Codewords are counted on a lane with FEC (R276). -/
def Dev.countFec (d : Dev) (l : Nat) (w : FecSeen) : Dev :=
  if !d.laneFec l then d
  else
    let x := d.lane l
    let up (t : Tab (BitVec 64)) (i : Nat) (n : BitVec 32) : Tab (BitVec 64) := tset 0 t i (tget 0 t i + n.zeroExtend 64)
    d.setLane l { x with fec := up (up x.fec 0 w.corrected) 1 w.uncorrectable }

def Dev.countQueue (d : Dev) (x i n : Nat) : Dev :=
  { d with traf := { d.traf with
    queueCount := tset 0 d.traf.queueCount (4 * x + i) (tget 0 d.traf.queueCount (4 * x + i) + BitVec.ofNat 64 n) } }

def Dev.countMeter (d : Dev) (x i : Nat) : Dev :=
  { d with traf := { d.traf with
    meterCount := tset 0 d.traf.meterCount (3 * x + i) (tget 0 d.traf.meterCount (3 * x + i) + 1) } }

def Dev.queueLimit (d : Dev) (x : Nat) : Nat := tget 4096 d.cfg.traf.queueLimit x
def Dev.yellowLimit (d : Dev) (x : Nat) : Nat := tget 2048 d.cfg.traf.yellow x

/-! ## Duties (R255) -/

/-- Fields of a HELLO payload (R261). -/
def Lane.peerAddress (x : Lane) : Nat := field x.peer 0 2
def Lane.peerLane (x : Lane) : Nat := field x.peer 2 1
def Lane.peerUnit (x : Lane) : Nat := field x.peer 4 1 / 16
def Lane.peerParentA (x : Lane) : Nat := field x.peer 6 2
def Lane.peerSpanLow (x : Lane) : Nat := field x.peer 8 2
def Lane.peerSpanHigh (x : Lane) : Nat := field x.peer 10 2
def Lane.peerBlockHigh (x : Lane) : Nat := field x.peer 12 2

/-- LANE_DUTY (R255, R276): 0 and 1 uplinks or host links, 2 mate, 3 and 4 downlinks of plane A and B, 5 unused: a Finial has no
downlinks. -/
def Dev.laneDuty (d : Dev) (l : Nat) : Nat :=
  let x := d.lane l
  if d.boot.phase = .held || x.unused then 5
  else if l < 2 then l else if l < 4 then 2
  else if d.net.role = .finial || !x.heard then 5 else if x.peerLane = 0 then 3 else if x.peerLane = 1 then 4 else 5

/-- The lane is enabled: its receiver works and it has queues (R261, R274, R278). -/
def Lane.receives (x : Lane) : Bool := x.state = .down || x.state = .locked || x.state = .up

/-- What an enabled lane carries: HELLO, which is link-local and goes no further (R261); a mate lane in use, while UP, the three mate
types (R271); SL0 and SL1 ENUMERATE, and all while UP (R261); a downlink ENUMERATE when its peer is an SL0 or SL1, which gives it a
plane whatever the role is to be, and all while UP when it has one (R255). -/
def Dev.mayTravel (d : Dev) (l : Nat) (f : Frame) : Bool :=
  let x := d.lane l
  if !x.receives then false
  else if f.typ = 0 then f.dest = 0
  else if l < 2 then f.typ = 1 || d.laneUp l
  else if l < 4 then !x.unused && d.laneUp l && [16, 17, 18].contains f.typ
  else if f.typ = 1 then x.heard && x.peerLane ≤ 1
  else d.laneUp l && (d.laneDuty l = 3 || d.laneDuty l = 4)

/-- The downlinks of a plane. -/
def Dev.downlinks (d : Dev) (planeB : Bool) : List Nat :=
  ((List.range 92).map (fun i => i + 4)).filter (fun l => d.laneDuty l = (if planeB then 4 else 3) && d.laneUp l)

/-! ## Shapers (R283 to R285): B counts 1 byte / (65,536 * 15,625), so that a rate of 1 kb/s adds 128 per ns exactly -/

def bucketUnit : Nat := 65536 * 15625

def Dev.shaperRate (d : Dev) (x : Nat) : Nat := tget 1000000 d.cfg.traf.shaperRate x
def Dev.shaperBurst (d : Dev) (x : Nat) : Nat := tget 4136 d.cfg.traf.shaperBurst x
def Dev.shaperOn (d : Dev) (x : Nat) : Bool := tget false d.cfg.traf.shaperOn x

/-- B of a queue at the present instant: filled at SHAPER_RATE up to SHAPER_BURST since it was last brought up. -/
def Dev.bucketNow (d : Dev) (x : Nat) : Int :=
  let full : Int := d.shaperBurst x * bucketUnit
  match tfind d.traf.bucket x with
  | none => full
  | some (b, t) => min full (b + (128 * d.shaperRate x * (d.mono - t) : Nat))

def Dev.setBucket (d : Dev) (x : Nat) (b : Int) : Dev :=
  { d with traf := { d.traf with bucket := tins d.traf.bucket x (b, d.mono) } }

/-- SHAPER_BUCKET: whole bytes, rounded down (R291). -/
def Dev.bucketBytes (d : Dev) (x : Nat) : Int := d.bucketNow x / (bucketUnit : Int)

/-! ## The tick window (R56, R282): times in 0.01 ns -/

/-- When the tick window of the present cycle opens. -/
def Dev.windowOpens (d : Dev) : Nat := d.time.nextTick - d.cyc.windowOn

/-- Time that a byte takes, in 0.01 ns. -/
def Dev.byteTime (d : Dev) (l : Nat) : Nat := if d.laneRate l = 1 then 32 else 80

/-- A frame of W bytes ends before the window opens. -/
def Dev.fitsWindow (d : Dev) (l w : Nat) : Bool :=
  !d.cyc.windowOpen && (d.now * 100 + w * d.byteTime l ≤ d.windowOpens * 100 : Bool)

/-- A queue is blocked: its shaper is in debt, or its head cannot end before the tick window (R282, R284). -/
def Dev.blocked (d : Dev) (l c : Nat) (head : Frame) : Bool :=
  (d.shaperOn (8 * l + c) && d.bucketNow (8 * l + c) < 0) || !d.fitsWindow l head.statedWire

/-! ## Choosing the next frame (R280, R281) -/

def Dev.quantum (d : Dev) (x : Nat) : Nat := tget 2068 d.cfg.traf.quantum x

def nextClass (c : Nat) : Nat := if c = 7 then 1 else c + 1

/-- The pointer moves on, and the class it reaches has a fresh turn. -/
def Lane.advance (x : Lane) : Lane :=
  { x with ptr := nextClass x.ptr, fresh := tset false x.fresh (nextClass x.ptr) true }

/-- The selection among classes 1 to 7 with n turns left: the class chosen, and the lane's turns and deficits after. -/
def Dev.selectFrom (d : Dev) (l : Nat) : Nat → Lane → Option Nat × Lane
  | 0, x => (none, x)
  | n + 1, x =>
    let q := x.ptr
    match tget [] x.queues q with
    | [] => d.selectFrom l n { x with deficit := tset 0 x.deficit q 0 }.advance
    | h :: _ =>
      if d.blocked l q h.frame then d.selectFrom l n x.advance
      else
        let x := if tget false x.fresh q then
          { x with deficit := tset 0 x.deficit q (tget 0 x.deficit q + d.quantum (8 * l + q)), fresh := tset false x.fresh q false }
          else x
        if h.frame.wire ≤ tget 0 x.deficit q then
          (some q, { x with deficit := tset 0 x.deficit q (tget 0 x.deficit q - h.frame.wire) })
        else d.selectFrom l n x.advance

/-- The scheduler's choice: class 0 first, then deficit round robin. -/
def Dev.select (d : Dev) (l : Nat) : Option Nat × Lane :=
  let x := d.lane l
  if tget [] x.queues 0 ≠ [] then (some 0, x) else d.selectFrom l 8 x

/-! ## Queues (R278, R279) -/

/-- Bytes of a cut-through frame in transmission, which still count in its queue. -/
def Lane.cutBytes (x : Lane) (c : Nat) : Nat :=
  match x.sending with
  | some f => if x.cut && f.cls = c then f.size else 0
  | none => 0

/-- Bytes queued (R278). -/
def Lane.depth (x : Lane) (c : Nat) : Nat := ((tget [] x.queues c).map (fun q => q.frame.size)).sum + x.cutBytes c

/-- A frame is put at the end of its class's queue. -/
def Dev.enqueue (d : Dev) (l : Nat) (f : Frame) (cut : Bool) : Dev :=
  let x := d.lane l
  d.setLane l { x with queues := tset [] x.queues f.cls (tget [] x.queues f.cls ++ [{ frame := f, at_ := d.mono, cut := cut }]) }

/-- A forwarded frame goes cut-through: of class 0 to 2, it finds its queue empty, and the scheduler starts it at once (R259). -/
def Dev.atOnce (d : Dev) (l : Nat) (f : Frame) : Bool :=
  f.cls ≤ 2 && (d.lane l).sending.isNone && tget [] (d.lane l).queues f.cls = [] && ((d.enqueue l f true).select l).1 = some f.cls

/-- Admission to an egress queue (R279, R288): a yellow frame only below YELLOW_THRESHOLD. -/
def Dev.letIn (d : Dev) (l : Nat) (f : Frame) (yellow : Bool) (cut : Bool := false) : Dev :=
  let x := 8 * l + f.cls
  let depth := (d.lane l).depth f.cls
  if yellow && d.yellowLimit x ≤ depth then d.countQueue x 3 1
  else if d.queueLimit x < depth + f.size then d.countQueue x 2 1
  else d.enqueue l f cut

/-- The queued frames of a lane are discarded and counted in QUEUE_FLUSHED (R274, R279). -/
def Dev.flushLane (d : Dev) (l : Nat) : Dev :=
  let x := d.lane l
  let n := (x.queues.map (fun q => q.2.length)).sum
  (d.setLane l { x with queues := [] }).countLane l 7 n

/-! ## Entries and routing (R268 to R271) -/

/-- The lane of the route entry of a plane that holds an address. -/
def routeLane (planeB : Bool) (a : Nat) : Tab (Option Route) → Option Nat
  | [] => none
  | (_, some r) :: t => if r.planeB = planeB ∧ r.low ≤ a ∧ a ≤ r.high then some r.lane else routeLane planeB a t
  | (_, none) :: t => routeLane planeB a t

inductive Way where
  | deliver | out (l : Nat) | broadcast | noRoute
deriving DecidableEq, Repr

/-- Where a frame goes, its PLANE being given (R268). `inLane` is none for a frame of this controller; `free` leaves out the
test that stops a frame on the uplink of its arrival plane (R269). A Finial sends its own frames up. -/
def Dev.way (d : Dev) (inLane : Option Nat) (planeB free : Bool) (dest : Nat) : Way :=
  let up := if planeB then 1 else 0
  if inLane = some 2 ∨ inLane = some 3 then
    (if dest = d.net.address ∨ dest = 0 then .deliver else .noRoute)
  else if dest = 0 then .deliver
  else if dest = d.net.address then .deliver
  else if dest = 0xFFFF then .broadcast
  else if d.net.role = .finial ∧ inLane.isSome then .noRoute
  else match routeLane planeB dest d.net.routes with
    | some l => .out l
    | none =>
      if d.net.role = .dome then
        (if d.cfg.net.hostLow ≤ dest ∧ dest ≤ d.cfg.net.hostHigh then .out up else .noRoute)
      else if inLane = some up ∧ free = false then .noRoute
      else .out up

/-- A frame is delivered to this controller, with the lane it came in on; not one whose FCS fails. -/
def Dev.deliver (d : Dev) (l : Nat) (f : Frame) : Dev :=
  if f.bad then d else
  { d with net := { d.net with delivered := d.net.delivered ++ [(l, f)] } }

/-- A lane's count of a drop, for a frame that came in on a lane, or is this controller's own. -/
def Dev.drop (d : Dev) (inLane : Option Nat) (i : Nat) : Dev := d.countLane (inLane.getD 0) i 1

/-- A forwarder raises HOPS, and drops the frame at 63 (R268); one whose FCS fails goes on only where it has left already (R259). -/
def Dev.forward (d : Dev) (i l : Nat) (f : Frame) (yellow : Bool) : Dev :=
  if f.hops = 63 then d.countLane i 5 1
  else
    let cut := d.atOnce l f.hop
    if f.bad && !cut then d else d.letIn l f.hop yellow cut

/-- A frame leaves on a lane that carries it. One longer than that lane's MTU is not sent (R254); it is counted with the size drops
of the lane it came in on (DESIGN CHOICE, log entry 111). -/
def Dev.sendOn (d : Dev) (inLane : Option Nat) (l : Nat) (f : Frame) (yellow : Bool) : Dev :=
  if !d.mayTravel l f then d.drop inLane 5
  else if d.mtu l < f.size then d.drop inLane 4
  else match inLane with
    | none => d.letIn l f yellow
    | some i => d.forward i l f yellow

/-- The broadcast rule (R270): taken from the Dome itself, a host link, or the uplink of the frame's plane. -/
def Dev.broadcast (d : Dev) (inLane : Option Nat) (f : Frame) (yellow : Bool) : Dev :=
  let fits : Bool := match inLane with
    | none => d.net.role = .dome
    | some l => if d.net.role = .dome then l < 2 else l = ofBool f.planeB
  if fits then
    let d := d.deliver (inLane.getD 0) f
    each (d.downlinks f.planeB) (fun l d => d.sendOn inLane l f yellow) d
  else d.drop inLane 5

/-- Routing of a frame (R268, R269). -/
def Dev.route (d : Dev) (inLane : Option Nat) (f : Frame) (yellow : Bool) : Dev :=
  match d.way inLane f.planeB false f.dest with
  | .deliver => d.deliver (inLane.getD 0) f
  | .broadcast => d.broadcast inLane f yellow
  | .noRoute => d.drop inLane 5
  | .out l =>
    if d.laneUp l then d.sendOn inLane l f yellow
    else if f.switched then d.drop inLane 6
    else
      let g := f.setPlane (!f.planeB) true
      match d.way inLane g.planeB true g.dest with
      | .out k => if d.laneUp k then d.sendOn inLane k g yellow else d.drop inLane 6
      | _ => d.drop inLane 5

/-- The SEQ counter of the source goes up by one. -/
def Dev.nextSeq (d : Dev) : Dev := { d with net := { d.net with seq := d.net.seq + 1 } }

/-- A frame of this controller, routed by its address (R268): PLANE is A when SL0 is UP, else B, unless a plane is given. -/
def Dev.originate (d : Dev) (cls typ dest : Nat) (plane : Option Bool) (poison : Bool) (payload : List Byte) : Dev :=
  let p := plane.getD (!d.laneUp 0)
  (d.route none (mkFrame cls typ dest d.net.address d.net.seq.toNat p poison payload) false).nextSeq

/-- A link-local frame of this controller on one lane (DEST 0x0000, or the mate's address), where that lane carries it. PLANE is
that of every frame it originates (R268). -/
def Dev.sendLocal (d : Dev) (l cls typ dest : Nat) (poison : Bool) (payload : List Byte) : Dev :=
  let f := mkFrame cls typ dest d.net.address d.net.seq.toNat (!d.laneUp 0) poison payload
  if d.mayTravel l f && f.size ≤ d.mtu l then (d.letIn l f false).nextSeq else d

/-- The first delivered frame of a lane and type is taken up by its receiver. -/
def takeFirst (p : Nat × Frame → Bool) : List (Nat × Frame) → List (Nat × Frame)
  | [] => []
  | x :: l => if p x then l else x :: takeFirst p l

def Dev.take (d : Dev) (l typ : Nat) : Dev :=
  { d with net := { d.net with delivered := takeFirst (fun x => x.1 = l && x.2.typ = typ) d.net.delivered } }

/-- The first delivered frame of a type, whatever its lane, is taken up. -/
def Dev.takeAny (d : Dev) (typ : Nat) : Dev :=
  { d with net := { d.net with delivered := takeFirst (fun x => x.2.typ = typ) d.net.delivered } }

/-! ## Stamps (R297): FRAME_RECEIVE and SCHEDULER_SELECT stand for the instants at which the first bit of DA passes the MAC/PCS
boundary (DESIGN CHOICE, log entry 112) -/

/-- Transmit and receive latency of a lane in 0.1 ns (R297, R314). -/
def Dev.latency (d : Dev) (l : Nat) : Nat × Nat :=
  if d.laneRate l = 0 then (213, 349) else if d.laneFec l then (239, 469) else (116, 198)

/-- Total time at which a frame that starts now leaves the ball. -/
def Dev.leavesAt (d : Dev) (l : Nat) : Nat := (openQuot (10 * d.now + (d.latency l).1 : Nat) 10).toNat

/-- Receive stamp of a frame that arrives now, with its alignment term in 0.1 ns. -/
def Dev.rxStamp (d : Dev) (l align : Nat) : Nat :=
  let term := if d.laneFec l then align else 0
  (openQuot ((10 * d.now : Nat) - ((d.latency l).2 + term : Nat)) 10 % 2 ^ 32).toNat

/-- Receive stamp of the message of a type that is taken up on a lane: its frame's, or that of the present instant. -/
def Dev.stampOf (d : Dev) (l typ : Nat) : Nat :=
  match d.net.delivered.find? (fun x => x.1 = l && x.2.typ = typ) with
  | some x => x.2.rx
  | none => d.rxStamp l 0

/-! ## Ingress metering (R286 to R289): buckets count 1/8,000,000 byte -/

def meterUnit : Nat := 8000000

def Dev.profile (d : Dev) (c : Nat) : MeterProfile := tget {} d.cfg.traf.profile c

/-- Nanoseconds until a bucket with n missing units fills at a rate. -/
def fillTime (missing rate : Nat) : Nat := (missing + rate - 1) / rate

/-- The time from which both buckets are full, as they fill. -/
def Meter.fullAt (m : Meter) (p : MeterProfile) : Nat :=
  m.full.getD (m.at_ + max (fillTime (p.cbs * meterUnit - m.c) p.cir) (fillTime (p.pbs * meterUnit - m.p) p.pir))

/-- Both buckets brought up to an instant. -/
def Meter.upTo (m : Meter) (p : MeterProfile) (now : Nat) : Meter :=
  { m with
    c := min (p.cbs * meterUnit) (m.c + p.cir * (now - m.at_))
    p := min (p.pbs * meterUnit) (m.p + p.pir * (now - m.at_)), at_ := now
    full := if m.fullAt p ≤ now then some (m.fullAt p) else none }

inductive Colour where
  | green | yellow | red
deriving DecidableEq, Repr

/-- The two-rate three-colour marker in colour-blind mode (R286). -/
def Meter.mark (m : Meter) (n : Nat) : Colour × Meter :=
  let b := n * meterUnit
  if m.p < b then (.red, m)
  else if m.c < b then (.yellow, { m with p := m.p - b, full := none })
  else (.green, { m with p := m.p - b, c := m.c - b, full := none })

def meterIs (src cls : Nat) (m : Meter) : Bool := m.src = src && m.cls = cls

def freshMeter (src cls now : Nat) (p : MeterProfile) : Meter :=
  { src := src, cls := cls, c := p.cbs * meterUnit, p := p.pbs * meterUnit, at_ := now, full := some now }

/-- A frame is metered by its instance, or by the shared meter of its class while the table is full (R287). -/
def Dev.meterFrame (d : Dev) (f : Frame) : Colour × Dev :=
  let c := f.cls
  if c = 0 ∨ tget false d.cfg.traf.meterOn c = false then (.green, d) else
  let p := d.profile c
  let n := f.stated
  let held := (d.traf.meters.find? (meterIs f.src c))
  if held.isNone ∧ 4096 ≤ d.traf.meters.length then
    let m := ((d.traf.shared.find? (meterIs 0 c)).getD (freshMeter 0 c d.mono p)).upTo p d.mono
    let r := m.mark n
    (r.1, { d with traf := { d.traf with
      shared := d.traf.shared.filter (fun x => !meterIs 0 c x) ++ [r.2], sharedCount := d.traf.sharedCount + 1 } })
  else
    let m := (held.getD (freshMeter f.src c d.mono p)).upTo p d.mono
    let r := m.mark n
    (r.1, { d with traf := { d.traf with meters := d.traf.meters.filter (fun x => !meterIs f.src c x) ++ [r.2] } })

end Sys2Proof.Machine
end

