-- ==== Sys2Proof/Machine/Events.lean ====
section
/-! DEFINITION. Device faults, their restart, the event queue's upkeep, the fault log (R396, R397, R400 to R405). -/

namespace Sys2Proof.Machine

/-! ## Device faults (R396, R397) -/

/-- The Loop Engine stops at once, without STOPPING; STOP_CAUSE records the reason (R128). -/
def Dev.stopLoop (d : Dev) (cause : Nat) : Dev :=
  { d with loop := { d.loop with state := .stopped, stopCause := cause, due := none } }

/-- Every output is held at high impedance by a fault (R92, R396, R411). -/
def Dev.holdOutputs (d : Dev) : Dev :=
  { d with arr := { d.arr with outputState := .highZFault }, tow := { d.tow with driversAwake := false } }

/-- A device fault is declared (R396): DEVICE_FAULT keeps the first cause. -/
def Dev.declareFault (d : Dev) (n : Nat) : Dev :=
  let d := (d.holdOutputs.stopLoop 3)
  let d := { d with ev := { d.ev with
    deviceFault := if d.ev.deviceFault = 0 then n else d.ev.deviceFault
    declared := if d.ev.declared.contains n then d.ev.declared else d.ev.declared ++ [n] } }
  d.raise .deviceFaultDeclared [n]

/-- Cause 3 persists: both references lost, or the timebase PLL unlocked. -/
def Dev.clockBad (d : Dev) : Bool := (!d.ev.refA && !d.ev.refB) || !d.ev.pllLocked

/-- Cause 4 persists: a rail 0 to 5 reads other than OK. -/
def Dev.railBad (d : Dev) : Bool := d.therm.railState ≠ []

/-- A declared cause persists (R397). -/
def Dev.causePersists (d : Dev) : Bool :=
  (d.ev.declared.contains 3 && d.clockBad) || (d.ev.declared.contains 4 && d.railBad)

/-- OUTPUT_STATE no longer shows a fault, unless a shutdown still holds the outputs: they stay at high impedance until the unit next
wins, so that a win latched before does not count (R397). -/
def Dev.releaseHold (d : Dev) (held : Bool) : Dev :=
  if d.arr.outputState = .highZFault ∧ held = false then
    { d with
      arr := { d.arr with outputState := .highZ }
      tow := { d.tow with won := false, latched := d.tow.latched.map (fun _ => false) } }
  else d

/-- DEVICE_RESTART (R397). -/
def deviceRestart (v : Nat) (d : Dev) : Resp × Dev :=
  if v ≠ 1 then (.invalid, d)
  else if d.causePersists then (.conflict, d)
  else (.ok, Dev.releaseHold { d with ev := { d.ev with deviceFault := 0, declared := [] } } (d.therm.state = 3))

def execDeviceRestart (v : BitVec 8) (s : State) : Host.Outcome State Fault Refusal := s.ask (deviceRestart v.toNat)

/-- REFCLK_LOSS (R396): the named reference (false A, true B) is lost; the timebase moves from A to B; with both lost
cause 3 is declared. It stays on B when A returns, and is on A when B is then lost (DESIGN CHOICE, log entry 126). -/
def refclkLoss (which : Bool) (d : Dev) : Dev :=
  if (if which then d.ev.refB else d.ev.refA) = false then d
  else
    let d := { d with ev := { d.ev with
      refA := d.ev.refA && which, refB := d.ev.refB && !which
      onRefB := if which then d.ev.onRefB && !d.ev.refA else d.ev.refB } }
    let both := !d.ev.refA && !d.ev.refB
    let d := d.raiseIf (!which || both) .refclkFail
    if both then d.declareFault 3 else d

def execRefclkLoss (which : Bool) (s : State) : Host.Outcome State Fault Refusal := s.upd (refclkLoss which)

/-- TIMEBASE_PLL_UNLOCK (R396): unlocked for more than 1 µs, cause 3. -/
def timebasePllUnlock (d : Dev) : Dev :=
  Dev.declareFault { d with ev := { d.ev with pllLocked := false } } 3

def execTimebasePllUnlock (s : State) : Host.Outcome State Fault Refusal := s.upd timebasePllUnlock

/-! ## The event queue (R400 to R404) -/

/-- A cycle begins: where it is the first of a run of 1,024, the counts begin anew and the codes suppressed in the run that ended
wait for their SUMMARY records (R400). -/
def Dev.runTick (d : Dev) : Dev :=
  if d.cycleNo / 1024 = d.ev.run then d
  else { d with ev := { d.ev with
    run := d.cycleNo / 1024, counts := []
    ended := d.ev.ended ++ (d.ev.counts.filter (fun e => e.2.2 ≠ 0)).map (fun e => (e.1, e.2.2)) } }

/-- EVENT_SUMMARY (R400): at the end of a run one SUMMARY record of each code that was suppressed in it, with the count. -/
def eventSummary (d : Dev) : Dev :=
  each d.ev.ended (fun e d => d.post e.1 [e.2] true) { d with ev := { d.ev with ended := [] } }

def execEventSummary (s : State) : Host.Outcome State Fault Refusal := s.upd eventSummary

/-- EVENT frames of at most 30 records each (R401); the fuel is the number of records. -/
def Dev.sendEvents (d : Dev) (dest : Nat) : Nat → List EventRec → Dev
  | 0, _ => d
  | _, [] => d
  | n + 1, l =>
    let part := l.take 30
    let body := [1] ++ be 1 part.length ++ [0, 0] ++ part.flatMap EventRec.bytes
    (d.originate 3 12 dest none false body).sendEvents dest n (l.drop 30)

/-- EVENT_SEND (R401): the records posted are sent to EVENT_DEST while it is not 0x0000. -/
def eventSend (d : Dev) : Dev :=
  let l := d.ev.toSend
  let d := { d with ev := { d.ev with toSend := [] } }
  if d.cfg.ev.dest = 0 then d else d.sendEvents d.cfg.ev.dest.toNat l.length l

def execEventSend (s : State) : Host.Outcome State Fault Refusal := s.upd eventSend

def Dev.setFlash (d : Dev) (f : Flash → Flash) : Dev := { d with boot := { d.boot with flash := f d.boot.flash } }

/-- One record goes into the log's ring of 4,096. -/
def Flash.logOne (f : Flash) (r : EventRec) : Flash :=
  { f with log := tins f.log (f.logIndex.toNat % 4096) r.bytes, logIndex := f.logIndex + 1 }

/-- FAULT_LOG_COPY (R402): firmware copies the ERROR and FATAL records posted. -/
def faultLogCopy (d : Dev) : Dev :=
  let l := d.ev.toLog
  Dev.setFlash { d with ev := { d.ev with toLog := [] } } (fun f => each l (fun r f => f.logOne r) f)

def execFaultLogCopy (s : State) : Host.Outcome State Fault Refusal := s.upd faultLogCopy

/-- EVENT_READ_INDEX_WRITE (R400): within the span from the present read index to EVENT_WRITE_INDEX. -/
def eventReadIndexWrite (v : BitVec 16) (d : Dev) : Resp × Dev :=
  if (d.ev.writeIndex - d.cfg.ev.readIndex).toNat < (v - d.cfg.ev.readIndex).toNat then (.invalid, d)
  else (.ok, { d with cfg := { d.cfg with ev := { d.cfg.ev with readIndex := v } } })

def execEventReadIndexWrite (v : BitVec 16) (s : State) : Host.Outcome State Fault Refusal := s.ask (eventReadIndexWrite v)

/-- FAULT_LOG_CLEAR (R402): the log is erased; FAULT_LOG_INDEX goes on counting. -/
def faultLogClear (v : Nat) (d : Dev) : Resp × Dev :=
  if v ≠ 1 then (.invalid, d) else (.ok, d.setFlash (fun f => { f with log := [] }))

def execFaultLogClear (v : BitVec 8) (s : State) : Host.Outcome State Fault Refusal := s.ask (faultLogClear v.toNat)

/-- FAULT_ACK (R403): every FATAL record posted so far is acknowledged. -/
def faultAck (v : Nat) (d : Dev) : Resp × Dev :=
  if v ≠ 1 then (.invalid, d) else (.ok, { d with ev := { d.ev with unacked := 0 } })

def execFaultAck (v : BitVec 8) (s : State) : Host.Outcome State Fault Refusal := s.ask (faultAck v.toNat)

end Sys2Proof.Machine
end

