-- ==== Sys2Proof/Machine/Thermal.lean ====
section
/-! DEFINITION. Die sensors, thermal states, zone levels (R406 to R413, R421). -/

namespace Sys2Proof.Machine

def Dev.setTherm (d : Dev) (f : Thermal → Thermal) : Dev := { d with therm := f d.therm }

/-! ## Die sensors (R406 to R408): readings in 0.01 degree C -/

/-- The two to four sensors that share a grid edge with sensor s. -/
def neighbours (s : Nat) : List Nat :=
  (if 4 ≤ s then [s - 4] else []) ++ (if s % 4 = 0 then [] else [s - 1])
    ++ (if s % 4 = 3 then [] else [s + 1]) ++ (if s < 12 then [s + 4] else [])

def Thermal.broken (t : Thermal) (s : Nat) : Bool := tget 0 t.sensorState s ≠ 0

/-- A reading that exists and lies within -40 to 150 degree C. -/
def plausible (r : Option Int) : Bool :=
  match r with
  | some v => -4000 ≤ v && v ≤ 15000
  | none => false

def reading (sample : List (Option Int)) (s : Nat) : Option Int := (sample.getD s none)

/-- Sum of the readings of some sensors in one sample; none where a reading is missing. -/
def sumOf (sample : List (Option Int)) (l : List Nat) : Option Int :=
  l.foldl (fun a s => match a, reading sample s with | some x, some y => some (x + y) | _, _ => none) (some 0)

/-- Largest less smallest of the values that a function takes over the samples kept; none where one is missing. -/
def span (f : List (Option Int) → Option Int) : List (List (Option Int)) → Option Int
  | [] => none
  | h :: t =>
    (t.foldl (fun (a : Option (Int × Int)) x => match a, f x with
      | some (lo, hi), some v => some (min lo v, max hi v)
      | _, _ => none) ((f h).map (fun v => (v, v)))).map (fun p => p.2 - p.1)

/-- A sensor is STUCK (R407): over 1,024 samples its reading spans at most 0.25 degree C while the mean of its unbroken
neighbours spans more than 2.0. -/
def Thermal.stuck (t : Thermal) (s : Nat) : Bool :=
  let ns := (neighbours s).filter (fun k => !t.broken k)
  t.history.length = 1024 && ns ≠ [] &&
    (match span (fun x => reading x s) t.history, span (fun x => sumOf x ns) t.history with
     | some own, some other => own ≤ 25 && 200 * (ns.length : Int) < other
     | _, _ => false)

/-- A sample that counts toward a broken sensor's return: plausible, and within 5.0 degree C of its unbroken neighbours' mean; with none
of them unbroken there is no mean to keep to (R407; DEDUCED, log entry 129). -/
def Thermal.tracks (t : Thermal) (sample : List (Option Int)) (s : Nat) : Bool :=
  let ns := (neighbours s).filter (fun k => !t.broken k)
  match reading sample s, sumOf sample ns with
  | some v, some sum =>
    plausible (some v) && (v * ns.length - sum ≤ 500 * (ns.length : Int)) && (sum - v * ns.length ≤ 500 * (ns.length : Int))
  | _, _ => false

/-- One sensor is judged on a sample (R407): the case it breaks in (1 IMPLAUSIBLE, 2 STUCK), if it does. -/
def Thermal.breaks (t : Thermal) (sample : List (Option Int)) (s : Nat) : Option Nat :=
  if t.broken s then none
  else if plausible (reading sample s) = false then some 1
  else if t.stuck s then some 2 else none

/-- Reading, state and return of one sensor. -/
def Dev.judgeSensor (d : Dev) (sample : List (Option Int)) (s : Nat) : Dev :=
  let t := d.therm
  let temp := match reading sample s with
    | some v => tset 0 t.dieTemp s v
    | none => t.dieTemp
  let d := d.setTherm (fun t => { t with dieTemp := temp })
  match t.breaks sample s with
  | some c =>
    Dev.raise (d.setTherm (fun t => { t with sensorState := tset 0 t.sensorState s c, good := tset 0 t.good s 0 }))
      .dieSensorFault [s, c]
  | none =>
    if t.broken s then
      let n := if t.tracks sample s then tget 0 t.good s + 1 else 0
      d.setTherm (fun t => { t with
        good := tset 0 t.good s (if 1024 ≤ n then 0 else n)
        sensorState := if 1024 ≤ n then tset 0 t.sensorState s 0 else t.sensorState })
    else d

/-- DIE_TEMP_MAX: the highest reading among the plausible sensors; the last value when there is none (R408). -/
def Thermal.maxNow (t : Thermal) (sample : List (Option Int)) : Int :=
  let vs := ((List.range 16).filter (fun s => !t.broken s)).filterMap (fun s => reading sample s)
  match vs with
  | [] => t.dieTempMax
  | v :: l => l.foldl max v

/-! ## Thermal states (R409 to R411) -/

/-- THERMAL_STATE as the readings give it from a state (R409): each level is entered and left by its own conditions.
`none` plausible sensors bar SHUTDOWN (R408). -/
def stateFrom (old : Nat) (temp : Int) (anyBroken nonePlausible : Bool) : Nat :=
  if old = 3 then 3
  else if 12500 ≤ temp && !nonePlausible then 3
  else if 11000 ≤ temp || anyBroken then 2
  else if old = 2 && !(temp < 10500) then 2
  else if 10000 ≤ temp then 1
  else if 1 ≤ old && !(temp < 9500) then 1
  else 0

def levelEvent (n : Nat) : EventName :=
  match n with
  | 0 => .thermalNormal | 1 => .thermalWarning | 2 => .thermalThrottle | _ => .thermalShutdown

/-- Events of a change of state: every level passed on the way up in rising order, the state entered on the way down. -/
def Dev.levelEvents (d : Dev) (old new : Nat) : Dev :=
  if old < new then iter (fun n d => d.raise (levelEvent n)) (new - old) (old + 1) d
  else d.raiseIf (new < old) (levelEvent new)

/-- SHUTDOWN takes effect (R411): outputs held, the loop stopped (THERMAL), the readout OFF, its conversions discarded,
the rotation so suspended (R173), the decoder IDLE with no labels (R248), the pumps off. -/
def Dev.shutDown (d : Dev) : Dev :=
  let d := d.holdOutputs.stopLoop 1
  { d with
    rd := { d.rd with state := .off, leftOff := true, restartDue := false, conversions := [] }
    dec := { d.dec with state := .idle, chans := [] }
    therm := { d.therm with pumpH := 0, pumpL := 0 } }

/-- THERMAL_STATE after a sample, with its events and counts. -/
def Dev.thermalJudge (d : Dev) (sample : List (Option Int)) : Dev :=
  let t := d.therm
  let anyBroken := t.sensorState ≠ []
  let nonePlausible := (List.range 16).all (fun s => t.broken s)
  let top := t.maxNow sample
  let old := t.state
  let new := stateFrom old top anyBroken nonePlausible
  let hot := anyBroken || (List.range 16).any (fun s => match reading sample s with | some v => 10000 ≤ v | none => false)
  let cool := (List.range 16).all (fun s => match reading sample s with | some v => v < 9500 | none => true)
  let d := d.setTherm (fun t => { t with
    dieTempMax := top, peak := max t.peak top, state := new
    fast := t.fastNext, fastNext := if hot then true else if cool then false else t.fastNext
    throttleCount := if old < 2 ∧ 2 ≤ new then t.throttleCount + 1 else t.throttleCount })
  let d := d.levelEvents old new
  if old ≠ 3 ∧ new = 3 then d.shutDown else d

/-- DIE_SENSOR_SAMPLE (R406 to R411): all sixteen sensors are sampled together. -/
def dieSensorSample (sample : List (Option Int)) (d : Dev) : Dev :=
  let d := d.setTherm (fun t => { t with history := (sample :: t.history).take 1024 })
  let d := iter (fun s d => d.judgeSensor sample s) 16 0 d
  d.thermalJudge sample

def execDieSensorSample (readings : List (Option Int)) (s : State) : Host.Outcome State Fault Refusal :=
  s.upd (dieSensorSample readings)

/-- The tick's part: THROTTLE comes into force and ends at ticks (R410). -/
def Dev.throttleTick (d : Dev) : Dev := d.setTherm (fun t => { t with throttled := t.state = 2 })

/-! ## Restart (R412) -/

/-- A plausible sensor reads at or above 100 degree C. -/
def Dev.stillHot (d : Dev) : Bool :=
  (List.range 16).any (fun s => !d.therm.broken s && (10000 ≤ tget 0 d.therm.dieTemp s : Bool))

/-- THERMAL_RESTART: the readout leaves OFF at the next tick (R83). -/
def thermalRestart (v : Nat) (d : Dev) : Resp × Dev :=
  if v ≠ 1 then (.invalid, d)
  else if d.therm.state ≠ 3 ∨ d.stillHot then (.conflict, d)
  else
    let new := min 2 (stateFrom 0 d.therm.dieTempMax (d.therm.sensorState ≠ []) true)
    let d := d.setTherm (fun t => { t with state := new, pumpH := 1, pumpL := 1
                                           throttleCount := if new = 2 then t.throttleCount + 1 else t.throttleCount })
    let d := { d with rd := { d.rd with restartDue := true } }
    let d := d.releaseHold (d.ev.deviceFault ≠ 0)
    (.ok, d.raise (levelEvent new))

def execThermalRestart (v : BitVec 8) (s : State) : Host.Outcome State Fault Refusal := s.ask (thermalRestart v.toNat)

/-! ## Array zones (R413) -/

/-- Level of a zone's temperature with 5 degree C hysteresis, from the level it had. -/
def zoneLevel (warn high temp : Int) (old : Nat) : Nat :=
  if high ≤ temp ∨ (old = 2 ∧ high - 500 ≤ temp) then 2
  else if warn ≤ temp ∨ (1 ≤ old ∧ warn - 500 ≤ temp) then 1 else 0

/-- A zone's temperature in use is compared; ZONE_TEMP_HIGH on each entry to a higher level. -/
def Dev.judgeZone (d : Dev) (z : Nat) : Dev :=
  let old := tget 0 d.therm.zoneState z
  let temp := tget 0 d.arr.zoneTemp z
  let new := zoneLevel d.cfg.therm.zoneWarn d.cfg.therm.zoneHigh temp old
  let d := d.setTherm (fun t => { t with zoneState := tset 0 t.zoneState z new })
  d.raiseIf (old < new) .zoneTempHigh [z, new, code 32 temp]

/-- ZONE_WARN and ZONE_HIGH written: ZONE_WARN must not exceed ZONE_HIGH. -/
def zoneWarnWrite (v : Int) (d : Dev) : Resp × Dev :=
  if d.cfg.therm.zoneHigh < v then (.invalid, d)
  else (.ok, { d with cfg := { d.cfg with therm := { d.cfg.therm with zoneWarn := v } } })
def zoneHighWrite (v : Int) (d : Dev) : Resp × Dev :=
  if v < d.cfg.therm.zoneWarn then (.invalid, d)
  else (.ok, { d with cfg := { d.cfg with therm := { d.cfg.therm with zoneHigh := v } } })

end Sys2Proof.Machine
end

