-- ==== Sys2Proof/Machine/Supply.lean ====
section
/-! DEFINITION. Rails and charge pumps (R414 to R419, R422). -/

namespace Sys2Proof.Machine

def Dev.railState (d : Dev) (r : Nat) : Nat := tget 0 d.therm.railState r

def Dev.setRail (d : Dev) (r v : Nat) : Dev := d.setTherm (fun t => { t with railState := tset 0 t.railState r v })

/-- RAIL_OUT_OF_RANGE (R415): a rail has left its operating range for 2 µs. -/
def railOutOfRange (r : Nat) (d : Dev) : Dev :=
  if d.railState r = 0 then (d.setRail r 1).raise .railOutOfRange [r] else d

def execRailOutOfRange (rail : Fin 6) (s : State) : Host.Outcome State Fault Refusal := s.upd (railOutOfRange rail)

/-- RAIL_FAULT (R415): a rail has passed its fault limit for 2 µs: device fault 4. -/
def railFault (r : Nat) (d : Dev) : Dev :=
  if d.railState r = 2 then d else ((d.setRail r 2).declareFault 4).raise .railFault [r]

def execRailFault (rail : Fin 6) (s : State) : Host.Outcome State Fault Refusal := s.upd (railFault rail)

/-- RAIL_RECOVERED (R415): 1 ms within the operating range. -/
def railRecovered (r : Nat) (d : Dev) : Dev := d.setRail r 0

def execRailRecovered (rail : Fin 6) (s : State) : Host.Outcome State Fault Refusal := s.upd (railRecovered rail)

/-- State of a pump: 0 VRH, 1 VRL. -/
def Dev.pump (d : Dev) (p : Nat) : Nat := if p = 0 then d.therm.pumpH else d.therm.pumpL

def Dev.setPump (d : Dev) (p v : Nat) : Dev :=
  d.setTherm (fun t => if p = 0 then { t with pumpH := v } else { t with pumpL := v })

/-- PUMP_FAULT (R418): a running pump has passed its fault level in two checks. -/
def pumpFault (p : Nat) (d : Dev) : Dev :=
  if d.pump p = 1 ∨ d.pump p = 2 then (d.setPump p 3).raise .pumpFault [p] else d

def execPumpFault (pump : Fin 2) (s : State) : Host.Outcome State Fault Refusal := s.upd (pumpFault pump)

/-- PUMP_RESTART (R418): a faulted pump restarts, 100 µs after its fault. -/
def pumpRestart (p : Nat) (d : Dev) : Dev := if d.pump p = 3 then d.setPump p 1 else d

def execPumpRestart (pump : Fin 2) (s : State) : Host.Outcome State Fault Refusal := s.upd (pumpRestart pump)

/-- PUMP_REGULATING (R417): a pump that was started regulates. -/
def pumpRegulating (p : Nat) (d : Dev) : Dev := if d.pump p = 1 then d.setPump p 2 else d

def execPumpRegulating (pump : Fin 2) (s : State) : Host.Outcome State Fault Refusal := s.upd (pumpRegulating pump)

/-- PUMP_STATE, one object for two pumps: FAULT if one is, else OFF if one is, else STARTING if one is (log entry 17). -/
def Dev.pumpState (d : Dev) : Nat :=
  let h := d.therm.pumpH
  let l := d.therm.pumpL
  if h = 3 ∨ l = 3 then 3 else if h = 0 ∨ l = 0 then 0 else if h = 1 ∨ l = 1 then 1 else 2

/-- RAIL_STATE of rails 0 to 7 (R422): rails 6 and 7 follow the pumps. -/
def Dev.railShown (d : Dev) (r : Nat) : Nat :=
  if r < 6 then d.railState r
  else match d.pump (r - 6) with
    | 2 => 0
    | 3 => 2
    | _ => 1

/-- Scale of a position 16 to 29 (R419) as published units (mV of a rail, mA of a current) for 1 mV at the converter: a quotient. -/
def supplyScale : Nat → Int × Int
  | 16 | 17 | 18 => (1, 1)
  | 19 | 20 => (2, 1)
  | 21 | 22 => (4, 1)
  | 23 => (-1, 1)
  | 24 => (20, 1)
  | 25 => (10, 1)
  | 27 | 28 => (1, 20)
  | _ => (1, 1)

/-- The published value of a position's code: the converter spans 0 to 2.5 V in 65,536 steps (R82); the rounding is not stated
(log entry 90). -/
def supplyMilli (pos code : Nat) : Int :=
  openQuot ((code : Int) * 2500 * (supplyScale pos).1) (65536 * (supplyScale pos).2)

/-- A measurement of positions 16 to 29 (R419) is published. -/
def Dev.publishSupply (d : Dev) (pos : Nat) : Dev :=
  let v := supplyMilli pos (tget 0 d.rd.auxRaw pos)
  let volt (r : Nat) : Dev := d.setTherm (fun t => { t with railVoltage := tset 0 t.railVoltage r v })
  let curr (r : Nat) : Dev := d.setTherm (fun t => { t with railCurrent := tset 0 t.railCurrent r v.toNat })
  match pos with
  | 16 => volt 0 | 17 => volt 1 | 18 => volt 2 | 19 => volt 3 | 20 => volt 4 | 21 => volt 5 | 22 => volt 6 | 23 => volt 7
  | 24 => curr 0 | 25 => curr 2 | 26 => curr 5 | 27 => curr 6 | 28 => curr 7
  | _ => d

/-- Power of a rail in µW, from its published voltage and current; a rail whose current is not measured has none (R420, R422). -/
def Dev.railPower (d : Dev) (r : Nat) : Nat := (tget 0 d.therm.railVoltage r).natAbs * tget 0 d.therm.railCurrent r

/-- POWER_ESTIMATE in mW, formed each pass: the sum of the measured rail powers (R420); the rounding is not stated (log entry 90). -/
def Dev.estimatePower (d : Dev) : Dev :=
  let sum := ((List.range 8).map d.railPower).sum
  d.setTherm (fun t => { t with power := (openQuot (sum : Int) 1000).toNat })

end Sys2Proof.Machine
end

