-- ==== Sys2Proof/Machine/ArrayIf.lean ====
section
/-! DEFINITION. The Array Interface: load measurement, the mate's wiring, the auxiliary converter's sequence with the zone
thermistors (R35, R39, R40, R43, R44, R46, R80, R82). -/

namespace Sys2Proof.Machine

def Dev.setArr (d : Dev) (f : ArrayIf → ArrayIf) : Dev := { d with arr := f d.arr }
def Dev.setArrCfg (d : Dev) (f : ArrayCfg → ArrayCfg) : Dev := { d with cfg := { d.cfg with arr := f d.cfg.arr } }

/-- The Array Interface is idle while its outputs are at high impedance (R46). -/
def Dev.outputsOff (d : Dev) : Bool := !d.driving

/-! ## Column loads (R46) -/

/-- The mate showed a claim with HEALTH above 0 in the last window. -/
def Dev.mateClaims (d : Dev) : Bool :=
  d.tow.accepted.toNat / 2 ^ 13 ≠ 0 && d.tow.accepted ≠ d.tow.claim

/-- One drive or monitor column's load, in 0.01 pF. -/
def Dev.putLoad (d : Dev) (monitor : Bool) (c v : Nat) : Dev :=
  if monitor then
    (d.setArr (fun a => { a with mcolumnLoad := tset 0 a.mcolumnLoad c v })).raiseIf (600 < v) .columnLoadHigh
  else (d.setArr (fun a => { a with columnLoad := tset 0 a.columnLoad c v })).raiseIf (800 < v) .columnLoadHigh

/-- Group g's drive reference load against the mean of its 32 columns, in 0.001, its rounding left open; a ratio that 16 bits
cannot hold, or to a mean of 0, is a free value (log entry 4). The event outside 0.900 to 1.100. -/
def Dev.putRatio (d : Dev) (g : Nat) : Dev :=
  let spare := tget 0 d.arr.columnLoad (256 + g)
  let sum := ((List.range 32).map (fun i => tget 0 d.arr.columnLoad (32 * g + i))).sum
  let q := openQuot (32000 * spare) sum
  let q := if 0 < sum ∧ q ≤ 65535 then q.toNat else (Config.spareRatio spare sum).toNat
  let d := d.setArr (fun a => { a with spareRatio := tset 0 a.spareRatio g q })
  d.raiseIf (320 * spare < 9 * sum ∨ 11 * sum < 320 * spare) .spareLoadRatio

/-- LOAD_MEASURE: 1 measures every column; the loads found are given column by column. -/
def loadMeasure (v : Nat) (drive monitor : List Nat) (d : Dev) : Resp × Dev :=
  if v ≠ 1 then (.invalid, d)
  else if d.driving ∨ d.mateClaims then (.conflict, d)
  else
    let d := iter (fun c d => d.putLoad false c (drive.getD c 0)) 264 0 d
    let d := iter (fun c d => d.putLoad true c (monitor.getD c 0)) 264 0 d
    (.ok, iter (fun g d => d.putRatio g) 8 0 d)

def execLoadMeasure (v : BitVec 8) (drive monitor : List Nat) (s : State) : Host.Outcome State Fault Refusal :=
  s.ask (loadMeasure v.toNat drive monitor)

/-! ## TOWER_WIRED (R44) -/

/-- TOWER_WIRED written: it takes effect at the next tick. -/
def towerWiredWrite (v : Bool) (d : Dev) : Resp × Dev :=
  if d.driving then (.conflict, d) else (.ok, d.setArrCfg (fun c => { c with towerWired := v }))

def execTowerWiredWrite (v : Bool) (s : State) : Host.Outcome State Fault Refusal := s.ask (towerWiredWrite v)

/-- Both mate lanes are marked unused, or no longer (R44, R271). -/
def Dev.markMate (d : Dev) (b : Bool) : Dev :=
  let mark (n : Nat) (t : Tab Lane) : Tab Lane := tset {} t n { tget {} t n with unused := b }
  { d with net := { d.net with lanes := mark 3 (mark 2 d.net.lanes) } }

/-- The tick's part: the written value comes into force, and a unit that comes to expect a mate starts its 1 s and uses its mate
lanes. That the marks of R44 end there, where the rule names no end, is a DESIGN CHOICE (log entry 100). -/
def Dev.wiredTick (d : Dev) : Dev :=
  let v := d.cfg.arr.towerWired
  let d := if v && !d.arr.wiredOn then d.markMate false else d
  -- a unit alone forwards none: what is kept to be sent again is dropped
  let d := if v then d else { d with tow := { d.tow with syncOut := [] } }
  d.setArr (fun a => { a with wiredOn := v, mateHeard := if v && !a.wiredOn then d.mono else a.mateHeard })

/-- MATE_MISSING (R44): no HELLO of a mate for 1 s. -/
def mateMissing (d : Dev) : Dev :=
  if d.arr.wiredOn ∧ 1000000000 ≤ d.mono - d.arr.mateHeard then
    Dev.raise (d.setArr (fun a => { a with mateHeard := d.mono })) .mateMissing
  else d

def execMateMissing (s : State) : Host.Outcome State Fault Refusal := s.upd mateMissing

/-! ## Settings (R46) -/

def dcolEnableWrite (b : List Byte) (d : Dev) : Resp × Dev :=
  if d.driving then (.conflict, d)
  else (.ok, d.setArrCfg (fun c => { c with dcolEnable := BitVec.ofNat 256 (ofBe b) }))

def mcolEnableWrite (b : List Byte) (d : Dev) : Resp × Dev :=
  if d.driving then (.conflict, d)
  else (.ok, d.setArrCfg (fun c => { c with mcolEnable := BitVec.ofNat 256 (ofBe b) }))

def zoneNomResWrite (z v : Nat) (d : Dev) : Resp × Dev :=
  if v = 0 then (.invalid, d) else (.ok, d.setArrCfg (fun c => { c with nomRes := tset 10000 c.nomRes z v }))

def zoneBetaWrite (z v : Nat) (d : Dev) : Resp × Dev :=
  if v = 0 then (.invalid, d) else (.ok, d.setArrCfg (fun c => { c with beta := tset 3435 c.beta z v }))

/-- A zone number above 15 is a reserved encoding (R6). -/
def zoneFallbackWrite (z v : Nat) (d : Dev) : Resp × Dev :=
  if 15 < v then (.invalid, d) else (.ok, d.setArrCfg (fun c => { c with fallback := tins c.fallback z v }))

/-- ZONE_FALLBACK: z - 1, and 1 for zone 0, until it is written. -/
def Dev.zoneFallback (d : Dev) (z : Nat) : Nat := (tfind d.cfg.arr.fallback z).getD (if z = 0 then 1 else z - 1)

/-- An enabled data column (R35). -/
def Dev.driveOn (d : Dev) (c : Nat) : Bool := d.cfg.arr.dcolEnable.getLsbD c
def Dev.monitorOn (d : Dev) (c : Nat) : Bool := d.cfg.arr.mcolEnable.getLsbD c

/-! ## The auxiliary converter (R39, R40, R82) -/

/-- State of a zone sensor by its conversion: 1 OPEN above 2.45 V, 2 SHORT below 10 mV, 0 OK. -/
def zoneJudge (code : Nat) : Nat :=
  if 245 * 65536 < 250 * code then 1 else if 250 * code < 65536 then 2 else 0

def Dev.zoneOk (d : Dev) (z : Nat) : Bool := tget 0 d.arr.zoneStatus z = 0

/-- The series z + z^3 / 3 + z^5 / 5 + ... of n terms from the odd number k on, p being the power of z, in units of 2^-48. -/
def artanhFrom : Nat → Nat → Int → Int → Int
  | 0, _, _, _ => 0
  | n + 1, k, p, z2 => p / k + artanhFrom n (k + 2) (shr (p * z2) 48) z2

/-- ln 2 in units of 2^-48. -/
def ln2 : Int := 195103586505167

/-- Natural logarithm of a / b in units of 2^-48, a and b above 0, to better than 10^-9: a / b = 2^k m with m within 1/2 ... 2, and
ln m = 2 artanh ((m - 1) / (m + 1)). -/
def lnRatio (a b : Nat) : Int :=
  let k : Int := (a.log2 : Int) - b.log2
  let x : Int := (a : Int) * 2 ^ (-k).toNat
  let y : Int := (b : Int) * 2 ^ k.toNat
  let z := (x - y) * 2 ^ 48 / (x + y)
  k * ln2 + 2 * artanhFrom 24 1 z (shr (z * z) 48)

/-- The beta law of R39 in 0.01 degree C, to the nearest: `sum` codes of n conversions give the resistance
sum / n * 2.5 V / 65,536 / 50 µA = 50,000 sum / (65,536 n) ohm. None where no temperature satisfies the law. -/
def betaLaw (sum n nom beta : Nat) : Option Int :=
  if sum = 0 ∨ n = 0 ∨ nom = 0 then none
  else
    let den := 100 * 2 ^ 48 * (beta : Int) + 29815 * lnRatio (50000 * sum) (65536 * n * nom)
    if den ≤ 0 then none else some ((2 * (29815 * (beta : Int) * (100 * 2 ^ 48)) + den) / (2 * den) - 27315)

/-- Temperature of the zone's own sensor: the mean of its last 4 conversions by the beta law, with the controller's error of at
most 0.25 degree C from 0 to 85 degree C (R39), a free value; outside that range the rule bounds no error and the reading is free.
Before 4 good conversions exist the mean is that of the 1 to 3 held, and a faulty conversion empties the window: DESIGN
CHOICE, the rule speaks of the last 4 only (log entry 101). -/
def Dev.ownTemp (d : Dev) (z : Nat) : Int :=
  let l := tget [] d.arr.zoneConv z
  let nom := tget 10000 d.cfg.arr.nomRes z
  let beta := tget 3435 d.cfg.arr.beta z
  let free := (Config.zoneTemp l.sum l.length nom beta).toInt
  match betaLaw l.sum l.length nom beta with
  | some t => if 0 ≤ t ∧ t ≤ 8500 then t + clampI (-25) 25 (free - t) else free
  | none => free

/-- Temperature of a zone in use: its own, that of its fallback while that reads OK, else its last good one. -/
def Dev.tempInUse (d : Dev) (z : Nat) : Int :=
  let own (k : Nat) := tget 0 d.arr.zoneOwn k
  let f := d.zoneFallback z
  if d.zoneOk z then own z else if d.zoneOk f then own f else own z

/-- The temperatures in use are formed and compared with the zone levels, unless the reference holds them (R82, R413). -/
def Dev.zoneTemps (d : Dev) : Dev :=
  if d.rd.auxHeld then d
  else iter (fun z d =>
    (d.setArr (fun a => { a with zoneTemp := tset 0 a.zoneTemp z (d.tempInUse z) })).judgeZone z) 16 0 d

/-- A conversion of zone z's sensor. -/
def Dev.zoneSample (d : Dev) (z code : Nat) : Dev :=
  let j := zoneJudge code
  let was := tget 0 d.arr.zoneStatus z
  let d :=
    if j ≠ 0 then
      Dev.raiseIf (d.setArr (fun a => { a with
        zoneStatus := tset 0 a.zoneStatus z j, zoneConv := tset [] a.zoneConv z [], zoneGood := tset 0 a.zoneGood z 0 }))
        (was = 0) .zoneSensorFault
    else
      let n := tget 0 d.arr.zoneGood z + 1
      d.setArr (fun a => { a with
        zoneConv := tset [] a.zoneConv z ((code :: tget [] a.zoneConv z).take 4)
        zoneGood := tset 0 a.zoneGood z (if was = 0 ∨ 4 ≤ n then 0 else n)
        zoneStatus := if 4 ≤ n then tset 0 a.zoneStatus z 0 else a.zoneStatus })
  let d := if d.zoneOk z && !d.rd.auxHeld then d.setArr (fun a => { a with zoneOwn := tset 0 a.zoneOwn z (d.ownTemp z) }) else d
  d.zoneTemps

/-- Position 31, the 1.250 V reference (R82): two passes in a row more than 0.1 % off hold the zone temperatures of the
last good pass, until it reads well again. -/
def Dev.auxReference (d : Dev) (code : Nat) : Dev :=
  if 32768 - 32 ≤ code ∧ code ≤ 32768 + 32 then
    { d with rd := { d.rd with auxRefBad := 0, auxHeld := false, auxGood := if d.rd.auxHeld then d.rd.auxGood else d.arr.zoneTemp } }
  else
    let n := min 2 (d.rd.auxRefBad + 1)
    let rise := n = 2 ∧ d.rd.auxHeld = false
    let d := { d with rd := { d.rd with auxRefBad := n, auxHeld := d.rd.auxHeld || n = 2 } }
    if rise then
      let g := d.rd.auxGood
      let d := d.setArr (fun a => { a with
        zoneTemp := g
        zoneOwn := iter (fun z t => if d.zoneOk z then tset 0 t z (tget 0 g z) else t) 16 0 a.zoneOwn })
      (iter (fun z d => d.judgeZone z) 16 0 d).raise .auxRefFault
    else d

/-- The TDAC's route, group and code as the host's settings in force give them: a write acts at the next tick (R66, R80). -/
def Dev.tdacSet (d : Dev) : Nat × Nat × Nat := d.rd.oldTdac.getD (d.cfg.rd.tdacRoute, d.cfg.rd.tdacGroup, d.cfg.rd.tdacCode)

/-- What position 30 reads (R82): the TDAC when its route is AUX, within its linearity of 4 LSB; else AUX_RET against itself, 0 V.
While the rotation runs the Calibration Unit owns the TDAC (R81), which is then not on AUX, nor under a standby's self-test (R355); the auxiliary converter's own error is
not stated and taken as none (DESIGN CHOICE, log entry 119). -/
def Dev.auxTdac (d : Dev) (code : Nat) : Nat :=
  if d.cal.rotState = .stopped ∧ d.tow.role ≠ 1 ∧ d.tdacSet.1 = 1 then min 65535 (max (d.tdacSet.2.2 - 4) (min (d.tdacSet.2.2 + 4) code)) else 0

/-- AUX_POSITION: the converter has converted the position its sequence stands at; with RESET_N low the sequence does not run (R423). -/
def auxPosition (code : Nat) (d : Dev) : Dev :=
  if d.boot.phase = .held then d else
  let p := d.rd.auxPos
  let code := if p = 30 then d.auxTdac code else code
  let d := { d with rd := { d.rd with auxPos := (p + 1) % 32, auxRaw := tset 0 d.rd.auxRaw p code } }
  if p < 16 then d.zoneSample p code
  else if p < 30 then
    let d := d.publishSupply p
    if p = 29 then d.estimatePower else d
  else if p = 31 then d.auxReference code
  else d

def execAuxPosition (code : BitVec 16) (s : State) : Host.Outcome State Fault Refusal := s.upd (auxPosition code.toNat)

end Sys2Proof.Machine
end

