-- ==== Sys2Proof/Machine/BoardSpi.lean ====
section
/-! DEFINITION. The board SPI port (R275). -/

namespace Sys2Proof.Machine

def Dev.setBspi (d : Dev) (f : BoardSpi → BoardSpi) : Dev := { d with net := { d.net with bspi := f d.net.bspi } }

/-- The port works from firmware start, in RECOVERY, and in the state of R8 (R423, R275). -/
def Dev.bspiOn (d : Dev) : Bool := d.boot.phase ≠ .held && d.boot.phase ≠ .rom

/-- WRITE_REQUEST: LENGTH and a request body; one request is held at a time. -/
def bspiWriteRequest (length : Nat) (body : List Byte) (d : Dev) : Dev :=
  if d.bspiOn = false then d
  else if d.net.bspi.request.isSome ∨ d.net.bspi.response.isSome then d.setBspi (fun b => { b with overrun := true })
  else if 2010 < length ∨ body.length < length then d.setBspi (fun b => { b with lengthError := true })
  else d.setBspi (fun b => { b with request := some (body.take length) })

def execBspiWriteRequest (length : BitVec 16) (body : List Byte) (s : State) : Host.Outcome State Fault Refusal :=
  s.upd (bspiWriteRequest length.toNat body)

/-- The status byte. -/
def BoardSpi.status (b : BoardSpi) : Nat :=
  ofBool b.response.isSome + 2 * ofBool b.request.isSome + 4 * ofBool b.overrun + 8 * ofBool b.lengthError

/-- READ_STATUS: the status byte is sent; OVERRUN and LENGTH_ERROR clear. -/
def bspiReadStatus (d : Dev) : Dev :=
  if d.bspiOn = false then d
  else d.setBspi (fun b => { b with sent := be 1 b.status, overrun := false, lengthError := false })

def execBspiReadStatus (s : State) : Host.Outcome State Fault Refusal := s.upd bspiReadStatus

/-- READ_RESPONSE: LENGTH and the response body are sent; RESPONSE_READY clears. -/
def bspiReadResponse (d : Dev) : Dev :=
  if d.bspiOn = false then d
  else d.setBspi (fun b =>
    { b with sent := be 2 (b.response.getD []).length ++ b.response.getD [], response := none })

def execBspiReadResponse (s : State) : Host.Outcome State Fault Refusal := s.upd bspiReadResponse

/-- BSPI_CS_N rises before a transfer completes: it is discarded, and a short WRITE_REQUEST sets LENGTH_ERROR. -/
def bspiCsAbort (shortWrite : Bool) (d : Dev) : Dev :=
  if d.bspiOn = false ∨ shortWrite = false then d else d.setBspi (fun b => { b with lengthError := true })

def execBspiCsAbort (shortWrite : Bool) (s : State) : Host.Outcome State Fault Refusal := s.upd (bspiCsAbort shortWrite)

end Sys2Proof.Machine
end

