-- ==== Sys2Proof/Machine/Record.lean ====
section
/-! DEFINITION. The element record and its words (R107), the per-element fields of region 3 (R371), the fabric map image's
tables (R184 to R188). -/

namespace Sys2Proof.Machine

/-! ## The element record (R107) -/

/-- The fields of a record: modes and numbers as their codes, signed fields as integers, FLAGS with [20] at bit 0. -/
structure Rec where
  kind : Nat := 3
  mode : Nat := 2
  delay2 : Bool := false
  tone : Nat := 0
  dither : Bool := false
  zone : Nat := 0
  monBEn : Bool := false
  wantB : Bool := false
  monA : Nat := 0
  monB : Nat := 0
  drive : Nat := 0
  kp : Int := 0
  ki : Int := 0
  demodPhase : Nat := 0
  demodLog2 : Nat := 5
  codeSlew : Nat := 64
  feTimer : Nat := 64
  phiMin : Int := 0
  phiMax : Int := 0
  feLimit : Nat := 6554
  phiFF : Int := 0
  spTarget : Nat := 1
  spWork : Nat := 1
  spRate : Nat := 64
  darkTh : Nat := 4000
  manualCode : Nat := 0
  codeND : Nat := 0
  integ : Int := 0
  demodAcc : Int := 0
  phiOut : Int := 0
  mRef : Nat := 0
  demodCount : Nat := 0
  codeOut : Nat := 0
  eLast : Int := 0
  feCount : Nat := 0
  settle : Nat := 0
  flags : Nat := 0
  meas : Nat := 0
deriving DecidableEq, Repr

/-- Fields packed from the least significant end: width and value of each. -/
def pack : List (Nat × Nat) → Nat
  | [] => 0
  | (n, v) :: l => v % 2 ^ n + 2 ^ n * pack l

/-- The eight words of a record, each listed from bit 0 up. -/
def Rec.words (r : Rec) : List Nat := [
  pack [(2, 0), (15, r.drive), (15, r.monB), (15, r.monA), (1, ofBool r.wantB), (1, ofBool r.monBEn), (4, r.zone),
        (1, ofBool r.dither), (4, r.tone), (1, ofBool r.delay2), (3, r.mode), (2, r.kind)],
  pack [(8, r.feTimer), (12, r.codeSlew), (4, r.demodLog2), (8, r.demodPhase), (16, code 16 r.ki), (16, code 16 r.kp)],
  pack [(16, r.feLimit), (24, code 24 r.phiMax), (24, code 24 r.phiMin)],
  pack [(20, r.spWork), (20, r.spTarget), (24, code 24 r.phiFF)],
  pack [(14, r.codeND), (14, r.manualCode), (20, r.darkTh), (16, r.spRate)],
  pack [(32, code 32 r.demodAcc), (32, code 32 r.integ)],
  pack [(14, r.codeOut), (10, r.demodCount), (16, r.mRef), (24, code 24 r.phiOut)],
  pack [(20, r.meas), (12, r.flags), (7, r.settle), (8, r.feCount), (17, code 17 r.eLast)]]

/-- The record that eight words spell. -/
def recOf (w : Nat → Nat) : Rec := {
  drive := bitsOf (w 0) 2 15, monB := bitsOf (w 0) 17 15, monA := bitsOf (w 0) 32 15, wantB := bit (w 0) 47
  monBEn := bit (w 0) 48, zone := bitsOf (w 0) 49 4, dither := bit (w 0) 53, tone := bitsOf (w 0) 54 4
  delay2 := bit (w 0) 58, mode := bitsOf (w 0) 59 3, kind := bitsOf (w 0) 62 2
  feTimer := bitsOf (w 1) 0 8, codeSlew := bitsOf (w 1) 8 12, demodLog2 := bitsOf (w 1) 20 4
  demodPhase := bitsOf (w 1) 24 8, ki := sbitsOf (w 1) 32 16, kp := sbitsOf (w 1) 48 16
  feLimit := bitsOf (w 2) 0 16, phiMax := sbitsOf (w 2) 16 24, phiMin := sbitsOf (w 2) 40 24
  spWork := bitsOf (w 3) 0 20, spTarget := bitsOf (w 3) 20 20, phiFF := sbitsOf (w 3) 40 24
  codeND := bitsOf (w 4) 0 14, manualCode := bitsOf (w 4) 14 14, darkTh := bitsOf (w 4) 28 20, spRate := bitsOf (w 4) 48 16
  demodAcc := sbitsOf (w 5) 0 32, integ := sbitsOf (w 5) 32 32
  codeOut := bitsOf (w 6) 0 14, demodCount := bitsOf (w 6) 14 10, mRef := bitsOf (w 6) 24 16, phiOut := sbitsOf (w 6) 40 24
  meas := bitsOf (w 7) 0 20, flags := bitsOf (w 7) 20 12, settle := bitsOf (w 7) 32 7, feCount := bitsOf (w 7) 39 8
  eLast := sbitsOf (w 7) 47 17 }

/-- Word w of element e's record as memory holds it. -/
def Dev.recWord (d : Dev) (e w : Nat) : Nat := d.sram.word (recAddr e + 8 * w)

/-- A record that nothing has formed is zero in all its words: no write gives it a CODE_SLEW of 0 (R108), and a mark that spoils
that word leaves the others (R386). -/
def Dev.formed (d : Dev) (e : Nat) : Bool := (List.range 8).any (fun w => d.recWord e w ≠ 0)

/-- The record of an element; one that nothing has formed reads the defaults of R130. -/
def Dev.record (d : Dev) (e : Nat) : Rec := if d.formed e then recOf (d.recWord e) else {}

/-- LOOP_DELAY (R130): 1 or 2 cycles, 0 for a RAW element. -/
def Rec.loopDelay (r : Rec) : Nat := if r.kind = 3 then 0 else if r.delay2 then 2 else 1

/-- A word of the record carries a poison mark (R110). -/
def Dev.recPoisoned (d : Dev) (e : Nat) : Bool :=
  (List.range 8).any (fun w => d.sram.poisoned (recAddr e + 8 * w))

/-- The record written back whole (R121): full-word writes, which clear poison. -/
def Dev.putRec (d : Dev) (e : Nat) (r : Rec) : Dev := d.mem (fun m => m.putWords (recAddr e) r.words)

/-- A word is written under its own mark. -/
def Mem.putKept (m : Mem) (a w : Nat) : Mem :=
  if m.word a = w then m else m.copyWord a w (m.poisoned a)

def Mem.putKeptWords (m : Mem) : Nat → List Nat → Mem
  | _, [] => m
  | a, w :: l => (m.putKept a w).putKeptWords (a + 8) l

/-- Fields of a record are written by firmware or the Checkpoint Unit: narrow writes on that block's behalf (R375). -/
def Dev.fieldRec (d : Dev) (e : Nat) (who : Finder) (f : Rec → Rec) : Dev :=
  d.mem (fun m => m.putFields who (recAddr e) (f (d.record e)).words)

/-- The Loop Engine writes fields of a record outside an update: the words that change, whole, each under its mark (R121). -/
def Dev.modRec (d : Dev) (e : Nat) (f : Rec → Rec) : Dev :=
  d.mem (fun m => m.putKeptWords (recAddr e) (f (d.record e)).words)

/-! ## FLAGS (R107): bit 0 stands for [20] -/

def fSettled : Nat := 0
def fHalfRate : Nat := 1
def fJumped : Nat := 2
def fSpoilt : Nat := 3
def fFeOver : Nat := 4
def fSlewLimited : Nat := 5
def fSaturated : Nat := 6
def fCodeSlewed : Nat := 7
def fPhiLimited : Nat := 8
def fWindup : Nat := 9
def fLowLight : Nat := 10
def fNoMeas : Nat := 11

def Rec.flag (r : Rec) (n : Nat) : Bool := bit r.flags n
def Rec.setFlag (r : Rec) (n : Nat) (b : Bool) : Rec := { r with flags := putBits r.flags n 1 (ofBool b) }

/-! ## Per-element fields of region 3 (R371) -/

/-- The 32 bits of an element: [31:16] SP_RATE_LIMIT, [4:2] FAULT_CAUSE, [1] SOFT_START, [0] JUMP_PENDING. -/
def Dev.elemField (d : Dev) (e : Nat) : Nat := ofBe (d.sram.bytes (elemAddr e) 4)

/-- A field of an element's 32 bits is written on behalf of a block: a narrow write (R375). -/
def Dev.setElemField (d : Dev) (e lo n v : Nat) (who : Finder) : Dev :=
  let w := putBits (d.elemField e) lo n v
  let a := wordOf (elemAddr e)
  let old := d.sram.word a
  let new := if elemAddr e = a then putBits old 32 32 w else putBits old 0 32 w
  d.mem (fun m => m.putField a new who)

/-- JUMP_PENDING: a read that meets a poison mark is taken as 1 (R219). -/
def Dev.jumpPending (d : Dev) (e : Nat) : Bool := d.sram.poisoned (elemAddr e) || bit (d.elemField e) 0
def Dev.setJump (d : Dev) (e : Nat) (b : Bool) (who : Finder) : Dev := d.setElemField e 0 1 (ofBool b) who
def Dev.softStart (d : Dev) (e : Nat) : Bool := bit (d.elemField e) 1
def Dev.setSoft (d : Dev) (e : Nat) (b : Bool) : Dev := d.setElemField e 1 1 (ofBool b) .other
def Dev.faultCause (d : Dev) (e : Nat) : Nat := bitsOf (d.elemField e) 2 3
def Dev.setCause (d : Dev) (e n : Nat) (who : Finder) : Dev := d.setElemField e 2 3 n who

/-- SP_RATE_LIMIT: a field nothing has written reads 1,024 (R156). -/
def Dev.spRateLimit (d : Dev) (e : Nat) : Nat :=
  let v := bitsOf (d.elemField e) 16 16
  if v = 0 then 1024 else v

/-! ## The fabric map in force (R184 to R188) -/

/-- Words of 8 bytes at the head of a byte string. -/
def Dev.mapElems (d : Dev) : Nat := field d.fab.image 8 2
def Dev.mapCells (d : Dev) : Nat := field d.fab.image 6 2
def Dev.mapPorts (d : Dev) : Nat := field d.fab.image 4 2
def Dev.topology (d : Dev) : Nat := field d.fab.image 2 1

/-- Entry e of an image's element table, and whether it is in use. -/
def elemEntry (img : List Byte) (e : Nat) : Nat := if e < field img 8 2 then field img (64 + 8 * e) 8 else 0
def entryInUse (w : Nat) : Bool := bit w 10
def entryKind (w : Nat) : Nat := bitsOf w 62 2
def entryMonBEn (w : Nat) : Bool := bit w 61 && entryKind w ≠ 3
def entryDelay2 (w : Nat) : Bool := bit w 60
def entryZone (w : Nat) : Nat := bitsOf w 56 4
def entryDrive (w : Nat) : Nat := bitsOf w 41 15
def entryMonA (w : Nat) : Nat := bitsOf w 26 15
def entryMonB (w : Nat) : Nat := bitsOf w 11 15

def Dev.entry (d : Dev) (e : Nat) : Nat := elemEntry d.fab.image e
def Dev.inUse (d : Dev) (e : Nat) : Bool := entryInUse (d.entry e)

/-- Numbers of the words of a table that are in use, from number i on. -/
def usedFrom : Nat → Nat → List Byte → List Nat
  | 0, _, _ => []
  | n + 1, i, l => (if entryInUse (ofBe (l.take 8)) then [i] else []) ++ usedFrom n (i + 1) (l.drop 8)

/-- The elements in use of an image, and of the map in force. -/
def elemsOf (img : List Byte) : List Nat := usedFrom (field img 8 2) 0 (img.drop 64)
def Dev.used (d : Dev) : List Nat := elemsOf d.fab.image

/-- Byte offset of the cell table and of the port table. -/
def cellTable (img : List Byte) : Nat := 64 + 8 * field img 8 2
def portTable (img : List Byte) : Nat := cellTable img + 12 * field img 6 2

def Dev.phiBar (d : Dev) (c : Nat) : Int := signed 24 (field d.fab.image (cellTable d.fab.image + 12 * c) 3)
def Dev.phiCross (d : Dev) (c : Nat) : Int := signed 24 (field d.fab.image (cellTable d.fab.image + 12 * c + 3) 3)
def Dev.phiBal (d : Dev) (c : Nat) : Int := signed 24 (field d.fab.image (cellTable d.fab.image + 12 * c + 6) 3)
def Dev.balSp (d : Dev) (c : Nat) : Nat := field d.fab.image (cellTable d.fab.image + 12 * c + 9) 2
def Dev.ingressTap (d : Dev) (p : Nat) : Nat := field d.fab.image (portTable d.fab.image + 8 * p) 2
def Dev.egressTap (d : Dev) (p : Nat) : Nat := field d.fab.image (portTable d.fab.image + 8 * p + 2) 2
def Dev.portAttenElem (d : Dev) (p : Nat) : Nat := field d.fab.image (portTable d.fab.image + 8 * p + 4) 2

/-- Drive row and column, and monitor row and column, of a site (256 columns by 128 rows). -/
def siteRow (s : Nat) : Nat := s / 256
def siteCol (s : Nat) : Nat := s % 256

/-- FABRIC_DIGEST: SHA-384 of the image in force; zero before the first. -/
def Dev.fabricDigest (d : Dev) : List Byte := if d.fab.image = [] then List.replicate 48 0 else sha384 d.fab.image

/-- LAST_CODE of a drive site (R90). -/
def Dev.lastCode (d : Dev) (site : Nat) : Nat := (tfind d.drv.lastCode site).getD d.drv.lastFill

def Dev.setLast (d : Dev) (site v : Nat) : Dev := { d with drv := { d.drv with lastCode := tins d.drv.lastCode site v } }

end Sys2Proof.Machine
end

