-- ==== Sys2Proof/Machine/Paths.lean ====
section
/-! DEFINITION. The two banks (R209, R210), the wiring of the topologies and the path of a circuit through it (R192 to R195),
and which elements carry circuits. -/

namespace Sys2Proof.Machine

/-! ## The banks (R209) -/

def Dev.curBank (d : Dev) : Nat := d.circ.physical
def Dev.nextBank (d : Dev) : Nat := 1 - d.circ.physical

/-- The physical bank that a read of the current or of the next bank meets: a word not yet copied reads as the current bank's. -/
def Dev.bankFor (d : Dev) (next : Bool) (off : Nat) : Nat :=
  if next = false then d.curBank
  else match d.circ.written with
    | some l => if l.contains off then d.nextBank else d.curBank
    | none => d.nextBank

/-- Address of a bank's word as it is read. -/
def Dev.bankRead (d : Dev) (next : Bool) (off : Nat) : Nat := bankAddr (d.bankFor next off) + off
def Dev.bankWord (d : Dev) (next : Bool) (off : Nat) : Nat := d.sram.word (d.bankRead next off)
def Dev.bankPoison (d : Dev) (next : Bool) (off : Nat) : Bool := d.sram.poisoned (d.bankRead next off)

/-- A word of the next bank is written. -/
def Dev.putNext (d : Dev) (off w : Nat) : Dev :=
  let d := d.mem (fun m => m.putWord (bankAddr d.nextBank + off) w)
  { d with circ := { d.circ with written := d.circ.written.map (fun l => if l.contains off then l else off :: l) } }

/-! ## Circuit entries (R210) -/

structure Circ where
  flags : Nat := 0
  spare : Nat := 0
  ingress : Nat := 0
  egress : Nat := 0
  label : Nat := 0
  power : Nat := 0
  tag : Nat := 0
deriving DecidableEq, Repr

def Circ.inUse (c : Circ) : Bool := bit c.flags 7
def Circ.byLabel (c : Circ) : Bool := bit c.flags 6
def Circ.expect (c : Circ) : Bool := bit c.flags 5

def circOf (b : List Byte) : Circ := {
  flags := field b 0 1, spare := field b 1 1, ingress := field b 2 2, egress := field b 4 2
  label := field b 6 3, power := field b 9 3, tag := field b 12 4 }

def Circ.bytes (c : Circ) : List Byte :=
  be 1 c.flags ++ be 1 c.spare ++ be 2 c.ingress ++ be 2 c.egress ++ be 3 c.label ++ be 3 c.power ++ be 4 c.tag

/-- Entry k of a bank. -/
def Dev.entryBytes (d : Dev) (next : Bool) (k : Nat) : List Byte :=
  be 8 (d.bankWord next (entryOff k)) ++ be 8 (d.bankWord next (entryOff k + 8))
def Dev.circuit (d : Dev) (next : Bool) (k : Nat) : Circ := circOf (d.entryBytes next k)

/-- The in-use circuits of a bank with their numbers, ascending. -/
def Dev.circuits (d : Dev) (next : Bool) : List (Nat × Circ) :=
  ((List.range 1024).map (fun k => (k, d.circuit next k))).filter (fun p => p.2.inUse)

/-- Target word of an element, and state of a cell (true: cross). -/
def Dev.target (d : Dev) (next : Bool) (e : Nat) : Nat := d.bankWord next (targetOff e)
def Dev.cell (d : Dev) (next : Bool) (c : Nat) : Bool := bit (d.bankWord next (cellOff (c / 64))) (c % 64)

def targetWord (phi : Int) (sp : Nat) (wantB : Bool) : Nat :=
  code 24 phi * 2 ^ 40 + sp % 2 ^ 20 * 2 ^ 20 + ofBool wantB * 2 ^ 19
def targetPhi (w : Nat) : Int := sbitsOf w 40 24
def targetSp (w : Nat) : Nat := bitsOf w 20 20
def targetWantB (w : Nat) : Bool := bit w 19

/-! ## Wiring (R192, R193) -/

/-- n of N = 2 ^ n. -/
def log2 (n : Nat) : Nat := n.log2

/-- Output position of stage s to input position of stage s + 1 of B(2 ^ n): a first-stage cell feeds the upper and the lower
half, a last-stage cell is fed by them. -/
def wire (n s pos : Nat) : Nat :=
  if s + 1 < n then
    let m := 2 ^ (n - s)
    pos / m * m + pos % m / 2 + pos % 2 * (m / 2)
  else
    let m := 2 ^ (s + 3 - n)
    pos / m * m + 2 * (pos % m % (m / 2)) + pos % m / (m / 2)

/-- A circuit's passage through a cell: the cell, the input it takes and the output. -/
structure Hop where
  cell : Nat
  inp : Bool
  out : Bool
deriving DecidableEq, Repr

def xorPos (pos : Nat) (x : Bool) : Nat := if x then (if pos % 2 = 0 then pos + 1 else pos - 1) else pos

/-- Path through the stages s ... of a Benes network with the given cell states; `fuel` counts the stages left. -/
def benesFrom (n : Nat) (x : Nat → Bool) : Nat → Nat → Nat → List Hop × Nat
  | 0, _, pos => ([], pos)
  | fuel + 1, s, pos =>
    let c := s * 2 ^ (n - 1) + pos / 2
    let q := xorPos pos (x c)
    let h : Hop := ⟨c, pos % 2 = 1, q % 2 = 1⟩
    let r := benesFrom n x fuel (s + 1) (if fuel = 0 then q else wire n s q)
    (h :: r.1, r.2)

/-- Positions and logical states on a path of a dilated network, from its physical states (R194): the state of a cell of a
middle layer is that of the logical stage before XOR that of the stage after. -/
def dilatedFrom (n : Nat) (x : Nat → Bool) : Nat → Nat → Nat → Bool → List Hop × Nat
  | 0, s, pos, prev =>
    let c := s * 2 ^ n + pos
    ([⟨c, prev, false⟩], pos)
  | fuel + 1, s, pos, prev =>
    let c := s * 2 ^ n + pos
    let cur := (x c) ^^ prev
    let q := xorPos pos cur
    let h : Hop := ⟨c, prev, cur⟩
    let r := dilatedFrom n x fuel (s + 1) (if fuel = 0 then q else wire n s q) cur
    (h :: r.1, r.2)

/-- Path of a circuit through a crossbar of N ports (R195): east along its row, crossed at (i, j), south down its column. -/
def crossbarPath (nports i j : Nat) : List Hop :=
  (List.range j).map (fun k => (⟨i * nports + k, false, false⟩ : Hop)) ++ [⟨i * nports + j, false, true⟩]
    ++ (List.range (nports - 1 - i)).map (fun k => (⟨(i + 1 + k) * nports + j, true, true⟩ : Hop))

/-- The path of a circuit and the egress it reaches, in a fabric of a topology with N ports and given cell states. -/
def pathIn (topo nports : Nat) (x : Nat → Bool) (ingress egress : Nat) : List Hop × Nat :=
  let n := log2 nports
  match topo with
  | 1 => benesFrom n x (2 * n - 1) 0 ingress
  | 2 => dilatedFrom n x (2 * n - 1) 0 ingress false
  | 3 => (crossbarPath nports ingress egress, egress)
  | _ => ([], egress)

/-- Paths of a bank's circuits through its cell states. -/
def Dev.paths (d : Dev) (next : Bool) : List (Nat × List Hop) :=
  (d.circuits next).map (fun p => (p.1, (pathIn d.topology d.mapPorts (d.cell next) p.2.ingress p.2.egress).1))

/-- A cell carries a circuit. -/
def lit (paths : List (Nat × List Hop)) (c : Nat) : Bool := paths.any (fun p => p.2.any (fun h => h.cell = c))

/-- The port that names an ATTEN element (R188). -/
def Dev.portOf (d : Dev) (e : Nat) : Option Nat := firstWhere (fun p => d.portAttenElem p = e) d.mapPorts 0

/-- An element carries a circuit of a bank: one passes its cell, or leaves by its port. -/
def Dev.carries (d : Dev) (next : Bool) (e : Nat) : Bool :=
  let n := d.mapCells
  if e < n then lit (d.paths next) e
  else if e < 2 * n then lit (d.paths next) (e - n)
  else match d.portOf e with
    | some p => (d.circuits next).any (fun c => c.2.egress = p)
    | none => false

end Sys2Proof.Machine
end

