-- ==== Sys2Proof/Machine/Drive.lean ====
section
/-! DEFINITION. The Column Drive: output states, what a slot writes, contention and row-line checks, column groups, tone
generators (R35 to R38, R57, R85 to R103). -/

namespace Sys2Proof.Machine

def Dev.setDrv (d : Dev) (f : Drive → Drive) : Dev := { d with drv := f d.drv }
def Dev.setDrvCfg (d : Dev) (f : DriveCfg → DriveCfg) : Dev := { d with cfg := { d.cfg with drv := f d.cfg.drv } }
def Dev.setLoop (d : Dev) (f : Loop → Loop) : Dev := { d with loop := f d.loop }

/-! ## Order of the rows (R13, R57) -/

/-- Row that slot j writes: the changed rows first, then the other enabled rows, both ascending. -/
def rowAt (rows : Nat) (scan : List Nat) (j : Nat) : Nat :=
  if scan = [] then j
  else if j < scan.length then scan.getD j 0
  else ((List.range rows).filter (fun r => !scan.contains r)).getD (j - scan.length) 0

/-- Row written in slot j of the present cycle, and of the next. -/
def Dev.rowNow (d : Dev) (j : Nat) : Nat := rowAt d.cyc.conf.rows d.cyc.scan j
def Dev.rowNext (d : Dev) (j : Nat) : Nat := rowAt d.cyc.conf.rows d.cyc.nextScan j

/-! ## Column states (R92, R95) -/

def Dev.groupState (d : Dev) (g : Nat) : RunState := tget .running d.drv.groupState g

/-- The spare of a group is in service for a column. -/
def Dev.standInOf (d : Dev) (g : Nat) : Option Nat := tfind d.drv.standIn g
def Dev.onSpare (d : Dev) (c : Nat) : Bool := d.standInOf (c / 32) = some c

/-- COLUMN_STATE (R103): 0 HIGH_Z, 1 OWN, 2 SPARE, 3 PARKED, 4 REFERENCE, 5 STANDING_IN. Of a column on its spare that is disabled,
or whose group is STOPPED, two rows of the table hold: it shows PARKED (DESIGN CHOICE, log entry 116). -/
def Dev.columnState (d : Dev) (c : Nat) : Nat :=
  if d.driving = false then 0
  else if 256 ≤ c then (if (d.standInOf (c - 256)).isSome then 5 else 4)
  else if tget false d.drv.heldHighZ c then 0
  else if d.driveOn c = false ∨ d.groupState (c / 32) = .stopped then 3
  else if d.onSpare c then 2 else 1

/-- The element in use at a drive site. -/
def Dev.elemAt (d : Dev) (site : Nat) : Option Nat := d.used.find? (fun e => entryDrive (d.entry e) = site)

/-! ## What a slot writes (R88, R90, R91) -/

/-- A code read from the last-code memory for a repeat (R90). -/
def Dev.repeatCode (d : Dev) (site c : Nat) (env : SlotEnv) : Nat × Dev :=
  if env.parityBoth.contains c then
    let r : Nat × Dev := match d.elemAt site with
      | some e => ((d.record e).codeOut, d)
      | none => (d.draw.1 % 16384, d.draw.2)
    (r.1, (r.2.setLast site r.1).raise .lastCodeLost)
  else
    let v := d.lastCode site
    (v, if env.parityOne.contains c then d.setDrv (fun x => { x with lastRepairs := x.lastRepairs + 1 }) else d)

/-- A queue entry's bits: CODE [13:0], WRITTEN [14], POISON [15] (R87). -/
def Dev.entryAt (d : Dev) (c j : Nat) : Nat := (tget 0 d.drv.active (128 * c + j)).toNat

/-- A write of column c's entry j that reaches the Column Drive after the tick is none of its page (R89): an update that wrote
nothing has no such write. -/
def Dev.makeLate (d : Dev) (j c : Nat) : Dev :=
  if (tfind d.drv.fill (128 * c + j)).isSome then
    d.setDrv (fun v => { v with fill := tdel v.fill (128 * c + j), late := v.late ++ [c] })
  else d

/-- Column c takes entry j of its active page and writes its site (R88). -/
def Dev.driveColumn (d : Dev) (j row : Nat) (env : SlotEnv) (c : Nat) : Dev :=
  let st := d.columnState c
  if st ≠ 1 ∧ st ≠ 2 then d
  else
    let site := 256 * row + c
    let x := d.entryAt c j
    if bit x 15 then
      let d := d.setDrv (fun v => { v with poisonCount := tset 0 v.poisonCount c (tget 0 v.poisonCount c + 1) })
      let d := d.raise .poisonedDriveCode (match d.elemAt site with | some e => [e] | none => [])
      (d.repeatCode site c env).2
    else if bit x 14 then d.setLast site (x % 16384)
    else (d.repeatCode site c env).2

/-- Columns that a slot has something to do for beyond a plain repeat: it finds an entry or a parity error. -/
def Dev.busyColumns (d : Dev) (j : Nat) (env : SlotEnv) : List Nat :=
  ((List.range 256).filter (fun c => d.entryAt c j ≠ 0 || env.parityOne.contains c || env.parityBoth.contains c))

/-- The drive side of a slot: every driving column takes a code, and holds it until the next enabled slot (R35). -/
def Dev.driveSlot (d : Dev) (j : Nat) (env : SlotEnv) : Dev :=
  if d.driving then
    (each (d.busyColumns j env) (fun c d => d.driveColumn j (d.rowNow j) env c) d).setDrv
      (fun v => { v with lastRow := some (d.rowNow j) })
  else d

/-- Writes that reach the Column Drive after the tick that made their page active, which has come: they are discarded and
counted (R89). -/
def Dev.lateWrites (d : Dev) : Dev :=
  each d.drv.late (fun c d =>
    (d.setDrv (fun v => { v with lateCount := tset 0 v.lateCount c (tget 0 v.lateCount c + 1) })).raise .lateDriveCode)
    (d.setDrv (fun v => { v with late := [] }))

/-! ## What the pads carry (R35, R85, R91) -/

/-- Voltage that a driver gives its pad for a code (R85), 0.20 V + code * 5.000 V / 16,384, in units of 1 / 81,920 V: one LSB
is 25 of them. -/
def padVoltage (code : Nat) : Nat := 16384 + 25 * code

/-- Code that a data column's pad carries: 0 on a parked column, else that of the last enabled slot, from the column's own driver
or from the spare that stands in for it; none at high impedance and before the first slot. -/
def Dev.padCode (d : Dev) (c : Nat) : Option Nat :=
  match d.columnState c with
  | 1 | 2 => d.drv.lastRow.map (fun r => d.lastCode (256 * r + c))
  | 3 => some 0
  | _ => none

/-- A code is queued for the next cycle (R87, R121). -/
def Dev.queueCode (d : Dev) (c j code : Nat) (poison : Bool) : Dev :=
  d.setDrv (fun v => { v with
    fill := tins v.fill (128 * c + j) (BitVec.ofNat 16 (code % 16384 + 2 ^ 14 + 2 ^ 15 * ofBool poison)) })

/-- At a tick the pages swap and the new fill page is cleared (R87). -/
def Dev.swapPages (d : Dev) : Dev := d.setDrv (fun v => { v with active := v.fill, fill := [] })

/-! ## Contention (R94, R95) -/

/-- A column's slot is flagged (R94): its current, in µA, exceeds CONTENTION_LIMIT in either direction, or its pad's voltage, in
µV, lies more than 64 LSB from what its code commands. -/
def Dev.flags (d : Dev) (p : PadReading) : Bool :=
  match d.padCode p.col with
  | some v => d.cfg.drv.contentionLimit < p.current.natAbs
      || 64 * 25 * 1000000 < (81920 * p.voltage - 1000000 * (padVoltage v : Int)).natAbs
  | none => false

/-- The check of a slot at L - 5.0 ns, on the readings of the columns whose pads are not simply at rest at their voltage: the
second flagged slot in a row declares contention. Whether a run that was declared in one cycle is declared again in the next is
left open: it is, at its first flagged slot there (DESIGN CHOICE, log entry 103). -/
def Dev.contentionSlot (d : Dev) (env : SlotEnv) : Dev :=
  if d.driving = false then d.setDrv (fun v => { v with flagged := [] })
  else
    let now := (env.pads.filter (fun p => p.col < 256 && d.flags p)).map (fun p => p.col)
    let new := (now.filter (fun c => d.drv.flagged.contains c && !d.drv.declared.contains c)).eraseDups
    let d := each new (fun c d =>
      (d.setDrv (fun v => { v with contentionCount := tset 0 v.contentionCount c (tget 0 v.contentionCount c + 1) })).raise .columnContention) d
    d.setDrv (fun v => { v with flagged := now, declared := v.declared ++ new })

/-- A line fault acts on the elements from their first update in the cycle of a tick count (R139, R140). -/
def Dev.addLineFault (d : Dev) (cause line arg2 due : Nat) : Dev :=
  d.setLoop (fun l => { l with lineFaults := l.lineFaults ++ [⟨cause, line, arg2, due⟩] })

/-- Samples of a column are INVALID in the cycle that begins at this tick (R73). -/
def Dev.invalidColumn (d : Dev) (c cycles : Nat) : Dev :=
  { d with rd := { d.rd with invCol := tset 0 d.rd.invCol c (max (tget 0 d.rd.invCol c) (d.ticks + cycles)) } }

/-- The spare of group g leaves the column it stands in for. -/
def Dev.returnColumn (d : Dev) (g : Nat) : Dev :=
  match d.standInOf g with
  | some c => (d.setDrv (fun v => { v with standIn := v.standIn.filter (fun p => p.1 ≠ g) })).invalidColumn c 1
  | none => d

/-- The spare of its group takes column c over. -/
def Dev.moveColumn (d : Dev) (c : Nat) : Dev :=
  let d := d.returnColumn (c / 32)
  (d.setDrv (fun v => { v with standIn := v.standIn ++ [(c / 32, c)] })).invalidColumn c 1

/-- The spare of its group takes column c over for good (R38, R95): a calibration step in progress ends (R171). -/
def Dev.permanentSpare (d : Dev) (c : Nat) : Dev :=
  let g := c / 32
  let d := if d.onSpare c then d else d.moveColumn c
  let d := d.setDrv (fun v => { v with permanent := tset false v.permanent g true })
  { d with cal := { d.cal with
    rotStep := d.cal.rotStep.filter (fun p => p.1 ≠ g), rotWait := d.cal.rotWait.filter (fun p => p.1 ≠ g) } }

/-- A spare can take a column over: it is neither in permanent duty nor failed. -/
def Dev.spareFree (d : Dev) (g : Nat) : Bool := !tget false d.drv.permanent g && !tget false d.drv.spareFailed g

/-- A declared column at the tick after (R95, R38): it moves to its spare, where fewer than 8 columns were declared (`few`); one
already on its spare, for a calibration step or for good, has a faulty line, and one with no spare left has a failed driver that
nothing replaces, however many were declared. Of two columns of one group that are declared in one cycle, R95 does not say which gets
the spare: the one declared first does (DESIGN CHOICE, log entry 117). -/
def Dev.actColumn (d : Dev) (few : Bool) (c : Nat) : Dev :=
  let g := c / 32
  if d.onSpare c then
    ((d.setDrv (fun v => { v with heldHighZ := tset false v.heldHighZ c true })).addLineFault 2 c 0 d.ticks).raise .columnLineFault
  else if d.spareFree g then
    if few = false then d else (d.setDrv (fun v => { v with failedDriver := tset false v.failedDriver c true })).permanentSpare c
  else
    ((d.setDrv (fun v => { v with
      heldHighZ := tset false v.heldHighZ c true, failedDriver := tset false v.failedDriver c true })).addLineFault 4 c 0 d.ticks).raise .columnLineFault

/-- The tick's part of R95: contention on 8 or more columns, or on 8 row lines (R96), is OUTPUT_CONTENTION; a unit whose
present claim has INCUMBENT clear takes it as device fault 2. -/
def Dev.actContention (d : Dev) : Dev :=
  let cols := d.drv.declared
  let many := 8 ≤ cols.length || d.drv.rowContention
  let d := d.setDrv (fun v => { v with declared := [], rowContention := false })
  let d := each cols (fun c d => d.actColumn (decide (cols.length < 8)) c) d
  if many then
    let d := d.raise .outputContention
    if bit d.tow.claim.toNat 12 then { d with tow := { d.tow with contention := true } } else d.declareFault 2
  else { d with tow := { d.tow with contention := false } }

/-! ## Row lines (R96) -/

/-- Line n fails a check: in two consecutive cycles it is marked. -/
def Dev.rowFail (d : Dev) (n : Nat) : Dev :=
  let before := d.drv.rowLow0.contains n || d.drv.rowHigh0.contains n
  if n < 256 ∧ before ∧ d.drv.rowFault.getLsbD n = false then
    Dev.raise ((d.setDrv (fun v => { v with rowFault := v.rowFault ||| (1 <<< n) })).addLineFault 3 n 0 (d.ticks + 1)) .rowDriveFault
  else d

/-- The checks of an enabled slot; at the cycle's last one 8 failures of the second check declare contention. -/
def Dev.rowSlot (d : Dev) (j : Nat) (env : SlotEnv) : Dev :=
  if d.driving = false then d
  else
    let d := each (env.rowLow ++ env.rowHigh) (fun n d => d.rowFail n) d
    let d := d.setDrv (fun v => { v with
      rowLow1 := (v.rowLow1 ++ env.rowLow).eraseDups, rowHigh1 := (v.rowHigh1 ++ env.rowHigh).eraseDups })
    if j + 1 = d.cyc.conf.rows ∧ 8 ≤ d.drv.rowHigh1.length then d.setDrv (fun v => { v with rowContention := true }) else d

def Dev.rowTick (d : Dev) : Dev :=
  d.setDrv (fun v => { v with rowLow0 := v.rowLow1, rowHigh0 := v.rowHigh1, rowLow1 := [], rowHigh1 := [] })

/-- ROW_FAULT_CLEAR (R103). -/
def rowFaultClear (v : Nat) (d : Dev) : Resp × Dev :=
  if v ≠ 1 then (.invalid, d)
  else if d.driving then (.conflict, d)
  else (.ok, d.setDrv (fun x => { x with rowFault := 0 }))

def execRowFaultClear (v : BitVec 8) (s : State) : Host.Outcome State Fault Refusal := s.ask (rowFaultClear v.toNat)

/-! ## Line causes (R139, R141) -/

/-- Monitor columns and rows of an element's sites; a RAW element uses none. -/
def Rec.sites (r : Rec) : List Nat := if r.kind = 3 then [] else r.monA :: (if r.monBEn then [r.monB] else [])

/-- A failed unit of column c is not replaced by a spare. -/
def Dev.unreplaced (d : Dev) (t : Tab Bool) (c : Nat) : Bool := tget false t c && !d.onSpare c

/-- A line cause acts on an element while it persists (R139). -/
def Dev.lineCause (d : Dev) (r : Rec) (cause : Nat) : Bool :=
  match cause with
  | 2 => tget false d.drv.heldHighZ (siteCol r.drive)
      && (d.onSpare (siteCol r.drive) || !tget false d.drv.failedDriver (siteCol r.drive))
  | 3 => d.drv.rowFault.getLsbD (siteRow r.drive) || r.sites.any (fun s => d.drv.rowFault.getLsbD (128 + siteRow s))
  | 4 => d.unreplaced d.drv.failedDriver (siteCol r.drive) || r.sites.any (fun s => d.unreplaced d.drv.failedChain (siteCol s))
  | _ => false

def Dev.anyLineCause (d : Dev) (r : Rec) : Bool := d.lineCause r 2 || d.lineCause r 3 || d.lineCause r 4

/-- Elements that a line fault puts in FAULT. -/
def Dev.faultedBy (d : Dev) (f : LineFault) : List Nat :=
  d.used.filter (fun e =>
    let r := d.record e
    match f.cause with
    | 3 => if f.line < 128 then siteRow r.drive = f.line else r.sites.any (fun s => siteRow s = f.line - 128)
    | _ => if f.arg2 = 0 then siteCol r.drive = f.line else r.sites.any (fun s => siteCol s = f.line))

/-- Line faults declared before a tick act from it: their elements, and one ELEMENT_FAULT per line that has any (R140). An element
that two lines fault is counted as placed in FAULT by the first of them (DESIGN CHOICE, log entry 118). -/
def Dev.lineTick (d : Dev) : Dev :=
  let due := d.loop.lineFaults.filter (fun f => f.due ≤ d.ticks)
  let d := d.setLoop (fun l => { l with lineFaults := l.lineFaults.filter (fun f => d.ticks < f.due) })
  each due (fun f d =>
    let all := d.faultedBy f
    let es := all.filter (fun e => (tfind d.loop.lineElems e).isNone)
    let placed := es.filter (fun e => (d.record e).mode ≠ 4)
    Dev.raiseIf (d.setLoop (fun l => { l with lineElems := l.lineElems ++ es.map (fun e => (e, f.cause)) }))
      (all ≠ []) .elementFault [f.cause * 65536 + f.line, placed.length, f.arg2]) d

/-! ## Column groups (R97, R98) -/

/-- Elements on a group's columns. -/
def Dev.groupElems (d : Dev) (g : Nat) : List Nat := d.used.filter (fun e => siteCol (entryDrive (d.entry e)) / 32 = g)

/-- A circuit runs through a group in the current bank. -/
def Dev.groupCarries (d : Dev) (g : Nat) : Bool := (d.groupElems g).any (fun e => d.carries false e)

/-- GROUP_CONTROL is written: it acts at the next tick, a later write replacing it. -/
def Dev.groupWrite (d : Dev) (g v : Nat) : Dev :=
  (d.setDrv (fun x => { x with groupDue := x.groupDue.filter (fun p => p.1 ≠ g) ++ [(g, v)] })).setDrvCfg
    (fun c => { c with groupControl := tset 1 c.groupControl g v })

def groupStop (g : Nat) (d : Dev) : Resp × Dev :=
  if d.groupState g = .running ∧ d.groupCarries g then (.conflict, d)
  else (.ok, d.groupWrite g 0)
def groupStopForced (g : Nat) (d : Dev) : Resp × Dev := (.ok, d.groupWrite g 2)
def groupEnable (g : Nat) (d : Dev) : Resp × Dev := (.ok, d.groupWrite g 1)

def execGroupStop (g : Fin 8) (s : State) : Host.Outcome State Fault Refusal := s.ask (groupStop g)
def execGroupStopForced (g : Fin 8) (s : State) : Host.Outcome State Fault Refusal := s.ask (groupStopForced g)
def execGroupEnable (g : Fin 8) (s : State) : Host.Outcome State Fault Refusal := s.ask (groupEnable g)

def groupControlWrite (g v : Nat) (d : Dev) : Resp × Dev :=
  match v with
  | 0 => groupStop g d
  | 1 => groupEnable g d
  | 2 => groupStopForced g d
  | _ => (.invalid, d)

def Dev.setGroup (d : Dev) (g : Nat) (x : RunState) : Dev :=
  d.setDrv (fun v => { v with groupState := tset .running v.groupState g x })

/-- An element of a group that was PARKED at code 0: its site holds code 0, and its output starts from there (R97). -/
def Dev.fromZero (d : Dev) (e : Nat) : Dev :=
  (d.modRec e (fun r => { r with codeND := 0, codeOut := 0 })).setLast (entryDrive (d.entry e)) 0

/-- A stopped group runs again: its elements resume from code 0 by soft start (R97, R142). -/
def Dev.restartGroup (d : Dev) (g : Nat) : Dev :=
  let es := d.groupElems g
  let d := each es (fun e d => d.fromZero e) d
  (d.setGroup g .running).setLoop (fun l => { l with
    softStart := l.softStart.filter (fun p => !es.contains p.1) ++ es.map (fun e => (e, 0)) })

/-- The tick's part: what was written takes effect, and a stopping group counts its ticks. -/
def Dev.groupOne (d : Dev) (g : Nat) : Dev :=
  let d := if d.groupState g = .stopping ∨ d.groupState g = .restartPending then
      d.setDrv (fun v => { v with groupTicks := tset 0 v.groupTicks g (tget 0 v.groupTicks g + 1) }) else d
  match tfind d.drv.groupDue g with
  | none => d
  | some v =>
    let stop : Bool := v ≠ 1
    match d.groupState g with
    | .running => if stop then (d.setGroup g .stopping).setDrv (fun x => { x with groupTicks := tset 0 x.groupTicks g 0 }) else d
    | .stopping => if stop then d else d.setGroup g .restartPending
    | .restartPending => if stop then d.setGroup g .stopping else d
    | .stopped => if stop then d else d.restartGroup g

def Dev.groupTick (d : Dev) : Dev :=
  (iter (fun g d => d.groupOne g) 8 0 d).setDrv (fun v => { v with groupDue := [] })

/-- GROUP_STOPPED (R97, R98), at a tick: every element of the group has been written with 0, or 4,096 ticks have passed. -/
def groupStopped (g : Nat) (d : Dev) : Dev :=
  let st := d.groupState g
  let n := tget 0 d.drv.groupTicks g
  let zero := (d.groupElems g).all (fun e => d.lastCode (entryDrive (d.entry e)) = 0)
  if (st = .stopping ∨ st = .restartPending) ∧ d.cyc.slot = 0 ∧ 1 ≤ n ∧ (zero ∨ 4096 ≤ n) then
    let d := d.setDrv (fun v => { v with groupTicks := tset 0 v.groupTicks g 0 })
    if st = .stopping then d.setGroup g .stopped else d.restartGroup g
  else d

def execGroupStopped (g : Fin 8) (s : State) : Host.Outcome State Fault Refusal := s.upd (groupStopped g)

/-! ## Last codes (R90) -/

/-- IDLE_CODE fills the last-code memory. -/
def idleCodeWrite (v : Nat) (d : Dev) : Resp × Dev :=
  if d.driving then (.conflict, d)
  else if 16383 < v then (.invalid, d)
  else (.ok, (d.setDrv (fun x => { x with lastCode := [], lastFill := v })).setDrvCfg (fun c => { c with idleCode := v }))

def execIdleCodeWrite (v : BitVec 16) (s : State) : Host.Outcome State Fault Refusal := s.ask (idleCodeWrite v.toNat)

/-! ## Tone generators (R100 to R102) -/

def Dev.tone (d : Dev) (t : Nat) : Tone := tget {} d.cfg.drv.tones t

/-- Settings in force in the present cycle. -/
def Dev.toneOn (d : Dev) (t : Nat) : Tone := (tfind d.drv.oldTone t).getD (d.tone t)

/-- Accumulator of cycle n under some settings (R100). -/
def Tone.acc (x : Tone) (n : Nat) : Nat := (x.ftw.toNat * n + x.phase.toNat) % 2 ^ 32

/-- Phase index of cycle n: none while disabled (R101). -/
def Tone.index (x : Tone) (n : Nat) : Option Nat := if x.enable then some (x.acc n / 2 ^ 22) else none

/-- Dither value (R101). -/
def ditherOf (amp : Nat) (idx : Option Nat) : Int :=
  match idx with
  | some i => shr ((amp : Int) * sine i + 16384) 15
  | none => 0

/-- Reference pair of an index. -/
def pairOf (idx : Option Nat) : Int × Int :=
  match idx with
  | some i => (sine i, sine (i + 256))
  | none => (0, 0)

/-- The step of a generator at the tick of cycle n (R17 action 5, R100). -/
def Dev.toneStep (d : Dev) (n t : Nat) : Dev :=
  let x := d.tone t
  let old := tget [none, none, none] d.drv.toneIdx t
  d.setDrv (fun v => { v with
    toneAcc := tset 0 v.toneAcc t (if x.enable then BitVec.ofNat 32 (x.acc n) else 0)
    toneIdx := tset [none, none, none] v.toneIdx t ((x.index n :: old).take 3) })

def Dev.toneTick (d : Dev) (n : Nat) : Dev :=
  (iter (fun t d => d.toneStep n t) 16 0 d).setDrv (fun v => { v with oldTone := [] })

/-- Phase index that a generator keeps of the cycle k back. -/
def Dev.toneBack (d : Dev) (t k : Nat) : Option Nat := (tget [none, none, none] d.drv.toneIdx t).getD k none

/-- A tone setting is written: it acts at the next tick. -/
def Dev.putTone (d : Dev) (t : Nat) (f : Tone → Tone) : Dev :=
  let old := d.toneOn t
  (d.setDrv (fun v => { v with oldTone := if (tfind v.oldTone t).isSome then v.oldTone else v.oldTone ++ [(t, old)] })).setDrvCfg
    (fun c => { c with tones := tset {} c.tones t (f (d.tone t)) })

def toneFtwWrite (t v : Nat) (d : Dev) : Resp × Dev :=
  if 0x20000000 < v then (.invalid, d) else (.ok, d.putTone t (fun x => { x with ftw := BitVec.ofNat 32 v }))
def tonePhaseWrite (t v : Nat) (d : Dev) : Resp × Dev := (.ok, d.putTone t (fun x => { x with phase := BitVec.ofNat 32 v }))
def toneAmplitudeWrite (t v : Nat) (d : Dev) : Resp × Dev := (.ok, d.putTone t (fun x => { x with amplitude := v }))
def toneEnableWrite (t : Nat) (v : Bool) (d : Dev) : Resp × Dev := (.ok, d.putTone t (fun x => { x with enable := v }))

/-! ## Other settings (R103) -/

/-- The rotation is stopped: the trims and the chain corrections are idle. -/
def Dev.rotationStopped (d : Dev) : Bool := d.cal.rotState = .stopped

def offsetTrimWrite (c : Nat) (v : Int) (d : Dev) : Resp × Dev :=
  if !d.rotationStopped then (.conflict, d) else (.ok, d.setDrvCfg (fun x => { x with offsetTrim := tset 0 x.offsetTrim c v }))
def gainTrimWrite (c : Nat) (v : Int) (d : Dev) : Resp × Dev :=
  if !d.rotationStopped then (.conflict, d) else (.ok, d.setDrvCfg (fun x => { x with gainTrim := tset 0 x.gainTrim c v }))
def contentionLimitWrite (v : Nat) (d : Dev) : Resp × Dev :=
  if v < 50 ∨ 2000 < v then (.invalid, d) else (.ok, d.setDrvCfg (fun x => { x with contentionLimit := v }))

end Sys2Proof.Machine
end

