-- ==== Sys2Proof/Machine/Claim.lean ====
section
/-! DEFINITION. Claim arbitration and its effect at the tick (R42, R343 to R351, R362). -/

namespace Sys2Proof.Machine

def Dev.setTow (d : Dev) (f : Tower → Tower) : Dev := { d with tow := f d.tow }

/-! ## One window (R346, R347) -/

/-- Bits sent on a line whose value is v, most significant first, by a unit that claims c: it releases the line from the
bit after the first in which it reads 1 having sent 0. `n` bits are left, `in_` tells that the unit is in arbitration. -/
def sentFrom : Nat → Nat → Nat → Bool → Nat
  | 0, _, _, _ => 0
  | n + 1, c, v, in_ =>
    let s := in_ && bit c n
    ofBool s * 2 ^ n + sentFrom n c v (in_ && !(bit v n && !s))

/-- Bits that a unit sends; a withdrawn unit sends none (R345). -/
def sentBits (c v : Nat) : Nat := if c / 2 ^ 13 = 0 then 0 else sentFrom 16 c v true

/-- Judgement of a line (R347). -/
inductive LineJudge where
  | faulty | won | lost
deriving DecidableEq, Repr

def judgeLine (c v : Nat) : LineJudge :=
  if v = 0xFFFF ∨ sentBits c v &&& (0xFFFF - v) ≠ 0 then .faulty
  else if v = c then .won else .lost

/-- CLAIM_WINDOW_START: 1,500 ns before the next tick (R16, R346), once in each cycle; the claim number is formed from HEALTH;
FAULTY lines that were cleared take part again. With RESET_N low no window opens. -/
def claimWindowStart (d : Dev) : Dev :=
  if d.boot.phase = .held ∨ d.tow.window ≠ 0 then d
  else
  let d := d.advanceTo (d.time.nextTick - 1500)
  let c := d.claimNumber
  d.setTow (fun t => { t with
    claim := c, window := 1
    lineA := if t.clearDue ∧ t.lineA = 2 then 0 else t.lineA
    lineB := if t.clearDue ∧ t.lineB = 2 then 0 else t.lineB
    clearDue := false
    dutyWindow := t.dutyWindow || t.dutyState = .stopping || t.dutyState = .restartPending })

def execClaimWindowStart (s : State) : Host.Outcome State Fault Refusal := s.upd claimWindowStart

/-- State of a line after its judgement (R348): FAULTY stays until it is cleared; a usable line that differs from the
accepted value becomes SUSPECT. -/
def lineAfter (old : Nat) (j : LineJudge) (suspect : Bool) : Nat :=
  if j = .faulty then 2 else if old = 2 then 2 else if suspect then 1 else old

/-- Elements in use are marked JUMP_PENDING where the win finds no usable image (R362). -/
def Dev.markWin (d : Dev) : Bool :=
  d.arr.wiredOn && (match d.tow.resident with
    | none => true
    | some i => d.tow.readiness ≠ 2 && i.gen ≠ d.circ.committedGen)

def Dev.markAllJump (d : Dev) : Dev := each d.used (fun e d => d.setJump e true .other) d

/-- A positive win of a unit that is not ACTIVE, and whose outputs no fault holds, is latched (R92, R93, R360, R362): drivers wake, a partial image and one not
yet resident are discarded, elements are marked where no image serves. -/
def Dev.latchWin (d : Dev) : Dev :=
  let m := d.markWin
  let n := ofBool d.tow.reception.isSome + ofBool d.tow.verified.isSome
  let d := if m then d.markAllJump else d
  d.setTow (fun t => { t with
    won := true, driversAwake := true, reception := none, verified := none
    counters := tset 0 t.counters 2 (tget 0 t.counters 2 + BitVec.ofNat 64 n)
    lastTakeover := List.replicate 8 0 ++ be 1 t.readiness ++ be 1 (ofBool m) ++ t.mateReport.take 2 ++ [0, 0, 0, 0] })

/-- YIELD's withdrawal ends when a window's accepted value has INCUMBENT set from the mate, this unit's claim of that
window being withdrawn (R366). -/
def Dev.endYield (d : Dev) : Dev :=
  if d.tow.yieldState = 2 ∧ d.tow.claim.toNat / 2 ^ 13 = 0 ∧ bit d.tow.accepted.toNat 12 then d.setTow (fun t => { t with yieldState := 3 }) else d

/-- CLAIM_WINDOW_END: 500 ns before the next tick (R16) the window that opened in this cycle ends; the two lines read va and
vb; each is judged, the result is latched for the next tick. -/
def claimWindowEnd (va vb : Nat) (d : Dev) : Dev :=
  if d.tow.window ≠ 1 then d
  else
  let d := d.advanceTo (d.time.nextTick - 500)
  let c := d.tow.claim.toNat
  let ja := judgeLine c va
  let jb := judgeLine c vb
  let useA := ja ≠ .faulty && d.lineUsable false
  let useB := jb ≠ .faulty && d.lineUsable true
  let acc := max (if useA then va else 0) (if useB then vb else 0)
  let can := useA || useB
  let health := c / 2 ^ 13
  let differ := useA && useB && va ≠ vb
  let newFault := (ja = .faulty && d.tow.lineA ≠ 2) || (jb = .faulty && d.tow.lineB ≠ 2)
  let win := can && 1 ≤ health && acc = c && ((useA && ja = .won) || (useB && jb = .won))
  let keep := !can && d.driving && 1 ≤ health && va ≤ c && vb ≤ c
  let d := d.setTow (fun t => { t with
    window := 2, va := BitVec.ofNat 16 va, vb := BitVec.ofNat 16 vb, accepted := BitVec.ofNat 16 acc
    result := if health = 0 then 2 else if !can then 3 else ofBool win
    latched := some (win || keep)
    winIncumbent := if can then bit acc 12 else t.winIncumbent
    lineA := lineAfter t.lineA ja (differ && va ≠ acc)
    lineB := lineAfter t.lineB jb (differ && vb ≠ acc)
    lineBad := ja = .faulty || jb = .faulty || differ })
  let d := d.raiseIf (newFault || differ) .claimLineFault
  let d := d.endYield
  if win && d.arr.outputState = .highZ then d.latchWin else d

def execClaimWindowEnd (va vb : BitVec 16) (s : State) : Host.Outcome State Fault Refusal :=
  s.upd (claimWindowEnd va.toNat vb.toNat)

/-- The outputs go to high impedance and the drivers to biased standby (R42, R93). -/
def Dev.dropOutputs (d : Dev) : Dev :=
  { d with arr := { d.arr with outputState := .highZ }, tow := { d.tow with driversAwake := false } }

/-- OUTPUT_RELEASE (R42): a unit that lost places its outputs at high impedance 1.0 ns before the tick. -/
def outputRelease (d : Dev) : Dev :=
  if d.tow.latched = some false ∧ d.driving then (d.advanceTo (d.time.nextTick - 1)).dropOutputs else d

def execOutputRelease (s : State) : Host.Outcome State Fault Refusal := s.upd outputRelease

/-! ## The tick's part (R17 action 3, R351, R362) -/

/-- The readout leaves STANDBY for RUN: the samples of the first cycle are INVALID, of the first two after OFF (R73, R83). -/
def Dev.readoutRun (d : Dev) : Dev :=
  if d.rd.state = .standby then
    { d with rd := { d.rd with
      state := .run, invAll := max d.rd.invAll (d.ticks + (if d.rd.leftOff then 2 else 1)), leftOff := false } }
  else d

/-- The takeover steps of a Tower unit at tick T (R362, R363): the loops run; every element that updates, but those that jump, holds
until its first update whose samples are all VALID, which makes its soft-start transfer from INTEG. -/
def Dev.takeover (d : Dev) : Dev :=
  let soft := (d.used.filter (fun e => d.groupState (siteCol (entryDrive (d.entry e)) / 32) ≠ .stopped)).map
    (fun e => (e, (d.record e).integ))
  let d := { d with loop := { d.loop with state := .running, due := none, takeover := some d.ticks, softStart := soft } }
  let d := d.setTow (fun t => { t with
    takeovers := t.takeovers + 1, lastTakeover := splice t.lastTakeover 0 (be 8 d.cycleNo) })
  d.raise .takeover

/-- The claim result latched in the cycle just ended is applied to the output enables: only a positive win takes the outputs
out of HIGH_Z (R92); a unit that can judge no line keeps what it drives (R347). -/
def Dev.applyClaim (d : Dev) : Dev :=
  let l := d.tow.latched
  let won := d.tow.won
  let d := d.setTow (fun t => { t with
    latched := none, won := false, window := 0
    shown := if l.isSome then be 2 t.va.toNat ++ be 2 t.vb.toNat ++ be 2 t.accepted.toNat ++ be 1 t.result ++ [0] else t.shown })
  match l with
  | none => d
  | some false => if d.driving then d.dropOutputs else d
  | some true =>
    if d.driving ∨ d.arr.outputState = .highZFault ∨ d.tow.result ≠ 1 then d
    else
      let d := Dev.readoutRun { d with
        arr := { d.arr with outputState := .driving }, drv := { d.drv with lastRow := none } }
      if won && d.arr.wiredOn then d.takeover else d

/-- The mate takes the array at this tick, from this unit or from none: its claim, another than this unit's, was accepted, and it was not
the incumbent or this unit drove (R223, R362). -/
def Dev.mateTakes (d : Dev) : Bool :=
  d.arr.wiredOn && d.tow.latched = some false && d.tow.accepted ≠ 0 && d.tow.accepted ≠ d.tow.claim
    && (d.driving || !bit d.tow.accepted.toNat 12)

/-- TOWER_ROLE at a tick (R351); a unit that loses the array with HEALTH of at least 1 stands by at once (R363). -/
def Dev.roleAfter (d : Dev) (lost : Bool) : Nat :=
  if d.roleNow = 2 ∧ lost then 1 else d.roleNow

/-- CLAIM_LINE_CLEAR (R348). -/
def claimLineClear (v : Nat) (d : Dev) : Resp × Dev :=
  if v ≠ 1 then (.invalid, d) else (.ok, d.setTow (fun t => { t with clearDue := true }))

def execClaimLineClear (v : BitVec 8) (s : State) : Host.Outcome State Fault Refusal := s.ask (claimLineClear v.toNat)

/-- CLAIM_LINE_MASK written: refused with CONFLICT if it would exclude both lines; bits [7:2] are kept 0 (R370). -/
def claimLineMaskWrite (v : BitVec 8) (d : Dev) : Resp × Dev :=
  if v &&& 3 = 3 then (.conflict, d)
  else (.ok, { d with cfg := { d.cfg with tow := { d.cfg.tow with mask := v &&& 3 } } })

def execClaimLineMaskWrite (v : BitVec 8) (s : State) : Host.Outcome State Fault Refusal := s.ask (claimLineMaskWrite v)

end Sys2Proof.Machine
end

