-- ==== Sys2Proof/Machine/Law.lean ====
section
/-! DEFINITION. The arithmetic of the Loop Engine: the working curve and its target (R109, R119, R159, R161, R162), the
reverse linearisation (R122), measurement, error and demodulation (R111, R113, R114), the law (R116), the two codes (R120). -/

namespace Sys2Proof.Machine

/-! ## Curves (R109, R119, R159) -/

structure Curve where
  a0 : Int := 0
  a1 : Int := 0
  a2 : Int := 0
deriving DecidableEq, Repr

/-- The sum of R119, in 2^-20 LSB. -/
def Curve.sum (k : Curve) (u : Int) : Int := k.a0 * 2 ^ 12 + k.a1 * u + shr (k.a2 * u * u) 20

/-- lin(u), rounded half up (R119). -/
def Curve.lin (k : Curve) (u : Int) : Int := shr (k.sum u + 2 ^ 19) 20

/-- a1 + 2 a2 u in units of 2^-39 LSB per phase unit: exact. -/
def Curve.slope (k : Curve) (u : Int) : Int := k.a1 * 2 ^ 19 + k.a2 * u

/-- sign(a1) of R109: the sign of the slope, which keeps one sign over the limits. -/
def Curve.sgn (k : Curve) (lo : Int) : Int := if k.slope lo < 0 then -1 else 1

/-- The slope condition of R109 over [lo, hi]: the slope is linear, so its ends decide. -/
def Curve.slopeOk (k : Curve) (lo hi : Int) : Bool :=
  (2 ^ 35 ≤ k.slope lo && 2 ^ 35 ≤ k.slope hi) || (k.slope lo ≤ -(2 ^ 35) && k.slope hi ≤ -(2 ^ 35))

/-- A curve in its 9 bytes. -/
def Curve.bytes (k : Curve) : List Byte := be 3 (code 24 k.a0) ++ be 3 (code 24 k.a1) ++ be 3 (code 24 k.a2)

def curveOf (b : List Byte) : Curve := ⟨signed 24 (field b 0 3), signed 24 (field b 3 3), signed 24 (field b 6 3)⟩

/-- A quotient rounded to nearest, halves away from zero. -/
def divAway (a b : Int) : Int :=
  let q : Int := ((2 * a.natAbs + b.natAbs) / (2 * b.natAbs) : Nat)
  if (a < 0) = (b < 0) then q else -q

/-- A Newton step of R122. -/
def Curve.newton (k : Curve) (c sg phi : Int) : Int :=
  let res := k.sum phi - c * 2 ^ 20
  let slope := k.a1 + shr (k.a2 * phi) 19
  if slope = 0 ∨ (slope < 0) ≠ (sg < 0) then phi else satI 24 (phi - divAway res slope)

/-- The reverse linearisation of code c from phi0; clamped to the limits where R122 says so. -/
def Curve.reverse (k : Curve) (c : Nat) (phi0 lo hi : Int) (limit : Bool) : Int :=
  let sg := k.sgn lo
  let p := k.newton c sg (k.newton c sg (k.newton c sg phi0))
  if limit then clampI lo hi p else p

/-- Target curve at temperature t between the points (t0, p) and (t1, q) (R161). -/
def Curve.between (p q : Curve) (t0 t1 t : Int) : Curve :=
  let w := (t - t0) * 65536 / (t1 - t0)
  let f (x y : Int) : Int := x + shr ((y - x) * w + 32768) 16
  ⟨f p.a0 q.a0, f p.a1 q.a1, f p.a2 q.a2⟩

/-- Target curve of used points, each with its TP, ascending (R161): none has the all-zero curve. -/
def targetOf (tz : Int) : List (Nat × Curve) → Curve
  | [] => {}
  | (_, p) :: [] => p
  | (a, p) :: (b, q) :: l =>
    let ta := 100 * ((a : Int) - 20)
    let tb := 100 * ((b : Int) - 20)
    if tz ≤ ta then p else if tz < tb then p.between q ta tb tz else targetOf tz ((b, q) :: l)

/-- One check's step toward the target (R162): f is floor((ENTRY_SLEW - 1) * 65,536 / D). -/
def Curve.step (w t : Curve) (f : Int) : Curve :=
  let g (x y : Int) : Int := x + shr ((y - x) * f) 16
  ⟨g w.a0 t.a0, g w.a1 t.a1, g w.a2 t.a2⟩

/-- The working curve after a check (R162, R163). -/
def Curve.enter (w t : Curve) (slew : Nat) (phiFF phiOut : Int) (atOnce : Bool) : Curve :=
  let m := max (t.lin phiFF - w.lin phiFF).natAbs (t.lin phiOut - w.lin phiOut).natAbs
  if atOnce ∨ m ≤ slew then t else w.step t (((slew - 1) * 65536 / m : Nat) : Int)

/-! ## Measurement and error (R111, R113, R114) -/

/-- Kinds (R107). -/
def kSwitch : Nat := 0
def kBalance : Nat := 1
def kAtten : Nat := 2
def kRaw : Nat := 3

/-- Modes (R107). -/
def mAuto : Nat := 0
def mManual : Nat := 1
def mHold : Nat := 2
def mDark : Nat := 3
def mFault : Nat := 4

def posPart (v : Int) : Int := if v < 0 then 0 else v

/-- The monitored sum (R111). -/
def monitorSum (kind : Nat) (two : Bool) (a b : Int) : Int :=
  if kind = 2 then (if two then satI 20 (a + b) else a) else posPart a + posPart b

/-- The measurement (R111); it needs a sum above 0 where it is a ratio. -/
def measureOf (kind : Nat) (two : Bool) (a b : Int) : Int :=
  let s := monitorSum kind two a b
  if kind = 2 then s else min 65535 (posPart a * 65536 / s)

/-- Errors saturate to -65,536 ... 65,535 (R107). -/
def satE (v : Int) : Int := clampI (-65536) 65535 v

/-- Error of BALANCE and ATTEN (R113). -/
def errorOf (kind : Nat) (sp m : Int) : Int :=
  if kind = 1 then satE (sp - m) else satE (((sp - m) * 65536).tdiv (max sp 1))

/-- The reference of R114 from the pair of the reference cycle, advanced by theta. -/
def refOf (iq : Int × Int) (theta : Nat) : Int :=
  shr (iq.1 * sine (4 * theta + 256) + iq.2 * sine (4 * theta) + 16384) 15

/-- Result of a demodulation (R114): accumulator, count, M_REF, spoilt, whether the window closed, and g. -/
structure Demod where
  acc : Int
  count : Nat
  mRef : Int
  spoilt : Bool
  closed : Bool
  g : Option Int
deriving DecidableEq, Repr

/-- R114 with R112, R123 and R125: `use` says that a product is accumulated; otherwise the window is spoilt. -/
def demod (r : Rec) (m ref : Int) (measured use half : Bool) : Demod :=
  let x := m - r.mRef
  let p := shr (x * ref) 8
  let acc := if use then satI 32 (r.demodAcc + (if half then 2 * p else p)) else r.demodAcc
  let spoilt := r.flag fSpoilt || !use
  let n := r.demodCount + (if half then 2 else 1)
  let w := 2 ^ r.demodLog2
  if w ≤ n then
    { acc := 0, count := n - w, mRef := if measured then m else r.mRef, spoilt := false, closed := true
      g := if spoilt then none else some (shr acc (r.demodLog2 + 6)) }
  else { acc := acc, count := n, mRef := r.mRef, spoilt := spoilt, closed := false, g := none }

/-! ## The law and the codes (R116, R120) -/

def propOf (r : Rec) (e : Int) : Int := satI 24 (shr (r.kp * e) 8)

/-- The integrator range of R116. -/
def clampInt (r : Rec) (v : Int) : Int := clampI ((r.phiMin - r.phiFF) * 256) ((r.phiMax - r.phiFF) * 256) v

/-- INTEG as its 32 bits hold it (R107): what they hold of a value that does not fit, no rule states (log entry 59). -/
def fitInteg (v : Int) : Int := if -(2 ^ 31) ≤ v ∧ v < 2 ^ 31 then v else (Config.wideInteg v).toInt

/-- A code formed by S8 (R120): lin, CODE_ND, and which clamps acted. -/
structure CodeOut where
  lin : Int
  nd : Nat
  slewed : Bool
  sat : Bool
deriving DecidableEq, Repr

def codeOf (lin : Int) (old slew : Nat) : CodeOut :=
  let c := clampI ((old : Int) - slew) ((old : Int) + slew) lin
  let n := clampI 0 16383 c
  { lin := lin, nd := n.toNat, slewed := c ≠ lin, sat := n ≠ c }

/-- CODE_OUT: CODE_ND with dither, limited to 0 ... 16,383 (R120). -/
def outOf (nd : Nat) (d : Int) : Nat := (clampI 0 16383 ((nd : Int) + d)).toNat
def outSat (nd : Nat) (d : Int) : Bool := (outOf nd d : Int) ≠ (nd : Int) + d

/-- v moved toward t by at most s. -/
def toward (v t s : Nat) : Nat := if v < t then min t (v + s) else max t (v - s)

/-! ## The calibration record (R159) -/

/-- Word i of an element's calibration record. -/
def Dev.calWord (d : Dev) (e i : Nat) : Nat := d.sram.word (calAddr e + 8 * i)

/-- The 72 bytes of the eight points. -/
def Dev.pointBytes (d : Dev) (e : Nat) : List Byte := d.sram.bytes (calAddr e) 72

/-- TP p as stored, 7 bits each from the top of word 9. -/
def Dev.tpRaw (d : Dev) (e p : Nat) : Nat := bitsOf (d.calWord e 9) (57 - 7 * p) 7

/-- Nothing has formed the points: every TP reads 0, which no accepted set gives (R160 needs ascending temperatures). -/
def Dev.pointsFormed (d : Dev) (e : Nat) : Bool := (List.range 8).any (fun p => d.tpRaw e p ≠ 0)

/-- TP p; 127 for a record that nothing has formed (R183). -/
def Dev.tp (d : Dev) (e p : Nat) : Nat := if d.pointsFormed e then d.tpRaw e p else 127

/-- The used points of an element with their TPs. -/
def Dev.points (d : Dev) (e : Nat) : List (Nat × Curve) :=
  ((List.range 8).map (fun p => (d.tp e p, curveOf (d.sram.bytes (calAddr e + 9 * p) 9)))).filter (fun x => x.1 ≠ 127)

/-- The working curve: [71:0] of words 9 and 10. -/
def Dev.workingCurve (d : Dev) (e : Nat) : Curve := curveOf (be 1 (d.calWord e 9 % 256) ++ be 8 (d.calWord e 10))

/-- The working curve is written: its words keep the TPs, and carry no mark (R165). -/
def Dev.putWorking (d : Dev) (e : Nat) (k : Curve) : Dev :=
  let b := k.bytes
  let w9 := d.calWord e 9 / 256 * 256 + field b 0 1
  d.mem (fun m => (m.putWord (calAddr e + 72) w9).putWord (calAddr e + 80) (field b 1 8))

/-- A mark lies on a point word (words 0 to 8, and word 9, which holds the TPs), or on a word of the working curve. -/
def Dev.pointsPoisoned (d : Dev) (e : Nat) : Bool := (List.range 10).any (fun i => d.sram.poisoned (calAddr e + 8 * i))
def Dev.curvePoisoned (d : Dev) (e : Nat) : Bool := d.sram.poisoned (calAddr e + 72) || d.sram.poisoned (calAddr e + 80)

/-- The element is on record hold (R110): its hold lasts while a word that S1 fetches carries a mark, and after a mark acquired
later until all eight words have been rewritten. -/
def Dev.onHold (d : Dev) (e : Nat) : Bool :=
  tget false d.loop.recordHold e && (d.recPoisoned e || d.curvePoisoned e || tget false d.loop.holdLate e)

/-- The effective mode: HOLD on record hold (R110), the record's otherwise. -/
def Dev.modeNow (d : Dev) (e : Nat) : Nat := if d.onHold e then 2 else (d.record e).mode

/-- A record hold whose words no longer carry a mark has ended: a mark that comes before the next update begins another (R110). -/
def Dev.endHold (d : Dev) (e : Nat) : Dev :=
  if tget false d.loop.recordHold e && !d.onHold e then
    d.setLoop (fun l => { l with recordHold := tset false l.recordHold e false, holdEnded := tset false l.holdEnded e true })
  else d

/-- Target curve of an element (R161). -/
def Dev.targetCurve (d : Dev) (e : Nat) : Curve := targetOf (tget 0 d.arr.zoneTemp (d.record e).zone) (d.points e)

end Sys2Proof.Machine
end

