-- ==== Sys2Proof/Machine/LoopCtl.lean ====
section
/-! DEFINITION. The Loop Engine's control: start and stop, lanes and their fences, the checker test, reverse linearisations
(R104, R106, R122, R126 to R129, R138, R395). -/

namespace Sys2Proof.Machine

/-! ## Start and stop (R128) -/

/-- A cause that stops the engine at once persists: shutdown, a device fault, cold-standby duty. -/
def Dev.loopBarred (d : Dev) : Bool := d.therm.state = 3 || d.ev.deviceFault ≠ 0 || d.tow.standing

def Dev.loopWrite (d : Dev) (v : Nat) (f : Loop → Loop) : Dev :=
  { d with loop := f d.loop, cfg := { d.cfg with loop := { d.cfg.loop with control := v } } }

/-- LOOP_STOP: STOPPING at the next tick; while RESTART_PENDING it cancels the restart. -/
def loopStop (d : Dev) : Resp × Dev :=
  (.ok, d.loopWrite 0 (fun l =>
    if l.state = .restartPending then { l with state := .stopping } else { l with due := some 0 }))

def execLoopStop (s : State) : Host.Outcome State Fault Refusal := s.ask loopStop

/-- LOOP_START: RUNNING from the next tick; while STOPPING it sets RESTART_PENDING. -/
def loopStart (d : Dev) : Resp × Dev :=
  if d.loopBarred then (.conflict, d)
  else (.ok, d.loopWrite 1 (fun l =>
    if l.state = .stopping then { l with state := .restartPending } else { l with due := some 1 }))

def execLoopStart (s : State) : Host.Outcome State Fault Refusal := s.ask loopStart

def loopControlWrite (v : Nat) (d : Dev) : Resp × Dev :=
  match v with
  | 0 => loopStop d
  | 1 => loopStart d
  | _ => (.invalid, d)

/-- The engine starts: every element's first update makes the transfer from HOLD to its mode. -/
def Dev.startLoop (d : Dev) : Dev :=
  let es := d.used
  d.setLoop (fun l => { l with state := .running, due := none, fromHold := each es (fun e t => tset false t e true) l.fromHold })

/-- An element's update is issued in cycle n: at half rate only in its computing cycles (R61). -/
def Dev.computes (d : Dev) (n e : Nat) : Bool :=
  !tget false d.cyc.halfRate e || (n + 1 + siteRow (entryDrive (d.entry e))) % 2 = 0

/-- Elements whose group governs them by standing still. -/
def Dev.parked (d : Dev) (e : Nat) : Bool := d.groupState (siteCol (entryDrive (d.entry e)) / 32) = .stopped

/-- Spare issue slots taken (R106). -/
def Dev.takeSpare (d : Dev) (n : Nat) : Dev := d.setLoop (fun l => { l with spareNow := l.spareNow + n })

/-- The tick's part: a stopping engine is STOPPED, and what was written takes effect. A restart that RESTART_PENDING carries out
leaves STOP_CAUSE at the cause of the stop before: the engine is not STOPPED at any instant in between, and R128 does not
say that a cause is recorded (DESIGN CHOICE, log entry 104). -/
def Dev.loopTick (d : Dev) : Dev :=
  let due := d.loop.due
  let d := d.setLoop (fun l => { l with due := none })
  match d.loop.state with
  | .stopping => d.setLoop (fun l => { l with state := .stopped, stopCause := 0 })
  | .restartPending => d.startLoop
  | .running => if due = some 0 then d.setLoop (fun l => { l with state := .stopping }) else d
  | .stopped => if due = some 1 then d.startLoop else d

/-- Updates are issued while the engine runs and in the cycle in which it stops. -/
def Dev.loopActive (d : Dev) : Bool := d.loop.state ≠ .stopped

/-! ## Lanes (R104, R126, R127, R395) -/

/-- The healthy lanes, ascending. -/
def Dev.healthyLanes (d : Dev) : List Nat := (List.range 16).filter (fun l => !d.loop.fenced.getLsbD l)

/-- Lane and issue clock of the k-th update of slot j in cycle n. -/
def Dev.laneFor (d : Dev) (n j k : Nat) : Nat × Nat :=
  let h := d.healthyLanes
  (h.getD (((n + j) % h.length + k) % h.length) 0, k / h.length)

/-- A lane is to be fenced at the next tick; a third one while two are fenced is a device fault. -/
def Dev.fenceLane (d : Dev) (l : Nat) : Dev :=
  if d.loop.fenced.getLsbD l ∨ d.loop.fenceDue.contains l then d
  else if 2 ≤ d.fencedCount + d.loop.fenceDue.length then d.declareFault 1
  else d.setLoop (fun x => { x with fenceDue := x.fenceDue ++ [l] })

/-- A residue mismatch on a lane (R126): counted; the third within 1,024 consecutive cycles fences it. -/
def Dev.mismatch (d : Dev) (l e : Nat) : Dev :=
  let recent := d.loop.mismatches.filter (fun m => d.ticks < m.2 + 1024) ++ [(l, d.ticks)]
  let d := Dev.raise (d.setLoop (fun x => { x with
    residue := tset 0 x.residue l (tget 0 x.residue l + 1), mismatches := recent })) .residueMismatch [l, e]
  if 3 ≤ (recent.filter (fun m => m.1 = l)).length then d.fenceLane l else d

/-- LANE_UNFENCE: the self-test of a fenced lane starts; one that runs already goes on (DESIGN CHOICE, log entry 122). -/
def laneUnfence (l : Nat) (d : Dev) : Resp × Dev :=
  if 15 < l then (.invalid, d)
  else if d.loop.fenced.getLsbD l = false then (.conflict, d)
  else (.ok, d.setLoop (fun x => { x with selftests := if x.selftests.contains l then x.selftests else x.selftests ++ [l] }))

def execLaneUnfence (v : BitVec 8) (s : State) : Host.Outcome State Fault Refusal := s.ask (laneUnfence v.toNat)

/-- LANE_SELFTEST_DONE: a pass rejoins the lane at the next tick. -/
def laneSelftestDone (l : Nat) (pass : Bool) (d : Dev) : Dev :=
  if d.loop.selftests.contains l then
    let d := (d.setLoop (fun x => { x with selftests := x.selftests.filter (fun k => k ≠ l) })).takeSpare 4096
    if pass then d.setLoop (fun x => { x with rejoinDue := x.rejoinDue ++ [l] }) else d.raise .laneSelftestFail [l]
  else d

def execLaneSelftestDone (lane : Fin 16) (pass : Bool) (s : State) : Host.Outcome State Fault Refusal :=
  s.upd (laneSelftestDone lane pass)

/-- LANE_FENCE and the rejoining of lanes at a tick. A lane's mismatches before its fence do not count after it rejoins (DESIGN CHOICE,
log entry 122). -/
def Dev.laneTick (d : Dev) : Dev :=
  let d := each d.loop.fenceDue (fun l d =>
    Dev.raise (d.setLoop (fun x => { x with
      fenced := x.fenced ||| (1 <<< l), mismatches := x.mismatches.filter (fun m => m.1 ≠ l) })) .laneFenced [l]) d
  let d := each d.loop.rejoinDue (fun l d => d.setLoop (fun x => { x with fenced := x.fenced &&& ~~~((1 : BitVec 16) <<< l) })) d
  d.setLoop (fun x => { x with fenceDue := [], rejoinDue := [] })

/-- CHECKER_TEST (R395): on the ACTIVE unit one lane a cycle; an unflagged error fences the lane. -/
def Dev.checkerTick (d : Dev) (missed : Bool) : Dev :=
  if d.tow.role = 0 then
    let l := d.loop.checkerLane
    let d := (d.setLoop (fun x => { x with checkerLane := (l + 1) % 16 })).takeSpare 64
    if missed then (d.fenceLane l).raise .checkerFail [l] else d
  else d

/-! ## Reverse linearisations (R106, R122) -/

/-- A request for code c: a later one for the same element takes the place of an earlier. The phase is clamped where the element's
mode after it is AUTO or DARK. -/
def Dev.requestReverse (d : Dev) (e c mode : Nat) : Dev :=
  d.setLoop (fun l => { l with reverse := l.reverse.filter (fun p => p.1 ≠ e) ++ [(e, c, (mode = 0 || mode = 3 : Bool))] })

/-- REVERSE_LINEARISATION: the request of an element runs in a spare issue slot; a mismatch discards and repeats it. -/
def reverseLinearisation (e : Nat) (bad : Option Nat) (d : Dev) : Dev :=
  match tfind d.loop.reverse e with
  | none => d
  | some (c, limit) =>
    let d := d.takeSpare 1
    match bad with
    | some l => d.mismatch l e
    | none =>
      let r := d.record e
      let phi := (d.workingCurve e).reverse c r.phiOut r.phiMin r.phiMax limit
      (d.setLoop (fun l => { l with reverse := l.reverse.filter (fun p => p.1 ≠ e) })).modRec e (fun r => { r with phiOut := phi })

def execReverseLinearisation (elem : BitVec 15) (mismatch : Option (Fin 16)) (s : State) : Host.Outcome State Fault Refusal :=
  s.upd (reverseLinearisation elem.toNat (mismatch.map (fun l => l.val)))

/-! ## At the end of a cycle (R129, R138) -/

/-- ELEMENT_DARK and ELEMENT_LIT: at most one each per cycle, with the lowest number and the count. -/
def Dev.darkEvents (d : Dev) : Dev :=
  let i := d.loop.darkIn
  let o := d.loop.darkOut
  let d := d.setLoop (fun l => { l with darkIn := [], darkOut := [] })
  let d := if i = [] then d else d.raise .elementDark [i.min?.getD 0, i.length]
  if o = [] then d else d.raise .elementLit [o.min?.getD 0, o.length]

/-- The counts of the cycle that ended. -/
def Dev.countTick (d : Dev) : Dev :=
  d.setLoop (fun l => { l with updatesLast := l.updatesNow, updatesNow := 0, spareLast := l.spareNow, spareNow := 0 })

end Sys2Proof.Machine
end

