-- ==== Sys2Proof/Machine/Checkpoint.lean ====
section
/-! DEFINITION. Checkpoint images: capture, sending, receipt, residency, readiness (R353, R357 to R361, R369). -/

namespace Sys2Proof.Machine

/-! ## The checkpoint word (R358) -/

/-- STATE of a word by the effective mode: AUTO and DARK INTEG, MANUAL the code, FAULT the cause, HOLD 0. -/
def stateField (mode : Nat) (r : Rec) (cause : Nat) : Nat :=
  match mode with
  | 0 | 3 => code 32 r.integ
  | 1 => r.manualCode
  | 4 => cause
  | _ => 0

/-- The word of an element: 0 when it is not in use; HOLD at LAST_CODE when its record is poisoned. -/
def Dev.checkWord (d : Dev) (e : Nat) : Nat :=
  if d.inUse e = false then 0
  else if d.recPoisoned e then 2 ^ 50 * d.lastCode (entryDrive (d.entry e)) + 2 * 2 ^ 33
  else
    let r := d.record e
    let m := d.modeNow e
    2 ^ 50 * r.codeOut + 2 ^ 36 * r.codeND + 2 ^ 33 * m + 2 ^ 32 * ofBool (d.jumpPending e) + stateField m r (d.faultCause e)

/-- The word carries a mark: JUMP_PENDING and FAULT_CAUSE come from a poisoned word of region 3 (R380). -/
def Dev.checkMark (d : Dev) (e : Nat) : Bool := !d.recPoisoned e && d.sram.poisoned (elemAddr e)

/-- The word of an element goes into a buffer. -/
def Dev.captureWord (d : Dev) (b e : Nat) : Dev :=
  d.mem (fun m => m.copyWord (bufferAddr b + 8 * e) (d.checkWord e) (d.checkMark e))

/-- An update of the cycle captured writes its record back: its word is taken (R357). -/
def Dev.takeWord (d : Dev) (e : Nat) : Dev :=
  match d.tow.capture with
  | some i => if i.cycle = d.cycleNo then (d.captureWord i.buffer e).setTow (fun t => { t with taken := t.taken ++ [e] }) else d
  | none => d

/-- The rest of an image is put into its buffer: the words of some elements, read now, and zero for the elements not in use. -/
def Dev.fillBuffer (d : Dev) (b : Nat) (es : List Nat) : Dev :=
  let a := bufferAddr b
  let d := d.mem (fun m => m.blank (fun x => a ≤ x && x < a + 0x40000 && !d.used.contains ((x - a) / 8)))
  each es (fun e d => d.captureWord b e) d

def Dev.bufferBytes (d : Dev) (b : Nat) : List Byte := d.sram.bytes (bufferAddr b) 0x40000

/-! ## Capture (R357) and sending (R359) -/

def Dev.countImage (d : Dev) (i : Nat) : Dev :=
  d.setTow (fun t => { t with counters := tset 0 t.counters i (tget 0 t.counters i + 1) })

/-- Rate of the mate lanes in use: that of SL2, or of SL3 while SL2 is not UP. -/
def Dev.mateRate (d : Dev) : Nat := d.laneRate (if d.laneUp 2 then 2 else 3)
def Dev.chunkWords (d : Dev) : Nat := if d.mateRate = 1 then 240 else 120
def Dev.chunkCount (d : Dev) : Nat := if d.mateRate = 1 then 137 else 274

/-- The capture of the cycle just ended is complete, and its stream begins. -/
def Dev.finishCapture (d : Dev) : Dev :=
  match d.tow.capture with
  | none => d
  | some i =>
    -- the records of elements whose update of the cycle wrote nothing back are read in spare issue slots
    let idle := d.used.filter (fun e => !d.tow.taken.contains e)
    let d := (d.takeSpare idle.length).fillBuffer i.buffer idle
    d.setTow (fun t => { t with
      capture := none, taken := [], stream := if d.mateUp then some { image := { i with chunks := d.chunkCount, bankDigest := d.circ.bankDigest }, next := 0 } else none })

/-- A capture begins at a tick of the interval while CHECKPOINT_ENABLE is 1, or for a YIELD (R357, R366); a stream still running is abandoned (R359). -/
def Dev.beginCapture (d : Dev) : Dev :=
  let due := d.tow.yieldDue
  let d := d.setTow (fun t => { t with yieldDue := false })
  if d.driving && d.arr.wiredOn && (due || (d.cfg.tow.enable && d.cycleNo % d.tow.intervalOn = 0 : Bool)) then
    let d := if d.tow.stream.isSome then d.countImage 3 else d
    d.setTow (fun t => { t with
      stream := none, taken := [], nextBuffer := 1 - t.nextBuffer
      yieldCycle := if due then some d.cycleNo else t.yieldCycle
      capture := some {
        cycle := d.cycleNo, gen := d.circ.committedGen, chunks := d.chunkCount, buffer := t.nextBuffer
        bankDigest := d.circ.bankDigest, fabricDigest := d.fabricDigest } })
  else d

/-- CHECKPOINT_INTERVAL comes into force at the next multiple of the old and the new interval (R369). -/
def Dev.intervalTick (d : Dev) : Dev :=
  if d.cycleNo % d.tow.intervalOn = 0 ∧ d.cycleNo % d.cfg.tow.interval = 0 then
    d.setTow (fun t => { t with intervalOn := d.cfg.tow.interval })
  else d

/-- Head of a CHECKPOINT frame. -/
def checkHead (chunk count first words cycle gen : Nat) : List Byte :=
  be 2 0x0316 ++ be 2 chunk ++ be 2 count ++ be 2 first ++ be 2 words ++ [0, 0] ++ be 8 cycle ++ be 4 gen

/-- The mate lane of a chunk: even on SL2, odd on SL3, and all on the other while one is DOWN. -/
def Dev.chunkLane (d : Dev) (k : Nat) : Nat :=
  if d.laneUp 2 && (k % 2 = 0 || !d.laneUp 3) then 2 else 3

def Dev.toMate (d : Dev) (l cls typ : Nat) (poison : Bool) (payload : List Byte) : Dev :=
  d.sendLocal l cls typ d.net.mateAddress poison payload

/-- A frame to the mate on every mate link that is UP. -/
def Dev.toMateBoth (d : Dev) (cls typ : Nat) (payload : List Byte) : Dev :=
  each [2, 3] (fun l d => if d.laneUp l then d.toMate l cls typ false payload else d) d

/-- CHECKPOINT_SEND: the next chunk of the stream, and after the last the seal on every mate link that is UP. A unit alone on
its array sends none (R44). -/
def checkpointSend (d : Dev) : Dev :=
  match d.tow.stream with
  | none => d
  | some s =>
    if d.mateUp = false ∨ d.arr.wiredOn = false then d.setTow (fun t => { t with stream := none })
    else
      let n := if s.image.chunks = 137 then 240 else 120
      let k := s.next
      let i := s.image
      if k < i.chunks then
        let first := k * n
        let words := min n (32768 - first)
        let a := bufferAddr i.buffer + 8 * first
        let p := (List.range words).any (fun w => d.sram.poisoned (a + 8 * w))
        let d := d.toMate (d.chunkLane k) 4 16 p
          (checkHead k i.chunks first words i.cycle i.gen.toNat ++ d.sram.bytes a (8 * words))
        d.setTow (fun t => { t with stream := some { s with next := k + 1 } })
      else
        let sealBody := checkHead 0xFFFF i.chunks 0 0 i.cycle i.gen.toNat ++ i.bankDigest
          ++ sha384 (d.bufferBytes i.buffer) ++ i.fabricDigest
        let d := d.toMateBoth 4 16 sealBody
        (d.countImage 0).setTow (fun t => { t with stream := none, lastSent := i.cycle })

def execCheckpointSend (s : State) : Host.Outcome State Fault Refusal := s.upd checkpointSend

/-! ## Receipt (R360) -/

/-- The buffer that is not resident. -/
def Dev.freeBuffer (d : Dev) : Nat :=
  match d.tow.resident with
  | some i => 1 - i.buffer
  | none => 0

/-- A chunk with a new IMAGE_CYCLE abandons the reception in progress. -/
def Dev.openReception (d : Dev) (m : ChunkMsg) : Dev :=
  let fresh : Reception := {
    cycle := m.imageCycle.toNat, gen := m.generation, chunks := m.chunkCount.toNat, buffer := d.freeBuffer
    got := [], poisoned := false }
  match d.tow.reception with
  | none => d.setTow (fun t => { t with reception := some fresh })
  | some r =>
    if r.cycle = m.imageCycle.toNat then d
    else (d.countImage 2).setTow (fun t => { t with reception := some fresh })

/-- CHECKPOINT_RECEIVE: a unit that is not ACTIVE takes a chunk; one with POISON is refused. -/
def checkpointReceive (m : ChunkMsg) (poison : Bool) (d : Dev) : Dev :=
  let d := d.takeAny 16
  if d.driving ∨ d.tow.won then d
  else
    let d := d.openReception m
    match d.tow.reception with
    | none => d
    | some r =>
      if poison ∨ 32768 < m.first.toNat + m.words.length then d.setTow (fun t => { t with reception := some { r with poisoned := true } })
      else
        let d := d.mem (fun x => x.putWords (bufferAddr r.buffer + 8 * m.first.toNat) (m.words.map (fun w => w.toNat)))
        d.setTow (fun t => { t with reception := some { r with got := if r.got.contains m.chunk.toNat then r.got else m.chunk.toNat :: r.got } })

def execCheckpointReceive (chunk : ChunkMsg) (poison : Bool) (s : State) : Host.Outcome State Fault Refusal :=
  s.upd (checkpointReceive chunk poison)

/-- Every chunk is present, and the digest matches. -/
def Dev.sealGood (d : Dev) (r : Reception) (m : SealMsg) : Bool :=
  r.cycle = m.imageCycle.toNat && r.chunks = m.chunkCount.toNat && r.got.length = r.chunks
    && (List.range r.chunks).all (fun k => r.got.contains k) && sha384 (d.bufferBytes r.buffer) = m.imageDigest

/-- CHECKPOINT_SEAL: the image is verified, or discarded; one of another bank raises BANK_MISMATCH. -/
def checkpointSeal (m : SealMsg) (d : Dev) : Dev :=
  let d := (d.takeAny 16).setTow (fun t => { t with mateFabric := some m.fabricDigest })
  match d.tow.reception with
  | none => d
  | some r =>
    if r.cycle ≠ m.imageCycle.toNat then d
    else
      let good := d.sealGood r m
      let d := d.setTow (fun t => { t with reception := none })
      if good = false then d.countImage 2
      else if m.bankDigest ≠ d.circ.bankDigest then (d.countImage 2).raise .bankMismatch
      else d.setTow (fun t => { t with verifiedAt := d.ticks, verified := some {
        cycle := r.cycle, gen := r.gen, chunks := r.chunks, buffer := r.buffer
        bankDigest := m.bankDigest, fabricDigest := m.fabricDigest } })

def execCheckpointSeal (msg : SealMsg) (s : State) : Host.Outcome State Fault Refusal := s.upd (checkpointSeal msg)

/-- The word of an element in a buffer. -/
def Dev.bufferWord (d : Dev) (b e : Nat) : Nat := d.sram.word (bufferAddr b + 8 * e)

/-- The words that the fields of an image word go to: 0, 4, 5 and 6 of the record and the element's word of region 3. -/
def restoredWords (e : Nat) : List Nat := [recAddr e, recAddr e + 32, recAddr e + 40, recAddr e + 48, elemAddr e]

/-- CODE_OUT, CODE_ND, MODE, JUMP_PENDING and STATE of a word are written into the record, by field writes of the Checkpoint Unit (R360,
R375); the mark of a poisoned word goes with them (R380). -/
def Dev.restoreWord (d : Dev) (e w : Nat) (bad : Bool) : Dev :=
  let mode := bitsOf w 33 3
  let st := bitsOf w 0 32
  let d := d.fieldRec e .checkpointUnit (fun r => { r with
    codeOut := bitsOf w 50 14, codeND := bitsOf w 36 14, mode := mode
    integ := if mode = 0 ∨ mode = 3 then signed 32 st else r.integ
    manualCode := if mode = 1 then st % 2 ^ 14 else r.manualCode })
  let d := d.setJump e (bit w 32) .checkpointUnit
  let d := if mode = 4 then d.setCause e (st % 8) .checkpointUnit else d
  if bad then d.mem (fun m => each (restoredWords e) (fun a m => m.mark a true) m) else d

/-- The last codes that an image holds (R90), and its words under an equal generation, for every record (R360). -/
def Dev.lastFromImage (d : Dev) (b : Nat) : Dev :=
  each d.used (fun e d => d.setLast (entryDrive (d.entry e)) (bitsOf (d.bufferWord b e) 50 14)) d
def Dev.restoreImage (d : Dev) (b : Nat) : Dev :=
  each (List.range 32768) (fun e d => d.restoreWord e (d.bufferWord b e) (d.sram.poisoned (bufferAddr b + 8 * e))) d

/-- IMAGE_RESIDENT: at the tick after its seal, and at no other instant, the image becomes resident: last codes, and every record
under an equal generation. -/
def imageResident (d : Dev) : Dev :=
  match d.tow.verified with
  | none => d
  | some i =>
    if d.cyc.slot ≠ 0 ∨ d.ticks ≤ d.tow.verifiedAt then d else
    let d := d.setTow (fun t => { t with verified := none })
    if d.driving ∨ d.tow.won then d.countImage 2
    else
      let d := d.setTow (fun t => { t with resident := some i, awaitImage := t.awaitImage && !d.mateUp })
      let d := d.lastFromImage i.buffer
      let d := if i.gen = d.circ.committedGen then d.restoreImage i.buffer else d
      let d := d.countImage 1
      let ack := be 1 4 ++ [0, 0, 0] ++ be 4 d.tow.syncSeq.toNat ++ be 8 i.cycle
      if d.mateUp then
        (d.toMate (if d.laneUp 2 then 2 else 3) 4 17 false ack).setTow (fun t => { t with syncSeq := t.syncSeq + 1 })
      else d

def execImageResident (s : State) : Host.Outcome State Fault Refusal := s.upd imageResident

/-- IMAGE_ACK (R366, R368): the mate holds the image captured for a YIELD: the unit withdraws from the next window. -/
def imageAck (cycle : Nat) (d : Dev) : Dev :=
  let d := d.takeAny 17
  if d.tow.yieldState = 1 ∧ d.tow.yieldCycle = some cycle then
    d.setTow (fun t => { t with yieldState := 2, withdrawAt := d.ticks })
  else d

def execImageAck (imageCycle : Nat) (s : State) : Host.Outcome State Fault Refusal := s.upd (imageAck imageCycle)

/-! ## Readiness (R353) -/

/-- READINESS as a tick judges it: 0 NO_IMAGE, 1 STALE, 2 READY; after both mate links were DOWN it is READY again only
with an image that became resident since a link returned (R354). -/
def Dev.readinessNow (d : Dev) : Nat :=
  match d.tow.resident with
  | none => 0
  | some i =>
    if d.cycleNo - i.cycle ≤ d.cfg.tow.freshLimit ∧ i.gen = d.circ.committedGen ∧ i.bankDigest = d.circ.bankDigest
      ∧ i.fabricDigest = d.fabricDigest ∧ d.mateUp ∧ !d.tow.awaitImage then 2 else 1

def Dev.readinessTick (d : Dev) : Dev :=
  let r := d.readinessNow
  let old := d.tow.readiness
  (d.setTow (fun t => { t with readiness := r })).raiseIf (r ≠ old) .readinessChanged

/-- The resident image is fresh: its age is within FRESH_LIMIT (R361); a controller alone on its array answers every
WORD_REQUEST with STALE (R44). -/
def Dev.freshImage (d : Dev) : Option Image :=
  match if d.arr.wiredOn then d.tow.resident else none with
  | some i => if d.cycleNo - i.cycle ≤ d.cfg.tow.freshLimit then some i else none
  | none => none

/-! ## Settings (R370) -/

/-- CHECKPOINT_INTERVAL written: a power of 2 from 64 to 4,096; idle while the unit is not ACTIVE. -/
def intervalWrite (v : Nat) (d : Dev) : Resp × Dev :=
  if [64, 128, 256, 512, 1024, 2048, 4096].contains v then
    (.ok, { d with cfg := { d.cfg with tow := { d.cfg.tow with interval := v } } })
  else (.invalid, d)

def freshLimitWrite (v : Nat) (d : Dev) : Resp × Dev :=
  if v < 64 ∨ 16384 < v then (.invalid, d)
  else (.ok, { d with cfg := { d.cfg with tow := { d.cfg.tow with freshLimit := v } } })

end Sys2Proof.Machine
end

