-- ==== Sys2Proof/Machine/LabelSample.lean ====
section
/-! DEFINITION. Tone pairs and the samples the Label Decoder takes (R232 to R234). -/

namespace Sys2Proof.Machine

def Dev.setDec (d : Dev) (f : Decoder → Decoder) : Dev := { d with dec := f d.dec }
def Dev.setDecCfg (d : Dev) (f : DecoderCfg → DecoderCfg) : Dev := { d with cfg := { d.cfg with dec := f d.cfg.dec } }

/-! ## Tone pairs (R232) -/

/-- A pair as set: its tones and whether it is enabled. -/
structure Pair where
  f0 : Nat
  f1 : Nat
  on : Bool
deriving DecidableEq, Repr

def Dev.pair (d : Dev) (j : Nat) : Pair :=
  ⟨(tget 0 d.cfg.dec.f0 j).toNat, (tget 0 d.cfg.dec.f1 j).toNat, tget false d.cfg.dec.enable j⟩

/-- PAIR_ENABLE in force until the next tick after a write. -/
def Dev.pairOn (d : Dev) (j : Nat) : Bool := (tfind d.dec.oldEnable j).getD (tget false d.cfg.dec.enable j)

/-- Two tones lie at least 1,000 Hz apart. -/
def apart (a b : Nat) : Bool := a + 1000 ≤ b || b + 1000 ≤ a

def Pair.clear (x y : Pair) : Bool := apart x.f0 y.f0 && apart x.f0 y.f1 && apart x.f1 y.f0 && apart x.f1 y.f1

/-- The conditions of a pair at a period, beside ACTIVE pairs of lower number. -/
def Pair.good (x : Pair) (period : Nat) (lower : List Pair) : Bool :=
  1000 ≤ x.f0 && x.f0 < x.f1 && x.f1 ≤ 100000 && x.f1 * period ≤ 375000000
    && (x.f1 - x.f0) % 500 = 0 && 1000 ≤ x.f1 - x.f0 && lower.all (fun y => x.clear y)

/-- Numbers of the pairs of a list, from j on, that are ACTIVE, with their settings. -/
def activeFrom (period : Nat) : Nat → List Pair → List Pair → List Nat
  | _, _, [] => []
  | j, lower, x :: l =>
    if x.on && x.good period lower then j :: activeFrom period (j + 1) (lower ++ [x]) l else activeFrom period (j + 1) lower l

def activePairs (period : Nat) (l : List Pair) : List Nat := activeFrom period 0 [] l

/-- A pair is ACTIVE. -/
def Dev.pairActive (d : Dev) (j : Nat) : Bool := tget .off d.dec.pairState j = .active

/-! ## Channels (R233) -/

/-- Tap of channel t: 2p reads INGRESS_TAP of port p, 2p + 1 its EGRESS_TAP; a port without a tap has no channel. -/
def Dev.tapOf (d : Dev) (t : Nat) : Option Nat :=
  if d.mapPorts ≤ t / 2 then none
  else
    let s := if t % 2 = 0 then d.ingressTap (t / 2) else d.egressTap (t / 2)
    if s = 0xFFFF then none else some s

def Dev.chan (d : Dev) (t j : Nat) : PairChan := tget {} d.dec.chans (8 * t + j)
def Dev.setChan (d : Dev) (t j : Nat) (x : PairChan) : Dev := d.setDec (fun c => { c with chans := tset {} c.chans (8 * t + j) x })

/-- The decoder correlates: it is running, or finishing its decodes. -/
def Dev.decoding (d : Dev) : Bool := d.dec.state = .running || d.dec.state = .stopping || d.dec.state = .restartPending

/-! ## Correlation (R234) -/

/-- Phase step of a tone, rounded to nearest. -/
def phaseStep (f period : Nat) : Nat := (2 * f * period * 2 ^ 32 + 1000000000) / 2000000000 % 2 ^ 32

/-- Phase of tone k (2j and 2j + 1 are pair j's) in the cycle `back` cycles before the present one. -/
def Dev.tonePhase (d : Dev) (k back : Nat) : Nat :=
  let p := d.pair (k / 2)
  let s := phaseStep (if k % 2 = 0 then p.f0 else p.f1) d.period
  ((tget 0 d.dec.phases k).toNat + 2 ^ 32 * back - s * back) % 2 ^ 32

/-- A tick is counted with the quarter-bit it falls in (R234). -/
def Dev.countQuarter (d : Dev) : Dev :=
  d.setDec (fun c =>
    if d.time.lastTick / 500000 = c.quarter then { c with ticksNow := c.ticksNow + 1 } else { c with ticksAhead := c.ticksAhead + 1 })

/-- At the tick the phases of the ACTIVE pairs step. -/
def Dev.labelPhases (d : Dev) : Dev :=
  iter (fun k d =>
    if d.pairActive (k / 2) then
      let p := d.pair (k / 2)
      let s := phaseStep (if k % 2 = 0 then p.f0 else p.f1) d.period
      d.setDec (fun c => { c with phases := tset 0 c.phases k (tget 0 c.phases k + BitVec.ofNat 32 s) })
    else d) 16 0 d

/-- A sample's products are added to a quarter-bit. -/
def Quarter.add (q : Quarter) (v : Int) (p0 p1 : Nat) : Quarter :=
  let i0 := p0 / 2 ^ 22
  let i1 := p1 / 2 ^ 22
  { i0 := q.i0 + v * sine (i0 + 256), q0 := q.q0 + v * sine i0
    i1 := q.i1 + v * sine (i1 + 256), q1 := q.q1 + v * sine i1, used := q.used + 1 }

/-- The running mean after one more sample: a first-order filter (R234), which brings it nearer to the sample and not past it; how
near is the filter's own arithmetic. -/
def meanAfter (m s : Int) (period : Nat) : Int := max (min m s) (min (max m s) (Config.meanFilter m s period))

/-- Channel t takes a sample of the cycle `back` cycles ago, whose tick lies in quarter-bit q. -/
def Dev.chanSample (d : Dev) (t : Nat) (s : Int) (q back : Nat) : Dev :=
  let m := tget 0 d.dec.mean t
  let d := d.setDec (fun c => { c with mean := tset 0 c.mean t (meanAfter m s d.period) })
  iter (fun j d =>
    if d.pairActive j then
      let x := d.chan t j
      let p0 := d.tonePhase (2 * j) back
      let p1 := d.tonePhase (2 * j + 1) back
      if q = d.dec.quarter then d.setChan t j { x with now := x.now.add (s - m) p0 p1 }
      else if q = d.dec.quarter + 1 then d.setChan t j { x with ahead := x.ahead.add (s - m) p0 p1 }
      else d
    else d) 8 0 d

/-- A usable sample of a site, of the cycle that began at a network time, goes to every channel that reads it. -/
def Dev.labelSample (d : Dev) (site : Nat) (s : Int) (start tick : Nat) : Dev :=
  if d.decoding = false then d
  else
    let q := start / 500000
    iter (fun t d => if d.tapOf t = some site then d.chanSample t s q (d.ticks - tick) else d) (2 * d.mapPorts) 0 d

end Sys2Proof.Machine
end

