-- ==== Sys2Proof/Machine/Respond.lean ====
section
/-! DEFINITION. Responses: their bodies, the requesters' windows and the pool of bodies, items that answer later
(R324, R328, R329, R331 to R333). -/

namespace Sys2Proof.Machine

def Dev.setReq (d : Dev) (f : Requests → Requests) : Dev := { d with req := f d.req }

/-! ## Response bodies (R324) -/

/-- Number of a response code (R325). -/
def respCode (r : Resp) : Nat :=
  match r with
  | .ok => 0 | .busy => 1 | .denied => 2 | .noent => 3 | .existsOtherPort => 4
  | .stale => 5 | .poisoned => 6 | .invalid => 7 | .conflict => 8 | .late => 9

/-- An item of a response: CODE, TYPE, LENGTH and the value. -/
def Answer.bytes (a : Answer) : List Byte := be 1 (respCode a.code) ++ be 1 a.ty ++ be 2 a.value.length ++ a.value

/-- A value that was read from poisoned data (R329). -/
def Answer.poison (a : Answer) : Bool := a.code = .poisoned && a.value ≠ []

/-- STATUS: OK when every item is OK, else the code of the first that is not. -/
def statusOf : List Answer → Resp
  | [] => .ok
  | a :: l => if a.code = .ok then statusOf l else a.code

def responseBody (seq : Nat) (status : Resp) (count flags level high : Nat) (items : List Byte) : List Byte :=
  be 2 seq ++ be 1 (respCode status) ++ be 1 count ++ be 1 flags ++ be 1 level ++ be 2 high ++ items

/-! ## Windows (R331) -/

def Dev.reqWindow (d : Dev) (src : Nat) : Option ReqWindow := d.req.windows.find? (fun w => w.src = src)

/-- WINDOW_HIGH of a response; what it shows for a requester without a window no rule states. -/
def Dev.windowHigh (d : Dev) (src : Nat) : Nat :=
  match d.reqWindow src with
  | some w => w.high.toNat
  | none => (Config.noWindowHigh src).toNat

def Dev.putWindow (d : Dev) (w : ReqWindow) : Dev :=
  d.setReq (fun r => { r with windows := r.windows.filter (fun x => x.src ≠ w.src) ++ [w] })

/-- Bytes of the response pool in use. -/
def poolUsed (l : List ReqWindow) : Nat :=
  (l.map (fun w => (w.entries.map (fun e => (e.full.getD []).length)).sum)).sum

/-- The oldest body held. -/
def oldestBody (l : List ReqWindow) : Option Nat :=
  (l.flatMap (fun w => (w.entries.filter (fun e => e.full.isSome)).map (fun e => e.stamp))).min?

def dropBody (stamp : Nat) (l : List ReqWindow) : List ReqWindow :=
  l.map (fun w => { w with entries := w.entries.map (fun e => if e.stamp = stamp then { e with full := none } else e) })

/-- Oldest bodies are evicted until the pool's 512 KiB hold the rest; n bounds the evictions. -/
def evict : Nat → List ReqWindow → List ReqWindow
  | 0, l => l
  | n + 1, l => if poolUsed l ≤ 524288 then l else match oldestBody l with
    | some s => evict n (dropBody s l)
    | none => l

/-- The entry that an executed request leaves. -/
def Outstanding.entry (o : Outstanding) (status : Resp) (body : List Byte) (stamp : Nat) : WinEntry := {
  seq := o.seq, digest := o.digest, level := o.level, status := status, codes := o.answers.map (fun a => a.code)
  full := some body, poison := o.answers.any Answer.poison, stamp := stamp }

/-- An executed request's entry is recorded with its response, where its number is not more than 63 below H by then. -/
def Dev.recordEntry (d : Dev) (o : Outstanding) (status : Resp) (body : List Byte) : Dev :=
  match d.reqWindow o.src.toNat with
  | none => d
  | some w =>
    if 63 < (w.high - o.seq).toNat then d
    else
      let e := o.entry status body d.req.stamp
      let d := d.putWindow { w with entries := w.entries.filter (fun x => x.seq ≠ o.seq) ++ [e] }
      d.setReq (fun r => { r with windows := evict 65536 r.windows, stamp := r.stamp + 1 })

/-- A response leaves: over the board SPI port, or in the class and on the plane of its request (R268). -/
def Dev.sendResponse (d : Dev) (spi : Bool) (src cls : Nat) (planeB poison : Bool) (body : List Byte) : Dev :=
  let d := d.setReq (fun r => { r with response := some body })
  if spi then d.setBspi (fun b => { b with request := none, response := some body })
  else d.originate cls 9 src (some planeB) poison body

/-- The response to a duplicate, from its entry (R331). -/
def cachedBody (e : WinEntry) (high : Nat) : List Byte :=
  match e.full with
  | some b => splice (splice b 4 (be 1 (field b 4 1 ||| 1))) 6 (be 2 high)
  | none => responseBody e.seq.toNat e.status e.codes.length 5 e.level high
      (e.codes.flatMap (fun c => ({ code := c, ty := (Config.openType (respCode c)).toNat } : Answer).bytes))

/-- One of the six counters of REQ_COUNTERS (R341). -/
def Dev.countReq (d : Dev) (i : Nat) : Dev :=
  d.setReq (fun r => { r with counters := tset 0 r.counters i (tget 0 r.counters i + 1) })

def Dev.answerFromCache (d : Dev) (src cls : Nat) (planeB : Bool) (e : WinEntry) : Dev :=
  (d.countReq 1).sendResponse false src cls planeB (e.poison && e.full.isSome) (cachedBody e (d.windowHigh src))

/-- The entry from which the duplicates of a request are answered: the one recorded, or its like where H has left it behind. -/
def Dev.entryFor (d : Dev) (o : Outstanding) (status : Resp) (body : List Byte) : WinEntry :=
  ((d.reqWindow o.src.toNat).bind (fun w => w.entries.find? (fun e => e.seq = o.seq))).getD (o.entry status body 0)

/-- Every item of a request has answered: its entry is recorded and the response sent, then those of its duplicates. -/
def Dev.finishRequest (d : Dev) (o : Outstanding) : Dev :=
  let st := statusOf o.answers
  let src := o.src.toNat
  let seq := if o.spi then 0 else o.seq.toNat
  let body := responseBody seq st o.answers.length 0 o.level (d.windowHigh src) (o.answers.flatMap Answer.bytes)
  let d := d.recordEntry o st body
  let d := if o.quiet ∧ st = .ok then
      (if o.spi then d.setBspi (fun b => { b with request := none }) else d)
    else d.sendResponse o.spi src o.cls.toNat o.planeB (o.answers.any Answer.poison) body
  if o.quiet ∧ st = .ok then d
  else each o.dups (fun p d => d.answerFromCache src p.1.toNat p.2 (d.entryFor o st body)) d

/-! ## Items that answer later (R328) -/

/-- The outcome of a write item: a code now, or when something has come about (R328). -/
inductive Reply where
  | now (r : Resp)
  | later (w : WaitFor)
deriving DecidableEq, Repr

def setCode (code : Resp) : Nat → List Answer → List Answer
  | _, [] => []
  | 0, a :: l => { a with code := code } :: l
  | n + 1, a :: l => a :: setCode code n l

/-- What an item waited for has come about: it takes its code. -/
def Outstanding.settle (o : Outstanding) (w : WaitFor) (code : Resp) : Outstanding :=
  { o with
    answers := each (o.waits.filter (fun x => x.2 = w)) (fun x l => setCode code x.1 l) o.answers
    waits := o.waits.filter (fun x => x.2 ≠ w) }

/-- An awaited effect completes with a code: the requests whose last item it was are answered. -/
def Dev.answerWait (d : Dev) (w : WaitFor) (code : Resp) : Dev :=
  let l := d.req.outstanding.map (fun o => (o.settle w code, o.waits.any (fun x => x.2 = w)))
  let ready := (l.filter (fun p => p.2 && p.1.waits.isEmpty)).map (fun p => p.1)
  let left := (l.filter (fun p => !(p.2 && p.1.waits.isEmpty))).map (fun p => p.1)
  each ready (fun o d => d.finishRequest o) (d.setReq (fun r => { r with outstanding := left }))

end Sys2Proof.Machine
end

