-- ==== Sys2Proof/Machine/MemUnit.lean ====
section
/-! DEFINITION. The Memory Controller: the native and the per-byte code, what a read finds, counting, narrow writes,
hard errors, the compatibility window's mode, poison met by a core (R371 to R381, R387, R390). -/

namespace Sys2Proof.Machine

/-! ## The codes (R373, R377) -/

/-- Columns of data bits: the values of odd weight of at least 3, in rising order, among n-bit values. -/
def oddColumns (n : Nat) : List Nat :=
  (List.range (2 ^ n)).filter (fun c => popcount n c % 2 = 1 && 3 ≤ popcount n c)

/-- The column of stored bit p of a code of k data bits and n check bits: data bits first, then check bits. -/
def column (k n p : Nat) : Nat := if p < k then (oddColumns n).getD p 0 else 2 ^ (p - k)

/-- Syndrome that a set of flipped bits leaves on a valid word: the code is linear (R373). -/
def syndromeOf (k n : Nat) (flips : List Nat) : Nat := flips.foldl (fun s p => s ^^^ column k n p) 0

/-- The stored bit whose column the syndrome equals. -/
def bitOfSyndrome (k n s : Nat) : Option Nat := firstWhere (fun p => column k n p = s) (k + n) 0

/-- Check bits of a data word: bit j is the XOR of the data bits whose column has bit j set (R373). -/
def checkBits (k n w : Nat) : Nat := iter (fun i c => if bit w i then c ^^^ column k n i else c) k 0 0

/-- Syndrome of a stored word: the XOR of the columns of every stored bit that reads 1. -/
def syndrome (k n w check : Nat) : Nat :=
  iter (fun p s => if bit (if p < k then w else check) (if p < k then p else p - k) then s ^^^ column k n p else s) (k + n) 0 0

/-- The data bits among the flipped bits, as a mask. -/
def flipMask (k : Nat) (flips : List Nat) : Nat := flips.foldl (fun m p => if p < k then m ^^^ 2 ^ p else m) 0

/-- What a read finds (R373): clean; a single-bit error in a bit; an uncorrectable error. -/
inductive Found where
  | clean | single (p : Nat) | bad
deriving DecidableEq, Repr

def classify (k n s : Nat) : Found :=
  if s = 0 then .clean else match bitOfSyndrome k n s with
    | some p => .single p
    | none => .bad

/-- The word with bit p flipped back, where p is a data bit. -/
def correct (k w p : Nat) : Nat := if p < k then w ^^^ 2 ^ p else w

/-! ## Counting (R373, R379, R387, R390) -/

/-- Finder code of LAST_ERROR (R390). -/
def finderCode (f : Finder) : Nat :=
  match f with
  | .loopEngine => 0 | .core => 1 | .scrubber => 2 | .checkpointUnit => 3 | .requestService => 4
  | .other => 5 | .circuitTables => 6

def Dev.lastError (d : Dev) (a kind : Nat) (f : Finder) (syn : Nat) : Dev :=
  { d with memory := { d.memory with
    lastError := { addr := a, kind := kind, finder := (finderCode f), syndrome := syn, cycle := d.cycleNo } } }

def Dev.ceThreshold (d : Dev) (g : Nat) : Nat := tget 64 d.cfg.mem.ceThreshold g

/-- One corrected error of a region (R379). -/
def Dev.countCorrected (d : Dev) (g : Nat) : Dev :=
  let b := min 65535 (tget 0 d.memory.bucket g + 1)
  let thr := d.ceThreshold g
  let up := thr ≠ 0 ∧ thr < b ∧ tget false d.memory.ceRaised g = false
  let d := { d with memory := { d.memory with
    ce := tset 0 d.memory.ce g (tget 0 d.memory.ce g + 1)
    bucket := tset 0 d.memory.bucket g b
    ceRaised := if up then tset false d.memory.ceRaised g true else d.memory.ceRaised } }
  d.raiseIf up .memCeRate [g]

/-- One hard error of a row: the table of 64 rows, its oldest leaving when it is full (R387). The count, a byte of HARD_ROW, stays at
255 (DESIGN CHOICE: R390 does not say what follows; log entry 113). -/
def countRow (thr mac row : Nat) (l : List (Nat × Nat × Nat × Bool)) : List (Nat × Nat × Nat × Bool) :=
  if l.any (fun e => e.1 = mac && e.2.1 = row) then
    l.map (fun e => if e.1 = mac && e.2.1 = row then
      (mac, row, min 255 (e.2.2.1 + 1), e.2.2.2 || (thr ≤ e.2.2.1 + 1 : Bool)) else e)
  else (if l.length < 64 then l else l.drop 1) ++ [(mac, row, 1, (thr ≤ 1 : Bool))]

def rowCandidate (mac row : Nat) (l : List (Nat × Nat × Nat × Bool)) : Bool :=
  l.any (fun e => e.1 = mac && e.2.1 = row && e.2.2.2)

/-- A hard error at a word (R387). In region 8 it raises the event and makes no candidate (R372). -/
def Dev.hardError (d : Dev) (a : Nat) : Dev :=
  let d := d.raise .hardError
  if regionOf a = some 8 then d else
  let mac := a / 65536
  let row := a / 64 % 1024
  let was := rowCandidate mac row d.memory.hardRows
  let d := { d with memory := { d.memory with
    hardRows := countRow d.cfg.mem.repairThreshold mac row d.memory.hardRows } }
  d.raiseIf (!was && rowCandidate mac row d.memory.hardRows && !d.cfg.mem.repairAuto) .repairCandidate

/-- Elements whose record waits for a rebuild (R386). -/
def Dev.askRebuild (d : Dev) (a : Nat) : Dev :=
  if regionOf a = some 0 ∧ (tfind d.memory.rebuild (a / 64)).isNone then
    { d with memory := { d.memory with rebuild := d.memory.rebuild ++ [(a / 64, none)] } }
  else d

/-- A corrected error at an address (R373): counted, recorded, and a hard error when the same syndrome was written back
there within 60 s (R387). -/
def Dev.noteCorrected (d : Dev) (a : Nat) (f : Finder) (syn : Nat) : Dev :=
  let d := (d.countCorrected ((regionOf a).getD 9)).lastError a 0 f syn
  if d.memory.corrected.any (fun e => e.1 = a && e.2.1 = syn && (d.mono - e.2.2 ≤ 60000000000 : Bool)) then
    d.hardError a else d

/-- An uncorrectable error at an address (R373): counted, MEM_UE with address and finder, the rebuild of a record (R386),
and a hard error when a full-word write cleared the word within 60 s (R387). -/
def Dev.noteBad (d : Dev) (a : Nat) (f : Finder) (syn : Nat) : Dev :=
  let g := (regionOf a).getD 9
  let d := { d with memory := { d.memory with ue := tset 0 d.memory.ue g (tget 0 d.memory.ue g + 1) } }
  let d := (((d.lastError a 1 f syn).raise .memUe [a, (finderCode f)]).askRebuild a)
  if d.memory.cleared.any (fun e => e.1 = wordOf a && (d.mono - e.2 ≤ 60000000000 : Bool)) then d.hardError a else d

/-! ## Reads (R373, R377, R383) -/

/-- The word as stored, the merge buffer apart. -/
def Mem.stored (m : Mem) (a : Nat) : Nat :=
  ofBe [m.cell a, m.cell (a + 1), m.cell (a + 2), m.cell (a + 3), m.cell (a + 4), m.cell (a + 5), m.cell (a + 6), m.cell (a + 7)]

def Mem.setStored (m : Mem) (a w : Nat) : Mem := m.setCells a (be 8 w)

/-- A write-back is due for a corrected word, unless it has a merge-buffer entry whose rewrite serves (R374, R383). -/
def Mem.dueWriteback (m : Mem) (a syn : Nat) : Mem :=
  if (mergeEntry m.merge a).isSome then m
  else { m with writebacks := m.writebacks.filter (fun e => e.1 ≠ a) ++ [(a, syn)] }

/-- A read of the native word at a, met by errors in the named stored bits: 0 to 63 data, 64 to 71 check (R373). -/
def Dev.readNative (d : Dev) (a : Nat) (f : Finder) (flips : List Nat) : Dev :=
  if d.sram.poisoned a then d else
  let r := d.sram.stored a ^^^ flipMask 64 flips
  let s := syndromeOf 64 8 flips
  match classify 64 8 s with
  | .clean => d.mem (fun m => m.setStored a r)
  | .single p => (d.mem (fun m => (m.setStored a (correct 64 r p)).dueWriteback a s)).noteCorrected a f s
  | .bad => (d.mem (fun m => (m.setStored a r).mark a true)).noteBad a f s

/-- A read of byte k of the window under PER_BYTE: bits 0 to 7 data, 8 to 12 check (R377). -/
def Dev.readByte (d : Dev) (a : Nat) (f : Finder) (flips : List Nat) : Dev :=
  if tget false d.sram.bytePoison a then d else
  let r := (d.sram.cell a).toNat ^^^ flipMask 8 flips
  let s := syndromeOf 8 5 flips
  match classify 8 5 s with
  | .clean => d.mem (fun m => m.setCell a (BitVec.ofNat 8 r))
  | .single p => (d.mem (fun m => (m.setCell a (BitVec.ofNat 8 (correct 8 r p))).dueWriteback a s)).noteCorrected a f s
  | .bad => (d.mem (fun m => { m.setCell a (BitVec.ofNat 8 r) with
      bytePoison := tset false m.bytePoison a true })).noteBad a f s

/-- The window is coded per byte (R377). -/
def Dev.perByte (d : Dev) (a : Nat) : Bool := d.cfg.mem.windowMode = 1 && regionOf a = some 7

/-- A read of the word at a (R373, R377); under PER_BYTE the named bit 13 k + i is bit i of byte k. -/
def Dev.readWord (d : Dev) (a : Nat) (f : Finder) (flips : List Nat) : Dev :=
  if d.perByte a then
    iter (fun k d => d.readByte (a + k) f
      ((flips.filter (fun p => p / 13 = k)).map (fun p => p % 13))) 8 0 d
  else d.readNative a f flips

/-- MEMORY_UE (R373): a block's read of a word. -/
def memoryUe (addr : Nat) (f : Finder) (flips : List Nat) (d : Dev) : Except Fault Dev :=
  match regionOf addr with
  | none => .error (.noSuchAddress addr)
  | some _ => .ok (d.readWord (wordOf addr) f flips)

def execMemoryUe (addr : BitVec 24) (finder : Finder) (flips : List Nat) (s : State) : Host.Outcome State Fault Refusal :=
  s.updM (memoryUe addr.toNat finder flips)

/-- CORRECTIVE_WRITEBACK (R374): the corrected word of an address is written back; a cancelled one is no more. -/
def correctiveWriteback (a : Nat) (d : Dev) : Except Fault Dev :=
  match regionOf a with
  | none => .error (.noSuchAddress a)
  | some _ =>
    match tfind d.sram.writebacks a with
    | none => .ok d
    | some syn => .ok { d with
        sram := { d.sram with writebacks := tdel d.sram.writebacks a }
        memory := { d.memory with
          corrected := within60 d.mono (fun e => e.2.2) ((a, syn, d.mono) :: d.memory.corrected) } }

def execCorrectiveWriteback (addr : BitVec 24) (s : State) : Host.Outcome State Fault Refusal :=
  s.updM (correctiveWriteback addr.toNat)

/-! ## The merge buffer (R375, R376) -/

/-- Host bytes for one of some words are in the merge buffer still. -/
def Dev.merging (d : Dev) (words : List Nat) : Bool := d.sram.merge.any (fun e => e.host && words.contains e.word)

/-- What the merge reads of some words found: POISONED where one of them is poisoned (R376). -/
def Dev.mergeCode (d : Dev) (words : List Nat) : Resp := if words.any d.sram.poisoned then .poisoned else .ok

/-- The words of the narrow writes that requests wait for. -/
def Dev.mergeWaits (d : Dev) : List (List Nat) :=
  d.req.outstanding.flatMap (fun o => o.waits.filterMap (fun w => match w.2 with
    | .merge ws => some ws
    | _ => none))

/-- Items whose narrow writes have all met their words are answered (R328, R376). -/
def Dev.answerMerged (d : Dev) : Dev :=
  each (d.mergeWaits.filter (fun ws => !d.merging ws)) (fun ws d => d.answerWait (.merge ws) (d.mergeCode ws)) d

/-- The oldest entry reads its word, merges and rewrites it: over a bad or poisoned word the word is poisoned. A host write is
answered now: POISONED there, else OK (R376). -/
def mergeRetire (flips : List Nat) (d : Dev) : Dev :=
  match d.sram.merge with
  | [] => d
  | e :: _ =>
    let d := d.readNative e.word e.finder flips
    let d := d.mem (fun m => { m.retire e with writebacks := m.writebacks.filter (fun x => x.1 ≠ e.word) })
    let d := if e.host then d.reply (d.mergeCode [e.word]) else d
    d.answerMerged

def execMergeRetire (flips : List Nat) (s : State) : Host.Outcome State Fault Refusal := s.upd (mergeRetire flips)

/-- Two replies of one item as one: POISONED where either is, and what both wait for. -/
def Reply.and (x y : Reply) : Reply :=
  match x, y with
  | .now .ok, _ => y
  | .now c, _ => .now c
  | _, .now .ok => x
  | .later (.merge a), .later (.merge b) => .later (.merge (a ++ b))
  | _, _ => y

/-- A host write of bytes within one word (R375, R376): a whole word is written at once; a part answers when its merge read has met
the word, or POISONED at once over a word that is poisoned already. -/
def hostPart (a : Nat) (l : List Byte) (d : Dev) : Reply × Dev :=
  if l.length = 8 then (.now .ok, d.mem (fun m => m.putBytes8 a l))
  else (if d.sram.poisoned (wordOf a) then .now .poisoned else .later (.merge [wordOf a]),
    d.mem (fun m => m.putPart a l .requestService true))

/-- A host write of bytes that lie in two words, the first k of them in the first. -/
def hostSplit (k a : Nat) (l : List Byte) (d : Dev) : Reply × Dev :=
  let p := hostPart a (l.take k) d
  let q := hostPart (a + k) (l.drop k) p.2
  (p.1.and q.1, q.2)

/-! ## The leaky buckets (R379) -/

def leakOne (d : Dev) (g : Nat) : Dev :=
  let b := tget 0 d.memory.bucket g - 1
  { d with memory := { d.memory with
    bucket := tset 0 d.memory.bucket g b
    ceRaised := if b ≤ d.ceThreshold g / 2 then tset false d.memory.ceRaised g false else d.memory.ceRaised } }

/-- CE_LEAK (R379): each region's counter falls by 1. -/
def ceLeak (d : Dev) : Dev := iter (fun g d => leakOne d g) 9 0 d

def execCeLeak (s : State) : Host.Outcome State Fault Refusal := s.upd ceLeak

/-! ## The window's mode (R377) -/

/-- The window is cleared: zero, valid check bits, no poison. -/
def Mem.clearWindow (m : Mem) : Mem :=
  m.blank (fun a => 0x940000 ≤ a && a < 0x980000)

/-- A COMPAT_LOAD runs (R378). -/
def Dev.compatRunning (d : Dev) : Bool := d.memory.compat.1 = 1

def windowModeWrite (v : Nat) (d : Dev) : Resp × Dev :=
  if d.compatRunning then (.conflict, d)
  else if 1 < v then (.invalid, d)
  else if v = d.cfg.mem.windowMode then (.ok, d)
  else (.ok, { (d.mem Mem.clearWindow) with cfg := { d.cfg with mem := { d.cfg.mem with windowMode := v } } })

def execWindowModeWrite (v : BitVec 8) (s : State) : Host.Outcome State Fault Refusal :=
  s.ask (windowModeWrite v.toNat)

/-- A write of window bytes: a byte write of PER_BYTE replaces its byte, clears its poison and cancels its write-back (R374, R377). -/
def Mem.windowPut (m : Mem) (a : Nat) (l : List Byte) : Mem :=
  each (cellsFrom a l) (fun c m => { m.setCell c.1 c.2 with
    bytePoison := tset false m.bytePoison c.1 false, writebacks := tdel m.writebacks c.1
    cleared := if tget false m.bytePoison c.1 then wordOf c.1 :: m.cleared else m.cleared }) m

def windowBlockWrite (j : Nat) (l : List Byte) (d : Dev) : Resp × Dev :=
  (.ok, d.mem (fun m => if d.cfg.mem.windowMode = 1 then m.windowPut (windowAddr (1024 * j)) l
    else m.putBlock (windowAddr (1024 * j)) 128 l))

/-! ## Poison met by a core (R381) and the heartbeat (R344) -/

/-- The item in execution for a request: the oldest request's first that has not answered (R328 executes them in order). -/
def Dev.itemAtWork (d : Dev) : Option WaitFor := (d.req.outstanding.findSome? (fun o => o.waits.head?)).map (fun w => w.2)

/-- A core's read of a poisoned word at a: LAST_ERROR and MEM_POISON_CONSUMED with its address (R381). -/
def Dev.consumePoison (d : Dev) (a : Nat) : Dev := (d.lastError a 2 .core 0).raise .memPoisonConsumed [a]

/-- CORE_DATA_ABORT (R381): a core that loads poisoned data takes an abort; the item whose work it falls in answers POISONED. -/
def coreDataAbort (a : Nat) (inRequest : Bool) (d : Dev) : Except Fault Dev :=
  match regionOf a with
  | none => .error (.noSuchAddress a)
  | some _ =>
    if d.sram.poisoned a then
      let d := d.consumePoison a
      .ok (if inRequest then (match d.itemAtWork with
          | some w => (d.answerWait w .poisoned).reply .poisoned
          | none => d.reply .poisoned)
        else { d with tow := { d.tow with coreHalted := true } })
    else .ok d

def execCoreDataAbort (addr : BitVec 24) (inRequest : Bool) (s : State) : Host.Outcome State Fault Refusal :=
  s.updM (coreDataAbort addr.toNat inRequest)

/-- HEARTBEAT_MISSING (R344 [7]): a core is halted, or the heartbeat has been missing for 2 ms. -/
def heartbeatMissing (halted : Bool) (d : Dev) : Dev :=
  ({ d with tow := { d.tow with
    coreHalted := d.tow.coreHalted || halted, heartbeatLost := d.tow.heartbeatLost || !halted } }).raise .coreHalted

def execHeartbeatMissing (halted : Bool) (s : State) : Host.Outcome State Fault Refusal := s.upd (heartbeatMissing halted)

end Sys2Proof.Machine
end

