-- ==== Sys2Proof/Machine/Readout.lean ====
section
/-! DEFINITION. The Monitor Readout: what a slot reads, the correction, averaging and flags of a sample, samples usable by
the Loop Engine, injected conversions, the test-voltage DAC (R14, R53, R54, R63 to R81). -/

namespace Sys2Proof.Machine

def Dev.setRd (d : Dev) (f : Readout → Readout) : Dev := { d with rd := f d.rd }
def Dev.setRdCfg (d : Dev) (f : ReadoutCfg → ReadoutCfg) : Dev := { d with cfg := { d.cfg with rd := f d.cfg.rd } }

/-! ## Values in force (R66) -/

def Dev.gainOf (d : Dev) (c : Nat) : Nat := (tfind d.rd.oldGain c).getD (tget 0 d.cfg.rd.gain c)
def Dev.avgOf (d : Dev) (i : Nat) : Nat := (tfind d.rd.oldAvg i).getD (tget 0 d.cfg.rd.avgLog2 i)
def Dev.darkWritten (d : Dev) (i : Nat) : Int := signed 16 (ofBe (d.sram.bytes (darkAddr i) 2))
def Dev.darkOf (d : Dev) (i : Nat) : Int := (tfind d.rd.oldDark i).getD (d.darkWritten i)
def Dev.offsetOf (d : Dev) (x : Nat) : Int := (tfind d.rd.oldOffset x).getD (tget 256 d.cfg.rd.convOffset x)
def Dev.cgainOf (d : Dev) (x : Nat) : Nat := (tfind d.rd.oldCGain x).getD (tget 0x4000 d.cfg.rd.convGain x)

/-- The chain that serves a data column (R63): its group's spare chain, 256 + g, while that stands in. -/
def Dev.chainOf (d : Dev) (c : Nat) : Nat := if d.onSpare c then 256 + c / 32 else c

/-- The column that a chain serves, if any. -/
def Dev.servedBy (d : Dev) (chain : Nat) : Option Nat :=
  if chain < 256 then (if d.onSpare chain then none else some chain) else d.standInOf (chain - 256)

/-! ## The read of a slot (R12, R63, R67, R73) -/

/-- A cause of R73 other than the fill covers a sample of column c, site i, read in the present cycle. -/
def Dev.covered (d : Dev) (c i : Nat) : Bool :=
  (d.ticks < d.rd.invAll : Bool) || (d.ticks < tget 0 d.rd.invCol c : Bool) || (d.ticks < tget 0 d.rd.invSite i : Bool)

/-- The read of monitor row m in column c. -/
def Dev.readSite (d : Dev) (m c : Nat) : Conversion :=
  let i := 256 * m + c
  let chain := d.chainOf c
  let x := 2 * chain + m % 2
  let s := d.cyc.conf.rows + d.cyc.conf.idle
  { fromTick := if m + 4 < s then d.ticks else d.ticks + 1, fromSlot := if m + 4 < s then m + 4 else m + 4 - s
    col := c, convB := m % 2 = 1, chain := chain, site := i, slot := m, tick := d.ticks, cycle := d.cycleNo, start := d.time.lastTick
    gain := d.gainOf c, spare := d.onSpare c, invalid := d.covered c i
    offset := d.offsetOf x, cgain := d.cgainOf x, dark := d.darkOf i }

/-- MONITOR_READ: slot m reads monitor row m in every enabled monitor column. -/
def Dev.monitorSlot (d : Dev) (m : Nat) : Dev :=
  if d.rd.state = .run ∧ m < d.cyc.conf.rows then
    let l := ((List.range 256).filter d.monitorOn).map (d.readSite m)
    d.setRd (fun r => { r with conversions := r.conversions ++ l })
  else d

/-! ## Correction and averaging (R69 to R72) -/

/-- Multiplier G of a gain code (R65). -/
def gainMul (g : Nat) : Int := if g = 0 then 16 else if g = 1 then 4 else 1

/-- v of R69: the corrected charge before dark correction. -/
def Conversion.charge (x : Conversion) (raw : Nat) : Int :=
  shr ((4 * (raw : Int) - x.offset) * x.cgain + 0x8000) 16 * gainMul x.gain

/-- s of R69. -/
def Conversion.sample (x : Conversion) (raw : Nat) : Int := x.charge raw - x.dark

/-- The accumulator of a site as memory holds it. -/
def Dev.accOf (d : Dev) (i : Nat) : Int := signed 32 (ofBe (d.sram.bytes (accAddr i) 4))

/-- The word of two sites' accumulators is poisoned. -/
def Dev.accPoisoned (d : Dev) (i : Nat) : Bool := d.sram.poisoned (accAddr i)

/-- A site's stored sample carries the mark of its word, until the site has been preset (R71). -/
def Dev.samplePoison (d : Dev) (i : Nat) : Bool := d.accPoisoned i && (tfind d.rd.preset i).isNone

/-- The accumulator as the averager sees it: the preset one while the word waits for its other site. -/
def Dev.accNow (d : Dev) (i : Nat) : Int := (tfind d.rd.preset i).getD (d.accOf i)

/-- The word of sites 2 w and 2 w + 1 with two accumulators. -/
def accWord (a b : Int) : Nat := code 32 a * 2 ^ 32 + code 32 b

/-- An accumulator is stored: over a poisoned word it waits until both sites have been preset, when the word is rewritten whole. -/
def Dev.putAcc (d : Dev) (i : Nat) (v : Int) : Dev :=
  let j := if i % 2 = 0 then i + 1 else i - 1
  let w := wordOf (accAddr i)
  if d.accPoisoned i then
    match tfind d.rd.preset j with
    | some u =>
      let a := if i % 2 = 0 then accWord v u else accWord u v
      (d.mem (fun m => m.putWord w a)).setRd (fun r => { r with preset := r.preset.filter (fun p => p.1 ≠ i && p.1 ≠ j) })
    | none => d.setRd (fun r => { r with preset := r.preset.filter (fun p => p.1 ≠ i) ++ [(i, v)] })
  else
    let a := if i % 2 = 0 then accWord v (d.accOf j) else accWord (d.accOf j) v
    d.mem (fun m => m.putWord w a)

/-- The accumulator after sample s (R71). -/
def average (k : Nat) (acc s : Int) : Int := if k = 0 then s * 256 else acc + shr (s * 256 - acc) k

/-- The output of an accumulator. -/
def avgOut (acc : Int) : Int := shr (acc + 128) 8

/-- SAMPLE_FLAGS (R84). -/
def sampleFlags (valid ovr spare fill : Bool) (gain : Nat) (convB : Bool) : BitVec 8 :=
  BitVec.ofNat 8 (ofBool valid + 2 * ofBool ovr + 4 * ofBool spare + 8 * ofBool fill + 16 * (gain % 4) + 64 * ofBool convB)

/-- A sample is entered in the averager (R71, R72); the result tells whether it carries FILL. -/
def Dev.enter (d : Dev) (i : Nat) (s : Int) : Bool × Dev :=
  match tfind d.rd.fill i with
  | some (n, len) =>
    let acc := if n = 0 || d.samplePoison i then s * 256 else average (d.avgOf i) (d.accNow i) s
    let d := d.putAcc i acc
    (true, d.setRd (fun r => { r with fill := if len ≤ n + 1 then tdel r.fill i else tins r.fill i (n + 1, len) }))
  | none =>
    if d.samplePoison i then (false, d.putAcc i (s * 256))
    else (false, d.putAcc i (average (d.avgOf i) (d.accNow i) s))

/-- A stored sample takes its place; the one before stays for the slots in which it is not yet usable (R14). -/
def Dev.store (d : Dev) (i : Nat) (x : Sample) : Dev :=
  d.setRd (fun r => { r with before := tset {} r.before i (tget {} r.samples i), samples := tset {} r.samples i x })

def Dev.countInvalid (d : Dev) (c : Nat) (valid : Bool) : Dev :=
  if valid then d
  else d.setRd (fun r => { r with invalidCount := tset 0 r.invalidCount c (tget 0 r.invalidCount c + 1) })

/-- An OVER sample of a column (R70): counted; the event comes on the first in a run of 1,024 cycles. -/
def Dev.countOver (d : Dev) (c : Nat) : Dev :=
  let run := d.cycleNo / 1024 + 1
  let first := tget 0 d.rd.overRun c ≠ run
  (d.setRd (fun r => { r with
    overCount := tset 0 r.overCount c (tget 0 r.overCount c + 1), overRun := tset 0 r.overRun c run })).raiseIf first .monitorOverrange [c]

/-! ## Injected conversions (R76 to R79) -/

/-- The entry's captures include the cycle n, not yet made. -/
def InjectEntry.wants (e : InjectEntry) (n : Nat) : Bool := e.start ≤ n && n < e.start + e.count && e.nextCycle ≤ n

def injectRecord (site flags tag raw slot index : Nat) (sample : Int) (cycle : Nat) : List Byte :=
  be 2 site ++ be 1 flags ++ be 1 tag ++ be 2 raw ++ be 1 slot ++ be 1 index ++ be 4 (code 32 sample) ++ be 4 (cycle % 2 ^ 32)

/-- A record is written to the ring. -/
def Dev.pushInject (d : Dev) (b : List Byte) : Dev :=
  d.setRd (fun r => { r with
    injectRing := tins r.injectRing (r.injectIndex.toNat % 256) b, injectIndex := r.injectIndex + 1 })

/-- An entry stores the capture of cycle n; after its last one it completes, and the item that waits for it answers. -/
def Dev.capture (d : Dev) (e : InjectEntry) (n : Nat) (flags : BitVec 8) (raw slot : Nat) (s : Int) : Dev :=
  let d := d.pushInject (injectRecord e.site flags.toNat e.tag.toNat raw slot (n - e.start) s n)
  if n + 1 = e.start + e.count then
    (d.setRd (fun r => { r with injects := r.injects.filter (fun x => x.id ≠ e.id) })).answerWait (.inject e.id) .ok
  else d.setRd (fun r => { r with injects := r.injects.map (fun x =>
    if x.id = e.id then { x with stored := x.stored + 1, nextCycle := n + 1 } else x) })

/-- Cycles of an entry below `bound` that have passed without a sample of the site are captured as empty records (R77): RAW 0,
SAMPLE 0, VALID and SPARE clear. That their GAIN, CONV_B and OVER are 0 too, and SLOT the site's row, is a DESIGN CHOICE (log
entry 102). -/
def Dev.missedOf (d : Dev) (bound : Nat) (e : InjectEntry) : Dev :=
  iter (fun n d =>
    match d.rd.injects.find? (fun x => x.id = e.id) with
    | some x => if x.wants n && n < bound && !d.rd.conversions.any (fun c => c.site = e.site && c.cycle = n) then
        d.capture x n 0 0 (siteRow e.site) 0 else d
    | none => d) e.count e.start d

/-- At a tick: the cycles up to the one that ended. -/
def Dev.missedCaptures (d : Dev) (ended : Nat) : Dev := each d.rd.injects (fun e d => d.missedOf (ended + 1) e) d

/-- INJECT_CAPTURE: the entries that name the site in the conversion's cycle. Named cycles that a step of the clock passed over
(R304) come first, so that an entry writes exactly its count of records. -/
def Dev.captures (d : Dev) (x : Conversion) (flags : BitVec 8) (raw : Nat) (s : Int) : Dev :=
  each (d.rd.injects.filter (fun e => e.site = x.site && e.wants x.cycle))
    (fun e d => (d.missedOf x.cycle e).capture e x.cycle flags raw x.slot s) d

/-! ## A conversion ends (R53, R70, R73) -/

/-- The oldest conversion under way of a column's converter, and the others. -/
def takeConversion (c : Nat) (b : Bool) : List Conversion → Option Conversion × List Conversion
  | [] => (none, [])
  | x :: l => if x.col = c ∧ x.convB = b then (some x, l) else
    let r := takeConversion c b l
    (r.1, x :: r.2)

/-- The dark capture sums a VALID sample's value before dark subtraction (R166). -/
def Dev.darkSum (d : Dev) (x : Conversion) (v : Int) : Dev :=
  match d.cal.darkRun with
  | some t =>
    if t ≤ x.tick ∧ x.tick < t + 256 then
      let p := tget (0, 0) d.cal.darkSums x.site
      { d with cal := { d.cal with darkSums := tset (0, 0) d.cal.darkSums x.site (p.1 + v, p.2 + 1) } }
    else d
  | none => d

/-- CONVERSION_COMPLETE: the conversion under way of a column's converter ends with a raw code. -/
def conversionComplete (c : Nat) (b : Bool) (raw : Nat) (d : Dev) : Dev :=
  let t := takeConversion c b d.rd.conversions
  match t.1 with
  | none => d
  | some x =>
    let d := d.setRd (fun r => { r with conversions := t.2 })
    let s := x.sample raw
    let ovr : Bool := raw = 16383
    let e : Bool × Dev := if x.invalid then (false, d) else d.enter x.site s
    let valid := !x.invalid && !e.1
    let d := e.2
    let d := d.store x.site {
      value := avgOut (d.accNow x.site), flags := sampleFlags valid ovr x.spare e.1 x.gain x.convB
      fromTick := x.fromTick, fromSlot := x.fromSlot }
    let d := d.countInvalid c valid
    let d := if ovr then d.countOver c else d
    let d := if valid then d.darkSum x (x.charge raw) else d
    let d := if valid && !ovr then d.labelSample x.site s x.start x.tick else d
    d.captures x (sampleFlags (!x.invalid) ovr x.spare false x.gain x.convB) raw s

def execConversionComplete (col : Fin 256) (convB : Bool) (raw : BitVec 14) (s : State) : Host.Outcome State Fault Refusal :=
  s.upd (conversionComplete col convB raw.toNat)

/-- CONVERTER_TIMEOUT (R73): raw code 0 and sample 0, not entered, INVALID. -/
def converterTimeout (c : Nat) (b : Bool) (d : Dev) : Dev :=
  let t := takeConversion c b d.rd.conversions
  match t.1 with
  | none => d
  | some x =>
    let d := d.setRd (fun r => { r with conversions := t.2 })
    let d := d.store x.site {
      value := avgOut (d.accNow x.site), flags := sampleFlags false false x.spare false x.gain x.convB
      fromTick := x.fromTick, fromSlot := x.fromSlot }
    let d := d.countInvalid c false
    let d := d.captures x (sampleFlags false false x.spare false x.gain x.convB) 0 0
    d.raise .converterTimeout [x.chain, ofBool b]

def execConverterTimeout (col : Fin 256) (convB : Bool) (s : State) : Host.Outcome State Fault Refusal :=
  s.upd (converterTimeout col convB)

/-! ## Samples in use (R14, R15, R54) -/

/-- A stored sample is usable in slot j of the present cycle: the slot that its read fixed has come (R14, R54). -/
def Dev.isUsable (d : Dev) (x : Sample) (j : Nat) : Bool :=
  x.fromTick < d.ticks || (x.fromTick = d.ticks && x.fromSlot ≤ j)

/-- The most recent usable sample of a site, with the mark of its word; a disabled column's is INVALID (R73). -/
def Dev.usable (d : Dev) (i j : Nat) : Sample :=
  let x := tget {} d.rd.samples i
  let x := if d.isUsable x j then x else tget {} d.rd.before i
  if d.monitorOn (siteCol i) then { x with poison := d.samplePoison i } else {}

/-! ## Writes (R66, R76, R81, R84) -/

def keepOld {α : Type} (l : List (Nat × α)) (k : Nat) (v : α) : List (Nat × α) :=
  if (tfind l k).isSome then l else l ++ [(k, v)]

def columnGainWrite (c v : Nat) (d : Dev) : Resp × Dev :=
  if 2 < v then (.invalid, d)
  else
    let old := d.gainOf c
    (.ok, (d.setRd (fun r => { r with oldGain := keepOld r.oldGain c old })).setRdCfg (fun x => { x with gain := tset 0 x.gain c v }))

def avgLog2Write (i v : Nat) (d : Dev) : Resp × Dev :=
  if 8 < v then (.invalid, d)
  else
    let old := d.avgOf i
    (.ok, (d.setRd (fun r => { r with oldAvg := keepOld r.oldAvg i old })).setRdCfg (fun x => { x with avgLog2 := tset 0 x.avgLog2 i v }))

def darkWrite (i : Nat) (b : List Byte) (d : Dev) : Reply × Dev :=
  let old := d.darkOf i
  hostPart (darkAddr i) b (d.setRd (fun r => { r with oldDark := keepOld r.oldDark i old }))

def tapRespWrite (i : Nat) (b : List Byte) (d : Dev) : Reply × Dev := hostPart (tapAddr i) b d

/-- Gain in force of the column a chain serves: a spare that serves none counts as x1. -/
def Dev.chainGain (d : Dev) (chain : Nat) : Nat :=
  if chain < 256 then d.gainOf chain else match d.standInOf (chain - 256) with
    | some c => d.gainOf c
    | none => 0

/-- CHAIN_CORR of a chain converter at a gain; a set nothing has written has a gain of 0 and reads 256, 0x4000 (R183). -/
def Dev.chainCorr (d : Dev) (x g : Nat) : Int × Nat :=
  let b := d.sram.bytes (chainAddr x + 4 * g) 4
  if field b 2 2 = 0 then (256, 0x4000) else (signed 16 (field b 0 2), field b 2 2)

def corrBytes (off : Int) (gain : Nat) : List Byte := be 2 (code 16 off) ++ be 2 gain

/-- The set of a chain converter at a gain, in memory: written by the Calibration Unit, by a host (R375). -/
def Dev.putCorr (d : Dev) (x g : Nat) (off : Int) (gain : Nat) : Dev :=
  d.mem (fun m => m.putPart (chainAddr x + 4 * g) (corrBytes off gain) .other false)
def hostCorr (x g : Nat) (off : Int) (gain : Nat) (d : Dev) : Reply × Dev :=
  hostPart (chainAddr x + 4 * g) (corrBytes off gain) d

def Dev.setOffset (d : Dev) (x : Nat) (v : Int) : Dev :=
  let old := d.offsetOf x
  (d.setRd (fun r => { r with oldOffset := keepOld r.oldOffset x old })).setRdCfg (fun c => { c with convOffset := tset 256 c.convOffset x v })
def Dev.setCGain (d : Dev) (x v : Nat) : Dev :=
  let old := d.cgainOf x
  (d.setRd (fun r => { r with oldCGain := keepOld r.oldCGain x old })).setRdCfg (fun c => { c with convGain := tset 0x4000 c.convGain x v })

def convOffsetWrite (x : Nat) (v : Int) (d : Dev) : Reply × Dev :=
  if !d.rotationStopped then (.now .conflict, d)
  else
    let g := d.chainGain (x / 2)
    hostCorr x g v (d.chainCorr x g).2 (d.setOffset x v)

def convGainWrite (x v : Nat) (d : Dev) : Reply × Dev :=
  if !d.rotationStopped then (.now .conflict, d)
  else if v < 0x3000 ∨ 0x5000 < v then (.now .invalid, d)
  else
    let g := d.chainGain (x / 2)
    hostCorr x g (d.chainCorr x g).1 v (d.setCGain x v)

def skewTrimWrite (x : Nat) (v : Int) (d : Dev) : Resp × Dev :=
  if !d.rotationStopped then (.conflict, d)
  else
    let old := (tfind d.rd.oldSkew x).getD (tget 0 d.cfg.rd.skewTrim x)
    (.ok, (d.setRd (fun r => { r with oldSkew := keepOld r.oldSkew x old })).setRdCfg (fun c => { c with skewTrim := tset 0 c.skewTrim x v }))

/-- CHAIN_CORR (R183): its twelve bytes are one whole word and half of another (R376). -/
def chainCorrWrite (x : Nat) (b : List Byte) (d : Dev) : Reply × Dev :=
  let bad := (List.range 3).any (fun g => field b (4 * g + 2) 2 < 0x3000 || 0x5000 < field b (4 * g + 2) 2)
  if !d.rotationStopped then (.now .conflict, d)
  else if bad then (.now .invalid, d)
  else hostSplit (if x % 2 = 0 then 8 else 4) (chainAddr x) b d

/-- The TDAC settings: idle while the rotation is stopped (R81). -/
def Dev.setTdac (d : Dev) (f : ReadoutCfg → ReadoutCfg) : Resp × Dev :=
  if !d.rotationStopped then (.conflict, d)
  else
    let old := (d.cfg.rd.tdacRoute, d.cfg.rd.tdacGroup, d.cfg.rd.tdacCode)
    (.ok, (d.setRd (fun r => { r with oldTdac := if r.oldTdac.isSome then r.oldTdac else some old })).setRdCfg f)

def tdacRouteWrite (v : Nat) (d : Dev) : Resp × Dev :=
  if !d.rotationStopped then (.conflict, d) else if 2 < v then (.invalid, d) else d.setTdac (fun c => { c with tdacRoute := v })
def tdacGroupWrite (v : Nat) (d : Dev) : Resp × Dev :=
  if !d.rotationStopped then (.conflict, d) else if 7 < v then (.invalid, d) else d.setTdac (fun c => { c with tdacGroup := v })
def tdacCodeWrite (v : Nat) (d : Dev) : Resp × Dev := d.setTdac (fun c => { c with tdacCode := v })

/-- Entries are served in order of their start cycle (R77), those of one start cycle in order of acceptance. -/
def InjectEntry.insert (e : InjectEntry) : List InjectEntry → List InjectEntry
  | [] => [e]
  | x :: l => if e.start < x.start then e :: x :: l else x :: e.insert l

/-- Number of the cycle that begins at the next tick, in the periods that are in force from it (R51). -/
def Dev.nextCycleNo (d : Dev) : Nat :=
  let t := d.time.nextTick % timeWrap
  match d.cyc.next with
  | some c => if t % c.period = 0 then t / c.period else t / d.period
  | none => t / d.period

/-- INJECT_REQUEST (R76). -/
def injectRequest (site count : Nat) (tag : BitVec 8) (start : Nat) (d : Dev) : Resp × Dev :=
  if d.cyc.conf.rows ≤ siteRow site ∨ d.monitorOn (siteCol site) = false ∨ count = 0 ∨ 16 < count then (.invalid, d)
  else if start ≠ 0 ∧ start ≤ d.cycleNo then (.late, d)
  else if 16 ≤ d.rd.injects.length then (.busy, d)
  else
    let n := if start = 0 then d.nextCycleNo else start
    (.ok, d.setRd (fun r => { r with
      injects := InjectEntry.insert
        { site := site, count := count, tag := tag, start := n, stored := 0, nextCycle := n, id := r.injectNext } r.injects
      injectNext := r.injectNext + 1 }))

def execInjectRequest (req : InjectReq) (s : State) : Host.Outcome State Fault Refusal :=
  s.ask (injectRequest req.site.toNat req.count.toNat req.tag req.start.toNat)

def injectWrite (b : List Byte) (d : Dev) : Resp × Dev :=
  injectRequest (field b 0 2) (field b 2 1) (BitVec.ofNat 8 (field b 3 1)) (field b 4 8) d

/-! ## The tick's part (R66, R72, R73) -/

/-- The correction set of a gain is loaded into both converters of a chain (R169). -/
def Dev.loadCorr (d : Dev) (chain g : Nat) : Dev :=
  iter (fun b d =>
    let x := 2 * chain + b
    let p := d.chainCorr x g
    d.setRdCfg (fun c => { c with convOffset := tset 256 c.convOffset x p.1, convGain := tset 0x4000 c.convGain x p.2 })) 2 0 d

/-- The restart after a shutdown: the readout leaves OFF for STANDBY at the tick (R83, R412). -/
def Dev.readoutRestart (d : Dev) : Dev :=
  if d.rd.restartDue then d.setRd (fun r => { r with restartDue := false, state := if r.state = .off then .standby else r.state })
  else d

/-- What was written takes effect at the tick that began this cycle: gains, averaging lengths and re-phases mark samples. -/
def Dev.readoutTick (d : Dev) : Dev :=
  let r := d.rd
  let d := d.setRd (fun r => { r with oldGain := [], oldAvg := [], oldDark := [], oldOffset := [], oldCGain := [], oldSkew := [], oldTdac := none })
  let d := each r.oldGain (fun p d =>
    let g := tget 0 d.cfg.rd.gain p.1
    if g = p.2 then d else (d.loadCorr (d.chainOf p.1) g).invalidColumn p.1 2) d
  let d := each r.oldAvg (fun p d =>
    let k := tget 0 d.cfg.rd.avgLog2 p.1
    if k = p.2 then d else d.setRd (fun r => { r with fill := tins r.fill p.1 (0, 2 ^ k) })) d
  each r.oldSkew (fun p d =>
    if tget 0 d.cfg.rd.skewTrim p.1 = p.2 then d else match d.servedBy (p.1 / 2) with
      | some c => d.invalidColumn c 1
      | none => d) d

end Sys2Proof.Machine
end

