-- ==== Sys2Proof/Machine/RecordWrite.lean ====
section
/-! DEFINITION. Host writes to the element record: what is refused, and the staging buffer (R108, R130, R131, R141, R144,
R155, R156). -/

namespace Sys2Proof.Machine

/-! ## Staging (R108) -/

/-- A plain field takes its value: every field but MODE, whose transition its update makes. SP_RATE clamped at acceptance
carries 65,536 more (R144). -/
def Rec.setField (r : Rec) (f : RecField) (v : Int) : Rec :=
  match f with
  | .mode => r
  | .tone => { r with tone := v.toNat }
  | .ditherEn => { r with dither := v ≠ 0 }
  | .kp => { r with kp := v }
  | .ki => { r with ki := v }
  | .demodPhase => { r with demodPhase := v.toNat }
  | .demodLog2 => { r with demodLog2 := v.toNat }
  | .codeSlew => { r with codeSlew := v.toNat }
  | .feTimer => { r with feTimer := v.toNat }
  | .phiMin => { r with phiMin := v }
  | .phiMax => { r with phiMax := v }
  | .feLimit => { r with feLimit := v.toNat }
  | .spTarget => { r with spTarget := v.toNat }
  | .spRate => { r with spRate := v.toNat % 65536 }
  | .darkTh => { r with darkTh := v.toNat }
  | .manualCode => { r with manualCode := v.toNat }
  | .spRateLimit => r

/-- Staged writes of an element, in order. -/
def Dev.stagedOf (d : Dev) (e : Nat) : List Staged := d.loop.staged.filter (fun s => s.elem = e)

/-- The record as it will stand after all staged writes. -/
def Dev.stagedRec (d : Dev) (e : Nat) : Rec := each (d.stagedOf e) (fun s r => r.setField s.field s.v) (d.record e)

/-- SP_RATE_LIMIT as it will stand. -/
def Dev.stagedLimit (d : Dev) (e : Nat) : Nat :=
  each (d.stagedOf e) (fun s n => if s.field = .spRateLimit then s.v.toNat else n) (d.spRateLimit e)

/-- A used point fails the slope condition over some limits (R160). -/
def Dev.pointFails (d : Dev) (e : Nat) (lo hi : Int) : Bool := (d.points e).any (fun p => !p.2.slopeOk lo hi)

/-- SP_TARGET lies in the element's encoding (R107, R144). -/
def spTargetOk (kind : Nat) (v : Int) : Bool :=
  (kind = 1 && 0 ≤ v && v ≤ 65535) || (kind = 2 && 1 ≤ v && v ≤ 524287)

/-- The value is one the field takes; `lim` tells apart values outside the type or the range its table gives. -/
def Dev.fieldOk (d : Dev) (e : Nat) (f : RecField) (v : Int) : Bool :=
  let r := (d.stagedRec e).setField f v
  let mon : Bool := 2 ≤ r.kind || r.monBEn
  let limits : Bool := r.phiMin ≤ r.phiMax && !d.pointFails e r.phiMin r.phiMax
  mon && match f with
    | .mode => 0 ≤ v && v ≤ 2
    | .tone => 0 ≤ v && v ≤ 15
    | .ditherEn => v = 0 || v = 1
    | .kp | .ki => -32768 ≤ v && v ≤ 32767
    | .demodPhase => 0 ≤ v && v ≤ 255
    | .demodLog2 => 3 ≤ v && v ≤ 10
    | .codeSlew => 1 ≤ v && v ≤ 4095
    | .feTimer => 1 ≤ v && v ≤ 255
    | .phiMin | .phiMax => -8388608 ≤ v && v ≤ 8388607 && limits
    | .feLimit => 0 ≤ v && v ≤ 65535
    | .spTarget => spTargetOk r.kind v
    | .spRate => 1 ≤ v && v ≤ 65535
    | .darkTh => 0 ≤ v && v ≤ 1048575
    | .manualCode => 0 ≤ v && v ≤ 16383
    | .spRateLimit => 1 ≤ v && v ≤ 65535

/-- An element is being swept (R175). -/
def Dev.swept (d : Dev) (e : Nat) : Bool := d.cal.sweeps.any (fun s => s.elem = e)

/-- A field write is staged: it replaces an earlier one to the same field (R108). -/
def Dev.stage (d : Dev) (e : Nat) (f : RecField) (v : Int) : Dev :=
  d.setLoop (fun l => { l with
    staged := l.staged.filter (fun s => !(s.elem = e && s.field = f)) ++ [⟨e, f, v, d.ticks + 1⟩] })

/-- The buffer stands at its bound: every write that arrives then is answered BUSY. -/
def Dev.stagingFull (d : Dev) : Bool := 1024 ≤ d.loop.staged.length

/-- An SP_RATE above the limit is accepted as the limit (R144). -/
def Dev.acceptedRate (d : Dev) (e : Nat) (f : RecField) (v : Int) : Int :=
  if f = .spRate ∧ (d.stagedLimit e : Int) < v then (d.stagedLimit e : Int) + 65536 else v

/-- A write of a record field (R108). -/
def fieldWrite (e : Nat) (f : RecField) (v : Int) (d : Dev) : Resp × Dev :=
  if 32767 < e then (.noent, d)
  else if !d.fieldOk e f v then (.invalid, d)
  else if d.stagingFull then (.busy, d)
  else (.ok, d.stage e f (d.acceptedRate e f v))

/-- A write of MODE (R131, R141, R175): CONFLICT while a line cause holds a faulty element, or while it is swept. -/
def modeField (e : Nat) (v : Int) (d : Dev) : Resp × Dev :=
  if 32767 < e then (.noent, d)
  else if v < 0 ∨ 2 < v then (.invalid, d)
  else
    let r := d.record e
    if (r.mode = 4 ∧ d.anyLineCause r) ∨ d.swept e then (.conflict, d) else fieldWrite e .mode v d

/-- A write of any field a host writes (R108, R130, R156). -/
def anyFieldWrite (e : Nat) (f : RecField) (v : Int) (d : Dev) : Resp × Dev :=
  match f with
  | .mode => modeField e v d
  | f => fieldWrite e f v d

/-- RECORD_FIELD_WRITE. -/
def recordFieldWrite (e : Nat) (f : RecField) (v : Int) (d : Dev) : Resp × Dev := anyFieldWrite e f v d

def execRecordFieldWrite (elem : BitVec 16) (field : RecField) (v : Int) (s : State) : Host.Outcome State Fault Refusal :=
  s.ask (recordFieldWrite elem.toNat field v)

/-- MODE_WRITE. -/
def modeWrite (e v : Nat) (d : Dev) : Resp × Dev := modeField e v d

def execModeWrite (elem : BitVec 16) (v : BitVec 8) (s : State) : Host.Outcome State Fault Refusal :=
  s.ask (modeWrite elem.toNat v.toNat)

/-- SETPOINT_REQUEST (R144): SP_TARGET, and SP_RATE where the same request writes it; each write stands for itself (R327). -/
def setpointRequest (e : Nat) (target : Nat) (rate : Option Nat) (d : Dev) : Resp × Dev :=
  let a := fieldWrite e .spTarget target d
  match rate with
  | none => a
  | some v => let b := fieldWrite e .spRate v a.2; (if a.1 = .ok then b.1 else a.1, b.2)

def execSetpointRequest (elem : BitVec 16) (target : BitVec 32) (rate : Option (BitVec 16)) (s : State) :
    Host.Outcome State Fault Refusal :=
  s.ask (setpointRequest elem.toNat target.toNat (rate.map BitVec.toNat))

/-- SETTLE_ENTRY (R148, R155). -/
def settleEntryWrite (v : Nat) (d : Dev) : Resp × Dev :=
  if v < 1 ∨ 63 < v then (.invalid, d) else (.ok, { d with cfg := { d.cfg with loop := { d.cfg.loop with settleEntry := v } } })

end Sys2Proof.Machine
end

