-- ==== Sys2Proof/Machine/Update.lean ====
section
/-! DEFINITION. One update of one element as a function of what S1 fetched (R108 to R125, R131 to R149): the mode it
runs in, its transfers, the record it writes back and the code it queues. -/

namespace Sys2Proof.Machine

/-- What an update starts from, staged writes merged (stage S1). -/
structure UpdIn where
  /-- the record after the merge of every staged field but MODE and SP_TARGET -/
  r : Rec
  curve : Curve
  /-- the stored samples of MON_A and MON_B; MON_B counts only while MON_B_EN is 1 -/
  sa : Sample := {}
  sb : Sample := {}
  half : Bool := false
  /-- MODE and SP_TARGET staged, MANUAL_CODE written in the same update, SP_RATE clamped at acceptance -/
  mode : Option Nat := none
  target : Option Nat := none
  manual : Bool := false
  limited : Bool := false
  /-- SP_TARGET was held back by a commit: it acts as a request on a ramp at rest (R146) -/
  heldBack : Bool := false
  /-- a line cause acts (R139) -/
  line : Option Nat := none
  /-- the committed fields, with a jump where the mode allows it (R124) -/
  commit : Option (Int × Nat × Bool) := none
  /-- the slot moved, or a jump is less than its delay ago (R59, R220) -/
  blocked : Bool := false
  /-- a HOLD update of a takeover (R362) -/
  hold : Bool := false
  /-- a soft start is due, with its start value; after a takeover E_LAST is set to 0 (R142, R363) -/
  soft : Option Int := none
  takeover : Bool := false
  /-- SOFT_START -/
  softBit : Bool := false
  /-- the update makes the transfer from HOLD to the record's mode (R110, R128) -/
  fromHold : Bool := false
  /-- the element's group is STOPPING (R97) -/
  group : Bool := false
  /-- the code of a running sweep (R175) -/
  sweep : Option Nat := none
  /-- reference pair of cycle n - D, and the dither value of the write cycle (R114, R118) -/
  iq : Int × Int := (0, 0)
  dither : Int := 0
  settleEntry : Nat := 16
deriving DecidableEq, Repr

/-- What an update leaves. -/
structure UpdOut where
  r : Rec
  /-- the code queued -/
  queue : Nat
  /-- SOFT_START after it -/
  soft : Bool
  /-- FAULT_CAUSE written -/
  cause : Option Nat := none
  /-- a reverse linearisation of this code is requested (R122) -/
  reverse : Option Nat := none
  jumped : Bool := false
  notAuto : Bool := false
  darkIn : Bool := false
  darkOut : Bool := false
  feFault : Bool := false
  /-- FE_OVER was set by a comparison of this update -/
  feOver : Bool := false
  measured : Bool := false
  /-- the nodes it computed (R150) -/
  nodes : List (Nat × Int) := []
deriving DecidableEq, Repr

/-! ## Sums, samples and flags -/

/-- The wanted sample and the other one (R111). -/
def UpdIn.wanted (x : UpdIn) : Sample := if x.r.monBEn && x.r.wantB then x.sb else x.sa
def UpdIn.other (x : UpdIn) : Sample := if x.r.monBEn && x.r.wantB then x.sa else x.sb

def Sample.valid (s : Sample) : Bool := s.flags.getLsbD 0
def Sample.over (s : Sample) : Bool := s.flags.getLsbD 1

/-- Every sample the element uses is VALID. -/
def UpdIn.allValid (x : UpdIn) : Bool := x.r.kind = 3 || (x.sa.valid && (!x.r.monBEn || x.sb.valid))

def UpdIn.clean (x : UpdIn) : Bool :=
  x.allValid && !x.sa.over && !x.sa.poison && (!x.r.monBEn || (!x.sb.over && !x.sb.poison))

/-- Sum and measurement with the present WANT_B. -/
def UpdIn.sum (x : UpdIn) : Int := monitorSum x.r.kind x.r.monBEn x.wanted.value x.other.value
def UpdIn.meas (x : UpdIn) : Int := measureOf x.r.kind x.r.monBEn x.wanted.value x.other.value

/-- No condition of R112 holds. -/
def UpdIn.measured (x : UpdIn) : Bool :=
  x.r.kind ≠ 3 && x.clean && (x.r.kind = 2 || (0 < x.sum : Bool)) && x.commit.isNone && !x.blocked

/-- The sum lies below DARK_TH. -/
def UpdIn.isDark (x : UpdIn) : Bool := x.sum < x.r.darkTh

/-- Updates count twice at half rate (R125). -/
def UpdIn.step (x : UpdIn) : Nat := if x.half then 2 else 1

/-- Flags of the last update alone are cleared before it (R107). -/
def Rec.freshFlags (r : Rec) : Rec :=
  (((((r.setFlag fNoMeas false).setFlag fWindup false).setFlag fPhiLimited false).setFlag fCodeSlewed false).setFlag
    fSaturated false).setFlag fJumped false

/-- What every mode writes back (R123): MEAS and LOW_LIGHT of a measured update, NO_MEAS of another. Of the conditions of
R112 a RAW element, which uses no sample, meets only the last two. -/
def Rec.noteMeas (r : Rec) (x : UpdIn) : Rec :=
  if r.kind = 3 then r.setFlag fNoMeas (x.commit.isSome || x.blocked)
  else if x.measured then
    ({ r with meas := code 20 x.meas }).setFlag fLowLight x.isDark
  else r.setFlag fNoMeas true

/-! ## S3 outside AUTO, S4, SETTLED -/

/-- A setpoint encoding's limits (R133). -/
def clampSp (kind : Nat) (v : Int) : Nat := (if kind = 1 then clampI 0 65535 v else clampI 1 524287 v).toNat

/-- MEAS as a number: a ratio, or signed q for ATTEN. -/
def Rec.measNow (r : Rec) : Int := if r.kind = 2 then signed 20 r.meas else r.meas

/-- S3 where no product is accumulated (R123): the window is spoilt, and E_LAST takes a measured error of BALANCE or ATTEN. -/
def Rec.passive (r : Rec) (x : UpdIn) : Rec :=
  if r.kind = 3 then r
  else if r.kind = 0 then
    let g := demod r x.meas (refOf x.iq r.demodPhase) x.measured false x.half
    ({ r with demodAcc := g.acc, demodCount := g.count, mRef := code 16 g.mRef }).setFlag fSpoilt g.spoilt
  else if x.measured then { r with eLast := errorOf r.kind r.spWork x.meas } else r

/-- The window flags of S3 in a SWITCH update that accumulates no product (R150, node 32). -/
def UpdIn.passiveNodes (x : UpdIn) (r : Rec) : List (Nat × Int) :=
  if r.kind = 0 then
    let g := demod r x.meas (refOf x.iq r.demodPhase) x.measured false x.half
    [(32, ((ofBool g.spoilt + 2 * ofBool x.measured + 4 * ofBool g.closed : Nat) : Int))]
  else []

/-- SETTLED (R148). -/
def Rec.judgeSettled (r : Rec) (entry : Nat) : Rec := r.setFlag fSettled (r.mode = 0 && (entry ≤ r.settle : Bool))

/-- S4 in AUTO (R115, R125); SLEWLIMITED clears in the update in which SP_WORK reaches SP_TARGET (R144). -/
def Rec.ramp (r : Rec) (k : Nat) (atRest : Bool) : Rec :=
  if r.kind = 1 ∨ r.kind = 2 then
    let w := toward r.spWork r.spTarget (r.spRate * k)
    let r' := { r with spWork := w }
    if w = r.spTarget ∧ atRest = false then r'.setFlag fSlewLimited false else r'
  else r

/-! ## Codes -/

/-- S8's codes are written (R120): PHI_OUT is the phase u when neither clamp of CODE_ND acted. -/
def Rec.putCode (r : Rec) (c : CodeOut) (u d : Int) : Rec :=
  let out := outOf c.nd d
  let phi := if c.slewed || c.sat then r.phiOut else u
  (({ r with codeND := c.nd, codeOut := out, phiOut := phi }).setFlag fCodeSlewed c.slewed).setFlag
    fSaturated (c.sat || outSat c.nd d)

/-- The reverse linearisation that a clamped code requests. -/
def CodeOut.request (c : CodeOut) : Option Nat := if c.slewed || c.sat then some c.nd else none

/-- Nodes of S6 to S8. -/
def codeNodes (u uc d : Int) (c : CodeOut) : List (Nat × Int) := [(14, u), (15, uc), (16, c.lin), (18, d)]

def UpdIn.d (x : UpdIn) : Int := if x.r.dither then x.dither else 0

/-! ## The modes -/

/-- A move of CODE_ND toward a code by at most CODE_SLEW (R123 MANUAL). -/
def Rec.moveTo (r : Rec) (t slew : Nat) (d : Int) : Rec :=
  let n := toward r.codeND t slew
  (({ r with codeND := n, codeOut := outOf n d }).setFlag fCodeSlewed (n ≠ t)).setFlag fSaturated (outSat n d)

/-- MANUAL (R123), and the move of a stopping group to 0 without dither (R97): SOFT_START clears in either (of the second, under a
MODE that stays AUTO, a DESIGN CHOICE, log entry 57: R143 does not say). -/
def UpdIn.manualUpdate (x : UpdIn) (r : Rec) (t : Nat) (d : Int) : UpdOut :=
  let q := (r.passive x).moveTo t (r.codeSlew * x.step) d
  { r := q, queue := q.codeOut, soft := false
    reverse := if q.codeND = r.codeND then none else some q.codeND, nodes := (18, d) :: x.passiveNodes r }

/-- HOLD and FAULT (R123): the last code again. -/
def UpdIn.holdUpdate (x : UpdIn) (r : Rec) : UpdOut :=
  { r := r.passive x, queue := r.codeOut, soft := false, nodes := (18, 0) :: x.passiveNodes r }

/-- DARK (R123): feedforward plus frozen integrator, without a P term. -/
def UpdIn.darkUpdate (x : UpdIn) (r : Rec) : UpdOut :=
  let q := r.passive x
  let u := q.phiFF + shr q.integ 8
  let uc := clampI q.phiMin q.phiMax u
  let c := codeOf (x.curve.lin uc) q.codeND (q.codeSlew * x.step)
  let z := (q.putCode c uc x.d).setFlag fPhiLimited (uc ≠ u)
  { r := z, queue := z.codeOut, soft := false, reverse := c.request, nodes := codeNodes u uc x.d c ++ x.passiveNodes r }

/-- Entry to DARK (R136): the integrator holds the phase. -/
def UpdIn.enterDark (x : UpdIn) (r : Rec) : UpdOut :=
  let q := { r with mode := 3, settle := 0, integ := fitInteg (clampInt r ((r.phiOut - r.phiFF) * 256)) }
  { x.darkUpdate q with darkIn := true }

/-- A commit jump (R124, R220). -/
def UpdIn.jumpUpdate (x : UpdIn) (r : Rec) : UpdOut :=
  let u := clampI r.phiMin r.phiMax r.phiFF
  let c := codeOf (x.curve.lin u) r.codeND 65536
  let q := { r with
    integ := 0, demodAcc := 0, demodCount := 0, feCount := 0, settle := 0, spWork := r.spTarget, phiOut := u, eLast := 0
    codeND := c.nd, codeOut := outOf c.nd x.d }
  let q := ((((q.setFlag fJumped true).setFlag fSpoilt true).setFlag fSlewLimited false).setFlag
    fSaturated (c.sat || outSat c.nd x.d)).setFlag fPhiLimited (u ≠ r.phiFF)
  { r := q, queue := q.codeOut, soft := false, jumped := true, nodes := codeNodes r.phiFF u x.d c }

/-! ## AUTO -/

/-- How an AUTO update came to be one. -/
inductive Entry where
  | steady | bumpless | softStart (start : Int)
deriving DecidableEq, Repr

/-- SP_WORK before S3: the measurement at a transfer (R133) and at a request on a ramp at rest (R145). -/
def UpdIn.presetSp (x : UpdIn) (r : Rec) (fresh : Bool) : Rec :=
  if fresh ∧ (r.kind = 1 ∨ r.kind = 2) then
    { r with spWork := clampSp r.kind (if x.measured then x.meas else r.measNow) }
  else r

/-- M_REF of a measurement (R133 step 4); what it holds of one that its 16 bits cannot hold, no rule states. -/
def refOfMeas (m : Int) : Nat := if 0 ≤ m ∧ m < 65536 then m.toNat else (Config.wideRef m).toNat

/-- fe of R117. -/
def feOf (r : Rec) (e m : Int) : Int := if r.kind = 0 then 65536 - m else e.natAbs

/-- FE_OVER follows the comparison of R117 in every measured AUTO update, a transfer among them. -/
def Rec.noteOver (r : Rec) (x : UpdIn) (e : Int) : Rec :=
  if x.measured then r.setFlag fFeOver (r.feLimit < feOf r e x.meas : Bool) else r

/-- Node 33 of a measured transfer (R117, R150); `r` holds its error. -/
def UpdIn.feNode (x : UpdIn) (r : Rec) : List (Nat × Int) := if x.measured then [(33, feOf r r.eLast x.meas)] else []

/-- What every transfer into AUTO sets (R133 steps 4 and 5). -/
def Rec.intoAuto (r : Rec) : Rec :=
  ({ r with mode := 0, demodAcc := 0, demodCount := 0, feCount := 0, settle := 0 }).setFlag fSpoilt false

/-- A transfer into AUTO, S3 to S6 (R133 steps 1, 2, 4, 5): the record with its error, and P. A SWITCH element forms no error
in it: its window starts anew with M_REF, so S3 has no product to take and e is E_LAST, as R114 says of an update without a
new error (DEDUCED, log entry 59: R133 does not say whether S3 demodulates first). -/
def UpdIn.transferIn (x : UpdIn) (r : Rec) (sp : Nat) : Rec × Int :=
  let r := x.presetSp r true
  let e := if r.kind ≠ 0 ∧ x.measured then errorOf r.kind r.spWork x.meas else r.eLast
  let r := { r with spTarget := sp, eLast := e, mRef := if x.measured then refOfMeas x.meas else r.mRef }
  (r.intoAuto.noteOver x e, propOf r e)

/-- The bumpless transfer (R133, R134). -/
def UpdIn.bumpless (x : UpdIn) (r0 : Rec) (sp : Nat) : UpdOut :=
  if r0.kind = 3 then
    -- a RAW element runs neither S3 nor S5: its code is held, or u = PHI_FF acts where PHI_OUT lies outside the limits
    let r := r0.intoAuto
    if r.phiMin ≤ r.phiOut ∧ r.phiOut ≤ r.phiMax then
      let z := ({ r with codeOut := outOf r.codeND x.d }).setFlag fSaturated (outSat r.codeND x.d)
      { r := z, queue := z.codeOut, soft := false, nodes := [(18, x.d)] }
    else
      let uc := clampI r.phiMin r.phiMax r.phiFF
      let c := codeOf (x.curve.lin uc) r.codeND (r.codeSlew * x.step)
      let z := (r.putCode c uc x.d).setFlag fPhiLimited (uc ≠ r.phiFF)
      { r := z, queue := z.codeOut, soft := false, reverse := c.request, nodes := codeNodes r.phiFF uc x.d c }
  else
    let t := x.transferIn r0 sp
    let r := t.1
    let p := t.2
    if r.phiMin ≤ r.phiOut ∧ r.phiOut ≤ r.phiMax then
      let z := ({ r with integ := fitInteg ((r.phiOut - r.phiFF - p) * 256), codeOut := outOf r.codeND x.d }).setFlag
        fSaturated (outSat r.codeND x.d)
      let z := z.ramp x.step false
      { r := z, queue := z.codeOut, soft := false, feOver := x.measured && r.flag fFeOver
        nodes := [(5, r.eLast), (11, p), (12, 0), (14, r.phiOut), (15, r.phiOut), (18, x.d)] ++ x.feNode r }
    else
      let i := fitInteg (clampInt r ((clampI r.phiMin r.phiMax r.phiOut - r.phiFF - p) * 256))
      let u := r.phiFF + p + shr i 8
      let uc := clampI r.phiMin r.phiMax u
      let c := codeOf (x.curve.lin uc) r.codeND (r.codeSlew * x.step)
      let z := (({ r with integ := i }).putCode c uc x.d).setFlag fPhiLimited (uc ≠ u)
      let z := z.ramp x.step false
      { r := z, queue := z.codeOut, soft := false, reverse := c.request, feOver := x.measured && r.flag fFeOver
        nodes := [(5, r.eLast), (11, p), (12, 0)] ++ x.feNode r ++ codeNodes u uc x.d c }

/-- The soft-start transfer (R142, R143, R363): the code is not held. -/
def UpdIn.softTransfer (x : UpdIn) (r0 : Rec) (sp : Nat) (start : Int) : UpdOut :=
  let r0 := if x.takeover then { r0 with eLast := 0 } else r0
  let t := if r0.kind = 3 then (r0.intoAuto, 0) else x.transferIn r0 sp
  let r := if x.takeover then { t.1 with eLast := 0 } else t.1
  let p := t.2
  let i := fitInteg (clampInt r start)
  let u := if r.kind = 3 then r.phiFF else r.phiFF + p + shr i 8
  let uc := clampI r.phiMin r.phiMax u
  let c := codeOf (x.curve.lin uc) r.codeND (r.codeSlew * x.step)
  let z := (({ r with integ := i }).putCode c uc x.d).setFlag fPhiLimited (uc ≠ u)
  let z := z.ramp x.step false
  { r := z, queue := z.codeOut, soft := true, reverse := c.request, feOver := x.measured && r.flag fFeOver
    -- S5 to S8 run as in any AUTO update, with dI 0 (R142)
    nodes := (if r.kind = 3 then [] else [(5, r.eLast), (11, p), (12, 0), (34, u), (35, u), (36, i)] ++ x.feNode r) ++ codeNodes u uc x.d c }

/-- S3 of a steady AUTO update: the record after it, the error, and whether it is a new one. -/
def UpdIn.autoError (x : UpdIn) (r : Rec) : Rec × Int × Bool × Option Demod :=
  if r.kind = 3 then (r, 0, false, none)
  else if r.kind = 0 then
    let g := demod r x.meas (refOf x.iq r.demodPhase) x.measured x.measured x.half
    let r' := ({ r with demodAcc := g.acc, demodCount := g.count, mRef := code 16 g.mRef }).setFlag fSpoilt g.spoilt
    match g.g with
    | some v => let e := satE (v * x.curve.sgn r.phiMin); ({ r' with eLast := e }, e, true, some g)
    | none => (r', r.eLast, false, some g)
  else if x.measured then
    let e := errorOf r.kind r.spWork x.meas
    ({ r with eLast := e }, e, true, none)
  else (r, r.eLast, false, none)

/-- S8 would limit the code in the direction of dI * sign(a1) (R116). -/
def CodeOut.against (c : CodeOut) (push : Int) : Bool :=
  (0 < push : Bool) && ((c.nd : Int) < c.lin : Bool) || (push < 0 : Bool) && (c.lin < (c.nd : Int) : Bool)

/-- S9's part of R147: SETTLE_COUNT of an AUTO update. -/
def Rec.countSettle (r : Rec) (measured soft slewed : Bool) (fe : Int) (k : Nat) : Rec :=
  if soft then { r with settle := 0 }
  else if r.kind = 3 then { r with settle := min 127 (r.settle + k) }
  else if measured = false then r
  else if slewed = false ∧ fe ≤ (r.feLimit / 4 : Nat) ∧ (r.kind = 0 ∨ r.spWork = r.spTarget) then
    { r with settle := min 127 (r.settle + k) }
  else { r with settle := 0 }

/-- A steady AUTO update (R113 to R120, R140, R143, R147); `sp` is SP_TARGET before this update. -/
def UpdIn.autoUpdate (x : UpdIn) (before : Rec) (atRest : Bool) : UpdOut :=
  let s3 := x.autoError before
  let r := s3.1
  let e := s3.2.1
  let k := x.step
  let p := if r.kind = 3 then 0 else propOf r e
  let di : Int := if s3.2.2.1 then (k : Int) * (r.ki * e) else 0
  let int1 := clampInt r (satI 32 (r.integ + di))
  let u1 := if r.kind = 3 then r.phiFF else r.phiFF + p + shr int1 8
  let u0 := r.phiFF + p + shr r.integ 8
  let try1 := codeOf (x.curve.lin (clampI r.phiMin r.phiMax u1)) r.codeND (r.codeSlew * k)
  let wind : Bool := r.kind ≠ 3 &&
    ((r.phiMax < u1 && 0 < di : Bool) || (u1 < r.phiMin && di < 0 : Bool) || try1.against (di * x.curve.sgn r.phiMin))
  let u := if wind then u0 else u1
  let uc := clampI r.phiMin r.phiMax u
  let c := codeOf (x.curve.lin uc) r.codeND (r.codeSlew * k)
  let fe := feOf r e x.meas
  let fast : Bool := x.measured && (r.feLimit < fe : Bool)
  let adv := r.feCount + k
  let feCount := if x.softBit then 0 else if x.measured = false then r.feCount else if fast then min 255 adv else 0
  let flagged := if x.measured then r.setFlag fFeOver fast else r
  let nodes : List (Nat × Int) := (if r.kind = 3 then [] else
      [(5, e), (11, p), (12, di), (34, u0), (35, u1), (36, int1)] ++ (if x.measured then [(33, fe)] else []))
    ++ (match s3.2.2.2 with
      | some g => (match g.g with | some v => [(30, v)] | none => []) ++ [(32, ((ofBool g.spoilt + 2 * ofBool x.measured + 4 * ofBool g.closed : Nat) : Int))]
      | none => []) ++ codeNodes u uc x.d c
  if fast ∧ r.feTimer < adv ∧ x.softBit = false then
    -- R140: the last good code is queued; INTEG, the codes, PHI_OUT and the window keep their values; FLAGS is written back
    -- with what S5 and S6 set before the check
    let z := (((({ flagged with
      mode := 4, feCount := feCount, settle := 0, demodAcc := before.demodAcc, demodCount := before.demodCount
      mRef := before.mRef }).setFlag fSpoilt (before.flag fSpoilt))).setFlag fPhiLimited (uc ≠ u)).setFlag fWindup wind
    { r := z, queue := z.codeOut, soft := false, cause := some 1, feFault := true, feOver := true, nodes := nodes }
  else
    let z := { flagged with feCount := feCount, integ := if wind then r.integ else if r.kind = 3 then r.integ else fitInteg int1 }
    let z := (((z.putCode c uc x.d).setFlag fPhiLimited (uc ≠ u)).setFlag fWindup wind).ramp k atRest
    let z := z.countSettle x.measured x.softBit c.slewed fe k
    { r := z, queue := z.codeOut, soft := x.softBit && c.slewed, reverse := c.request, feOver := fast, nodes := nodes }

/-! ## Which of them runs (R131, R132, R149) -/

/-- The mode the element comes from and the one it goes to, and whether MANUAL_CODE is to be preset (R131, R135). -/
def UpdIn.goes (x : UpdIn) : Nat × Nat :=
  let cur := if x.fromHold && x.r.mode ≠ 4 then 2 else x.r.mode
  let want := match x.mode with
    | some m => m
    | none => if x.fromHold && x.r.mode = 3 then 0 else x.r.mode
  (cur, if cur = 3 ∧ want = 0 then 3 else want)

/-- The record with the committed fields. -/
def Rec.take (r : Rec) (c : Int × Nat × Bool) : Rec := { r with phiFF := c.1, spTarget := c.2.1, wantB := c.2.2 }

/-- SP_TARGET of a request outside AUTO (R146), and SLEWLIMITED of a clamped rate (R144). -/
def UpdIn.request (x : UpdIn) (r : Rec) : Rec :=
  let r := match x.target with | some v => { r with spTarget := v } | none => r
  if x.limited then r.setFlag fSlewLimited true else r

/-- The update by the element's mode; `r` carries the mode, `fromFault` says that it leaves FAULT. -/
def UpdIn.run (x : UpdIn) : UpdOut :=
  let base := (x.r.freshFlags).noteMeas x
  -- a line cause: FAULT, whatever was written
  match x.line with
  | some c =>
    let q := x.request { base with mode := 4, settle := 0 }
    let q := match x.commit with | some f => q.take f | none => q
    let o := if x.group then x.manualUpdate q 0 0 else x.holdUpdate q
    { o with cause := some c, notAuto := x.commit.isSome }
  | none =>
    let g := x.goes
    let leaves : Option Nat := if x.r.mode = 4 ∧ g.2 ≠ 4 then some 0 else none
    let base := if leaves.isSome then { base with feCount := 0 } else base
    let limited := fun (q : Rec) => if x.limited then q.setFlag fSlewLimited true else q
    -- the group or a sweep governs the output: writes go to the record alone
    if x.group || x.sweep.isSome || x.hold then
      -- the output moves or stands as in MANUAL or HOLD, where SETTLE_COUNT is held at 0 (R147)
      let q := x.request { base with
        settle := 0, mode := match x.mode with | some m => if base.mode = 3 ∧ m = 0 then 3 else m | none => base.mode }
      let q := match x.commit with | some f => q.take f | none => q
      let o : UpdOut := match x.group, x.sweep with
        | true, _ => x.manualUpdate q 0 0
        | false, some s =>
          let z := { q.passive x with codeND := s, codeOut := s, feCount := 0 }
          { r := z, queue := s, soft := x.softBit, nodes := (18, 0) :: x.passiveNodes q }
        | false, none => { x.holdUpdate q with soft := x.softBit }
      { o with cause := leaves, notAuto := x.commit.isSome && !(q.mode = 0 || q.mode = 3) }
    else
      let moved : Bool := g.1 ≠ g.2
      let dst := g.2
      match x.commit, (dst = 0 || dst = 3 : Bool) with
      | some f, true =>
        { x.jumpUpdate (({ base with mode := dst }).take f) with cause := leaves }
      | c, _ =>
        let base := match c with | some f => base.take f | none => base
        let o : UpdOut :=
          match x.soft, (dst = 0 || dst = 3 : Bool) with
          | some start, true =>
            let r := limited { base with mode := 0 }
            if x.measured && x.isDark && r.kind ≠ 3 then x.enterDark (x.request r)
            else x.softTransfer r (x.target.getD r.spTarget) start
          | _, _ =>
            if dst = 0 then
              if moved then
                let r := limited { base with mode := 0 }
                if x.measured && x.isDark then x.enterDark (x.request r) else x.bumpless r (x.target.getD r.spTarget)
              else
                let rest : Bool := base.spWork = base.spTarget || x.heldBack
                if x.measured && x.isDark then x.enterDark (x.request base)
                else
                  x.autoUpdate (x.request (if x.target.isSome then x.presetSp base rest else base)) (rest && x.target.isNone)
            else if dst = 3 then
              let r := x.request base
              if x.measured = false then x.darkUpdate r
              else if x.isDark then x.darkUpdate { r with settle := 0 }
              else if r.settle < 15 then x.darkUpdate { r with settle := r.settle + 1 }
              else { x.bumpless (limited { base with mode := 0 }) (x.target.getD base.spTarget) with darkOut := true }
            else if dst = 1 then
              let r := x.request { base with
                mode := 1, settle := 0
                manualCode := if moved ∧ x.mode.isSome ∧ x.manual = false then base.codeND else base.manualCode }
              x.manualUpdate r r.manualCode x.d
            else x.holdUpdate (x.request { base with mode := dst, settle := 0 })
        { o with cause := if o.cause.isSome then o.cause else leaves, notAuto := c.isSome }

/-- The engine never writes a field while a staged write to it is pending (R108): MODE, MANUAL_CODE and SP_TARGET stay as the
merged record `m` has them. A mode that is not entered leaves no cause and raises nothing (DEDUCED, log entry 99). -/
def UpdOut.withheld (o : UpdOut) (m : Rec) (later : RecField → Bool) : UpdOut :=
  let r := { o.r with
    spTarget := if later .spTarget then m.spTarget else o.r.spTarget
    manualCode := if later .manualCode then m.manualCode else o.r.manualCode }
  if later .mode ∧ o.r.mode ≠ m.mode then
    { o with r := { r with mode := m.mode }, cause := none, feFault := false, darkIn := false, darkOut := false }
  else { o with r := r }

/-- The update, with SETTLED and HALF_RATE judged and the nodes that every update computes (R150). -/
def UpdIn.update (x : UpdIn) : UpdOut :=
  let o := x.run
  let r := (o.r.judgeSettled x.settleEntry).setFlag fHalfRate x.half
  { o with r := r, measured := x.measured }

end Sys2Proof.Machine
end

