-- ==== Sys2Proof/Machine/Trace.lean ====
section
/-! DEFINITION. The trace buffers (R150 to R154, R157). -/

namespace Sys2Proof.Machine

def Dev.setTrace (d : Dev) (f : Trace → Trace) : Dev := { d with trace := f d.trace }
def Dev.setTraceCfg (d : Dev) (f : TraceCfg → TraceCfg) : Dev := { d with cfg := { d.cfg with trace := f d.cfg.trace } }

/-! ## The set (R151, R152) -/

/-- Element numbers named by TRACE_ELEMENTS: the first 0xFFFF ends the list. -/
def elementList : Nat → List Byte → List Nat
  | 0, _ => []
  | n + 1, b => if field b 0 2 = 0xFFFF then [] else field b 0 2 :: elementList n (b.drop 2)

/-- Bytes of an entry with k nodes, and groups in the ring. -/
def entrySize (k : Nat) : Nat := 8 + 4 * k
def traceDepth (n e : Nat) : Nat := min 65535 (1048576 / (n * e))

/-- The chosen nodes, ascending. -/
def nodeList (mask : BitVec 64) : List Nat := (List.range 64).filter (fun i => mask.getLsbD i)

def Trace.size (t : Trace) : Nat := entrySize (nodeList t.nodes).length

/-- TRACE_ARM. -/
def traceArm (d : Dev) : Resp × Dev :=
  if d.trace.state = .armed ∨ d.trace.state = .triggered then (.busy, d)
  else
    let es := elementList 256 d.cfg.trace.elements
    let c := d.cfg.trace
    let depth := traceDepth es.length (entrySize (nodeList c.nodes).length)
    if es = [] ∨ es.eraseDups.length ≠ es.length ∨ es.any (fun e => 32767 < e) ∨ c.nodes = 0 ∨ (c.mode = 0 ∧ depth ≤ c.post) then
      (.invalid, d)
    else
      let d := { d with sram := { d.sram with
        cells := d.sram.cells.filter (fun x => regionOf x.1 ≠ some 4)
        poison := d.sram.poison.filter (fun x => regionOf x.1 ≠ some 4) } }
      (.ok, d.setTrace (fun t => { t with
        elems := es, nodes := c.nodes, mode := c.mode, post := c.post, decimate := c.decimate, sources := c.trigger
        depth := depth, armDue := true, disarmDue := false, written := 0, capturing := false, left := 0
        cause := 0xFF, triggerGroup := 0xFFFF, triggerElem := 0xFFFF, triggerCycle := 0 }))

def execTraceArm (s : State) : Host.Outcome State Fault Refusal := s.ask traceArm

/-- A trigger fires (R153): the first in ARMED wins. In PRE mode a trigger in a cycle of which no group is captured has no group:
TRIGGER_GROUP reads 0xFFFF (DESIGN CHOICE, log entry 105). -/
def Dev.fireTrace (d : Dev) (cause elem cycle : Nat) (inGroup : Bool) : Dev :=
  if d.trace.state = .armed then
    d.setTrace (fun t => { t with
      state := .triggered, cause := cause, triggerElem := elem, triggerCycle := cycle
      triggerGroup := if t.mode = 0 ∧ inGroup then (t.written - 1) % t.depth else 0xFFFF
      left := if t.mode = 0 then t.post else t.depth })
  else d

/-- A trigger of an enabled source. -/
def Dev.traceSource (d : Dev) (src elem cycle : Nat) (inGroup : Bool) : Dev :=
  if d.trace.sources.getLsbD src then d.fireTrace src elem cycle inGroup else d

/-- TRACE_FORCE. -/
def traceForce (d : Dev) : Resp × Dev :=
  if d.trace.state = .armed then (.ok, d.fireTrace 6 0xFFFF d.cycleNo d.trace.capturing) else (.conflict, d)

def execTraceForce (s : State) : Host.Outcome State Fault Refusal := s.ask traceForce

/-- TRACE_DISARM: IDLE at the next tick. -/
def traceDisarm (d : Dev) : Resp × Dev := (.ok, d.setTrace (fun t => { t with armDue := false, disarmDue := true }))

def execTraceDisarm (s : State) : Host.Outcome State Fault Refusal := s.ask traceDisarm

def traceControlWrite (v : Nat) (d : Dev) : Resp × Dev :=
  match v with
  | 1 => traceArm d
  | 2 => traceForce d
  | 3 => traceDisarm d
  | _ => (.invalid, d)

/-! ## Groups (R151, R153) -/

/-- A word of a node. -/
def nodeWord (l : List (Nat × Int)) (n : Nat) : List Byte :=
  match tfind l n with
  | some v => be 4 (code 32 v)
  | none => be 4 0x80000000

def traceEntry (elem status slot cycle : Nat) (nodes : List Byte) : List Byte :=
  be 2 elem ++ be 1 status ++ be 1 slot ++ be 4 (cycle % 2 ^ 32) ++ nodes

/-- The entry of an element in the group under capture is written. -/
def Dev.traceEntry (d : Dev) (e status slot : Nat) (nodes : List (Nat × Int)) : Dev :=
  let t := d.trace
  if t.capturing then
    match t.elems.findIdx? (fun x => x = e) with
    | none => d
    | some i =>
      let b := (nodeList t.nodes).flatMap (nodeWord (if status = 0 then nodes else []))
      let a := traceAddr (((t.written - 1) % t.depth) * t.elems.length * t.size + i * t.size)
      d.mem (fun m => m.setCells a (Machine.traceEntry e status slot d.cycleNo b))
  else d

/-- The slot in which an element's update is issued in the present cycle. -/
def Dev.issueSlot (d : Dev) (e : Nat) : Nat :=
  let row := siteRow (entryDrive (d.entry e))
  (firstWhere (fun j => d.rowNext j = row) d.cyc.conf.rows 0).getD row

/-- A group is opened: every element reads NOT_COMPUTED until its update. -/
def Dev.openGroup (d : Dev) : Dev :=
  let d := d.setTrace (fun t => { t with written := t.written + 1, capturing := true })
  each d.trace.elems (fun e d => d.traceEntry e 1 (d.issueSlot e) []) d

/-- The tick's part: what was written takes effect, and the cycle is captured where it is sampled. `snap` says that a
snapshot was taken at this tick, `ended` is the number of the cycle that ended. -/
def Dev.traceTick (d : Dev) (snap : Bool) (ended : Nat) : Dev :=
  let d := if snap then d.traceSource 0 0xFFFF ended d.trace.capturing else d
  let d := d.setTrace (fun t => { t with capturing := false })
  let t := d.trace
  if t.disarmDue then d.setTrace (fun t => { t with state := .idle, disarmDue := false })
  else
    let d := if t.armDue then d.setTrace (fun t => { t with state := .armed, armDue := false }) else d
    let sampled : Bool := d.cycleNo % d.trace.decimate = 0
    match d.trace.state with
    | .armed => if sampled && d.trace.mode = 0 then d.openGroup else d
    | .triggered =>
      if d.trace.left = 0 then d.setTrace (fun t => { t with state := .done })
      else if sampled then (d.setTrace (fun t => { t with left := t.left - 1 })).openGroup
      else d
    | _ => d

/-! ## Reads and settings (R154, R157) -/

def TraceState.code (s : TraceState) : Nat :=
  match s with
  | .idle => 0 | .armed => 1 | .triggered => 2 | .done => 3

/-- TRACE_HEADER (R154). The group under capture counts among the groups written, and drops the oldest of a full ring, from its
opening: every entry of it then stands, as NOT_COMPUTED until its update (DESIGN CHOICE, log entry 64). -/
def Dev.traceHeader (d : Dev) : List Byte :=
  let t := d.trace
  if t.elems = [] then List.replicate 40 0 else
  be 2 0x0301 ++ be 1 t.cause ++ be 1 t.state.code ++ be 8 t.nodes.toNat ++ be 2 t.elems.length ++ be 2 t.size ++ be 2 t.depth
    ++ be 2 (if t.written ≤ t.depth then 0 else t.written % t.depth) ++ be 2 t.triggerGroup ++ be 2 t.triggerElem
    ++ be 8 t.triggerCycle ++ be 2 t.decimate ++ be 2 (min t.written t.depth) ++ be 4 0

/-- The trace objects are idle in IDLE and DONE. -/
def Dev.traceIdle (d : Dev) : Bool := d.trace.state = .idle || d.trace.state = .done

def Dev.traceSet (d : Dev) (ok : Bool) (f : TraceCfg → TraceCfg) : Resp × Dev :=
  if !d.traceIdle then (.conflict, d) else if !ok then (.invalid, d) else (.ok, d.setTraceCfg f)

def traceElementsWrite (b : List Byte) (d : Dev) : Resp × Dev := d.traceSet true (fun c => { c with elements := b })
def traceNodesWrite (v : Nat) (d : Dev) : Resp × Dev := d.traceSet true (fun c => { c with nodes := BitVec.ofNat 64 v })
def traceModeWrite (v : Nat) (d : Dev) : Resp × Dev := d.traceSet (v ≤ 1) (fun c => { c with mode := v })
def tracePostWrite (v : Nat) (d : Dev) : Resp × Dev := d.traceSet true (fun c => { c with post := v })
def traceDecimateWrite (v : Nat) (d : Dev) : Resp × Dev := d.traceSet (1 ≤ v && v ≤ 256) (fun c => { c with decimate := v })
/-- Bits 6 and 7 of TRACE_TRIGGER are reserved (R6). -/
def traceTriggerWrite (v : Nat) (d : Dev) : Resp × Dev := d.traceSet (v < 64) (fun c => { c with trigger := BitVec.ofNat 8 v })

end Sys2Proof.Machine
end

