-- ==== Sys2Proof/Machine/Slot.lean ====
section
/-! DEFINITION. SLOT: the drive write, the monitor read and the updates of one enabled slot (R12 to R15, R58, R59, R61,
R63, R88, R94, R96, R104, R108, R110, R121, R124, R126, R220, R223). -/

namespace Sys2Proof.Machine

/-! ## What S1 fetches -/

/-- The due staged writes of an element. -/
def Dev.dueWrites (d : Dev) (e : Nat) : List Staged := (d.stagedOf e).filter (fun s => s.due ≤ d.ticks)

/-- The last value among some writes to a field. -/
def writtenTo (l : List Staged) (f : RecField) : Option Int :=
  match (l.filter (fun s => s.field = f)).getLast? with
  | some s => some s.v
  | none => none

/-- A field that the merge itself applies to the record: MODE and SP_TARGET are the update's. -/
def isPlain (f : RecField) : Bool := f ≠ .mode && f ≠ .spTarget

/-- A setpoint field, held back in a commit update (R146). -/
def isSetpoint (f : RecField) : Bool := f = .spTarget || f = .spRate

/-- Committed fields of an element in a bank (R209). -/
def Dev.committed (d : Dev) (next : Bool) (e : Nat) : Int × Nat × Bool :=
  let w := d.target next e
  (targetPhi w, targetSp w, targetWantB w)

/-- The code a swept element's update queues (R175): w counts the write cycle from the sweep's start. -/
def Sweep.code (s : Sweep) (nd ticks : Nat) : Nat :=
  let w := ticks + 1 - s.start
  if s.phase = .returning then toward nd s.code0 256
  else if w < 64 then toward nd 0 256
  else if w < 1984 then 129 * ((w - 64) / 15)
  else toward nd s.code0 256

/-- What S1 hands to the update of element e in slot j of cycle n. -/
structure Fetch where
  inp : UpdIn
  /-- the staged writes that the update applies -/
  writes : List Staged
  /-- the element is marked: its jump comes from a bank, and is a retry -/
  marked : Bool
  retry : Bool
  /-- the jump is that of JUMP_PENDING -/
  pending : Bool
  /-- committed fields taken at the end of a hold -/
  taken : Bool
  /-- the soft start is spent by this update -/
  softDone : Bool
  /-- phase index of the reference cycle, and of the write cycle -/
  refIdx : Option Nat
  writeIdx : Option Nat
  /-- fields to which a staged write stays pending -/
  pendingFields : List RecField
deriving DecidableEq, Repr

/-- S1 (R110, R112, R149). -/
def Dev.fetch (d : Dev) (n j e : Nat) : Fetch :=
  let wasHold := tget false d.loop.recordHold e || tget false d.loop.holdEnded e
  let due := tfind d.circ.jumpDue e
  let marked := due.isSome && !wasHold
  let writes := (d.dueWrites e).filter (fun s => !(marked && isSetpoint s.field))
  let r := each (writes.filter (fun s => isPlain s.field)) (fun s r => r.setField s.field s.v) (d.record e)
  let taken := due.isSome && wasHold
  let r := if taken then r.take (d.committed d.circ.armed.isSome e) else r
  let group := d.groupState (siteCol r.drive / 32)
  let moving : Bool := group = .stopping || group = .restartPending
  let pending := !marked && d.jumpPending e && d.driving && !moving
  let target := (writtenTo writes .spTarget).map Int.toNat
  let commit := if marked then some (d.committed (d.circ.armed.isSome && due = some false) e)
    else if pending then some (r.phiFF, target.getD r.spTarget, r.wantB) else none
  let sa := if r.kind = 3 then {} else d.usable r.monA j
  let sb := if r.kind ≠ 3 ∧ r.monBEn then d.usable r.monB j else {}
  let valid : Bool := r.kind = 3 || (sa.valid && (!r.monBEn || sb.valid))
  let inTakeover : Bool := d.loop.takeover = some d.ticks
  let want := ((writtenTo writes .mode).map Int.toNat).getD r.mode
  let entry := tfind d.loop.softStart e
  let waits : Bool := entry.isSome && d.loop.takeover.isSome && !valid
  let sw := d.cal.sweeps.find? (fun s => s.elem = e)
  let ref := d.toneBack r.tone (if r.delay2 then 2 else 1)
  let t := d.tone r.tone
  let write := t.index (n + 1)
  { inp := {
      r := r, curve := d.workingCurve e, sa := sa, sb := sb, half := tget false d.cyc.halfRate e
      mode := (writtenTo writes .mode).map Int.toNat
      target := target
      manual := (writtenTo writes .manualCode).isSome
      limited := match writtenTo writes .spRate with | some v => 65535 < v | none => false
      heldBack := tget false d.loop.heldBack e
      line := tfind d.loop.lineElems e, commit := commit
      blocked := (d.cyc.nextScan ≠ [] && j ≠ siteRow r.drive)
        || (match tfind d.circ.jumpHold e with | some u => (d.ticks < u : Bool) | none => false)
      -- after a takeover an element holds, unless it jumps (R362)
      hold := (inTakeover || waits) && (commit.isNone || !(want = 0 || want = 3))
      soft := if inTakeover || waits then none else entry
      takeover := d.loop.takeover.isSome, softBit := d.softStart e
      fromHold := tget false d.loop.fromHold e || wasHold
      group := moving, sweep := sw.map (fun s => s.code r.codeND d.ticks)
      iq := pairOf ref, dither := ditherOf t.amplitude write, settleEntry := d.cfg.loop.settleEntry }
    writes := writes, marked := marked, retry := due = some true, pending := pending
    taken := taken, softDone := entry.isSome && !(inTakeover || waits), refIdx := ref, writeIdx := write
    pendingFields := ((d.stagedOf e).filter (fun s => !writes.contains s)).map (fun s => s.field) }

/-- A staged write to the field stays pending after this update. -/
def Fetch.later (f : Fetch) (x : RecField) : Bool := f.pendingFields.contains x

/-! ## Discarded updates -/

/-- The marked jump of a discarded update is retried (R223). -/
def Dev.retryJump (d : Dev) (e : Nat) : Dev :=
  { d with circ := { d.circ with jumpDue := d.circ.jumpDue.map (fun p => if p.1 = e then (e, true) else p) } }

def Dev.discard (d : Dev) : Dev := d.setLoop (fun l => { l with discarded := l.discarded + 1 })

/-- Address of the first poisoned word an update meets: the record's words, then the working curve's. -/
def Dev.firstPoison (d : Dev) (e : Nat) : Nat :=
  match firstWhere (fun w => d.sram.poisoned (recAddr e + 8 * w)) 8 0 with
  | some w => recAddr e + 8 * w
  | none => if d.sram.poisoned (calAddr e + 72) then calAddr e + 72
    else if d.sram.poisoned (calAddr e + 80) then calAddr e + 80 else recAddr e

/-- An update met by poison, of the word at `a`, puts the element on record hold (R110, R140). -/
def Dev.enterHold (d : Dev) (n j e a : Nat) : Dev :=
  let new := !tget false d.loop.recordHold e
  let d := d.discard.setLoop (fun l => { l with
    recordHold := tset false l.recordHold e true, holdEnded := tset false l.holdEnded e false })
  let d := d.traceEntry e 3 j []
  if new then
    let d := (d.lastError a 2 .loopEngine 0).raise .elementFault [5 * 65536 + e, a, 0]
    let d := if d.trace.elems.contains e then d.traceSource 1 e n d.trace.capturing else d
    d.traceSource 5 e n d.trace.capturing
  else d

/-! ## Nodes of every update (R150) -/

/-- ref2 of R179; a disabled generator presents index 0 (R101). -/
def refTwo (idx : Option Nat) : Int := sine (2 * idx.getD 0 + 256)

def optNat (o : Option Nat) : Int := (o.getD 0 : Nat)

def Fetch.nodes (f : Fetch) (d : Dev) (o : UpdOut) (n lane clock e : Nat) (refit : Option Int) : List (Nat × Int) :=
  let x := f.inp
  let r := o.r
  let a := x.wanted
  let b := x.other
  let two := x.r.monBEn
  let ref := refOf x.iq x.r.demodPhase
  let dx := x.meas - x.r.mRef
  let i (v : Nat) : Int := v
  let bits (k : Nat) (v : Bool) : Nat := if v then k else 0
  o.nodes ++ (if r.kind = 3 then [] else
      [(0, a.value), (2, i (a.flags.toNat + (if two then b.flags.toNat * 256 else 0))), (3, x.sum), (51, i (if two && x.r.wantB then x.r.monB else x.r.monA))]
      ++ (if two then [(1, b.value), (52, i (if x.r.wantB then x.r.monA else x.r.monB))] else [])
      ++ (if r.kind = 2 ∨ 0 < x.sum then [(4, x.meas)] else [])
      -- S3 takes E_LAST where it forms no error (R112, R114)
      ++ [(5, if r.kind ≠ 0 ∧ x.measured then errorOf r.kind x.r.spWork x.meas else x.r.eLast)])
    ++ (if r.kind = 0 then
      [(6, ref), (46, x.iq.1), (47, x.iq.2), (49, refTwo f.refIdx)]
      ++ (if x.measured then [(28, dx), (29, shr (dx * ref) 8)] else [])
      ++ [(32, i (bits 1 (r.flag fSpoilt) + bits 2 x.measured))] else [])
    ++ [(7, r.demodAcc), (8, i r.demodCount), (9, i r.spTarget), (10, i r.spWork), (13, r.integ), (17, i r.codeND)
      , (18, 0), (19, i o.queue), (20, r.phiOut), (21, i r.flags)
      , (22, i (r.mode + 8 * ofBool o.soft + 16 * (o.cause.getD (d.faultCause e)))), (23, i r.feCount), (24, i r.settle)
      , (25, i lane), (26, tget 0 d.arr.zoneTemp r.zone), (27, x.curve.a1), (31, i r.mRef), (37, x.curve.lin r.phiFF)
      , (38, i x.r.codeND), (39, x.curve.a0), (40, x.curve.a2), (41, r.phiFF), (42, r.phiMin), (43, r.phiMax)
      , (44, i (r.codeSlew * x.step)), (45, i (r.spRate * x.step)), (48, optNat f.writeIdx)]
    ++ (match refit with | some v => [(50, v)] | none => [])
    ++ [(53, i r.zone), (54, i (n + 1)), (55, i clock), (56, i f.writes.length), (57, i r.manualCode), (58, i r.darkTh)
      , (59, i r.feLimit), (60, r.kp), (61, r.ki), (62, i (2 ^ r.demodLog2)), (63, i r.loopDelay)]

/-! ## What a completed update writes (S9) -/

/-- The words of a record that an update changed are written whole (R121). -/
def Mem.putChanged (m : Mem) : Nat → List Nat → Mem
  | _, [] => m
  | a, w :: l => (if m.word a = w then m else m.putWord a w).putChanged (a + 8) l

/-- SOFT_START and FAULT_CAUSE as an update leaves them: a field that does not change is not written. -/
def Dev.softTo (d : Dev) (e : Nat) (b : Bool) : Dev := if d.softStart e = b then d else d.setSoft e b
def Dev.causeTo (d : Dev) (e : Nat) (c : Option Nat) : Dev :=
  match c with
  | some c => if d.faultCause e = c then d else d.setCause e c .other
  | none => d

/-- A jump that was taken no longer waits (R219). -/
def Dev.jumpTaken (d : Dev) (e : Nat) (taken : Bool) : Dev := if taken then d.setJump e false .other else d

/-- A staged SP_RATE_LIMIT goes to its field of region 3 (R149). -/
def Dev.putRateLimit (d : Dev) (e : Nat) (writes : List Staged) : Dev :=
  match writtenTo writes .spRateLimit with
  | some v => d.setElemField e 16 16 v.toNat .other
  | none => d

/-- The fields of region 3 that an update writes. -/
def Dev.putElem (d : Dev) (f : Fetch) (o : UpdOut) (e : Nat) : Dev :=
  (((d.softTo e o.soft).causeTo e o.cause).jumpTaken e f.pending).putRateLimit e f.writes

/-- The engine's own lists after a completed update. -/
def Dev.settleLists (d : Dev) (f : Fetch) (e : Nat) : Dev :=
  let held := f.marked && (d.stagedOf e).any (fun s => isSetpoint s.field)
  d.setLoop (fun l => { l with
    staged := l.staged.filter (fun s => !f.writes.contains s)
    -- a line cause that a pending MODE write kept out acts with that write (R108, R149)
    lineElems := if f.later .mode then l.lineElems else l.lineElems.filter (fun p => p.1 ≠ e)
    fromHold := tset false l.fromHold e false
    recordHold := tset false l.recordHold e false, holdEnded := tset false l.holdEnded e false, heldBack := tset false l.heldBack e held
    softStart := if f.softDone then l.softStart.filter (fun p => p.1 ≠ e) else l.softStart
    updatesNow := l.updatesNow + 1 })

/-- A retry counts for the latest commit that marked the element: the jump still due is that one's (R222, R223). -/
def countRetry (e : Nat) : List (Nat × Armed) → List (Nat × Armed)
  | [] => []
  | p :: l =>
    if p.2.marked.contains e && !l.any (fun q => q.2.marked.contains e) then
      (p.1, { p.2 with retries := p.2.retries + 1 }) :: l
    else p :: countRetry e l

/-- The commit's lists after a completed update (R220, R223); an element that jumped makes no soft start (R362, R369). -/
def Dev.settleJump (d : Dev) (f : Fetch) (o : UpdOut) (e : Nat) : Dev :=
  let c := d.circ
  let u := d.ticks + (if o.r.delay2 then 2 else 1) + 2
  { d with
    loop := { d.loop with softStart := if o.jumped then d.loop.softStart.filter (fun p => p.1 ≠ e) else d.loop.softStart }
    circ := { c with
    jumpDue := if f.marked || f.taken then c.jumpDue.filter (fun p => p.1 ≠ e) else c.jumpDue
    jumpHold := if o.jumped then tins c.jumpHold e u else c.jumpHold
    committing := if o.jumped && f.retry then countRetry e c.committing else c.committing } }

/-- Measurements of a sweep's points (R175), and the largest A and B (R178); an update without measurement for its slot's sake
(R59, R220) gives none. -/
def Dev.sweepSample (d : Dev) (f : Fetch) (e : Nat) : Dev :=
  let x := f.inp
  { d with cal := { d.cal with sweeps := d.cal.sweeps.map (fun s =>
      let o := d.ticks - s.start
      if s.elem = e ∧ x.allValid ∧ x.blocked = false ∧ s.phase = .sweeping ∧ 71 ≤ o ∧ (o - 71) % 15 < 8 ∧ (o - 71) / 15 < 128 ∧ (x.r.kind = 2 ∨ 0 < x.sum) then
        { s with points := s.points ++ [((o - 71) / 15, if x.r.kind = 2 then x.wanted.value else x.meas)]
                 maxA := max s.maxA x.wanted.value, maxB := max s.maxB x.other.value }
      else s) } }

/-- The refit accumulator's addition, in a spare issue slot (R179). -/
def Dev.refitAdd (d : Dev) (f : Fetch) (o : UpdOut) (e : Nat) : Option Int × Dev :=
  match d.cal.refits.find? (fun w => w.elem = e) with
  | none => (none, d)
  | some w =>
    let x := f.inp
    if x.r.kind = 0 ∧ x.r.dither ∧ o.measured then
      let acc := w.acc + (x.meas - x.r.mRef) * refTwo f.refIdx
      let d := d.takeSpare 1
      (some acc, { d with cal := { d.cal with refits := d.cal.refits.map (fun y =>
        if y.elem = e then { y with acc := acc, updates := y.updates + 1 } else y) } })
    else (some w.acc, d)

/-- Events and trace triggers of a completed update (R124, R138, R140, R153). Of several triggers that one update raises the lowest
source number is first, and so wins (DESIGN CHOICE, log entry 105). -/
def Dev.updateEvents (d : Dev) (f : Fetch) (o : UpdOut) (n e : Nat) : Dev :=
  let d := d.raiseIf o.notAuto .commitElementNotAuto [e]
  let d := if o.feFault then d.raise .elementFault [65536 + e, code 32 o.r.eLast, o.r.feLimit] else d
  let d := d.setLoop (fun l => { l with
    darkIn := if o.darkIn then l.darkIn ++ [e] else l.darkIn, darkOut := if o.darkOut then l.darkOut ++ [e] else l.darkOut })
  let faulted : Bool := match o.cause with | some c => c ≠ 0 | none => false
  let g := d.trace.capturing
  let d := if d.trace.elems.contains e then
      let d := if faulted then d.traceSource 1 e n g else d
      let d := if o.darkIn then d.traceSource 2 e n g else d
      let d := if o.feOver && !f.inp.r.flag fFeOver then d.traceSource 3 e n g else d
      if o.jumped then d.traceSource 4 e n g else d
    else d
  if faulted then d.traceSource 5 e n g else d

/-- A completed update's effects. -/
def Dev.writeBack (d : Dev) (f : Fetch) (n j lane clock e : Nat) : Dev :=
  let o := f.inp.update.withheld f.inp.r f.later
  let r := d.refitAdd f o e
  let d := r.2
  let d := d.traceEntry e 0 j (f.nodes d o n lane clock e r.1)
  let d := d.mem (fun m => m.putChanged (recAddr e) o.r.words)
  let d := d.queueCode (siteCol o.r.drive) j o.queue false
  let d := d.putElem f o e
  let d := d.sweepSample f e
  let d := (d.settleLists f e).settleJump f o e
  let d := match o.reverse with | some c => d.requestReverse e c o.r.mode | none => d
  (d.takeWord e).updateEvents f o n e

/-- The record after staged writes that no update carries: the fields, SP_RATE with its mark, the mode (any transfer sets SETTLE_COUNT
to 0, R147; a mode leaves FAULT with FE_COUNT 0), and SETTLED as it then is (R148). -/
def Dev.writtenRec (d : Dev) (e : Nat) (writes : List Staged) : Rec :=
  let r : Rec := each writes (fun s r => r.setField s.field s.v) (d.record e)
  let lim := match writtenTo writes .spRate with | some v => (65535 < v : Bool) | none => false
  let r := if lim then r.setFlag fSlewLimited true else r
  let r : Rec := match writtenTo writes .mode with
    | some v =>
      let m := if r.mode = 3 ∧ v = 0 then 3 else v.toNat
      { r with mode := m, feCount := if r.mode = 4 then 0 else r.feCount, settle := if m = r.mode then r.settle else 0 }
    | none => r
  r.judgeSettled d.cfg.loop.settleEntry

/-- In a STOPPED group nothing is queued: staged writes go to the record (R149), and a mode leaves FAULT with its cause. Those of an
element on record hold, or with a mark on its record, stay staged (R149). -/
def Dev.recordOnly (d : Dev) (e : Nat) : Dev :=
  let writes := d.dueWrites e
  if writes = [] ∨ d.recPoisoned e ∨ d.onHold e then d
  else
    let r := d.writtenRec e writes
    let leaves := (d.record e).mode = 4 ∧ (writtenTo writes .mode).isSome
    let d := d.mem (fun m => m.putChanged (recAddr e) r.words)
    let d := ((d.causeTo e (if leaves then some 0 else none)).softTo e (d.softStart e && r.mode = 0)).putRateLimit e writes
    d.setLoop (fun l => { l with staged := l.staged.filter (fun s => !writes.contains s) })

/-! ## The updates of a slot -/

/-- One update, issued on a lane (R104, R110, R126). -/
def Dev.updateElem (d : Dev) (env : SlotEnv) (n j lane clock e : Nat) : Dev :=
  let bad := env.residue.contains e
  if d.recPoisoned e || d.curvePoisoned e || tget false d.loop.holdLate e then
    let d := if bad then d.mismatch lane e else d
    d.enterHold n j e (d.firstPoison e)
  else if let some a := tfind env.latePoison e then
    let d := if bad then d.mismatch lane e else d
    let o := (d.fetch n j e).inp.update
    let d := d.queueCode (siteCol o.r.drive) j o.queue true
    let d := d.setLoop (fun l => { l with holdLate := tset false l.holdLate e true })
    (d.enterHold n j e a.toNat).askRebuild (recAddr e)
  else if bad then (((d.mismatch lane e).discard.retryJump e).traceEntry e 2 j [])
  else d.writeBack (d.fetch n j e) n j lane clock e

/-- The elements of a row in ascending column order. -/
def Dev.rowElems (d : Dev) (row : Nat) : List Nat :=
  let es := d.used.filter (fun e => siteRow (entryDrive (d.entry e)) = row)
  (List.range 256).flatMap (fun c => es.filter (fun e => siteCol (entryDrive (d.entry e)) = c))

/-- The updates that slot j issues (R15, R58, R104). -/
def Dev.updateSlot (d : Dev) (env : SlotEnv) (j : Nat) : Dev :=
  if d.loopActive && j < d.cyc.conf.rows then
    let n := d.cycleNo
    let es := d.rowElems (d.rowNext j)
    let d := each (es.filter d.parked) (fun e d => d.recordOnly e) d
    let issued := es.filter (fun e => !d.parked e && d.computes n e)
    let d := each (issued.zipIdx) (fun p d =>
      let l := d.laneFor n j p.2
      let d := d.updateElem env n j l.1 l.2 p.1
      if env.late.contains p.1 then d.makeLate j (siteCol (entryDrive (d.entry p.1))) else d) d
    -- the takeover is over when no soft start waits any more (R362)
    match d.loop.takeover with
    | some t => if t < d.ticks ∧ d.loop.softStart = [] then d.setLoop (fun l => { l with takeover := none }) else d
    | none => d
  else d

/-! ## SLOT -/

/-- Start of slot j after its tick in quarter-ns (R50). -/
def slotStart (c : CycleConf) (j : Nat) : Nat :=
  if c.slotLen = 0 then 4 * j * c.period / (c.rows + c.idle) else 4 * j * c.slotLen

/-- Network time moves to the start of a slot, in ns. -/
def Dev.toSlot (d : Dev) (j : Nat) : Dev :=
  let t := d.time.lastTick + slotStart d.cyc.conf j / 4
  let now := d.now
  if now < t ∧ t < d.time.nextTick then { d with time := { d.time.setNow t with up := d.time.up + (t - now) } } else d

/-- SLOT: the next slot of the present cycle; after the last one nothing is left to do until the tick. -/
def slot (env : SlotEnv) (d : Dev) : Dev :=
  let j := d.cyc.slot
  let c := d.cyc.conf
  if c.rows + c.idle ≤ j then d
  else
    let d := d.toSlot j
    let d := if j < c.rows then
        let d := d.monitorSlot j
        -- a device fault in the slot lets its drive complete (R92)
        let d := ((d.driveSlot j env).contentionSlot env).rowSlot j env
        d.updateSlot env j
      else d
    { d with cyc := { d.cyc with slot := j + 1 } }

def execSlot (env : SlotEnv) (s : State) : Host.Outcome State Fault Refusal := s.upd (slot env)

end Sys2Proof.Machine
end

