-- ==== Sys2Proof/Machine/Calib.lean ====
section
/-! DEFINITION. Calibration point sets and gradual entry, and the dark capture (R158 to R166). -/

namespace Sys2Proof.Machine

def Dev.setCal (d : Dev) (f : Calib → Calib) : Dev := { d with cal := f d.cal }
def Dev.setCalCfg (d : Dev) (f : CalCfg → CalCfg) : Dev := { d with cfg := { d.cfg with cal := f d.cfg.cal } }

/-! ## Point sets (R160) -/

/-- Point p of a set: its TP and its curve. -/
def setPoint (b : List Byte) (p : Nat) : Nat × Curve := (field b (72 + p) 1, curveOf ((b.drop (9 * p)).take 9))

/-- The used points of a set. -/
def usedPoints (b : List Byte) : List (Nat × Curve) := ((List.range 8).map (setPoint b)).filter (fun x => x.1 ≠ 127)

/-- Temperatures ascend strictly and no used point follows an unused one. -/
def ascending : List Nat → Bool
  | [] => true
  | [_] => true
  | a :: b :: l => (if a = 127 then b = 127 else a < b) && ascending (b :: l)

/-- The element's limits as they will stand after all staged writes. -/
def Dev.stagedLimits (d : Dev) (e : Nat) : Int × Int := ((d.stagedRec e).phiMin, (d.stagedRec e).phiMax)

/-- The checks of R160; a TP above 127 does not fit its 7 bits. -/
def Dev.pointSetOk (d : Dev) (e : Nat) (b : List Byte) : Bool :=
  let tps := (List.range 8).map (fun p => field b (72 + p) 1)
  let used := usedPoints b
  let l := d.stagedLimits e
  tps.all (fun t => t ≤ 127) && ascending tps && !(d.inUse e && used = []) && used.all (fun x => x.2.slopeOk l.1 l.2)

/-- A point set as plain numbers, and back. -/
def plainPoints (l : List (Nat × Curve)) : List (Nat × Int × Int × Int) := l.map (fun x => (x.1, x.2.a0, x.2.a1, x.2.a2))
def fromPlain (l : List (Nat × Int × Int × Int)) : List (Nat × Curve) := l.map (fun x => (x.1, ⟨x.2.1, x.2.2.1, x.2.2.2⟩))

/-- Word 9 of a calibration record: the eight TPs and the first byte of WA0 (R159). -/
def tpWord (tps : List Nat) (wa : Nat) : Nat := tps.foldl (fun a t => a * 128 + t % 128) 0 * 256 + wa % 256

/-- The set's words are written whole, which clears their marks; a mark on the working curve stays on it until entry has
formed it anew (R165). -/
def Dev.putPoints (d : Dev) (e : Nat) (b : List Byte) : Dev :=
  let tps := (List.range 8).map (fun p => field b (72 + p) 1)
  let bad := d.curvePoisoned e
  let marked := d.pointsPoisoned e
  let old := plainPoints (d.points e)
  let w9 := tpWord tps (d.calWord e 9)
  let d := d.mem (fun m =>
    let m := (m.putBlock (calAddr e) 9 (b.take 72)).putWord (calAddr e + 72) w9
    if bad then m.mark (calAddr e + 80) true else m)
  d.setCal (fun c => { c with
    calPoisoned := tset false c.calPoisoned e false
    overMark := if marked then c.overMark.filter (fun x => x ≠ e) ++ [e] else c.overMark
    renew := if bad then c.renew.filter (fun x => x ≠ e) ++ [e] else c.renew
    oldPoints := if (tfind c.oldPoints e).isSome then c.oldPoints else c.oldPoints ++ [(e, old)] })

/-- CAL_POINTS_WRITE. -/
def calPointsWrite (e : Nat) (b : List Byte) (d : Dev) : Resp × Dev :=
  if 32767 < e then (.noent, d)
  else if b.length ≠ 80 ∨ d.pointSetOk e b = false then (.invalid, d)
  else (.ok, d.putPoints e b)

def execCalPointsWrite (elem : BitVec 16) (points : List Byte) (s : State) : Host.Outcome State Fault Refusal :=
  s.ask (calPointsWrite elem.toNat points)

/-- CAL_POINTS as it reads (R183). -/
def Dev.calPoints (d : Dev) (e : Nat) : List Byte := d.pointBytes e ++ ((List.range 8).map (fun p => d.tp e p)).flatMap (be 1)

/-! ## Gradual entry (R161 to R165) -/

/-- The target that a check forms: a set written in this cycle does not yet count (R160). -/
def Dev.entryTarget (d : Dev) (e : Nat) : Curve :=
  match tfind d.cal.oldPoints e with
  | some l => targetOf (tget 0 d.arr.zoneTemp (d.record e).zone) (fromPlain l)
  | none => d.targetCurve e

def Dev.entryUsed (d : Dev) (e : Nat) : Bool :=
  match tfind d.cal.oldPoints e with
  | some l => l ≠ []
  | none => d.points e ≠ []

/-- Cases in which the working curve becomes the target without steps (R163). -/
def Dev.entersAtOnce (d : Dev) (e : Nat) : Bool :=
  d.loop.state = .stopped || !d.driving || !d.inUse e || !d.entryUsed e || d.cal.atOnce.contains e

/-- A changed working curve is written, which ends a hold for its mark's sake; where the effective mode was MANUAL, HOLD or FAULT it
asks for PHI_OUT anew (R110, R164). -/
def Dev.enterCurve (d : Dev) (e : Nat) (k : Curve) : Dev :=
  let m := if tget false d.loop.holdEnded e then 2 else d.modeNow e
  let d := (d.putWorking e k).setCal (fun c => { c with
    atOnce := c.atOnce.filter (fun x => x ≠ e), renew := c.renew.filter (fun x => x ≠ e) })
  let d := d.endHold e
  if m = 1 ∨ m = 2 ∨ m = 4 then d.requestReverse e (d.record e).codeND m else d

/-- A check of one element (R162, R164, R165): a mark on a point word stops entry. -/
def Dev.checkCurve (d : Dev) (e : Nat) : Dev :=
  let stale := (tfind d.cal.oldPoints e).isSome
  if d.pointsPoisoned e then
    if tget false d.cal.calPoisoned e then d
    else Dev.raise (d.setCal (fun c => { c with calPoisoned := tset false c.calPoisoned e true })) .calPoisoned
  else
    let bad := d.curvePoisoned e
    let w := d.workingCurve e
    let t := d.entryTarget e
    -- a marked curve is formed anew once a full write of the points asks for it
    if bad then (if stale || !d.cal.renew.contains e then d else d.enterCurve e t)
    else if d.cal.overMark.contains e then d
    else if w = t then d.setCal (fun c => { c with atOnce := c.atOnce.filter (fun x => x ≠ e) })
    else
      let r := d.record e
      d.enterCurve e (w.enter t d.cfg.cal.entrySlew r.phiFF r.phiOut (d.entersAtOnce e))

/-- Elements whose calibration record holds anything: a check of another changes nothing. -/
def heldRecords : Nat → List Nat → List Nat
  | _, [] => []
  | last, e :: l => if e + 1 = last then heldRecords last l else e :: heldRecords (e + 1) l

def Dev.calHeld (d : Dev) : List Nat :=
  let keys := (d.sram.cells.map (fun c => c.1)) ++ (d.sram.merge.map (fun m => m.word))
    ++ ((d.sram.poison.filter (fun p => p.2)).map (fun p => p.1))
  let inside := keys.filter (fun a => 0x200000 ≤ a && a < 0x200000 + 88 * 32768)
  (heldRecords 0 (inside.map (fun a => (a - 0x200000) / 88))).eraseDups

/-- The checks of the cycle that ends: at most one element per nanosecond of its period, cyclically (R162). -/
def Dev.curveChecks (d : Dev) : Dev :=
  let n := min d.period 32768
  let a := d.cal.checkNext
  let due := d.calHeld.filter (fun e => (a ≤ e && e < a + n) || e + 32768 < a + n)
  let d := each due (fun e d => d.checkCurve e) d
  d.setCal (fun c => { c with checkNext := (a + n) % 32768, oldPoints := [], overMark := [] })

/-- ENTRY_PENDING: elements whose working curve differs from the target. -/
def Dev.entryPending (d : Dev) : Nat := (d.calHeld.filter (fun e => d.workingCurve e ≠ d.targetCurve e)).length

/-! ## Dark capture (R166) -/

/-- A capture is due or runs. -/
def Dev.darkBusy (d : Dev) : Bool := d.cal.darkDue || d.cal.darkRun.isSome

def darkCapture (v : Nat) (d : Dev) : Resp × Dev :=
  if v ≠ 1 then (.invalid, d)
  else if d.circuits false ≠ [] ∨ d.darkBusy then (.conflict, d)
  else (.ok, d.setCal (fun c => { c with darkDue := true }))

def execDarkCapture (v : BitVec 8) (s : State) : Host.Outcome State Fault Refusal := s.ask (darkCapture v.toNat)

/-- A capture that is due starts at the tick. -/
def Dev.darkTick (d : Dev) : Dev :=
  if d.cal.darkDue then d.setCal (fun c => { c with darkDue := false, darkRun := some d.ticks, darkSums := [] }) else d

/-- DARK of a site whose VALID samples suffice; the others are counted. -/
def Dev.darkSite (d : Dev) (i : Nat) : Dev :=
  let p := tget (0, 0) d.cal.darkSums i
  if p.2 < 128 then d.setCal (fun c => { c with darkShort := c.darkShort + 1 })
  else
    let v := satI 16 (divAway p.1 p.2)
    let old := d.darkOf i
    -- the new value takes effect at the next tick (R69)
    (d.mem (fun m => m.putPart (darkAddr i) (be 2 (code 16 v)) .other false)).setRd (fun r => { r with
      oldDark := keepOld r.oldDark i old })

/-- DARK_CAPTURE_DONE: 256 cycles after its start, once their conversions have ended. -/
def darkCaptureDone (d : Dev) : Dev :=
  match d.cal.darkRun with
  | none => d
  | some t =>
    if d.ticks < t + 256 ∨ d.rd.conversions.any (fun x => x.tick < t + 256) then d
    else
      let d := d.setCal (fun c => { c with darkShort := 0, darkRun := none })
      let d := iter (fun m d => iter (fun c d => if d.monitorOn c then d.darkSite (256 * m + c) else d) 256 0 d) d.cyc.conf.rows 0 d
      d.setCal (fun c => { c with darkSums := [] })

def execDarkCaptureDone (s : State) : Host.Outcome State Fault Refusal := s.upd darkCaptureDone

/-! ## Settings (R183) -/

def entrySlewWrite (v : Nat) (d : Dev) : Resp × Dev :=
  if v < 2 then (.invalid, d) else (.ok, d.setCalCfg (fun c => { c with entrySlew := v }))
def driftOffsetWrite (v : Nat) (d : Dev) : Resp × Dev := (.ok, d.setCalCfg (fun c => { c with driftOffset := v }))
def driftGainWrite (v : Nat) (d : Dev) : Resp × Dev := (.ok, d.setCalCfg (fun c => { c with driftGain := v }))
def refitEnableWrite (v : BitVec 8) (d : Dev) : Resp × Dev := (.ok, d.setCalCfg (fun c => { c with refitEnable := v &&& 3 }))
def refitWindowWrite (v : Nat) (d : Dev) : Resp × Dev :=
  if v < 1024 ∨ 16384 < v then (.invalid, d) else (.ok, d.setCalCfg (fun c => { c with refitWindow := v }))
def refitA0MaxWrite (v : Nat) (d : Dev) : Resp × Dev := (.ok, d.setCalCfg (fun c => { c with refitA0Max := v }))
def refitDeadbandWrite (v : Nat) (d : Dev) : Resp × Dev := (.ok, d.setCalCfg (fun c => { c with refitDeadband := v }))
def refitSlopeTolWrite (v : Nat) (d : Dev) : Resp × Dev := (.ok, d.setCalCfg (fun c => { c with refitSlopeTol := v }))

end Sys2Proof.Machine
end

