-- ==== Sys2Proof/Machine/Sweep.lean ====
section
/-! DEFINITION. Element sweeps and small-signal refits (R174 to R181), and the forwarding of point sets (R182). -/

namespace Sys2Proof.Machine

def Dev.isSwept (d : Dev) (e : Nat) : Bool := d.cal.sweeps.any (fun s => s.elem = e)
def Dev.isQueued (d : Dev) (e : Nat) : Bool := d.cal.sweepQueue.any (fun p => p.1 = e)

/-! ## Requests and starts (R174, R175) -/

/-- SWEEP_REQUEST. -/
def sweepRequest (e : Nat) (force : Bool) (d : Dev) : Resp × Dev :=
  if !d.inUse e ∨ entryKind (d.entry e) = 3 then (.invalid, d)
  else if d.anyLineCause (d.record e) ∨ d.isQueued e ∨ d.isSwept e then (.conflict, d)
  else if !force ∧ (d.carries false e ∨ d.carries true e) then (.conflict, d)
  else if 256 ≤ d.cal.sweepQueue.length then (.busy, d)
  else (.ok, d.setCal (fun c => { c with sweepQueue := c.sweepQueue ++ [(e, force)] }))

def execSweepRequest (elem : BitVec 16) (force : Bool) (s : State) : Host.Outcome State Fault Refusal :=
  s.ask (sweepRequest elem.toNat force)

def sweepRequestWrite (b : List Byte) (d : Dev) : Resp × Dev :=
  sweepRequest (field b 0 2) (bit (field b 2 1) 0) d

/-- SWEEP_START: at a tick at which fewer than 64 run, the first of the queue. -/
def sweepStart (d : Dev) : Dev :=
  match d.cal.sweepQueue with
  | [] => d
  | (e, force) :: l =>
    if 64 ≤ d.cal.sweeps.length ∨ d.cyc.slot ≠ 0 then d
    else
      let onCircuit : Bool := force && (d.carries false e || d.carries true e)
      let d := d.setCal (fun c => { c with
        sweepQueue := l, sweeps := c.sweeps ++ [{ elem := e, start := d.ticks, code0 := (d.record e).codeND }] })
      d.raiseIf onCircuit .sweepForcedOnCircuit

def execSweepStart (s : State) : Host.Outcome State Fault Refusal := s.upd sweepStart

/-- A sweep whose 128 points are written goes back at 1,984 cycles (R175); the tick's part. -/
def Dev.sweepTick (d : Dev) : Dev :=
  d.setCal (fun c => { c with sweeps := c.sweeps.map (fun s =>
    if s.phase = .sweeping ∧ (s.cancelled ∨ s.start + 1984 ≤ d.ticks) then { s with phase := .returning, back := d.ticks } else s) })

/-! ## The fit (R176, R178) -/

/-- TP of the present zone temperature. -/
def tempCode (t : Int) : Nat :=
  if -2000 ≤ t ∧ t ≤ 10600 then (openQuot t 100 + 20).toNat else Config.tempCode t % 127

/-- Where a new point goes: the point of the same TP, an unused one, or the one of nearest temperature, the lower on a tie. -/
def nearestPoint (tp : Nat) : List (Nat × Curve) → Option Nat
  | [] => none
  | p :: l =>
    match nearestPoint tp l with
    | none => some p.1
    | some q => if Int.natAbs ((q : Int) - tp) < Int.natAbs ((p.1 : Int) - tp) then some q else some p.1

/-- A point among points that ascend. -/
def insertPoint (x : Nat × Curve) : List (Nat × Curve) → List (Nat × Curve)
  | [] => [x]
  | p :: l => if x.1 < p.1 then x :: p :: l else p :: insertPoint x l

/-- The set with a new point (R176). -/
def withPoint (pts : List (Nat × Curve)) (tp : Nat) (k : Curve) : List (Nat × Curve) :=
  let rest := if pts.any (fun p => p.1 = tp) then pts.filter (fun p => p.1 ≠ tp)
    else if pts.length < 8 then pts
    else match nearestPoint tp pts with
      | some q => pts.filter (fun p => p.1 ≠ q)
      | none => pts
  insertPoint (tp, k) rest

/-- A set of used points in the 80 bytes of CAL_POINTS. -/
def pointSet (pts : List (Nat × Curve)) : List Byte :=
  fit 72 (pts.flatMap (fun p => p.2.bytes)) ++ (pts.map (fun (p : Nat × Curve) => (BitVec.ofNat 8 p.1 : Byte)) ++ List.replicate 8 127).take 8

/-- The points of a sweep that hold a VALID sample, each with the mean of its measurements (R175); rounding is not stated. -/
def Sweep.means (s : Sweep) : List (Nat × Int) :=
  ((s.points.map (fun p => p.1)).eraseDups).map (fun i =>
    let xs := (s.points.filter (fun p => p.1 = i)).map (fun p => p.2)
    (i, openQuot xs.sum xs.length))

def sampledPoints (s : Sweep) : Nat := s.means.length

/-- Extremes of the response. -/
def highest (l : List (Nat × Int)) : Int := (l.map (fun p => p.2)).foldl max ((l.head?.map (fun p => p.2)).getD 0)
def lowest (l : List (Nat × Int)) : Int := (l.map (fun p => p.2)).foldl min ((l.head?.map (fun p => p.2)).getD 0)

/-- Arccosine of a / b, |a| at most b, in phase units: 0 at the maximum, 32,768 at the minimum, and else between the two steps of the
sine table that enclose it. -/
def arccosUnits (a b : Int) : Int :=
  if b ≤ a then 0 else if a ≤ -b then 32768 else
  let k := (List.range 512).foldl (fun k j => if 32767 * a ≤ b * sine (j + 1 + 256) then j + 1 else k) 0
  min 32768 (64 * (k : Int) + (Config.sweepFine a b % 65 : Nat))

/-- The least number from v on that leaves the remainder r by a turn. -/
def nextTurn (v r : Int) : Int := v + (r - v) % 65536

/-- Points around place i, from 3 before it to 3 after it. -/
def around (l : List (Nat × Int)) (i : Nat) : List Int := ((l.take (i + 4)).drop (i - 3)).map (fun p => p.2)

/-- Places at which a run of values turns. -/
def turns : List Int → Nat
  | a :: b :: c :: l => (if (a < b) = (b < c) ∧ (b < a) = (c < b) then 0 else 1) + turns (b :: c :: l)
  | _ => 0

/-- The response falls at place i (R176): the points beside it say so. At a point that is itself highest or lowest among them, and
where the response turns more than once within 3 points, so that noise cannot be told from a turn, the manual states no rule and the
side is free. -/
def fallsAt (l : List (Nat × Int)) (i : Nat) : Bool :=
  let v (k : Nat) : Option Int := (l[k]?).map (fun p => p.2)
  let before := if i = 0 then none else v (i - 1)
  let here := (v i).getD 0
  let down := before.all (fun x => here < x) && (v (i + 1)).all (fun x => x < here)
  let up := before.all (fun x => x < here) && (v (i + 1)).all (fun x => here < x)
  if turns (around l i) ≤ 1 ∧ down ≠ up then down else Config.sweepFalling l i

/-- Phase rises with code (R176): each point's phase is the first from the last one on that has its cosine on its side of the
extreme. Operands: all points, the place, the phase before. -/
def unwrap (all : List (Nat × Int)) (hi lo : Int) : Nat → Option Int → List (Nat × Int) → List (Int × Int)
  | _, _, [] => []
  | i, before, p :: l =>
    let c := arccosUnits (2 * p.2 - hi - lo) (hi - lo)
    let side := if fallsAt all i then c else -c
    let v := match before with
      | some u => nextTurn u side
      | none => side
    (129 * (p.1 : Int), v) :: unwrap all hi lo (i + 1) (some v) l

/-- Code and phase of a sweep's points (R176 steps 1 and 2): phase 0 at the lowest-code maximum, or half a turn before a minimum
where the sweep holds no maximum. A response without extremes has no phases. -/
def sweepPhases (l : List (Nat × Int)) : List (Int × Int) :=
  let hi := highest l
  let lo := lowest l
  if hi ≤ lo then []
  else
    let u := unwrap l hi lo 0 none l
    let first := (u.head?.map (fun p => p.2)).getD 0
    let last := (u.getLast?.map (fun p => p.2)).getD 0
    let top := nextTurn first 0
    let zero := if top ≤ last then top else top - 65536
    u.map (fun p => (p.1, p.2 - zero))

/-- Phase span of a sweep. -/
def sweepSpan (l : List (Int × Int)) : Int := (l.getLast?.map (fun p => p.2)).getD 0 - (l.head?.map (fun p => p.2)).getD 0

/-- A determinant of order 3, by rows. -/
def det3 (a b c d e f g h i : Int) : Int := a * (e * i - f * h) - b * (d * i - f * g) + c * (d * h - e * g)

/-- Least-squares fit of code by phase (R176 step 3), in the units of R109: rounding is not stated, and a coefficient beyond its
signed 24 bits is limited to them (DESIGN CHOICE, log entry 107). -/
def sweepCurveOf (l : List (Int × Int)) : Curve :=
  let s (k : Nat) : Int := (l.map (fun p => p.2 ^ k)).sum
  let t (k : Nat) : Int := (l.map (fun p => p.1 * p.2 ^ k)).sum
  let den := det3 (s 0) (s 1) (s 2) (s 1) (s 2) (s 3) (s 2) (s 3) (s 4)
  if den = 0 then let k := Config.sweepFit l; ⟨satI 24 k.1, satI 24 k.2.1, satI 24 k.2.2⟩
  else
    ⟨satI 24 (openQuot (2 ^ 8 * det3 (t 0) (s 1) (s 2) (t 1) (s 2) (s 3) (t 2) (s 3) (s 4)) den),
     satI 24 (openQuot (2 ^ 20 * det3 (s 0) (t 0) (s 2) (s 1) (t 1) (s 3) (s 2) (t 2) (s 4)) den),
     satI 24 (openQuot (2 ^ 40 * det3 (s 0) (s 1) (t 0) (s 1) (s 2) (t 1) (s 2) (s 3) (t 2)) den)⟩

def sweepCurve (s : Sweep) : Curve := sweepCurveOf (sweepPhases s.means)

/-- Largest residual of the fit in 2^-20 LSB, and the span of the codes it is a share of (DEDUCED, log entry 68: the residual of a
fit of code by phase is a code). -/
def sweepMiss (l : List (Int × Int)) (k : Curve) : Int := (l.map (fun p => ((p.1 * 2 ^ 20 - k.sum p.2).natAbs : Int))).foldl max 0
def codeSpan (l : List (Int × Int)) : Int := (l.getLast?.map (fun p => p.1)).getD 0 - (l.head?.map (fun p => p.1)).getD 0

/-- A quotient in a U16; what stands there for one that does not exist or does not fit, no rule states. -/
def share (which : Nat) (a b : Int) : Nat :=
  if 0 < b ∧ 0 ≤ openQuot a b ∧ openQuot a b ≤ 65535 then (openQuot a b).toNat else (Config.sweepWide which a b).toNat

/-- RESIDUAL, VISIBILITY and RESP_RATIO (R178). -/
def Sweep.residual (s : Sweep) : Nat :=
  let l := sweepPhases s.means
  share 0 (10000 * sweepMiss l (sweepCurve s)) (codeSpan l * 2 ^ 20)
def Sweep.visibility (s : Sweep) : Nat := share 1 (65536 * (highest s.means - lowest s.means)) (highest s.means + lowest s.means)
def Sweep.ratio (s : Sweep) : Nat := share 2 (4096 * s.maxA) s.maxB

/-- How a fit ends: OK, or the first of its conditions that does not hold, in the order in which R176 lists them. -/
def Dev.sweepJudge (d : Dev) (s : Sweep) : Nat :=
  let l := d.stagedLimits s.elem
  if sampledPoints s < 96 then 3
  else if sweepSpan (sweepPhases s.means) < 49152 then 6
  else if codeSpan (sweepPhases s.means) * 2 ^ 20 < 500 * sweepMiss (sweepPhases s.means) (sweepCurve s) then 4
  else if (sweepCurve s).slopeOk l.1 l.2 = false then 5
  else 0

def SweepResult.bytes (r : SweepResult) : List Byte :=
  be 2 r.elem ++ be 1 r.status ++ be 1 r.tempCode ++ be 1 r.used ++ be 1 r.index ++ be 2 r.residual ++ be 2 r.visibility
    ++ be 2 r.ratio ++ (Curve.mk r.a0 r.a1 r.a2).bytes ++ be 3 0

def Dev.putResult (d : Dev) (e : Nat) (r : SweepResult) : Dev :=
  d.setCal (fun c => { c with sweepResult := tset {} c.sweepResult e r })

/-- Firmware writes a point set under the checks of R160; the driving unit forwards it (R182). -/
def Dev.firmwarePoints (d : Dev) (e : Nat) (pts : List (Nat × Curve)) : Bool × Dev :=
  let b := pointSet pts
  if d.pointsPoisoned e ∨ d.pointSetOk e b = false then (false, d)
  else
    let d := d.putPoints e b
    (true, if d.driving then d.setCal (fun c => { c with forward := c.forward.filter (fun x => x ≠ e) ++ [e] }) else d)

/-- The element of a sweep that ends goes on: the working curve is its target (R163), and AUTO resumes by soft start from 0. -/
def Dev.resumeSwept (d : Dev) (e : Nat) : Dev :=
  let d := if d.pointsPoisoned e ∨ (d.curvePoisoned e ∧ !d.cal.renew.contains e) ∨ (!d.curvePoisoned e ∧ d.workingCurve e = d.targetCurve e) then d
    else (d.setCal (fun c => { c with oldPoints := c.oldPoints.filter (fun p => p.1 ≠ e), overMark := c.overMark.filter (fun x => x ≠ e) })).enterCurve e (d.targetCurve e)
  if (d.record e).mode = 0 then d.setLoop (fun l => { l with softStart := l.softStart.filter (fun p => p.1 ≠ e) ++ [(e, 0)] }) else d

/-- SWEEP_END: when the return move's 64 cycles have passed. A fit that meets every condition but cannot be stored, because a mark lies
on the element's point words or because the set fails R160, is reported as 5 FAILED_SLOPE (DESIGN CHOICE, log entry 68).
 Of a result without a fit R178 does not say what POINTS_USED, RESIDUAL,
VISIBILITY, RESP_RATIO and CURVE hold: they read 0 in a CANCELLED and in an ABORTED_COMMIT result (DESIGN CHOICE, log entry 107). -/
def sweepEnd (e : Nat) (d : Dev) : Dev :=
  match d.cal.sweeps.find? (fun s => s.elem = e) with
  | none => d
  | some s =>
    if s.phase = .returning ∧ s.back + 64 ≤ d.ticks ∧ d.cyc.slot = 0 then
      let d := d.setCal (fun c => { c with sweeps := c.sweeps.filter (fun s => s.elem ≠ e) })
      let tp := tempCode (tget 0 d.arr.zoneTemp (d.record e).zone)
      if s.cancelled then (d.putResult e { elem := e, status := 2, tempCode := tp, index := 0xFF }).resumeSwept e
      else
        let k := sweepCurve s
        let verdict := d.sweepJudge s
        let pts := withPoint (d.points e) tp k
        let w := if verdict = 0 then d.firmwarePoints e pts else (false, d)
        let status := if verdict = 0 ∧ w.1 = false then 5 else verdict
        let r : SweepResult := {
          elem := e, status := status, tempCode := tp, used := sampledPoints s
          index := if w.1 then ((pts.map (fun p => p.1)).idxOf tp) else 0xFF
          residual := s.residual, visibility := s.visibility
          ratio := if (d.record e).monBEn then s.ratio else 0, a0 := k.a0, a1 := k.a1, a2 := k.a2 }
        (w.2.putResult e r).resumeSwept e
    else d

def execSweepEnd (elem : BitVec 15) (s : State) : Host.Outcome State Fault Refusal := s.upd (sweepEnd elem.toNat)

/-- SWEEP_CANCEL (R177): a queued sweep is dropped, a running one goes back from the next tick, and one on its way back ends
without a fit. -/
def sweepCancel (e : Nat) (d : Dev) : Resp × Dev :=
  if d.isQueued e then
    (.ok, (d.setCal (fun c => { c with sweepQueue := c.sweepQueue.filter (fun p => p.1 ≠ e) })).putResult e
      { elem := e, status := 2, tempCode := tempCode (tget 0 d.arr.zoneTemp (d.record e).zone), index := 0xFF })
  else if d.isSwept e then
    (.ok, d.setCal (fun c => { c with sweeps := c.sweeps.map (fun s =>
      if s.elem = e then { s with cancelled := true } else s) }))
  else (.noent, d)

def execSweepCancel (elem : BitVec 16) (s : State) : Host.Outcome State Fault Refusal := s.ask (sweepCancel elem.toNat)

/-- SWEEP_ABORT_COMMIT (R177): a marked element's sweep is abandoned at the arming point. -/
def Dev.abortSweep (d : Dev) (e : Nat) : Dev :=
  if d.isSwept e then
    (d.setCal (fun c => { c with
      sweeps := c.sweeps.filter (fun s => s.elem ≠ e), atOnce := c.atOnce.filter (fun x => x ≠ e) ++ [e] })).putResult e
      { elem := e, status := 1, tempCode := tempCode (tget 0 d.arr.zoneTemp (d.record e).zone), index := 0xFF }
  else d

/-- SWEEP_STATE: 0 NONE, 1 QUEUED, 2 SWEEPING, 3 RETURNING. -/
def Dev.sweepState (d : Dev) (e : Nat) : Nat :=
  match d.cal.sweeps.find? (fun s => s.elem = e) with
  | some s => if s.phase = .returning then 3 else 2
  | none => if d.isQueued e then 1 else 0

/-! ## Refits (R179 to R181) -/

/-- An element that a window may run on. -/
def Dev.refitFit (d : Dev) (e : Nat) : Bool :=
  let r := d.record e
  d.loop.state = .running && r.mode = 0 && r.flag fSettled && r.kind ≤ 1 && !d.isSwept e

/-- A window goes on: the element is settled, its working curve is its target, and no commit marks it. -/
def Dev.refitHolds (d : Dev) (e : Nat) : Bool :=
  d.refitFit e && d.workingCurve e = d.targetCurve e && (tfind d.circ.jumpDue e).isNone
    && !(match d.circ.armed with
      | some a => a.marked.contains e
      | none => false)

/-- The tick's part: windows that cannot be judged close, and free places go to the next eligible elements, cyclically. -/
def Dev.refitTick (d : Dev) : Dev :=
  if d.cfg.cal.refitEnable = 0 then d.setCal (fun c => { c with refits := [] })
  else
    let kept := d.cal.refits.filter (fun w => d.refitHolds w.elem)
    let from_ := d.cal.refitNext
    let us := d.used.filter (fun e => !kept.any (fun w => w.elem = e) && d.refitHolds e)
    let order := us.filter (fun e => from_ ≤ e) ++ us.filter (fun e => e < from_)
    let new := order.take (256 - kept.length)
    d.setCal (fun c => { c with
      refits := kept ++ new.map (fun e => { elem := e, start := d.ticks })
      refitNext := match new.getLast? with | some e => e + 1 | none => c.refitNext })

/-- Positions of the points that bracket a temperature, or of the single end point in use (R180). -/
def bracketing (tz : Int) (pts : List (Nat × Curve)) : List Nat :=
  let temp (p : Nat × Curve) : Int := 100 * ((p.1 : Int) - 20)
  match (pts.filter (fun p => temp p ≤ tz)).length with
  | 0 => [0]
  | n + 1 => if n = 0 ∧ pts.any (fun p => temp p = tz) then [0] else if n + 1 = pts.length then [n] else [n, n + 1]

/-- The points at some positions changed. -/
def mapAt (l : List Nat) (f : Curve → Curve) (pts : List (Nat × Curve)) : List (Nat × Curve) :=
  pts.zipIdx.map (fun p => if l.contains p.2 then (p.1.1, f p.1.2) else p.1)

/-- A run of corrections limited in one direction: the eighth raises REFIT_LIMITED (R181). -/
def Dev.noteLimited (d : Dev) (k : Nat) (dir : Int) : Dev :=
  let old := tget 0 d.cal.limited k
  let n : Int := if dir = 0 then 0 else if 0 < old * dir then old + dir else dir
  let d := d.setCal (fun c => { c with limited := tset 0 c.limited k (if n.natAbs = 8 then 0 else n) })
  d.raiseIf (n.natAbs = 8) .refitLimited

/-- The offset correction in LSB, before its limit. -/
def Dev.refitOffset (d : Dev) (e : Nat) : Int := ((d.record e).codeND : Int) - (d.workingCurve e).lin (d.record e).phiFF

/-- A curve scaled by num / den with its code at phi kept (R181). A coefficient that a refit takes beyond its signed 24 bits is
limited to them, here and in the offset refit (DESIGN CHOICE, log entry 108: the spec does not say what becomes of it). -/
def Curve.rescale (k : Curve) (num den phi : Int) : Curve :=
  let a1 := openQuot (k.a1 * num) den
  let a2 := openQuot (k.a2 * num) den
  let rest (a b : Int) : Int := a * phi + shr (b * phi * phi) 20
  ⟨satI 24 (k.a0 + openQuot (rest k.a1 k.a2 - rest a1 a2) (2 ^ 12)), satI 24 a1, satI 24 a2⟩

/-- The ratio n / m of the slope refit, limited to 0.99 to 1.01, and which limit acted. -/
def slopeRatio (n m : Int) : Int × Int × Int :=
  if 100 * n < 99 * m then (99, 100, -1) else if 101 * m < 100 * n then (101, 100, 1) else (n, m, 0)

/-- The measured slope s of R181 in 2^-20 LSB per phase unit, from accumulator, updates, tone amplitude and VISIBILITY in 2^-16:
s * s = pi * pi * A * A * V * updates * 32,767 * 64 / accumulator, with pi * pi to ten digits; rounding is not stated, nor s where
the accumulator is not above 0. -/
def measuredSlope (acc : Int) (n amp v : Nat) : Int :=
  if acc ≤ 0 then Config.measuredSlope acc n amp v
  else rootBits (9869604401 * amp * amp * v * n * 32767 * 64 / (1000000000 * acc.toNat)) 32 0 + (if Config.slopeUp acc n amp v then 1 else 0)

/-- Tone amplitude of an element's generator, and VISIBILITY of its last sweep (65,536 for none). -/
def Dev.refitSlope (d : Dev) (e : Nat) (w : Refit) : Int :=
  let v := (tget {} d.cal.sweepResult e)
  measuredSlope w.acc w.updates (d.tone (d.record e).tone).amplitude (if v.visibility = 0 then 65536 else v.visibility)

/-- The offset refit (R180): the points that bracket the element's zone move by the clamped drift, if that passes the dead band. -/
def Dev.refitA0 (d : Dev) (e : Nat) (pts : List (Nat × Curve)) : List (Nat × Curve) × Dev :=
  if d.cfg.cal.refitEnable.getLsbD 0 then
    let delta := d.refitOffset e
    let lim : Int := d.cfg.cal.refitA0Max
    let off : Bool := d.cfg.cal.refitDeadband < delta.natAbs
    let d0 := clampI (-lim) lim delta
    let d := d.noteLimited (2 * e) (if off ∧ d0 ≠ delta then (if 0 < delta then 1 else -1) else 0)
    (if off then mapAt (bracketing (tget 0 d.arr.zoneTemp (d.record e).zone) pts) (fun c => { c with a0 := satI 24 (c.a0 + 256 * d0) }) pts
      else pts, d)
  else (pts, d)

/-- The slope refit (R181). The working slope a1 + 2 a2 PHI_OUT is rounded down to units of a1 and compared by its magnitude,
since s carries no sign (DESIGN CHOICE, log entry 108). -/
def Dev.refitA1 (d : Dev) (e : Nat) (w : Refit) (pts : List (Nat × Curve)) : List (Nat × Curve) × Dev :=
  let r := d.record e
  if d.cfg.cal.refitEnable.getLsbD 1 ∧ r.kind = 0 ∧ r.dither then
    let s := d.refitSlope e w
    let ws : Int := (shr ((d.workingCurve e).slope r.phiOut) 19).natAbs
    let slope : Bool := (d.cfg.cal.refitSlopeTol : Int) * ws < 1000 * (s - ws).natAbs
    let q := slopeRatio s ws
    let d := d.noteLimited (2 * e + 1) (if slope then q.2.2 else 0)
    (if slope then mapAt (bracketing (tget 0 d.arr.zoneTemp r.zone) pts) (fun c => c.rescale q.1 q.2.1 r.phiOut) pts else pts, d)
  else (pts, d)

/-- Points that a refit changed are written and counted. -/
def Dev.refitStore (d : Dev) (e : Nat) (pts : List (Nat × Curve)) : Dev :=
  if pts = d.points e then d
  else
    let x := d.firmwarePoints e pts
    if x.1 then x.2.setCal (fun c => { c with refitCount := tset 0 c.refitCount e (tget 0 c.refitCount e + 1) }) else x.2

/-- REFIT_WINDOW_CLOSE: at the end of REFIT_WINDOW cycles firmware applies both refits, in a spare slot (R106). -/
def refitWindowClose (e : Nat) (d : Dev) : Dev :=
  match d.cal.refits.find? (fun w => w.elem = e) with
  | none => d
  | some w =>
    if d.ticks < w.start + d.cfg.cal.refitWindow then d
    else
      let ok := d.refitHolds e
      let d := d.setCal (fun c => { c with refits := c.refits.filter (fun x => x.elem ≠ e) })
      if !ok then d
      else
        let a := (d.takeSpare 1).refitA0 e (d.points e)
        let b := a.2.refitA1 e w a.1
        b.2.refitStore e b.1

def execRefitWindowClose (elem : BitVec 15) (s : State) : Host.Outcome State Fault Refusal :=
  s.upd (refitWindowClose elem.toNat)

end Sys2Proof.Machine
end

