-- ==== Sys2Proof/Machine/LabelTable.lean ====
section
/-! DEFINITION. The Label Table: entries, lookups, commands one per cycle, result records, the aging sweep and the learn
notification queue (R239 to R247, R250). -/

namespace Sys2Proof.Machine

def Dev.setLab (d : Dev) (f : LabelTable → LabelTable) : Dev := { d with lab := f d.lab }

/-! ## Entries (R241, R242) -/

structure LabelEntry where
  key : Nat := 0
  port : Nat := 0
  valid : Bool := false
  static : Bool := false
  stale : Bool := false
  hit : Bool := false
  level : Nat := 0
deriving DecidableEq, Repr

def LabelEntry.word (e : LabelEntry) : Nat :=
  e.key % 2 ^ 24 * 2 ^ 40 + e.port % 1024 * 2 ^ 30 + ofBool e.valid * 2 ^ 29 + ofBool e.static * 2 ^ 28
    + ofBool e.stale * 2 ^ 27 + ofBool e.hit * 2 ^ 26 + e.level % 65536

def entryOf (w : Nat) : LabelEntry := {
  key := bitsOf w 40 24, port := bitsOf w 30 10, valid := bit w 29, static := bit w 28, stale := bit w 27, hit := bit w 26
  level := bitsOf w 0 16 }

def Dev.labelPoison (d : Dev) (p : Nat) : Bool := d.sram.poisoned (labelAddr p)
def Dev.labelEntry (d : Dev) (p : Nat) : LabelEntry := entryOf (d.sram.word (labelAddr p))

/-- A position that holds an entry: a poisoned word holds none that can be read. -/
def Dev.holds (d : Dev) (p : Nat) : Bool := (d.labelEntry p).valid && !d.labelPoison p

def Dev.putLabel (d : Dev) (p : Nat) (e : LabelEntry) : Dev := d.mem (fun m => m.putWord (labelAddr p) e.word)
def Dev.clearLabel (d : Dev) (p : Nat) : Dev := d.putLabel p {}

/-- A key's bucket, and the positions a lookup searches: its bucket and the whole overflow store. -/
def bucketOf (key : Nat) : Nat := bitsOf key 0 11 ^^^ bitsOf key 11 11 ^^^ (bitsOf key 22 2 * 512)
def bucketPositions (b : Nat) : List Nat := (List.range 4).map (fun w => 4 * b + w)
def overflowPositions : List Nat := (List.range 512).map (fun i => 8192 + i)
def searched (key : Nat) : List Nat := bucketPositions (bucketOf key) ++ overflowPositions

/-- Position of a key. -/
def Dev.findLabel (d : Dev) (key : Nat) : Option Nat :=
  (searched key).find? (fun p => d.holds p && (d.labelEntry p).key = key)

/-- A lookup of the key meets a poisoned word. -/
def Dev.lookupPoison (d : Dev) (key : Nat) : Bool := (searched key).any d.labelPoison

/-- Lowest free way of the key's bucket, or lowest free overflow position. -/
def Dev.freeLabel (d : Dev) (key : Nat) : Option Nat := (searched key).find? (fun p => !(d.labelEntry p).valid && !d.labelPoison p)

/-- Positions that hold entries: the table is scanned only where memory lists anything. -/
def Dev.labelPositions (d : Dev) : List Nat :=
  let keys := d.sram.cells.map (fun c => c.1) ++ d.sram.merge.map (fun m => m.word)
  let inside := keys.filter (fun a => 0x560000 ≤ a && a < 0x571000)
  ((inside.map (fun a => (a - 0x560000) / 8)).eraseDups).filter d.holds

/-- The positions in rising order. -/
def Dev.labelsRising (d : Dev) : List Nat :=
  let l := d.labelPositions
  (List.range 8704).filter (fun p => l.contains p)

/-! ## The learn notification queue (R239) -/

/-- A notification's record. -/
def learnRecord (kind pair port key result level other : Nat) (at_ : Nat) (seq : Nat) : List Byte :=
  be 1 kind ++ be 1 pair ++ be 2 port ++ be 3 key ++ be 1 result ++ be 2 level ++ be 2 other
    ++ (timeOf at_).bytes ++ be 2 seq

/-- A notification is posted: it takes its number, and is queued, or dropped while 1,024 records are unread. -/
def Dev.pushLearn (d : Dev) (x : List Byte) : Dev :=
  let b := splice x 22 (be 2 d.dec.learnSeq.toNat)
  let d := d.setDec (fun c => { c with learnSeq := c.learnSeq + 1 })
  if (d.dec.learnWrite - d.cfg.dec.learnRead).toNat < 1024 then
    d.setDec (fun c => { c with
      learnRing := tins c.learnRing (c.learnWrite.toNat % 1024) b, learnWrite := c.learnWrite + 1, learnRun := false })
  else
    let first := !d.dec.learnRun
    (d.setDec (fun c => { c with learnDropped := c.learnDropped + 1, learnRun := true })).raiseIf first .learnQueueOverflow

/-- LEARN_READ_INDEX_WRITE: the span from the present read index to LEARN_WRITE_INDEX. -/
def learnReadIndexWrite (v : BitVec 16) (d : Dev) : Resp × Dev :=
  if (v - d.cfg.dec.learnRead).toNat ≤ (d.dec.learnWrite - d.cfg.dec.learnRead).toNat then
    (.ok, d.setDecCfg (fun c => { c with learnRead := v }))
  else (.invalid, d)

def execLearnReadIndexWrite (v : BitVec 16) (s : State) : Host.Outcome State Fault Refusal := s.ask (learnReadIndexWrite v)

/-! ## Command outcomes (R246, R247) -/

/-- How a command ends: response, result code, count, cursor, holding port and entry words. -/
structure LabelOut where
  resp : Resp
  result : Nat
  count : Nat := 0
  cursor : Nat := 0xFFFF
  port : Nat := 0xFFFF
  words : List Nat := []
deriving DecidableEq, Repr

/-- A refresh (R243). -/
def LabelEntry.refresh (e : LabelEntry) : LabelEntry := { e with hit := true, stale := false }

def outInvalid : LabelOut := { resp := .invalid, result := 5 }
def outPoisoned : LabelOut := { resp := .poisoned, result := 6 }
def outNoent : LabelOut := { resp := .noent, result := 2 }
def outOk : LabelOut := { resp := .ok, result := 0 }

def Dev.runInsert (d : Dev) (c : LabelCmd) : LabelOut × Dev :=
  let key := c.key.toNat
  let port := c.port.toNat
  if d.fab.image = [] ∨ d.mapPorts ≤ port then (outInvalid, d)
  else if d.lookupPoison key then (outPoisoned, d)
  else match d.findLabel key with
    | none =>
      match d.freeLabel key with
      | none => ({ resp := .conflict, result := 4 }, d)
      | some p => (outOk, d.putLabel p { key := key, port := port, valid := true, hit := true, static := c.flags.getLsbD 0 })
    | some p =>
      let e := d.labelEntry p
      if e.port = port then (outOk, d.putLabel p { e.refresh with static := c.flags.getLsbD 0 })
      else if c.flags.getLsbD 1 then (outOk, d.putLabel p { e.refresh with port := port })
      else ({ resp := .existsOtherPort, result := 3, port := e.port }, d)

def Dev.runDelete (d : Dev) (c : LabelCmd) : LabelOut × Dev :=
  if d.fab.image = [] then (outInvalid, d)
  else if d.lookupPoison c.key.toNat then (outPoisoned, d)
  else match d.findLabel c.key.toNat with
    | none => (outNoent, d)
    | some p => (outOk, d.clearLabel p)

def Dev.runSearch (d : Dev) (c : LabelCmd) : LabelOut × Dev :=
  if d.fab.image = [] then (outInvalid, d)
  else if d.lookupPoison c.key.toNat then (outPoisoned, d)
  else match d.findLabel c.key.toNat with
    | none => (outNoent, d)
    | some p =>
      let e := d.labelEntry p
      ({ resp := if e.stale then .stale else .ok, result := if e.stale then 1 else 0, count := 1, words := [e.word] }, d)

def Dev.runNext (d : Dev) (c : LabelCmd) : LabelOut × Dev :=
  if d.fab.image = [] then (outInvalid, d)
  else
    let l := d.labelsRising.filter (fun p => c.cursor.toNat ≤ p)
    let got := l.take c.count.toNat
    match got.getLast? with
    | none => (outNoent, d)
    | some p =>
      let next := if p + 1 < 8704 then p + 1 else 0xFFFF
      ({ resp := .ok, result := 0, count := got.length, cursor := next, words := got.map (fun p => (d.labelEntry p).word) }, d)

/-- A record of 80 bytes goes to the ring (R247). -/
def Dev.putResult80 (d : Dev) (c : LabelCmd) (o : LabelOut) : Dev :=
  let b := be 1 c.opcode.toNat ++ be 1 o.result ++ be 2 c.tag.toNat ++ be 2 c.requester.toNat ++ be 2 o.count
    ++ be 2 o.cursor ++ be 2 o.port ++ be 4 0 ++ fit 64 ((o.words.map (be 8)).flatten)
  d.setLab (fun t => { t with results := tins t.results (t.resultIndex.toNat % 128) b, resultIndex := t.resultIndex + 1 })

/-- INSERT_RESULT of an outcome (R239). -/
def insertResult (r : Resp) : Nat :=
  match r with
  | .ok => 1 | .existsOtherPort => 2 | .conflict => 3 | .busy => 4 | .poisoned => 5 | _ => 0

/-- A command completes: its record, its answer, its notification, and its forwarding to the mate (R240, R245, R249). -/
def Dev.completeLabel (d : Dev) (c : LabelCmd) (origin : CmdOrigin) (o : LabelOut) : Dev :=
  let d := d.putResult80 c o
  let change : Bool := o.resp = .ok && (c.opcode = 1 || c.opcode = 2 || c.opcode = 5)
  let d := if change && d.driving then d.setLab (fun t => { t with forward := t.forward ++ [c] }) else d
  match origin with
  | .host id =>
    if d.req.outstanding.any (fun x => x.waits.any (fun w => w.2 = .label id)) then d.answerWait (.label id) o.resp
    else d.reply o.resp
  | .firmware r => d.pushLearn (splice r 7 (be 1 (insertResult o.resp)))
  | .mate => d

/-! ## One step per cycle (R244, R246) -/

/-- Positions that step k of a walk over the table visits: one bucket, or four overflow positions. -/
def stepPositions (k : Nat) : List Nat :=
  if k < 2048 then bucketPositions k else (List.range 4).map (fun i => 8192 + 4 * (k - 2048) + i)

/-- One step of a flush. -/
def Dev.flushStep (d : Dev) (c : LabelCmd) (origin : CmdOrigin) (k n : Nat) : Dev :=
  let hit := (stepPositions k).filter (fun p => d.holds p && (d.labelEntry p).port = c.port.toNat
    && (c.flags.getLsbD 2 || !(d.labelEntry p).static))
  (each hit (fun p d => d.clearLabel p) d).setLab (fun t => { t with flush := some (c, origin, k + 1, n + hit.length) })

/-- The command at the head of the queue, or one step of a flush: once in a cycle. -/
def Dev.labelStep (d : Dev) : Dev :=
  if d.lab.busy then d
  else match d.lab.flush with
    | some (c, o, k, n) => if k < 2176 then (d.flushStep c o k n).setLab (fun t => { t with busy := true }) else d
    | none =>
      match d.lab.queue with
      | [] => d
      | (c, o) :: l =>
        let d := d.setLab (fun t => { t with queue := l, busy := true })
        match c.opcode.toNat with
        | 1 => let r := d.runInsert c; r.2.completeLabel c o r.1
        | 2 => let r := d.runDelete c; r.2.completeLabel c o r.1
        | 3 => let r := d.runSearch c; r.2.completeLabel c o r.1
        | 4 => let r := d.runNext c; r.2.completeLabel c o r.1
        | _ =>
          if d.fab.image = [] ∨ d.mapPorts ≤ c.port.toNat then d.completeLabel c o outInvalid
          else d.flushStep c o 0 0

/-- Commands accepted and not completed (R245, R252). -/
def Dev.commandsPending (d : Dev) : Nat := d.lab.queue.length + (if d.lab.flush.isSome then 1 else 0)

/-- A command is accepted. -/
def Dev.queueLabel (d : Dev) (c : LabelCmd) (o : CmdOrigin) : Dev := d.setLab (fun t => { t with queue := t.queue ++ [(c, o)] })

/-- A quarter-bit boundary is past whose sightings have not been looked up: they come before the cycle's command (R244). -/
def Dev.sightingsDue (d : Dev) : Bool := d.decoding && d.time.lastTick / 500000 ≠ d.dec.quarter

/-- A command is accepted; it executes at once when its turn in this cycle has come. -/
def Dev.acceptLabel (d : Dev) (c : LabelCmd) (o : CmdOrigin) : Dev :=
  let d := d.queueLabel c o
  if d.sightingsDue then d else d.labelStep

/-- Its operands lie in the ranges R245 gives; a reserved opcode is refused (R6). -/
def labelCmdOk (c : LabelCmd) (ops : List Nat) : Bool :=
  ops.contains c.opcode.toNat && (c.opcode ≠ 4 || (c.cursor.toNat ≤ 8703 && 1 ≤ c.count.toNat && c.count.toNat ≤ 8))

/-- A command's write: a refusal, or its number, which its answer waits for. -/
def Dev.submitLabel (d : Dev) (c : LabelCmd) (ops : List Nat) : Except Resp Nat × Dev :=
  if !labelCmdOk c ops then (.error .invalid, d)
  else if 32 ≤ d.commandsPending then (.error .busy, d)
  else
    let id := d.lab.nextId
    (.ok id, (d.setLab (fun t => { t with nextId := id + 1 })).acceptLabel c (.host id))

/-- A direct command: refused at once, or answered when it completes. -/
def Dev.labelCommand (d : Dev) (c : LabelCmd) (ops : List Nat) : Dev :=
  match d.submitLabel c ops with
  | (.error r, d) => d.reply r
  | (.ok _, d) => d

def labelInsert (c : LabelCmd) (d : Dev) : Dev := d.labelCommand c [1]
def labelDelete (c : LabelCmd) (d : Dev) : Dev := d.labelCommand c [2]
def labelSearch (c : LabelCmd) (d : Dev) : Dev := d.labelCommand c [3]
def labelNext (c : LabelCmd) (d : Dev) : Dev := d.labelCommand c [4]
def flushByPort (c : LabelCmd) (d : Dev) : Dev := d.labelCommand c [5]

def execLabelInsert (cmd : LabelCmd) (s : State) : Host.Outcome State Fault Refusal := s.upd (labelInsert cmd)
def execLabelDelete (cmd : LabelCmd) (s : State) : Host.Outcome State Fault Refusal := s.upd (labelDelete cmd)
def execLabelSearch (cmd : LabelCmd) (s : State) : Host.Outcome State Fault Refusal := s.upd (labelSearch cmd)
def execLabelNext (cmd : LabelCmd) (s : State) : Host.Outcome State Fault Refusal := s.upd (labelNext cmd)
def execFlushByPort (cmd : LabelCmd) (s : State) : Host.Outcome State Fault Refusal := s.upd (flushByPort cmd)

/-- A command in its 16 bytes (R245). -/
def labelCmdOf (b : List Byte) (requester : Nat) : LabelCmd := {
  opcode := BitVec.ofNat 8 (field b 0 1), flags := BitVec.ofNat 8 (field b 1 1 % 8), tag := BitVec.ofNat 16 (field b 2 2)
  key := BitVec.ofNat 24 (field b 4 3), port := BitVec.ofNat 16 (field b 8 2), cursor := BitVec.ofNat 16 (field b 10 2)
  count := BitVec.ofNat 8 (field b 12 1), requester := BitVec.ofNat 16 requester }

def LabelCmd.bytes16 (c : LabelCmd) : List Byte :=
  be 1 c.opcode.toNat ++ be 1 c.flags.toNat ++ be 2 c.tag.toNat ++ be 3 c.key.toNat ++ be 1 0 ++ be 2 c.port.toNat
    ++ be 2 c.cursor.toNat ++ be 1 c.count.toNat ++ be 3 0

/-- FLUSH_BY_PORT_DONE: after its last step a flush answers with the entries removed. -/
def flushByPortDone (d : Dev) : Dev :=
  match d.lab.flush with
  | none => d
  | some (c, o, k, n) =>
    if k < 2176 then d
    else (d.setLab (fun t => { t with flush := none })).completeLabel c o { outOk with count := n }

def execFlushByPortDone (s : State) : Host.Outcome State Fault Refusal := s.upd flushByPortDone

/-! ## Sightings (R237, R243) -/

/-- Status of a key at a port: 0 ABSENT, 1 SAME, 2 OTHER, with the holder. -/
def Dev.sighting (d : Dev) (key port : Nat) : Nat × Nat :=
  match d.findLabel key with
  | none => (0, 0xFFFF)
  | some p => if (d.labelEntry p).port = port then (1, 0xFFFF) else (2, (d.labelEntry p).port)

/-- A SAME sighting refreshes the entry and writes its level. -/
def Dev.refreshSeen (d : Dev) (key level : Nat) : Dev :=
  match d.findLabel key with
  | none => d
  | some p => d.putLabel p { (d.labelEntry p).refresh with level := level }

/-! ## The aging sweep (R243) -/

/-- What the sweep does with one entry. -/
def Dev.ageOne (d : Dev) (p : Nat) : Dev :=
  let e := d.labelEntry p
  if !d.holds p ∨ e.static then d
  else if e.hit then d.putLabel p { e with hit := false, stale := false }
  else if !e.stale then d.putLabel p { e with stale := true }
  else (d.clearLabel p).setLab (fun t => { t with agedOut := t.agedOut + 1 })

/-- The sweep's step of the cycle that ends; it is suspended while the decoder is not RUNNING (R248). -/
def Dev.sweepStep (d : Dev) : Dev :=
  match d.lab.pass with
  | none => d
  | some k =>
    if d.dec.state ≠ .running then d
    else
      (each (stepPositions k) (fun p d => d.ageOne p) d).setLab (fun t => { t with
        pass := if k + 1 < 2176 then some (k + 1) else none })

/-- The table's part of a cycle that ends: the command, then the sweep; the next cycle's command may run. -/
def Dev.labelTick (d : Dev) : Dev := (d.labelStep.sweepStep).setLab (fun t => { t with busy := false })

/-- AGE_TIME by which the next pass is due: a new value counts from the start of the next pass, at once after 0. -/
def Dev.ageNow (d : Dev) : Nat := if d.lab.ageOn = 0 then d.cfg.lab.ageTime else d.lab.ageOn

/-- AGING_PASS_START: the first tick at or after a multiple of AGE_TIME / 2, which lies after the tick before it. -/
def agingPassStart (d : Dev) : Dev :=
  let h := 500000 * d.ageNow
  let t := d.time.lastTick
  if h = 0 ∨ d.lab.pass.isSome ∨ d.dec.state ≠ .running ∨ d.cyc.slot ≠ 0 ∨ t / h ≤ d.time.prevTick / h then d
  else d.setLab (fun x => { x with ageOn := d.cfg.lab.ageTime, pass := if d.cfg.lab.ageTime = 0 then none else some 0 })

def execAgingPassStart (s : State) : Host.Outcome State Fault Refusal := s.upd agingPassStart

/-- SWEEP_STATE: OFF while AGE_TIME is 0, SUSPENDED in a pass while the decoder is not RUNNING. -/
def Dev.sweepShown (d : Dev) : Nat :=
  if d.cfg.lab.ageTime = 0 then 2 else if d.lab.pass.isSome ∧ d.dec.state ≠ .running then 1 else 0

def ageTimeWrite (v : Nat) (d : Dev) : Resp × Dev :=
  if v = 0 ∨ (v % 2 = 0 ∧ 500 ≤ v ∧ v ≤ 60000) then
    (.ok, { d with cfg := { d.cfg with lab := { d.cfg.lab with ageTime := v } } })
  else (.invalid, d)

/-! ## Resume and a new map (R248, R250) -/

/-- HIT is set in every entry. -/
def Dev.hitAll (d : Dev) : Dev := each d.labelPositions (fun p d => d.putLabel p { d.labelEntry p with hit := true }) d

/-- Entries whose port a new map does not have are removed. -/
def Dev.dropPorts (d : Dev) (n : Nat) : Dev :=
  each (d.labelPositions.filter (fun p => n ≤ (d.labelEntry p).port)) (fun p d => d.clearLabel p) d

end Sys2Proof.Machine
end

