-- ==== Sys2Proof/Machine/Sightings.lean ====
section
/-! DEFINITION. QUARTER_BIT: bits, decodes, current labels and sightings of the Label Decoder, and the decodes that verification counts
(R227, R228, R231, R234 to R240). -/

namespace Sys2Proof.Machine

/-! ## Decodes at an egress (R227, R228) -/

def Dev.setVer (d : Dev) (f : Verify → Verify) : Dev := { d with ver := f d.ver }

def Dev.verState (d : Dev) (k : Nat) : VerState := tget .notChecked d.ver.state k
def Dev.setVerState (d : Dev) (k : Nat) (x : VerState) : Dev := d.setVer (fun v => { v with state := tset .notChecked v.state k x })

/-- VERIFY_DONE of a commit none of whose circuits is PENDING any more, with the counts among them (R228). -/
def Dev.verifyDone (d : Dev) : Dev :=
  let done := d.ver.batch.filter (fun l => !l.any (fun k => d.verState k = .pending))
  let count (l : List Nat) (x : VerState) : Nat := (l.filter (fun k => d.verState k = x)).length
  let d' := d.setVer (fun v => { v with batch := v.batch.filter (fun l => !done.contains l) })
  each done (fun l d => d.raise .verifyDone [count l .verified, count l .misconnect, count l .noLabel]) d'

/-- A good decode at the egress of circuit k (R227); where nothing is checked, VERIFY_SEEN alone takes it (R230, R238). -/
def Dev.verifySeen (d : Dev) (k : Nat) (c : Circ) (key : BitVec 24) (start stop : Nat) : Dev :=
  let st := d.verState k
  if st = .notChecked then d.setVer (fun v => { v with seen := tset 0 v.seen k key })
  else if (st = .pending ∧ start < tget 0 d.ver.epoch k) then d
  else
    let before := (tfind d.ver.last k).getD (0, 0)
    let n := if before.2 ≠ 0 ∧ before.1 = key then before.2 + 1 else 1
    let d := d.setVer (fun v => { v with
      seen := tset 0 v.seen k key, lastAt := tins v.lastAt k stop, last := tins v.last k (key, n) })
    let hit : Bool := key.toNat = c.label
    let new := match st with
      | .pending => if hit then .verified else if 2 ≤ n then .misconnect else st
      | .verified => if !hit ∧ 2 ≤ n then .misconnect else st
      | _ => if hit ∧ 2 ≤ n then .verified else st
    if new = st then d
    else
      let d := d.setVerState k new
      (d.raiseIf (new = .misconnect) .misconnect [k, c.tag, c.egress, c.label, key.toNat]).verifyDone

/-- A good decode at egress p counts for the circuits that leave there. -/
def Dev.verifyDecode (d : Dev) (p : Nat) (key : BitVec 24) (start stop : Nat) : Dev :=
  each ((d.circuits false).filter (fun c => c.2.egress = p)) (fun c d => d.verifySeen c.1 c.2 key start stop) d

/-! ## Bit decisions (R234) -/

def sumQuarters (l : List Quarter) : Quarter :=
  l.foldl (fun a b => ⟨a.i0 + b.i0, a.q0 + b.q0, a.i1 + b.i1, a.q1 + b.q1, a.used + b.used⟩) {}

/-- The decision of a bit window with a number of cycles. The amplitude 2 sqrt E / K, in q, is compared exactly; the sine
table's 1.0 is 32,767. -/
def decide_ (w : Quarter) (cycles minLevel : Nat) : BitDec :=
  let e0 := (w.i0 * w.i0 + w.q0 * w.q0).toNat
  let e1 := (w.i1 * w.i1 + w.q1 * w.q1).toNat
  let hi := max e0 e1
  let lo := min e0 e1
  let erased : Bool := cycles < 4 * (cycles - w.used) || 4 * hi < (minLevel * 32767 * w.used) ^ 2 || hi < 4 * lo
  ⟨if erased then none else some (e0 < e1 : Bool), hi, w.used⟩

/-! ## Decodes (R235) -/

/-- Decisions, newest first, as a number when none is an erasure. -/
def bitsNumber : List BitDec → Option Nat
  | [] => some 0
  | b :: l => match b.bit, bitsNumber l with
    | some x, some n => some (ofBool x + 2 * n)
    | _, _ => none

def syncMatch (l : List BitDec) : Bool := l.length = 8 && bitsNumber l = some 0xA7

/-- The alignment whose last 8 decisions match SYNC, the one of largest energy when there are several. -/
def bestSync (streams : List (List BitDec)) : Option Nat :=
  let energy (l : List BitDec) : Nat := (l.map (fun b => b.energy)).sum
  let hits := (streams.zipIdx).filter (fun p => syncMatch p.1)
  match hits with
  | [] => none
  | h :: l => some (l.foldl (fun (b : List BitDec × Nat) p => if energy b.1 < energy p.1 then p else b) h).2

/-- CRC-8 of the 24 key bits (R231). -/
def crc8 (l : List Byte) : Nat := l.foldl (crcByte 8 0x07) 0

/-- The key of 32 bits that a decode read, when it is good. -/
def goodKey (l : List BitDec) : Option (BitVec 24) :=
  match bitsNumber (l.take 32) with
  | some n => if crc8 (be 3 (n / 256)) = n % 256 then some (BitVec.ofNat 24 (n / 256)) else none
  | none => none

/-! ## Notifications (R237, R240) -/

/-- A notification is posted: a NEW goes to firmware first when LEARN_MODE is FIRMWARE, whose INSERT waits for its turn, after all
the sightings of the cycle (R244). -/
def Dev.notify (d : Dev) (kind pair port : Nat) (key : BitVec 24) (level other start : Nat) : Dev :=
  let b := learnRecord kind pair port key.toNat 0 level other start 0
  if kind = 0 ∧ d.cfg.dec.learnMode = 1 then
    if 32 ≤ d.commandsPending then d.pushLearn (splice b 7 (be 1 4))
    else d.queueLabel { opcode := 1, flags := 0, tag := 0, key := key, port := BitVec.ofNat 16 port, cursor := 0, count := 0, requester := 0 }
      (.firmware b)
  else d.pushLearn b

/-- A sighting on ingress channel 2p, pair j, of the current label (R237). -/
def Dev.sight (d : Dev) (p j : Nat) (c : CurLabel) : Dev :=
  let s := d.sighting c.key.toNat p
  let put (d : Dev) (c : CurLabel) : Dev := d.setChan (2 * p) j { d.chan (2 * p) j with current := some c }
  if s.1 = 1 then put (d.refreshSeen c.key.toNat c.level) { c with status := some 1 }
  else
    let again : Bool := d.cfg.dec.learnRepost ≠ 0 && (c.postedAt + 1000000 * d.cfg.dec.learnRepost ≤ c.lastEnd : Bool)
    if c.status ≠ some s.1 ∨ again then
      (put d { c with status := some s.1, postedAt := c.lastEnd }).notify (if s.1 = 0 then 0 else 1) j p c.key c.level
        (if s.1 = 2 then s.2 else 0xFFFF) c.lastStart
    else put d c

/-- A good decode on channel t, pair j (R236, R238). -/
def Dev.goodDecode (d : Dev) (t j : Nat) (key : BitVec 24) (level start stop : Nat) : Dev :=
  let x := d.chan t j
  let seen : Option CurLabel := match x.current with
    | some c => if c.key = key then some { c with level := level, lastStart := start, lastEnd := stop } else none
    | none => none
  let new : Option CurLabel := match x.cand with
    | some (k, e) => if k = key ∧ stop ≤ 100000000 + e then some ⟨key, level, start, stop, none, 0⟩ else none
    | none => none
  let cur := match seen with | some c => some c | none => new
  let d := d.setChan t j { x with cand := some (key, stop), current := match cur with | some c => some c | none => x.current }
  if t % 2 = 1 then d.verifyDecode (t / 2) key start stop
  else match cur with
    | some c => d.sight (t / 2) j c
    | none => d

/-- Mean winning-tone amplitude 2 sqrt E / K over the bits of a decode, in q, formed in 2^-16 q; its rounding is not stated. -/
def decodeLevel (l : List BitDec) : Nat :=
  (openQuot ((l.map (fun b => rootBits (b.energy * 2 ^ 34 / (32767 * b.used) ^ 2) 40 0)).sum : Nat) (l.length * 2 ^ 16 : Nat)).toNat

/-- A decode ends: counted, and a good one acts while the decoder is RUNNING. -/
def Dev.endDecode (d : Dev) (t j : Nat) (x : Decode) (stop : Nat) : Dev :=
  match goodKey x.bits with
  | none => d.setDec (fun c => { c with bad := tset 0 c.bad t (tget 0 c.bad t + 1) })
  | some key =>
    let d := d.setDec (fun c => { c with good := tset 0 c.good t (tget 0 c.good t + 1) })
    if d.dec.state = .running then
      d.goodDecode t j key (min 65535 (decodeLevel x.bits)) x.start stop
    else d

/-! ## QUARTER_BIT -/

/-- The boundary at the end of quarter-bit q, on channel t and pair j. -/
def Dev.quarterOne (d : Dev) (q t j : Nat) : Dev :=
  let x := d.chan t j
  let a := (q + 1) % 4
  let stop := 500000 * (q + 1)
  let qs := (x.now :: x.quarters).take 4
  let cycles := (d.dec.ticksNow :: d.dec.tickCounts).sum
  let b := decide_ (sumQuarters qs) cycles d.cfg.dec.minLevel
  let streams := (x.streams.zipIdx).map (fun p => if p.2 = a then (b :: p.1).take 8 else p.1)
  let ran := match x.decode with
    | some c => if c.align = a then some { c with bits := b :: c.bits } else some c
    | none => none
  let late : Option Decode := match ran with
    | some c => if 40 ≤ c.bits.length then some c else none
    | none => none
  let left : Option Decode := if late.isSome then none else ran
  let d := d.setChan t j { x with now := {}, quarters := qs, streams := streams, decode := left }
  let d := match late with
    | some c => d.endDecode t j c stop
    | none => d
  if left.isNone ∧ d.dec.state = .running then
    match bestSync streams with
    | some s =>
      let at_ := stop - 500000 * ((a + 4 - s) % 4)
      d.setChan t j { d.chan t j with decode := some ⟨s, at_ - 16000000, streams.getD s []⟩ }
    | none => d
  else d

/-- QUARTER_BIT: at a boundary, once the samples before it are in: the sightings of all channels, then the command whose turn it is
(R244). In a cycle in which a circuit resolution has come first it waits for the next: lookups come first in every cycle. -/
def quarterBit (d : Dev) : Dev :=
  let q := d.dec.quarter
  let now := d.time.lastTick / 500000
  let bound := 500000 * (q + 1)
  if d.decoding = false ∨ now = q ∨ d.lab.busy ∨ d.rd.conversions.any (fun x => x.start < bound) then d
  else
    let d := iter (fun t d => if (d.tapOf t).isSome then
      iter (fun j d => if d.pairActive j then d.quarterOne q t j else d) 8 0 d else d) (2 * d.mapPorts) 0 d
    let d := d.setDec (fun c => { c with
      quarter := now
      tickCounts := (c.ticksNow :: c.tickCounts).take 3, ticksNow := c.ticksAhead, ticksAhead := 0
      chans := (c.chans.map (fun p => (p.1, { p.2 with now := if now = q + 1 then p.2.ahead else {}, ahead := {} }))).filter (fun p => p.2 ≠ {}) })
    d.labelStep

/-- Before the circuit resolutions of a cycle its sightings, whose samples are in, and its command have their turn (R244). -/
def Dev.beforeResolution (d : Dev) : Dev := (quarterBit d).labelStep.setLab (fun t => { t with busy := true })

def execQuarterBit (s : State) : Host.Outcome State Fault Refusal := s.upd quarterBit

end Sys2Proof.Machine
end

