-- ==== Sys2Proof/Machine/Solver.lean ====
section
/-! DEFINITION. The Route Solver: the full and the strict solve, the targets they produce, requests and reports (R194 to R206). -/

namespace Sys2Proof.Machine

/-! ## Logical networks -/

/-- A circuit to be placed: number, ingress, egress. -/
structure Want where
  num : Nat
  inp : Nat
  out : Nat
deriving DecidableEq, Repr

/-- One stage of a logical path: stage, input position, state of the cell. -/
structure LHop where
  stage : Nat
  pos : Nat
  x : Bool
deriving DecidableEq, Repr

/-- Logical cell number of B(2 ^ n) at a stage and position. -/
def lcell (n s pos : Nat) : Nat := s * 2 ^ (n - 1) + pos / 2

/-- Logical path through physical states: a BENES cell's own state, a DILATED one's XOR with the stage before (R194). -/
def lpathFrom (n : Nat) (dilated : Bool) (x : Nat → Bool) : Nat → Nat → Nat → Bool → List LHop
  | 0, _, _, _ => []
  | fuel + 1, s, pos, prev =>
    let cur := if dilated then (x (s * 2 ^ n + pos)) ^^ prev else x (lcell n s pos)
    let q := xorPos pos cur
    ⟨s, pos, cur⟩ :: lpathFrom n dilated x fuel (s + 1) (if fuel = 0 then q else wire n s q) cur

def lpath (n : Nat) (dilated : Bool) (x : Nat → Bool) (ingress : Nat) : List LHop :=
  lpathFrom n dilated x (2 * n - 1) 0 ingress false

/-! ## The full solve (R200) -/

def partner (x : Nat) : Nat := if x % 2 = 0 then x + 1 else x - 1

/-- The circuit at an input, and at an output, of a network. -/
def atInput (cs : List Want) (i : Nat) : Option Want := cs.find? (fun c => c.inp = i)
def atOutput (cs : List Want) (o : Nat) : Option Want := cs.find? (fun c => c.out = o)

/-- walk(i, side): `a` holds the inputs assigned, true for LOWER; the fuel is the number of circuits. -/
def walk (cs : List Want) : Nat → Nat → Bool → List (Nat × Bool) → List (Nat × Bool)
  | 0, _, _, a => a
  | fuel + 1, i, side, a =>
    match atInput cs i with
    | none => a
    | some c =>
      if (tfind a i).isSome then a
      else
        let a := (i, side) :: a
        match atOutput cs (partner c.out) with
        | none => a
        | some c2 =>
          if (tfind a c2.inp).isSome then a
          else walk cs fuel (partner c2.inp) side ((c2.inp, !side) :: a)

/-- Every input is assigned, the lowest unassigned one first. -/
def assignFrom (cs : List Want) (hint : Nat → Bool) : List Nat → List (Nat × Bool) → List (Nat × Bool)
  | [], a => a
  | i :: rest, a =>
    if (tfind a i).isSome ∨ (atInput cs i).isNone then assignFrom cs hint rest a
    else
      let a := walk cs (cs.length + 1) i (hint i) a
      let a := if (atInput cs (partner i)).isSome then walk cs (cs.length + 1) (partner i) (!hint i) a else a
      assignFrom cs hint rest a

/-- States of the lit cells of B(2 ^ k) at level l = n - k, its inputs starting at position `base`; `cur` is the logical path
position and state of the current bank's circuits. -/
def solveNet (n : Nat) (hints : List LHop) : Nat → Nat → List Want → List (Nat × Bool)
  | 0, _, _ => []
  | k + 1, base, cs =>
    let l := n - (k + 1)
    if k = 0 then
      match cs with
      | [] => []
      | c :: _ => [(lcell n l base, (c.inp + c.out) % 2 = 1)]
    else
      let m := 2 ^ (k + 1)
      let hint (i : Nat) : Bool :=
        match hints.find? (fun h => h.stage = l && h.pos = base + i) with
        | some h => (h.pos % 2 = 1) ^^ h.x
        | none => false
      let a := assignFrom cs hint (List.range m) []
      let side (c : Want) : Bool := (tfind a c.inp).getD false
      let first := cs.map (fun c => (lcell n l (base + c.inp), side c ^^ (c.inp % 2 = 1)))
      let last := cs.map (fun c => (lcell n (2 * n - 2 - l) (base + c.out), side c ^^ (c.out % 2 = 1)))
      let sub (s : Bool) : List Want :=
        (cs.filter (fun c => side c = s)).map (fun c => ⟨c.num, c.inp / 2, c.out / 2⟩)
      first ++ last ++ solveNet n hints k base (sub false) ++ solveNet n hints k (base + m / 2) (sub true)

/-! ## Strict non-disturb (R201) -/

/-- Path of candidate `cand` from position pos at stage s to egress q. -/
def candFrom (n cand q : Nat) : Nat → Nat → Nat → List LHop
  | 0, _, _ => []
  | fuel + 1, s, pos =>
    let out := if s + 1 < n then bit cand (n - 2 - s) else bit q (2 * n - 2 - s)
    let x := (pos % 2 = 1) ^^ out
    let o := xorPos pos x
    ⟨s, pos, x⟩ :: candFrom n cand q fuel (s + 1) (if fuel = 0 then o else wire n s o)

def candPath (n cand p q : Nat) : List LHop := candFrom n cand q (2 * n - 1) 0 p

/-- Every occupied cell of a path already has the state the path needs. -/
def fits (n : Nat) (held : Tab Bool) (path : List LHop) : Bool :=
  path.all (fun h => match tfind held (lcell n h.stage h.pos) with
    | some x => x = h.x
    | none => true)

def hold (n : Nat) (held : Tab Bool) (path : List LHop) : Tab Bool :=
  path.foldl (fun t h => tins t (lcell n h.stage h.pos) h.x) held

/-- Circuits are placed in turn on the lowest candidate that fits; the first that has none ends the solve. -/
def placeAll (n : Nat) : List Want → Tab Bool → Except Nat (Tab Bool)
  | [], held => .ok held
  | c :: rest, held =>
    match firstWhere (fun k => fits n held (candPath n k c.inp c.out)) (2 ^ (n - 1)) 0 with
    | none => .error c.num
    | some k => placeAll n rest (hold n held (candPath n k c.inp c.out))

/-! ## What a solve reads (R198) and leaves -/

def insertWant (c : Want) : List Want → List Want
  | [] => [c]
  | x :: l => if c.inp < x.inp then c :: x :: l else x :: insertWant c l

/-- Circuits in ascending ingress order. -/
def byIngress (l : List Want) : List Want := l.foldr insertWant []

def wantsOf (l : List (Nat × Circ)) : List Want := l.map (fun p => ⟨p.1, p.2.ingress, p.2.egress⟩)

/-- Logical states to physical states along the paths of the circuits (R194). -/
def physical (n : Nat) (x : Tab Bool) (topo : Nat) (cs : List Want) : List (Nat × Bool) :=
  if topo = 1 then x
  else
    let st (s pos : Nat) : Bool := (tfind x (lcell n s pos)).getD false
    let along (c : Want) : List (Nat × Bool) :=
      (iter (fun s (r : List (Nat × Bool) × Nat × Bool) =>
        let cur := st s r.2.1
        let q := xorPos r.2.1 cur
        ((s * 2 ^ n + r.2.1, cur ^^ r.2.2) :: r.1, (if s = 2 * n - 2 then q else wire n s q), cur))
        (2 * n - 1) 0 ([], c.inp, false)) |> fun r => ((2 * n - 1) * 2 ^ n + r.2.1, r.2.2) :: r.1
    cs.flatMap along

/-- Elements whose target words a solve reads and may write: those of the cells, and those that ports name. -/
def Dev.solveElems (d : Dev) : List Nat :=
  (List.range (2 * d.mapCells)).filter d.inUse
    ++ ((List.range d.mapPorts).map d.portAttenElem).filter (fun e => e ≠ 0xFFFF && d.inUse e)

/-- Words that a solve reads carry a poison mark: the region of the first. It reads the cell and port tables, the circuits of
both banks, and the cell states and its elements' targets of the current bank. -/
def Dev.solvePoison (d : Dev) : Option Nat :=
  if (List.range ((12 * d.mapCells + 8 * d.mapPorts + 7) / 8)).any (fun w => d.sram.poisoned (0x500000 + 8 * w)) then some 2
  else
    let entry (next : Bool) := (List.range 2048).any (fun i => d.bankPoison next (8 * i))
    let states := (List.range ((d.mapCells + 63) / 64)).any (fun w => d.bankPoison false (cellOff w))
    let targets := d.solveElems.any (fun e => d.bankPoison false (targetOff e))
    if entry true || entry false || states || targets then some 8 else none

/-- Cell states that a solve gives where they may differ from the current bank's: none is left to the current state. In a
crossbar every cell that a circuit passes is bar but its crosspoint, and the crosspoint of a deleted circuit returns to bar
(R195, R197). -/
def Dev.solveStates (d : Dev) (strict : Bool) : Except Nat (List (Nat × Bool)) :=
  let topo := d.topology
  let nports := d.mapPorts
  let n := log2 nports
  let x := d.cell false
  let cur := wantsOf (d.circuits false)
  let next := wantsOf (d.circuits true)
  let gone := cur.filter (fun c => !next.contains c)
  let new := next.filter (fun c => !cur.contains c)
  let kept := next.filter (fun c => cur.contains c)
  if topo = 3 then
    let cross := next.map (fun c => c.inp * nports + c.out)
    let bar := (next.flatMap (fun c => crossbarPath nports c.inp c.out)).map (fun h => h.cell) ++ gone.map (fun c => c.inp * nports + c.out)
    .ok (cross.map (fun c => (c, true)) ++ (bar.filter (fun c => !cross.contains c)).map (fun c => (c, false)))
  else
    let dil : Bool := topo = 2
    let lp (c : Want) := lpath n dil x c.inp
    if strict then
      let held := kept.foldl (fun t c => hold n t (lp c)) []
      match placeAll n (byIngress new) held with
      | .error k => .error k
      | .ok t => .ok (physical n t topo next)
    else
      let t := solveNet n (cur.flatMap lp) n 0 next
      .ok (physical n (t.foldl (fun t p => tins t p.1 p.2) []) topo next)

/-- Lit inputs of the cells, as the circuits' paths leave them. -/
def litInputs (paths : List (List Hop)) : List (Nat × Bool) := (paths.flatten).map (fun h => (h.cell, h.inp))

/-- Cells that carry two circuits. -/
def dualCells (lits : List (Nat × Bool)) (cells : Nat) : Nat :=
  ((List.range cells).filter (fun c => lits.contains (c, false) && lits.contains (c, true))).length

/-- PORT_ATTEN of a port (R213). -/
def Dev.portAtten (d : Dev) (p : Nat) : PortAtten := tget {} d.cfg.circ.portAtten p

/-- Target of the ATTEN element of egress p (R213). -/
def Dev.attenTarget (d : Dev) (cs : List (Nat × Circ)) (p : Nat) : Nat :=
  let a := d.portAtten p
  if d.topology = 0 then targetWord a.phiOpen a.power false
  else match cs.find? (fun c => c.2.egress = p) with
    | some c => targetWord a.phiOpen (if c.2.power = 0 then a.power else c.2.power) false
    | none => targetWord a.phiBlock 1 false

/-- Targets of a cell's two elements (R196). -/
def Dev.cellTargets (d : Dev) (lits : List (Nat × Bool)) (c : Nat) (x : Bool) : List (Nat × Nat) :=
  let ref : Bool := !lits.contains (c, false) && lits.contains (c, true)
  let b := ref ^^ x
  [(c, targetWord (if x then d.phiCross c else d.phiBar c) 0 b),
   (d.mapCells + c, targetWord (d.phiBal c) (d.balSp c) b)]

/-- Elements that ports name, with the port. -/
def Dev.portElems (d : Dev) : List (Nat × Nat) :=
  ((List.range d.mapPorts).map (fun p => (d.portAttenElem p, p))).filter (fun q => q.1 ≠ 0xFFFF)

/-- What the solve that starts now will leave (R197 to R202): it is a function of what it reads (R203). -/
def Dev.solveNow (d : Dev) (strict : Bool) : SolveRun :=
  let base : SolveRun := { strict := strict, gen := d.circ.gen, status := .ok }
  match d.solvePoison with
  | some g => { base with status := .poisoned, region := g }
  | none =>
    match d.solveStates strict with
    | .error k => { base with status := .conflict, unplaced := k }
    | .ok st =>
      let old := d.cell false
      let x (c : Nat) : Bool := (tfind st c).getD (old c)
      let cs := d.circuits true
      let paths := cs.map (fun p => (pathIn d.topology d.mapPorts x p.2.ingress p.2.egress).1)
      let lits := litInputs paths
      let all := ((List.range d.mapCells).flatMap (fun c => d.cellTargets lits c (x c)))
        ++ d.portElems.map (fun q => (q.1, d.attenTarget cs q.2))
      let changed := all.filter (fun p => d.inUse p.1 && d.target false p.1 ≠ p.2)
      let cur := wantsOf (d.circuits false)
      let kept := (wantsOf cs).filter (fun c => cur.contains c)
      let hit (c : Want) : Bool :=
        (pathIn d.topology d.mapPorts old c.inp c.out).1.any (fun h => x h.cell ≠ old h.cell)
      { base with
        cells := st.filter (fun p => old p.1 ≠ x p.1)
        targets := changed.map (fun p => (p.1, BitVec.ofNat 64 p.2))
        moved := if strict then [] else (kept.filter hit).map (fun c => c.num)
        changed := changed.length, dual := dualCells lits d.mapCells }

/-! ## Requests (R198) -/

def Dev.setSolve (d : Dev) (f : Solver → Solver) : Dev := { d with solve := f d.solve }

/-- The next bank holds a finished solve (R198): in a RAW map always. -/
def Dev.finishedSolve (d : Dev) : Bool :=
  (d.fab.image ≠ [] && d.topology = 0) || (d.solve.running.isNone && d.solve.status = .ok && d.solve.solvedGen = d.circ.gen)

/-- A solve starts: it reads its inputs. -/
def Dev.startSolve (d : Dev) (strict : Bool) : Dev :=
  let r := d.solveNow strict
  d.setSolve (fun s => { s with running := some r })

/-- SOLVE_REQUEST. With no map in force it is answered OK and runs nothing, as in a RAW map, but the next bank then counts as holding
no finished solve (DESIGN CHOICE, log entry 124: R198 speaks of maps alone). -/
def solveRequest (strict : Bool) (d : Dev) : Resp × Dev :=
  if d.solve.running.isSome ∧ d.solve.queued.isSome then (.busy, d)
  else if d.topology = 0 ∨ d.finishedSolve then (.ok, d)
  else if d.solve.running.isSome then (.ok, d.setSolve (fun s => { s with queued := some strict }))
  else (.ok, d.startSolve strict)

def solveStrict (d : Dev) : Resp × Dev := solveRequest true d
def solvePermissive (d : Dev) : Resp × Dev := solveRequest false d
def execSolveStrict (s : State) : Host.Outcome State Fault Refusal := s.ask solveStrict
def execSolvePermissive (s : State) : Host.Outcome State Fault Refusal := s.ask solvePermissive

def solveRequestWrite (v : Nat) (d : Dev) : Resp × Dev :=
  if v = 0 then solveStrict d else if v = 1 then solvePermissive d else (.invalid, d)

/-! ## The end of a solve (R199) -/

/-- One word of cell states with the states that changed. -/
def stateWord (old : Nat) (w : Nat) (cells : List (Nat × Bool)) : Nat :=
  cells.foldl (fun v p => if p.1 / 64 = w then putBits v (p.1 % 64) 1 (ofBool p.2) else v) old

def Dev.putNextIf (d : Dev) (off w : Nat) : Dev := if d.bankWord true off = w then d else d.putNext off w

/-- An OK solve writes the next bank: elsewhere its cell states and targets read as the current bank's (R197). -/
def Dev.writeSolve (d : Dev) (r : SolveRun) : Dev :=
  let d := iter (fun w d => d.putNextIf (cellOff w) (stateWord (d.bankWord false (cellOff w)) w r.cells)) ((d.mapCells + 63) / 64) 0 d
  each d.solveElems (fun e d => d.putNextIf (targetOff e) (((tfind r.targets e).map (fun w => w.toNat)).getD (d.target false e))) d

def SolveStatus.code (s : SolveStatus) : Nat :=
  match s with | .none_ => 0 | .ok => 1 | .conflict => 2 | .stale => 3 | .poisoned => 4

/-- SOLVE_DONE: the running solve ends, after `time` ns; a queued one starts. -/
def solveDone (time : Nat) (d : Dev) : Dev :=
  match d.solve.running with
  | none => d
  | some r =>
    let status := if r.status = .ok ∧ r.gen ≠ d.circ.gen then .stale else if r.status = .conflict ∧ r.gen ≠ d.circ.gen then .stale else r.status
    let ok : Bool := status = .ok
    let d := if ok then d.writeSolve r else d
    let d := d.setSolve (fun s => { s with
      running := none, status := status, solvedGen := r.gen, lastTime := time
      unplaced := if status = .conflict then r.unplaced else 0xFFFF
      moved := if ok then r.moved else [], changed := if ok then r.changed else 0
      dual := if ok then r.dual else s.dual })
    let d := d.raise .solveDone
      [status.code, d.solve.moved.length, if status = .poisoned then r.region else 0xFFFFFFFF]
    match d.solve.queued with
    | none => d
    | some m => (d.setSolve (fun s => { s with queued := none })).startSolve m

def execSolveDone (time : Nat) (s : State) : Host.Outcome State Fault Refusal := s.upd (solveDone time)

/-! ## The bound (R205) -/

/-- L(N). -/
def loopCount (nports n : Nat) : Nat := iter (fun l a => a + (2 ^ l + 7) / 8 * (nports / 2 ^ l)) (n - 1) 0 0

/-- SOLVE_BOUND: the full-solve bound at the present clock. -/
def Dev.solveBound (d : Dev) : Nat :=
  let nports := d.mapPorts
  let full := 1000 + 8 * loopCount nports (log2 nports) + 2 * ((d.mapCells + 7) / 8)
  let b := match d.topology with
    | 1 | 2 => full
    | 3 => 1000 + 4 * nports
    | _ => 0
  if d.therm.throttled then 2 * b else b

/-! ## Raw targets (R204) -/

/-- The bank is armed: a commit's arming point has passed and its tick has not (R206). -/
def Dev.bankArmed (d : Dev) : Bool := d.circ.armed.isSome

/-- RAW_TARGET as read: the next bank's entry. -/
def Dev.rawTarget (d : Dev) (e : Nat) : List Byte :=
  let w := d.target true e
  be 3 (bitsOf w 40 24) ++ be 1 (ofBool (targetWantB w)) ++ be 4 (targetSp w)

def rawTargetWrite (e : Nat) (b : List Byte) (d : Dev) : Resp × Dev :=
  if 32767 < e then (.noent, d)
  else if b.length ≠ 8 ∨ e < 2 * d.mapCells ∨ (d.portOf e).isSome ∨ d.inUse e = false then (.invalid, d)
  else if d.bankArmed then (.late, d)
  else (.ok, d.putNext (targetOff e) (field b 0 3 * 2 ^ 40 + bitsOf (field b 4 4) 0 20 * 2 ^ 20 + field b 3 1 % 2 * 2 ^ 19))

def execRawTargetWrite (elem : BitVec 16) (bytes : List Byte) (s : State) : Host.Outcome State Fault Refusal :=
  s.ask (rawTargetWrite elem.toNat bytes)

end Sys2Proof.Machine
end

