-- ==== Sys2Proof/Machine/Circuit.lean ====
section
/-! DEFINITION. Changes of the next bank (R211 to R213). -/

namespace Sys2Proof.Machine

def Dev.setCirc (d : Dev) (f : Circuits → Circuits) : Dev := { d with circ := f d.circ }
def Dev.nextGen (d : Dev) : Dev := d.setCirc (fun c => { c with gen := c.gen + 1 })

/-! ## One entry (R210, R211) -/

/-- Order 2 of R211. An entry with BY_LABEL whose INGRESS is not the 0xFFFF that R210 has the host write is taken all the same: the
resolved port takes its place (DESIGN CHOICE, log entry 125). -/
def Dev.circuitBad (d : Dev) (c : Circ) : Bool :=
  d.fab.image = [] || d.topology = 0 || c.flags % 32 ≠ 0 || c.spare ≠ 0 || 0x100000 ≤ c.power || 524287 < c.power
    || (!c.byLabel && d.mapPorts ≤ c.ingress) || d.mapPorts ≤ c.egress

/-- Label resolution (R212): the port that the Label Table holds. -/
def Dev.resolve (d : Dev) (c : Circ) : Except Resp Nat :=
  if d.lookupPoison c.label then .error .poisoned
  else match d.findLabel c.label with
    | none => .error .noent
    | some p =>
      let e := d.labelEntry p
      if e.stale ∧ d.cfg.circ.rejectStale then .error .stale else .ok e.port

/-- Circuits of a bank given as entries: another one uses the same ingress or egress. -/
def clashes (k : Nat) (c : Circ) (bank : List (Nat × Circ)) : Bool :=
  bank.any (fun p => p.1 ≠ k && (p.2.ingress = c.ingress || p.2.egress = c.egress))

/-- The entry as it is to be stored, or the response that refuses it; `bank` holds the in-use circuits of the next bank.
An entry with IN_USE clear deletes its circuit: it meets orders 1 to 3 like any other, and order 4 speaks of in-use circuits. -/
def Dev.checkEntry (d : Dev) (k : Nat) (b : List Byte) (bank : List (Nat × Circ)) : Except Resp Circ :=
  let c := circOf b
  if d.bankArmed then .error .late
  else if d.circuitBad c then .error .invalid
  else
    let r := if c.byLabel then d.resolve c else .ok c.ingress
    match r with
    | .error e => .error e
    | .ok p =>
      let c := { c with ingress := p }
      if c.inUse && clashes k c bank then .error .conflict else .ok c

/-- An entry's two words are written where they differ. -/
def Dev.putEntry (d : Dev) (k : Nat) (c : Circ) : Dev :=
  let b := c.bytes
  (d.putNextIf (entryOff k) (field b 0 8)).putNextIf (entryOff k + 8) (field b 8 8)

/-- The bank with one entry changed. -/
def withEntry (k : Nat) (c : Circ) (bank : List (Nat × Circ)) : List (Nat × Circ) :=
  let l := bank.filter (fun p => p.1 ≠ k)
  if c.inUse then l ++ [(k, c)] else l

/-- CIRCUIT_NEXT_WRITE. A write that changes no byte does not increment the generation. -/
def circuitNextWrite (k : Nat) (b : List Byte) (d : Dev) : Resp × Dev :=
  if 1023 < k then (.noent, d)
  else if b.length ≠ 16 then (.invalid, d)
  else
    let d := if (circOf b).byLabel then d.beforeResolution else d
    match d.checkEntry k b (d.circuits true) with
    | .error e => (e, d)
    | .ok c => (.ok, if d.entryBytes true k = c.bytes then d else (d.putEntry k c).nextGen)

def execCircuitNextWrite (k : BitVec 16) (bytes : List Byte) (s : State) : Host.Outcome State Fault Refusal :=
  s.ask (circuitNextWrite k.toNat bytes)

/-! ## Batches -/

/-- Items of a batch: 2 bytes k and 16 bytes entry. -/
def batchItems : Nat → List Byte → List (Nat × List Byte)
  | 0, _ => []
  | n + 1, l => (field l 0 2, (l.drop 2).take 16) :: batchItems n (l.drop 18)

/-- The items checked one after another, each against the bank as the earlier ones leave it: the first failing item and its
response, or the entries to store. -/
def Dev.checkBatch (d : Dev) : Nat → List (Nat × List Byte) → List (Nat × Circ) → Except (Nat × Resp) (List (Nat × Circ))
  | _, [], _ => .ok []
  | i, (k, b) :: l, bank =>
    if 1023 < k then .error (i, .invalid)
    else match d.checkEntry k b bank with
      | .error e => .error (i, e)
      | .ok c =>
        match d.checkBatch (i + 1) l (withEntry k c bank) with
        | .error e => .error e
        | .ok r => .ok ((k, c) :: r)

/-- CIRCUIT_BATCH: applied whole or not at all. -/
def circuitBatch (b : List Byte) (d : Dev) : Resp × Dev :=
  let n := field b 0 1
  if n = 0 ∨ 64 < n ∨ b.length ≠ 1 + 18 * n then (.invalid, d)
  else
    let items := batchItems n (b.drop 1)
    let d := if items.any (fun p => (circOf p.2).byLabel) then d.beforeResolution else d
    match d.checkBatch 0 items (d.circuits true) with
    | .error (i, e) => (e, d.setCirc (fun c => { c with batchError := (i, respCode e) }))
    | .ok l =>
      let d' := each l (fun p d => d.putEntry p.1 p.2) d
      let changed := l.any (fun p => d.entryBytes true p.1 ≠ d'.entryBytes true p.1)
      (.ok, if changed then d'.nextGen else d)

def execCircuitBatch (bytes : List Byte) (s : State) : Host.Outcome State Fault Refusal := s.ask (circuitBatch bytes)

/-! ## NEXT_RESET -/

/-- The next bank reads as the current bank: what was written is forgotten. -/
def nextResetCopy (d : Dev) : Resp × Dev :=
  if d.bankArmed then (.late, d)
  else (.ok, (d.setCirc (fun c => { c with written := some [] })).nextGen)

/-- Every circuit of the next bank is cleared. -/
def nextResetClear (d : Dev) : Resp × Dev :=
  if d.bankArmed then (.late, d)
  else (.ok, (each (d.circuits true) (fun p d => d.putEntry p.1 {}) d).nextGen)

def execNextResetCopy (s : State) : Host.Outcome State Fault Refusal := s.ask nextResetCopy
def execNextResetClear (s : State) : Host.Outcome State Fault Refusal := s.ask nextResetClear

def nextResetWrite (v : Nat) (d : Dev) : Resp × Dev :=
  match v with
  | 1 => nextResetCopy d
  | 2 => nextResetClear d
  | _ => (.invalid, d)

/-! ## PORT_ATTEN (R213) -/

/-- In a RAW map the port's target is formed when the write executes. -/
def Dev.rawAtten (d : Dev) (p : Nat) : Dev :=
  let e := d.portAttenElem p
  if d.fab.image ≠ [] ∧ d.topology = 0 ∧ p < d.mapPorts ∧ e ≠ 0xFFFF then d.putNextIf (targetOff e) (d.attenTarget [] p) else d

/-- PORT_ATTEN_WRITE. -/
def portAttenWrite (p : Nat) (b : List Byte) (d : Dev) : Resp × Dev :=
  if 1023 < p then (.noent, d)
  else if b.length ≠ 9 then (.invalid, d)
  else
    let power := field b 6 3 % 2 ^ 20
    if d.bankArmed then (.late, d)
    else if power = 0 ∨ 524287 < power then (.invalid, d)
    else
      let a : PortAtten := { phiOpen := signed 24 (field b 0 3), phiBlock := signed 24 (field b 3 3), power := power }
      let d : Dev := { d with cfg := { d.cfg with circ := { d.cfg.circ with portAtten := tset {} d.cfg.circ.portAtten p a } } }
      (.ok, (d.rawAtten p).nextGen)

def execPortAttenWrite (port : BitVec 16) (bytes : List Byte) (s : State) : Host.Outcome State Fault Refusal :=
  s.ask (portAttenWrite port.toNat bytes)

def PortAtten.bytes (a : PortAtten) : List Byte := be 3 (code 24 a.phiOpen) ++ be 3 (code 24 a.phiBlock) ++ be 3 a.power

end Sys2Proof.Machine
end

