-- ==== Sys2Proof/Machine/Fabric.lean ====
section
/-! DEFINITION. Loading, checking and applying a fabric map (R184 to R192, R207, R217, R250). -/

namespace Sys2Proof.Machine

def Dev.setFab (d : Dev) (f : Fabric → Fabric) : Dev := { d with fab := f d.fab }

/-! ## Staging (R189) -/

/-- FABRIC_BLOCK_WRITE. -/
def fabricBlockWrite (j : Nat) (b : List Byte) (d : Dev) : Resp × Dev :=
  if 511 < j then (.noent, d)
  else if b.length ≠ 1024 then (.invalid, d)
  else if d.fab.state = .pending then (.conflict, d)
  else (.ok, d.setFab (fun f => { f with staged := tset [] f.staged j b }))

def execFabricBlockWrite (block : BitVec 16) (bytes : List Byte) (s : State) : Host.Outcome State Fault Refusal :=
  s.ask (fabricBlockWrite block.toNat bytes)

def fabricLengthWrite (v : Nat) (d : Dev) : Resp × Dev :=
  if 524288 < v then (.invalid, d) else (.ok, { d with cfg := { d.cfg with fab := { length := v } } })

/-- The staged image: what no block write has filled is 0. -/
def Dev.stagedImage (d : Dev) : List Byte :=
  let n := d.cfg.fab.length
  (((List.range ((n + 1023) / 1024)).map (fun j => fit 1024 (tget [] d.fab.staged j))).flatten).take n

/-! ## The checks of R190 -/

/-- Ports and cells of each topology (R192). -/
def cellsOf (topo nports : Nat) : Option Nat :=
  let n := log2 nports
  let pow : Bool := nports = 2 ^ n
  match topo with
  | 0 => if nports ≤ 1024 then some 0 else none
  | 1 => if 4 ≤ nports ∧ nports ≤ 1024 ∧ pow then some ((2 * n - 1) * nports / 2) else none
  | 2 => if 4 ≤ nports ∧ nports ≤ 512 ∧ pow then some (2 * n * nports) else none
  | 3 => if 2 ≤ nports ∧ nports ≤ 128 then some (nports * nports) else none
  | _ => none

/-- What a check looks at: the image's parts, and the rows and columns enabled. -/
structure MapView where
  topo : Nat
  nports : Nat
  ncells : Nat
  elems : List (Nat × Nat)
  ports : List (Nat × Nat × Nat × Nat)
  rows : Nat
  driveOn : Nat → Bool
  monitorOn : Nat → Bool

def imageTopo (img : List Byte) : Nat := field img 2 1
def imagePorts (img : List Byte) : Nat := field img 4 2
def imageCells (img : List Byte) : Nat := field img 6 2
def imageElems (img : List Byte) : Nat := field img 8 2

/-- Elements in use with their entries. -/
def elemsFrom : Nat → Nat → List Byte → List (Nat × Nat)
  | 0, _, _ => []
  | n + 1, e, l =>
    let w := field l 0 8
    if entryInUse w then (e, w) :: elemsFrom n (e + 1) (l.drop 8) else elemsFrom n (e + 1) (l.drop 8)

def portsFrom : Nat → Nat → List Byte → List (Nat × Nat × Nat × Nat)
  | 0, _, _ => []
  | n + 1, p, l => (p, field l 0 2, field l 2 2, field l 4 2) :: portsFrom n (p + 1) (l.drop 8)

def Dev.mapView (d : Dev) (img : List Byte) : MapView := {
  topo := imageTopo img, nports := imagePorts img, ncells := imageCells img
  elems := elemsFrom (imageElems img) 0 (img.drop 64)
  ports := portsFrom (imagePorts img) 0 (img.drop (portTable img))
  rows := d.cyc.conf.rows, driveOn := d.driveOn, monitorOn := d.monitorOn }

/-- Monitor sites of an entry: a RAW element has none (R186). -/
def entrySites (w : Nat) : List Nat :=
  if entryKind w = 3 then [] else entryMonA w :: (if entryMonBEn w then [entryMonB w] else [])

def MapView.monitorOk (v : MapView) (s : Nat) : Bool := s < 32768 && siteRow s < v.rows && v.monitorOn (siteCol s)
def MapView.driveOk (v : MapView) (s : Nat) : Bool := siteRow s < v.rows && v.driveOn (siteCol s)

/-- Loop delay of R55 in cycles. -/
def loopDelay (row : Nat) (sites : List Nat) : Nat :=
  if sites.all (fun s => siteRow s + 4 ≤ row) then 1 else 2

/-- Check 1: FORMAT, length and CRC, the CRC field taken as 0. -/
def imageWhole (img : List Byte) : Bool :=
  field img 0 2 = 0x0302
    && img.length = 64 + 8 * imageElems img + 12 * imageCells img + 8 * imagePorts img
    && ofBe ((fcs (splice img 60 (be 4 0))).reverse) = field img 60 4

/-- The items that fail checks 3 to 9, ascending. -/
def MapView.badKinds (v : MapView) : List Nat :=
  (v.elems.filter (fun p => v.topo ≠ 0 && !(
    if p.1 < v.ncells then entryKind p.2 = 0
    else if p.1 < 2 * v.ncells then entryKind p.2 = 1
    else 2 ≤ entryKind p.2))).map (fun p => p.1)

def MapView.missing (v : MapView) : List Nat := (List.range v.ncells).filter (fun c => !v.elems.any (fun p => p.1 = c))

def MapView.badDrives (v : MapView) : List Nat :=
  (v.elems.filter (fun p => !v.driveOk (entryDrive p.2)
    || v.elems.any (fun q => q.1 < p.1 && entryDrive q.2 = entryDrive p.2))).map (fun p => p.1)

def MapView.badMonitors (v : MapView) : List Nat :=
  (v.elems.filter (fun p => !(entrySites p.2).all v.monitorOk || (entryKind p.2 < 2 && !entryMonBEn p.2))).map (fun p => p.1)

def MapView.badTaps (v : MapView) : List Nat :=
  (List.range v.ncells).filter (fun c =>
    let s := (tfind v.elems c).getD 0
    entryMonA s = entryMonB s || (match tfind v.elems (v.ncells + c) with
      | some b => entryMonA b ≠ entryMonA s || entryMonB b ≠ entryMonB s
      | none => false))

def MapView.badDelays (v : MapView) : List Nat :=
  (v.elems.filter (fun p =>
    if entryKind p.2 = 3 then entryDelay2 p.2
    else entryDelay2 p.2 ≠ (loopDelay (siteRow (entryDrive p.2)) (entrySites p.2) = 2 : Bool))).map (fun p => p.1)

def MapView.badPorts (v : MapView) : List Nat :=
  (v.ports.filter (fun p =>
    let tap (s : Nat) : Bool := s = 0xFFFF || v.monitorOk s
    let a := p.2.2.2
    !tap p.2.1 || !tap p.2.2.1
      || (a ≠ 0xFFFF && (a < 2 * v.ncells || (match tfind v.elems a with | some w => entryKind w ≠ 2 | none => true)
        || v.ports.any (fun q => q.1 < p.1 && q.2.2.2 = a))))).map (fun p => p.1)

/-- The first of some numbered checks that fails, with its lowest item. -/
def firstBad : List (Nat × List Nat) → Nat × Nat
  | [] => (0, 0)
  | (c, i :: _) :: _ => (c, i)
  | (_, []) :: l => firstBad l

/-- Code of the first failed check of R190 and its item; (0, 0) for an image that passes. An ELEMENT_COUNT above R185's
32,768 fails check 2: R190 names that limit in none of its checks; and the item is 0 after checks 1 and 2, for which its table names
none (DESIGN CHOICE, log entry 109). -/
def Dev.checkImage (d : Dev) (img : List Byte) : Nat × Nat :=
  if !imageWhole img then (1, 0)
  else if cellsOf (imageTopo img) (imagePorts img) ≠ some (imageCells img)
      ∨ imageElems img < 2 * imageCells img ∨ 32768 < imageElems img then (2, 0)
  else
    let v := d.mapView img
    firstBad [(3, v.badKinds), (4, v.missing), (5, v.badDrives), (6, v.badMonitors), (7, v.badTaps), (8, v.badDelays), (9, v.badPorts)]

/-! ## FABRIC_APPLY -/

/-- The placement an entry gives a record: nothing for an element not in use; a RAW element has no monitor sites. -/
def Rec.place (r : Rec) (w : Nat) : Rec :=
  let w := if entryInUse w then w else 0
  let raw : Bool := entryKind w = 3
  { r with
    kind := entryKind w, drive := entryDrive w, zone := entryZone w, delay2 := entryDelay2 w && !raw
    monA := if raw then 0 else entryMonA w, monB := if raw then 0 else entryMonB w, monBEn := entryMonBEn w }

/-- What an entry places, the bits that R186 has ignored left out: none for an element not in use. -/
def placement (w : Nat) : Option (Nat × Nat × Nat × List Nat × Bool) :=
  if entryInUse w then some (entryKind w, entryDrive w, entryZone w, entrySites w, entryDelay2 w) else none

/-- A record that firmware puts in HOLD: SETTLE_COUNT stands at 0 and SETTLED clears (R147, R148), and a mode that was FAULT is left with
FE_COUNT 0 (R141). -/
def Rec.leftInHold (r : Rec) : Rec :=
  ({ r with mode := 2, settle := 0, feCount := if r.mode = 4 then 0 else r.feCount }).setFlag fSettled false

/-- Firmware writes one record: its placement, and HOLD where that differs from the map in force or the element is newly in
use; an element that leaves the map differs from it too. -/
def Dev.placeElem (d : Dev) (old new : List Byte) (e : Nat) : Dev :=
  let o := elemEntry old e
  let w := elemEntry new e
  let moved : Bool := placement o ≠ placement w
  let d := d.fieldRec e .core (fun r => let r := r.place w; if moved then r.leftInHold else r)
  if moved ∧ d.faultCause e ≠ 0 then d.setCause e 0 .core else d

/-- The cell and port tables go to region 2. -/
def Dev.putTables (d : Dev) (img : List Byte) : Dev :=
  let b := img.drop (cellTable img)
  d.mem (fun m => m.putBlock 0x500000 ((b.length + 7) / 8) b)

/-- FABRIC_APPLY. -/
def fabricApply (v : Nat) (d : Dev) : Resp × Dev :=
  if v ≠ 1 then (.invalid, d)
  else if d.fab.state = .pending then (.busy, d)
  else if d.loop.state ≠ .stopped ∨ d.circuits false ≠ [] ∨ d.circuits true ≠ []
      ∨ d.solve.running.isSome ∨ d.solve.queued.isSome then (.conflict, d)
  else
    let img := d.stagedImage
    let c := d.checkImage img
    if c.1 ≠ 0 then (.invalid, d.setFab (fun f => { f with error := c }))
    else
      let old := d.fab.image
      let es := elemsOf old ++ (elemsOf img).filter (fun e => !(elemsOf old).contains e)
      let d := each es (fun e d => d.placeElem old img e) d
      (.ok, (d.putTables img).setFab (fun f => { f with state := .pending, error := (0, 0), pending := img }))

def execFabricApply (v : BitVec 8) (s : State) : Host.Outcome State Fault Refusal := s.ask (fabricApply v.toNat)

/-! ## FABRIC_IN_FORCE -/

/-- Roles a map gives the monitor sites: site, role (0 MON_A, 1 MON_B, 2 ingress tap, 3 egress tap), element or port. -/
def siteRoles (img : List Byte) : List (Nat × Nat × Nat) :=
  (elemsOf img).flatMap (fun e => ((entrySites (elemEntry img e)).zipIdx).map (fun s => (s.1, s.2, e)))
    ++ ((portsFrom (imagePorts img) 0 (img.drop (portTable img))).flatMap (fun p => [(p.2.1, 2, p.1), (p.2.2.1, 3, p.1)])).filter
      (fun x => x.1 ≠ 0xFFFF)

/-- A site reassignment for every site whose element or role changes (R73). -/
def Dev.reassignSites (d : Dev) (old new : List (Nat × Nat × Nat)) : Dev :=
  let changed := (old.filter (fun x => !new.contains x)) ++ (new.filter (fun x => !old.contains x))
  each ((changed.map (fun x => x.1)).eraseDups) (fun i d =>
    { d with rd := { d.rd with invSite := tset 0 d.rd.invSite i (max (tget 0 d.rd.invSite i) (d.ticks + 1)) } }) d

/-- A commit that ends without taking place (R216, R217, R222): the next scan is in normal order, and the jumps that an
armed one would have made are not made; an element of an earlier commit that is on record hold still takes its fields. -/
def Dev.missCommit (d : Dev) (c : PendingCommit) (cause : Nat) : Dev :=
  let n := (d.circuits false).length
  Dev.setCirc { d with cyc := { d.cyc with nextScan := [] } } (fun x => { x with
    pending := none, armed := none
    jumpDue := match x.armed with
      | some a => x.jumpDue.filter (fun p => !a.marked.contains p.1)
      | none => x.jumpDue
    report := { at_ := c.at_, group := c.group, result := 2, cause := cause, gen := x.gen
                circuits := n, ffError := 0xFFFF } })

/-- The pending or armed commit. -/
def Dev.commitAhead (d : Dev) : Option PendingCommit :=
  match d.circ.pending with
  | some c => some c
  | none => d.circ.armed.map (fun a => a.commit)

/-- A commit ahead is missed by the new map (R213). -/
def Dev.missAhead (d : Dev) : Dev :=
  match d.commitAhead with
  | some c => d.missCommit c 1
  | none => d

/-- Elements that wait to jump no longer do. -/
def Dev.dropJumps (d : Dev) (l : List Nat) : Dev :=
  each l (fun e d => if d.jumpPending e then d.setJump e false .core else d) d

/-- Every channel's current label and last posted status are cleared (R248, R250). -/
def PairChan.forget (x : PairChan) : PairChan := { x with cand := none, current := none }
def Dev.clearLabels (d : Dev) : Dev :=
  d.setDec (fun c => { c with chans := (c.chans.map (fun p => (p.1, p.2.forget))).filter (fun p => p.2 ≠ {}) })

/-- Channels follow the new port table: what was decoded at a tap that a port no longer has is gone (R250). -/
def Dev.keepTaps (d old : Dev) : Dev :=
  let same (t : Nat) : Bool := old.tapOf t = d.tapOf t
  d.setDec (fun c => { c with chans := c.chans.filter (fun p => same (p.1 / 8)), mean := c.mean.filter (fun p => same p.1) })

/-- FABRIC_IN_FORCE: the map comes into force at a tick; no image is resident since (R353). Of the solver's reports R199 names the status
alone, NONE: the others go back to what they read at reset, and a solve that runs or waits ends without SOLVE_DONE (DESIGN CHOICE,
log entry 123). -/
def fabricInForce (d : Dev) : Dev :=
  if d.fab.state ≠ .pending ∨ d.cyc.slot ≠ 0 then d
  else
    let before := d
    let old := d.fab.image
    let img := d.fab.pending
    let d := d.reassignSites (siteRoles old) (siteRoles img)
    let d := d.setFab (fun f => { f with state := .inForce, image := img, pending := [] })
    let d := d.missAhead.dropJumps (elemsOf old ++ elemsOf img)
    let d := d.setSolve (fun s => { s with
      running := none, queued := none, status := .none_, unplaced := 0xFFFF, moved := [], changed := 0, dual := 0 })
    let d := { d with tow := { d.tow with resident := none } }
    -- a COMPAT_LOAD that brought the map is done (R378)
    let d := { d with memory := { d.memory with compat := if d.memory.compat.1 = 1 then (2, 0, 0) else d.memory.compat } }
    ((d.dropPorts (imagePorts img)).keepTaps before).clearLabels

def execFabricInForce (s : State) : Host.Outcome State Fault Refusal := s.upd fabricInForce

end Sys2Proof.Machine
end

