-- ==== Sys2Proof/Machine/Verify.lean ====
section
/-! DEFINITION. Path verification (R226 to R228). -/

namespace Sys2Proof.Machine

/-- A circuit that verification watches: an expected label, an egress tap, and VERIFY_ENABLE in force. -/
def Dev.checkable (d : Dev) (c : Circ) : Bool :=
  d.ver.enableOn && c.inUse && (c.expect || c.byLabel) && d.egressTap c.egress ≠ 0xFFFF

/-- A circuit enters PENDING, its timeout and epoch counted from a tick (R226, R227). -/
def Dev.enterPending (d : Dev) (k tick : Nat) : Dev :=
  (d.setVerState k .pending).setVer (fun v => { v with
    since := tins v.since k tick, epoch := tins v.epoch k (tick + d.period + 200)
    last := v.last.filter (fun p => p.1 ≠ k), lastAt := tdel v.lastAt k })

/-- Every checkable circuit enters PENDING (R227, R248). -/
def Dev.pendAll (d : Dev) : Dev :=
  each (d.circuits false) (fun p d => if d.checkable p.2 then d.enterPending p.1 d.time.lastTick else d) d

/-- The count of circuits in a state. -/
def Dev.verCount (d : Dev) (x : VerState) : Nat := (d.ver.state.filter (fun p => p.2 = x)).length

/-- The verification part of a commit tick: `marked` are the circuits whose entry or path changed (R226). While the decoder is not
RUNNING the states stand (R248), and a commit that so places no circuit in PENDING is done. -/
def Dev.verifyCommit (d : Dev) (marked : List Nat) : Dev :=
  if d.dec.state ≠ .running then (d.setVer (fun v => { v with batch := v.batch ++ [[]] })).verifyDone
  else
  let gone := (d.ver.state.map (fun p => p.1)).filter (fun k => !(d.circuit false k).inUse)
  let d := each gone (fun k d => d.setVerState k .notChecked) d
  let d := each (marked.filter (fun k => !d.checkable (d.circuit false k))) (fun k d => d.setVerState k .notChecked) d
  let new := marked.filter (fun k => d.checkable (d.circuit false k))
  let d := each new (fun k d => d.enterPending k d.time.lastTick) d
  (d.setVer (fun v => { v with batch := v.batch ++ [new] })).verifyDone

/-- VERIFY_ENABLE takes effect at the tick; the states wait while the decoder is not RUNNING (R248). -/
def Dev.verifyTick (d : Dev) : Dev :=
  if d.cfg.ver.enable = d.ver.enableOn then d
  else
    let on := d.cfg.ver.enable
    let d := d.setVer (fun v => { v with enableOn := on })
    if d.dec.state ≠ .running then d else if on then d.pendAll else (d.setVer (fun v => { v with state := [] })).verifyDone

/-- The states begin anew when the decoder returns to RUNNING (R248). -/
def Dev.repend (d : Dev) : Dev := ((d.setVer (fun v => { v with state := [] })).pendAll).verifyDone

/-- VERIFY_ENABLE_WRITE. -/
def verifyEnableWrite (v : Bool) (d : Dev) : Resp × Dev :=
  (.ok, { d with cfg := { d.cfg with ver := { d.cfg.ver with enable := v } } })

def execVerifyEnableWrite (v : Bool) (s : State) : Host.Outcome State Fault Refusal := s.ask (verifyEnableWrite v)

def verifyTimeoutWrite (v : Nat) (d : Dev) : Resp × Dev :=
  if v < 250 ∨ 2000 < v then (.invalid, d)
  else (.ok, { d with cfg := { d.cfg with ver := { d.cfg.ver with timeout := v } } })

/-- VERIFY_TIMEOUT: it runs while the decoder is RUNNING (R248). -/
def verifyTimeout (k : Nat) (d : Dev) : Dev :=
  let c := d.circuit false k
  let t := 1000000 * d.cfg.ver.timeout
  let late : Bool := match d.verState k with
    | .pending => tget 0 d.ver.since k + t ≤ d.now
    | .verified => tget 0 d.ver.lastAt k + t ≤ d.now
    | _ => false
  if late ∧ d.dec.state = .running then
    (Dev.raise ((d.setVerState k .noLabel).setVer (fun v => { v with last := v.last.filter (fun p => p.1 ≠ k) })) .labelLost [k, c.tag, c.egress]).verifyDone
  else d

def execVerifyTimeout (k : BitVec 10) (s : State) : Host.Outcome State Fault Refusal := s.upd (verifyTimeout k.toNat)

end Sys2Proof.Machine
end

