-- ==== Sys2Proof/Machine/Commit.lean ====
section
/-! DEFINITION. Commits: their requests, the arming point, the commit tick and what follows it (R18, R57, R58, R209,
R214 to R223). -/

namespace Sys2Proof.Machine

/-! ## Requests -/

/-- The network time that a commit names. -/
def PendingCommit.tick (c : PendingCommit) : Nat := c.at_.total

/-- The arming point of a tick has passed: it is the tick one cycle earlier (R18). -/
def Dev.armingPassed (d : Dev) (t : Nat) : Bool := t ≤ d.time.nextTick || t < d.now + d.period

/-- COMMIT: the checks of R214 in their order. -/
def commitRequest (r : CommitReq) (d : Dev) : Resp × Dev :=
  let t := 1000000000 * r.secs.toNat + r.nanos.toNat
  let c : PendingCommit := ⟨⟨r.secs.toNat, r.nanos.toNat⟩, r.expectGen, r.group⟩
  if 1000000000 ≤ r.nanos.toNat ∨ t % d.period ≠ 0 ∨ 86400 * 1000000000 + d.now < t then (.invalid, d)
  else if d.locked = false then (.stale, d)
  else if d.armingPassed t then (.late, d)
  else if d.fab.state = .pending ∨ (r.expectGen ≠ 0xFFFFFFFF ∧ r.expectGen ≠ d.circ.gen) then (.conflict, d)
  else match d.commitAhead with
    | some p => if p.tick = t ∧ d.circ.pending.isSome then (.ok, d.setCirc (fun x => { x with pending := some c })) else (.busy, d)
    | none => (.ok, d.setCirc (fun x => { x with pending := some c }))

def execCommit (req : CommitReq) (s : State) : Host.Outcome State Fault Refusal := s.ask (commitRequest req)

/-- The 16 bytes of COMMIT. -/
def commitReqOf (b : List Byte) : CommitReq := {
  secs := BitVec.ofNat 48 (field b 0 6), nanos := BitVec.ofNat 32 (field b 6 4)
  expectGen := BitVec.ofNat 32 (field b 10 4), group := BitVec.ofNat 16 (field b 14 2) }

def PendingCommit.bytes (c : PendingCommit) : List Byte := c.at_.bytes ++ be 4 c.expectGen.toNat ++ be 2 c.group.toNat

def commitWrite (b : List Byte) (d : Dev) : Resp × Dev :=
  if b.length = 16 then commitRequest (commitReqOf b) d else (.invalid, d)

/-- COMMIT_CANCEL (R215). -/
def commitCancel (v : Nat) (d : Dev) : Resp × Dev :=
  if v ≠ 1 then (.invalid, d)
  else if d.circ.armed.isSome then (.late, d)
  else match d.circ.pending with
    | none => (.noent, d)
    | some c => (.ok, d.setCirc (fun x => { x with
        pending := none
        report := { at_ := c.at_, group := c.group, result := 3, gen := x.gen, ffError := 0xFFFF
                    circuits := (d.circuits false).length } }))

def execCommitCancel (v : BitVec 8) (s : State) : Host.Outcome State Fault Refusal := s.ask (commitCancel v.toNat)

/-! ## The arming point (R57, R216) -/

/-- Elements of the map in force whose target changes. -/
def Dev.markedElems (d : Dev) : List Nat := d.used.filter (fun e => d.target false e ≠ d.target true e)

/-- Drive rows that hold one of some elements, ascending. -/
def Dev.rowsOf (d : Dev) (es : List Nat) : List Nat :=
  (List.range d.cyc.conf.rows).filter (fun r => es.any (fun e => siteRow (entryDrive (d.entry e)) = r))

/-- A word read for the comparison is poisoned. -/
def Dev.targetPoison (d : Dev) : Bool :=
  d.used.any (fun e => d.bankPoison false (targetOff e) || d.bankPoison true (targetOff e))

/-- The first cause for which the pending commit is missed; 0 for none (R216). -/
def Dev.missCause (d : Dev) (c : PendingCommit) : Nat :=
  if c.expectGen ≠ 0xFFFFFFFF ∧ c.expectGen ≠ d.circ.gen then 2
  else if d.finishedSolve = false then 3
  else if d.targetPoison then 4
  else if d.driving ∧ d.loop.state ≠ .running then 5
  else 0

/-- Jumps of the marked elements are to be made; an earlier entry of the same element is replaced. -/
def jumpsOf (old : List (Nat × Bool)) (marked : List Nat) : List (Nat × Bool) :=
  old.filter (fun p => !marked.contains p.1) ++ marked.map (fun e => (e, false))

/-- The commit is armed. -/
def Dev.armCommit (d : Dev) (c : PendingCommit) : Dev :=
  let marked := d.markedElems
  let rows := d.rowsOf marked
  let d := each marked (fun e d => d.abortSweep e) d
  let jumps := d.driving
  -- a refit window of a marked element closes without a correction (R179)
  let d := { d with
    cyc := { d.cyc with nextScan := rows, halfRate := d.cyc.halfRate.filter (fun p => !marked.contains p.1) }
    cal := { d.cal with refits := d.cal.refits.filter (fun w => !marked.contains w.elem) } }
  d.setCirc (fun x => { x with
    pending := none
    armed := some { commit := c, marked := marked, rows := rows, jumps := jumps
                    overtaken := x.takenAt = d.ticks + 1, gen := x.gen }
    jumpDue := if jumps then jumpsOf x.jumpDue marked else x.jumpDue })

/-- ARMING_POINT: at the tick one cycle before the pending commit's. COMMIT_MISSED tells the cause and, as the controller's events of a
commit do, its GROUP (R216, R224). -/
def armingPoint (d : Dev) : Dev :=
  match d.circ.pending with
  | none => d
  | some c =>
    if d.cyc.slot ≠ 0 ∨ d.time.nextTick < c.tick then d
    else match d.missCause c with
      | 0 => d.armCommit c
      | n => (d.missCommit c n).raise .commitMissed [n, c.group.toNat]

def execArmingPoint (s : State) : Host.Outcome State Fault Refusal := s.upd armingPoint

/-! ## The commit tick (R209, R218, R219) -/

/-- Circuits of the next bank whose entry differs from the current bank's, or on whose path a cell changes state (R226). -/
def Dev.changedCircuits (d : Dev) : List Nat :=
  ((d.paths true).filter (fun p =>
    d.entryBytes true p.1 ≠ d.entryBytes false p.1 || p.2.any (fun h => d.cell true h.cell ≠ d.cell false h.cell))).map
    (fun p => p.1)

/-- The committed fields of an element enter its record by full-word writes of the words that hold them (R219). -/
def Dev.putCommitted (d : Dev) (e : Nat) : Dev :=
  let w := ((d.record e).take (d.committed false e)).words
  d.mem (fun m => (m.putWord (recAddr e) (w.getD 0 0)).putWord (recAddr e + 24) (w.getD 3 0))

/-- Firmware writes the committed fields of marked elements into their records and sets JUMP_PENDING (R219). -/
def Dev.fieldsLater (d : Dev) (marked : List Nat) : Dev :=
  let d := each marked (fun e d => (d.putCommitted e).setJump e true .core) d
  d.setCirc (fun x => { x with jumpDue := x.jumpDue.filter (fun p => !marked.contains p.1) })

/-- The next bank becomes current: the physical banks exchange roles, and nothing of the new next bank is written. -/
def Dev.swapBanks (d : Dev) (a : Armed) : Dev :=
  let n := (d.circuits true).length
  d.setCirc (fun x => { x with
    physical := 1 - x.physical, written := some [], committedGen := x.gen, digestDue := true, armed := none })
  |>.setCirc (fun x => { x with committing := x.committing ++ [(d.ticks, { a with gen := x.gen, circuits := n })]
                                ffDue := x.ffDue ++ [(d.ticks + 256, a.commit.at_, a.marked)] })

/-- Words of the bank that the copy has not reached go to the next bank, marks and all (R209, R380). -/
def Mem.copyBank (m : Mem) (src dst : Nat) (written : List Nat) : Mem :=
  let size := 0x48000
  let todo (base a : Nat) : Bool := base ≤ a && a < base + size && !written.contains (wordOf (a - base))
  let m1 := m.blank (todo dst)
  let m2 := each (m.cells.filter (fun c => todo src c.1)) (fun c m => m.setCell (c.1 - src + dst) c.2) m1
  each (m.poison.filter (fun c => todo src c.1)) (fun c m => m.mark (c.1 - src + dst) true) m2

/-- The pending copy of the current bank into the next bank is completed. -/
def Dev.finishCopy (d : Dev) : Dev :=
  match d.circ.written with
  | none => d
  | some l =>
    (d.mem (fun m => m.copyBank (bankAddr d.curBank) (bankAddr d.nextBank) l)).setCirc (fun x => { x with written := none })

/-- BANK_COPY: the Circuit Tables finish the copy within 1 ms of the commit tick. -/
def bankCopy (d : Dev) : Dev := d.finishCopy

def execBankCopy (s : State) : Host.Outcome State Fault Refusal := s.upd bankCopy

/-- Action 4 of a tick (R17): an armed commit takes place. A copy that is still under way is completed before. -/
def Dev.commitTick (d : Dev) : Dev :=
  match d.circ.armed with
  | none => { d with cyc := { d.cyc with scan := [], nextScan := [] } }
  | some a =>
    let changed := d.changedCircuits
    let d := (d.finishCopy).swapBanks a
    let d := { d with
      cyc := { d.cyc with scan := a.rows, nextScan := [], lastChanged := a.rows.length }
      cal := { d.cal with commitTick := d.ticks + 1 } }
    let d := if a.jumps && d.driving then d else d.fieldsLater a.marked
    d.verifyCommit changed

/-- BANK_DIGEST is formed anew by tick T+1 (R218). -/
def Dev.digestTick (d : Dev) : Dev :=
  if d.circ.digestDue then
    let bank := (List.range 1024).flatMap (fun k => d.entryBytes false k)
    d.setCirc (fun x => { x with digestDue := false, bankDigest := sha384 bank })
  else d

/-- A takeover that falls in the arming cycle or in cycles T to T+2 (R223). -/
def Dev.markTakeover (d : Dev) : Dev :=
  d.setCirc (fun x => { x with
    takenAt := d.ticks + 1
    armed := x.armed.map (fun a => { a with overtaken := true })
    committing := x.committing.map (fun p => if d.ticks ≤ p.1 + 2 then (p.1, { p.2 with overtaken := true }) else p) })

/-! ## After the commit -/

/-- The report of a commit that took place (R222). -/
def Armed.report (a : Armed) : CommitReport := {
  at_ := a.commit.at_, group := a.commit.group, result := 1, rows := a.rows.length
  flags := BitVec.ofNat 8 (ofBool a.jumps + 2 * ofBool a.overtaken), marked := a.marked.length
  retries := a.retries, gen := a.gen, ffError := 0xFFFF, circuits := a.circuits }

/-- COMMIT_DONE: at tick T+3. -/
def commitDone (d : Dev) : Dev :=
  match d.circ.committing with
  | (t, a) :: l =>
    if d.ticks < t + 3 ∨ d.cyc.slot ≠ 0 then d
    else
      Dev.raise (d.setCirc (fun x => { x with committing := l, report := a.report })) .commitDone
        [a.commit.group.toNat, a.rows.length, a.marked.length]
  | [] => d

def execCommitDone (s : State) : Host.Outcome State Fault Refusal := s.upd commitDone

/-- Largest |INTEG >> 8| among the marked elements in AUTO and settled; none when there is none (R221). An element on record
hold is in HOLD (R110). -/
def Dev.ffError (d : Dev) (marked : List Nat) : Option Nat :=
  let rs := ((marked.filter (fun e => !d.onHold e)).map d.record).filter (fun r => r.mode = 0 && r.flag fSettled)
  match rs with
  | [] => none
  | _ => some (rs.foldl (fun m r => max m (shr r.integ 8).natAbs) 0)

/-- FF_ERROR_RECORD: at tick T+256 FF_ERROR_MAX enters the report, when that still is the commit's. A largest error that the
field cannot hold, or of no element at all, is a free value (log entry 4). -/
def ffErrorRecord (d : Dev) : Dev :=
  match d.circ.ffDue with
  | (t, at_, marked) :: l =>
    if d.ticks < t ∨ d.cyc.slot ≠ 0 then d
    else
      let v := match d.ffError marked with
        | some m => if m ≤ 0xFFFF then (m, d) else (d.draw.1 % 0x10000, d.draw.2)
        | none => (d.draw.1 % 0x10000, d.draw.2)
      v.2.setCirc (fun x => { x with
        ffDue := l
        report := if x.report.at_ = at_ ∧ x.report.result = 1 then { x.report with ffError := v.1 } else x.report })
  | [] => d

def execFfErrorRecord (s : State) : Host.Outcome State Fault Refusal := s.upd ffErrorRecord

/-! ## What the objects show -/

/-- COMMIT_STATE: a pending or armed commit shows before one that is still committing. -/
def Dev.commitState (d : Dev) : Nat :=
  if d.circ.armed.isSome then 2 else if d.circ.pending.isSome then 1 else if d.circ.committing ≠ [] then 3 else 0

def CommitReport.bytes (r : CommitReport) : List Byte :=
  r.at_.bytes ++ be 2 r.group.toNat ++ be 1 r.result ++ be 1 r.cause ++ be 1 r.rows ++ be 1 r.flags.toNat
    ++ be 2 r.marked ++ be 2 r.retries ++ be 4 r.gen.toNat ++ be 2 r.ffError ++ be 2 r.circuits ++ be 4 0

end Sys2Proof.Machine
end

