-- ==== Sys2Proof/Machine/Decoder.lean ====
section
/-! DEFINITION. The Label Decoder: lost labels, tone pairs, start and stop (R232, R236, R248). -/

namespace Sys2Proof.Machine

/-! ## LABEL_GONE (R236) -/

/-- No good decode of the current label for 240 ms: it is lost, and an ingress channel posts GONE. -/
def labelGone (t j : Nat) (d : Dev) : Dev :=
  let x := d.chan t j
  match x.current with
  | none => d
  | some c =>
    if d.now < 240000000 + c.lastEnd ∨ d.dec.state ≠ .running then d
    else
      let d := d.setChan t j { x with current := none, lost := some c }
      if t % 2 = 0 then d.notify 2 j (t / 2) c.key 0 0xFFFF c.lastStart else d

def execLabelGone (chan : BitVec 11) (pair : Fin 8) (s : State) : Host.Outcome State Fault Refusal :=
  s.upd (labelGone chan.toNat pair)

/-- TAP_LABEL (R251): the current label of the lowest pair, else the lost one. -/
def Dev.tapLabel (d : Dev) (t : Nat) : List Byte :=
  let show_ (state : Nat) (j : Nat) (c : CurLabel) : List Byte :=
    be 3 c.key.toNat ++ be 1 j ++ be 2 c.level ++ be 1 state ++ be 1 (c.status.getD 0)
  match (List.range 8).findSome? (fun j => (d.chan t j).current.map (fun c => show_ 1 j c)) with
  | some b => b
  | none => ((List.range 8).findSome? (fun j => (d.chan t j).lost.map (fun c => show_ 2 j c))).getD (List.replicate 8 0)

/-! ## Pairs (R232) -/

def Dev.pairs (d : Dev) : List Pair := (List.range 8).map d.pair

/-- What a channel has of a pair that is not ACTIVE: its labels, no sums, streams or decode. -/
def PairChan.pause (x : PairChan) : PairChan := { x with now := {}, ahead := {}, quarters := [], streams := [[], [], [], []], decode := none }

/-- Channels of pairs that are not ACTIVE do not decode (R232). -/
def Dev.pausePairs (d : Dev) : Dev :=
  d.setDec (fun c => { c with
    chans := (c.chans.map (fun p => (p.1, if d.pairActive (p.1 % 8) then p.2 else p.2.pause))).filter (fun p => p.2 ≠ {}) })

/-- At a tick the pairs take their states; LABEL_PAIR_SUSPENDED for each that ceases to meet its conditions. -/
def Dev.pairTick (d : Dev) : Dev :=
  let d := d.setDec (fun c => { c with oldEnable := [] })
  let active := activePairs d.period d.pairs
  let d := iter (fun j d =>
    let new : PairState := if !(d.pair j).on then .off else if active.contains j then .active else .suspended
    let fell : Bool := new = .suspended && tget .off d.dec.pairState j ≠ .suspended
    (d.setDec (fun c => { c with pairState := tset .off c.pairState j new })).raiseIf fell .labelPairSuspended) 8 0 d
  d.pausePairs

/-- PAIR_WRITE: refused when the pair, enabled, or an ACTIVE pair beside it would fail the conditions. -/
def pairWrite (j f0 f1 : Nat) (on : Bool) (d : Dev) : Resp × Dev :=
  let x : Pair := ⟨f0, f1, on⟩
  let now := activePairs d.period d.pairs
  let after := activePairs d.period (splice d.pairs j [x])
  if (on ∧ after.contains j = false) ∨ now.any (fun k => k ≠ j && !after.contains k) then (.invalid, d)
  else
    let old := d.pairOn j
    (.ok, (d.setDec (fun c => { c with oldEnable := if (tfind c.oldEnable j).isSome then c.oldEnable else c.oldEnable ++ [(j, old)] })).setDecCfg
      (fun c => { c with
        f0 := tset 0 c.f0 j (BitVec.ofNat 32 f0), f1 := tset 0 c.f1 j (BitVec.ofNat 32 f1), enable := tset false c.enable j on }))

def execPairWrite (pair : Fin 8) (f0 f1 : BitVec 32) (enable : Bool) (s : State) : Host.Outcome State Fault Refusal :=
  s.ask (pairWrite pair f0.toNat f1.toNat enable)

/-! ## Start and stop (R248) -/

/-- DECODER_STOP: STOPPING at the next tick; it cancels a pending restart, and changes nothing while STOPPING (R337). -/
def decoderStop (d : Dev) : Resp × Dev :=
  (.ok, (d.setDecCfg (fun c => { c with control := 0 })).setDec (fun c =>
    match c.state with
    | .restartPending => { c with state := .stopping }
    | .stopping => { c with due := none }
    | _ => { c with due := some 0 }))

/-- DECODER_START. -/
def decoderStart (d : Dev) : Resp × Dev :=
  (.ok, (d.setDecCfg (fun c => { c with control := 1 })).setDec (fun c =>
    if c.state = .stopping then { c with state := .restartPending } else { c with due := some 1 }))

def execDecoderStop (s : State) : Host.Outcome State Fault Refusal := s.ask decoderStop
def execDecoderStart (s : State) : Host.Outcome State Fault Refusal := s.ask decoderStart

def decoderControlWrite (v : Nat) (d : Dev) : Resp × Dev :=
  match v with
  | 0 => decoderStop d
  | 1 => decoderStart d
  | _ => (.invalid, d)

/-- Ticks of quarter-bit q up to a tick, at one cycle period. -/
def ticksIn (period q upTo : Nat) : Nat :=
  min (upTo / period + 1) ((500000 * (q + 1) + period - 1) / period) - (500000 * q + period - 1) / period

/-- DECODER_RESUME: HIT is set everywhere, sums begin anew, checkable circuits enter PENDING and the others are not checked. -/
def Dev.resumeDecoder (d : Dev) : Dev :=
  let t := d.time.lastTick
  let q := t / 500000
  (d.setDec (fun c => { c with
    state := .running, quarter := q, chans := [], ticksNow := ticksIn d.period q t, ticksAhead := 0
    tickCounts := (List.range 3).map (fun i => ticksIn d.period (q - 1 - i) t) })).hitAll.repend

/-- The decoder leaves RUNNING: current labels and last posted statuses are cleared. -/
def Dev.leaveDecoder (d : Dev) (x : DecoderState) : Dev := (d.setDec (fun c => { c with state := x })).clearLabels

/-- The tick's part: IDLE without a readout in RUN or a map; else what was written takes effect. -/
def Dev.decoderTick (d : Dev) : Dev :=
  let due := d.dec.due
  let d := d.setDec (fun c => { c with due := none })
  let live : Bool := d.rd.state = .run && d.fab.image ≠ []
  if !live then (if d.dec.state = .idle then d else (d.setDec (fun c => { c with state := .idle, chans := [] })))
  else match d.dec.state with
    | .idle => if d.cfg.dec.control = 1 then d.resumeDecoder else d.setDec (fun c => { c with state := .stopped })
    | .running => if due = some 0 then d.leaveDecoder .stopping else d
    | .stopped => if due = some 1 then d.resumeDecoder else d
    | _ => d

/-- DECODER_STOPPED: at the first tick after the last decode has ended. -/
def decoderStopped (d : Dev) : Dev :=
  if d.cyc.slot ≠ 0 ∨ d.dec.chans.any (fun p => p.2.decode.isSome) then d
  else match d.dec.state with
    | .stopping => d.setDec (fun c => { c with state := .stopped, chans := [] })
    | .restartPending => d.resumeDecoder
    | _ => d

def execDecoderStopped (s : State) : Host.Outcome State Fault Refusal := s.upd decoderStopped

/-! ## Settings (R251) -/

def minLevelWrite (v : Nat) (d : Dev) : Resp × Dev := (.ok, d.setDecCfg (fun c => { c with minLevel := v }))
def learnModeWrite (v : Nat) (d : Dev) : Resp × Dev :=
  if 1 < v then (.invalid, d) else (.ok, d.setDecCfg (fun c => { c with learnMode := v }))
def learnRepostWrite (v : Nat) (d : Dev) : Resp × Dev :=
  if v = 0 ∨ (100 ≤ v ∧ v ≤ 60000) then (.ok, d.setDecCfg (fun c => { c with learnRepost := v })) else (.invalid, d)

end Sys2Proof.Machine
end

