-- ==== Sys2Proof/Machine/Rotation.lean ====
section
/-! DEFINITION. Column calibration by spare rotation (R37, R38, R167 to R173). -/

namespace Sys2Proof.Machine

/-! ## Which column is next (R167, R172) -/

/-- A group is in the rotation: its spare is neither in permanent duty nor failed. -/
def Dev.inRotation (d : Dev) (g : Nat) : Bool := d.spareFree g

/-- A column takes steps: it is enabled for drive and monitor, and neither its driver nor its chain has failed. -/
def Dev.columnFit (d : Dev) (c : Nat) : Bool :=
  d.driveOn c && d.monitorOn c && !tget false d.drv.failedDriver c && !tget false d.drv.failedChain c

def Dev.rotPos (d : Dev) (g : Nat) : Nat := tget 0 d.cal.rotPos g
def Dev.setRotPos (d : Dev) (g p : Nat) : Dev := d.setCal (fun c => { c with rotPos := tset 0 c.rotPos g p })

/-- The step of a group that is in progress. -/
def Dev.stepOf (d : Dev) (g : Nat) : Option RotStep := tfind d.cal.rotStep g
def Dev.waitOf (d : Dev) (g : Nat) : Option RotWait := tfind d.cal.rotWait g

/-- Column of the group's next step from position p on: a requested one first, none for the spare's own step. A column that takes
no steps is skipped, requested or not. -/
def Dev.nextColumn (d : Dev) (g p : Nat) : Option Nat :=
  match (tfind d.cal.rotRequest g).filter d.columnFit with
  | some c => some c
  | none =>
    match firstWhere (fun k => (p + k) % 33 = 32 || d.columnFit (32 * g + (p + k) % 33)) 33 0 with
    | some k => if (p + k) % 33 = 32 then none else some (32 * g + (p + k) % 33)
    | none => none

/-- A move or return is deferred on a commit tick and the two after it (R171). -/
def Dev.commitDefers (d : Dev) : Bool := d.cal.commitTick ≠ 0 && d.ticks < d.cal.commitTick + 2

/-- Entries for sites of a column that are pending. -/
def Dev.pendingFor (d : Dev) (c : Nat) : List Nat := (d.rd.injects.filter (fun x => siteCol x.site = c)).map (fun x => x.id)

/-- The Calibration Unit requests the move of column c, scheduled for tick count t (R172). -/
def Dev.requestMove (d : Dev) (g c t : Nat) : Dev :=
  match d.waitOf g with
  | some w => if w.col = c then d else
      d.setCal (fun x => { x with rotWait := x.rotWait.filter (fun p => p.1 ≠ g) ++ [(g, ⟨c, t, d.pendingFor c⟩)] })
  | none => d.setCal (fun x => { x with rotWait := x.rotWait ++ [(g, ⟨c, t, d.pendingFor c⟩)] })

/-- Entries of the request that have not stored their last capture. -/
def Dev.stillPending (d : Dev) (w : RotWait) : Bool := w.entries.any (fun i => d.rd.injects.any (fun x => x.id = i))

/-! ## Steps (R168) -/

/-- A step begins: the column moves to the spare, with the correction set of its gain (R169), or the spare's own step. -/
def Dev.enterStep (d : Dev) (g : Nat) (col : Option Nat) : Dev :=
  let d := d.setCal (fun x => { x with
    rotStep := x.rotStep.filter (fun p => p.1 ≠ g) ++ [(g, { count := 0, col := col })]
    rotWait := x.rotWait.filter (fun p => p.1 ≠ g) })
  match col with
  | none => d.setRotPos g 32
  | some c =>
    let d := (d.setRotPos g (c % 32)).setCal (fun x => { x with rotRequest := x.rotRequest.filter (fun p => p ≠ (g, c)) })
    (d.moveColumn c).loadCorr (256 + g) (d.gainOf c)

/-- ROTATION_STEP_START: a group without a step takes its next one, unless its move waits or a commit defers it. -/
def Dev.startStep (d : Dev) (g : Nat) : Dev :=
  if d.cal.rotState = .running ∧ d.inRotation g ∧ d.stepOf g = none then
    match d.nextColumn g (d.rotPos g) with
    | none => (d.setCal (fun x => { x with rotWait := x.rotWait.filter (fun p => p.1 ≠ g) })).enterStep g none
    | some c =>
      let d := d.setCal (fun x => { x with rotRequest := x.rotRequest.filter (fun p => p.1 ≠ g || d.columnFit p.2) })
      -- a move that no tick has requested yet is requested at this one, for the next (R172)
      let d := (d.requestMove g c (d.ticks + 1)).setRotPos g (c % 32)
      match d.waitOf g with
      | some w => if w.since ≤ d.ticks ∧ (w.entries = [] ∨ (d.ticks = w.since ∧ d.stillPending w = false)) ∧ d.commitDefers = false then d.enterStep g (some c) else d
      | none => d
  else d

/-- The rotation stops when no group has a step left, and runs again where a restart is pending (R173, R337). -/
def Dev.settleRotation (d : Dev) : Dev :=
  let idle := (List.range 8).all (fun g => d.stepOf g = none)
  match d.cal.rotState with
  | .stopping => if idle then d.setCal (fun c => { c with rotState := .stopped, rotWait := [] }) else d
  | .restartPending =>
    if idle then iter (fun g d => d.startStep g) 8 0 (d.setCal (fun c => { c with rotState := .running, rotWait := [] })) else d
  | _ => d

/-- A group at a tick: its step counts on, the next move is requested one cycle ahead, a free group takes its step. -/
def Dev.rotateGroup (d : Dev) (g : Nat) : Dev :=
  match d.stepOf g with
  | none => d.startStep g
  | some s =>
    let n := s.count + 1
    let d := d.setCal (fun x => { x with rotStep := x.rotStep.map (fun p => if p.1 = g then (g, { p.2 with count := n }) else p) })
    if n = 255 ∧ d.cal.rotState = .running then
      match d.nextColumn g ((d.rotPos g + 1) % 33) with
      | some c => d.requestMove g c (d.ticks + 1)
      | none => d
    else d

/-- The tick's part: frozen while the readout is not in RUN (R173). -/
def Dev.rotationTick (d : Dev) : Dev :=
  if d.cal.rotState = .stopped ∨ d.rd.state ≠ .run then d
  else (iter (fun g d => d.rotateGroup g) 8 0 d).settleRotation

/-- ROTATION_STATE: 4 SUSPENDED while the readout is not in RUN. -/
def Dev.rotationShown (d : Dev) : Nat :=
  match d.cal.rotState with
  | .stopped => 0
  | s => if d.rd.state ≠ .run then 4 else match s with
    | .running => 1 | .stopping => 2 | _ => 3

/-- ROTATION_POSITION: 0xFF out of the rotation. -/
def Dev.positionShown (d : Dev) (g : Nat) : Nat := if d.inRotation g then d.rotPos g else 0xFF

/-! ## The measurement time line (R81, R91, R168) -/

/-- TDAC code at 75 % of full scale of a gain. -/
def chainTdac (g : Nat) : Nat := if g = 0 then 50332 else if g = 1 then 12583 else 3146

/-- Cycle of a group's turn at the TDAC, 0 to 30: from Q + 4 + 31 g to Q + 34 + 31 g. -/
def Dev.tdacTurn (d : Dev) (g : Nat) : Option Nat :=
  match d.stepOf g with
  | some s => if 4 + 31 * g ≤ s.count ∧ s.count ≤ 34 + 31 * g then some (s.count - (4 + 31 * g)) else none
  | none => none

/-- Group that has the TDAC: where a deferral makes two turns meet, the lower keeps it. -/
def Dev.tdacOwner (d : Dev) : Option Nat := firstWhere (fun g => (d.tdacTurn g).isSome) 8 0

/-- Driver code of a turn's cycle: 1,024, then 15,360, for half of the 16 cycles each (DESIGN CHOICE, log entry 106: R168 gives
the two codes and the cycles +2 to +17, not where the first ends). -/
def turnCode (k : Nat) : Option Nat :=
  if 2 ≤ k ∧ k ≤ 9 then some 1024 else if 10 ≤ k ∧ k ≤ 17 then some 15360 else none

/-- TDAC code of a turn's cycle while the chain is measured: at each gain two cycles of settling, one at 0 and one at 75 %. -/
def turnTdac (k : Nat) : Option Nat :=
  if k < 18 ∨ 29 < k then none
  else if (k - 18) % 4 = 2 then some 0 else if (k - 18) % 4 = 3 then some (chainTdac ((k - 18) / 4)) else none

/-- The units of driver c are under measurement in a step of its group. -/
def Dev.underTest (d : Dev) (c : Nat) : Bool :=
  let g := if c < 256 then c / 32 else c - 256
  match d.stepOf g with
  | some s => s.col.getD (256 + g) = c
  | none => false

/-- A standby's self-test (R355): the unit of a group that is displaced for 64 cycles, in the order of R167. -/
def Dev.selfUnit (d : Dev) (g : Nat) : Nat := if d.tow.selfStep / 64 < 32 then 32 * g + d.tow.selfStep / 64 else 256 + g

/-- The group that the TDAC serves in the self-test's present cycle, and the cycle of its eight: two for the driver, two for each gain of
its chain. -/
def Dev.selfTurn (d : Dev) : Nat × Nat := (d.tow.selfStep % 64 / 8, d.tow.selfStep % 8)

/-- Code that the Calibration Unit gives driver c, displaced or on its reference pad (R91): that of the time line, and one that
no rule states outside it; in a standby that of the self-test. -/
def Dev.unitCode (d : Dev) (c : Nat) : Nat :=
  let g := if c < 256 then c / 32 else c - 256
  let k : Option Nat :=
    if d.tow.role = 1 then
      (if d.selfTurn.1 = g ∧ d.selfUnit g = c ∧ d.selfTurn.2 < 2 then some (if d.selfTurn.2 = 0 then 1024 else 15360) else none)
    else if d.underTest c ∧ d.tdacOwner = some g then (d.tdacTurn g).bind turnCode else none
  k.getD (Config.calCode c).toNat

/-- Code at the output of driver c, 0 to 263 (R35, R91): a displaced driver and a spare on its reference pad take the Calibration
Unit's codes only, whatever state the column is in; another driver its own column's, and a spare that stands in that of its column.
None at high impedance. -/
def Dev.driverCode (d : Dev) (c : Nat) : Option Nat :=
  if d.driving = false then none
  else if c < 256 then (if d.onSpare c then some (d.unitCode c) else d.padCode c)
  else match d.standInOf (c - 256) with
    | some x => d.padCode x
    | none => some (d.unitCode c)

/-! ## Where the TDAC is (R80, R81) -/

/-- The TDAC's route, group and code in the present cycle: the self-test's in a standby (of its driver checks no code is stated), the host's while the rotation is stopped, else the chain of the group
whose turn it is, at the code of the turn's cycle; none in the cycles in which the comparator tries codes or nobody has it. -/
def Dev.tdacNow (d : Dev) : Option (Nat × Nat × Nat) :=
  if d.tow.role = 1 then (if d.selfTurn.2 < 2 then none else some (2, d.selfTurn.1, chainTdac (d.selfTurn.2 / 2 - 1)))
  else if d.rotationStopped then some d.tdacSet
  else d.tdacOwner.bind (fun g => ((d.tdacTurn g).bind turnTdac).map (fun v => (2, g, v)))

/-- Chain of a group that is displaced: that of the column its spare stands in for, or the spare's own in its own step. -/
def Dev.displacedChain (d : Dev) (g : Nat) : Option Nat :=
  if d.tow.role = 1 then some (d.selfUnit g) else
  match d.standInOf g with
  | some c => some c
  | none => match d.stepOf g with
    | some s => if s.col = none then some (256 + g) else none
    | none => none

/-- Charge that the TDAC injects into a chain in every slot the chain would convert (R80): 160 fF * code * 2.5 V / 65,536, in units of
1 / 65,536 fC; nothing into a chain that is not the displaced one of the group named. -/
def Dev.injectedCharge (d : Dev) (chain : Nat) : Nat :=
  match d.tdacNow with
  | some (2, g, code) => if d.displacedChain g = some chain then 400 * code else 0
  | _ => 0

/-! ## ROTATION_STEP_END (R169, R170) -/

/-- Correction of a converter at gain g from the sums of raw codes: CONV_OFFSET and CONV_GAIN. The expected change is
TDAC code * 4^g * 125 / 512 raw LSB (R65, R80). -/
def corrOf (n z full g : Nat) : Int × Int :=
  (openQuot (4 * z) n, divAway ((chainTdac g * 4 ^ g * 4000 * n : Nat) : Int) ((full : Int) - z))

/-- Sums of a converter at a gain. -/
def stepSums (m : StepMeasure) (b : Bool) (g : Nat) : Nat × Nat :=
  let pick (t : Nat × Nat × Nat) : Nat := if g = 0 then t.1 else if g = 1 then t.2.1 else t.2.2
  if b then (pick m.zeroB, pick m.fullB) else (pick m.zeroA, pick m.fullA)

def stepCorr (m : StepMeasure) (b : Bool) (g : Nat) : Int × Int :=
  corrOf m.n (stepSums m b g).1 (stepSums m b g).2 g

/-- A chain's values lie in their ranges (R170); a converter that measures no rise has no gain. -/
def stepChainOk (m : StepMeasure) : Bool :=
  0 < m.n && [false, true].all (fun b => (List.range 3).all (fun g =>
    let s := stepSums m b g
    let k := stepCorr m b g
    s.1 < s.2 && 128 ≤ k.1 && k.1 ≤ 384 && 0x3000 ≤ k.2 && k.2 ≤ 0x5000))
  && -128 ≤ m.skewA && m.skewA ≤ 127 && -128 ≤ m.skewB && m.skewB ≤ 127

/-- GAIN_TRIM of a driver (R86, R169): with the trim in force the output rises by 5.000 V / 65,536 for each code by which the
comparator's two results differ; the new trim makes that rise 4.375 V, which is 57,344 codes. Rounding is not stated. -/
def Dev.gainTrimOf (d : Dev) (c : Nat) (m : StepMeasure) : Int :=
  openQuot ((5000 + tget 0 d.cfg.drv.gainTrim c) * 57344) ((m.high.toNat : Int) - m.low.toNat) - 5000

/-- OFFSET_TRIM of a driver (R86, R169), in steps of 0.125 mV: what is missing to 0.5125 V at code 1,024, less what the new gain
trim moves there; about which code a gain trim turns the output is not stated (Config.gainPivot). -/
def Dev.offsetTrimOf (d : Dev) (c : Nat) (m : StepMeasure) : Int :=
  let moved := (d.gainTrimOf c m - tget 0 d.cfg.drv.gainTrim c) * (1024 - (Config.gainPivot : Int))
  tget 0 d.cfg.drv.offsetTrim c + openQuot (2 * (4198400 - 625 * (m.low.toNat : Int)) - moved) 2048

/-- A driver's comparator converged and its trims lie in their ranges (R170). -/
def Dev.stepDriverOk (d : Dev) (c : Nat) (m : StepMeasure) : Bool :=
  m.converged && m.low.toNat < m.high.toNat && -128 ≤ d.offsetTrimOf c m && d.offsetTrimOf c m ≤ 127
    && -128 ≤ d.gainTrimOf c m && d.gainTrimOf c m ≤ 127

/-- A correction takes effect, and CAL_DRIFT for each value that moved too far (R170). -/
def Dev.applyCorr (d : Dev) (x g : Nat) (k : Int × Int) : Dev :=
  let old := d.chainCorr x g
  let d := d.raiseIf (d.cfg.cal.driftOffset < (k.1 - old.1).natAbs) .calDrift
  let d := d.raiseIf (d.cfg.cal.driftGain < (k.2 - old.2).natAbs) .calDrift
  d.putCorr x g k.1 k.2.toNat

/-- A driver's trims move by more than the drift limits: the numbers of CAL_DRIFT_OFFSET and CAL_DRIFT_GAIN in the trims' own steps
(R170, R394; DESIGN CHOICE, log entry 120: R183 gives their units for a chain alone). -/
def Dev.driverDrift (d : Dev) (c : Nat) (m : StepMeasure) : Dev :=
  let d' := d.raiseIf (d.cfg.cal.driftOffset < (d.offsetTrimOf c m - tget 0 d.cfg.drv.offsetTrim c).natAbs) .calDrift
  d'.raiseIf (d.cfg.cal.driftGain < (d.gainTrimOf c m - tget 0 d.cfg.drv.gainTrim c).natAbs) .calDrift

/-- New values of a driver and chain, at the tick that ends the step; the set of the gain in force is loaded. -/
def Dev.applyStep (d : Dev) (chain : Nat) (m : StepMeasure) : Dev :=
  let d := d.driverDrift chain m
  let d := d.setDrvCfg (fun c => { c with
    offsetTrim := tset 0 c.offsetTrim chain (d.offsetTrimOf chain m), gainTrim := tset 0 c.gainTrim chain (d.gainTrimOf chain m) })
  let d := iter (fun b d => iter (fun g d => d.applyCorr (2 * chain + b) g (stepCorr m (b = 1) g)) 3 0 d) 2 0 d
  let d := d.setRdCfg (fun c => { c with
    skewTrim := tset 0 (tset 0 c.skewTrim (2 * chain) m.skewA) (2 * chain + 1) m.skewB })
  d.loadCorr chain (d.chainGain chain)

def Dev.setColStatus (d : Dev) (c v : Nat) : Dev := d.setCal (fun x => { x with colStatus := tset 0 x.colStatus c v })

/-- A unit that fails calibration (R170): a data unit keeps the spare, a spare leaves the rotation. -/
def Dev.failStep (d : Dev) (g : Nat) (col : Option Nat) (m : StepMeasure) : Dev :=
  let c := col.getD (256 + g)
  let ok := d.stepDriverOk c m
  let d := d.setColStatus c (if ok then 2 else 1)
  let d := match col with
    | none => d.setDrv (fun v => { v with spareFailed := tset false v.spareFailed g true })
    | some c =>
      let d := d.setDrv (fun v => { v with
        failedDriver := if ok then v.failedDriver else tset false v.failedDriver c true
        failedChain := if stepChainOk m then v.failedChain else tset false v.failedChain c true })
      d.permanentSpare c
  d.raise .columnCalFail

/-- ROTATION_STEP_END: after 256 cycles, at the tick at which the column returns; the next step's move is at the same tick. -/
def rotationStepEnd (g : Nat) (m : StepMeasure) (d : Dev) : Dev :=
  match d.stepOf g with
  | none => d
  | some s =>
    if s.count < 256 ∨ d.cyc.slot ≠ 0 ∨ d.rd.state ≠ .run ∨ (s.col.isSome ∧ d.commitDefers) then d
    else
      let ok := d.stepDriverOk (s.col.getD (256 + g)) m && stepChainOk m
      let d := d.setCal (fun x => { x with rotStep := x.rotStep.filter (fun p => p.1 ≠ g) })
      let d := if ok then
          let d := if s.col.isSome then d.returnColumn g else d
          (d.applyStep (s.col.getD (256 + g)) m).setColStatus (s.col.getD (256 + g)) 0
        else d.failStep g s.col m
      ((d.setRotPos g ((d.rotPos g + 1) % 33)).startStep g).settleRotation

def execRotationStepEnd (g : Fin 8) (m : StepMeasure) (s : State) : Host.Outcome State Fault Refusal :=
  s.upd (rotationStepEnd g m)

/-! ## Waiting moves and host requests (R172) -/

/-- SPARE_MOVE_DEFERRED: at the tick after the last of the pending entries has completed. -/
def spareMoveDeferred (g : Nat) (d : Dev) : Dev :=
  match d.waitOf g with
  | none => d
  | some w =>
    if d.cal.rotState = .running ∧ d.rd.state = .run ∧ d.stepOf g = none ∧ d.inRotation g ∧ d.cyc.slot = 0
        ∧ w.since ≤ d.ticks ∧ d.columnFit w.col ∧ d.stillPending w = false ∧ d.commitDefers = false then d.enterStep g (some w.col)
    else d

def execSpareMoveDeferred (g : Fin 8) (s : State) : Host.Outcome State Fault Refusal := s.upd (spareMoveDeferred g)

/-- CAL_COLUMN_SKIPPED: a column that would wait more than 4,096 cycles. COLUMN_CAL_STATUS becomes 3 SKIPPED here alone: of a column
that R167 passes over as disabled the status stays as it was (DESIGN CHOICE, log entry 121). -/
def calColumnSkipped (g : Nat) (d : Dev) : Dev :=
  match d.waitOf g with
  | none => d
  | some w =>
    if d.cal.rotState = .running ∧ d.rd.state = .run ∧ d.stepOf g = none ∧ d.cyc.slot = 0 ∧ d.stillPending w
        ∧ w.since + 4096 ≤ d.ticks then
      let d := Dev.raise (d.setColStatus w.col 3) .calColumnSkipped
      let d := d.setCal (fun x => { x with
        rotWait := x.rotWait.filter (fun p => p.1 ≠ g), rotRequest := x.rotRequest.filter (fun p => p ≠ (g, w.col)) })
      (d.setRotPos g ((w.col % 32 + 1) % 33)).startStep g
    else d

def execCalColumnSkipped (g : Fin 8) (s : State) : Host.Outcome State Fault Refusal := s.upd (calColumnSkipped g)

/-- CAL_COLUMN_REQUEST: the column is its group's next step. -/
def calColumnRequest (c : Nat) (d : Dev) : Resp × Dev :=
  if 255 < c then (.invalid, d)
  else if d.columnFit c = false ∨ d.inRotation (c / 32) = false then (.conflict, d)
  else (.ok, d.setCal (fun x => { x with rotRequest := x.rotRequest.filter (fun p => p.1 ≠ c / 32) ++ [(c / 32, c)] }))

def execCalColumnRequest (col : BitVec 16) (s : State) : Host.Outcome State Fault Refusal := s.ask (calColumnRequest col.toNat)

/-! ## Start and stop (R173) -/

def Dev.rotationWrite (d : Dev) (v : Nat) (f : RunState → RunState) : Dev :=
  (d.setCalCfg (fun c => { c with rotation := v })).setCal (fun c => { c with rotState := f c.rotState })

/-- CAL_ROTATION_STOP: STOPPING, or a pending restart cancelled. -/
def calRotationStop (d : Dev) : Resp × Dev :=
  (.ok, d.rotationWrite 0 (fun s => if s = .running ∨ s = .restartPending then .stopping else s))

/-- CAL_ROTATION_START: RUNNING, or a restart pending. -/
def calRotationStart (d : Dev) : Resp × Dev :=
  (.ok, d.rotationWrite 1 (fun s => if s = .stopped then .running else if s = .stopping then .restartPending else s))

def execCalRotationStop (s : State) : Host.Outcome State Fault Refusal := s.ask calRotationStop
def execCalRotationStart (s : State) : Host.Outcome State Fault Refusal := s.ask calRotationStart

def calRotationWrite (v : Nat) (d : Dev) : Resp × Dev :=
  match v with
  | 0 => calRotationStop d
  | 1 => calRotationStart d
  | _ => (.invalid, d)

end Sys2Proof.Machine
end

