-- ==== Sys2Proof/Machine/Scrub.lean ====
section
/-! DEFINITION. The Scrubber and the background pass of the Circuit Tables (R382 to R385). -/

namespace Sys2Proof.Machine

/-- A pass begins at START: its summary is cleared (R384). -/
def startPass (d : Dev) : Dev :=
  { d with memory := { d.memory with
    scrubState := .running
    scrubNext := d.cfg.mem.scrubStart
    scrub := { start := d.cfg.mem.scrubStart, stop := d.cfg.mem.scrubEnd, firstFail := 0xFFFFFFFF, lastFail := 0xFFFFFFFF,
               status := 1 } } }

/-- A pass ends with the status (R384, R385); a restart pending begins a new pass (R337). -/
def endPass (status : Nat) (d : Dev) : Dev :=
  let again := d.memory.scrubState = .restartPending
  let d := { d with memory := { d.memory with
    scrubState := .stopped, scrub := { d.memory.scrub with status := status, finish := timeOf d.now } } }
  let d := d.raise .scrubDone
  if again then startPass d else d

/-- The summary after the word at a (R384): errors corrected or found before and after, poison already there. -/
def tally (b : ScrubSummary) (a : Nat) (ce ue seen : Bool) : ScrubSummary :=
  { b with
    read := b.read + 1, corrected := b.corrected + ofBool ce, uncorrectable := b.uncorrectable + ofBool ue
    poisonSeen := b.poisonSeen + ofBool seen
    firstFail := if (ce || ue) && b.firstFail = 0xFFFFFFFF then a else b.firstFail
    lastFail := if ce || ue then a else b.lastFail }

/-- Corrected and uncorrectable errors counted so far in all regions: a read's outcome shows in them. -/
def Dev.errorCounts (d : Dev) (a : Nat) : BitVec 32 × BitVec 32 :=
  (tget 0 d.memory.ce ((regionOf a).getD 9), tget 0 d.memory.ue ((regionOf a).getD 9))

/-- SCRUB_READ (R382, R383): the next word of the pass is read; after the last word, or under a stop, the pass ends. -/
def scrubRead (flips : List Nat) (d : Dev) : Dev :=
  if d.memory.scrubState = .stopped then d else
  let a := d.memory.scrubNext
  let seen := d.sram.poisoned a
  let before := d.errorCounts a
  let d := d.readWord a .scrubber flips
  let after := d.errorCounts a
  let d := { d with memory := { d.memory with
    scrubNext := a + 8
    scrub := tally d.memory.scrub a (before.1 ≠ after.1) (before.2 ≠ after.2) seen } }
  if d.memory.scrubState ≠ .running then endPass 3 d
  else if d.memory.scrub.stop ≤ a then endPass 2 d else d

def execScrubRead (flips : List Nat) (s : State) : Host.Outcome State Fault Refusal := s.upd (scrubRead flips)

/-- BANK_STORE_SCRUB_READ (R382): the Circuit Tables read the next word of region 8, round and round. -/
def bankStoreScrubRead (flips : List Nat) (d : Dev) : Dev :=
  let a := d.memory.bankNext
  let d := d.readWord a .circuitTables flips
  { d with memory := { d.memory with bankNext := if a + 8 < 0xA90000 then a + 8 else 0xA00000 } }

def execBankStoreScrubRead (flips : List Nat) (s : State) : Host.Outcome State Fault Refusal :=
  s.upd (bankStoreScrubRead flips)

def Dev.setScrubControl (d : Dev) (v : Nat) : Dev := { d with cfg := { d.cfg with mem := { d.cfg.mem with scrubControl := v } } }
def Dev.setScrubState (d : Dev) (x : RunState) : Dev := { d with memory := { d.memory with scrubState := x } }

/-- A host's start (R382, R385, R337). -/
def scrubStart (d : Dev) : Resp × Dev :=
  if d.cfg.mem.scrubAuto then (.conflict, d) else
  match d.memory.scrubState with
  | .stopped => (.ok, startPass (d.setScrubControl 1))
  | .running => (.conflict, d)
  | .stopping | .restartPending => (.ok, (d.setScrubControl 1).setScrubState .restartPending)

def execScrubStart (s : State) : Host.Outcome State Fault Refusal := s.ask scrubStart

/-- A host's stop (R382, R385, R337): the pass ends after the word in progress. -/
def scrubStop (d : Dev) : Resp × Dev :=
  if d.cfg.mem.scrubAuto then (.conflict, d) else
  match d.memory.scrubState with
  | .stopped => (.ok, d.setScrubControl 0)
  | .running | .stopping | .restartPending => (.ok, (d.setScrubControl 0).setScrubState .stopping)

def execScrubStop (s : State) : Host.Outcome State Fault Refusal := s.ask scrubStop

def scrubControlWrite (v : Nat) (d : Dev) : Resp × Dev :=
  if v = 0 then scrubStop d else if v = 1 then scrubStart d else (.invalid, d)

/-- SCRUB_AUTO_PASS (R382): firmware starts a pass over the whole map when the Scrubber is STOPPED. -/
def scrubAutoPass (d : Dev) : Dev :=
  if d.cfg.mem.scrubAuto ∧ d.memory.scrubState = .stopped then
    startPass { d with cfg := { d.cfg with mem := { d.cfg.mem with scrubStart := 0, scrubEnd := 0x97FFF8 } } }
  else d

def execScrubAutoPass (s : State) : Host.Outcome State Fault Refusal := s.upd scrubAutoPass

/-- SCRUB_RANGE written (R390): idle while STOPPED; multiples of 8 within regions 0 to 7, start no higher than end. -/
def scrubRangeWrite (l : List Byte) (d : Dev) : Resp × Dev :=
  let a := field l 0 4
  let b := field l 4 4
  if a % 8 ≠ 0 ∨ b % 8 ≠ 0 ∨ 0x97FFF8 < a ∨ 0x97FFF8 < b ∨ b < a then (.invalid, d)
  else (.ok, { d with cfg := { d.cfg with mem := { d.cfg.mem with scrubStart := a, scrubEnd := b } } })

end Sys2Proof.Machine
end

