-- ==== Sys2Proof/Machine/Links.lean ====
section
/-! DEFINITION. Lanes coming up and going down, HELLO, plane-B entries, orderly lane stops (R254, R255, R261, R265, R267,
R271, R274, R276). -/

namespace Sys2Proof.Machine

/-! ## Route entries -/

/-- The lowest entry number that is free among 512 (R273). -/
def freeRoute (t : Tab (Option Route)) : Option Nat := firstWhere (fun r => (tget none t r).isNone) 512 0

def Dev.setRoutes (d : Dev) (t : Tab (Option Route)) : Dev := { d with net := { d.net with routes := t } }

/-- An entry is installed under the lowest free number. -/
def Dev.addRoute (d : Dev) (r : Route) : Dev :=
  match freeRoute d.net.routes with
  | some k => d.setRoutes (tset none d.net.routes k (some r))
  | none => d

/-- The entries that p picks are removed. -/
def Dev.dropRoutes (d : Dev) (p : Route → Bool) : Dev :=
  d.setRoutes (d.net.routes.filter (fun e => match e.2 with | some r => !p r | none => false))

def Dev.routeList (d : Dev) : List Route := d.net.routes.filterMap (fun e => e.2)

/-! ## HELLO (R261) -/

/-- B_SPAN: the smallest range that covers the blocks of the plane-B children; 0xFFFF, 0x0000 when there is none. -/
def Dev.bSpan (d : Dev) : Nat × Nat :=
  each ((d.downlinks true).filter (fun l => (d.lane l).peerAddress ≠ 0))
    (fun l b => (min b.1 (d.lane l).peerAddress, max b.2 (max (d.lane l).peerAddress (d.lane l).peerBlockHigh))) (0xFFFF, 0)

/-- Address of the plane-A parent: the peer on SL0 of a controller that is not a Dome. -/
def Dev.parentA (d : Dev) : Nat := if d.domeEn then 0 else if (d.lane 0).heard then (d.lane 0).peerAddress else 0

def Role.code (r : Role) : Nat :=
  match r with | .unassigned => 0 | .dome => 1 | .turret => 2 | .finial => 3

def Dev.helloPayload (d : Dev) (l : Nat) : List Byte :=
  be 2 d.net.address ++ be 1 l ++ be 1 d.net.role.code
    ++ be 1 (ofBool d.domeEn + 2 * ofBool d.chainEn + 16 * d.unit) ++ be 1 d.net.depth ++ be 2 d.parentA
    ++ be 2 d.bSpan.1 ++ be 2 d.bSpan.2 ++ be 2 d.net.blockHigh ++ be 4 d.net.enumGen.toNat ++ List.replicate 6 0

/-- HELLO_SEND: an enabled lane sends HELLO, class 2, DEST 0x0000, once a period. -/
def helloSend (l : Nat) (d : Dev) : Dev :=
  match (d.lane l).state with
  | .down | .locked | .up => d.sendLocal l 2 0 0 false (d.helloPayload l)
  | .disabled | .stopping | .restartPending => d

def execHelloSend (lane : Fin 96) (s : State) : Host.Outcome State Fault Refusal := s.upd (helloSend lane)

/-! ## Plane-B entries (R265) -/

/-- The entries a plane-B child asks for: its own address, and its span when it is not empty. -/
def childEntries (l : Nat) (x : Lane) : List Route :=
  if x.peerAddress = 0 then [] else
  { low := x.peerAddress, high := x.peerAddress, lane := l, planeB := true, hello := true } ::
    (if x.peerSpanLow ≤ x.peerSpanHigh then
      [{ low := x.peerSpanLow, high := x.peerSpanHigh, lane := l, planeB := true, hello := true }] else [])

def overlaps (a b : Route) : Bool := a.low ≤ b.high && b.low ≤ a.high

/-- The plane-B children do not all name one PARENT_A: that of child l differs from another's. -/
def Dev.parentsDiffer (d : Dev) (l : Nat) : Bool :=
  (d.downlinks true).any (fun k => k ≠ l && (d.lane k).peerAddress ≠ 0 && (d.lane k).peerParentA ≠ (d.lane l).peerParentA)

/-- The entries that the peer of a lane asks for while the lane is a plane-B downlink. -/
def Dev.wantedB (d : Dev) (l : Nat) : List Route := if d.laneDuty l = 4 then childEntries l (d.lane l) else []

/-- One entry of a child is installed where nothing conflicts with it; one that stands already stays. -/
def Dev.installB (d : Dev) (r : Route) : Dev :=
  if d.routeList.any (fun q => q.planeB && overlaps q r) then d else d.addRoute r

/-- The entries of a child that do not conflict are installed. -/
def Dev.childInstall (d : Dev) (l : Nat) : Dev :=
  if d.parentsDiffer l then d else each (d.wantedB l) (fun r d => d.installB r) d

/-- The plane-B entries of one child are formed anew; conflicting ones are not installed and raise PLANE_B_MISMATCH. What the other
children were refused is tried again, since this HELLO may have ended a conflict of theirs. -/
def Dev.planeBEntries (d : Dev) (l : Nat) : Dev :=
  let d := (d.dropRoutes (fun r => r.hello && r.lane = l)).childInstall l
  let refused : Bool := (d.wantedB l).any (fun r => !d.routeList.contains r)
  let d := d.raiseIf refused .planeBMismatch
  each ((d.downlinks true).filter (fun k => k ≠ l)) (fun k d => d.childInstall k) d

/-! ## A child that comes up after enumeration (R267) -/

/-- The highest address given out so far: the highest an ENUMERATE entry holds, or the own one. -/
def Dev.lastUsed (d : Dev) : Nat :=
  each (d.routeList.filter (fun r => !r.hello)) (fun r a => max a r.high) d.net.address

/-- Payload of an ENUMERATE frame (R262). -/
def enumPayload (op depth status : Nat) (chain : Bool) (gen value blockHigh dome : Nat) : List Byte :=
  be 1 op ++ be 1 depth ++ be 1 status ++ be 1 (ofBool chain) ++ be 4 gen ++ be 2 value ++ be 2 blockHigh ++ be 2 dome ++ [0, 0]

def Dev.sendEnum (d : Dev) (l op depth status : Nat) (value blockHigh : Nat) : Dev :=
  d.sendLocal l 2 1 0 false
    (enumPayload op depth status d.net.chain d.net.enumGen.toNat value blockHigh d.net.domeAddr)

/-- A child without a count has been offered an address and has not answered. -/
def EnumChild.waits (c : EnumChild) : Bool := c.count.isNone && c.offered.isSome && !c.assigned && !c.excluded

/-- The parent offers the lowest free spare address of its block, with the spares after it as the block, or raises ENUM_NO_SPACE
(R267). In an assignment pass its own spares stay. One child is served at a time, since only its answer says what it used; the others wait (DEDUCED, log entry 80). -/
def Dev.offerSpare (d : Dev) (l : Nat) : Dev :=
  let busy := d.net.children.any (fun c => c.lane ≠ l && c.waits)
  let a := d.lastUsed + 1
  let top := if d.net.enumState = .assigning then d.net.blockHigh - d.cfg.net.spareAddresses else d.net.blockHigh
  if !busy && top < a then
    Dev.raise (d.setNet (fun n => { n with children := n.children.filter (fun c => c.lane ≠ l) })) .enumNoSpace
  else
    let d := d.setNet (fun n => { n with
      children := n.children.filter (fun c => c.lane ≠ l) ++ [{ lane := l, offered := if busy then none else some a }] })
    if busy then d else (d.setNet (fun n => { n with enumAt := d.mono })).sendEnum l 2 (d.net.depth + 1) 0 a top

/-- An entry of a lane, given by enumeration, holds an address. -/
def Dev.heldOn (d : Dev) (p : Nat → Bool) (a : Nat) : Bool :=
  d.routeList.any (fun r => !r.hello && p r.lane && (r.low ≤ a : Bool) && (a ≤ r.high : Bool))

/-- A plane-A child has come up, without an address or with one that no entry of its lane holds, under a controller that takes part
in no running pass. -/
def Dev.lateChild (d : Dev) (l : Nat) : Bool :=
  d.laneDuty l = 3 && ((d.lane l).peerAddress = 0 || !d.heldOn (fun k => k = l) (d.lane l).peerAddress) && d.net.address ≠ 0
    && (d.net.enumState = .done || d.net.enumState = .failed)

/-! ## Receiving HELLO -/

/-- Periods in a row with HELLO, for one received at a time (R261). -/
def helloRun (x : Lane) (period : Nat) : Nat :=
  if x.helloRun = 0 then 1
  else if period = x.helloPeriod then x.helloRun
  else if period = x.helloPeriod + 1 then x.helloRun + 1 else 1

/-- Queued frames that a lane does not carry any more are discarded and counted in QUEUE_FLUSHED. -/
def Dev.keepFit (d : Dev) (l : Nat) : Dev :=
  let x := d.lane l
  let kept := (x.queues.map (fun q => (q.1, q.2.filter (fun f => d.mayTravel l f.frame)))).filter (fun q => q.2 ≠ [])
  let n := (x.queues.map (fun q => q.2.length)).sum - (kept.map (fun q => q.2.length)).sum
  if n = 0 then d else (d.setLane l { x with queues := kept }).countLane l 7 n

/-! ## The mate links (R354) -/

/-- A mate link has come UP or gone down. Both mate links are DOWN: MATE_LINKS_LOST, and a standby's readiness is STALE at once (R354). -/
def Dev.mateLinksJudge (d : Dev) : Dev :=
  if d.mateUp then { d with tow := { d.tow with mateLost := false } }
  else if d.tow.mateLost then d
  else
    let d := { d with tow := { d.tow with mateLost := true, awaitImage := true } }
    let d := d.raise .mateLinksLost
    if d.tow.role = 1 ∧ d.tow.readiness = 2 then
      Dev.raise { d with tow := { d.tow with readiness := 1 } } .readinessChanged
    else d

/-- A mate lane's HELLO (R44, R271): on a unit declared alone each raises WIRING_FAULT, a UNIT clash raises it once; both mark the
mate lanes unused, and what they may not carry any more leaves their queues. The spec names no end of that mark: it ends when TOWER_WIRED 1 comes into force (Dev.wiredTick), and
otherwise at reset (DESIGN CHOICE, log entry 100). -/
def Dev.mateHello (d : Dev) (l : Nat) : Dev :=
  let x := d.lane l
  if d.arr.wiredOn = false ∨ x.peerUnit = d.unit then
    let d := d.raiseIf (!d.arr.wiredOn || !x.unused) .wiringFault
    let y := d.lane 2
    let d := d.setLane 2 { y with unused := true, wiring := y.wiring || l = 2 }
    let z := d.lane 3
    ((d.setLane 3 { z with unused := true, wiring := z.wiring || l = 3 }).keepFit 2).keepFit 3
  else
    let d := (d.setLane l { x with wiring := x.peerLane ≠ l }).setNet (fun n => { n with mateAddress := x.peerAddress })
    { d with arr := { d.arr with mateHeard := d.mono } }

/-- HELLO_RECEIVE: a HELLO payload is taken on a lane, its reserved bytes as 0 (R6); in the third period in a row the lane is UP
(R261). Plane-B entries follow a change of the payload, also one that moves the peer from its SL1 to another lane (R265). -/
def helloReceive (l : Nat) (payload : List Byte) (d : Dev) : Dev :=
  let d := d.take l 0
  match (d.lane l).state with
  | .disabled | .stopping | .restartPending => d
  | .down | .locked | .up =>
    let x := d.lane l
    let period := d.mono / (d.cfg.net.helloPeriod * 1000)
    let run := helloRun x period
    let up := x.lock && (x.state = .up || 3 ≤ run)
    let p := (fit 24 payload).take 18 ++ List.replicate 6 0
    let wasB : Bool := d.laneDuty l = 4
    let y := { x with
      helloRun := run, helloPeriod := period, helloAt := d.mono, peer := p, heard := true
      state := if up then .up else x.state }
    let d := ((d.setLane l y).keepFit l).raiseIf (up && x.state ≠ .up) .linkUp [l]
    let d := if l = 2 ∨ l = 3 then d.mateHello l else d
    let d := if (up ∧ x.state ≠ .up) ∧ (l = 2 ∨ l = 3) then d.mateLinksJudge else d
    let d := if (wasB ∨ d.laneDuty l = 4) ∧ (x.peer ≠ p ∨ (up ∧ x.state ≠ .up)) then d.planeBEntries l else d
    if up && x.state ≠ .up && d.lateChild l then d.offerSpare l else d

def execHelloReceive (lane : Fin 96) (payload : List Byte) (s : State) : Host.Outcome State Fault Refusal :=
  s.upd (helloReceive lane payload)

/-! ## Going down (R261) -/

/-- A lane goes DOWN: its queues are flushed, and LINK_DOWN is raised when it was UP. -/
def Dev.laneDown (d : Dev) (l : Nat) (lock : Bool) : Dev :=
  let x := d.lane l
  let was := x.state = .up
  let d := (d.flushLane l)
  let y := d.lane l
  let d := d.setLane l { y with state := .down, lock := lock, helloRun := 0, heard := false, sending := none, cut := false }
  let d := d.raiseIf was .linkDown [l]
  if was ∧ (l = 2 ∨ l = 3) then d.mateLinksJudge else d

/-- No HELLO arrived in three whole periods after the one of the last. -/
def Dev.silent (d : Dev) (l : Nat) : Bool := (d.lane l).helloPeriod + 4 ≤ d.mono / (d.cfg.net.helloPeriod * 1000)

/-- HELLO_TIMEOUT: no HELLO arrived in three periods in a row. -/
def helloTimeout (l : Nat) (d : Dev) : Dev :=
  if !d.silent l then d
  else match (d.lane l).state with
    | .locked | .up => d.laneDown l (d.lane l).lock
    | _ => d

def execHelloTimeout (lane : Fin 96) (s : State) : Host.Outcome State Fault Refusal := s.upd (helloTimeout lane)

/-- LINK_LOCK_LOSS: block lock is lost, or FEC codewords cannot be corrected; the codewords decoded till then are counted (R276). -/
def linkLockLoss (l : Nat) (fec : FecSeen) (d : Dev) : Dev :=
  match (d.lane l).state with
  | .down | .locked | .up => (d.countFec l fec).laneDown l false
  | _ => d

def execLinkLockLoss (loss : LockLoss) (s : State) : Host.Outcome State Fault Refusal := s.upd (linkLockLoss loss.lane loss.fec)

/-- BLOCK_LOCK_GAINED: the PCS of a DOWN lane gains block lock. -/
def blockLockGained (l : Nat) (d : Dev) : Dev :=
  let x := d.lane l
  if x.state = .down then d.setLane l { x with state := .locked, lock := true } else d

def execBlockLockGained (lane : Fin 96) (s : State) : Host.Outcome State Fault Refusal := s.upd (blockLockGained lane)

/-! ## Stopping and starting a lane (R274) -/

def Dev.setEnable (d : Dev) (l : Nat) (b : Bool) : Dev :=
  { d with cfg := { d.cfg with net := { d.cfg.net with laneEnable := tset true d.cfg.net.laneEnable l b } } }

def Dev.setLaneState (d : Dev) (l : Nat) (x : LaneState) : Dev :=
  let y := d.lane l
  d.setLane l { y with state := x }

def laneDisable (l : Nat) (d : Dev) : Resp × Dev :=
  let d := d.setEnable l false
  match (d.lane l).state with
  | .disabled | .stopping => (.ok, d)
  | .restartPending => (.ok, d.setLaneState l .stopping)
  | .down | .locked | .up =>
    let was : Bool := (d.lane l).state = .up
    let d := (d.flushLane l).setLaneState l .stopping
    (.ok, if was ∧ (l = 2 ∨ l = 3) then d.mateLinksJudge else d)

def execLaneDisable (lane : Fin 96) (s : State) : Host.Outcome State Fault Refusal := s.ask (laneDisable lane)

def laneEnable (l : Nat) (d : Dev) : Resp × Dev :=
  let d := d.setEnable l true
  match (d.lane l).state with
  | .disabled => (.ok, d.setLaneState l .down)
  | .stopping => (.ok, d.setLaneState l .restartPending)
  | .restartPending | .down | .locked | .up => (.ok, d)

def execLaneEnable (lane : Fin 96) (s : State) : Host.Outcome State Fault Refusal := s.ask (laneEnable lane)

/-- LANE_DISABLED: the frame in transmission has ended; a restart pending is carried out. -/
def laneDisabled (l : Nat) (d : Dev) : Dev :=
  let x := d.lane l
  let off : Lane := { x with lock := false, helloRun := 0, heard := false, sending := none, cut := false }
  match x.state with
  | .stopping => d.setLane l { off with state := .disabled }
  | .restartPending => d.setLane l { off with state := .down }
  | _ => d

def execLaneDisabled (lane : Fin 96) (s : State) : Host.Outcome State Fault Refusal := s.upd (laneDisabled lane)

/-! ## Settings of a lane (R254, R276): idle while the lane is DISABLED -/

def laneRateWrite (l v : Nat) (d : Dev) : Resp × Dev :=
  if 1 < v then (.invalid, d)
  else (.ok, { d with cfg := { d.cfg with net := { d.cfg.net with laneRate := tins d.cfg.net.laneRate l v } } })

/-- FEC requested at 10G is refused with INVALID. -/
def laneFecWrite (l : Nat) (v : Bool) (d : Dev) : Resp × Dev :=
  if v ∧ d.laneRate l = 0 then (.invalid, d)
  else (.ok, { d with cfg := { d.cfg with net := { d.cfg.net with laneFec := tins d.cfg.net.laneFec l v } } })

def helloPeriodWrite (v : Nat) (d : Dev) : Resp × Dev :=
  if v < 100 ∨ 10000 < v then (.invalid, d)
  else (.ok, { d with cfg := { d.cfg with net := { d.cfg.net with helloPeriod := v } } })

/-- A lane is counted in WIRING_FAULTS: a mate lane with a wrong peer, or a downlink whose peer is on another lane than SL0 or SL1;
of a Dome or Turret also a downlink, not disabled, that has no peer (R255, R271; log entry 79). -/
def Dev.misWired (d : Dev) (l : Nat) : Bool :=
  let x := d.lane l
  if l < 4 then x.wiring
  else if d.net.role = .finial || x.state = .disabled then false
  else if x.heard then 1 < x.peerLane
  else d.net.role ≠ .unassigned

/-- WIRING_FAULTS (R276). -/
def Dev.wiringFaults (d : Dev) : Nat := ((List.range 96).filter d.misWired).length

end Sys2Proof.Machine
end

