-- ==== Sys2Proof/Machine/TimeXfer.lean ====
section
/-! DEFINITION. The clock and the transfer of time (R292 to R308, R314). -/

namespace Sys2Proof.Machine

/-! ## The clock (R292, R293) -/

/-- One timebase clock: ADDEND goes to nanoseconds and fraction together; SECONDS wraps at 2 ^ 48, and the next tick with it. -/
def Belfry.clock (t : Belfry) : Belfry :=
  let sum := 2 ^ 32 * t.nanos + t.frac.toNat + t.addend.toNat
  let n := sum / 2 ^ 32
  let t' := { t with frac := BitVec.ofNat 32 sum, up := t.up + (n - t.nanos) }
  if n < 1000000000 then { t' with nanos := n }
  else { t' with
    nanos := n - 1000000000, secs := (t.secs + 1) % 2 ^ 48
    nextTick := if t.secs + 1 = 2 ^ 48 then t.nextTick - timeWrap else t.nextTick }

def nominal : Nat := 0x100000000

/-- ADDEND is accepted within 1,000 ppm of nominal, and any other value is ignored (R293). -/
def Dev.writeAddend (d : Dev) (v : Nat) : Dev :=
  if nominal - 4294967 ≤ v ∧ v ≤ nominal + 4294967 then d.setTime (fun t => { t with addend := BitVec.ofNat 36 v }) else d

/-- The servo keeps ADDEND within 200 ppm of nominal (R293); what it writes is otherwise free. -/
def servoLimit (v : Nat) : Nat := max (nominal - 858993) (min (nominal + 858993) v)

/-- After a loss of its source, until LOCKED, the servo keeps ADDEND within 100 ppm of the value that the loss froze (R306, R307;
DEDUCED, log entry 82: the rate that removes the offset is counted from the frozen one). -/
def Belfry.recoverLimit (t : Belfry) (v : Nat) : Nat :=
  if t.recover then max (t.held.toNat - 429496) (min (t.held.toNat + 429496) v) else v

/-- The servo corrects the offset by rate (R302, R307). -/
def Dev.servo (d : Dev) : Dev :=
  let v := servoLimit (d.time.recoverLimit (Config.servoAddend d.time.addend.toNat d.time.offsetLast d.time.pathDelay d.free))
  { d.writeAddend v with free := d.free + 1 }

/-- In LOCK_PENDING the servo holds the offset constant by rate (R304). -/
def Dev.holdOffset (d : Dev) : Dev :=
  let v := servoLimit (Config.holdAddend d.time.addend.toNat d.time.offsetLast d.free)
  { d.writeAddend v with free := d.free + 1 }

/-! ## Stamps (R299) -/

/-- A stamp extended by a reference time that precedes the event. -/
def extendAfter (q s : Nat) : Nat := q + (s + 2 ^ 32 - q % 2 ^ 32) % 2 ^ 32

/-- A stamp extended by the SECONDS read after the event. -/
def extendBefore (secs s : Nat) : Nat :=
  let u := 1000000000 * (secs + 1)
  u - (u % 2 ^ 32 + 2 ^ 32 - s % 2 ^ 32) % 2 ^ 32

/-- 2 ^ n s in ns. -/
def interval (n : Int) : Nat := if n < 0 then 1000000000 / 2 ^ (-n).toNat else 1000000000 * 2 ^ n.toNat

/-! ## Parents (R302, R305, R307) -/

def TimeState.code (s : TimeState) : Nat :=
  match s with
  | .free => 0 | .acquiring => 1 | .lockPending => 2 | .locked => 3 | .holdover => 4 | .expired => 5

/-- The controller follows a parent: every one but a Dome whose source is FREE or PPS (R306). -/
def Dev.follows (d : Dev) : Bool := !d.domeEn || d.cfg.time.source = 1

/-- The last TIME_SYNC came within 4 of its sender's intervals, from LOCKED or HOLDOVER (R302). -/
def SyncHeard.good (s : SyncHeard) (mono : Nat) : Bool :=
  (s.state = 3 || s.state = 4) && mono - s.at_ < 4 * interval s.syncLog2

def heard (s : Option SyncHeard) (mono : Nat) : Bool :=
  match s with
  | some x => x.good mono
  | none => false

/-- A TIME_SYNC from LOCKED or HOLDOVER came within 4 of the sender's latest intervals (R307). -/
def SyncHeard.recent (s : SyncHeard) (mono : Nat) : Bool :=
  match s.goodAt with
  | some t => mono - t < 4 * interval s.syncLog2
  | none => false

/-- No parent is lost: a good TIME_SYNC is recent on either plane. -/
def Dev.parentRecent (d : Dev) : Bool := (d.time.syncA.toList ++ d.time.syncB.toList).any (fun s => s.recent d.mono)

/-- The time parent's lane: SL0 while a good TIME_SYNC arrives there, else SL1 under the same condition (R302). -/
def Dev.parentNow (d : Dev) : Option Nat :=
  if heard d.time.syncA d.mono then some 0 else if heard d.time.syncB d.mono then some 1 else none

def Dev.parentSync (d : Dev) : Option SyncHeard :=
  match d.time.parentLane with
  | some 0 => d.time.syncA
  | some _ => d.time.syncB
  | none => none

/-- A change of parent counts in PARENT_SWITCHES. -/
def Dev.chooseParent (d : Dev) : Dev :=
  match d.parentNow with
  | none => d
  | some l =>
    d.setTime (fun t => { t with
      parentLane := some l
      switches := if t.parentLane.isSome ∧ t.parentLane ≠ some l then t.switches + 1 else t.switches
      parentAddr := BitVec.ofNat 16 (d.lane l).peerAddress })

/-- STEPS of this controller (R300). -/
def Dev.steps (d : Dev) : Nat :=
  if d.follows then (match d.parentSync with | some s => s.steps + 1 | none => 0) % 256 else 0

/-! ## Sending and receiving time frames (R300, R301) -/

/-- The payload of TIME_SYNC. -/
def Dev.syncPayload (d : Dev) : List Byte :=
  be 6 d.time.secs ++ be 4 d.time.nanos ++ be 1 d.time.state.code ++ be 1 d.steps
    ++ be 2 (if d.domeEn then d.net.address else d.net.domeAddr) ++ be 1 (code 8 d.cfg.time.syncLog2) ++ [0]

/-- TIME_SYNC_SEND: class 0, DEST 0x0000, on each downlink that is UP, on both planes; on a chain on SL4. -/
def timeSyncSend (d : Dev) : Dev :=
  let ls := if d.net.chain then (if d.laneUp 4 then [4] else []) else d.downlinks false ++ d.downlinks true
  each ls (fun l d => d.sendLocal l 0 3 0 false d.syncPayload) d

def execTimeSyncSend (s : State) : Host.Outcome State Fault Refusal := s.upd timeSyncSend

/-- OFFSET_LAST and PATH_DELAY in 0.01 ns from the four stamps and the trim in 0.1 ns (R302). -/
def masterOffset (t1 t2 t3 t4 : Nat) (trim : Int) : Int :=
  ((((t2 : Int) - t1) - ((t4 : Int) - t3)) * 100 - trim * 10) / 2

def pathOf (t1 t2 t3 t4 : Nat) : Int := ((((t2 : Int) - t1) + ((t4 : Int) - t3)) * 100) / 2

/-- The offset and the path delay are formed from the parent's latest TIME_SYNC and the latest answered DELAY_REQ. -/
def Dev.formOffset (d : Dev) : Dev :=
  match d.parentSync, d.time.exchange, d.time.parentLane with
  | some s, some (t3, t4), some l =>
    if s.stamped then d.setTime (fun t => { t with
      offsetLast := masterOffset s.t1 s.t2 t3 t4 (tget 0 d.cfg.time.asymTrim l)
      pathDelay := pathOf s.t1 s.t2 t3 t4 })
    else d
  | _, _, _ => d

/-- LOCKED is reached, and TIME_LOCKED raised (R304, R306, R307). -/
def Dev.becomeLocked (d : Dev) : Dev :=
  Dev.raise (d.setTime (fun t => { t with state := .locked, inLock := 0, ppsGood := 0, recover := false })) .timeLocked

/-- One sync counted toward the criterion of R304: 16 in a row within 10 ns. -/
def Dev.countLock (d : Dev) : Dev :=
  let good : Bool := -1000 ≤ d.time.offsetLast ∧ d.time.offsetLast ≤ 1000
  let n := if good then d.time.inLock + 1 else 0
  let d := d.setTime (fun t => { t with inLock := n })
  if 16 ≤ n then d.becomeLocked else d

/-- What a sync from the parent does in each TIME_STATE (R303, R304, R307). -/
def Dev.syncState (d : Dev) : Dev :=
  match d.time.state with
  | .free => d.setTime (fun t => { t with state := .acquiring, delays := [], inLock := 0 })
  | .lockPending => d.formOffset.holdOffset
  | .locked => if d.time.exchange.isSome then d.formOffset.servo else d
  | .acquiring =>
    if d.time.stepped then (if d.time.exchange.isSome then d.formOffset.servo.countLock else d) else d
  | .holdover | .expired => if d.time.exchange.isSome then d.formOffset.servo.countLock else d

/-- TIME_SYNC_RECEIVE (R300, R302): on SL0 or SL1 of a controller that follows a parent. -/
def timeSyncReceive (l : Nat) (t1 : Nat) (queued : QueuedTime) (m : TimeSyncMsg) (d : Dev) : Dev :=
  let rx := d.stampOf l 3
  let d := d.take l 3
  if 2 ≤ l ∨ d.follows = false then d
  else
    let q := 1000000000 * queued.secs.toNat + queued.nanos.toNat
    let h : SyncHeard := {
      state := m.state.toNat, steps := m.steps.toNat, root := m.root, syncLog2 := m.syncLog2, at_ := d.mono
      goodAt := if m.state = 3 ∨ m.state = 4 then some d.mono else ((if l = 0 then d.time.syncA else d.time.syncB).bind (fun s => s.goodAt))
      stamped := true, t1 := extendAfter q t1, t2 := extendBefore d.time.secs rx }
    let d := d.setTime (fun t => if l = 0 then { t with syncA := some h } else { t with syncB := some h })
    let d := d.chooseParent
    if d.parentNow = some l then d.syncState else d

def execTimeSyncReceive (lane : Fin 96) (t1 : BitVec 32) (queued : QueuedTime) (msg : TimeSyncMsg) (s : State) :
    Host.Outcome State Fault Refusal := s.upd (timeSyncReceive lane t1.toNat queued msg)

/-- DELAY_REQ_SEND (R301): a time child asks its parent; t3 is the frame's transmit stamp. -/
def delayReqSend (d : Dev) : Dev :=
  match d.time.parentLane with
  | none => d
  | some l =>
    let d := d.setTime (fun t => { t with delayReq := some (d.net.seq, d.leavesAt l) })
    d.sendLocal l 0 4 0 false (be 6 d.time.secs ++ be 4 d.time.nanos ++ List.replicate 6 0)

def execDelayReqSend (s : State) : Host.Outcome State Fault Refusal := s.upd delayReqSend

/-- DELAY_REQ_RECEIVE (R301): a parent answers a child with the receive stamp extended by R299; an UNASSIGNED controller does not
(R262). The answer rests on nothing of the child's queued time. -/
def delayReqReceive (l seq : Nat) (d : Dev) : Dev :=
  let rx := d.stampOf l 4
  let d := d.take l 4
  if d.net.role = .unassigned ∨ d.laneUp l = false ∨ l = 2 ∨ l = 3 then d
  else
    let t4 := timeOf (extendBefore d.time.secs rx)
    d.sendLocal l 0 5 0 false (be 6 t4.secs ++ be 4 t4.nanos ++ be 2 seq ++ [0, 0, 0, 0])

def execDelayReqReceive (lane : Fin 96) (seq : BitVec 16) (_queued : QueuedTime) (s : State) : Host.Outcome State Fault Refusal :=
  s.upd (delayReqReceive lane seq.toNat)

/-- Path delays of four exchanges in a row lie within 10 ns of one another (R304). -/
def qualified (l : List Int) : Bool := l.length = 4 && l.all (fun a => l.all (fun b => a - b ≤ 1000))

/-- Acquisition before the step: the exchange joins the last four; when they qualify, the step waits (R304). -/
def Dev.qualify (d : Dev) : Dev :=
  let ds := (d.time.pathDelay :: d.time.delays).take 4
  let d := d.setTime (fun t => { t with delays := ds })
  if qualified ds then
    d.setTime (fun t => { t with state := .lockPending, waitRaised := false })
  else d

/-- DELAY_RESP_RECEIVE (R301, R302): the answer to the DELAY_REQ in flight, from the parent. -/
def delayRespReceive (l : Nat) (m : DelayRespMsg) (d : Dev) : Dev :=
  let d := d.take l 5
  match d.time.delayReq with
  | none => d
  | some (q, t3) =>
    if q ≠ m.reqSeq ∨ d.time.parentLane ≠ some l then d
    else
      let t4 := 1000000000 * m.secs.toNat + m.nanos.toNat
      let d := (d.setTime (fun t => { t with delayReq := none, exchange := some (t3, t4) })).formOffset
      if d.time.state = .acquiring ∧ d.time.stepped = false then d.qualify else d

def execDelayRespReceive (lane : Fin 96) (msg : DelayRespMsg) (s : State) : Host.Outcome State Fault Refusal :=
  s.upd (delayRespReceive lane msg)

/-! ## The single step (R304 to R306, R310) -/

/-- The first multiple of P at or after t. -/
def ceilTo (p t : Nat) : Nat := (t + p - 1) / p * p

/-- Total time that the step sets: the TIME_SET value, the PPS edge's second, or the parent's time, each carried on to the
present. -/
def Dev.stepTarget (d : Dev) : Nat :=
  match d.time.setTo, d.time.stepBy with
  | some t, _ => t.total
  | none, some o => ((d.now : Int) - o).toNat
  | none, none => ((d.now : Int) - d.time.offsetLast / 100).toNat

/-- Injected conversions whose start the step passed over start in the cycle of the first tick after it (R310). -/
def releasePassed (old first : Nat) (l : List InjectEntry) : List InjectEntry :=
  l.map (fun e => if old < e.start ∧ e.start < first then { e with start := first, nextCycle := first } else e)

/-- Stamps of before the step are no longer used; who was heard stands. -/
def unstamp (s : Option SyncHeard) : Option SyncHeard := s.map (fun s => { s with stamped := false })

/-- TIME_STEP: at a tick at which LOOP_STATE is STOPPED the clock takes its one step; a stretch cycle begins (R304). -/
def timeStep (d : Dev) : Dev :=
  if d.time.state = .lockPending ∧ d.time.stepped = false ∧ d.loop.state = .stopped ∧ d.now = d.time.lastTick then
    let t := d.stepTarget
    let n := d.cycleNo
    let d := d.setTime (fun b => { b.setNow t with
      stepped := true, state := .acquiring, inLock := 0, ppsGood := 0, stepBy := none, setTo := none
      lastTick := t, nextTick := ceilTo d.period (t + d.period)
      syncA := unstamp b.syncA, syncB := unstamp b.syncB, exchange := none, delayReq := none, delays := [] })
    let d := { d with rd := { d.rd with injects := releasePassed n (d.time.nextTick / d.period) d.rd.injects } }
    if d.domeEn ∧ d.cfg.time.source = 0 then d.becomeLocked else d
  else d

def execTimeStep (s : State) : Host.Outcome State Fault Refusal := s.upd timeStep

/-- The tick's part: a step that must wait for the Loop Engine raises TIME_STEP_WAITING once an entry (R304). -/
def Dev.stepWaiting (d : Dev) : Dev :=
  if d.time.state = .lockPending ∧ d.loop.state ≠ .stopped ∧ d.time.waitRaised = false then
    Dev.raise (d.setTime (fun t => { t with waitRaised := true })) .timeStepWaiting
  else d

/-! ## Losing the source (R306, R307) -/

/-- The servo's recovery from a loss starts at the ADDEND that stands (R306, R307). -/
def Belfry.freeze (t : Belfry) : Belfry := if t.recover then t else { t with recover := true, held := t.addend }

/-- Before the step the state returns to FREE; after it, it stays ACQUIRING (R307). -/
def Dev.loseBeforeLock (d : Dev) : Dev :=
  if d.time.stepped then d.setTime Belfry.freeze
  else d.setTime (fun t => { t with state := .free, delays := [], stepBy := none, setTo := none, ppsSeconds := none })

/-- LOCKED becomes HOLDOVER, and TIME_HOLDOVER is raised. -/
def Dev.enterHoldover (d : Dev) : Dev :=
  Dev.raise (d.setTime (fun t => { t.freeze with state := .holdover, holdoverAt := t.up, inLock := 0, ppsGood := 0 })) .timeHoldover

/-- PARENT_LOST: no TIME_SYNC from a parent in LOCKED or HOLDOVER for 4 of its intervals, on either plane. -/
def parentLost (d : Dev) : Dev :=
  if d.follows = false ∨ d.parentRecent then d
  else
    let d := d.setTime (fun t => { t with parentLane := none, syncA := none, syncB := none, exchange := none, delayReq := none, inLock := 0 })
    match d.time.state with
    | .locked => d.enterHoldover
    | .acquiring | .lockPending => d.loseBeforeLock
    | .free | .holdover | .expired => d

def execParentLost (s : State) : Host.Outcome State Fault Refusal := s.upd parentLost

/-- HOLDOVER_EXPIRED: HOLDOVER has lasted HOLDOVER_LIMIT. -/
def holdoverExpired (d : Dev) : Dev :=
  if d.time.state = .holdover ∧ d.time.holdoverAt + 1000000 * d.cfg.time.holdoverLimit ≤ d.mono then
    Dev.raise (d.setTime (fun t => { t with state := .expired })) .timeLost
  else d

def execHoldoverExpired (s : State) : Host.Outcome State Fault Refusal := s.upd holdoverExpired

/-! ## The Dome's sources (R305, R306) -/

/-- TIME_SET. -/
def timeSet (secs nanos : Nat) (d : Dev) : Resp × Dev :=
  if 1000000000 ≤ nanos then (.invalid, d)
  else if d.domeEn = false ∨ d.cfg.time.source = 1 ∨ d.time.state ≠ .free then (.conflict, d)
  else if d.cfg.time.source = 0 then
    (.ok, d.setTime (fun t => { t with state := .lockPending, waitRaised := false, setTo := some ⟨secs, nanos⟩ }))
  else (.ok, d.setTime (fun t => { t with state := .acquiring, ppsSeconds := some secs }))

def execTimeSet (secs : BitVec 48) (nanos : BitVec 32) (s : State) : Host.Outcome State Fault Refusal :=
  s.ask (timeSet secs.toNat nanos.toNat)

/-- TIME_SOURCE written: refused with CONFLICT while TIME_STATE is not FREE and except on a Dome; of
the object's own checks the reserved value comes first (R6). -/
def timeSourceWrite (v : Nat) (d : Dev) : Resp × Dev :=
  if d.time.state ≠ .free then (.conflict, d)
  else if 2 < v then (.invalid, d)
  else if d.domeEn = false then (.conflict, d)
  else (.ok, { d with cfg := { d.cfg with time := { d.cfg.time with source := v } } })

def execTimeSourceWrite (v : BitVec 8) (s : State) : Host.Outcome State Fault Refusal := s.ask (timeSourceWrite v.toNat)

/-- Distance of an instant from the nearest whole second, in ns. -/
def fromSecond (nanos : Nat) : Int := if nanos ≤ 500000000 then nanos else (nanos : Int) - 1000000000

/-- One PPS_IN edge after the step (R306): 16 in a row within 10 ns of a whole second lock. -/
def Dev.ppsTrack (d : Dev) : Dev :=
  let o := fromSecond d.time.nanos
  let good : Bool := -10 ≤ o ∧ o ≤ 10
  let n := if good then d.time.ppsGood + 1 else 0
  let d := (d.setTime (fun t => { t with offsetLast := o * 100, ppsGood := n })).servo
  if 16 ≤ n ∧ d.time.state ≠ .locked then d.becomeLocked else d

/-- PPS_IN_EDGE (R296, R305, R306): stamped, and used by a Dome whose source is PPS. -/
def ppsInEdge (d : Dev) : Dev :=
  let d := d.setTime (fun t => { t with ppsStamp := ⟨t.secs, t.nanos⟩, ppsLast := some t.up })
  if d.domeEn = false ∨ d.cfg.time.source ≠ 2 then d
  else if d.time.stepped then d.ppsTrack
  else match d.time.state, d.time.ppsSeconds with
    | .acquiring, some s =>
      d.setTime (fun t => { t with
        state := .lockPending, waitRaised := false, ppsSeconds := none
        stepBy := some ((t.now : Int) - (1000000000 * s : Nat)) })
    | .lockPending, _ =>
      -- later edges hold the offset of the step that waits (R304, R305)
      match d.time.stepBy with
      | some b =>
        let o := fromSecond (((d.now : Int) - b) % 1000000000).toNat
        (d.setTime (fun t => { t with offsetLast := o * 100 })).holdOffset
      | none => d
    | _, _ => d

def execPpsInEdge (s : State) : Host.Outcome State Fault Refusal := s.upd ppsInEdge

/-- PPS_HOLDOVER (R306): no PPS_IN edge for 3 s on a Dome under PPS. -/
def ppsHoldover (d : Dev) : Dev :=
  let recent : Bool := match d.time.ppsLast with
    | some t => d.mono < 3000000000 + t
    | none => d.mono < 3000000000
  if d.domeEn = false ∨ d.cfg.time.source ≠ 2 ∨ recent then d
  else match d.time.state with
    | .locked => d.enterHoldover
    | .acquiring | .lockPending => d.loseBeforeLock
    | .free | .holdover | .expired => d

def execPpsHoldover (s : State) : Host.Outcome State Fault Refusal := s.upd ppsHoldover

/-! ## What OFFSET_LAST and PATH_DELAY read (R314) -/

def Belfry.offsetShown (t : Belfry) : Int :=
  if -(2 ^ 31) ≤ t.offsetLast ∧ t.offsetLast < 2 ^ 31 then t.offsetLast else (Config.wideTime 0 t.offsetLast).toInt

def Belfry.pathShown (t : Belfry) : Nat :=
  if 0 ≤ t.pathDelay ∧ t.pathDelay < 2 ^ 32 then t.pathDelay.toNat else (Config.wideTime 1 t.pathDelay).toNat

/-! ## Settings (R314) and the timing outputs (R296) -/

def Dev.setTimeCfg (d : Dev) (f : TimeCfg → TimeCfg) : Dev := { d with cfg := { d.cfg with time := f d.cfg.time } }

def syncLog2Write (v : Int) (d : Dev) : Resp × Dev :=
  if v < -7 ∨ 0 < v then (.invalid, d) else (.ok, d.setTimeCfg (fun t => { t with syncLog2 := v }))
def delayReqLog2Write (v : Int) (d : Dev) : Resp × Dev :=
  if v < -7 ∨ 2 < v then (.invalid, d) else (.ok, d.setTimeCfg (fun t => { t with delayReqLog2 := v }))
def holdoverLimitWrite (v : Nat) (d : Dev) : Resp × Dev :=
  if 60000 < v then (.invalid, d) else (.ok, d.setTimeCfg (fun t => { t with holdoverLimit := v }))
def asymTrimWrite (l : Nat) (v : Int) (d : Dev) : Resp × Dev :=
  if v < -500 ∨ 500 < v then (.invalid, d) else (.ok, d.setTimeCfg (fun t => { t with asymTrim := tset 0 t.asymTrim l v }))

/-- PPS_OUT is high for 100 ms from each whole second, out of reset (R296, R423). -/
def Dev.ppsOut (d : Dev) : Bool := d.boot.phase ≠ .held && d.time.nanos < 100000000

/-- TICK_OUT is high (R296). -/
def Dev.tickOut (d : Dev) : Bool := d.mono < d.time.tickOutUntil

/-- The tick's part of TICK_OUT: every N-th cycle for P / 2, and a whole cycle for MARK. -/
def Dev.tickOutEdge (d : Dev) (mark : Bool) : Dev :=
  let n := d.cfg.time.tickOutDiv
  let len := if mark then d.period else if n ≠ 0 ∧ d.cycleNo % n = 0 then d.period / 2 else 0
  d.setTime (fun t => { t with tickOutUntil := max t.tickOutUntil (t.up + len) })

end Sys2Proof.Machine
end

