-- ==== Sys2Proof/Machine/Tower.lean ====
section
/-! DEFINITION. Roles, self-test, MATE_HEALTH, YIELD and tower duty (R351, R352, R355, R356, R365 to R369). -/

namespace Sys2Proof.Machine

/-! ## Self-test of a standby (R355) -/

/-- Cycles of a full pass of each item; each divides the 2,112 of the longest. -/
def passLength (i : Nat) : Nat :=
  match i with | 0 | 1 => 2112 | 3 => 2 | 4 => 64 | _ => 1

/-- A word of the resident image, or of the record of an element in use, carries a mark: item [4]. -/
def Dev.latentMark (d : Dev) : Bool :=
  d.used.any d.recPoisoned || (match d.tow.resident with
    | some i => d.sram.poison.any (fun e => e.2 && bufferAddr i.buffer ≤ e.1 && e.1 < bufferAddr i.buffer + 0x40000)
    | none => false)

/-- Items that fail in this cycle: those the outside world names, [4] on a poisoned word, the charge pumps [5], the claim lines [6]. -/
def Dev.selfFails (d : Dev) (named : Nat) : Nat :=
  named ||| (16 * ofBool d.latentMark) ||| (32 * ofBool (d.therm.pumpH = 3 || d.therm.pumpL = 3)) ||| (64 * ofBool d.tow.lineBad)

/-- One item in one cycle. The first failure in a pass sets its bit and raises STANDBY_SELFTEST_FAIL; the second of two clean passes in
a row clears it. -/
def Dev.selfItem (d : Dev) (fails i : Nat) : Dev :=
  let failed := bit d.tow.selfFailed.toNat i
  let d := if bit fails i && !failed then
      Dev.raise (d.setTow (fun t => { t with
        selftest := t.selftest ||| BitVec.ofNat 32 (2 ^ i), selfFailed := t.selfFailed ||| BitVec.ofNat 8 (2 ^ i) })) .standbySelftestFail [i]
    else d
  if (d.tow.selfStep + 1) % passLength i ≠ 0 then d
  else
    let n := if bit d.tow.selfFailed.toNat i ∨ bit d.tow.selftest.toNat i = false then 0 else tget 0 d.tow.selfPass i + 1
    d.setTow (fun t => { t with
      selfFailed := t.selfFailed &&& ~~~(BitVec.ofNat 8 (2 ^ i))
      selfPass := tset 0 t.selfPass i (if 2 ≤ n then 0 else n)
      selftest := if 2 ≤ n then t.selftest &&& ~~~(BitVec.ofNat 32 (2 ^ i)) else t.selftest })

/-- One cycle of a standby's self-test: its items, then the pass goes on. A unit that is no standby runs none, and its next begins with a
new pass (DESIGN CHOICE, log entry 127). -/
def Dev.selftestTick (d : Dev) (named : Nat) : Dev :=
  if d.tow.role = 1 then
    (iter (fun i d => d.selfItem (d.selfFails named) i) 8 0 d).setTow (fun t => { t with selfStep := (t.selfStep + 1) % 2112 })
  else d.setTow (fun t => { t with selfStep := 0, selfFailed := 0, selfPass := [] })

/-! ## MATE_HEALTH (R356) -/

def RunState.code (s : RunState) : Nat :=
  match s with | .stopped => 0 | .running => 1 | .stopping => 2 | .restartPending => 3

/-- IMAGE_CYCLE of MATE_HEALTH: the resident image of a standby, the last image sent by the active. -/
def Dev.reportCycle (d : Dev) : Nat :=
  if d.tow.role = 0 then d.tow.lastSent else match d.tow.resident with | some i => i.cycle | none => 0

def Dev.healthPayload (d : Dev) : List Byte :=
  be 2 d.tow.claim.toNat ++ be 1 d.tow.role ++ be 1 d.tow.readiness ++ be 8 d.reportCycle ++ be 4 d.circ.committedGen.toNat
    ++ be 4 d.healthCauses ++ be 4 d.tow.selftest.toNat ++ be 2 (code 16 d.therm.dieTempMax) ++ be 1 d.time.state.code
    ++ be 1 d.tow.dutyState.code ++ be 1 (ofBool d.cfg.tow.enable) ++ [0, 0, 0]

/-- Bytes 0 to 3, 12 to 23 and 28, whose change calls for a sending. -/
def watched (p : List Byte) : List Byte := p.take 4 ++ (p.drop 12).take 12 ++ (p.drop 28).take 1

/-- A MATE_HEALTH is due: at a tick whose cycle number is a multiple of 1,024, once in its cycle, and after a change in the bytes
watched. -/
def Dev.healthDue (d : Dev) : Bool :=
  (d.cycleNo % 1024 = 0 && d.tow.healthAt ≠ some d.ticks) || watched d.healthPayload ≠ d.tow.healthSent

/-- MATE_HEALTH_SEND: a MATE_HEALTH that is due leaves, class 3, on both mate links. -/
def mateHealthSend (d : Dev) : Dev :=
  if d.healthDue then
    let p := d.healthPayload
    (d.toMateBoth 3 18 p).setTow (fun t => { t with healthSent := watched p, healthAt := some d.ticks })
  else d

def execMateHealthSend (s : State) : Host.Outcome State Fault Refusal := s.upd mateHealthSend

def MateHealthMsg.bytes (m : MateHealthMsg) : List Byte :=
  be 2 m.claim.toNat ++ be 1 m.role.toNat ++ be 1 m.readiness.toNat ++ be 8 m.imageCycle.toNat ++ be 4 m.generation.toNat
    ++ be 4 m.causes.toNat ++ be 4 m.selftest.toNat ++ be 2 m.dieTempMax.toNat ++ be 1 m.timeState.toNat
    ++ be 1 m.dutyState.toNat ++ be 1 (m.flags &&& 1).toNat ++ [0, 0, 0]

/-- MATE_HEALTH_RECEIVE: MATE_REPORT shows the last one received, its reserved bits 0 (R6). -/
def mateHealthReceive (m : MateHealthMsg) (d : Dev) : Dev :=
  (d.takeAny 18).setTow (fun t => { t with mateReport := MateHealthMsg.bytes m, reportAt := some d.ticks })

def execMateHealthReceive (msg : MateHealthMsg) (s : State) : Host.Outcome State Fault Refusal := s.upd (mateHealthReceive msg)

/-! ## YIELD (R366) -/

/-- COMMIT_STATE is ARMED or COMMITTING. -/
def Dev.commitBusy (d : Dev) : Bool := d.circ.armed.isSome || d.circ.committing ≠ []

/-- A current MATE_REPORT shows READY with a HEALTH at least this unit's. -/
def Dev.mateFit (d : Dev) : Bool := d.reportCurrent && d.mateReadiness = 2 && d.health ≤ d.mateHealth

/-- YIELD 1. -/
def yieldReq (d : Dev) : Resp × Dev :=
  if d.tow.role ≠ 0 ∨ d.commitBusy ∨ d.mateFit = false then (.conflict, d)
  else (.ok, d.setTow (fun t => { t with yieldState := 1, yieldDue := true, yieldCycle := none, yieldAt := d.ticks }))

def execYieldReq (s : State) : Host.Outcome State Fault Refusal := s.ask yieldReq

/-- YIELD 2: forced, without a capture. -/
def yieldForced (d : Dev) : Resp × Dev :=
  if d.tow.role ≠ 0 then (.conflict, d)
  else (.ok, d.setTow (fun t => { t with yieldState := 2, yieldDue := false, withdrawAt := d.ticks }))

def execYieldForced (s : State) : Host.Outcome State Fault Refusal := s.ask yieldForced

def yieldWrite (v : Nat) (d : Dev) : Resp × Dev :=
  if v = 1 then yieldReq d else if v = 2 then yieldForced d else (.invalid, d)

/-- YIELD_TIMEOUT: no IMAGE_ACK within 64 cycles, or the mate has not won by 4 cycles after withdrawal began. -/
def yieldTimeout (d : Dev) : Dev :=
  if (d.tow.yieldState = 1 ∧ d.tow.yieldAt + 64 ≤ d.ticks) ∨ (d.tow.yieldState = 2 ∧ d.tow.withdrawAt + 4 ≤ d.ticks) then
    Dev.raise (d.setTow (fun t => { t with yieldState := 4, yieldDue := false })) .yieldFailed
  else d

def execYieldTimeout (s : State) : Host.Outcome State Fault Refusal := s.upd yieldTimeout

/-! ## TOWER_DUTY (R367, R337) -/

/-- The host's own write of TOWER_DUTY: a saved value no longer waits (R433). -/
def Dev.setDuty (d : Dev) (v : Nat) (x : RunState) : Dev :=
  let d := d.setTow (fun t => { t with dutyState := x, dutyWindow := if x = .running then false else t.dutyWindow })
  { d with
    cfg := { d.cfg with tow := { d.cfg.tow with duty := v } }
    boot := { d.boot with savedDuty := none } }

/-- TOWER_DUTY 0: refused on the ACTIVE unit. -/
def towerDutyDisable (d : Dev) : Resp × Dev :=
  if d.tow.role = 0 then (.conflict, d)
  else match d.tow.dutyState with
    | .stopped => (.ok, d.setDuty 0 .stopped)
    | .running => (.ok, d.setDuty 0 .stopping)
    | .stopping => (.ok, d.setDuty 0 .stopping)
    | .restartPending => (.ok, d.setDuty 0 .stopping)

def execTowerDutyDisable (s : State) : Host.Outcome State Fault Refusal := s.ask towerDutyDisable

/-- TOWER_DUTY 1. -/
def towerDutyEnable (d : Dev) : Resp × Dev :=
  match d.tow.dutyState with
  | .stopped => (.ok, d.setDuty 1 .running)
  | .running => (.ok, d.setDuty 1 .running)
  | .stopping => (.ok, d.setDuty 1 .restartPending)
  | .restartPending => (.ok, d.setDuty 1 .restartPending)

def execTowerDutyEnable (s : State) : Host.Outcome State Fault Refusal := s.ask towerDutyEnable

def towerDutyWrite (v : Nat) (d : Dev) : Resp × Dev :=
  if v = 0 then towerDutyDisable d else if v = 1 then towerDutyEnable d else (.invalid, d)

/-- The tick's part: a stopping duty whose withdrawal has reached a window is STOPPED, or restarted (R367). -/
def Dev.dutyTick (d : Dev) : Dev :=
  if d.tow.dutyWindow then
    match d.tow.dutyState with
    | .stopping => d.setTow (fun t => { t with dutyState := .stopped, dutyWindow := false })
    | .restartPending => d.setTow (fun t => { t with dutyState := .running, dutyWindow := false })
    | _ => d.setTow (fun t => { t with dutyWindow := false })
  else d

/-! ## No unit drives (R369) -/

/-- Both units are withdrawn or STOPPED: TOWER_UNDRIVEN once in each 1,024 cycles. -/
def Dev.undrivenTick (d : Dev) : Dev :=
  let run := d.cycleNo / 1024
  if d.tow.role = 3 && d.arr.wiredOn && d.tow.accepted = 0 && d.tow.undrivenRun ≠ some run then
    Dev.raise (d.setTow (fun t => { t with undrivenRun := some run })) .towerUndriven
  else d

end Sys2Proof.Machine
end

