-- ==== Sys2Proof/Machine/Boot.lean ====
section
/-! DEFINITION. Reset, the firmware slots and the boot ROM, firmware start, the saved state (R8, R402, R416, R423 to R433). -/

namespace Sys2Proof.Machine

def Dev.setBoot (d : Dev) (f : Boot → Boot) : Dev := { d with boot := f d.boot }

/-! ## Reset (R423, R424, R431) -/

/-- OWNER_COUNTER_LAST: the last entry of the owner record, 0 before the first (R323, R426). -/
def Flash.ownerCounter (f : Flash) : BitVec 64 := f.ownerCounters.getLastD 0

/-- What a reset does not touch: the external flash, the on-die fuses, the silicon, the test access port; and the model's count of free
values. -/
def Dev.afterReset (d : Dev) : Dev :=
  { ({ } : Dev) with
    free := d.free
    boot := { revision := d.boot.revision, flash := d.boot.flash, ownerSlots := d.boot.ownerSlots
              securityVersion := d.boot.securityVersion, scan := d.boot.scan }
    memory := { fuses := d.memory.fuses }
    req := { ownerCounter := d.boot.flash.ownerCounter } }

/-- RESET_ASSERT: RESET_N low. -/
def resetAssert (d : Dev) : Dev := d.afterReset

def execResetAssert (s : State) : Host.Outcome State Fault Refusal := s.upd resetAssert

/-- No rail is short of its range while one that rises after it is not (R416). -/
def Dev.railOrder (d : Dev) : Bool :=
  (List.range 6).all (fun i => d.railState i = 0 || (List.range 6).all (fun j => j ≤ i || d.railState j ≠ 0))

/-- RESET_RELEASE: the controller leaves reset once the order of the rails is met (R416); the straps are latched, BOOT_COUNT increments, the pumps start, the boot ROM runs; the SRAM is zero. -/
def resetRelease (straps : BitVec 16) (d : Dev) : Dev :=
  if d.boot.phase ≠ .held ∨ d.railOrder = false then d
  else
    let n := d.boot.flash.bootCount + 1
    let d := d.setFlash (fun f => { f with bootCount := n })
    let d := d.setBoot (fun b => { b with phase := .rom, straps := straps &&& 0x07FF })
    let d := { d with ev := { d.ev with bootCount := n }, sram := {} }
    (d.setPump 0 1).setPump 1 1

def execResetRelease (straps : BitVec 16) (s : State) : Host.Outcome State Fault Refusal := s.upd (resetRelease straps)

/-- The part resets as RESET_N does: low, and high again under the same straps. -/
def Dev.restart (d : Dev) : Dev := resetRelease d.boot.straps (resetAssert d)

/-- DEVICE_RESET (R431): refused while ACTIVE. -/
def deviceReset (v : Nat) (d : Dev) : Resp × Dev :=
  if v ≠ 1 then (.invalid, d)
  else if d.tow.role = 0 then (.conflict, d)
  else (.ok, d.restart)

def execDeviceReset (v : BitVec 8) (s : State) : Host.Outcome State Fault Refusal := s.ask (deviceReset v.toNat)

/-! ## Firmware slots (R426 to R428, R441) -/

/-- A block of 1,024 bytes of a slot; an absent one is erased. -/
def erased : List Byte := List.replicate 1024 0xFF

def Flash.slot (f : Flash) (k : Nat) : Tab (List Byte) := if k = 0 then f.slot0 else f.slot1

def Flash.setSlot (f : Flash) (k : Nat) (t : Tab (List Byte)) : Flash :=
  if k = 0 then { f with slot0 := t } else { f with slot1 := t }

/-- The first n bytes of a slot. -/
def slotBytes (t : Tab (List Byte)) (n : Nat) : List Byte :=
  (((List.range ((n + 1023) / 1024)).map (fun j => fit 1024 (tget erased t j))).flatten).take n

/-- Header and image digest: header bytes 0 to 63 followed by the body. -/
structure FwImage where
  header : List Byte
  digest : List Byte
deriving DecidableEq, Repr

def FwImage.format (x : FwImage) : Nat := field x.header 0 2
def FwImage.version (x : FwImage) : Nat := field x.header 4 4
def FwImage.security (x : FwImage) : Nat := field x.header 8 4
def FwImage.vendorSig (x : FwImage) : List Byte := (x.header.drop 64).take 96
def FwImage.ownerSig (x : FwImage) : List Byte := (x.header.drop 160).take 96

/-- A body fits: at most 1,048,576 bytes. -/
def bodyFits (n : Nat) : Bool := n ≤ 1048576

def imageOf (t : Tab (List Byte)) : FwImage :=
  let h := slotBytes t 256
  let n := field h 12 4
  { header := h, digest := if bodyFits n then sha384 (h.take 64 ++ (slotBytes t (256 + n)).drop 256) else [] }

/-- The owner slot in force: the highest blown. -/
def Dev.ownerSlot (d : Dev) : Option Nat := if d.boot.ownerSlots = [] then none else some (d.boot.ownerSlots.length - 1)

/-- The owner key in force: that of the owner record, when it hashes to the fuse of the slot in force. -/
def Dev.ownerKey (d : Dev) : Option (List Byte) :=
  match d.boot.ownerSlots.getLast? with
  | some h => if sha384 d.boot.flash.ownerKey = h then some d.boot.flash.ownerKey else none
  | none => none

/-- The owner's condition of R428 on an image. -/
def Dev.ownerPasses (d : Dev) (x : FwImage) : Bool :=
  d.ownerSlot.isNone || (match d.ownerKey with
    | some k => ecdsaVerify k x.digest x.ownerSig
    | none => false)

/-- SLOT_STATUS byte 0: 0 EMPTY, 1 VALID, 2 BAD_SIGNATURE, 3 BAD_FORMAT, 4 ROLLED_BACK. -/
def Dev.slotCheck (d : Dev) (k : Nat) : Nat :=
  let t := d.boot.flash.slot k
  let x := imageOf t
  if x.header = List.replicate 256 0xFF then 0
  else if x.format ≠ 0x0301 ∨ bodyFits (field x.header 12 4) = false then 3
  else if ecdsaVerify Config.vendorKey x.digest x.vendorSig = false ∨ d.ownerPasses x = false then 2
  else if x.security < d.boot.securityVersion then 4
  else 1

/-- SLOT_STATUS: byte 1 tells a countersigned image. -/
def Dev.slotStatus (d : Dev) (k : Nat) : List Byte :=
  let n := d.slotCheck k
  let x := imageOf (d.boot.flash.slot k)
  if n = 0 then List.replicate 8 0
  else be 1 n ++ be 1 (ofBool (x.ownerSig ≠ List.replicate 96 0)) ++ be 4 x.version ++ be 2 x.security

/-! ## BOOT (R425, R428, R429) -/

/-- The flash is read by a quad fast read where STRAP_FLASH_QUAD is set and its table offers one, else over a single line (R425). -/
def Dev.quadOffered (d : Dev) : Bool := bit d.boot.straps.toNat 8 && d.boot.flash.quad

/-- The preferred slot: an erased boot record reads as 0. -/
def Dev.preferred (d : Dev) : Nat := if d.boot.flash.bootRecord = 1 then 1 else 0

/-- The image of a bootable slot is loaded and its firmware started; SNAP_BOOT_SLOT reads the slot from then on (R441). -/
def Dev.loadSlot (d : Dev) (k : Nat) (passed : Option (Nat × Nat)) : Dev :=
  let x := imageOf (d.boot.flash.slot k)
  Dev.setBoot { d with snap := { d.snap with boot := { d.snap.boot with bootSlot := k } } } (fun b => { b with
    phase := .loaded, quadRead := d.quadOffered, bootSlot := k, target := 1 - k, imageDigest := x.digest
    imageVersion := BitVec.ofNat 32 x.version, imageSecurity := x.security, passedOver := passed })

/-- BOOT: the preferred slot, then the other; without a bootable one, or by strap, RECOVERY. -/
def boot (d : Dev) : Dev :=
  if d.boot.phase ≠ .rom then d
  else if d.boot.flash.sfdp = false ∨ bit d.boot.straps.toNat 9 then d.setBoot (fun b => { b with phase := .recovery })
  else
    let p := d.preferred
    if d.slotCheck p = 1 then d.loadSlot p none
    else if d.slotCheck (1 - p) = 1 then d.loadSlot (1 - p) (some (p, d.slotCheck p))
    else d.setBoot (fun b => { b with phase := .recovery })

def execBoot (s : State) : Host.Outcome State Fault Refusal := s.upd boot

/-! ## The saved state (R432) -/

/-- A copy that passes its digest; another is ignored. -/
def Saved.valid (x : Option Saved) : Option Saved := x.filter (fun a => a.whole)

/-- The newest valid copy. -/
def Flash.newest (f : Flash) : Option Saved :=
  match Saved.valid f.copy0, Saved.valid f.copy1 with
  | some a, some b => if (b.seq - a.seq).toNat < 2 ^ 31 ∧ a.seq ≠ b.seq then some b else some a
  | some a, none => some a
  | none, c => c

/-- Number of the copy that is the newest. -/
def Flash.newestCopy (f : Flash) : Nat :=
  match f.newest with
  | some a => if f.copy1 = some a ∧ f.copy0 ≠ some a then 1 else 0
  | none => 0

/-- The fields that the host, the fabric map or the Circuit Tables write; MODE as the host may write it (R131). -/
def Rec.settings (r : Rec) : Rec :=
  { ({ } : Rec) with
    kind := r.kind, mode := if r.mode = 3 then 0 else if r.mode = 4 then 2 else r.mode
    delay2 := r.delay2, tone := r.tone, dither := r.dither, zone := r.zone, monBEn := r.monBEn, wantB := r.wantB
    monA := r.monA, monB := r.monB, drive := r.drive, kp := r.kp, ki := r.ki, demodPhase := r.demodPhase
    demodLog2 := r.demodLog2, codeSlew := r.codeSlew, feTimer := r.feTimer, phiMin := r.phiMin, phiMax := r.phiMax
    feLimit := r.feLimit, phiFF := r.phiFF, spTarget := r.spTarget, spRate := r.spRate, darkTh := r.darkTh
    manualCode := r.manualCode }

/-- Elements whose record holds anything. -/
def Mem.recordsHeld (m : Mem) : List Nat := ((m.cells.filter (fun c => c.1 < 0x200000)).map (fun c => c.1 / 64)).eraseDups

/-- Bytes that the saved state keeps: calibration points without working curves, the column and site
tables, SP_RATE_LIMIT; and WINDOW_BLOCK (R390). -/
def savedByte (a : Nat) : Bool :=
  (0x940000 ≤ a && a < 0x980000) ||
  (0x200000 ≤ a && a < 0x4C0000 && (a - 0x200000) % 88 < 79) || (0x4C0000 ≤ a && a < 0x500000)
    || (0x571000 ≤ a && a < 0x591000 && (a - 0x571000) % 4 < 2)

/-- The settings of a record as they are saved: of a poisoned word those that the last copy holds, since its own bytes are lost. -/
def Dev.savedRecord (d : Dev) (e : Nat) : List Nat :=
  let old := (d.boot.flash.newest.bind (fun a => tfind a.records e)).getD (({} : Rec).settings.words)
  ((d.record e).settings.words.zipIdx).map (fun p => if d.sram.poisoned (recAddr e + 8 * p.2) then old.getD p.2 0 else p.1)

/-- The copy that firmware would write now. -/
def Dev.savedNow (d : Dev) (seq : BitVec 32) : Saved :=
  let base := bankAddr d.curBank
  { seq := seq, at_ := timeOf d.now, cfg := d.cfg, rights := d.req.staged
    records := d.sram.recordsHeld.map (fun e => (e, d.savedRecord e))
    tables := d.sram.cells.filter (fun c => savedByte c.1)
    bank := (d.sram.cells.filter (fun c => base ≤ c.1 && c.1 < base + 0x48000)).map (fun c => (c.1 - base, c.2))
    fabric := d.fab.image, gen := d.circ.committedGen, bankDigest := d.circ.bankDigest
    triggers := d.time.triggers, whole := false }

def Flash.copy (f : Flash) (k : Nat) : Option Saved := if k = 0 then f.copy0 else f.copy1
def Flash.setCopy (f : Flash) (k : Nat) (x : Option Saved) : Flash := if k = 0 then { f with copy0 := x } else { f with copy1 := x }

/-- SAVED_STATE_WRITE: a change goes into the alternate copy, which is whole, its header written, at the next tick; a reset before then
leaves it without a digest that fits (R432; DESIGN CHOICE, log entry 40). -/
def savedStateWrite (d : Dev) : Dev :=
  if d.boot.phase ≠ .firmware ∨ d.boot.startDone = false ∨ d.boot.saving.isSome then d
  else
    let f := d.boot.flash
    let k := match f.newest with
      | none => 0
      | some _ => 1 - f.newestCopy
    let seq := match f.newest with
      | none => 1
      | some a => a.seq + 1
    (d.setFlash (fun f => f.setCopy k (some (d.savedNow seq)))).setBoot (fun b => { b with saving := some k })

/-- The copy that is being written is whole at the tick. -/
def Dev.savedTick (d : Dev) : Dev :=
  match d.boot.saving with
  | none => d
  | some k =>
    (d.setFlash (fun f => f.setCopy k ((f.copy k).map (fun a => { a with whole := true })))).setBoot (fun b => { b with saving := none })

def execSavedStateWrite (s : State) : Host.Outcome State Fault Refusal := s.upd savedStateWrite

/-- SAVED_STATE_ERASE (R441). -/
def savedStateErase (v : Nat) (d : Dev) : Resp × Dev :=
  if v ≠ 1 then (.invalid, d)
  else (.ok, (d.setFlash (fun f => { f with copy0 := none, copy1 := none })).setBoot (fun b => { b with saving := none }))

def execSavedStateErase (v : BitVec 8) (s : State) : Host.Outcome State Fault Refusal := s.ask (savedStateErase v.toNat)

def startModeWrite (v : Nat) (d : Dev) : Resp × Dev :=
  if 1 < v then (.invalid, d) else (.ok, d.setFlash (fun f => { f with startMode := v }))

/-- The content of a saved copy as it stands in the flash: R432 says what it holds, not how it is laid out (log entry 4). -/
opaque Config.savedContent : Saved → List Byte

/-- The content of a copy, and its header: sequence number, length and SHA-384 of the content, which those of a copy that is not whole
do not fit. -/
def Saved.content (a : Saved) : List Byte := Config.savedContent { a with seq := 0, at_ := ⟨0, 0⟩ }
def Saved.header (a : Saved) : List Byte := be 4 a.seq.toNat ++ be 4 a.content.length ++ sha384 a.content

/-- The flash from an offset on, as the parts of its layout (R426): boot record, firmware slots, owner record, fault log, saved copies;
erased beyond what they hold. -/
def Flash.partAt (f : Flash) (a : Nat) : List Byte :=
  let rec' (x : Option Saved) : List Byte := match x with
    | some s => s.header ++ s.content
    | none => []
  if a < 0x10000 then [f.bootRecord]
  else if a < 0x410000 then slotBytes f.slot0 0x400000
  else if a < 0x810000 then slotBytes f.slot1 0x400000
  else if a < 0x820000 then Config.ownerRecord f.ownerKey f.ownerSlot f.ownerCounters
  else if a < 0x840000 then (List.range 4096).flatMap (fun j => ((f.log.find? (fun p => p.1 = j)).map (fun p => p.2)).getD (List.replicate 32 0xFF))
  else if a < 0x1040000 then rec' f.copy0
  else if a < 0x1840000 then rec' f.copy1
  else []

/-- Where the part that an offset lies in begins (R426). -/
def flashBase (a : Nat) : Nat :=
  if a < 0x10000 then 0 else if a < 0x410000 then 0x10000 else if a < 0x810000 then 0x410000 else if a < 0x820000 then 0x810000
  else if a < 0x840000 then 0x820000 else if a < 0x1040000 then 0x840000 else if a < 0x1840000 then 0x1040000 else 0x1840000

/-- The byte of the flash at an offset. -/
def Flash.byteAt (f : Flash) (a : Nat) : Byte := (f.partAt a).getD (a - flashBase a) 0xFF

/-- CONFIG_DIGEST: the SHA-384 of the content of the newest copy, its header apart; and SAVED_STATE_INFO. -/
def Dev.configDigest (d : Dev) : List Byte :=
  match d.boot.flash.newest with
  | some a => sha384 a.content
  | none => List.replicate 48 0

def Dev.savedInfo (d : Dev) : List Byte :=
  match d.boot.flash.newest with
  | some a => be 4 a.seq.toNat ++ be 1 d.boot.flash.newestCopy ++ [0] ++ a.at_.bytes
  | none => List.replicate 16 0

/-! ## FIRMWARE_START (R8, R428, R433) -/

/-- Every enabled lane looks for block lock from firmware start (R261, R423). -/
def Dev.wakeLanes (d : Dev) : Dev :=
  iter (fun l d => if d.laneEnabled l then d.setLane l { d.lane l with state := .down } else d) 96 0 d

/-- The event of a preferred slot that was passed over (R428). -/
def Dev.reportSlot (d : Dev) : Dev :=
  match d.boot.passedOver with
  | some (k, c) => d.raise .firmwareSlotBad [k, c]
  | none => d

/-- The start mode begins: the saved copy it restores, and why it differs from START_MODE (2 STRAP, 1 NO_SAVED_STATE). -/
def Dev.beginStart (d : Dev) : Dev :=
  let strap : Bool := bit d.boot.straps.toNat 10
  let saved : Option Saved := if strap || d.boot.flash.startMode = 1 then none else d.boot.flash.newest
  let why : Nat := if strap then 2 else if d.boot.flash.startMode = 0 && saved.isNone then 1 else 0
  d.setBoot (fun b => { b with
    startDone := false, startMode := if saved.isSome then 0 else 1, startWhy := why
    savedDuty := saved.map (fun a => a.cfg.tow.duty) })

/-- FIRMWARE_START: firmware posts the slot passed over, checks the revision, writes TOWER_DUTY 0 and begins its start mode. -/
def firmwareStart (d : Dev) : Dev :=
  if d.boot.phase ≠ .loaded then d
  else if d.boot.revision ≠ 0x00A1 then
    Dev.raise (d.setBoot (fun b => { b with phase := .stopped })).reportSlot .unsupportedRevision [d.boot.revision.toNat]
  else (towerDutyDisable ((d.setBoot (fun b => { b with phase := .firmware })).wakeLanes.reportSlot)).2.beginStart

def execFirmwareStart (s : State) : Host.Outcome State Fault Refusal := s.upd firmwareStart

/-! ## START_COMPLETE (R433) -/

/-- Bytes of both banks take a saved bank: the current one is stored, and the next reads as it (R209). -/
def Dev.putBank (d : Dev) (bank : List Host.Cell) (gen : BitVec 32) : Dev :=
  let base := bankAddr d.curBank
  let d := d.mem (fun m =>
    each bank (fun c m => m.setCell (base + c.1) c.2) (m.blank (fun a => 0xA00000 ≤ a)))
  d.setCirc (fun c => { c with written := some [], gen := gen, committedGen := gen })

/-- Settings whose blocks hold state of their own take the saved value as a write would. -/
def Dev.replaySettings (d : Dev) : Dev :=
  let c := d.cfg
  let d := if c.mem.scrubControl = 1 then (scrubControlWrite 1 d).2 else d
  let d := each c.drv.groupControl (fun p d => d.groupWrite p.1 p.2) d
  let d := if c.cal.rotation = 1 then (calRotationWrite 1 d).2 else d
  let d := (decoderControlWrite c.dec.control d).2
  let d := iter (fun l d => d.setLane l { d.lane l with state := if d.laneEnabled l then .down else .disabled }) 96 0 d
  d.setCirc (fun x => { x with digestDue := true })

/-- Everything a saved copy holds but the map is restored; TOWER_DUTY stays 0 (R433), the last-code memory is filled as a write of
IDLE_CODE fills it (R90), and a TRIGGER entry reads as it was written without being pending. -/
def Dev.restoreRest (d : Dev) (a : Saved) : Dev :=
  let d := { d with cfg := { a.cfg with
    tow := { a.cfg.tow with duty := d.cfg.tow.duty } } }
  let d := d.setDrv (fun x => { x with lastCode := [], lastFill := d.cfg.drv.idleCode })
  let d := { d with time := { d.time with triggers := a.triggers.map (fun (p : Nat × Trigger) => (p.1, { p.2 with state := .empty })) } }
  let d := { d with req := { d.req with staged := a.rights, rightsPending := true } }
  let d := d.mem (fun m => each a.records (fun p m => m.putWords (recAddr p.1) p.2) m)
  let d := d.mem (fun m => each a.tables (fun c m => m.setCell c.1 c.2) m)
  (d.putBank a.bank a.gen).replaySettings

/-- The saved map is staged and applied (R189). -/
def Dev.restoreMap (d : Dev) (img : List Byte) : Resp × Dev :=
  if img = [] then (.ok, d)
  else
    let blocks := (img.length + 1023) / 1024
    let d := d.setFab (fun f => { f with
      staged := iter (fun j t => tset [] t j (fit 1024 ((img.drop (1024 * j)).take 1024))) blocks 0 f.staged })
    fabricApply 1 (fabricLengthWrite img.length d).2

/-- START_COMPLETE: the start mode's work is done. A saved map that fails its checks is reported, and nothing is restored. -/
def startComplete (d : Dev) : Dev :=
  if d.boot.phase ≠ .firmware ∨ d.boot.startDone then d
  else
    let saved := if d.boot.startMode = 0 then d.boot.flash.newest else none
    let d := match saved with
      | none => d
      | some a =>
        match d.restoreMap a.fabric with
        | (.ok, d) => d.restoreRest a
        | (_, d) => d.setBoot (fun b => { b with startMode := 1, startWhy := 3, savedDuty := none })
    let d := d.setLoop (fun l => { l with state := .stopped, stopCause := 4, due := none })
    d.setBoot (fun b => { b with startDone := true })

def execStartComplete (s : State) : Host.Outcome State Fault Refusal := s.upd startComplete

/-- SAVED_DUTY_RESTORE: at the first tick at which TIME_STATE is LOCKED. -/
def savedDutyRestore (d : Dev) : Dev :=
  match d.boot.savedDuty with
  | none => d
  | some v =>
    if d.boot.startDone = false ∨ d.time.state ≠ .locked ∨ d.cyc.slot ≠ 0 then d
    else if v = 1 then (towerDutyEnable d).2
    else d.setBoot (fun b => { b with savedDuty := none })

def execSavedDutyRestore (s : State) : Host.Outcome State Fault Refusal := s.upd savedDutyRestore

end Sys2Proof.Machine
end

