-- ==== Sys2Proof/Machine/Compat.lean ====
section
/-! DEFINITION. The load of a VR2-8K configuration image through the compatibility window (R378). -/

namespace Sys2Proof.Machine

/-- Record fields by number, as Config.compatSettings names them. -/
def fieldOf : Nat → RecField
  | 0 => .mode | 1 => .tone | 2 => .ditherEn | 3 => .kp | 4 => .ki | 5 => .demodPhase | 6 => .demodLog2 | 7 => .codeSlew
  | 8 => .feTimer | 9 => .phiMin | 10 => .phiMax | 11 => .feLimit | 12 => .spTarget | 13 => .spRate | 14 => .darkTh
  | 15 => .manualCode | _ => .spRateLimit

def Dev.compatStatus (d : Dev) (st check item : Nat) : Dev :=
  { d with memory := { d.memory with compat := (st, check, item) } }

/-- The whole window. -/
def Dev.windowBytes (d : Dev) : List Byte := d.sram.bytes (windowAddr 0) 0x40000

/-- The marks of the window, by word or by byte. -/
def Dev.windowMarks (d : Dev) : List (Nat × Bool) := (d.sram.poison ++ d.sram.bytePoison).filter (fun e => regionOf e.1 = some 7)

/-- A word of the window is poisoned. -/
def Dev.windowPoisoned (d : Dev) : Bool := d.windowMarks ≠ []

/-- The blocks of a map image are staged as FABRIC_BLOCK writes would stage them. -/
def Dev.stageImage (d : Dev) (img : List Byte) : Dev :=
  let d := iter (fun j d => (fabricBlockWrite j (fit 1024 ((img.drop (1024 * j)).take 1024)) d).2) ((img.length + 1023) / 1024) 0 d
  (fabricLengthWrite img.length d).2

/-- The settings that the conversion gives are staged one by one, and the first refusal of one is kept with its element. -/
def Dev.stageSettings (d : Dev) (l : List (Nat × Nat × Int)) : Option (Resp × Nat) × Dev :=
  each l (fun p (x : Option (Resp × Nat) × Dev) =>
    let r := anyFieldWrite p.1 (fieldOf p.2.1) p.2.2 x.2
    (if x.1.isSome ∨ r.1 = .ok then x.1 else some (r.1, p.1), r.2)) (none, d)

/-- The map is staged and its settings follow it: the load runs on, or ends at the first setting that is refused (R378). -/
def Dev.compatSet (d : Dev) (l : List (Nat × Nat × Int)) : Resp × Dev :=
  let p := d.stageSettings l
  match p.1 with
  | none => (.ok, p.2.compatStatus 1 0 0)
  | some (r, e) => (r, p.2.compatStatus 3 0 e)

/-- COMPAT_LOAD: the window's image is converted, its map applied, its settings staged. A poisoned window is a core's read of poison
(R381). The load runs until its map is in force (R189); a setting that is refused ends it as FAILED_FORMAT (log entry 45). -/
def compatLoad (v : Nat) (d : Dev) : Resp × Dev :=
  if v ≠ 1 then (.invalid, d)
  else if d.cfg.mem.windowMode = 0 then (.conflict, d)
  else if d.compatRunning then (.busy, d)
  else if d.windowPoisoned then (.poisoned, (each (d.windowMarks.take 1) (fun e d => d.consumePoison e.1) d).compatStatus 3 0 0)
  else
    let w := d.windowBytes
    match Config.compatImage w with
    | none => (.invalid, d.compatStatus 3 0 0)
    | some img =>
      let r := fabricApply 1 (d.stageImage img)
      if r.1 = .ok then r.2.compatSet (Config.compatSettings w)
      else if r.1 = .invalid then (.invalid, r.2.compatStatus 4 r.2.fab.error.1 r.2.fab.error.2)
      else (r.1, r.2.compatStatus 4 0 0)

def execCompatLoad (v : BitVec 8) (s : State) : Host.Outcome State Fault Refusal := s.ask (compatLoad v.toNat)

end Sys2Proof.Machine
end

