-- ==== Sys2Proof/Machine/Traffic.lean ====
section
/-! DEFINITION. The Traffic Manager: scheduling, the tick window, shapers, meters and histograms (R278 to R291). -/

namespace Sys2Proof.Machine

/-! ## Starting a frame (R280, R284) -/

/-- TIMESTAMP of a frame of TYPE 3 to 5 is written as it leaves (R258, R297). -/
def Dev.stamp (d : Dev) (l : Nat) (f : Frame) : Frame :=
  if f.typ = 3 ∨ f.typ = 4 ∨ f.typ = 5 then { f with hdr := splice f.hdr 12 (be 4 (d.leavesAt l % 2 ^ 32)) } else f

/-- The transmit time of an own DELAY_REQ is t3 of its exchange (R302). -/
def Dev.noteDelayReq (d : Dev) (l : Nat) (f : Frame) : Dev :=
  match d.time.delayReq with
  | some (q, _) =>
    if f.typ = 4 ∧ f.seq = q.toNat ∧ f.src = d.net.address then
      { d with time := { d.time with delayReq := some (q, d.leavesAt l) } } else d
  | none => d

/-- The head of a queue starts: its depth ends, but for a cut-through frame's, it is counted, and the bucket of a shaped queue falls
by W (R278, R284). -/
def Dev.start (d : Dev) (l c : Nat) (x : Lane) : Dev :=
  match tget [] x.queues c with
  | [] => d.setLane l x
  | h :: t =>
    let d := d.setLane l { x with queues := tset [] x.queues c t, sending := some (d.stamp l h.frame), cut := h.cut }
    let d := ((d.countLane l 1 1).countQueue (8 * l + c) 0 1).countQueue (8 * l + c) 1 h.frame.size
    let d := d.noteDelayReq l h.frame
    if c = 0 ∨ d.shaperOn (8 * l + c) = false then d else d.setBucket (8 * l + c) (d.bucketNow (8 * l + c) - (h.frame.wire * bucketUnit : Nat))

/-- SCHEDULER_SELECT (R280): the frame in transmission has ended, or the lane idles, and the next is chosen. A lane that is
stopping starts no new frame (R274). -/
def schedulerSelect (l : Nat) (d : Dev) : Dev :=
  let y := d.lane l
  let d := d.setLane l { y with sending := none, cut := false }
  match y.state with
  | .disabled | .stopping | .restartPending => d
  | .down | .locked | .up =>
    match d.select l with
    | (some c, x) => d.start l c x
    | (none, x) => d.setLane l x

def execSchedulerSelect (lane : Fin 96) (s : State) : Host.Outcome State Fault Refusal := s.upd (schedulerSelect lane)

/-- Bytes of a frame in transmission, DA to FCS (R257). -/
def Dev.wireBytes (d : Dev) (l : Nat) (f : Frame) : List Byte :=
  let x := d.lane l
  let da : List Byte := if x.heard then [2, 0] ++ be 2 x.peerAddress ++ [0] ++ be 1 x.peerLane else [2, 0, 0, 0, 0, 0]
  let b := da ++ [2, 0] ++ be 2 d.net.address ++ [0] ++ be 1 l ++ be 2 d.cfg.net.etherType ++ f.hdr ++ f.body
  b ++ (if f.bad then (fcs b).map (fun x => ~~~x) else fcs b)

/-! ## Settings (R281, R285, R289, R291) -/

def Dev.setTraf (d : Dev) (f : TrafficCfg → TrafficCfg) : Dev := { d with cfg := { d.cfg with traf := f d.cfg.traf } }

def quantumWrite (x v : Nat) (d : Dev) : Resp × Dev :=
  if x % 8 = 0 ∨ v < 2068 ∨ 65535 < v then (.invalid, d)
  else (.ok, d.setTraf (fun t => { t with quantum := tset 2068 t.quantum x v }))

/-- QUEUE_LIMIT: the lane's eight limits stay within 32,768. -/
def queueLimitWrite (x v : Nat) (d : Dev) : Resp × Dev :=
  let others := iter (fun c n => if 8 * (x / 8) + c = x then n else n + d.queueLimit (8 * (x / 8) + c)) 8 0 0
  if v < 2048 ∨ 32768 < v ∨ 32768 < others + v then (.invalid, d)
  else (.ok, d.setTraf (fun t => { t with queueLimit := tset 4096 t.queueLimit x v }))

def yellowWrite (x v : Nat) (d : Dev) : Resp × Dev :=
  if d.queueLimit x < v then (.invalid, d)
  else (.ok, d.setTraf (fun t => { t with yellow := tset 2048 t.yellow x v }))

/-- Enabling or disabling a shaper never changes B. -/
def shaperEnableWrite (x : Nat) (v : Bool) (d : Dev) : Resp × Dev :=
  if x % 8 = 0 then (.invalid, d)
  else (.ok, d.setTraf (fun t => { t with shaperOn := tset false t.shaperOn x v }))

/-- SHAPER_RATE_WRITE (R285): B is brought up at the old rate, and refills at the new one. -/
def shaperRateWrite (x v : Nat) (d : Dev) : Resp × Dev :=
  if 767 < x then (.noent, d)
  else if x % 8 = 0 ∨ v < 1000 ∨ 25000000 < v then (.invalid, d)
  else (.ok, (d.setBucket x (d.bucketNow x)).setTraf (fun t => { t with shaperRate := tset 1000000 t.shaperRate x v }))

def execShaperRateWrite (x : BitVec 16) (v : BitVec 32) (s : State) : Host.Outcome State Fault Refusal :=
  s.ask (shaperRateWrite x.toNat v.toNat)

/-- SHAPER_BURST_WRITE (R285): a burst below B lowers B to it; a debt stays. -/
def shaperBurstWrite (x v : Nat) (d : Dev) : Resp × Dev :=
  if 767 < x then (.noent, d)
  else if x % 8 = 0 ∨ v < 2068 ∨ 1048576 < v then (.invalid, d)
  else (.ok, (d.setBucket x (min (d.bucketNow x) ((v * bucketUnit : Nat) : Int))).setTraf
    (fun t => { t with shaperBurst := tset 4136 t.shaperBurst x v }))

def execShaperBurstWrite (x : BitVec 16) (v : BitVec 32) (s : State) : Host.Outcome State Fault Refusal :=
  s.ask (shaperBurstWrite x.toNat v.toNat)

/-- The buckets of a class's instances are brought up at the old profile and lowered to the new sizes (R289). -/
def refitMeter (old new : MeterProfile) (c now : Nat) (m : Meter) : Meter :=
  if m.cls = c then
    let m := m.upTo old now
    let full : Bool := new.cbs * meterUnit ≤ m.c && new.pbs * meterUnit ≤ m.p
    { m with
      c := min m.c (new.cbs * meterUnit), p := min m.p (new.pbs * meterUnit)
      full := if !full then none else if m.full.isSome then m.full else some now }
  else m

/-- METER_PROFILE_WRITE (R289). -/
def meterProfileWrite (c cir cbs pir pbs : Nat) (d : Dev) : Resp × Dev :=
  if c = 0 ∨ 7 < c then (.noent, d)
  else if pir < cir ∨ cir < 1000 ∨ 25000000 < cir ∨ pir < 1000 ∨ 25000000 < pir
      ∨ cbs < 64 ∨ 1048576 < cbs ∨ pbs < 64 ∨ 1048576 < pbs then (.invalid, d)
  else
    let new : MeterProfile := { cir := cir, cbs := cbs, pir := pir, pbs := pbs }
    let old := d.profile c
    let d := { d with traf := { d.traf with
      meters := d.traf.meters.map (refitMeter old new c d.mono), shared := d.traf.shared.map (refitMeter old new c d.mono) } }
    (.ok, d.setTraf (fun t => { t with profile := tset {} t.profile c new }))

def execMeterProfileWrite (cls : BitVec 16) (cir cbs pir pbs : BitVec 32) (s : State) : Host.Outcome State Fault Refusal :=
  s.ask (meterProfileWrite cls.toNat cir.toNat cbs.toNat pir.toNat pbs.toNat)

/-- METER_INSTANCE_FREE (R287): an instance whose two buckets have stayed full for 1 s is freed. -/
def meterInstanceFree (src cls : Nat) (d : Dev) : Dev :=
  match d.traf.meters.find? (meterIs src cls) with
  | none => d
  | some m =>
    if 1000000000 + m.fullAt (d.profile cls) ≤ d.mono then
      { d with traf := { d.traf with meters := d.traf.meters.filter (fun x => !meterIs src cls x) } }
    else d

def execMeterInstanceFree (src : BitVec 16) (cls : Fin 8) (s : State) : Host.Outcome State Fault Refusal :=
  s.upd (meterInstanceFree src.toNat cls)

/-! ## Histograms (R290) -/

/-- HIST_CLEAR: 1 clears every histogram at the next tick. -/
def histClear (v : Nat) (d : Dev) : Resp × Dev :=
  if v ≠ 1 then (.invalid, d) else (.ok, { d with traf := { d.traf with histClearDue := true } })

def execHistClear (v : BitVec 8) (s : State) : Host.Outcome State Fault Refusal := s.ask (histClear v.toNat)

/-- Bin of a depth. -/
def depthBin (depth limit : Nat) : Nat := min 15 (16 * depth / limit)

/-- Bin of a head-of-line delay in ns: bin i holds 2^(i+5) to 2^(i+6) - 1. -/
def delayBin (t : Nat) : Nat := if t < 64 then 0 else min 15 (Nat.log2 t - 5)

def bump (t : Tab Nat) (k : Nat) : Tab Nat := tset 0 t k (min 0xFFFFFFFF (tget 0 t k + 1))

/-- One queue is sampled. -/
def Dev.sampleQueue (d : Dev) (l c : Nat) : Dev :=
  let x := d.lane l
  let k := 8 * l + c
  let delay := match tget [] x.queues c with
    | [] => 0
    | h :: _ => d.mono - h.at_
  { d with traf := { d.traf with
    depthHist := bump d.traf.depthHist (16 * k + depthBin (x.depth c) (d.queueLimit k))
    delayHist := bump d.traf.delayHist (16 * k + delayBin delay) } }

/-- Every queue of every enabled lane is sampled (R290). -/
def Dev.sampleQueues (d : Dev) : Dev :=
  iter (fun l d => if (d.lane l).state = .disabled then d else iter (fun c d => d.sampleQueue l c) 8 0 d) 96 0 d

/-- The tick's part: histograms cleared when due, and sampled at every 1,024th cycle number. -/
def Dev.trafficTick (d : Dev) : Dev :=
  let d := if d.traf.histClearDue then
    { d with traf := { d.traf with histClearDue := false, depthHist := [], delayHist := [] } } else d
  if d.cycleNo % 1024 = 0 then d.sampleQueues else d

end Sys2Proof.Machine
end

