-- ==== Sys2Proof/Machine/Cycle.lean ====
section
/-! DEFINITION. The cycle configuration and the tick window (R47 to R51, R55, R56, R62). -/

namespace Sys2Proof.Machine

/-! ## Staged values (R51, R62) -/

/-- The cycle objects are writable: the Loop Engine is stopped and every output is at high impedance. -/
def Dev.cycleIdle (d : Dev) : Bool := d.loop.state = .stopped && !d.driving

def Dev.stageCycle (d : Dev) (f : CycleConf → CycleConf) : Resp × Dev :=
  if d.cycleIdle then
    (.ok, { d with cfg := { d.cfg with cyc := { d.cfg.cyc with staged := f d.cfg.cyc.staged } } })
  else (.conflict, d)

def cyclePeriodWrite (v : Nat) (d : Dev) : Resp × Dev := d.stageCycle (fun c => { c with period := v })
def rowsEnabledWrite (v : Nat) (d : Dev) : Resp × Dev :=
  if d.cycleIdle ∧ (v = 0 ∨ 128 < v) then (.invalid, d) else d.stageCycle (fun c => { c with rows := v })
def idleSlotsWrite (v : Nat) (d : Dev) : Resp × Dev := d.stageCycle (fun c => { c with idle := v })
def slotLengthWrite (v : Nat) (d : Dev) : Resp × Dev :=
  if d.cycleIdle ∧ ¬ (v = 0 ∨ (31 ≤ v ∧ v ≤ 512)) then (.invalid, d) else d.stageCycle (fun c => { c with slotLen := v })

/-- TICK_WINDOW (R56): judged against half the period in force; in force from the next tick. -/
def tickWindowWrite (v : Nat) (d : Dev) : Resp × Dev :=
  if v < 256 ∨ 1600 < v ∨ d.period / 2 < v then (.invalid, d)
  else (.ok, { d with cfg := { d.cfg with cyc := { d.cfg.cyc with tickWindow := v } } })

/-! ## CYCLE_APPLY (R47 to R49, R51) -/

/-- The four values obey R47 to R49. -/
def CycleConf.good (c : CycleConf) : Bool :=
  let s := c.rows + c.idle
  2000 ≤ c.period && c.period ≤ 65536 && 1000000000 % c.period = 0
    && 1 ≤ c.rows && c.rows ≤ 128
    && (if c.slotLen = 0 then 31 * s ≤ c.period && c.period ≤ 512 * s
        else 31 ≤ c.slotLen && c.slotLen ≤ 512 && s * c.slotLen ≤ c.period && (c.period - s * c.slotLen < c.slotLen : Bool))

/-- Rows that the map in force uses: drive sites, monitor sites of elements, and port taps. -/
def Dev.mapRows (d : Dev) : List Nat :=
  (d.used.flatMap (fun e => siteRow (entryDrive (d.entry e)) :: (entrySites (d.entry e)).map siteRow))
    ++ ((List.range d.mapPorts).flatMap (fun p => [d.ingressTap p, d.egressTap p])).filterMap
      (fun s => if s = 0xFFFF then none else some (siteRow s))

/-- CYCLE_APPLY: a value other than 1 is refused first (R6); the staged values are checked together, and wait for their
common tick. -/
def cycleApply (v : Nat) (d : Dev) : Resp × Dev :=
  if v ≠ 1 then (.invalid, d)
  else if d.cyc.next.isSome then (.busy, d)
  else
    let c := d.cfg.cyc.staged
    if c.good = false ∨ d.mapRows.any (fun r => c.rows ≤ r) then (.invalid, d)
    else (.ok, { d with cyc := { d.cyc with next := some c } })

def execCycleApply (v : BitVec 8) (s : State) : Host.Outcome State Fault Refusal := s.ask (cycleApply v.toNat)

/-! ## CYCLE_CONFIG_EFFECT -/

/-- A TICK_WINDOW longer than half the new period is reduced, and TICK_WINDOW_CLIPPED raised (R56). -/
def Dev.clipWindow (d : Dev) (period : Nat) : Dev :=
  let w := period / 2
  let d := { d with cyc := { d.cyc with windowOn := min d.cyc.windowOn w } }
  if w < d.cfg.cyc.tickWindow then
    Dev.raise { d with cfg := { d.cfg with cyc := { d.cfg.cyc with tickWindow := w } } } .tickWindowClipped
  else d

/-- Loop delays are derived anew (R55): DELAY2 of the records takes the derived value. -/
def Dev.deriveDelays (d : Dev) : Dev :=
  each d.used (fun e d =>
    let w := d.entry e
    let two : Bool := entryKind w ≠ 3 && loopDelay (siteRow (entryDrive w)) (entrySites w) = 2
    if (d.record e).delay2 = two then d else d.fieldRec e .core (fun r => { r with delay2 := two })) d

/-- CYCLE_CONFIG_EFFECT: what follows from the configuration that came into force at this tick, once; a configuration comes into
force with the tick itself (Dev.takeConf), so that the tick's own actions count in its period. -/
def cycleConfigEffect (d : Dev) : Dev :=
  if d.cyc.changed = false ∨ d.cyc.slot ≠ 0 then d
  else
    let d := { d with cyc := { d.cyc with changed := false } }
    (d.clipWindow d.cyc.conf.period).deriveDelays.pairTick

def execCycleConfigEffect (s : State) : Host.Outcome State Fault Refusal := s.upd cycleConfigEffect

/-! ## TICK_WINDOW_OPEN (R56) -/

/-- TICK_WINDOW_OPEN: until the tick only class 0 frames start on any link. -/
def tickWindowOpen (d : Dev) : Dev :=
  let d := d.advanceTo d.windowOpens
  { d with cyc := { d.cyc with windowOpen := true } }

def execTickWindowOpen (s : State) : Host.Outcome State Fault Refusal := s.upd tickWindowOpen

/-! ## What the objects show (R62) -/

/-- SLOT_IN_FORCE in ps, rounded down. -/
def CycleConf.slotPs (c : CycleConf) : Nat := if c.slotLen = 0 then c.period * 1000 / (c.rows + c.idle) else c.slotLen * 1000

/-- LOOP_DELAY_2 and THROTTLED_COUNT. -/
def Dev.delay2Count (d : Dev) : Nat := (d.used.filter (fun e => (d.record e).delay2)).length
def Dev.throttledCount (d : Dev) : Nat := (trueKeys d.cyc.halfRate).length

end Sys2Proof.Machine
end

