-- ==== Sys2Proof/Machine/Enumeration.lean ====
section
/-! DEFINITION. Roles and enumeration (R262 to R267, R277). -/

namespace Sys2Proof.Machine

/-- The plane-A downlinks that have a peer: heard, UP or not (R261, R263). The present role does not matter, since the pass decides
what it is to be (R262). -/
def Dev.childLanes (d : Dev) : List Nat :=
  ((List.range 92).map (fun i => i + 4)).filter (fun l => (d.lane l).heard && (d.lane l).peerLane = 0)

/-- DEPTH of the parent, which ENUMERATE carries to it (R262). -/
def Dev.parentDepth (d : Dev) : Nat := d.net.depth - 1

/-- The own address is taken; a change raises ADDRESS_CHANGED (R264). -/
def Dev.takeAddress (d : Dev) (a : Nat) : Dev :=
  let was := d.net.address
  (d.setNet (fun n => { n with address := a })).raiseIf (was ≠ a) .addressChanged

/-- COUNT goes to every plane-A child (R263). -/
def Dev.askCounts (d : Dev) : Dev :=
  let ls := d.childLanes
  let d := d.setNet (fun n => { n with enumState := .counting, enumAt := d.mono, children := ls.map (fun l => { lane := l }) })
  each ls (fun l d => d.sendEnum l 0 (d.net.depth + 1) 0 0 0) d

/-- Every child has answered or is left out. -/
def Dev.counted (d : Dev) : Bool := d.net.children.all (fun c => c.excluded || c.count.isSome)

/-- 1 + SPARE_ADDRESSES + the sum of the children's counts (R263). -/
def Dev.countTotal (d : Dev) : Nat :=
  1 + d.cfg.net.spareAddresses + (d.net.children.map (fun c => if c.excluded then 0 else c.count.getD 0)).sum

/-- A block of addresses for the child on a lane. -/
structure Block where
  lane : Nat
  low : Nat
  high : Nat
deriving DecidableEq, Repr

/-- Addresses that children hold whose tree position is unchanged: they report one of this controller's block that no other lane's
entry holds. A count pass never moves them (R267). -/
def Dev.keptStarts (d : Dev) (top : Nat) (cs : List EnumChild) : List (Nat × Nat) :=
  cs.filterMap (fun c =>
    let a := (d.lane c.lane).peerAddress
    if d.net.address < a && a ≤ top && !d.heldOn (fun k => k ≠ c.lane) a then some (c.lane, a) else none)

/-- The block of a child that keeps its address: its count, cut where the next kept child begins. -/
def keptBlock (starts : List (Nat × Nat)) (c : EnumChild) : Option Block :=
  match starts.find? (fun s => s.1 = c.lane) with
  | none => none
  | some (_, a) =>
    let limit := (starts.filter (fun s => a < s.2)).foldl (fun m s => min m (s.2 - 1)) (a + c.count.getD 0 - 1)
    some ⟨c.lane, a, limit⟩

/-- The lowest address from a on at which n addresses meet no block, tried past the end of every block in its way. -/
def lowestFree (bs : List Block) (n : Nat) : Nat → Nat → Nat
  | 0, a => a
  | k + 1, a =>
    match bs.find? (fun b => b.low ≤ a + n - 1 && a ≤ b.high) with
    | some b => lowestFree bs n k (b.high + 1)
    | none => a

/-- The others get the lowest addresses that are free for their counts, in ascending lane order: consecutive blocks where none is
kept (R264). -/
def placeBlocks (from_ : Nat) : List EnumChild → List Block → List Block
  | [], bs => bs
  | c :: l, bs =>
    let n := c.count.getD 0
    let a := lowestFree bs n bs.length from_
    placeBlocks from_ l (bs ++ [⟨c.lane, a, a + n - 1⟩])

/-- The blocks of the counted children, in ascending lane order, some of which keep where they start. -/
def Dev.blocksFrom (d : Dev) (starts : List (Nat × Nat)) (cs : List EnumChild) : List Block :=
  let kept := cs.filterMap (keptBlock starts)
  let all := placeBlocks (d.net.address + 1) (cs.filter (fun c => (keptBlock starts c).isNone)) kept
  cs.filterMap (fun c => all.find? (fun b => b.lane = c.lane))

/-- The blocks of the counted children: those keep their addresses whose tree position is unchanged; where the own block has no room
for that, all of them are consecutive (R264, R267; DEDUCED, log entry 80). -/
def Dev.blocks (d : Dev) (top : Nat) (cs : List EnumChild) : List Block :=
  let bs := d.blocksFrom (d.keptStarts top cs) cs
  if bs.all (fun b => b.high ≤ top) then bs else d.blocksFrom [] cs

/-- Blocks are given to the children. One that no address of the own block is left for stays out (R267). -/
def Dev.giveBlocks (d : Dev) (top : Nat) (bs : List Block) : Dev :=
  each bs (fun b d =>
    if top < b.high then
      Dev.raise (d.setNet (fun t => { t with
        children := t.children.map (fun x => if x.lane = b.lane then { x with excluded := true } else x) })) .enumNoSpace
    else
      let d := d.addRoute { low := b.low, high := b.high, lane := b.lane, planeB := false, hello := false }
      let d := d.setNet (fun t => { t with
        children := t.children.map (fun x => if x.lane = b.lane then { x with offered := some b.low } else x) })
      d.sendEnum b.lane 2 (d.net.depth + 1) 0 b.low b.high) d

/-- Every child of the assignment pass has answered. -/
def Dev.assigned (d : Dev) : Bool := d.net.children.all (fun c => c.excluded || c.assigned)

/-- The assignment pass ends here: the Dome reads DONE and raises ENUM_DONE; any other answers ASSIGN_DONE (R264). The block of a
controller assigned from spares ends with what it uses and its own spares, so that its parent's other spares stay free (R267). -/
def Dev.finishAssign (d : Dev) (value : Nat) : Dev :=
  let last := if d.net.late then value + d.cfg.net.spareAddresses else value
  let d := d.setNet (fun n => { n with enumState := .done, blockHigh := if n.late then last else n.blockHigh })
  match d.net.enumParent with
  | none => d.raise .enumDone
  | some l => d.sendEnum l 3 d.parentDepth 0 last 0

def Dev.finishIfAssigned (d : Dev) : Dev :=
  if d.net.enumState = .assigning ∧ d.assigned then d.finishAssign d.lastUsed else d

/-- Uncounted children are offered the next address, one at a time (R267). -/
def Dev.offerNext (d : Dev) : Dev :=
  each (d.net.children.filter (fun c => !c.excluded && !c.assigned && c.count.isNone && c.offered.isNone)) (fun c d => d.offerSpare c.lane) d

/-- The assignment pass begins: the entries of the last one go, and every child gets its block (R264). A Dome's block reaches as far
as the blocks it gives. -/
def Dev.startAssign (d : Dev) : Dev :=
  let d := d.setNet (fun n => { n with enumState := .assigning, enumAt := d.mono })
  let top := if d.net.enumParent.isNone then d.net.address + d.cfg.net.domainSize - 1 else d.net.blockHigh
  let bs := d.blocks top (d.net.children.filter (fun c => c.count.isSome && !c.excluded))
  let d := d.setNet (fun n => { n with
    blockHigh := if n.enumParent.isNone then (bs.map (fun b => b.high)).foldl max n.blockHigh else n.blockHigh })
  let d := (d.dropRoutes (fun r => !r.hello)).giveBlocks top bs
  d.offerNext.finishIfAssigned

/-- The count pass ends here (R263, R264). -/
def Dev.finishCount (d : Dev) : Dev :=
  let total := d.countTotal
  let d := d.setNet (fun n => { n with enumTotal := total })
  match d.net.enumParent with
  | some l => d.sendEnum l 1 d.parentDepth 0 total 0
  | none =>
    if d.cfg.net.domainSize < total then
      d.setNet (fun n => { n with enumState := .failed, enumStatus := 2 })
    else (d.setNet (fun n => { n with blockHigh := n.address + total - 1 })).startAssign

def Dev.finishIfCounted (d : Dev) : Dev := if d.counted then d.finishCount else d

def Dev.exclude (d : Dev) (l : Nat) : Dev :=
  Dev.raise (d.setNet (fun n => { n with
    children := n.children.map (fun c => if c.lane = l then { c with excluded := true } else c)
    enumExcluded := n.enumExcluded + 1 })) .enumChildExcluded [l]

/-- ENUM_START (R262 to R264, R266): the Dome takes its role and address and begins to count, or passes ASSIGN along its chain. -/
def enumStart (v : Nat) (d : Dev) : Resp × Dev :=
  if v ≠ 1 then (.invalid, d)
  else if d.domeEn = false then (.conflict, d)
  else if d.net.enumState = .counting ∨ d.net.enumState = .assigning then (.busy, d)
  else
    let base := d.cfg.net.domainBase
    let d := d.takeAddress base
    let d := d.setNet (fun n => { n with
      role := .dome, depth := 0, domeAddr := base, enumGen := n.enumGen + 1, enumParent := none, chain := d.chainEn, late := false
      enumTotal := 0, enumStatus := 0, enumExcluded := 0, blockHigh := base })
    if d.chainEn then
      let d := d.dropRoutes (fun r => !r.hello)
      if (d.childLanes).contains 4 then
        (.ok, (d.setNet (fun n => { n with enumState := .assigning, enumAt := d.mono, children := [{ lane := 4 }] })).sendEnum 4 2 1 0 (base + 1) 0)
      else (.ok, Dev.finishAssign (d.setNet (fun n => { n with enumTotal := 1, children := [] })) base)
    else (.ok, d.askCounts.finishIfCounted)

def execEnumStart (v : BitVec 8) (s : State) : Host.Outcome State Fault Refusal := s.ask (enumStart v.toNat)

/-- A Dome drops ENUMERATE that comes on an uplink and raises WIRING_FAULT (R262). -/
def Dev.domeUplink (d : Dev) (l : Nat) : Bool := d.domeEn && l < 2

/-- A pass begins at a controller below the Dome: ENUM_RESULT begins anew, with a status (R277). -/
def Dev.beginResult (d : Dev) (status : Nat) : Dev :=
  d.setNet (fun n => { n with enumTotal := 0, enumStatus := status, enumExcluded := 0 })

/-- ENUM_COUNT (R263): COUNT received; an answer carries the depth of its receiver. -/
def enumCount (l : Nat) (m : EnumMsg) (d : Dev) : Dev :=
  let d := d.take l 1
  if d.domeUplink l then d.raise .wiringFault
  else if l ≠ 0 then
    (d.beginResult 3).sendLocal l 2 1 0 false (enumPayload 1 (m.depth.toNat - 1) 3 m.chain m.gen.toNat 0 0 m.dome.toNat)
  else if 8 < m.depth.toNat then
    (d.beginResult 1).sendLocal l 2 1 0 false (enumPayload 1 (m.depth.toNat - 1) 1 m.chain m.gen.toNat 0 0 m.dome.toNat)
  else
    let d := (d.beginResult 0).setNet (fun n => { n with
      depth := m.depth.toNat, enumGen := m.gen, enumParent := some 0, domeAddr := m.dome.toNat, chain := false, late := false })
    d.askCounts.finishIfCounted

def execEnumCount (lane : Fin 96) (msg : EnumMsg) (s : State) : Host.Outcome State Fault Refusal := s.upd (enumCount lane msg)

/-- ENUM_COUNT_REPLY (R263): a child's count, or its exclusion. -/
def enumCountReply (l : Nat) (m : EnumMsg) (d : Dev) : Dev :=
  let d := d.take l 1
  if d.domeUplink l then d.raise .wiringFault
  else if d.net.enumState = .counting
      ∧ d.net.children.any (fun c => c.lane = l && c.count.isNone && !c.excluded) then
    (if m.status = 0 then
      d.setNet (fun n => { n with
        children := n.children.map (fun c => if c.lane = l then { c with count := some m.value.toNat } else c) })
    else d.exclude l).finishIfCounted
  else d

def execEnumCountReply (lane : Fin 96) (msg : EnumMsg) (s : State) : Host.Outcome State Fault Refusal :=
  s.upd (enumCountReply lane msg)

/-- The wait for the children's answers is over: (8 - DEPTH) * 25 ms, or (63 - DEPTH) * 25 ms on a chain (R263, R264, R266). -/
def Dev.enumOver (d : Dev) : Bool :=
  d.net.enumAt + ((if d.net.chain then 63 else 8) - d.net.depth) * 25000000 ≤ d.mono

/-- ENUM_CHILD_TIMEOUT (R263): a child's count does not come in time. -/
def enumChildTimeout (l : Nat) (d : Dev) : Dev :=
  if d.enumOver ∧ d.net.enumState = .counting ∧ d.net.children.any (fun c => c.lane = l && c.count.isNone && !c.excluded) then
    (d.exclude l).finishIfCounted
  else d

def execEnumChildTimeout (lane : Fin 96) (s : State) : Host.Outcome State Fault Refusal := s.upd (enumChildTimeout lane)

/-- A member of a chain takes its address and passes ASSIGN along (R266). -/
def Dev.chainAssign (d : Dev) (m : EnumMsg) : Dev :=
  if 64 ≤ m.depth.toNat then
    (d.beginResult 1).sendLocal 0 2 1 0 false (enumPayload 3 (m.depth.toNat - 1) 1 true m.gen.toNat (m.value.toNat - 1) 0 m.dome.toNat)
  else
    let d := d.takeAddress m.value.toNat
    let next := d.childLanes.contains 4
    let d := (d.beginResult 0).setNet (fun n => { n with
      depth := m.depth.toNat, enumGen := m.gen, enumParent := some 0, domeAddr := m.dome.toNat, chain := true, late := false
      blockHigh := m.value.toNat, role := if next then .turret else .finial, enumState := .assigning, enumAt := d.mono
      children := if next then [{ lane := 4 }] else [] })
    let d := d.dropRoutes (fun r => !r.hello)
    if next then d.sendEnum 4 2 (m.depth.toNat + 1) 0 (m.value.toNat + 1) 0 else d.finishAssign m.value.toNat

/-- A controller that took part in no count pass gets its addresses from its parent's spares; they must serve it, its own spares and
its plane-A children, or it answers NO_SPACE and stays UNASSIGNED (R267; DEDUCED, log entry 80). -/
def Dev.unserved (d : Dev) (m : EnumMsg) : Bool :=
  d.net.enumState ≠ .counting && m.blockHigh.toNat < m.value.toNat + d.cfg.net.spareAddresses + d.childLanes.length

/-- ENUM_ASSIGN (R262, R264, R266, R267): ASSIGN received on SL0. -/
def enumAssign (l : Nat) (m : EnumMsg) (d : Dev) : Dev :=
  let d := d.take l 1
  if d.domeUplink l then d.raise .wiringFault
  else if l ≠ 0 then d
  else if m.chain then d.chainAssign m
  else if d.unserved m then
    let d := d.setNet (fun n => { n with enumStatus := 2 })
    d.sendLocal 0 2 1 0 false (enumPayload 3 (m.depth.toNat - 1) 2 false m.gen.toNat (m.value.toNat - 1) 0 m.dome.toNat)
  else
    let d := d.takeAddress m.value.toNat
    let kids := d.childLanes
    let late : Bool := d.net.enumState ≠ .counting
    let d := d.setNet (fun n => { n with
      late := late
      depth := m.depth.toNat, enumGen := m.gen, enumParent := some 0, domeAddr := m.dome.toNat, chain := false
      blockHigh := m.blockHigh.toNat, role := if kids = [] then .finial else .turret
      children := kids.map (fun k => (if late then none else (n.children.find? (fun c => c.lane = k)).map
        (fun c => { c with assigned := false, offered := none })).getD { lane := k }) })
    d.startAssign

def execEnumAssign (lane : Fin 96) (msg : EnumMsg) (s : State) : Host.Outcome State Fault Refusal := s.upd (enumAssign lane msg)

/-- ENUM_ASSIGN_DONE (R264, R266, R267): a child has its addresses; an uncounted child's entry covers what it used. -/
def enumAssignDone (l : Nat) (m : EnumMsg) (d : Dev) : Dev :=
  let d := d.take l 1
  if d.domeUplink l then d.raise .wiringFault
  else match d.net.children.find? (fun c => c.lane = l && !c.assigned && !c.excluded) with
  | none => d
  | some c =>
    let d := d.setNet (fun n => { n with
      children := n.children.map (fun x => if x.lane = l then { x with assigned := true } else x) })
    if d.net.chain then
      let d := if d.net.address < m.value.toNat then
        d.addRoute { low := d.net.address + 1, high := m.value.toNat, lane := 4, planeB := false, hello := false } else d
      let d := d.setNet (fun n => { n with blockHigh := m.value.toNat, enumTotal := m.value.toNat + 1 - n.address })
      if d.net.enumState = .assigning then d.finishAssign m.value.toNat else d
    else
      let d := match c.count, c.offered with
        | none, some a =>
          (if m.status = 0 ∧ a ≤ m.value.toNat then
            d.addRoute { low := a, high := m.value.toNat, lane := l, planeB := false, hello := false }
          else d.raise .enumNoSpace).offerNext
        | _, _ => d
      d.finishIfAssigned

def execEnumAssignDone (lane : Fin 96) (msg : EnumMsg) (s : State) : Host.Outcome State Fault Refusal :=
  s.upd (enumAssignDone lane msg)

/-- A child that was offered a spare and does not answer waits no longer; the next one is served. -/
def Dev.dropWaiting (d : Dev) : Dev :=
  let l := d.net.children.filter (fun c => !c.waits)
  if l = d.net.children then d else (d.setNet (fun n => { n with children := l })).offerNext

/-- ENUM_ASSIGN_TIMEOUT (R264, R266): a controller below the Dome answers ASSIGN_DONE although a child has not answered. After the
passes it ends the wait for a child that came up late. -/
def enumAssignTimeout (d : Dev) : Dev :=
  if d.enumOver = false then d
  else if d.net.enumState = .assigning ∧ d.net.enumParent.isSome then d.finishAssign d.lastUsed
  else if d.net.enumState = .done then d.dropWaiting else d

def execEnumAssignTimeout (s : State) : Host.Outcome State Fault Refusal := s.upd enumAssignTimeout

/-! ## Settings (R273, R277) -/

/-- HOST_BLOCK written: it must lie outside the domain. -/
def hostBlockWrite (b : List Byte) (d : Dev) : Resp × Dev :=
  let lo := field b 0 2
  let hi := field b 2 2
  let n := d.cfg.net
  if hi < lo ∨ (lo < n.domainBase + n.domainSize ∧ n.domainBase ≤ hi) then (.invalid, d)
  else (.ok, { d with cfg := { d.cfg with net := { n with hostLow := lo, hostHigh := hi } } })

/-- ROUTE_COUNT (R277). -/
def Dev.routeCount (d : Dev) : Nat := d.routeList.length

end Sys2Proof.Machine
end

