-- ==== Sys2Proof/Machine/FrameRx.lean ====
section
/-! DEFINITION. FRAME_RECEIVE: what a lane's receiver does with the bytes of a frame (R257 to R260, R268, R286, R288). -/

namespace Sys2Proof.Machine

/-- Why a receiver drops a frame, as the lane counter that counts it (R257, R258, R260, R276). -/
inductive Heard where
  | drop (counter : Nat) | frame (f : Frame)
deriving DecidableEq, Repr

/-- The receiver's checks (R257, R258, R260), on the bytes from DA to FCS. A frame of class 0 to 2 whose FCS alone fails is marked:
it may have been sent on already. -/
def Dev.parse (d : Dev) (l : Nat) (bytes : List Byte) : Heard :=
  let n := bytes.length
  let bad : Bool := fcs (bytes.take (n - 4)) ≠ bytes.drop (n - 4)
  let f : Frame := { hdr := (bytes.drop 14).take 20, body := (bytes.drop 34).take (n - 38), bad := bad }
  let odd : Bool := field bytes 12 2 ≠ d.cfg.net.etherType || f.version ≠ 3 || crc16 (f.hdr.take 12) ≠ field f.hdr 16 2
    || f.body.length < f.length || !classAllowed f.typ f.cls || 2 < f.cls
  if n < 64 ∨ d.mtu l < n then .drop 4
  else if bad && odd then .drop 3
  else if field bytes 12 2 ≠ d.cfg.net.etherType then .drop 4
  else if f.version ≠ 3 ∨ crc16 (f.hdr.take 12) ≠ field f.hdr 16 2 then .drop 2
  else if f.body.length < f.length then .drop 4
  else if classAllowed f.typ f.cls = false then .drop 8
  else .frame f

/-- A frame of class 0 to 2 that is to be forwarded has left already, in part, when its FCS is checked (R259). -/
def Dev.cutsThrough (d : Dev) (l : Nat) (f : Frame) : Bool :=
  match d.way (some l) f.planeB false f.dest with
  | .out k =>
    if d.laneUp k then d.atOnce k f.hop
    else match d.way (some l) (!f.planeB) true f.dest with
      | .out m => !f.switched && d.laneUp m && d.atOnce m f.hop
      | _ => false
  | .broadcast => (d.downlinks f.planeB).any (fun k => d.atOnce k f.hop)
  | _ => false

/-- A frame that passed the receiver is metered and routed; red frames are dropped, yellow ones only where they are
forwarded (R286, R288). -/
def Dev.accept (d : Dev) (l : Nat) (f : Frame) : Dev :=
  let d := d.countLane l (if f.bad then 3 else 0) 1
  if f.cls = 0 ∨ l = 2 ∨ l = 3 then d.route (some l) f false
  else
    let r := d.meterFrame f
    let x := 8 * l + f.cls
    match r.1 with
    | .green => (r.2.countMeter x 0).route (some l) f false
    | .yellow => (r.2.countMeter x 1).route (some l) f true
    | .red => r.2.countMeter x 2

/-- FRAME_RECEIVE: the bytes of one frame, DA to FCS, arrive on a lane, and the frame is stamped (R297). -/
def frameReceive (l : Nat) (bytes : List Byte) (rx : RxInfo) (d : Dev) : Dev :=
  if (d.lane l).receives = false then d else
  let d := d.countFec l rx.fec
  match d.parse l bytes with
  | .drop i => d.countLane l i 1
  | .frame f =>
    if !d.mayTravel l f then d.countLane l (if f.bad then 3 else 5) 1
    else if f.bad && !d.cutsThrough l f then d.countLane l 3 1
    else d.accept l { f with rx := d.rxStamp l rx.align.toNat }

def execFrameReceive (lane : Fin 96) (frame : RxFrame) (s : State) : Host.Outcome State Fault Refusal :=
  s.upd (frameReceive lane frame.bytes frame.rx)

end Sys2Proof.Machine
end

