-- ==== Sys2Proof/Machine/Settings.lean ====
section
/-! DEFINITION. Settings that need no more than their range checked before they are kept, and the staged access rights
(R334, R335, R342). -/

namespace Sys2Proof.Machine

def Dev.setMemCfg (d : Dev) (f : MemCfg → MemCfg) : Dev := { d with cfg := { d.cfg with mem := f d.cfg.mem } }
def Dev.setEvCfg (d : Dev) (f : EventCfg → EventCfg) : Dev := { d with cfg := { d.cfg with ev := f d.cfg.ev } }
def Dev.setNetCfg (d : Dev) (f : NetCfg → NetCfg) : Dev := { d with cfg := { d.cfg with net := f d.cfg.net } }
def Dev.setReqCfg (d : Dev) (f : ReqCfg → ReqCfg) : Dev := { d with cfg := { d.cfg with req := f d.cfg.req } }
def Dev.setTowCfg (d : Dev) (f : TowerCfg → TowerCfg) : Dev := { d with cfg := { d.cfg with tow := f d.cfg.tow } }
def Dev.setCircCfg (d : Dev) (f : CircCfg → CircCfg) : Dev := { d with cfg := { d.cfg with circ := f d.cfg.circ } }

/-- A value is kept when it lies in its range. -/
def keepIf (ok : Bool) (f : Dev → Dev) (d : Dev) : Resp × Dev := if ok then (.ok, f d) else (.invalid, d)

/-! ## Memory (R390) -/

def ceThresholdWrite (g v : Nat) : Dev → Resp × Dev :=
  keepIf true (fun d => d.setMemCfg (fun c => { c with ceThreshold := tset 64 c.ceThreshold g v }))
def ceLeakIntervalWrite (v : Nat) : Dev → Resp × Dev :=
  keepIf (1 ≤ v && v ≤ 60000) (fun d => d.setMemCfg (fun c => { c with ceLeakInterval := v }))
def scrubRateWrite (v : Nat) : Dev → Resp × Dev :=
  keepIf (1 ≤ v && v ≤ 16384) (fun d => d.setMemCfg (fun c => { c with scrubRate := v }))
def scrubAutoWrite (v : Bool) : Dev → Resp × Dev := keepIf true (fun d => d.setMemCfg (fun c => { c with scrubAuto := v }))
def repairAutoWrite (v : Bool) : Dev → Resp × Dev := keepIf true (fun d => d.setMemCfg (fun c => { c with repairAuto := v }))
def repairThresholdWrite (v : Nat) : Dev → Resp × Dev :=
  keepIf (1 ≤ v) (fun d => d.setMemCfg (fun c => { c with repairThreshold := v }))

/-! ## Events (R405) -/

def eventDestWrite (v : Nat) : Dev → Resp × Dev := keepIf true (fun d => d.setEvCfg (fun c => { c with dest := BitVec.ofNat 16 v }))
def irqLevelWrite (v : Nat) : Dev → Resp × Dev := keepIf (v ≤ 3) (fun d => d.setEvCfg (fun c => { c with irqLevel := v }))
def suppressLimitWrite (v : Nat) : Dev → Resp × Dev :=
  keepIf (1 ≤ v) (fun d => d.setEvCfg (fun c => { c with suppressLimit := v }))

/-! ## Links and addressing (R276, R277) -/

def etherTypeWrite (v : Nat) : Dev → Resp × Dev := keepIf true (fun d => d.setNetCfg (fun c => { c with etherType := v }))

/-- DOMAIN_BASE and DOMAIN_SIZE: keeping them within R273 is the host's part; no rule refuses a value. -/
def domainBaseWrite (v : Nat) : Dev → Resp × Dev := keepIf true (fun d => d.setNetCfg (fun c => { c with domainBase := v }))
def domainSizeWrite (v : Nat) : Dev → Resp × Dev := keepIf true (fun d => d.setNetCfg (fun c => { c with domainSize := v }))
def spareAddressesWrite (v : Nat) : Dev → Resp × Dev := keepIf true (fun d => d.setNetCfg (fun c => { c with spareAddresses := v }))

/-- METER_ENABLE of class c, 1 to 7 (R291). -/
def meterEnableWrite (c : Nat) (v : Bool) (d : Dev) : Resp × Dev :=
  if c = 0 then (.noent, d) else (.ok, d.setTraf (fun t => { t with meterOn := tset false t.meterOn c v }))

/-! ## Time (R314, R315) -/

def tickOutDivWrite (v : Nat) : Dev → Resp × Dev := keepIf true (fun d => d.setTimeCfg (fun c => { c with tickOutDiv := v }))
def snapInEnableWrite (v : Bool) : Dev → Resp × Dev := keepIf true (fun d => d.setTimeCfg (fun c => { c with snapInEnable := v }))
def snapLockWrite (v : Bool) : Dev → Resp × Dev := keepIf true (fun d => d.setTimeCfg (fun c => { c with snapLock := v }))

/-! ## Tower and circuits (R370, R229) -/

def claimRankWrite (v : Nat) : Dev → Resp × Dev := keepIf true (fun d => d.setTowCfg (fun c => { c with rank := v }))
def checkpointEnableWrite (v : Bool) : Dev → Resp × Dev := keepIf true (fun d => d.setTowCfg (fun c => { c with enable := v }))
def rejectStaleWrite (v : Bool) : Dev → Resp × Dev := keepIf true (fun d => d.setCircCfg (fun c => { c with rejectStale := v }))

/-! ## Identity and telemetry (R339 to R341) -/

/-- Continuation bytes that a lead byte asks for, and the range of the first of them; none for a byte that leads nothing. -/
def utf8Lead (b : Nat) : Option (Nat × Nat × Nat) :=
  if b < 0x80 then some (0, 0, 0)
  else if b < 0xC2 then none
  else if b < 0xE0 then some (1, 0x80, 0xBF)
  else if b = 0xE0 then some (2, 0xA0, 0xBF)
  else if b = 0xED then some (2, 0x80, 0x9F)
  else if b < 0xF0 then some (2, 0x80, 0xBF)
  else if b = 0xF0 then some (3, 0x90, 0xBF)
  else if b < 0xF4 then some (3, 0x80, 0xBF)
  else if b = 0xF4 then some (3, 0x80, 0x8F)
  else none

/-- UTF-8 text (R317): n continuation bytes are still to come, the first of them within lo ... hi. -/
def utf8From : Nat → Nat → Nat → List Byte → Bool
  | n, _, _, [] => n = 0
  | 0, _, _, b :: l => match utf8Lead b.toNat with
    | some (k, lo, hi) => utf8From k lo hi l
    | none => false
  | n + 1, lo, hi, b :: l => lo ≤ b.toNat && b.toNat ≤ hi && utf8From n 0x80 0xBF l

def utf8Ok (l : List Byte) : Bool := utf8From 0 0 0 l

def deviceLabelWrite (b : List Byte) : Dev → Resp × Dev := keepIf (b.length ≤ 32) (fun d => d.setReqCfg (fun c => { c with label := b }))
def systemIdWrite (v : Nat) : Dev → Resp × Dev := keepIf true (fun d => d.setReqCfg (fun c => { c with systemId := BitVec.ofNat 32 v }))
def domainIdWrite (v : Nat) : Dev → Resp × Dev := keepIf true (fun d => d.setReqCfg (fun c => { c with domainId := BitVec.ofNat 16 v }))

/-- The n object entries of a TELEM_LIST, the reserved bits of SEL kept 0 (R6, R341). -/
def telemEntries : Nat → List Byte → List Byte
  | 0, _ => []
  | n + 1, l => l.take 3 ++ [l.getD 3 0 &&& 1] ++ (l.drop 4).take 2 ++ telemEntries n (l.drop 6)

/-- TELEM_LIST: as many objects as its count says, at most 32 (R336, R341); reserved parts are kept 0 (R6). -/
def telemListWrite (n : Nat) (b : List Byte) : Dev → Resp × Dev :=
  keepIf (field b 4 1 ≤ 32 && b.length = 6 + 6 * field b 4 1)
    (fun d => d.setReqCfg (fun c => { c with
      telem := tset (List.replicate 6 0) c.telem n (b.take 5 ++ [0] ++ telemEntries (field b 4 1) (b.drop 6)) }))

/-! ## Access rights (R334, R335, R342) -/

/-- A write of the rights is staged for the next tick. -/
def Dev.stageRights (d : Dev) (f : Rights → Rights) : Dev :=
  d.setReq (fun r => { r with staged := f r.staged, rightsPending := true })

/-- Range levels of an index number: 3 and 3 where the table holds nothing else (R338). -/
def Rights.range (r : Rights) (i : Nat) : Nat × Nat := tget (3, 3) (r.ranges.map (fun x => (x.1, x.2.1, x.2.2))) i

def rangeRightsWrite (r rd wr : Nat) (d : Dev) : Resp × Dev :=
  if 28 < r then (.noent, d)
  else if 3 < rd ∨ 3 < wr ∨ (27 ≤ r ∧ wr ≠ 0) then (.invalid, d)
  else (.ok, d.stageRights (fun x => { x with ranges := tset (3, 3) x.ranges r (rd, wr) }))

/-- ADDR_RULE: an entry whose VALID is clear may carry the level 0 of an empty one. -/
def addrRuleWrite (j lo hi level : Nat) (valid : Bool) (d : Dev) : Resp × Dev :=
  if 31 < j then (.noent, d)
  else if hi < lo ∨ 3 < level ∨ (valid ∧ level = 0) then (.invalid, d)
  else (.ok, d.stageRights (fun x => { x with
    rules := tset {} x.rules j { low := lo, high := hi, level := level, valid := valid } }))

def bspiLevelWrite (v : Nat) (d : Dev) : Resp × Dev :=
  if v < 1 ∨ 3 < v then (.invalid, d) else (.ok, d.stageRights (fun x => { x with bspi := v }))

/-- RIGHTS_WRITE: a level-0 write of an object at 0xC100. -/
def rightsWrite (w : RightsWrite) (d : Dev) : Resp × Dev :=
  match w with
  | .rangeRights r rd wr => rangeRightsWrite r.toNat rd.toNat wr.toNat d
  | .addrRule j lo hi level valid => addrRuleWrite j.toNat lo.toNat hi.toNat level.toNat valid d
  | .bspiLevel v => bspiLevelWrite v.toNat d

def execRightsWrite (w : RightsWrite) (s : State) : Host.Outcome State Fault Refusal := s.ask (rightsWrite w)

/-- Tick action 2: staged rights take effect together (R334). -/
def Dev.rightsTick (d : Dev) : Dev :=
  if d.req.rightsPending then
    d.setReq (fun r => { r with rights := r.staged, rightsPending := false, rightsGen := r.rightsGen + 1 })
  else d

end Sys2Proof.Machine
end

