-- ==== Sys2Proof/Machine/Objects.lean ====
section
/-! DEFINITION. What a row of the object dictionary is (R316 to R318): its name, type, access, privilege and selector range,
its value, and what a write does. The rows stand in the Dict files, one per group of indexes. -/

namespace Sys2Proof.Machine

/-- A type of R317: its code, and the least and largest size of a value in bytes. -/
structure ObjTy where
  code : Nat
  least : Nat
  most : Nat
deriving DecidableEq, Repr

namespace Ty
def bool : ObjTy := ⟨1, 1, 1⟩
def u8 : ObjTy := ⟨2, 1, 1⟩
def u16 : ObjTy := ⟨3, 2, 2⟩
def u32 : ObjTy := ⟨4, 4, 4⟩
def u64 : ObjTy := ⟨5, 8, 8⟩
def i8 : ObjTy := ⟨6, 1, 1⟩
def i16 : ObjTy := ⟨7, 2, 2⟩
def i32 : ObjTy := ⟨8, 4, 4⟩
def i64 : ObjTy := ⟨9, 8, 8⟩
def time : ObjTy := ⟨11, 10, 10⟩
def text (n : Nat) : ObjTy := ⟨12, 0, n⟩
def dom (a b : Nat) : ObjTy := ⟨13, a, b⟩
end Ty

/-- A type whose length travels with the item: STRING or DOMAIN. -/
def ObjTy.varies (t : ObjTy) : Bool := t.code = 12 || t.code = 13

/-- A type of two's complement numbers. -/
def ObjTy.isSigned (t : ObjTy) : Bool := 6 ≤ t.code && t.code ≤ 9

/-- Access kinds (R318); RWI carries when the owning block is idle. -/
inductive Access where
  | ro | rw | wo
  | rwi (idle : Dev → Nat → Bool)

/-- A value as it is read: a number, bytes, or no such entry. -/
inductive ObjOut where
  | num (v : Int)
  | raw (b : List Byte)
  | absent
deriving DecidableEq, Repr

/-- A row of the dictionary. Reads take the selector; writes take the requester's address, the selector and the value's bytes;
`poison` gives the
address of a word from which bytes lo ... hi - 1 of the value carry a poison mark (R329). -/
structure ObjRow where
  idx : Nat
  sub : Nat
  name : String
  ty : ObjTy
  acc : Access
  priv : Nat
  sel : Option Nat := none
  read : Dev → Nat → ObjOut := fun _ _ => .absent
  write : Nat → Nat → List Byte → Dev → Reply × Dev := fun _ _ _ d => (.now .invalid, d)
  poison : Dev → Nat → Nat → Nat → Option Nat := fun _ _ _ _ => none

/-! ## Readings -/

def rdN (f : Dev → Nat → Nat) : Dev → Nat → ObjOut := fun d s => .num (f d s)
def rdI (f : Dev → Nat → Int) : Dev → Nat → ObjOut := fun d s => .num (f d s)
def rdB (f : Dev → Nat → Bool) : Dev → Nat → ObjOut := fun d s => .num (ofBool (f d s))
def rdW {n : Nat} (f : Dev → Nat → BitVec n) : Dev → Nat → ObjOut := fun d s => .num (f d s).toNat
def rdR (f : Dev → Nat → List Byte) : Dev → Nat → ObjOut := fun d s => .raw (f d s)

/-- A snapshot register reads its object as the last snapshot left it (R311). -/
def atSnap {α : Type} (f : Dev → α) : Dev → α := fun d => f { toLive := d.snap, snap := d.snap }

/-! ## Writes -/

def answered (p : Resp × Dev) : Reply × Dev := (.now p.1, p.2)

/-- Writes of an unsigned number, a signed number of n bits, a BOOL, raw bytes. -/
def wrN (f : Nat → Nat → Dev → Resp × Dev) : Nat → Nat → List Byte → Dev → Reply × Dev := fun _ s b d => answered (f s (ofBe b) d)
def wrI (n : Nat) (f : Nat → Int → Dev → Resp × Dev) : Nat → Nat → List Byte → Dev → Reply × Dev :=
  fun _ s b d => answered (f s (signed n (ofBe b)) d)
def wrB (f : Nat → Bool → Dev → Resp × Dev) : Nat → Nat → List Byte → Dev → Reply × Dev :=
  fun _ s b d => answered (f s (ofBe b = 1 : Bool) d)
def wrR (f : Nat → List Byte → Dev → Resp × Dev) : Nat → Nat → List Byte → Dev → Reply × Dev := fun _ s b d => answered (f s b d)

/-! ## Counters as bytes -/

def countersFrom (k n : Nat) (t : Tab (BitVec 64)) : List Byte := (List.range n).flatMap (fun i => be 8 (tget 0 t (k + i)).toNat)
def countersBytes (n : Nat) (t : Tab (BitVec 64)) : List Byte := countersFrom 0 n t

/-! ## Poison (R329, R373) -/

/-- The first word of bytes a ... a + n - 1 of the SRAM that carries a mark: its own, or under PER_BYTE that of one of the bytes. -/
def Mem.markedIn (m : Mem) (a n : Nat) : Option Nat :=
  match m.poison.find? (fun e => e.2 && e.1 < a + n && a < e.1 + 8) with
  | some e => some e.1
  | none => (m.bytePoison.find? (fun e => e.2 && a ≤ e.1 && e.1 < a + n)).map (fun e => wordOf e.1)

/-- A value that stands in the SRAM from an address of its selector's. -/
def poisonAt (addr : Nat → Nat) : Dev → Nat → Nat → Nat → Option Nat := fun d s lo hi => d.sram.markedIn (addr s + lo) (hi - lo)

/-- A value that stands in n bytes from an address of its selector's, not byte for byte. -/
def poisonOf (n : Nat) (addr : Nat → Nat) : Dev → Nat → Nat → Nat → Option Nat := fun d s _ _ => d.sram.markedIn (addr s) n

/-- The field of a record in word w. -/
def poisonRec (w : Nat) : Dev → Nat → Nat → Nat → Option Nat := poisonOf 8 (fun e => recAddr e + 8 * w)

end Sys2Proof.Machine
end

