-- ==== Sys2Proof/Machine/DictArray.lean ====
section
/-! DEFINITION. The object dictionary: the array interface, the readout and the column drive (R46, R84, R103). -/

namespace Sys2Proof.Machine

/-- LOAD_MEASURE asked for over the dictionary: what the array's columns measure is open, one value a column (log entry 4). -/
def loadMeasureOpen (v : Nat) (d : Dev) : Resp × Dev :=
  let n := d.draw.1
  let r := loadMeasure v ((List.range 264).map (fun c => (Config.columnLoad n c).toNat))
    ((List.range 264).map (fun c => (Config.columnLoad n (264 + c)).toNat)) d.draw.2
  if r.1 = .ok then r else (r.1, d)

/-- INJECT_REQUEST as an item: its answer waits for the entry's last capture (R76, R328). -/
def injectItem (b : List Byte) (d : Dev) : Reply × Dev :=
  let r := injectWrite b d
  if r.1 = .ok then (.later (.inject d.rd.injectNext), r.2) else (.now r.1, r.2)

/-- GROUP_STATE (R103): 0 RUNNING, 1 STOPPING, 2 STOPPED, 3 RESTART_PENDING. -/
def groupCode (s : RunState) : Nat :=
  match s with
  | .running => 0 | .stopping => 1 | .stopped => 2 | .restartPending => 3

def dict4000 : List ObjRow := [
  { idx := 0x4000, sub := 0x01, name := "DCOL_ENABLE", ty := Ty.dom 32 32, acc := .rwi (fun d _ => !d.driving), priv := 1,
    read := rdR fun d _ => be 32 d.cfg.arr.dcolEnable.toNat,
    write := wrR fun _ b => dcolEnableWrite b },
  { idx := 0x4000, sub := 0x02, name := "MCOL_ENABLE", ty := Ty.dom 32 32, acc := .rwi (fun d _ => !d.driving), priv := 1,
    read := rdR fun d _ => be 32 d.cfg.arr.mcolEnable.toNat,
    write := wrR fun _ b => mcolEnableWrite b },
  { idx := 0x4000, sub := 0x03, name := "TOWER_WIRED", ty := Ty.bool, acc := .rwi (fun d _ => !d.driving), priv := 1,
    read := rdB fun d _ => d.cfg.arr.towerWired,
    write := wrB fun _ v => towerWiredWrite v },
  { idx := 0x4000, sub := 0x04, name := "OUTPUT_STATE", ty := Ty.u8, acc := .ro, priv := 3,
    read := rdN fun d _ => d.arr.outputState.ctorIdx },
  { idx := 0x4000, sub := 0x05, name := "LOAD_MEASURE", ty := Ty.u8, acc := .wo, priv := 1,
    write := wrN fun _ v => loadMeasureOpen v },
  { idx := 0x4000, sub := 0x06, name := "COLUMN_LOAD", ty := Ty.u16, acc := .ro, priv := 3, sel := some 263,
    read := rdN fun d s => tget 0 d.arr.columnLoad s },
  { idx := 0x4000, sub := 0x07, name := "MCOLUMN_LOAD", ty := Ty.u16, acc := .ro, priv := 3, sel := some 263,
    read := rdN fun d s => tget 0 d.arr.mcolumnLoad s },
  { idx := 0x4000, sub := 0x08, name := "SPARE_LOAD_RATIO", ty := Ty.u16, acc := .ro, priv := 3, sel := some 7,
    read := rdN fun d s => tget 0 d.arr.spareRatio s },
  { idx := 0x4000, sub := 0x10, name := "ZONE_NOM_RES", ty := Ty.u32, acc := .rw, priv := 1, sel := some 15,
    read := rdN fun d s => tget 10000 d.cfg.arr.nomRes s,
    write := wrN fun s v => zoneNomResWrite s v },
  { idx := 0x4000, sub := 0x11, name := "ZONE_BETA", ty := Ty.u16, acc := .rw, priv := 1, sel := some 15,
    read := rdN fun d s => tget 3435 d.cfg.arr.beta s,
    write := wrN fun s v => zoneBetaWrite s v },
  { idx := 0x4000, sub := 0x12, name := "ZONE_FALLBACK", ty := Ty.u8, acc := .rw, priv := 1, sel := some 15,
    read := rdN fun d s => d.zoneFallback s,
    write := wrN fun s v => zoneFallbackWrite s v },
  { idx := 0x4000, sub := 0x13, name := "ZONE_TEMP", ty := Ty.i16, acc := .ro, priv := 3, sel := some 15,
    read := rdI fun d s => tget 0 d.arr.zoneTemp s },
  { idx := 0x4000, sub := 0x14, name := "ZONE_STATUS", ty := Ty.u8, acc := .ro, priv := 3, sel := some 15,
    read := rdN fun d s => tget 0 d.arr.zoneStatus s },
  { idx := 0x4000, sub := 0x15, name := "ZONE_RAW", ty := Ty.u16, acc := .ro, priv := 3, sel := some 15,
    read := rdN fun d s => tget 0 d.rd.auxRaw s },
  { idx := 0x4000, sub := 0xF0, name := "SNAP_OUTPUT_STATE", ty := Ty.u8, acc := .ro, priv := 3,
    read := atSnap (rdN fun d _ => d.arr.outputState.ctorIdx) },
  { idx := 0x4000, sub := 0xF1, name := "SNAP_ZONE_TEMP", ty := Ty.i16, acc := .ro, priv := 3, sel := some 15,
    read := atSnap (rdI fun d s => tget 0 d.arr.zoneTemp s) }]

def dict4100 : List ObjRow := [
  { idx := 0x4100, sub := 0x01, name := "COLUMN_GAIN", ty := Ty.u8, acc := .rw, priv := 1, sel := some 255,
    read := rdN fun d s => tget 0 d.cfg.rd.gain s,
    write := wrN fun s v => columnGainWrite s v },
  { idx := 0x4100, sub := 0x02, name := "AVG_LOG2", ty := Ty.u8, acc := .rw, priv := 1, sel := some 32767,
    read := rdN fun d s => tget 0 d.cfg.rd.avgLog2 s,
    write := wrN fun s v => avgLog2Write s v },
  { idx := 0x4100, sub := 0x03, name := "DARK", ty := Ty.i16, acc := .rw, priv := 1, sel := some 32767,
    read := rdI fun d s => d.darkWritten s,
    write := fun _ s b => darkWrite s b,
    poison := poisonOf 2 darkAddr },
  { idx := 0x4100, sub := 0x04, name := "CONV_OFFSET", ty := Ty.i16, acc := .rwi (fun d _ => d.rotationStopped), priv := 1, sel := some 527,
    read := rdI fun d s => tget 256 d.cfg.rd.convOffset s,
    write := fun _ s b => convOffsetWrite s (signed 16 (ofBe b)) },
  { idx := 0x4100, sub := 0x05, name := "CONV_GAIN", ty := Ty.u16, acc := .rwi (fun d _ => d.rotationStopped), priv := 1, sel := some 527,
    read := rdN fun d s => tget 0x4000 d.cfg.rd.convGain s,
    write := fun _ s b => convGainWrite s (ofBe b) },
  { idx := 0x4100, sub := 0x06, name := "SKEW_TRIM", ty := Ty.i8, acc := .rwi (fun d _ => d.rotationStopped), priv := 1, sel := some 527,
    read := rdI fun d s => tget 0 d.cfg.rd.skewTrim s,
    write := wrI 8 fun s v => skewTrimWrite s v },
  { idx := 0x4100, sub := 0x07, name := "SAMPLE", ty := Ty.i32, acc := .ro, priv := 3, sel := some 32767,
    read := rdI fun d s => (tget {} d.rd.samples s).value,
    poison := fun d s _ _ => if d.samplePoison s then some (wordOf (accAddr s)) else none },
  { idx := 0x4100, sub := 0x08, name := "SAMPLE_FLAGS", ty := Ty.u8, acc := .ro, priv := 3, sel := some 32767,
    read := rdW fun d s => (tget {} d.rd.samples s).flags },
  { idx := 0x4100, sub := 0x09, name := "INVALID_COUNT", ty := Ty.u32, acc := .ro, priv := 3, sel := some 255,
    read := rdW fun d s => tget 0 d.rd.invalidCount s },
  { idx := 0x4100, sub := 0x0A, name := "OVER_COUNT", ty := Ty.u32, acc := .ro, priv := 3, sel := some 255,
    read := rdW fun d s => tget 0 d.rd.overCount s },
  { idx := 0x4100, sub := 0x0B, name := "READOUT_STATE", ty := Ty.u8, acc := .ro, priv := 3,
    read := rdN fun d _ => d.rd.state.ctorIdx },
  { idx := 0x4100, sub := 0x10, name := "INJECT_REQUEST", ty := Ty.dom 12 12, acc := .wo, priv := 2,
    write := fun _ _ b => injectItem b },
  { idx := 0x4100, sub := 0x11, name := "INJECT_PENDING", ty := Ty.u8, acc := .ro, priv := 2,
    read := rdN fun d _ => d.rd.injects.length },
  { idx := 0x4100, sub := 0x12, name := "INJECT_RESULT", ty := Ty.dom 16 16, acc := .ro, priv := 2, sel := some 255,
    read := rdR fun d s => (tfind d.rd.injectRing s).getD (List.replicate 16 0) },
  { idx := 0x4100, sub := 0x13, name := "INJECT_WRITE_INDEX", ty := Ty.u16, acc := .ro, priv := 2,
    read := rdW fun d _ => d.rd.injectIndex },
  { idx := 0x4100, sub := 0x20, name := "TDAC_ROUTE", ty := Ty.u8, acc := .rwi (fun d _ => d.rotationStopped), priv := 1,
    read := rdN fun d _ => d.cfg.rd.tdacRoute,
    write := wrN fun _ v => tdacRouteWrite v },
  { idx := 0x4100, sub := 0x21, name := "TDAC_GROUP", ty := Ty.u8, acc := .rwi (fun d _ => d.rotationStopped), priv := 1,
    read := rdN fun d _ => d.cfg.rd.tdacGroup,
    write := wrN fun _ v => tdacGroupWrite v },
  { idx := 0x4100, sub := 0x22, name := "TDAC_CODE", ty := Ty.u16, acc := .rwi (fun d _ => d.rotationStopped), priv := 1,
    read := rdN fun d _ => d.cfg.rd.tdacCode,
    write := wrN fun _ v => tdacCodeWrite v },
  { idx := 0x4100, sub := 0x28, name := "AUX_RAW", ty := Ty.u16, acc := .ro, priv := 3, sel := some 31,
    read := rdN fun d s => tget 0 d.rd.auxRaw s },
  { idx := 0x4100, sub := 0xF0, name := "SNAP_SAMPLE", ty := Ty.i32, acc := .ro, priv := 3, sel := some 32767,
    read := atSnap (rdI fun d s => (tget {} d.rd.samples s).value),
    poison := atSnap (fun d s _ _ => if d.samplePoison s then some (wordOf (accAddr s)) else none) },
  { idx := 0x4100, sub := 0xF1, name := "SNAP_SAMPLE_FLAGS", ty := Ty.u8, acc := .ro, priv := 3, sel := some 32767,
    read := atSnap (rdW fun d s => (tget {} d.rd.samples s).flags) },
  { idx := 0x4100, sub := 0xF2, name := "SNAP_INVALID_COUNT", ty := Ty.u32, acc := .ro, priv := 3, sel := some 255,
    read := atSnap (rdW fun d s => tget 0 d.rd.invalidCount s) }]

def dict4200 : List ObjRow := [
  { idx := 0x4200, sub := 0x01, name := "OFFSET_TRIM", ty := Ty.i8, acc := .rwi (fun d _ => d.rotationStopped), priv := 1, sel := some 263,
    read := rdI fun d s => tget 0 d.cfg.drv.offsetTrim s,
    write := wrI 8 fun s v => offsetTrimWrite s v },
  { idx := 0x4200, sub := 0x02, name := "GAIN_TRIM", ty := Ty.i8, acc := .rwi (fun d _ => d.rotationStopped), priv := 1, sel := some 263,
    read := rdI fun d s => tget 0 d.cfg.drv.gainTrim s,
    write := wrI 8 fun s v => gainTrimWrite s v },
  { idx := 0x4200, sub := 0x03, name := "COLUMN_STATE", ty := Ty.u8, acc := .ro, priv := 3, sel := some 263,
    read := rdN fun d s => d.columnState s },
  { idx := 0x4200, sub := 0x04, name := "IDLE_CODE", ty := Ty.u16, acc := .rwi (fun d _ => !d.driving), priv := 1,
    read := rdN fun d _ => d.cfg.drv.idleCode,
    write := wrN fun _ v => idleCodeWrite v },
  { idx := 0x4200, sub := 0x05, name := "LAST_CODE", ty := Ty.u16, acc := .ro, priv := 3, sel := some 32767,
    read := rdN fun d s => d.lastCode s },
  { idx := 0x4200, sub := 0x06, name := "CONTENTION_LIMIT", ty := Ty.u16, acc := .rw, priv := 1,
    read := rdN fun d _ => d.cfg.drv.contentionLimit,
    write := wrN fun _ v => contentionLimitWrite v },
  { idx := 0x4200, sub := 0x07, name := "CONTENTION_COUNT", ty := Ty.u32, acc := .ro, priv := 3, sel := some 263,
    read := rdW fun d s => tget 0 d.drv.contentionCount s },
  { idx := 0x4200, sub := 0x08, name := "LATE_CODE_COUNT", ty := Ty.u32, acc := .ro, priv := 3, sel := some 263,
    read := rdW fun d s => tget 0 d.drv.lateCount s },
  { idx := 0x4200, sub := 0x09, name := "POISON_CODE_COUNT", ty := Ty.u32, acc := .ro, priv := 3, sel := some 263,
    read := rdW fun d s => tget 0 d.drv.poisonCount s },
  { idx := 0x4200, sub := 0x0A, name := "LAST_CODE_REPAIRS", ty := Ty.u32, acc := .ro, priv := 3,
    read := rdW fun d _ => d.drv.lastRepairs },
  { idx := 0x4200, sub := 0x0B, name := "ROW_FAULT", ty := Ty.dom 32 32, acc := .ro, priv := 3,
    read := rdR fun d _ => be 32 d.drv.rowFault.toNat },
  { idx := 0x4200, sub := 0x0C, name := "ROW_FAULT_CLEAR", ty := Ty.u8, acc := .wo, priv := 1,
    write := wrN fun _ v => rowFaultClear v },
  { idx := 0x4200, sub := 0x10, name := "GROUP_CONTROL", ty := Ty.u8, acc := .rw, priv := 1, sel := some 7,
    read := rdN fun d s => tget 1 d.cfg.drv.groupControl s,
    write := wrN fun s v => groupControlWrite s v },
  { idx := 0x4200, sub := 0x11, name := "GROUP_STATE", ty := Ty.u8, acc := .ro, priv := 3, sel := some 7,
    read := rdN fun d s => groupCode (d.groupState s) },
  { idx := 0x4200, sub := 0x20, name := "TONE_FTW", ty := Ty.u32, acc := .rw, priv := 1, sel := some 15,
    read := rdW fun d s => (d.tone s).ftw,
    write := wrN fun s v => toneFtwWrite s v },
  { idx := 0x4200, sub := 0x21, name := "TONE_PHASE", ty := Ty.u32, acc := .rw, priv := 1, sel := some 15,
    read := rdW fun d s => (d.tone s).phase,
    write := wrN fun s v => tonePhaseWrite s v },
  { idx := 0x4200, sub := 0x22, name := "TONE_AMPLITUDE", ty := Ty.u8, acc := .rw, priv := 1, sel := some 15,
    read := rdN fun d s => (d.tone s).amplitude,
    write := wrN fun s v => toneAmplitudeWrite s v },
  { idx := 0x4200, sub := 0x23, name := "TONE_ENABLE", ty := Ty.bool, acc := .rw, priv := 1, sel := some 15,
    read := rdB fun d s => (d.tone s).enable,
    write := wrB fun s v => toneEnableWrite s v },
  { idx := 0x4200, sub := 0x24, name := "TONE_ACC", ty := Ty.u32, acc := .ro, priv := 3, sel := some 15,
    read := rdW fun d s => tget 0 d.drv.toneAcc s },
  { idx := 0x4200, sub := 0xF0, name := "SNAP_COLUMN_STATE", ty := Ty.u8, acc := .ro, priv := 3, sel := some 263,
    read := atSnap (rdN fun d s => d.columnState s) },
  { idx := 0x4200, sub := 0xF1, name := "SNAP_LAST_CODE", ty := Ty.u16, acc := .ro, priv := 3, sel := some 32767,
    read := atSnap (rdN fun d s => d.lastCode s) },
  { idx := 0x4200, sub := 0xF2, name := "SNAP_TONE_ACC", ty := Ty.u32, acc := .ro, priv := 3, sel := some 15,
    read := atSnap (rdW fun d s => tget 0 d.drv.toneAcc s) }]

end Sys2Proof.Machine
end

