-- ==== Sys2Proof/Machine/DictCal.lean ====
section
/-! DEFINITION. The object dictionary: calibration (R183). -/

namespace Sys2Proof.Machine

/-- CHAIN_CORR: offset and gain at the three gains (R183). -/
def Dev.corrBytes (d : Dev) (x : Nat) : List Byte :=
  (List.range 3).flatMap (fun g => be 2 (code 16 (d.chainCorr x g).1) ++ be 2 (d.chainCorr x g).2)

def dict5300a : List ObjRow := [
  { idx := 0x5300, sub := 0x01, name := "CAL_POINTS", ty := Ty.dom 80 80, acc := .rw, priv := 1, sel := some 32767,
    read := rdR fun d s => d.calPoints s,
    write := wrR fun s b => calPointsWrite s b,
    poison := poisonOf 80 calAddr },
  { idx := 0x5300, sub := 0x02, name := "WORKING_CURVE", ty := Ty.dom 9 9, acc := .ro, priv := 3, sel := some 32767,
    read := rdR fun d s => (d.workingCurve s).bytes,
    poison := poisonOf 16 (fun e => calAddr e + 72) },
  { idx := 0x5300, sub := 0x03, name := "TARGET_CURVE", ty := Ty.dom 9 9, acc := .ro, priv := 3, sel := some 32767,
    read := rdR fun d s => (d.targetCurve s).bytes,
    poison := poisonOf 80 calAddr },
  { idx := 0x5300, sub := 0x04, name := "ENTRY_SLEW", ty := Ty.u8, acc := .rw, priv := 1,
    read := rdN fun d _ => d.cfg.cal.entrySlew,
    write := wrN fun _ v => entrySlewWrite v },
  { idx := 0x5300, sub := 0x05, name := "ENTRY_PENDING", ty := Ty.u16, acc := .ro, priv := 3,
    read := rdN fun d _ => d.entryPending },
  { idx := 0x5300, sub := 0x06, name := "TAP_RESP", ty := Ty.u16, acc := .rw, priv := 1, sel := some 32767,
    read := rdN fun d s => ofBe (d.sram.bytes (tapAddr s) 2),
    write := fun _ s b => tapRespWrite s b,
    poison := poisonOf 2 tapAddr },
  { idx := 0x5300, sub := 0x07, name := "DARK_CAPTURE", ty := Ty.u8, acc := .wo, priv := 1,
    write := wrN fun _ v => darkCapture v },
  { idx := 0x5300, sub := 0x08, name := "DARK_SHORT", ty := Ty.u16, acc := .ro, priv := 3,
    read := rdN fun d _ => d.cal.darkShort },
  { idx := 0x5300, sub := 0x10, name := "CAL_ROTATION", ty := Ty.u8, acc := .rw, priv := 1,
    read := rdN fun d _ => d.cfg.cal.rotation,
    write := wrN fun _ v => calRotationWrite v },
  { idx := 0x5300, sub := 0x11, name := "ROTATION_STATE", ty := Ty.u8, acc := .ro, priv := 3,
    read := rdN fun d _ => d.rotationShown },
  { idx := 0x5300, sub := 0x12, name := "ROTATION_POSITION", ty := Ty.u8, acc := .ro, priv := 3, sel := some 7,
    read := rdN fun d s => d.positionShown s },
  { idx := 0x5300, sub := 0x13, name := "CAL_COLUMN_REQUEST", ty := Ty.u16, acc := .wo, priv := 1,
    write := wrN fun _ v => calColumnRequest v },
  { idx := 0x5300, sub := 0x14, name := "CHAIN_CORR", ty := Ty.dom 12 12, acc := .rwi (fun d _ => d.rotationStopped), priv := 1, sel := some 527,
    read := rdR fun d s => d.corrBytes s,
    write := fun _ s b => chainCorrWrite s b,
    poison := poisonOf 12 chainAddr },
  { idx := 0x5300, sub := 0x15, name := "CAL_DRIFT_OFFSET", ty := Ty.u16, acc := .rw, priv := 1,
    read := rdN fun d _ => d.cfg.cal.driftOffset,
    write := wrN fun _ v => driftOffsetWrite v },
  { idx := 0x5300, sub := 0x16, name := "CAL_DRIFT_GAIN", ty := Ty.u16, acc := .rw, priv := 1,
    read := rdN fun d _ => d.cfg.cal.driftGain,
    write := wrN fun _ v => driftGainWrite v },
  { idx := 0x5300, sub := 0x17, name := "COLUMN_CAL_STATUS", ty := Ty.u8, acc := .ro, priv := 3, sel := some 263,
    read := rdN fun d s => tget 0 d.cal.colStatus s },
  { idx := 0x5300, sub := 0x20, name := "SWEEP_REQUEST", ty := Ty.dom 4 4, acc := .wo, priv := 1,
    write := wrR fun _ b => sweepRequestWrite b },
  { idx := 0x5300, sub := 0x21, name := "SWEEP_CANCEL", ty := Ty.u16, acc := .wo, priv := 1,
    write := wrN fun _ v => sweepCancel v },
  { idx := 0x5300, sub := 0x22, name := "SWEEP_ACTIVE", ty := Ty.u8, acc := .ro, priv := 3,
    read := rdN fun d _ => d.cal.sweeps.length },
  { idx := 0x5300, sub := 0x23, name := "SWEEP_QUEUED", ty := Ty.u16, acc := .ro, priv := 3,
    read := rdN fun d _ => d.cal.sweepQueue.length },
  { idx := 0x5300, sub := 0x24, name := "SWEEP_RESULT", ty := Ty.dom 24 24, acc := .ro, priv := 2, sel := some 32767,
    read := rdR fun d s => (tget {} d.cal.sweepResult s).bytes },
  { idx := 0x5300, sub := 0x25, name := "SWEEP_STATE", ty := Ty.u8, acc := .ro, priv := 3, sel := some 32767,
    read := rdN fun d s => d.sweepState s },
  { idx := 0x5300, sub := 0x30, name := "REFIT_ENABLE", ty := Ty.u8, acc := .rw, priv := 1,
    read := rdW fun d _ => d.cfg.cal.refitEnable,
    write := wrN fun _ v => refitEnableWrite (BitVec.ofNat 8 v) },
  { idx := 0x5300, sub := 0x31, name := "REFIT_WINDOW", ty := Ty.u16, acc := .rw, priv := 1,
    read := rdN fun d _ => d.cfg.cal.refitWindow,
    write := wrN fun _ v => refitWindowWrite v }]

def dict5300b : List ObjRow := [
  { idx := 0x5300, sub := 0x32, name := "REFIT_A0_MAX", ty := Ty.u8, acc := .rw, priv := 1,
    read := rdN fun d _ => d.cfg.cal.refitA0Max,
    write := wrN fun _ v => refitA0MaxWrite v },
  { idx := 0x5300, sub := 0x33, name := "REFIT_DEADBAND", ty := Ty.u8, acc := .rw, priv := 1,
    read := rdN fun d _ => d.cfg.cal.refitDeadband,
    write := wrN fun _ v => refitDeadbandWrite v },
  { idx := 0x5300, sub := 0x34, name := "REFIT_SLOPE_TOL", ty := Ty.u8, acc := .rw, priv := 1,
    read := rdN fun d _ => d.cfg.cal.refitSlopeTol,
    write := wrN fun _ v => refitSlopeTolWrite v },
  { idx := 0x5300, sub := 0x35, name := "REFIT_COUNT", ty := Ty.u16, acc := .ro, priv := 3, sel := some 32767,
    read := rdW fun d s => tget 0 d.cal.refitCount s },
  { idx := 0x5300, sub := 0xF0, name := "SNAP_ENTRY_PENDING", ty := Ty.u16, acc := .ro, priv := 3,
    read := atSnap (rdN fun d _ => d.entryPending) },
  { idx := 0x5300, sub := 0xF1, name := "SNAP_ROTATION_POSITION", ty := Ty.u8, acc := .ro, priv := 3, sel := some 7,
    read := atSnap (rdN fun d s => d.positionShown s) },
  { idx := 0x5300, sub := 0xF2, name := "SNAP_SWEEP_ACTIVE", ty := Ty.u8, acc := .ro, priv := 3,
    read := atSnap (rdN fun d _ => d.cal.sweeps.length) }]

end Sys2Proof.Machine
end

