-- ==== Sys2Proof/Machine/DictCircuit.lean ====
section
/-! DEFINITION. The object dictionary: the fabric map, the Route Solver, the Circuit Tables and verification (R207, R208, R229, R230). -/

namespace Sys2Proof.Machine

/-- The first of an entry's two words that bytes lo ... hi - 1 touch and that carries a mark. -/
def Dev.entryMarked (d : Dev) (next : Bool) (k lo hi : Nat) : Option Nat :=
  let one (i : Nat) : Option Nat := if lo < 8 * i + 8 ∧ 8 * i < hi then d.sram.markedIn (d.bankRead next (entryOff k + 8 * i)) 8 else none
  match one 0 with
  | some a => some a
  | none => one 1

/-- Entries of the map in force (R186 to R188), reserved parts read as 0 (R6); beyond its tables they read as before the first
map (R207). -/
def Dev.cellEntry (d : Dev) (c : Nat) : List Byte :=
  if c < d.mapCells then fit 11 (d.fab.image.drop (cellTable d.fab.image + 12 * c)) ++ [0] else List.replicate 12 0
def Dev.portEntry (d : Dev) (p : Nat) : List Byte :=
  if p < d.mapPorts then fit 6 (d.fab.image.drop (portTable d.fab.image + 8 * p)) ++ [0, 0] else List.replicate 8 0xFF

def dict6000 : List ObjRow := [
  { idx := 0x6000, sub := 0x01, name := "FABRIC_BLOCK", ty := Ty.dom 1024 1024, acc := .wo, priv := 1, sel := some 511,
    write := wrR fun s b => fabricBlockWrite s b },
  { idx := 0x6000, sub := 0x02, name := "FABRIC_LENGTH", ty := Ty.u32, acc := .rw, priv := 1,
    read := rdN fun d _ => d.cfg.fab.length,
    write := wrN fun _ v => fabricLengthWrite v },
  { idx := 0x6000, sub := 0x03, name := "FABRIC_APPLY", ty := Ty.u8, acc := .wo, priv := 1,
    write := wrN fun _ v => fabricApply v },
  { idx := 0x6000, sub := 0x04, name := "FABRIC_STATE", ty := Ty.u8, acc := .ro, priv := 3,
    read := rdN fun d _ => d.fab.state.ctorIdx },
  { idx := 0x6000, sub := 0x05, name := "FABRIC_ERROR", ty := Ty.dom 4 4, acc := .ro, priv := 2,
    read := rdR fun d _ => be 1 d.fab.error.1 ++ [0] ++ be 2 d.fab.error.2 },
  { idx := 0x6000, sub := 0x06, name := "TOPOLOGY", ty := Ty.u8, acc := .ro, priv := 3,
    read := rdN fun d _ => d.topology },
  { idx := 0x6000, sub := 0x07, name := "PORTS", ty := Ty.u16, acc := .ro, priv := 3,
    read := rdN fun d _ => d.mapPorts },
  { idx := 0x6000, sub := 0x08, name := "CELL_COUNT", ty := Ty.u16, acc := .ro, priv := 3,
    read := rdN fun d _ => d.mapCells },
  { idx := 0x6000, sub := 0x09, name := "ELEMENT_COUNT", ty := Ty.u16, acc := .ro, priv := 3,
    read := rdN fun d _ => d.mapElems },
  { idx := 0x6000, sub := 0x0A, name := "ELEMENTS_IN_USE", ty := Ty.u16, acc := .ro, priv := 3,
    read := rdN fun d _ => d.used.length },
  { idx := 0x6000, sub := 0x0B, name := "MAP_ID", ty := Ty.u32, acc := .ro, priv := 3,
    read := rdN fun d _ => field d.fab.image 10 4 },
  { idx := 0x6000, sub := 0x0C, name := "FABRIC_DIGEST", ty := Ty.dom 48 48, acc := .ro, priv := 3,
    read := rdR fun d _ => d.fabricDigest },
  { idx := 0x6000, sub := 0x0D, name := "CELL_ENTRY", ty := Ty.dom 12 12, acc := .ro, priv := 2, sel := some 16383,
    read := rdR fun d s => d.cellEntry s,
    poison := fun d c lo hi => if c < d.mapCells then d.sram.markedIn (0x500000 + 12 * c + lo) (hi - lo) else none },
  { idx := 0x6000, sub := 0x0E, name := "PORT_ENTRY", ty := Ty.dom 8 8, acc := .ro, priv := 2, sel := some 1023,
    read := rdR fun d s => d.portEntry s,
    poison := fun d p lo hi =>
      if p < d.mapPorts then d.sram.markedIn (0x500000 + 12 * d.mapCells + 8 * p + lo) (hi - lo) else none },
  { idx := 0x6000, sub := 0x0F, name := "ELEMENT_ENTRY", ty := Ty.dom 8 8, acc := .ro, priv := 2, sel := some 32767,
    read := rdR fun d s => be 8 (d.entry s / 1024 * 1024) },
  { idx := 0x6000, sub := 0xF0, name := "SNAP_MAP_ID", ty := Ty.u32, acc := .ro, priv := 3,
    read := atSnap (rdN fun d _ => field d.fab.image 10 4) }]

def dict6100 : List ObjRow := [
  { idx := 0x6100, sub := 0x01, name := "SOLVE_REQUEST", ty := Ty.u8, acc := .wo, priv := 1,
    write := wrN fun _ v => solveRequestWrite v },
  { idx := 0x6100, sub := 0x02, name := "SOLVE_STATE", ty := Ty.u8, acc := .ro, priv := 3,
    read := rdN fun d _ => ofBool d.solve.running.isSome + ofBool (d.solve.running.isSome && d.solve.queued.isSome) },
  { idx := 0x6100, sub := 0x03, name := "SOLVE_STATUS", ty := Ty.u8, acc := .ro, priv := 3,
    read := rdN fun d _ => d.solve.status.code },
  { idx := 0x6100, sub := 0x04, name := "SOLVED_GENERATION", ty := Ty.u32, acc := .ro, priv := 3,
    read := rdW fun d _ => d.solve.solvedGen },
  { idx := 0x6100, sub := 0x05, name := "FIRST_UNPLACED", ty := Ty.u16, acc := .ro, priv := 3,
    read := rdN fun d _ => d.solve.unplaced },
  { idx := 0x6100, sub := 0x06, name := "MOVED_COUNT", ty := Ty.u16, acc := .ro, priv := 3,
    read := rdN fun d _ => d.solve.moved.length },
  { idx := 0x6100, sub := 0x07, name := "MOVED_LIST", ty := Ty.u16, acc := .ro, priv := 3, sel := some 1023,
    read := rdN fun d s => d.solve.moved.getD s 0xFFFF },
  { idx := 0x6100, sub := 0x08, name := "CHANGED_ELEMENTS", ty := Ty.u16, acc := .ro, priv := 3,
    read := rdN fun d _ => d.solve.changed },
  { idx := 0x6100, sub := 0x09, name := "DUAL_CELLS", ty := Ty.u16, acc := .ro, priv := 3,
    read := rdN fun d _ => d.solve.dual },
  { idx := 0x6100, sub := 0x0A, name := "SOLVE_BOUND", ty := Ty.u32, acc := .ro, priv := 3,
    read := rdN fun d _ => d.solveBound },
  { idx := 0x6100, sub := 0x0B, name := "LAST_SOLVE_TIME", ty := Ty.u32, acc := .ro, priv := 3,
    read := rdN fun d _ => d.solve.lastTime },
  { idx := 0x6100, sub := 0x0C, name := "SOLVER_CLOCK", ty := Ty.u8, acc := .ro, priv := 3,
    read := rdB fun d _ => d.therm.throttled },
  { idx := 0x6100, sub := 0x10, name := "RAW_TARGET", ty := Ty.dom 8 8, acc := .rw, priv := 1, sel := some 32767,
    read := rdR fun d s => d.rawTarget s,
    write := wrR fun s b => rawTargetWrite s b,
    poison := fun d e _ _ => d.sram.markedIn (d.bankRead true (targetOff e)) 8 },
  { idx := 0x6100, sub := 0xF0, name := "SNAP_SOLVE_STATE", ty := Ty.u8, acc := .ro, priv := 3,
    read := atSnap (rdN fun d _ => ofBool d.solve.running.isSome + ofBool (d.solve.running.isSome && d.solve.queued.isSome)) },
  { idx := 0x6100, sub := 0xF1, name := "SNAP_SOLVED_GENERATION", ty := Ty.u32, acc := .ro, priv := 3,
    read := atSnap (rdW fun d _ => d.solve.solvedGen) }]

def dict6200 : List ObjRow := [
  { idx := 0x6200, sub := 0x01, name := "CIRCUIT_NEXT", ty := Ty.dom 16 16, acc := .rw, priv := 1, sel := some 1023,
    read := rdR fun d s => d.entryBytes true s,
    write := wrR fun s b => circuitNextWrite s b,
    poison := fun d k lo hi => d.entryMarked true k lo hi },
  { idx := 0x6200, sub := 0x02, name := "CIRCUIT_CURRENT", ty := Ty.dom 16 16, acc := .ro, priv := 2, sel := some 1023,
    read := rdR fun d s => d.entryBytes false s,
    poison := fun d k lo hi => d.entryMarked false k lo hi },
  { idx := 0x6200, sub := 0x03, name := "CIRCUIT_BATCH", ty := Ty.dom 1 1153, acc := .wo, priv := 1,
    write := wrR fun _ b => circuitBatch b },
  { idx := 0x6200, sub := 0x04, name := "BATCH_ERROR", ty := Ty.dom 2 2, acc := .ro, priv := 2,
    read := rdR fun d _ => be 1 d.circ.batchError.1 ++ be 1 d.circ.batchError.2 },
  { idx := 0x6200, sub := 0x05, name := "NEXT_RESET", ty := Ty.u8, acc := .wo, priv := 1,
    write := wrN fun _ v => nextResetWrite v },
  { idx := 0x6200, sub := 0x06, name := "GENERATION", ty := Ty.u32, acc := .ro, priv := 3,
    read := rdW fun d _ => d.circ.gen },
  { idx := 0x6200, sub := 0x07, name := "NEXT_COUNT", ty := Ty.u16, acc := .ro, priv := 3,
    read := rdN fun d _ => (d.circuits true).length },
  { idx := 0x6200, sub := 0x08, name := "CURRENT_COUNT", ty := Ty.u16, acc := .ro, priv := 3,
    read := rdN fun d _ => (d.circuits false).length },
  { idx := 0x6200, sub := 0x09, name := "REJECT_STALE", ty := Ty.bool, acc := .rw, priv := 1,
    read := rdB fun d _ => d.cfg.circ.rejectStale,
    write := wrB fun _ v => rejectStaleWrite v },
  { idx := 0x6200, sub := 0x0A, name := "PORT_ATTEN", ty := Ty.dom 9 9, acc := .rw, priv := 1, sel := some 1023,
    read := rdR fun d s => (d.portAtten s).bytes,
    write := wrR fun s b => portAttenWrite s b },
  { idx := 0x6200, sub := 0x10, name := "COMMIT", ty := Ty.dom 16 16, acc := .wo, priv := 1,
    write := wrR fun _ b => commitWrite b },
  { idx := 0x6200, sub := 0x11, name := "COMMIT_CANCEL", ty := Ty.u8, acc := .wo, priv := 1,
    write := wrN fun _ v => commitCancel v },
  { idx := 0x6200, sub := 0x12, name := "COMMIT_STATE", ty := Ty.u8, acc := .ro, priv := 3,
    read := rdN fun d _ => d.commitState },
  { idx := 0x6200, sub := 0x13, name := "PENDING_COMMIT", ty := Ty.dom 16 16, acc := .ro, priv := 3,
    read := rdR fun d _ => match d.commitAhead with | some c => c.bytes | none => List.replicate 16 0 },
  { idx := 0x6200, sub := 0x14, name := "COMMIT_REPORT", ty := Ty.dom 32 32, acc := .ro, priv := 2,
    read := rdR fun d _ => d.circ.report.bytes },
  { idx := 0x6200, sub := 0x15, name := "COMMITTED_GENERATION", ty := Ty.u32, acc := .ro, priv := 3,
    read := rdW fun d _ => d.circ.committedGen },
  { idx := 0x6200, sub := 0x16, name := "BANK_DIGEST", ty := Ty.dom 48 48, acc := .ro, priv := 3,
    read := rdR fun d _ => d.circ.bankDigest },
  { idx := 0x6200, sub := 0x17, name := "CURRENT_PHYSICAL", ty := Ty.u8, acc := .ro, priv := 3,
    read := rdN fun d _ => d.circ.physical },
  { idx := 0x6200, sub := 0xF0, name := "SNAP_COMMITTED_GENERATION", ty := Ty.u32, acc := .ro, priv := 3,
    read := atSnap (rdW fun d _ => d.circ.committedGen) },
  { idx := 0x6200, sub := 0xF1, name := "SNAP_COMMIT_STATE", ty := Ty.u8, acc := .ro, priv := 3,
    read := atSnap (rdN fun d _ => d.commitState) }]

def dict6300 : List ObjRow := [
  { idx := 0x6300, sub := 0x01, name := "VERIFY_ENABLE", ty := Ty.bool, acc := .rw, priv := 1,
    read := rdB fun d _ => d.cfg.ver.enable,
    write := wrB fun _ v => verifyEnableWrite v },
  { idx := 0x6300, sub := 0x02, name := "VERIFY_TIMEOUT", ty := Ty.u16, acc := .rw, priv := 1,
    read := rdN fun d _ => d.cfg.ver.timeout,
    write := wrN fun _ v => verifyTimeoutWrite v },
  { idx := 0x6300, sub := 0x03, name := "VERIFY_STATE", ty := Ty.u8, acc := .ro, priv := 3, sel := some 1023,
    read := rdN fun d s => (d.verState s).ctorIdx },
  { idx := 0x6300, sub := 0x04, name := "VERIFY_SEEN", ty := Ty.dom 3 3, acc := .ro, priv := 3, sel := some 1023,
    read := rdR fun d s => be 3 (tget 0 d.ver.seen s).toNat },
  { idx := 0x6300, sub := 0x05, name := "VERIFY_PENDING", ty := Ty.u16, acc := .ro, priv := 3,
    read := rdN fun d _ => d.verCount .pending },
  { idx := 0x6300, sub := 0x06, name := "MISCONNECT_NOW", ty := Ty.u16, acc := .ro, priv := 3,
    read := rdN fun d _ => d.verCount .misconnect },
  { idx := 0x6300, sub := 0x07, name := "NO_LABEL_NOW", ty := Ty.u16, acc := .ro, priv := 3,
    read := rdN fun d _ => d.verCount .noLabel },
  { idx := 0x6300, sub := 0xF0, name := "SNAP_VERIFY_STATE", ty := Ty.u8, acc := .ro, priv := 3, sel := some 1023,
    read := atSnap (rdN fun d s => (d.verState s).ctorIdx) },
  { idx := 0x6300, sub := 0xF1, name := "SNAP_MISCONNECT_NOW", ty := Ty.u16, acc := .ro, priv := 3,
    read := atSnap (rdN fun d _ => d.verCount .misconnect) }]

end Sys2Proof.Machine
end

