-- ==== Sys2Proof/Machine/DictHealth.lean ====
section
/-! DEFINITION. The object dictionary: temperatures, supplies and events (R405, R421, R422). -/

namespace Sys2Proof.Machine

/-- The name of an event (R399). -/
def EventName.named (e : EventName) : String :=
  match e with
  | .unsupportedRevision => "UNSUPPORTED_REVISION" | .firmwareSlotBad => "FIRMWARE_SLOT_BAD"
  | .tickWindowClipped => "TICK_WINDOW_CLIPPED" | .timeStepWaiting => "TIME_STEP_WAITING" | .timeLocked => "TIME_LOCKED"
  | .timeHoldover => "TIME_HOLDOVER" | .timeLost => "TIME_LOST" | .triggerFailed => "TRIGGER_FAILED"
  | .snapshotTaken => "SNAPSHOT_TAKEN" | .snapshotSkipped => "SNAPSHOT_SKIPPED" | .linkUp => "LINK_UP"
  | .linkDown => "LINK_DOWN" | .wiringFault => "WIRING_FAULT" | .planeBMismatch => "PLANE_B_MISMATCH"
  | .addressChanged => "ADDRESS_CHANGED" | .enumDone => "ENUM_DONE" | .enumChildExcluded => "ENUM_CHILD_EXCLUDED"
  | .enumNoSpace => "ENUM_NO_SPACE" | .columnLoadHigh => "COLUMN_LOAD_HIGH" | .spareLoadRatio => "SPARE_LOAD_RATIO"
  | .zoneSensorFault => "ZONE_SENSOR_FAULT" | .mateMissing => "MATE_MISSING" | .monitorOverrange => "MONITOR_OVERRANGE"
  | .converterTimeout => "CONVERTER_TIMEOUT" | .auxRefFault => "AUX_REF_FAULT" | .columnContention => "COLUMN_CONTENTION"
  | .outputContention => "OUTPUT_CONTENTION" | .columnLineFault => "COLUMN_LINE_FAULT" | .rowDriveFault => "ROW_DRIVE_FAULT"
  | .lateDriveCode => "LATE_DRIVE_CODE" | .poisonedDriveCode => "POISONED_DRIVE_CODE" | .lastCodeLost => "LAST_CODE_LOST"
  | .residueMismatch => "RESIDUE_MISMATCH" | .laneFenced => "LANE_FENCED" | .laneSelftestFail => "LANE_SELFTEST_FAIL"
  | .checkerFail => "CHECKER_FAIL" | .elementFault => "ELEMENT_FAULT" | .elementDark => "ELEMENT_DARK"
  | .elementLit => "ELEMENT_LIT" | .calPoisoned => "CAL_POISONED" | .calDrift => "CAL_DRIFT"
  | .columnCalFail => "COLUMN_CAL_FAIL" | .calColumnSkipped => "CAL_COLUMN_SKIPPED"
  | .sweepForcedOnCircuit => "SWEEP_FORCED_ON_CIRCUIT" | .refitLimited => "REFIT_LIMITED" | .solveDone => "SOLVE_DONE"
  | .commitMissed => "COMMIT_MISSED" | .commitDone => "COMMIT_DONE" | .commitElementNotAuto => "COMMIT_ELEMENT_NOT_AUTO"
  | .bankMismatch => "BANK_MISMATCH" | .misconnect => "MISCONNECT" | .labelLost => "LABEL_LOST"
  | .verifyDone => "VERIFY_DONE" | .labelPairSuspended => "LABEL_PAIR_SUSPENDED"
  | .learnQueueOverflow => "LEARN_QUEUE_OVERFLOW" | .memUe => "MEM_UE" | .memCeRate => "MEM_CE_RATE"
  | .memPoisonConsumed => "MEM_POISON_CONSUMED" | .scrubDone => "SCRUB_DONE" | .recordRebuilt => "RECORD_REBUILT"
  | .rebuildFailed => "REBUILD_FAILED" | .hardError => "HARD_ERROR" | .repairCandidate => "REPAIR_CANDIDATE"
  | .repairMapped => "REPAIR_MAPPED" | .repairDone => "REPAIR_DONE" | .repairExhausted => "REPAIR_EXHAUSTED"
  | .takeover => "TAKEOVER" | .claimLineFault => "CLAIM_LINE_FAULT" | .towerUndriven => "TOWER_UNDRIVEN"
  | .mateLinksLost => "MATE_LINKS_LOST" | .readinessChanged => "READINESS_CHANGED"
  | .standbySelftestFail => "STANDBY_SELFTEST_FAIL" | .yieldFailed => "YIELD_FAILED" | .mateSyncLost => "MATE_SYNC_LOST"
  | .coreHalted => "CORE_HALTED" | .thermalNormal => "THERMAL_NORMAL" | .thermalWarning => "THERMAL_WARNING"
  | .thermalThrottle => "THERMAL_THROTTLE" | .thermalShutdown => "THERMAL_SHUTDOWN" | .dieSensorFault => "DIE_SENSOR_FAULT"
  | .zoneTempHigh => "ZONE_TEMP_HIGH" | .railOutOfRange => "RAIL_OUT_OF_RANGE" | .railFault => "RAIL_FAULT"
  | .pumpFault => "PUMP_FAULT" | .deviceFaultDeclared => "DEVICE_FAULT_DECLARED" | .guaranteeLost => "GUARANTEE_LOST"
  | .guaranteeRestored => "GUARANTEE_RESTORED" | .refclkFail => "REFCLK_FAIL"

/-- Items that the rule raising an event names, three at most (R398, R399). -/
def EventName.arity (e : EventName) : Nat :=
  match e with
  | .unsupportedRevision | .triggerFailed | .linkUp | .linkDown | .enumChildExcluded | .monitorOverrange
  | .poisonedDriveCode | .laneFenced | .laneSelftestFail | .checkerFail | .commitElementNotAuto | .memCeRate
  | .memPoisonConsumed | .standbySelftestFail | .railOutOfRange | .railFault | .pumpFault | .deviceFaultDeclared
  | .guaranteeLost => 1
  | .firmwareSlotBad | .converterTimeout | .residueMismatch | .elementDark | .elementLit | .commitMissed | .memUe
  | .recordRebuilt | .mateSyncLost | .dieSensorFault => 2
  | .snapshotTaken | .elementFault | .solveDone | .commitDone | .misconnect | .labelLost | .verifyDone | .zoneTempHigh => 3
  | .tickWindowClipped | .timeStepWaiting | .timeLocked | .timeHoldover | .timeLost | .snapshotSkipped | .wiringFault
  | .planeBMismatch | .addressChanged | .enumDone | .enumNoSpace | .columnLoadHigh | .spareLoadRatio | .zoneSensorFault
  | .mateMissing | .auxRefFault | .columnContention | .outputContention | .columnLineFault | .rowDriveFault
  | .lateDriveCode | .lastCodeLost | .calPoisoned | .calDrift | .columnCalFail | .calColumnSkipped
  | .sweepForcedOnCircuit | .refitLimited | .bankMismatch | .labelPairSuspended | .learnQueueOverflow | .scrubDone
  | .rebuildFailed | .hardError | .repairCandidate | .repairMapped | .repairDone | .repairExhausted | .takeover
  | .claimLineFault | .towerUndriven | .mateLinksLost | .readinessChanged | .yieldFailed | .coreHalted | .thermalNormal
  | .thermalWarning | .thermalThrottle | .thermalShutdown | .guaranteeRestored | .refclkFail => 0

/-- ASCII characters as bytes. -/
def asciiBytes (s : String) : List Byte := s.toList.map (fun c => BitVec.ofNat 8 c.toNat)

/-- EVENT_INFO (R399, R405): severity, argument count and name; a code of no event has no entry. -/
def eventInfo (c : Nat) : ObjOut :=
  match allEvents.find? (fun e => e.code = c) with
  | some e => .raw (be 1 e.severity ++ be 1 e.arity ++ List.replicate 6 0 ++ fit 32 (asciiBytes e.named))
  | none => .absent

def dictA000 : List ObjRow := [
  { idx := 0xA000, sub := 0x01, name := "DIE_TEMP", ty := Ty.i16, acc := .ro, priv := 3, sel := some 15,
    read := rdI fun d s => tget 0 d.therm.dieTemp s },
  { idx := 0xA000, sub := 0x02, name := "SENSOR_STATE", ty := Ty.u8, acc := .ro, priv := 3, sel := some 15,
    read := rdN fun d s => tget 0 d.therm.sensorState s },
  { idx := 0xA000, sub := 0x03, name := "DIE_TEMP_MAX", ty := Ty.i16, acc := .ro, priv := 3,
    read := rdI fun d _ => d.therm.dieTempMax },
  { idx := 0xA000, sub := 0x04, name := "THERMAL_STATE", ty := Ty.u8, acc := .ro, priv := 3,
    read := rdN fun d _ => d.therm.state },
  { idx := 0xA000, sub := 0x05, name := "SAMPLE_RATE", ty := Ty.u8, acc := .ro, priv := 3,
    read := rdB fun d _ => d.therm.fast },
  { idx := 0xA000, sub := 0x06, name := "THERMAL_RESTART", ty := Ty.u8, acc := .wo, priv := 1,
    write := wrN fun _ v => thermalRestart v },
  { idx := 0xA000, sub := 0x07, name := "ZONE_WARN", ty := Ty.i16, acc := .rw, priv := 1,
    read := rdI fun d _ => d.cfg.therm.zoneWarn,
    write := wrI 16 fun _ v => zoneWarnWrite v },
  { idx := 0xA000, sub := 0x08, name := "ZONE_HIGH", ty := Ty.i16, acc := .rw, priv := 1,
    read := rdI fun d _ => d.cfg.therm.zoneHigh,
    write := wrI 16 fun _ v => zoneHighWrite v },
  { idx := 0xA000, sub := 0x09, name := "ZONE_STATE", ty := Ty.u8, acc := .ro, priv := 3, sel := some 15,
    read := rdN fun d s => tget 0 d.therm.zoneState s },
  { idx := 0xA000, sub := 0x0A, name := "DIE_TEMP_PEAK", ty := Ty.i16, acc := .ro, priv := 3,
    read := rdI fun d _ => d.therm.peak },
  { idx := 0xA000, sub := 0x0B, name := "THROTTLE_COUNT", ty := Ty.u32, acc := .ro, priv := 3,
    read := rdW fun d _ => d.therm.throttleCount },
  { idx := 0xA000, sub := 0xF0, name := "SNAP_DIE_TEMP_MAX", ty := Ty.i16, acc := .ro, priv := 3,
    read := atSnap (rdI fun d _ => d.therm.dieTempMax) },
  { idx := 0xA000, sub := 0xF1, name := "SNAP_THERMAL_STATE", ty := Ty.u8, acc := .ro, priv := 3,
    read := atSnap (rdN fun d _ => d.therm.state) }]

def dictA100 : List ObjRow := [
  { idx := 0xA100, sub := 0x01, name := "RAIL_VOLTAGE", ty := Ty.i16, acc := .ro, priv := 3, sel := some 7,
    read := rdI fun d s => tget 0 d.therm.railVoltage s },
  { idx := 0xA100, sub := 0x02, name := "RAIL_CURRENT", ty := Ty.u16, acc := .ro, priv := 3, sel := some 7,
    read := rdN fun d s => tget 0 d.therm.railCurrent s },
  { idx := 0xA100, sub := 0x03, name := "RAIL_STATE", ty := Ty.u8, acc := .ro, priv := 3, sel := some 7,
    read := rdN fun d s => d.railShown s },
  { idx := 0xA100, sub := 0x04, name := "PUMP_STATE", ty := Ty.u8, acc := .ro, priv := 3,
    read := rdN fun d _ => d.pumpState },
  { idx := 0xA100, sub := 0x05, name := "POWER_ESTIMATE", ty := Ty.u32, acc := .ro, priv := 3,
    read := rdN fun d _ => d.therm.power },
  { idx := 0xA100, sub := 0xF0, name := "SNAP_RAIL_VOLTAGE", ty := Ty.i16, acc := .ro, priv := 3, sel := some 7,
    read := atSnap (rdI fun d s => tget 0 d.therm.railVoltage s) },
  { idx := 0xA100, sub := 0xF1, name := "SNAP_POWER_ESTIMATE", ty := Ty.u32, acc := .ro, priv := 3,
    read := atSnap (rdN fun d _ => d.therm.power) }]

def dictB000 : List ObjRow := [
  { idx := 0xB000, sub := 0x01, name := "EVENT_RECORD", ty := Ty.dom 32 32, acc := .ro, priv := 2, sel := some 1023,
    read := rdR fun d s => match tfind d.ev.ring s with | some r => r.bytes | none => List.replicate 32 0 },
  { idx := 0xB000, sub := 0x02, name := "EVENT_WRITE_INDEX", ty := Ty.u16, acc := .ro, priv := 2,
    read := rdW fun d _ => d.ev.writeIndex },
  { idx := 0xB000, sub := 0x03, name := "EVENT_READ_INDEX", ty := Ty.u16, acc := .rw, priv := 2,
    read := rdW fun d _ => d.cfg.ev.readIndex,
    write := wrN fun _ v => eventReadIndexWrite (BitVec.ofNat 16 v) },
  { idx := 0xB000, sub := 0x04, name := "EVENT_DROPPED", ty := Ty.u32, acc := .ro, priv := 3,
    read := rdW fun d _ => d.ev.dropped },
  { idx := 0xB000, sub := 0x05, name := "EVENT_DEST", ty := Ty.u16, acc := .rw, priv := 1,
    read := rdW fun d _ => d.cfg.ev.dest,
    write := wrN fun _ v => eventDestWrite v },
  { idx := 0xB000, sub := 0x06, name := "IRQ_LEVEL", ty := Ty.u8, acc := .rw, priv := 1,
    read := rdN fun d _ => d.cfg.ev.irqLevel,
    write := wrN fun _ v => irqLevelWrite v },
  { idx := 0xB000, sub := 0x07, name := "EVENT_INFO", ty := Ty.dom 40 40, acc := .ro, priv := 3, sel := some 65535,
    read := fun _ s => eventInfo s },
  { idx := 0xB000, sub := 0x08, name := "FAULT_LOG", ty := Ty.dom 32 32, acc := .ro, priv := 2, sel := some 4095,
    read := rdR fun d s => (tfind d.boot.flash.log s).getD (List.replicate 32 0) },
  { idx := 0xB000, sub := 0x09, name := "FAULT_LOG_INDEX", ty := Ty.u32, acc := .ro, priv := 2,
    read := rdW fun d _ => d.boot.flash.logIndex },
  { idx := 0xB000, sub := 0x0A, name := "FAULT_LOG_CLEAR", ty := Ty.u8, acc := .wo, priv := 0,
    write := wrN fun _ v => faultLogClear v },
  { idx := 0xB000, sub := 0x0B, name := "DEVICE_FAULT", ty := Ty.u8, acc := .ro, priv := 3,
    read := rdN fun d _ => d.ev.deviceFault },
  { idx := 0xB000, sub := 0x0C, name := "DEVICE_RESTART", ty := Ty.u8, acc := .wo, priv := 1,
    write := wrN fun _ v => deviceRestart v },
  { idx := 0xB000, sub := 0x0D, name := "FAULT_ACK", ty := Ty.u8, acc := .wo, priv := 1,
    write := wrN fun _ v => faultAck v },
  { idx := 0xB000, sub := 0x0E, name := "GUARANTEE_STATE", ty := Ty.u16, acc := .ro, priv := 3,
    read := rdW fun d _ => d.ev.guarantee },
  { idx := 0xB000, sub := 0x0F, name := "BOOT_COUNT", ty := Ty.u32, acc := .ro, priv := 3,
    read := rdW fun d _ => d.ev.bootCount },
  { idx := 0xB000, sub := 0x10, name := "EVENT_SUPPRESS_LIMIT", ty := Ty.u8, acc := .rw, priv := 1,
    read := rdN fun d _ => d.cfg.ev.suppressLimit,
    write := wrN fun _ v => suppressLimitWrite v },
  { idx := 0xB000, sub := 0xF0, name := "SNAP_EVENT_WRITE_INDEX", ty := Ty.u16, acc := .ro, priv := 3,
    read := atSnap (rdW fun d _ => d.ev.writeIndex) },
  { idx := 0xB000, sub := 0xF1, name := "SNAP_GUARANTEE_STATE", ty := Ty.u16, acc := .ro, priv := 3,
    read := atSnap (rdW fun d _ => d.ev.guarantee) },
  { idx := 0xB000, sub := 0xF2, name := "SNAP_DEVICE_FAULT", ty := Ty.u8, acc := .ro, priv := 3,
    read := atSnap (rdN fun d _ => d.ev.deviceFault) }]

end Sys2Proof.Machine
end

