-- ==== Sys2Proof/Machine/Rebuild.lean ====
section
/-! DEFINITION. The rebuild of a poisoned element record, and the mate's part in it (R361, R368, R386). -/

namespace Sys2Proof.Machine

/-! ## The image word of an element (R358, R361) -/

/-- A MATE_SYNC payload (R368). -/
def syncBytes (kind status item sync : Nat) (body : List Byte) : List Byte :=
  be 1 kind ++ be 1 status ++ be 2 item ++ be 4 sync ++ body

/-- The mate link that frames of MATE_SYNC take. -/
def Dev.mateLane (d : Dev) : Nat := if d.laneUp 2 then 2 else 3

/-- A MATE_SYNC frame of its own sequence number leaves for the mate, when a mate link is UP. -/
def Dev.sendSync (d : Dev) (kind status item : Nat) (poison : Bool) (body : List Byte) : Dev :=
  let n := d.tow.syncSeq
  let d := d.setTow (fun t => { t with syncSeq := n + 1 })
  if d.mateUp then d.toMate d.mateLane 4 17 poison (syncBytes kind status item n.toNat body) else d

/-- WORD_REQUEST: a unit with a fresh image answers with the word and IMAGE_CYCLE, any other STALE. -/
def wordRequest (e : Nat) (d : Dev) : Dev :=
  let d := d.takeAny 17
  match d.freshImage with
  | some i =>
    if e < 32768 then
      let a := bufferAddr i.buffer + 8 * e
      d.sendSync 6 (respCode .ok) e (d.sram.poisoned a) (be 8 i.cycle ++ be 8 (d.sram.word a))
    else d.sendSync 6 (respCode .noent) e false (List.replicate 16 0)
  | none => d.sendSync 6 (respCode .stale) e false (List.replicate 16 0)

def execWordRequest (elem : BitVec 16) (_sync : BitVec 32) (s : State) : Host.Outcome State Fault Refusal :=
  s.upd (wordRequest elem.toNat)

/-- The driving unit asks its mate for the words of records that wait for a rebuild. -/
def Dev.wordAskTick (d : Dev) : Dev :=
  if d.driving && d.mateUp then
    let asked := d.tow.wordAsked.map (fun p => p.2.1)
    let new := (d.memory.rebuild.filter (fun p => p.2.isNone && !asked.contains p.1)).map (fun p => p.1)
    each new (fun e d =>
      let n := d.tow.syncSeq
      (d.sendSync 5 0 e false []).setTow (fun t => { t with wordAsked := t.wordAsked ++ [(n, e, some d.mono)] })) d
  else d

/-- A WORD_REQUEST for the element waits for its answer, and its 2 ms have not passed (R386). -/
def Dev.wordWaits (d : Dev) (e : Nat) : Bool :=
  d.tow.wordAsked.any (fun p => p.2.1 = e && (match p.2.2 with
    | some t => d.mono < t + 2000000
    | none => false))

/-- WORD_REPLY: the word of an element that was asked for, within 2 ms; STALE gives none, and a frame with POISON is not applied
(R361, R380, R386). -/
def wordReply (e : Nat) (status : Resp) (w : BitVec 64) (poison : Bool) (d : Dev) : Dev :=
  let d := d.takeAny 17
  if d.wordWaits e then
    let d := d.setTow (fun t => { t with wordAsked := t.wordAsked.map (fun p => if p.2.1 = e then (p.1, e, none) else p) })
    if status = .ok ∧ poison = false then
      { d with memory := { d.memory with rebuild := d.memory.rebuild.map (fun p => if p.1 = e then (e, some w) else p) } }
    else d
  else d

def execWordReply (elem : BitVec 16) (status : Resp) (_imageCycle : BitVec 64) (word : WordSent) (s : State) :
    Host.Outcome State Fault Refusal :=
  s.upd (wordReply elem.toNat status word.word word.poison)

/-- The image word of an element under rebuild and its source: 0 MATE, 1 LOCAL_IMAGE, 2 NONE. A word of the own image that is itself
poisoned is no source (DEDUCED, log entry 84). -/
def Dev.imageWord (d : Dev) (e : Nat) (heard : Option (BitVec 64)) : Option Nat × Nat :=
  if d.driving then match heard with
    | some w => (some w.toNat, 0)
    | none => (none, 2)
  else match d.tow.resident with
    | some i => if d.tow.readiness = 2 ∧ d.sram.poisoned (bufferAddr i.buffer + 8 * e) = false then (some (d.bufferWord i.buffer e), 1) else (none, 2)
    | none => (none, 2)

/-! ## RECORD_REBUILD (R386) -/

/-- The settings copy of an element's record. -/
def Flash.settingsOf (f : Flash) (e : Nat) : Option Rec :=
  match f.newest with
  | some a => some (match tfind a.records e with
    | some w => recOf (fun i => w.getD i 0)
    | none => {})
  | none => none

/-- A record's words where the poisoned ones are formed from their sources. -/
def Dev.rebuilt (d : Dev) (e : Nat) (s : Rec) (img : Option Nat) : Rec :=
  let bad (w : Nat) : Bool := d.sram.poisoned (recAddr e + 8 * w)
  let r := d.record e
  let w := d.target false e
  let last := d.lastCode (entryDrive (d.entry e))
  let im : Option Nat := img.map (fun x => bitsOf x 33 3)
  let st := (img.getD 0) % 2 ^ 32
  let r := if bad 0 then { r with
      kind := s.kind, delay2 := s.delay2, tone := s.tone, dither := s.dither, zone := s.zone, monBEn := s.monBEn
      monA := s.monA, monB := s.monB, drive := s.drive, wantB := targetWantB w, mode := im.getD 2 } else r
  let r := if bad 1 then { r with
      kp := s.kp, ki := s.ki, demodPhase := s.demodPhase, demodLog2 := s.demodLog2, codeSlew := s.codeSlew, feTimer := s.feTimer }
    else r
  let r := if bad 2 then { r with phiMin := s.phiMin, phiMax := s.phiMax, feLimit := s.feLimit } else r
  let r := if bad 3 then { r with phiFF := targetPhi w, spTarget := targetSp w, spWork := targetSp w } else r
  let r := if bad 4 then { r with
      spRate := s.spRate, darkTh := s.darkTh, manualCode := if im = some 1 then st % 2 ^ 14 else s.manualCode
      codeND := match img with
        | some x => bitsOf x 36 14
        | none => last } else r
  let r := if bad 5 then { r with integ := if im = some 0 ∨ im = some 3 then signed 32 st else 0, demodAcc := 0 } else r
  let r := if bad 6 then { r with
      -- the reverse linearisation that is requested starts from here (R122)
      phiOut := r.phiFF
      mRef := 0, demodCount := 0, codeOut := last } else r
  if bad 7 then Rec.setFlag { r with eLast := 0, feCount := 0, settle := 0, flags := 0, meas := 0 } fSpoilt true else r

/-- The mate's word may still come: it has not been asked for, or its 2 ms have not passed (R386). -/
def Dev.wordOpen (d : Dev) (e : Nat) : Bool :=
  d.driving && d.mateUp && (d.wordWaits e || !d.tow.wordAsked.any (fun p => p.2.1 = e))

/-- RECORD_REBUILD: all eight words of the record are rewritten, within 20 ms of MEM_UE; `ok`: the flash could be read. Where PHI_OUT
was lost it is PHI_FF until REVERSE_LINEARISATION, in a spare issue slot and checked like every other operation (R106, R122), has
found the phase of the restored CODE_ND from there. -/
def recordRebuild (e : Nat) (ok : Bool) (d : Dev) : Dev :=
  match tfind d.memory.rebuild e with
  | none => d
  | some heard =>
    if heard.isNone && d.wordOpen e then d else
    let d := { d with memory := { d.memory with rebuild := d.memory.rebuild.filter (fun p => p.1 ≠ e) } }
    let d := d.setTow (fun t => { t with wordAsked := t.wordAsked.filter (fun p => p.2.1 ≠ e) })
    match (if ok then d.boot.flash.settingsOf e else none) with
    | none => d.raise .rebuildFailed
    | some s =>
      let img := d.imageWord e heard
      let r := d.rebuilt e s img.1
      let lost := d.sram.poisoned (recAddr e + 48)
      let d := d.putRec e r
      let d := (d.setLoop (fun l => { l with holdLate := tset false l.holdLate e false })).endHold e
      let d := if lost then d.requestReverse e r.codeND r.mode else d
      let d := { d with memory := { d.memory with rebuilds := d.memory.rebuilds + 1 } }
      d.raise .recordRebuilt [e, img.2]

def execRecordRebuild (elem : BitVec 15) (settingsOk : Bool) (s : State) : Host.Outcome State Fault Refusal :=
  s.upd (recordRebuild elem.toNat settingsOk)

end Sys2Proof.Machine
end

