-- ==== Sys2Proof/Machine/Certs.lean ====
section
/-! DEFINITION. The identity key, its certificate and the device CA's (R438). The forms of X.509 v3 and DER stand outside the manual,
which names them (PRESUMED, log entry 130). -/

namespace Sys2Proof.Machine

/-! ## DER -/

def derLength (n : Nat) : List Byte := if n < 128 then be 1 n else if n < 256 then be 1 0x81 ++ be 1 n else be 1 0x82 ++ be 2 n
def der (tag : Nat) (l : List Byte) : List Byte := be 1 tag ++ derLength l.length ++ l

/-- A number of 48 bytes without the leading zeros, one before a set top bit. -/
def derNumber (v : Nat) : List Byte :=
  let l := (be 48 v).dropWhile (fun b => b = 0)
  der 0x02 (if l.headD 0x80 < 0x80 then l else 0 :: l)

/-! ## X.509 v3 -/

/-- ECDSA with SHA-384. -/
def signatureAlgorithm : List Byte := der 0x30 (der 0x06 [0x2A, 0x86, 0x48, 0xCE, 0x3D, 0x04, 0x03, 0x03])

/-- A public key of P-384. -/
def keyInfo (key : List Byte) : List Byte :=
  der 0x30 (der 0x30 (der 0x06 [0x2A, 0x86, 0x48, 0xCE, 0x3D, 0x02, 0x01] ++ der 0x06 [0x2B, 0x81, 0x04, 0x00, 0x22]) ++ der 0x03 (0 :: key))

def hexDigit (n : Nat) : Byte := BitVec.ofNat 8 (if n < 10 then 48 + n else 55 + n)
def hexText (l : List Byte) : List Byte := l.flatMap (fun b => [hexDigit (b.toNat / 16), hexDigit (b.toNat % 16)])

/-- A name that is a serial number in hexadecimal. -/
def serialName (serial : List Byte) : List Byte :=
  der 0x30 (der 0x31 (der 0x30 (der 0x06 [0x55, 0x04, 0x05] ++ der 0x13 (hexText serial))))

/-- The part of certificate k that is signed. -/
def certBody (k : Nat) (subject key : List Byte) : List Byte :=
  der 0x30 (der 0xA0 (der 0x02 [2]) ++ der 0x02 (Config.certNumber k) ++ signatureAlgorithm ++ Config.certName (k + 1)
    ++ Config.certValidity k ++ subject ++ keyInfo key ++ Config.certExtensions k)

/-- A certificate: its body signed with a private key. -/
def certOf (k secret : Nat) (body : List Byte) : List Byte :=
  let s := ecdsaSign secret (Config.certNonce k) (sha384 body)
  der 0x30 (body ++ signatureAlgorithm ++ der 0x03 (0 :: der 0x30 (derNumber (field s 0 48) ++ derNumber (field s 48 48))))

def serial : List Byte := (List.range 16).map Config.serialNumber

/-- IDENTITY_KEY. -/
def identityKey : List Byte := publicKey Config.identitySecret

/-- DEVICE_CERT: for the identity key, its subject the SERIAL_NUMBER in hexadecimal, signed by the device CA. -/
def deviceCert : List Byte := certOf 0 Config.caSecret (certBody 0 (serialName serial) identityKey)

/-- CA_CERT: for the device CA's key, signed by the root. -/
def caCert : List Byte := certOf 1 Config.rootSecret (certBody 1 (Config.certName 1) (publicKey Config.caSecret))

end Sys2Proof.Machine
end

