-- ==== Sys2Proof/Machine/Security.lean ====
section
/-! DEFINITION. Firmware update, keys, attestation and REJOIN (R430, R435 to R439, R441). -/

namespace Sys2Proof.Machine

/-! ## Firmware update (R430) -/

def firmwareTargetWrite (v : Nat) (d : Dev) : Resp × Dev :=
  if 1 < v then (.invalid, d) else (.ok, d.setBoot (fun b => { b with target := v }))

/-- FIRMWARE_BLOCK: the bytes are programmed into the target slot. -/
def firmwareBlock (j : Nat) (b : List Byte) (d : Dev) : Resp × Dev :=
  if 1024 < j then (.noent, d)
  else if b.length ≠ 1024 then (.invalid, d)
  else (.ok, d.setFlash (fun f => f.setSlot d.boot.target (tset erased (f.slot d.boot.target) j b)))

def execFirmwareBlock (block : BitVec 16) (bytes : List Byte) (s : State) : Host.Outcome State Fault Refusal :=
  s.ask (firmwareBlock block.toNat bytes)

/-- FIRMWARE_APPLY: the target slot is checked and becomes preferred; in RECOVERY the controller resets. -/
def firmwareApply (v : Nat) (d : Dev) : Resp × Dev :=
  if v ≠ 1 then (.invalid, d)
  else if d.slotCheck d.boot.target ≠ 1 then (.invalid, d)
  else
    let d' := d.setFlash (fun f => { f with bootRecord := BitVec.ofNat 8 d.boot.target })
    (.ok, if d.boot.phase = .recovery then d'.restart else d')

def execFirmwareApply (v : BitVec 8) (s : State) : Host.Outcome State Fault Refusal := s.ask (firmwareApply v.toNat)

/-- SECURITY_VERSION_COMMIT: refused unless the guarantee holds. -/
def securityVersionCommit (v : Nat) (d : Dev) : Resp × Dev :=
  if v ≠ 1 then (.invalid, d)
  else if d.ev.guarantee ≠ 0 then (.conflict, d)
  else (.ok, d.setBoot (fun b => { b with securityVersion := max b.securityVersion (min 64 b.imageSecurity) }))

def execSecurityVersionCommit (v : BitVec 8) (s : State) : Host.Outcome State Fault Refusal :=
  s.ask (securityVersionCommit v.toNat)

/-! ## The owner key (R436) -/

/-- A slot holds an image that a new owner key would shut out. -/
def Dev.slotShutOut (d : Dev) (key : List Byte) (k : Nat) : Bool :=
  let x := imageOf (d.boot.flash.slot k)
  x.format = 0x0301 && bodyFits (field x.header 12 4) && !ecdsaVerify key x.digest x.ownerSig

/-- OWNER_KEY_INSTALL: the owner record, then the next slot's fuse; the counter starts again from 0. -/
def ownerKeyInstall (key : List Byte) (d : Dev) : Resp × Dev :=
  if key.length ≠ 97 ∨ key.head? ≠ some 0x04 then (.invalid, d)
  else if 4 ≤ d.boot.ownerSlots.length ∨ d.slotShutOut key 0 ∨ d.slotShutOut key 1 then (.conflict, d)
  else
    let d := d.setFlash (fun f => { f with ownerKey := key, ownerSlot := d.boot.ownerSlots.length, ownerCounters := [] })
    let d := d.setBoot (fun b => { b with ownerSlots := b.ownerSlots ++ [sha384 key] })
    (.ok, { d with req := { d.req with ownerCounter := 0 } })

def execOwnerKeyInstall (key : List Byte) (s : State) : Host.Outcome State Fault Refusal := s.ask (ownerKeyInstall key)

/-- OWNER_SLOT and OWNER_KEY. -/
def Dev.ownerSlotShown (d : Dev) : Nat := d.ownerSlot.getD 0xFF
def Dev.ownerKeyShown (d : Dev) : List Byte := if d.ownerSlot.isSome then fit 97 d.boot.flash.ownerKey else List.replicate 97 0

/-! ## Attestation (R439) -/

/-- Bytes 0 to 271 of the report. -/
def Dev.reportBody (d : Dev) (nonce : List Byte) : List Byte :=
  be 2 0x0320 ++ be 2 d.boot.revision.toNat ++ serial ++ be 4 d.boot.imageVersion.toNat ++ be 4 d.cfg.req.systemId.toNat
    ++ be 2 d.net.address ++ be 1 d.tow.role ++ be 1 d.ownerSlotShown ++ (timeOf d.now).bytes ++ be 4 d.ev.bootCount.toNat
    ++ [0, 0] ++ fit 48 d.boot.imageDigest ++ d.configDigest ++ d.fabricDigest ++ fit 48 d.circ.bankDigest ++ nonce

/-- ATTEST_NONCE: the report is built and signed by the identity key. -/
def attestNonce (nonce : List Byte) (d : Dev) : Resp × Dev :=
  if nonce.length ≠ 32 then (.invalid, d)
  else
    let body := d.reportBody nonce
    (.ok, d.draw.2.setBoot (fun b => { b with attest := body ++ ecdsaSign Config.identitySecret (Config.signNonce d.draw.1) (sha384 body) }))

def execAttestNonce (nonce : List Byte) (s : State) : Host.Outcome State Fault Refusal := s.ask (attestNonce nonce)

/-! ## REJOIN (R435) -/

def Dev.setRejoin (d : Dev) (st code : Nat) : Dev := d.setBoot (fun b => { b with rejoinState := st, rejoinCode := code })

/-- The mate's FABRIC_DIGEST is known to differ from this unit's. -/
def Dev.fabricDiffers (d : Dev) : Bool :=
  match d.tow.mateFabric with
  | some f => f ≠ d.fabricDigest
  | none => false

/-- REJOIN: firmware begins to read the mate's bank. -/
def rejoin (v : Nat) (d : Dev) : Resp × Dev :=
  if v ≠ 1 then (.invalid, d)
  else if d.tow.role = 0 ∨ d.net.mateAddress = 0 ∨ d.fabricDiffers then (.conflict, d)
  else (.ok, (d.setRejoin 1 0).setBoot (fun b => { b with rejoinTries := 0, rejoinSent := 0 }))

/-- A READ item (R322) of an object, with its selector where it has one. -/
def readHead (idx sub : Nat) (sel : Option Nat) : List Byte :=
  be 1 1 ++ be 1 (ofBool sel.isSome) ++ be 2 idx ++ be 1 sub ++ be 1 0 ++ be 2 (sel.getD 0) ++ be 2 0 ++ be 2 0

/-- A request body (R321) of items. -/
def readBody (items : List (List Byte)) : List Byte := be 1 1 ++ be 1 0 ++ be 1 items.length ++ be 1 0 ++ items.flatten

/-- Items of the k-th request of a reading (R435): the generation, the entries by 32, the fields of the elements in use by 10
elements, the generation again; none past the last. How the reads are spread over requests is open (DESIGN CHOICE, log entry 132). -/
def Dev.rejoinItems (d : Dev) (k : Nat) : List (List Byte) :=
  let gen := [readHead 0x6200 0x15 none]
  let parts := (d.used.length + 9) / 10
  if k = 0 then gen
  else if k ≤ 32 then (List.range 32).map (fun i => readHead 0x6200 0x02 (some (32 * (k - 1) + i)))
  else if k ≤ 32 + parts then ((d.used.drop (10 * (k - 33))).take 10).flatMap (fun e =>
    [readHead 0x5100 0x15 (some e), readHead 0x5100 0x0A (some e), readHead 0x5100 0x16 (some e)])
  else if k = 33 + parts then gen else []

/-- While a reading runs firmware sends one of its requests in a cycle, in class 2 from its own address (R435). -/
def Dev.rejoinTick (d : Dev) : Dev :=
  if d.boot.rejoinState ≠ 1 then d
  else match d.rejoinItems d.boot.rejoinSent with
    | [] => d
    | l => (d.originate 2 8 d.net.mateAddress none false (readBody l)).setBoot (fun b => { b with rejoinSent := b.rejoinSent + 1 })

def execRejoin (v : BitVec 8) (s : State) : Host.Outcome State Fault Refusal := s.ask (rejoin v.toNat)

/-- A cell's state, from its switching element's PHI_FF: cross or bar as the cell table has it; a phase that is neither,
or both, leaves it open (log entry 4). -/
def Dev.cellFrom (d : Dev) (c : Nat) (phi : Int) : Bool × Dev :=
  if d.phiBar c ≠ d.phiCross c ∧ phi = d.phiCross c then (true, d)
  else if d.phiBar c ≠ d.phiCross c ∧ phi = d.phiBar c then (false, d)
  else (d.draw.1 % 2 = 1, d.draw.2)

/-- The cell states of a set of targets, by words of 64, as bytes by offset in the bank. -/
def Dev.cellStates (d : Dev) (targets : List (Nat × BitVec 64)) : List Nat × Dev :=
  let r := iter (fun c r =>
    match tfind targets c with
    | some w =>
      let x := Dev.cellFrom r.2 c (targetPhi w.toNat)
      (if x.1 then c :: r.1 else r.1, x.2)
    | none => r) d.mapCells 0 (([] : List Nat), d)
  r

/-- Bytes of a bank with given entries, targets and crossed cells. -/
def bankCells (entries : List (Nat × List Byte)) (targets : List (Nat × BitVec 64)) (crossed : List Nat) : List Host.Cell :=
  let word (w : Nat) : Nat := each (crossed.filter (fun c => c / 64 = w)) (fun c n => n + 2 ^ (c % 64)) 0
  entries.flatMap (fun p => cellsFrom (entryOff p.1) (fit 16 p.2))
    ++ targets.flatMap (fun p => cellsFrom (targetOff p.1) (be 8 p.2.toNat))
    ++ ((crossed.map (fun c => c / 64)).eraseDups).flatMap (fun w => cellsFrom (cellOff w) (be 8 (word w)))

/-- What was read is written as both banks; BANK_DIGEST is formed and compared. -/
def Dev.takeBank (d : Dev) (x : RejoinData) : Dev :=
  let es := x.entries.filter (fun p => p.1 < 1024)
  let ts := x.targets.filter (fun p => p.1 < 32768)
  let c := d.cellStates ts
  let d := c.2.putBank (bankCells es ts c.1) x.genAfter
  let d := (d.setCirc (fun c => { c with digestDue := true })).digestTick
  if d.circ.bankDigest = x.bankDigest then d.setRejoin 2 0
  else (d.draw.2.setRejoin 3 (d.draw.1 % 10)).raise .bankMismatch

/-- REJOIN_COMPLETE: a reading of the mate has ended. Which code a failure without a refused read carries is open (log entry 4). -/
def rejoinComplete (x : RejoinData) (d : Dev) : Dev :=
  if d.boot.rejoinState ≠ 1 then d
  else if x.status ≠ .ok then d.setRejoin 3 (respCode x.status)
  else if x.genBefore ≠ x.genAfter then
    if d.boot.rejoinTries < 3 then d.setBoot (fun b => { b with rejoinTries := b.rejoinTries + 1, rejoinSent := 0 })
    else d.draw.2.setRejoin 3 (d.draw.1 % 10)
  else d.takeBank x

def execRejoinComplete (data : RejoinData) (s : State) : Host.Outcome State Fault Refusal := s.upd (rejoinComplete data)

end Sys2Proof.Machine
end

