-- ==== Sys2Proof/Machine/DictIdentity.lean ====
section
/-! DEFINITION. The object dictionary: identity, straps, the Request Service, firmware, keys and access rights (R339 to R342, R441). -/

namespace Sys2Proof.Machine

/-- Text of 7-bit characters in its bytes. -/
def stringBytes (s : String) : List Byte := s.toList.map (fun c => BitVec.ofNat 8 c.toNat)

/-- REQ_WINDOW of a requester (R341). -/
def Dev.windowShown (d : Dev) (a : Nat) : ObjOut :=
  match d.reqWindow a with
  | some w => .raw (be 2 w.high.toNat ++ be 1 (d.req.outstanding.filter (fun o => o.src.toNat = a)).length
      ++ be 1 w.entries.length ++ be 4 0)
  | none => .absent

def AddrRule.bytes (r : AddrRule) : List Byte := be 2 r.low ++ be 2 r.high ++ be 1 r.level ++ be 1 (ofBool r.valid)

def dict1000 : List ObjRow := [
  { idx := 0x1000, sub := 0x01, name := "VENDOR", ty := Ty.text 64, acc := .ro, priv := 3,
    read := rdR fun _ _ => stringBytes "Loiviar" },
  { idx := 0x1000, sub := 0x02, name := "PART_NUMBER", ty := Ty.text 64, acc := .ro, priv := 3,
    read := rdR fun _ _ => stringBytes "VR3-32K-FB" },
  { idx := 0x1000, sub := 0x03, name := "REVISION", ty := Ty.u16, acc := .ro, priv := 3,
    read := rdW fun d _ => d.boot.revision },
  { idx := 0x1000, sub := 0x04, name := "SERIAL_NUMBER", ty := Ty.dom 16 16, acc := .ro, priv := 3,
    read := rdR fun _ _ => serial },
  { idx := 0x1000, sub := 0x05, name := "FIRMWARE_VERSION", ty := Ty.u32, acc := .ro, priv := 3,
    read := rdW fun d _ => d.boot.imageVersion },
  { idx := 0x1000, sub := 0x06, name := "BOOT_ROM_VERSION", ty := Ty.u32, acc := .ro, priv := 3,
    read := rdW fun _ _ => Config.bootRomVersion },
  { idx := 0x1000, sub := 0x07, name := "DEVICE_LABEL", ty := Ty.text 32, acc := .rw, priv := 1,
    read := rdR fun d _ => d.cfg.req.label,
    write := wrR fun _ b => deviceLabelWrite b },
  { idx := 0x1000, sub := 0x08, name := "UPTIME", ty := Ty.u64, acc := .ro, priv := 3,
    read := rdN fun d _ => d.mono / 1000000 },
  { idx := 0x1000, sub := 0xF0, name := "SNAP_UPTIME", ty := Ty.u64, acc := .ro, priv := 3,
    read := atSnap (rdN fun d _ => d.mono / 1000000) }]

def dict1100 : List ObjRow := [
  { idx := 0x1100, sub := 0x01, name := "STRAPS", ty := Ty.u16, acc := .ro, priv := 3,
    read := rdW fun d _ => d.boot.straps },
  { idx := 0x1100, sub := 0x02, name := "SYSTEM_ID", ty := Ty.u32, acc := .rw, priv := 1,
    read := rdW fun d _ => d.cfg.req.systemId,
    write := wrN fun _ v => systemIdWrite v },
  { idx := 0x1100, sub := 0x03, name := "DOMAIN_ID", ty := Ty.u16, acc := .rw, priv := 1,
    read := rdW fun d _ => d.cfg.req.domainId,
    write := wrN fun _ v => domainIdWrite v },
  { idx := 0x1100, sub := 0xF0, name := "SNAP_STRAPS", ty := Ty.u16, acc := .ro, priv := 3,
    read := atSnap (rdW fun d _ => d.boot.straps) }]

def dict1200 : List ObjRow := [
  { idx := 0x1200, sub := 0x01, name := "REQ_OUTSTANDING", ty := Ty.u16, acc := .ro, priv := 3,
    read := rdN fun d _ => d.req.outstanding.length },
  { idx := 0x1200, sub := 0x02, name := "REQ_WINDOWS", ty := Ty.u16, acc := .ro, priv := 3,
    read := rdN fun d _ => d.req.windows.length },
  { idx := 0x1200, sub := 0x03, name := "REQ_WINDOW", ty := Ty.dom 8 8, acc := .ro, priv := 2, sel := some 65535,
    read := fun d s => d.windowShown s },
  { idx := 0x1200, sub := 0x04, name := "REQ_COUNTERS", ty := Ty.dom 48 48, acc := .ro, priv := 3,
    read := rdR fun d _ => countersBytes 6 d.req.counters },
  { idx := 0x1200, sub := 0x05, name := "CACHE_FREE", ty := Ty.u32, acc := .ro, priv := 3,
    read := rdN fun d _ => 524288 - poolUsed d.req.windows },
  { idx := 0x1200, sub := 0x06, name := "OWNER_COUNTER_LAST", ty := Ty.u64, acc := .ro, priv := 3,
    read := rdW fun d _ => d.req.ownerCounter },
  { idx := 0x1200, sub := 0x10, name := "TELEM_LIST", ty := Ty.dom 6 198, acc := .rw, priv := 1, sel := some 3,
    read := rdR fun d s => tget (List.replicate 6 0) d.cfg.req.telem s,
    write := wrR fun s b => telemListWrite s b },
  { idx := 0x1200, sub := 0x11, name := "TELEM_SENT", ty := Ty.u32, acc := .ro, priv := 3, sel := some 3,
    read := rdW fun d s => tget 0 d.req.telemSent s },
  { idx := 0x1200, sub := 0xF0, name := "SNAP_REQ_OUTSTANDING", ty := Ty.u16, acc := .ro, priv := 3,
    read := atSnap (rdN fun d _ => d.req.outstanding.length) },
  { idx := 0x1200, sub := 0xF1, name := "SNAP_REQ_COUNTERS", ty := Ty.dom 48 48, acc := .ro, priv := 3,
    read := atSnap (rdR fun d _ => countersBytes 6 d.req.counters) }]

def dictC000 : List ObjRow := [
  { idx := 0xC000, sub := 0x01, name := "FIRMWARE_TARGET", ty := Ty.u8, acc := .rw, priv := 0,
    read := rdN fun d _ => d.boot.target,
    write := wrN fun _ v => firmwareTargetWrite v },
  { idx := 0xC000, sub := 0x02, name := "FIRMWARE_BLOCK", ty := Ty.dom 1024 1024, acc := .wo, priv := 0, sel := some 1024,
    write := wrR fun s b => firmwareBlock s b },
  { idx := 0xC000, sub := 0x03, name := "FIRMWARE_APPLY", ty := Ty.u8, acc := .wo, priv := 0,
    write := wrN fun _ v => firmwareApply v },
  { idx := 0xC000, sub := 0x04, name := "SLOT_STATUS", ty := Ty.dom 8 8, acc := .ro, priv := 3, sel := some 1,
    read := rdR fun d s => d.slotStatus s },
  { idx := 0xC000, sub := 0x05, name := "BOOT_SLOT", ty := Ty.u8, acc := .ro, priv := 3,
    read := rdN fun d _ => d.boot.bootSlot },
  { idx := 0xC000, sub := 0x06, name := "DEVICE_RESET", ty := Ty.u8, acc := .wo, priv := 0,
    write := wrN fun _ v => deviceReset v },
  { idx := 0xC000, sub := 0x07, name := "SECURITY_VERSION", ty := Ty.u8, acc := .ro, priv := 3,
    read := rdN fun d _ => d.boot.securityVersion },
  { idx := 0xC000, sub := 0x08, name := "SECURITY_VERSION_COMMIT", ty := Ty.u8, acc := .wo, priv := 0,
    write := wrN fun _ v => securityVersionCommit v },
  { idx := 0xC000, sub := 0x10, name := "OWNER_KEY_INSTALL", ty := Ty.dom 97 97, acc := .wo, priv := 0,
    write := wrR fun _ b => ownerKeyInstall b },
  { idx := 0xC000, sub := 0x11, name := "OWNER_KEY", ty := Ty.dom 97 97, acc := .ro, priv := 3,
    read := rdR fun d _ => d.ownerKeyShown },
  { idx := 0xC000, sub := 0x12, name := "OWNER_SLOT", ty := Ty.u8, acc := .ro, priv := 3,
    read := rdN fun d _ => d.ownerSlotShown },
  { idx := 0xC000, sub := 0x13, name := "IDENTITY_KEY", ty := Ty.dom 97 97, acc := .ro, priv := 3,
    read := rdR fun _ _ => identityKey },
  { idx := 0xC000, sub := 0x14, name := "DEVICE_CERT", ty := Ty.dom 0 1024, acc := .ro, priv := 3,
    read := rdR fun _ _ => deviceCert.take 1024 },
  { idx := 0xC000, sub := 0x15, name := "CA_CERT", ty := Ty.dom 0 1024, acc := .ro, priv := 3,
    read := rdR fun _ _ => caCert.take 1024 },
  { idx := 0xC000, sub := 0x20, name := "ATTEST_NONCE", ty := Ty.dom 32 32, acc := .wo, priv := 0,
    write := wrR fun _ b => attestNonce b },
  { idx := 0xC000, sub := 0x21, name := "ATTEST_REPORT", ty := Ty.dom 368 368, acc := .ro, priv := 3,
    read := rdR fun d _ => d.boot.attest },
  { idx := 0xC000, sub := 0x22, name := "CONFIG_DIGEST", ty := Ty.dom 48 48, acc := .ro, priv := 3,
    read := rdR fun d _ => d.configDigest },
  { idx := 0xC000, sub := 0x30, name := "START_MODE", ty := Ty.u8, acc := .rw, priv := 0,
    read := rdN fun d _ => d.boot.flash.startMode,
    write := wrN fun _ v => startModeWrite v },
  { idx := 0xC000, sub := 0x31, name := "START_RESULT", ty := Ty.dom 4 4, acc := .ro, priv := 3,
    read := rdR fun d _ => be 1 (ofBool d.boot.startDone) ++ be 1 d.boot.startMode ++ be 1 d.boot.startWhy ++ [0] },
  { idx := 0xC000, sub := 0x32, name := "SAVED_STATE_INFO", ty := Ty.dom 16 16, acc := .ro, priv := 3,
    read := rdR fun d _ => d.savedInfo },
  { idx := 0xC000, sub := 0x33, name := "SAVED_STATE_ERASE", ty := Ty.u8, acc := .wo, priv := 0,
    write := wrN fun _ v => savedStateErase v },
  { idx := 0xC000, sub := 0x34, name := "REJOIN", ty := Ty.u8, acc := .wo, priv := 0,
    write := wrN fun _ v => rejoin v },
  { idx := 0xC000, sub := 0x35, name := "REJOIN_STATE", ty := Ty.dom 2 2, acc := .ro, priv := 3,
    read := rdR fun d _ => be 1 d.boot.rejoinState ++ be 1 d.boot.rejoinCode },
  { idx := 0xC000, sub := 0xF0, name := "SNAP_BOOT_SLOT", ty := Ty.u8, acc := .ro, priv := 3,
    read := atSnap (rdN fun d _ => d.boot.bootSlot) }]

def dictC100 : List ObjRow := [
  { idx := 0xC100, sub := 0x01, name := "RANGE_RIGHTS", ty := Ty.dom 2 2, acc := .rw, priv := 0, sel := some 28,
    read := rdR fun d s => be 1 (d.req.staged.range s).1 ++ be 1 (d.req.staged.range s).2,
    write := wrR fun s b => rangeRightsWrite s (field b 0 1) (field b 1 1) },
  { idx := 0xC100, sub := 0x02, name := "ADDR_RULE", ty := Ty.dom 6 6, acc := .rw, priv := 0, sel := some 31,
    read := rdR fun d s => (tget {} d.req.staged.rules s).bytes,
    write := wrR fun s b => addrRuleWrite s (field b 0 2) (field b 2 2) (field b 4 1) (bit (field b 5 1) 0) },
  { idx := 0xC100, sub := 0x03, name := "BSPI_LEVEL", ty := Ty.u8, acc := .rw, priv := 0,
    read := rdN fun d _ => d.req.staged.bspi,
    write := wrN fun _ v => bspiLevelWrite v },
  { idx := 0xC100, sub := 0x04, name := "RIGHTS_PENDING", ty := Ty.bool, acc := .ro, priv := 2,
    read := rdB fun d _ => d.req.rightsPending },
  { idx := 0xC100, sub := 0x05, name := "RIGHTS_GEN", ty := Ty.u32, acc := .ro, priv := 2,
    read := rdW fun d _ => d.req.rightsGen },
  { idx := 0xC100, sub := 0xF0, name := "SNAP_RIGHTS_GEN", ty := Ty.u32, acc := .ro, priv := 2,
    read := atSnap (rdW fun d _ => d.req.rightsGen) }]

end Sys2Proof.Machine
end

