-- ==== Sys2Proof/Machine/DictLabel.lean ====
section
/-! DEFINITION. The object dictionary: the Label Decoder, the Label Table and the learn queue (R251 to R253). -/

namespace Sys2Proof.Machine

/-- A label command as an item: a refusal, or an answer that waits for its completion (R245, R328). -/
def labelItem (c : LabelCmd) (ops : List Nat) (d : Dev) : Reply × Dev :=
  match d.submitLabel c ops with
  | (.error r, d) => (.now r, d)
  | (.ok id, d) => (.later (.label id), d)

def dict7000 : List ObjRow := [
  { idx := 0x7000, sub := 0x01, name := "DECODER_CONTROL", ty := Ty.u8, acc := .rw, priv := 1,
    read := rdN fun d _ => d.cfg.dec.control,
    write := wrN fun _ v => decoderControlWrite v },
  { idx := 0x7000, sub := 0x02, name := "DECODER_STATE", ty := Ty.u8, acc := .ro, priv := 3,
    read := rdN fun d _ => d.dec.state.ctorIdx },
  { idx := 0x7000, sub := 0x03, name := "MIN_LEVEL", ty := Ty.u16, acc := .rw, priv := 1,
    read := rdN fun d _ => d.cfg.dec.minLevel,
    write := wrN fun _ v => minLevelWrite v },
  { idx := 0x7000, sub := 0x04, name := "LEARN_MODE", ty := Ty.u8, acc := .rw, priv := 1,
    read := rdN fun d _ => d.cfg.dec.learnMode,
    write := wrN fun _ v => learnModeWrite v },
  { idx := 0x7000, sub := 0x05, name := "LEARN_REPOST", ty := Ty.u16, acc := .rw, priv := 1,
    read := rdN fun d _ => d.cfg.dec.learnRepost,
    write := wrN fun _ v => learnRepostWrite v },
  { idx := 0x7000, sub := 0x10, name := "PAIR_F0", ty := Ty.u32, acc := .rw, priv := 1, sel := some 7,
    read := rdN fun d s => (d.pair s).f0,
    write := wrN fun s v => fun d => pairWrite s v (d.pair s).f1 (d.pair s).on d },
  { idx := 0x7000, sub := 0x11, name := "PAIR_F1", ty := Ty.u32, acc := .rw, priv := 1, sel := some 7,
    read := rdN fun d s => (d.pair s).f1,
    write := wrN fun s v => fun d => pairWrite s (d.pair s).f0 v (d.pair s).on d },
  { idx := 0x7000, sub := 0x12, name := "PAIR_ENABLE", ty := Ty.bool, acc := .rw, priv := 1, sel := some 7,
    read := rdB fun d s => (d.pair s).on,
    write := wrB fun s v => fun d => pairWrite s (d.pair s).f0 (d.pair s).f1 v d },
  { idx := 0x7000, sub := 0x13, name := "PAIR_STATE", ty := Ty.u8, acc := .ro, priv := 3, sel := some 7,
    read := rdN fun d s => (tget .off d.dec.pairState s).ctorIdx },
  { idx := 0x7000, sub := 0x20, name := "TAP_LABEL", ty := Ty.dom 8 8, acc := .ro, priv := 3, sel := some 2047,
    read := rdR fun d s => d.tapLabel s },
  { idx := 0x7000, sub := 0x21, name := "GOOD_COUNT", ty := Ty.u32, acc := .ro, priv := 3, sel := some 2047,
    read := rdW fun d s => tget 0 d.dec.good s },
  { idx := 0x7000, sub := 0x22, name := "BAD_COUNT", ty := Ty.u32, acc := .ro, priv := 3, sel := some 2047,
    read := rdW fun d s => tget 0 d.dec.bad s },
  { idx := 0x7000, sub := 0xF0, name := "SNAP_DECODER_STATE", ty := Ty.u8, acc := .ro, priv := 3,
    read := atSnap (rdN fun d _ => d.dec.state.ctorIdx) },
  { idx := 0x7000, sub := 0xF1, name := "SNAP_TAP_LABEL", ty := Ty.dom 8 8, acc := .ro, priv := 3, sel := some 2047,
    read := atSnap (rdR fun d s => d.tapLabel s) }]

def dict7100 : List ObjRow := [
  { idx := 0x7100, sub := 0x01, name := "LABEL_COMMAND", ty := Ty.dom 16 16, acc := .wo, priv := 1,
    write := fun src _ b => labelItem (labelCmdOf b src) [1, 2, 5] },
  { idx := 0x7100, sub := 0x02, name := "LABEL_QUERY", ty := Ty.dom 16 16, acc := .wo, priv := 2,
    write := fun src _ b => labelItem (labelCmdOf b src) [3, 4] },
  { idx := 0x7100, sub := 0x03, name := "COMMAND_PENDING", ty := Ty.u8, acc := .ro, priv := 3,
    read := rdN fun d _ => d.commandsPending },
  { idx := 0x7100, sub := 0x04, name := "LABEL_RESULT", ty := Ty.dom 80 80, acc := .ro, priv := 2, sel := some 127,
    read := rdR fun d s => (tfind d.lab.results s).getD (List.replicate 80 0) },
  { idx := 0x7100, sub := 0x05, name := "RESULT_WRITE_INDEX", ty := Ty.u16, acc := .ro, priv := 2,
    read := rdW fun d _ => d.lab.resultIndex },
  { idx := 0x7100, sub := 0x06, name := "AGE_TIME", ty := Ty.u32, acc := .rw, priv := 1,
    read := rdN fun d _ => d.cfg.lab.ageTime,
    write := wrN fun _ v => ageTimeWrite v },
  { idx := 0x7100, sub := 0x07, name := "ENTRY_COUNT", ty := Ty.u16, acc := .ro, priv := 3,
    read := rdN fun d _ => d.labelPositions.length },
  { idx := 0x7100, sub := 0x08, name := "OVERFLOW_COUNT", ty := Ty.u16, acc := .ro, priv := 3,
    read := rdN fun d _ => (d.labelPositions.filter (fun p => 8192 ≤ p)).length },
  { idx := 0x7100, sub := 0x09, name := "STALE_COUNT", ty := Ty.u16, acc := .ro, priv := 3,
    read := rdN fun d _ => (d.labelPositions.filter (fun p => (d.labelEntry p).stale)).length },
  { idx := 0x7100, sub := 0x0A, name := "SWEEP_STATE", ty := Ty.u8, acc := .ro, priv := 3,
    read := rdN fun d _ => d.sweepShown },
  { idx := 0x7100, sub := 0x0B, name := "AGED_OUT_COUNT", ty := Ty.u32, acc := .ro, priv := 3,
    read := rdW fun d _ => d.lab.agedOut },
  { idx := 0x7100, sub := 0xF0, name := "SNAP_ENTRY_COUNT", ty := Ty.u16, acc := .ro, priv := 3,
    read := atSnap (rdN fun d _ => d.labelPositions.length) },
  { idx := 0x7100, sub := 0xF1, name := "SNAP_STALE_COUNT", ty := Ty.u16, acc := .ro, priv := 3,
    read := atSnap (rdN fun d _ => (d.labelPositions.filter (fun p => (d.labelEntry p).stale)).length) }]

def dict7200 : List ObjRow := [
  { idx := 0x7200, sub := 0x01, name := "LEARN_RECORD", ty := Ty.dom 24 24, acc := .ro, priv := 2, sel := some 1023,
    read := rdR fun d s => (tfind d.dec.learnRing s).getD (List.replicate 24 0) },
  { idx := 0x7200, sub := 0x02, name := "LEARN_WRITE_INDEX", ty := Ty.u16, acc := .ro, priv := 2,
    read := rdW fun d _ => d.dec.learnWrite },
  { idx := 0x7200, sub := 0x03, name := "LEARN_READ_INDEX", ty := Ty.u16, acc := .rw, priv := 2,
    read := rdW fun d _ => d.cfg.dec.learnRead,
    write := wrN fun _ v => learnReadIndexWrite (BitVec.ofNat 16 v) },
  { idx := 0x7200, sub := 0x04, name := "LEARN_DROPPED", ty := Ty.u32, acc := .ro, priv := 3,
    read := rdW fun d _ => d.dec.learnDropped },
  { idx := 0x7200, sub := 0xF0, name := "SNAP_LEARN_WRITE_INDEX", ty := Ty.u16, acc := .ro, priv := 3,
    read := atSnap (rdW fun d _ => d.dec.learnWrite) }]

end Sys2Proof.Machine
end

