-- ==== Sys2Proof/Machine/DictLoop.lean ====
section
/-! DEFINITION. The object dictionary: the Loop Engine, the element records and the trace (R129, R130, R155 to R157). -/

namespace Sys2Proof.Machine

/-- Records that anything was written to and that meet a condition. -/
def Dev.countRecords (d : Dev) (p : Rec → Bool) : Nat := (d.sram.recordsHeld.filter (fun e => p (d.record e))).length

/-- Elements in a mode: the effective one, which is HOLD on record hold (R110). -/
def Dev.countMode (d : Dev) (m : Nat) : Nat := (d.sram.recordsHeld.filter (fun e => d.modeNow e = m)).length

/-- The mode read on record hold rests on no poisoned word. -/
def poisonMode (d : Dev) (e o n : Nat) : Option Nat := if d.onHold e then none else poisonRec 0 d e o n

def dict5000 : List ObjRow := [
  { idx := 0x5000, sub := 0x01, name := "LOOP_CONTROL", ty := Ty.u8, acc := .rw, priv := 1,
    read := rdN fun d _ => d.cfg.loop.control,
    write := wrN fun _ v => loopControlWrite v },
  { idx := 0x5000, sub := 0x02, name := "LOOP_STATE", ty := Ty.u8, acc := .ro, priv := 3,
    read := rdN fun d _ => d.loop.state.code },
  { idx := 0x5000, sub := 0x03, name := "STOP_CAUSE", ty := Ty.u8, acc := .ro, priv := 3,
    read := rdN fun d _ => d.loop.stopCause },
  { idx := 0x5000, sub := 0x04, name := "LANE_FENCED", ty := Ty.u16, acc := .ro, priv := 3,
    read := rdW fun d _ => d.loop.fenced },
  { idx := 0x5000, sub := 0x05, name := "RESIDUE_COUNT", ty := Ty.u32, acc := .ro, priv := 3, sel := some 15,
    read := rdW fun d s => tget 0 d.loop.residue s },
  { idx := 0x5000, sub := 0x06, name := "LANE_UNFENCE", ty := Ty.u8, acc := .wo, priv := 1,
    write := wrN fun _ v => laneUnfence v },
  { idx := 0x5000, sub := 0x07, name := "UPDATES_LAST_CYCLE", ty := Ty.u32, acc := .ro, priv := 3,
    read := rdN fun d _ => d.loop.updatesLast },
  { idx := 0x5000, sub := 0x08, name := "SPARE_USED_LAST_CYCLE", ty := Ty.u32, acc := .ro, priv := 3,
    read := rdN fun d _ => d.loop.spareLast },
  { idx := 0x5000, sub := 0x09, name := "DISCARDED_COUNT", ty := Ty.u32, acc := .ro, priv := 3,
    read := rdW fun d _ => d.loop.discarded },
  { idx := 0x5000, sub := 0x0A, name := "STAGED_PENDING", ty := Ty.u16, acc := .ro, priv := 3,
    read := rdN fun d _ => d.loop.staged.length },
  { idx := 0x5000, sub := 0x0B, name := "RECORD_HOLD_COUNT", ty := Ty.u16, acc := .ro, priv := 3,
    read := rdN fun d _ => ((trueKeys d.loop.recordHold).filter d.onHold).length },
  { idx := 0x5000, sub := 0x0C, name := "CYCLE_CAPACITY", ty := Ty.u32, acc := .ro, priv := 3,
    read := rdN fun d _ => d.healthyLanes.length * d.period },
  { idx := 0x5000, sub := 0xF0, name := "SNAP_LOOP_STATE", ty := Ty.u8, acc := .ro, priv := 3,
    read := atSnap (rdN fun d _ => d.loop.state.code) },
  { idx := 0x5000, sub := 0xF1, name := "SNAP_LANE_FENCED", ty := Ty.u16, acc := .ro, priv := 3,
    read := atSnap (rdW fun d _ => d.loop.fenced) },
  { idx := 0x5000, sub := 0xF2, name := "SNAP_UPDATES", ty := Ty.u32, acc := .ro, priv := 3,
    read := atSnap (rdN fun d _ => d.loop.updatesLast) },
  { idx := 0x5000, sub := 0x10, name := "SETTLE_ENTRY", ty := Ty.u8, acc := .rw, priv := 1,
    read := rdN fun d _ => d.cfg.loop.settleEntry,
    write := wrN fun _ v => settleEntryWrite v },
  { idx := 0x5000, sub := 0x11, name := "SETTLED_NOW", ty := Ty.u16, acc := .ro, priv := 3,
    read := rdN fun d _ => d.countRecords (fun r => r.flag fSettled) },
  { idx := 0x5000, sub := 0x12, name := "DARK_NOW", ty := Ty.u16, acc := .ro, priv := 3,
    read := rdN fun d _ => d.countMode 3 },
  { idx := 0x5000, sub := 0x13, name := "FAULT_NOW", ty := Ty.u16, acc := .ro, priv := 3,
    read := rdN fun d _ => d.countMode 4 },
  { idx := 0x5000, sub := 0x14, name := "SOFT_START_NOW", ty := Ty.u16, acc := .ro, priv := 3,
    read := rdN fun d _ => (d.sram.recordsHeld.filter d.softStart).length },
  { idx := 0x5000, sub := 0xF3, name := "SNAP_DARK_NOW", ty := Ty.u16, acc := .ro, priv := 3,
    read := atSnap (rdN fun d _ => d.countMode 3) },
  { idx := 0x5000, sub := 0xF4, name := "SNAP_FAULT_NOW", ty := Ty.u16, acc := .ro, priv := 3,
    read := atSnap (rdN fun d _ => d.countMode 4) }]

def dict5100a : List ObjRow := [
  { idx := 0x5100, sub := 0x01, name := "RECORD", ty := Ty.dom 64 64, acc := .ro, priv := 2, sel := some 32767,
    read := rdR fun d s => d.sram.bytes (recAddr s) 64,
    poison := poisonAt recAddr },
  { idx := 0x5100, sub := 0x02, name := "KIND", ty := Ty.u8, acc := .ro, priv := 3, sel := some 32767,
    read := rdN fun d s => (d.record s).kind,
    poison := poisonRec 0 },
  { idx := 0x5100, sub := 0x03, name := "MODE", ty := Ty.u8, acc := .rw, priv := 1, sel := some 32767,
    read := rdN fun d s => d.modeNow s,
    write := wrN fun s v => anyFieldWrite s .mode v,
    poison := poisonMode },
  { idx := 0x5100, sub := 0x04, name := "LOOP_DELAY", ty := Ty.u8, acc := .ro, priv := 3, sel := some 32767,
    read := rdN fun d s => (d.record s).loopDelay,
    poison := poisonRec 0 },
  { idx := 0x5100, sub := 0x05, name := "TONE", ty := Ty.u8, acc := .rw, priv := 1, sel := some 32767,
    read := rdN fun d s => (d.record s).tone,
    write := wrN fun s v => anyFieldWrite s .tone v,
    poison := poisonRec 0 },
  { idx := 0x5100, sub := 0x06, name := "DITHER_EN", ty := Ty.bool, acc := .rw, priv := 1, sel := some 32767,
    read := rdB fun d s => (d.record s).dither,
    write := wrN fun s v => anyFieldWrite s .ditherEn v,
    poison := poisonRec 0 },
  { idx := 0x5100, sub := 0x07, name := "ZONE", ty := Ty.u8, acc := .ro, priv := 3, sel := some 32767,
    read := rdN fun d s => (d.record s).zone,
    poison := poisonRec 0 },
  { idx := 0x5100, sub := 0x08, name := "MON_A", ty := Ty.u16, acc := .ro, priv := 3, sel := some 32767,
    read := rdN fun d s => (d.record s).monA,
    poison := poisonRec 0 },
  { idx := 0x5100, sub := 0x09, name := "MON_B", ty := Ty.u16, acc := .ro, priv := 3, sel := some 32767,
    read := rdN fun d s => if (d.record s).monBEn then (d.record s).monB else 0xFFFF,
    poison := poisonRec 0 },
  { idx := 0x5100, sub := 0x0A, name := "WANT_B", ty := Ty.bool, acc := .ro, priv := 3, sel := some 32767,
    read := rdB fun d s => (d.record s).wantB,
    poison := poisonRec 0 },
  { idx := 0x5100, sub := 0x0B, name := "DRIVE_SITE", ty := Ty.u16, acc := .ro, priv := 3, sel := some 32767,
    read := rdN fun d s => (d.record s).drive,
    poison := poisonRec 0 },
  { idx := 0x5100, sub := 0x0C, name := "KP", ty := Ty.i16, acc := .rw, priv := 1, sel := some 32767,
    read := rdI fun d s => (d.record s).kp,
    write := wrI 16 fun s v => anyFieldWrite s .kp v,
    poison := poisonRec 1 },
  { idx := 0x5100, sub := 0x0D, name := "KI", ty := Ty.i16, acc := .rw, priv := 1, sel := some 32767,
    read := rdI fun d s => (d.record s).ki,
    write := wrI 16 fun s v => anyFieldWrite s .ki v,
    poison := poisonRec 1 },
  { idx := 0x5100, sub := 0x0E, name := "DEMOD_PHASE", ty := Ty.u8, acc := .rw, priv := 1, sel := some 32767,
    read := rdN fun d s => (d.record s).demodPhase,
    write := wrN fun s v => anyFieldWrite s .demodPhase v,
    poison := poisonRec 1 },
  { idx := 0x5100, sub := 0x0F, name := "DEMOD_LOG2", ty := Ty.u8, acc := .rw, priv := 1, sel := some 32767,
    read := rdN fun d s => (d.record s).demodLog2,
    write := wrN fun s v => anyFieldWrite s .demodLog2 v,
    poison := poisonRec 1 },
  { idx := 0x5100, sub := 0x10, name := "CODE_SLEW", ty := Ty.u16, acc := .rw, priv := 1, sel := some 32767,
    read := rdN fun d s => (d.record s).codeSlew,
    write := wrN fun s v => anyFieldWrite s .codeSlew v,
    poison := poisonRec 1 },
  { idx := 0x5100, sub := 0x11, name := "FE_TIMER", ty := Ty.u8, acc := .rw, priv := 1, sel := some 32767,
    read := rdN fun d s => (d.record s).feTimer,
    write := wrN fun s v => anyFieldWrite s .feTimer v,
    poison := poisonRec 1 },
  { idx := 0x5100, sub := 0x12, name := "PHI_MIN", ty := Ty.i32, acc := .rw, priv := 1, sel := some 32767,
    read := rdI fun d s => (d.record s).phiMin,
    write := wrI 32 fun s v => anyFieldWrite s .phiMin v,
    poison := poisonRec 2 },
  { idx := 0x5100, sub := 0x13, name := "PHI_MAX", ty := Ty.i32, acc := .rw, priv := 1, sel := some 32767,
    read := rdI fun d s => (d.record s).phiMax,
    write := wrI 32 fun s v => anyFieldWrite s .phiMax v,
    poison := poisonRec 2 },
  { idx := 0x5100, sub := 0x14, name := "FE_LIMIT", ty := Ty.u16, acc := .rw, priv := 1, sel := some 32767,
    read := rdN fun d s => (d.record s).feLimit,
    write := wrN fun s v => anyFieldWrite s .feLimit v,
    poison := poisonRec 2 },
  { idx := 0x5100, sub := 0x15, name := "PHI_FF", ty := Ty.i32, acc := .ro, priv := 3, sel := some 32767,
    read := rdI fun d s => (d.record s).phiFF,
    poison := poisonRec 3 },
  { idx := 0x5100, sub := 0x16, name := "SP_TARGET", ty := Ty.u32, acc := .rw, priv := 1, sel := some 32767,
    read := rdN fun d s => (d.record s).spTarget,
    write := wrN fun s v => anyFieldWrite s .spTarget v,
    poison := poisonRec 3 },
  { idx := 0x5100, sub := 0x17, name := "SP_WORK", ty := Ty.u32, acc := .ro, priv := 3, sel := some 32767,
    read := rdN fun d s => (d.record s).spWork,
    poison := poisonRec 3 },
  { idx := 0x5100, sub := 0x18, name := "SP_RATE", ty := Ty.u16, acc := .rw, priv := 1, sel := some 32767,
    read := rdN fun d s => (d.record s).spRate,
    write := wrN fun s v => anyFieldWrite s .spRate v,
    poison := poisonRec 4 }]

def dict5100b : List ObjRow := [
  { idx := 0x5100, sub := 0x19, name := "DARK_TH", ty := Ty.u32, acc := .rw, priv := 1, sel := some 32767,
    read := rdN fun d s => (d.record s).darkTh,
    write := wrN fun s v => anyFieldWrite s .darkTh v,
    poison := poisonRec 4 },
  { idx := 0x5100, sub := 0x1A, name := "MANUAL_CODE", ty := Ty.u16, acc := .rw, priv := 1, sel := some 32767,
    read := rdN fun d s => (d.record s).manualCode,
    write := wrN fun s v => anyFieldWrite s .manualCode v,
    poison := poisonRec 4 },
  { idx := 0x5100, sub := 0x1B, name := "CODE_ND", ty := Ty.u16, acc := .ro, priv := 3, sel := some 32767,
    read := rdN fun d s => (d.record s).codeND,
    poison := poisonRec 4 },
  { idx := 0x5100, sub := 0x1C, name := "INTEG", ty := Ty.i32, acc := .ro, priv := 3, sel := some 32767,
    read := rdI fun d s => (d.record s).integ,
    poison := poisonRec 5 },
  { idx := 0x5100, sub := 0x1D, name := "DEMOD_ACC", ty := Ty.i32, acc := .ro, priv := 3, sel := some 32767,
    read := rdI fun d s => (d.record s).demodAcc,
    poison := poisonRec 5 },
  { idx := 0x5100, sub := 0x1E, name := "PHI_OUT", ty := Ty.i32, acc := .ro, priv := 3, sel := some 32767,
    read := rdI fun d s => (d.record s).phiOut,
    poison := poisonRec 6 },
  { idx := 0x5100, sub := 0x1F, name := "CODE_OUT", ty := Ty.u16, acc := .ro, priv := 3, sel := some 32767,
    read := rdN fun d s => (d.record s).codeOut,
    poison := poisonRec 6 },
  { idx := 0x5100, sub := 0x20, name := "E_LAST", ty := Ty.i32, acc := .ro, priv := 3, sel := some 32767,
    read := rdI fun d s => (d.record s).eLast,
    poison := poisonRec 7 },
  { idx := 0x5100, sub := 0x21, name := "FE_COUNT", ty := Ty.u8, acc := .ro, priv := 3, sel := some 32767,
    read := rdN fun d s => (d.record s).feCount,
    poison := poisonRec 7 },
  { idx := 0x5100, sub := 0x22, name := "SETTLE_COUNT", ty := Ty.u8, acc := .ro, priv := 3, sel := some 32767,
    read := rdN fun d s => (d.record s).settle,
    poison := poisonRec 7 },
  { idx := 0x5100, sub := 0x23, name := "FLAGS", ty := Ty.u16, acc := .ro, priv := 3, sel := some 32767,
    read := rdN fun d s => (d.record s).flags,
    poison := poisonRec 7 },
  { idx := 0x5100, sub := 0x24, name := "MEAS", ty := Ty.i32, acc := .ro, priv := 3, sel := some 32767,
    read := rdI fun d s => (d.record s).measNow,
    poison := poisonRec 7 },
  { idx := 0x5100, sub := 0x25, name := "RECORD_HOLD", ty := Ty.bool, acc := .ro, priv := 3, sel := some 32767,
    read := rdB fun d s => d.onHold s },
  { idx := 0x5100, sub := 0xF0, name := "SNAP_CODE_OUT", ty := Ty.u16, acc := .ro, priv := 3, sel := some 32767,
    read := atSnap (rdN fun d s => (d.record s).codeOut),
    poison := atSnap (poisonRec 6) },
  { idx := 0x5100, sub := 0xF1, name := "SNAP_INTEG", ty := Ty.i32, acc := .ro, priv := 3, sel := some 32767,
    read := atSnap (rdI fun d s => (d.record s).integ),
    poison := atSnap (poisonRec 5) },
  { idx := 0x5100, sub := 0xF2, name := "SNAP_MEAS", ty := Ty.i32, acc := .ro, priv := 3, sel := some 32767,
    read := atSnap (rdI fun d s => (d.record s).measNow),
    poison := atSnap (poisonRec 7) },
  { idx := 0x5100, sub := 0xF3, name := "SNAP_FLAGS", ty := Ty.u16, acc := .ro, priv := 3, sel := some 32767,
    read := atSnap (rdN fun d s => (d.record s).flags),
    poison := atSnap (poisonRec 7) },
  { idx := 0x5100, sub := 0x26, name := "SP_RATE_LIMIT", ty := Ty.u16, acc := .rw, priv := 1, sel := some 32767,
    read := rdN fun d s => d.spRateLimit s,
    write := wrN fun s v => anyFieldWrite s .spRateLimit v,
    poison := poisonOf 4 elemAddr },
  { idx := 0x5100, sub := 0x27, name := "FAULT_CAUSE", ty := Ty.u8, acc := .ro, priv := 3, sel := some 32767,
    read := rdN fun d s => d.faultCause s,
    poison := poisonOf 4 elemAddr },
  { idx := 0x5100, sub := 0x28, name := "SOFT_START", ty := Ty.bool, acc := .ro, priv := 3, sel := some 32767,
    read := rdB fun d s => d.softStart s,
    poison := poisonOf 4 elemAddr },
  { idx := 0x5100, sub := 0x29, name := "JUMP_PENDING", ty := Ty.bool, acc := .ro, priv := 3, sel := some 32767,
    read := rdB fun d s => d.jumpPending s,
    poison := poisonOf 4 elemAddr },
  { idx := 0x5100, sub := 0xF4, name := "SNAP_MODE", ty := Ty.u8, acc := .ro, priv := 3, sel := some 32767,
    read := atSnap (rdN fun d s => d.modeNow s),
    poison := atSnap poisonMode }]

def dict5200 : List ObjRow := [
  { idx := 0x5200, sub := 0x01, name := "TRACE_ELEMENTS", ty := Ty.dom 512 512, acc := .rwi (fun d _ => d.traceIdle), priv := 1,
    read := rdR fun d _ => d.cfg.trace.elements,
    write := wrR fun _ b => traceElementsWrite b },
  { idx := 0x5200, sub := 0x02, name := "TRACE_NODES", ty := Ty.u64, acc := .rwi (fun d _ => d.traceIdle), priv := 1,
    read := rdW fun d _ => d.cfg.trace.nodes,
    write := wrN fun _ v => traceNodesWrite v },
  { idx := 0x5200, sub := 0x03, name := "TRACE_MODE", ty := Ty.u8, acc := .rwi (fun d _ => d.traceIdle), priv := 1,
    read := rdN fun d _ => d.cfg.trace.mode,
    write := wrN fun _ v => traceModeWrite v },
  { idx := 0x5200, sub := 0x04, name := "TRACE_POST", ty := Ty.u16, acc := .rwi (fun d _ => d.traceIdle), priv := 1,
    read := rdN fun d _ => d.cfg.trace.post,
    write := wrN fun _ v => tracePostWrite v },
  { idx := 0x5200, sub := 0x05, name := "TRACE_DECIMATE", ty := Ty.u16, acc := .rwi (fun d _ => d.traceIdle), priv := 1,
    read := rdN fun d _ => d.cfg.trace.decimate,
    write := wrN fun _ v => traceDecimateWrite v },
  { idx := 0x5200, sub := 0x06, name := "TRACE_TRIGGER", ty := Ty.u8, acc := .rwi (fun d _ => d.traceIdle), priv := 1,
    read := rdW fun d _ => d.cfg.trace.trigger,
    write := wrN fun _ v => traceTriggerWrite v },
  { idx := 0x5200, sub := 0x07, name := "TRACE_CONTROL", ty := Ty.u8, acc := .wo, priv := 1,
    write := wrN fun _ v => traceControlWrite v },
  { idx := 0x5200, sub := 0x08, name := "TRACE_STATE", ty := Ty.u8, acc := .ro, priv := 2,
    read := rdN fun d _ => d.trace.state.code },
  { idx := 0x5200, sub := 0x09, name := "TRACE_DEPTH", ty := Ty.u16, acc := .ro, priv := 2,
    read := rdN fun d _ => d.trace.depth },
  { idx := 0x5200, sub := 0x0A, name := "TRACE_HEADER", ty := Ty.dom 40 40, acc := .ro, priv := 2,
    read := rdR fun d _ => d.traceHeader },
  { idx := 0x5200, sub := 0x0B, name := "TRACE_BLOCK", ty := Ty.dom 1024 1024, acc := .ro, priv := 2, sel := some 1023,
    read := rdR fun d s => d.sram.bytes (traceAddr (1024 * s)) 1024,
    poison := poisonAt (fun j => traceAddr (1024 * j)) },
  { idx := 0x5200, sub := 0xF0, name := "SNAP_TRACE_STATE", ty := Ty.u8, acc := .ro, priv := 3,
    read := atSnap (rdN fun d _ => d.trace.state.code) }]

end Sys2Proof.Machine
end

