-- ==== Sys2Proof/Machine/Repair.lean ====
section
/-! DEFINITION. Spare rows, soft mappings and field fuses (R387 to R389). -/

namespace Sys2Proof.Machine

/-- A field fuse entry (R389). -/
def fuseWord (mac row spare : Nat) : BitVec 32 :=
  1#1 ++ BitVec.ofNat 8 mac ++ BitVec.ofNat 10 row ++ BitVec.ofNat 2 spare ++ 0#11

def fuseValid (w : BitVec 32) : Bool := bit w.toNat 31
def fuseMacro (w : BitVec 32) : Nat := bitsOf w.toNat 23 8
def fuseSpare (w : BitVec 32) : Nat := bitsOf w.toNat 11 2

def Dev.fuse (d : Dev) (k : Nat) : BitVec 32 := tget 0 d.memory.fuses k

/-- A spare of a macro is taken: by the factory, by a field entry, or by a soft mapping. -/
def Dev.spareTaken (d : Dev) (mac spare : Nat) : Bool :=
  (Config.factorySpares mac).contains spare
    || d.memory.softMap.any (fun e => e.1 = mac && e.2.2 = spare)
    || d.memory.fuses.any (fun e => fuseValid e.2 && fuseMacro e.2 = mac && fuseSpare e.2 = spare)

def Dev.freeSpare (d : Dev) (mac : Nat) : Option Nat := firstWhere (fun k => !d.spareTaken mac k) 4 0

/-- SPARES_FREE of a macro (R390). -/
def Dev.sparesFree (d : Dev) (mac : Nat) : Nat := iter (fun k n => if d.spareTaken mac k then n else n + 1) 4 0 0

/-- The lowest field entry that is neither blown nor promised to a repair under way. -/
def Dev.freeFuse (d : Dev) : Option Nat :=
  firstWhere (fun k => !fuseValid (d.fuse k) && !d.memory.repairs.any (fun r => r.entry = k)) 64 0

def Dev.fusesFree (d : Dev) : Nat := iter (fun k n => if fuseValid (d.fuse k) then n else n + 1) 64 0 0

/-- A rail is outside its limits, or a die sensor reads above the warning level: repairs wait (R388). -/
def Dev.repairBarred (d : Dev) : Bool :=
  d.therm.railState ≠ [] || d.therm.sensorState ≠ [] || d.therm.dieTemp.any (fun e => 10000 < e.2)

/-- Steps 1 and 2 of a repair (R388): the row is copied and mapped; its words keep their addresses, data and poison. -/
def repairMap (mac row : Nat) (d : Dev) : Bool × Dev :=
  match d.freeSpare mac, d.freeFuse with
  | some sp, some k =>
    (true, Dev.raise { d with memory := { d.memory with
      softMap := d.memory.softMap ++ [(mac, row, sp)]
      repairs := d.memory.repairs ++ [{ mac := mac, row := row, spare := sp, entry := k }]
      hardRows := d.memory.hardRows.map (fun e => if e.1 = mac && e.2.1 = row then (e.1, e.2.1, e.2.2.1, false) else e) } }
      .repairMapped)
  | _, _ => (false, d.raise .repairExhausted)

/-- REPAIR_ROW (R388): a host's request. -/
def repairRow (mac row : Nat) (d : Dev) : Resp × Dev :=
  if 151 < mac ∨ 1023 < row then (.invalid, d)
  else if d.repairBarred then (.conflict, d)
  else
    let p := repairMap mac row d
    (if p.1 then .ok else .busy, p.2)

def execRepairRow (mac : BitVec 8) (row : BitVec 16) (s : State) : Host.Outcome State Fault Refusal :=
  s.ask (repairRow mac.toNat row.toNat)

/-- REPAIR_AUTO (R387, R388): a candidate row is repaired, or waits while repairs are barred. -/
def repairAuto (mac row : Nat) (d : Dev) : Dev :=
  if d.cfg.mem.repairAuto && rowCandidate mac row d.memory.hardRows && !d.repairBarred then (repairMap mac row d).2 else d

def execRepairAuto (mac : Fin 152) (row : Fin 1024) (s : State) : Host.Outcome State Fault Refusal :=
  s.upd (repairAuto mac row)

/-- REPAIR_FUSE_DONE (R388): the entry of the oldest repair under way is programmed and read back. -/
def repairFuseDone (d : Dev) : Dev :=
  match d.memory.repairs with
  | [] => d
  | r :: l => ({ d with memory := { d.memory with
      repairs := l, fuses := tset 0 d.memory.fuses r.entry (fuseWord r.mac r.row r.spare) } }).raise .repairDone

def execRepairFuseDone (s : State) : Host.Outcome State Fault Refusal := s.upd repairFuseDone

end Sys2Proof.Machine
end

