-- ==== Sys2Proof/Machine/DictMemory.lean ====
section
/-! DEFINITION. The object dictionary: the memory and the Tower (R370, R390). -/

namespace Sys2Proof.Machine

def LastError.bytes (e : LastError) : List Byte :=
  be 4 e.addr ++ be 1 e.kind ++ be 1 e.finder ++ be 1 e.syndrome ++ [0] ++ be 8 e.cycle

/-- SCRUB_SUMMARY (R384). -/
def ScrubSummary.bytes (b : ScrubSummary) : List Byte :=
  be 4 b.start ++ be 4 b.stop ++ be 4 b.read ++ be 4 b.corrected ++ be 4 b.uncorrectable ++ be 4 b.poisonSeen
    ++ be 4 b.firstFail ++ be 4 b.lastFail ++ be 1 b.status ++ [0] ++ b.finish.bytes ++ be 4 0

/-- Words whose poison bit is set, in either code of the window (R373, R377). -/
def Mem.poisonedWords (m : Mem) : Nat :=
  ((trueKeys m.poison ++ (trueKeys m.bytePoison).map wordOf).eraseDups).length

/-- HARD_ROW (R390). -/
def hardRowBytes (r : Option (Nat × Nat × Nat × Bool)) : List Byte :=
  match r with
  | some x => be 1 x.1 ++ [0] ++ be 2 x.2.1 ++ be 1 x.2.2.1 ++ be 1 (ofBool x.2.2.2) ++ [0, 0]
  | none => List.replicate 8 0

/-- RESIDENT_IMAGE (R370). -/
def imageBytes (i : Option Image) : List Byte :=
  match i with
  | some x => be 8 x.cycle ++ be 4 x.gen.toNat ++ be 2 x.chunks ++ [0, 0]
  | none => List.replicate 16 0

def dict8000a : List ObjRow := [
  { idx := 0x8000, sub := 0x01, name := "REGION_INFO", ty := Ty.dom 8 8, acc := .ro, priv := 3, sel := some 8,
    read := rdR fun _ s => be 4 (regionBase s) ++ be 4 (regionSize s) },
  { idx := 0x8000, sub := 0x02, name := "CE_COUNT", ty := Ty.u32, acc := .ro, priv := 3, sel := some 8,
    read := rdW fun d s => tget 0 d.memory.ce s },
  { idx := 0x8000, sub := 0x03, name := "UE_COUNT", ty := Ty.u32, acc := .ro, priv := 3, sel := some 8,
    read := rdW fun d s => tget 0 d.memory.ue s },
  { idx := 0x8000, sub := 0x04, name := "CE_BUCKET", ty := Ty.u16, acc := .ro, priv := 3, sel := some 8,
    read := rdN fun d s => tget 0 d.memory.bucket s },
  { idx := 0x8000, sub := 0x05, name := "CE_THRESHOLD", ty := Ty.u16, acc := .rw, priv := 1, sel := some 8,
    read := rdN fun d s => d.ceThreshold s,
    write := wrN fun s v => ceThresholdWrite s v },
  { idx := 0x8000, sub := 0x06, name := "CE_LEAK_INTERVAL", ty := Ty.u16, acc := .rw, priv := 1,
    read := rdN fun d _ => d.cfg.mem.ceLeakInterval,
    write := wrN fun _ v => ceLeakIntervalWrite v },
  { idx := 0x8000, sub := 0x07, name := "LAST_ERROR", ty := Ty.dom 16 16, acc := .ro, priv := 2,
    read := rdR fun d _ => d.memory.lastError.bytes },
  { idx := 0x8000, sub := 0x08, name := "POISONED_WORDS", ty := Ty.u32, acc := .ro, priv := 3,
    read := rdN fun d _ => d.sram.poisonedWords },
  { idx := 0x8000, sub := 0x09, name := "REBUILD_COUNT", ty := Ty.u32, acc := .ro, priv := 3,
    read := rdW fun d _ => d.memory.rebuilds },
  { idx := 0x8000, sub := 0x10, name := "SCRUB_RANGE", ty := Ty.dom 8 8, acc := .rwi (fun d _ => d.memory.scrubState = .stopped), priv := 1,
    read := rdR fun d _ => be 4 d.cfg.mem.scrubStart ++ be 4 d.cfg.mem.scrubEnd,
    write := wrR fun _ b => scrubRangeWrite b },
  { idx := 0x8000, sub := 0x11, name := "SCRUB_RATE", ty := Ty.u16, acc := .rwi (fun d _ => d.memory.scrubState = .stopped), priv := 1,
    read := rdN fun d _ => d.cfg.mem.scrubRate,
    write := wrN fun _ v => scrubRateWrite v },
  { idx := 0x8000, sub := 0x12, name := "SCRUB_CONTROL", ty := Ty.u8, acc := .rw, priv := 1,
    read := rdN fun d _ => d.cfg.mem.scrubControl,
    write := wrN fun _ v => scrubControlWrite v },
  { idx := 0x8000, sub := 0x13, name := "SCRUB_STATE", ty := Ty.u8, acc := .ro, priv := 3,
    read := rdN fun d _ => d.memory.scrubState.code },
  { idx := 0x8000, sub := 0x14, name := "SCRUB_SUMMARY", ty := Ty.dom 48 48, acc := .ro, priv := 2,
    read := rdR fun d _ => d.memory.scrub.bytes },
  { idx := 0x8000, sub := 0x15, name := "SCRUB_AUTO", ty := Ty.bool, acc := .rw, priv := 1,
    read := rdB fun d _ => d.cfg.mem.scrubAuto,
    write := wrB fun _ v => scrubAutoWrite v },
  { idx := 0x8000, sub := 0x20, name := "WINDOW_MODE", ty := Ty.u8, acc := .rwi (fun d _ => !d.compatRunning), priv := 1,
    read := rdN fun d _ => d.cfg.mem.windowMode,
    write := wrN fun _ v => windowModeWrite v },
  { idx := 0x8000, sub := 0x21, name := "WINDOW_BLOCK", ty := Ty.dom 1024 1024, acc := .rw, priv := 1, sel := some 255,
    read := rdR fun d s => d.sram.bytes (windowAddr (1024 * s)) 1024,
    write := wrR fun s b => windowBlockWrite s b,
    poison := poisonAt (fun j => windowAddr (1024 * j)) },
  { idx := 0x8000, sub := 0x22, name := "COMPAT_LOAD", ty := Ty.u8, acc := .wo, priv := 1,
    write := wrN fun _ v => compatLoad v },
  { idx := 0x8000, sub := 0x23, name := "COMPAT_STATUS", ty := Ty.dom 4 4, acc := .ro, priv := 2,
    read := rdR fun d _ => be 1 d.memory.compat.1 ++ be 1 d.memory.compat.2.1 ++ be 2 d.memory.compat.2.2 },
  { idx := 0x8000, sub := 0x30, name := "REPAIR_AUTO", ty := Ty.bool, acc := .rw, priv := 0,
    read := rdB fun d _ => d.cfg.mem.repairAuto,
    write := wrB fun _ v => repairAutoWrite v },
  { idx := 0x8000, sub := 0x31, name := "REPAIR_THRESHOLD", ty := Ty.u8, acc := .rw, priv := 1,
    read := rdN fun d _ => d.cfg.mem.repairThreshold,
    write := wrN fun _ v => repairThresholdWrite v },
  { idx := 0x8000, sub := 0x32, name := "REPAIR_ROW", ty := Ty.dom 4 4, acc := .wo, priv := 0,
    write := wrR fun _ b => repairRow (field b 0 1) (field b 2 2) },
  { idx := 0x8000, sub := 0x33, name := "SPARES_FREE", ty := Ty.u8, acc := .ro, priv := 3, sel := some 151,
    read := rdN fun d s => d.sparesFree s },
  { idx := 0x8000, sub := 0x34, name := "FIELD_FUSE", ty := Ty.u32, acc := .ro, priv := 3, sel := some 63,
    read := rdW fun d s => d.fuse s }]

def dict8000b : List ObjRow := [
  { idx := 0x8000, sub := 0x35, name := "FIELD_FUSES_FREE", ty := Ty.u8, acc := .ro, priv := 3,
    read := rdN fun d _ => d.fusesFree },
  { idx := 0x8000, sub := 0x36, name := "HARD_ROW", ty := Ty.dom 8 8, acc := .ro, priv := 2, sel := some 63,
    read := rdR fun d s => hardRowBytes (d.memory.hardRows[s]?) },
  { idx := 0x8000, sub := 0xF0, name := "SNAP_CE_COUNT", ty := Ty.u32, acc := .ro, priv := 3, sel := some 8,
    read := atSnap (rdW fun d s => tget 0 d.memory.ce s) },
  { idx := 0x8000, sub := 0xF1, name := "SNAP_UE_COUNT", ty := Ty.u32, acc := .ro, priv := 3, sel := some 8,
    read := atSnap (rdW fun d s => tget 0 d.memory.ue s) },
  { idx := 0x8000, sub := 0xF2, name := "SNAP_POISONED_WORDS", ty := Ty.u32, acc := .ro, priv := 3,
    read := atSnap (rdN fun d _ => d.sram.poisonedWords) }]

def dict9000a : List ObjRow := [
  { idx := 0x9000, sub := 0x01, name := "TOWER_DUTY", ty := Ty.u8, acc := .rw, priv := 1,
    read := rdN fun d _ => d.cfg.tow.duty,
    write := wrN fun _ v => towerDutyWrite v },
  { idx := 0x9000, sub := 0x02, name := "DUTY_STATE", ty := Ty.u8, acc := .ro, priv := 3,
    read := rdN fun d _ => d.tow.dutyState.code },
  { idx := 0x9000, sub := 0x03, name := "CLAIM_RANK", ty := Ty.u8, acc := .rw, priv := 1,
    read := rdN fun d _ => d.cfg.tow.rank,
    write := wrN fun _ v => claimRankWrite v },
  { idx := 0x9000, sub := 0x04, name := "CLAIM_NUMBER", ty := Ty.u16, acc := .ro, priv := 3,
    read := rdW fun d _ => d.tow.claim },
  { idx := 0x9000, sub := 0x05, name := "CLAIM_RESULT", ty := Ty.dom 8 8, acc := .ro, priv := 3,
    read := rdR fun d _ => d.tow.shown },
  { idx := 0x9000, sub := 0x06, name := "TOWER_ROLE", ty := Ty.u8, acc := .ro, priv := 3,
    read := rdN fun d _ => d.tow.role },
  { idx := 0x9000, sub := 0x07, name := "HEALTH_CAUSES", ty := Ty.u32, acc := .ro, priv := 3,
    read := rdN fun d _ => d.healthCauses },
  { idx := 0x9000, sub := 0x08, name := "CLAIM_LINE_STATE", ty := Ty.u8, acc := .ro, priv := 3,
    read := rdN fun d _ => d.tow.lineA + 4 * d.tow.lineB },
  { idx := 0x9000, sub := 0x09, name := "CLAIM_LINE_MASK", ty := Ty.u8, acc := .rw, priv := 1,
    read := rdW fun d _ => d.cfg.tow.mask,
    write := wrN fun _ v => claimLineMaskWrite (BitVec.ofNat 8 v) },
  { idx := 0x9000, sub := 0x0A, name := "CLAIM_LINE_CLEAR", ty := Ty.u8, acc := .wo, priv := 1,
    write := wrN fun _ v => claimLineClear v },
  { idx := 0x9000, sub := 0x0B, name := "YIELD", ty := Ty.u8, acc := .wo, priv := 1,
    write := wrN fun _ v => yieldWrite v },
  { idx := 0x9000, sub := 0x0C, name := "YIELD_STATE", ty := Ty.u8, acc := .ro, priv := 3,
    read := rdN fun d _ => d.tow.yieldState },
  { idx := 0x9000, sub := 0x10, name := "CHECKPOINT_INTERVAL", ty := Ty.u16, acc := .rwi (fun d _ => d.tow.role ≠ 0), priv := 1,
    read := rdN fun d _ => d.cfg.tow.interval,
    write := wrN fun _ v => intervalWrite v },
  { idx := 0x9000, sub := 0x11, name := "CHECKPOINT_ENABLE", ty := Ty.bool, acc := .rw, priv := 1,
    read := rdB fun d _ => d.cfg.tow.enable,
    write := wrB fun _ v => checkpointEnableWrite v },
  { idx := 0x9000, sub := 0x12, name := "FRESH_LIMIT", ty := Ty.u16, acc := .rw, priv := 1,
    read := rdN fun d _ => d.cfg.tow.freshLimit,
    write := wrN fun _ v => freshLimitWrite v },
  { idx := 0x9000, sub := 0x13, name := "READINESS", ty := Ty.u8, acc := .ro, priv := 3,
    read := rdN fun d _ => d.tow.readiness },
  { idx := 0x9000, sub := 0x14, name := "RESIDENT_IMAGE", ty := Ty.dom 16 16, acc := .ro, priv := 3,
    read := rdR fun d _ => imageBytes d.tow.resident },
  { idx := 0x9000, sub := 0x15, name := "CHECKPOINT_COUNTERS", ty := Ty.dom 32 32, acc := .ro, priv := 3,
    read := rdR fun d _ => countersBytes 4 d.tow.counters },
  { idx := 0x9000, sub := 0x16, name := "MATE_REPORT", ty := Ty.dom 32 32, acc := .ro, priv := 3,
    read := rdR fun d _ => d.tow.mateReport },
  { idx := 0x9000, sub := 0x17, name := "SELFTEST_STATUS", ty := Ty.u32, acc := .ro, priv := 3,
    read := rdW fun d _ => d.tow.selftest },
  { idx := 0x9000, sub := 0x18, name := "TAKEOVER_COUNT", ty := Ty.u32, acc := .ro, priv := 3,
    read := rdW fun d _ => d.tow.takeovers },
  { idx := 0x9000, sub := 0x19, name := "LAST_TAKEOVER", ty := Ty.dom 16 16, acc := .ro, priv := 3,
    read := rdR fun d _ => d.tow.lastTakeover },
  { idx := 0x9000, sub := 0xF0, name := "SNAP_TOWER_ROLE", ty := Ty.u8, acc := .ro, priv := 3,
    read := atSnap (rdN fun d _ => d.tow.role) },
  { idx := 0x9000, sub := 0xF1, name := "SNAP_CLAIM_RESULT", ty := Ty.dom 8 8, acc := .ro, priv := 3,
    read := atSnap (rdR fun d _ => d.tow.shown) }]

def dict9000b : List ObjRow := [
  { idx := 0x9000, sub := 0xF2, name := "SNAP_READINESS", ty := Ty.u8, acc := .ro, priv := 3,
    read := atSnap (rdN fun d _ => d.tow.readiness) }]

end Sys2Proof.Machine
end

