-- ==== Sys2Proof/Machine/DictSpire.lean ====
section
/-! DEFINITION. The object dictionary: links, addressing and traffic (R276, R277, R291). -/

namespace Sys2Proof.Machine

def routeBytes (r : Option Route) : List Byte :=
  match r with
  | some x => be 2 x.low ++ be 2 x.high ++ be 1 x.lane ++ be 1 (ofBool x.planeB) ++ be 1 (ofBool x.hello) ++ be 1 1
  | none => List.replicate 8 0

/-- Sixteen histogram bins as U32. -/
def binsFrom (k : Nat) (t : Tab Nat) : List Byte := (List.range 16).flatMap (fun i => be 4 (tget 0 t (k + i)))

def MeterProfile.bytes (p : MeterProfile) : List Byte := be 4 p.cir ++ be 4 p.cbs ++ be 4 p.pir ++ be 4 p.pbs

def dict3000 : List ObjRow := [
  { idx := 0x3000, sub := 0x01, name := "LANE_ENABLE", ty := Ty.bool, acc := .rw, priv := 1, sel := some 95,
    read := rdB fun d s => d.laneEnabled s,
    write := wrB fun s v => fun d => if v then laneEnable s d else laneDisable s d },
  { idx := 0x3000, sub := 0x02, name := "LANE_STATE", ty := Ty.u8, acc := .ro, priv := 3, sel := some 95,
    read := rdN fun d s => (d.lane s).state.ctorIdx },
  { idx := 0x3000, sub := 0x03, name := "LANE_RATE", ty := Ty.u8, acc := .rwi (fun d l => (d.lane l).state = .disabled), priv := 1, sel := some 95,
    read := rdN fun d s => d.laneRate s,
    write := wrN fun s v => laneRateWrite s v },
  { idx := 0x3000, sub := 0x04, name := "LANE_FEC", ty := Ty.bool, acc := .rwi (fun d l => (d.lane l).state = .disabled), priv := 1, sel := some 95,
    read := rdB fun d s => d.laneFec s,
    write := wrB fun s v => laneFecWrite s v },
  { idx := 0x3000, sub := 0x05, name := "LANE_DUTY", ty := Ty.u8, acc := .ro, priv := 3, sel := some 95,
    read := rdN fun d s => d.laneDuty s },
  { idx := 0x3000, sub := 0x06, name := "PEER", ty := Ty.dom 24 24, acc := .ro, priv := 3, sel := some 95,
    read := rdR fun d s => (d.lane s).peer },
  { idx := 0x3000, sub := 0x07, name := "LANE_COUNTERS", ty := Ty.dom 64 64, acc := .ro, priv := 3, sel := some 95,
    read := rdR fun d s => countersBytes 8 (d.lane s).counters },
  { idx := 0x3000, sub := 0x08, name := "FEC_COUNTERS", ty := Ty.dom 16 16, acc := .ro, priv := 3, sel := some 95,
    read := rdR fun d s => countersBytes 2 (d.lane s).fec },
  { idx := 0x3000, sub := 0x09, name := "ETHERTYPE", ty := Ty.u16, acc := .rwi (fun d _ => (List.range 96).all (fun l => (d.lane l).state = .disabled)), priv := 1,
    read := rdN fun d _ => d.cfg.net.etherType,
    write := wrN fun _ v => etherTypeWrite v },
  { idx := 0x3000, sub := 0x0A, name := "HELLO_PERIOD", ty := Ty.u16, acc := .rw, priv := 1,
    read := rdN fun d _ => d.cfg.net.helloPeriod,
    write := wrN fun _ v => helloPeriodWrite v },
  { idx := 0x3000, sub := 0x0B, name := "WIRING_FAULTS", ty := Ty.u16, acc := .ro, priv := 3,
    read := rdN fun d _ => d.wiringFaults },
  { idx := 0x3000, sub := 0xF0, name := "SNAP_LANE_STATE", ty := Ty.u8, acc := .ro, priv := 3, sel := some 95,
    read := atSnap (rdN fun d s => (d.lane s).state.ctorIdx) },
  { idx := 0x3000, sub := 0xF1, name := "SNAP_LANE_COUNTERS", ty := Ty.dom 64 64, acc := .ro, priv := 3, sel := some 95,
    read := atSnap (rdR fun d s => countersBytes 8 (d.lane s).counters) }]

def dict3100 : List ObjRow := [
  { idx := 0x3100, sub := 0x01, name := "ADDRESS", ty := Ty.u16, acc := .ro, priv := 3,
    read := rdN fun d _ => d.net.address },
  { idx := 0x3100, sub := 0x02, name := "ROLE", ty := Ty.u8, acc := .ro, priv := 3,
    read := rdN fun d _ => d.net.role.ctorIdx },
  { idx := 0x3100, sub := 0x03, name := "DEPTH", ty := Ty.u8, acc := .ro, priv := 3,
    read := rdN fun d _ => d.net.depth },
  { idx := 0x3100, sub := 0x04, name := "BLOCK_HIGH", ty := Ty.u16, acc := .ro, priv := 3,
    read := rdN fun d _ => d.net.blockHigh },
  { idx := 0x3100, sub := 0x05, name := "DOMAIN_BASE", ty := Ty.u16, acc := .rw, priv := 1,
    read := rdN fun d _ => d.cfg.net.domainBase,
    write := wrN fun _ v => domainBaseWrite v },
  { idx := 0x3100, sub := 0x06, name := "DOMAIN_SIZE", ty := Ty.u16, acc := .rw, priv := 1,
    read := rdN fun d _ => d.cfg.net.domainSize,
    write := wrN fun _ v => domainSizeWrite v },
  { idx := 0x3100, sub := 0x07, name := "HOST_BLOCK", ty := Ty.dom 4 4, acc := .rw, priv := 1,
    read := rdR fun d _ => be 2 d.cfg.net.hostLow ++ be 2 d.cfg.net.hostHigh,
    write := wrR fun _ b => hostBlockWrite b },
  { idx := 0x3100, sub := 0x08, name := "SPARE_ADDRESSES", ty := Ty.u16, acc := .rw, priv := 1,
    read := rdN fun d _ => d.cfg.net.spareAddresses,
    write := wrN fun _ v => spareAddressesWrite v },
  { idx := 0x3100, sub := 0x09, name := "ENUM_START", ty := Ty.u8, acc := .wo, priv := 1,
    write := wrN fun _ v => enumStart v },
  { idx := 0x3100, sub := 0x0A, name := "ENUM_STATE", ty := Ty.u8, acc := .ro, priv := 3,
    read := rdN fun d _ => d.net.enumState.ctorIdx },
  { idx := 0x3100, sub := 0x0B, name := "ENUM_GEN", ty := Ty.u32, acc := .ro, priv := 3,
    read := rdW fun d _ => d.net.enumGen },
  { idx := 0x3100, sub := 0x0C, name := "ENUM_RESULT", ty := Ty.dom 8 8, acc := .ro, priv := 2,
    read := rdR fun d _ => be 2 d.net.enumTotal ++ be 1 d.net.enumStatus ++ be 1 d.net.enumExcluded ++ be 4 0 },
  { idx := 0x3100, sub := 0x0D, name := "ROUTE_ENTRY", ty := Ty.dom 8 8, acc := .ro, priv := 2, sel := some 511,
    read := rdR fun d s => routeBytes (tget none d.net.routes s) },
  { idx := 0x3100, sub := 0x0E, name := "ROUTE_COUNT", ty := Ty.u16, acc := .ro, priv := 3,
    read := rdN fun d _ => d.routeCount },
  { idx := 0x3100, sub := 0x0F, name := "MATE_ADDRESS", ty := Ty.u16, acc := .ro, priv := 3,
    read := rdN fun d _ => d.net.mateAddress },
  { idx := 0x3100, sub := 0xF0, name := "SNAP_ROUTE_COUNT", ty := Ty.u16, acc := .ro, priv := 3,
    read := atSnap (rdN fun d _ => d.routeCount) },
  { idx := 0x3100, sub := 0xF1, name := "SNAP_ENUM_STATE", ty := Ty.u8, acc := .ro, priv := 3,
    read := atSnap (rdN fun d _ => d.net.enumState.ctorIdx) }]

def dict3200 : List ObjRow := [
  { idx := 0x3200, sub := 0x01, name := "QUANTUM", ty := Ty.u16, acc := .rw, priv := 1, sel := some 767,
    read := rdN fun d s => d.quantum s,
    write := wrN fun s v => quantumWrite s v },
  { idx := 0x3200, sub := 0x02, name := "QUEUE_LIMIT", ty := Ty.u16, acc := .rw, priv := 1, sel := some 767,
    read := rdN fun d s => d.queueLimit s,
    write := wrN fun s v => queueLimitWrite s v },
  { idx := 0x3200, sub := 0x03, name := "YELLOW_THRESHOLD", ty := Ty.u16, acc := .rw, priv := 1, sel := some 767,
    read := rdN fun d s => d.yellowLimit s,
    write := wrN fun s v => yellowWrite s v },
  { idx := 0x3200, sub := 0x04, name := "SHAPER_ENABLE", ty := Ty.bool, acc := .rw, priv := 1, sel := some 767,
    read := rdB fun d s => d.shaperOn s,
    write := wrB fun s v => shaperEnableWrite s v },
  { idx := 0x3200, sub := 0x05, name := "SHAPER_RATE", ty := Ty.u32, acc := .rw, priv := 1, sel := some 767,
    read := rdN fun d s => d.shaperRate s,
    write := wrN fun s v => shaperRateWrite s v },
  { idx := 0x3200, sub := 0x06, name := "SHAPER_BURST", ty := Ty.u32, acc := .rw, priv := 1, sel := some 767,
    read := rdN fun d s => d.shaperBurst s,
    write := wrN fun s v => shaperBurstWrite s v },
  { idx := 0x3200, sub := 0x07, name := "SHAPER_BUCKET", ty := Ty.i32, acc := .ro, priv := 3, sel := some 767,
    read := rdI fun d s => d.bucketBytes s },
  { idx := 0x3200, sub := 0x08, name := "QUEUE_DEPTH", ty := Ty.u16, acc := .ro, priv := 3, sel := some 767,
    read := rdN fun d s => (d.lane (s / 8)).depth (s % 8) },
  { idx := 0x3200, sub := 0x09, name := "QUEUE_COUNTERS", ty := Ty.dom 32 32, acc := .ro, priv := 3, sel := some 767,
    read := rdR fun d s => countersFrom (4 * s) 4 d.traf.queueCount },
  { idx := 0x3200, sub := 0x0A, name := "DEPTH_HIST", ty := Ty.dom 64 64, acc := .ro, priv := 3, sel := some 767,
    read := rdR fun d s => binsFrom (16 * s) d.traf.depthHist },
  { idx := 0x3200, sub := 0x0B, name := "DELAY_HIST", ty := Ty.dom 64 64, acc := .ro, priv := 3, sel := some 767,
    read := rdR fun d s => binsFrom (16 * s) d.traf.delayHist },
  { idx := 0x3200, sub := 0x0C, name := "HIST_CLEAR", ty := Ty.u8, acc := .wo, priv := 1,
    write := wrN fun _ v => histClear v },
  { idx := 0x3200, sub := 0x10, name := "METER_ENABLE", ty := Ty.bool, acc := .rw, priv := 1, sel := some 7,
    read := fun d s => if s = 0 then .absent else .num (ofBool (tget false d.cfg.traf.meterOn s)),
    write := wrB fun s v => meterEnableWrite s v },
  { idx := 0x3200, sub := 0x11, name := "METER_PROFILE", ty := Ty.dom 16 16, acc := .rw, priv := 1, sel := some 7,
    read := fun d s => if s = 0 then .absent else .raw (d.profile s).bytes,
    write := wrR fun s b => meterProfileWrite s (field b 0 4) (field b 4 4) (field b 8 4) (field b 12 4) },
  { idx := 0x3200, sub := 0x12, name := "METER_COUNTERS", ty := Ty.dom 24 24, acc := .ro, priv := 3, sel := some 767,
    read := rdR fun d s => countersFrom (3 * s) 3 d.traf.meterCount },
  { idx := 0x3200, sub := 0x13, name := "METER_INSTANCES", ty := Ty.u16, acc := .ro, priv := 3,
    read := rdN fun d _ => d.traf.meters.length },
  { idx := 0x3200, sub := 0x14, name := "METER_SHARED_COUNT", ty := Ty.u32, acc := .ro, priv := 3,
    read := rdW fun d _ => d.traf.sharedCount },
  { idx := 0x3200, sub := 0xF0, name := "SNAP_QUEUE_DEPTH", ty := Ty.u16, acc := .ro, priv := 3, sel := some 767,
    read := atSnap (rdN fun d s => (d.lane (s / 8)).depth (s % 8)) },
  { idx := 0x3200, sub := 0xF1, name := "SNAP_QUEUE_COUNTERS", ty := Ty.dom 32 32, acc := .ro, priv := 3, sel := some 767,
    read := atSnap (rdR fun d s => countersFrom (4 * s) 4 d.traf.queueCount) }]

end Sys2Proof.Machine
end

