-- ==== Sys2Proof/Machine/Triggers.lean ====
section
/-! DEFINITION. Scheduled triggers and the snapshot's causes (R309 to R313, R315). -/

namespace Sys2Proof.Machine

def Dev.trigger (d : Dev) (j : Nat) : Trigger := tget {} d.time.triggers j

def Dev.setTrigger (d : Dev) (j : Nat) (x : Trigger) : Dev :=
  { d with time := { d.time with triggers := tset {} d.time.triggers j x } }

/-- Entries that are PENDING (TRIGGERS_PENDING). -/
def Dev.triggersPending (d : Dev) : Nat := (d.time.triggers.filter (fun e => e.2.state = .pending)).length

/-- TRIGGER_CANCEL: a write of ACTION 0 (R309). -/
def triggerCancel (j : Nat) (d : Dev) : Resp × Dev :=
  if 15 < j then (.noent, d)
  else if (d.trigger j).state = .empty then (.noent, d)
  else (.ok, d.setTrigger j {})

def execTriggerCancel (j : BitVec 16) (s : State) : Host.Outcome State Fault Refusal := s.ask (triggerCancel j.toNat)

/-- TRIGGER_SCHEDULE: a write of a TRIGGER entry, with the checks of R309 in their order. -/
def triggerSchedule (j secs nanos action : Nat) (d : Dev) : Resp × Dev :=
  if 15 < j then (.noent, d)
  else if action = 0 then triggerCancel j d
  else
    let t := 1000000000 * secs + nanos
    if 1000000000 ≤ nanos ∨ t % d.period ≠ 0 ∨ 86400 * 1000000000 + d.now < t ∨ 4 < action then (.invalid, d)
    else if action = 1 ∧ d.locked = false then (.stale, d)
    else if t ≤ d.now then (.late, d)
    else if 16 ≤ d.triggersPending ∧ (d.trigger j).state ≠ .pending then (.busy, d)
    else (.ok, d.setTrigger j { at_ := ⟨secs, nanos⟩, action := action, state := .pending })

def execTriggerSchedule (j : BitVec 16) (trig : TriggerReq) (s : State) : Host.Outcome State Fault Refusal :=
  s.ask (triggerSchedule j.toNat trig.secs.toNat trig.nanos.toNat trig.action.toNat)

/-- A TRIGGER written over the dictionary: bytes 0 to 5 seconds, 6 to 9 nanoseconds, 10 ACTION. -/
def triggerWrite (j : Nat) (b : List Byte) (d : Dev) : Resp × Dev :=
  triggerSchedule j (field b 0 6) (field b 6 4) (field b 10 1) d

/-- SNAP_NOW: 1 asks for a snapshot at the next tick (R312). -/
def snapNow (v : Nat) (d : Dev) : Resp × Dev :=
  if v ≠ 1 then (.invalid, d) else (.ok, { d with time := { d.time with snapNow := true } })

def execSnapNow (v : BitVec 8) (s : State) : Host.Outcome State Fault Refusal := s.ask (snapNow v.toNat)

/-- SNAP_IN_EDGE: a rising edge while SNAP_IN_ENABLE is 1; later edges join it until its tick (R312). -/
def snapInEdge (d : Dev) : Dev :=
  if d.cfg.time.snapInEnable && d.time.snapIn.isNone then { d with time := { d.time with snapIn := some d.mono } } else d

def execSnapInEdge (s : State) : Host.Outcome State Fault Refusal := s.upd snapInEdge

/-- Pending entries due at a tick: their instant has come, or the step passed over it (R309, R310). -/
def Dev.triggersDue (d : Dev) (tick : Nat) : List Nat :=
  (d.time.triggers.filter (fun e => e.2.state = .pending && e.2.at_.total ≤ tick)).map (fun e => e.1)

/-- A trigger entry has performed its action (DONE), or was refused (FAILED, TRIGGER_FAILED with the response). -/
def Dev.endTrigger (d : Dev) (r : Resp) (j : Nat) : Dev :=
  let x := d.trigger j
  if r = .ok then d.setTrigger j { x with state := .done }
  else Dev.raise (d.setTrigger j { x with state := .failed }) .triggerFailed [r.ctorIdx]

/-- Causes of a snapshot at a tick (R312): bits of SNAP_CAUSE. -/
def Dev.snapCauses (d : Dev) (tick : Nat) : Nat :=
  ofBool ((d.triggersDue tick).any (fun j => (d.trigger j).action = 1)) + 2 * ofBool d.time.snapNow
    + 4 * ofBool (match d.time.snapIn with | some t => t + 20 ≤ d.mono | none => false)

/-- The causes that a tick serves are spent. -/
def Dev.clearCauses (d : Dev) (causes : Nat) : Dev :=
  { d with time := { d.time with snapNow := false, snapIn := if bit causes 2 then none else d.time.snapIn } }

/-- The snapshot at a tick (R311, R313): every snapshot register latches the state as the cycle left it. The result tells
whether it was taken, so that armed traces fire. -/
def Dev.snapshot (d : Dev) (tick : Nat) : Bool × Dev :=
  let c := d.snapCauses tick
  if c = 0 then (false, d)
  else
    let js := (d.triggersDue tick).filter (fun j => (d.trigger j).action = 1)
    if d.cfg.time.snapLock then
      let d := d.clearCauses c
      let d := Dev.raise { d with time := { d.time with snapSkipped := d.time.snapSkipped + 1 } } .snapshotSkipped
      (false, each js (fun j d => d.endTrigger .conflict j) d)
    else
      let d := { d with snap := d.toLive }
      let d := d.clearCauses c
      let d := { d with time := { d.time with
        snapSeq := d.time.snapSeq + 1, snapTick := timeOf tick, snapCause := BitVec.ofNat 8 c } }
      let d := d.raise .snapshotTaken [d.time.snapSeq.toNat, tick / 1000000000, tick % 1000000000]
      (true, each js (fun j d => d.endTrigger .ok j) d)

end Sys2Proof.Machine
end

