-- ==== Sys2Proof/Machine/DictTime.lean ====
section
/-! DEFINITION. The object dictionary: the cycle, the clock, triggers and the snapshot (R62, R314, R315). -/

namespace Sys2Proof.Machine

def dict2000a : List ObjRow := [
  { idx := 0x2000, sub := 0x01, name := "CYCLE_PERIOD", ty := Ty.u32, acc := .rwi (fun d _ => d.cycleIdle), priv := 1,
    read := rdN fun d _ => d.cfg.cyc.staged.period,
    write := wrN fun _ v => cyclePeriodWrite v },
  { idx := 0x2000, sub := 0x02, name := "ROWS_ENABLED", ty := Ty.u8, acc := .rwi (fun d _ => d.cycleIdle), priv := 1,
    read := rdN fun d _ => d.cfg.cyc.staged.rows,
    write := wrN fun _ v => rowsEnabledWrite v },
  { idx := 0x2000, sub := 0x03, name := "IDLE_SLOTS", ty := Ty.u16, acc := .rwi (fun d _ => d.cycleIdle), priv := 1,
    read := rdN fun d _ => d.cfg.cyc.staged.idle,
    write := wrN fun _ v => idleSlotsWrite v },
  { idx := 0x2000, sub := 0x04, name := "SLOT_LENGTH", ty := Ty.u16, acc := .rwi (fun d _ => d.cycleIdle), priv := 1,
    read := rdN fun d _ => d.cfg.cyc.staged.slotLen,
    write := wrN fun _ v => slotLengthWrite v },
  { idx := 0x2000, sub := 0x05, name := "CYCLE_APPLY", ty := Ty.u8, acc := .wo, priv := 1,
    write := wrN fun _ v => cycleApply v },
  { idx := 0x2000, sub := 0x06, name := "APPLY_STATE", ty := Ty.u8, acc := .ro, priv := 3,
    read := rdB fun d _ => d.cyc.next.isSome },
  { idx := 0x2000, sub := 0x07, name := "PERIOD_IN_FORCE", ty := Ty.u32, acc := .ro, priv := 3,
    read := rdN fun d _ => d.cyc.conf.period },
  { idx := 0x2000, sub := 0x08, name := "SLOT_IN_FORCE", ty := Ty.u32, acc := .ro, priv := 3,
    read := rdN fun d _ => d.cyc.conf.slotPs },
  { idx := 0x2000, sub := 0x09, name := "CYCLE_NUMBER", ty := Ty.u64, acc := .ro, priv := 3,
    read := rdN fun d _ => d.cycleNo },
  { idx := 0x2000, sub := 0x0A, name := "TICK_WINDOW", ty := Ty.u16, acc := .rw, priv := 1,
    read := rdN fun d _ => d.cfg.cyc.tickWindow,
    write := wrN fun _ v => tickWindowWrite v },
  { idx := 0x2000, sub := 0x0B, name := "LOOP_DELAY_2", ty := Ty.u16, acc := .ro, priv := 3,
    read := rdN fun d _ => d.delay2Count },
  { idx := 0x2000, sub := 0x0C, name := "LAST_CHANGED_ROWS", ty := Ty.u8, acc := .ro, priv := 3,
    read := rdN fun d _ => d.cyc.lastChanged },
  { idx := 0x2000, sub := 0x0D, name := "THROTTLED_COUNT", ty := Ty.u16, acc := .ro, priv := 3,
    read := rdN fun d _ => d.throttledCount },
  { idx := 0x2000, sub := 0xF0, name := "SNAP_CYCLE_NUMBER", ty := Ty.u64, acc := .ro, priv := 3,
    read := atSnap (rdN fun d _ => d.cycleNo) },
  { idx := 0x2000, sub := 0xF1, name := "SNAP_THROTTLED_COUNT", ty := Ty.u16, acc := .ro, priv := 3,
    read := atSnap (rdN fun d _ => d.throttledCount) },
  { idx := 0x2000, sub := 0x10, name := "TIME_NOW", ty := Ty.time, acc := .ro, priv := 3,
    read := rdR fun d _ => (timeOf d.now).bytes },
  { idx := 0x2000, sub := 0x11, name := "TIME_STATE", ty := Ty.u8, acc := .ro, priv := 3,
    read := rdN fun d _ => d.time.state.code },
  { idx := 0x2000, sub := 0x12, name := "TIME_SOURCE", ty := Ty.u8, acc := .rwi (fun d _ => d.time.state = .free), priv := 1,
    read := rdN fun d _ => d.cfg.time.source,
    write := wrN fun _ v => timeSourceWrite v },
  { idx := 0x2000, sub := 0x13, name := "TIME_SET", ty := Ty.time, acc := .wo, priv := 1,
    write := wrR fun _ b => timeSet (field b 0 6) (field b 6 4) },
  { idx := 0x2000, sub := 0x14, name := "ADDEND", ty := Ty.u64, acc := .ro, priv := 3,
    read := rdW fun d _ => d.time.addend },
  { idx := 0x2000, sub := 0x15, name := "OFFSET_LAST", ty := Ty.i32, acc := .ro, priv := 3,
    read := rdI fun d _ => d.time.offsetShown },
  { idx := 0x2000, sub := 0x16, name := "PATH_DELAY", ty := Ty.u32, acc := .ro, priv := 3,
    read := rdN fun d _ => d.time.pathShown },
  { idx := 0x2000, sub := 0x17, name := "TIME_PARENT_LANE", ty := Ty.u8, acc := .ro, priv := 3,
    read := rdN fun d _ => d.time.parentLane.getD 0xFF },
  { idx := 0x2000, sub := 0x18, name := "SYNC_LOG2", ty := Ty.i8, acc := .rw, priv := 1,
    read := rdI fun d _ => d.cfg.time.syncLog2,
    write := wrI 8 fun _ v => syncLog2Write v }]

def dict2000b : List ObjRow := [
  { idx := 0x2000, sub := 0x19, name := "DELAY_REQ_LOG2", ty := Ty.i8, acc := .rw, priv := 1,
    read := rdI fun d _ => d.cfg.time.delayReqLog2,
    write := wrI 8 fun _ v => delayReqLog2Write v },
  { idx := 0x2000, sub := 0x1A, name := "HOLDOVER_LIMIT", ty := Ty.u16, acc := .rw, priv := 1,
    read := rdN fun d _ => d.cfg.time.holdoverLimit,
    write := wrN fun _ v => holdoverLimitWrite v },
  { idx := 0x2000, sub := 0x1B, name := "ASYM_TRIM", ty := Ty.i16, acc := .rw, priv := 1, sel := some 95,
    read := rdI fun d s => tget 0 d.cfg.time.asymTrim s,
    write := wrI 16 fun s v => asymTrimWrite s v },
  { idx := 0x2000, sub := 0x1C, name := "TS_LATENCY", ty := Ty.dom 4 4, acc := .ro, priv := 3, sel := some 95,
    read := rdR fun d s => be 2 (d.latency s).1 ++ be 2 (d.latency s).2 },
  { idx := 0x2000, sub := 0x1D, name := "TICK_OUT_DIV", ty := Ty.u16, acc := .rw, priv := 1,
    read := rdN fun d _ => d.cfg.time.tickOutDiv,
    write := wrN fun _ v => tickOutDivWrite v },
  { idx := 0x2000, sub := 0x1E, name := "PPS_IN_STAMP", ty := Ty.time, acc := .ro, priv := 3,
    read := rdR fun d _ => d.time.ppsStamp.bytes },
  { idx := 0x2000, sub := 0x1F, name := "PARENT_SWITCHES", ty := Ty.u32, acc := .ro, priv := 3,
    read := rdW fun d _ => d.time.switches },
  { idx := 0x2000, sub := 0xF2, name := "SNAP_TIME_STATE", ty := Ty.u8, acc := .ro, priv := 3,
    read := atSnap (rdN fun d _ => d.time.state.code) },
  { idx := 0x2000, sub := 0xF3, name := "SNAP_OFFSET_LAST", ty := Ty.i32, acc := .ro, priv := 3,
    read := atSnap (rdI fun d _ => d.time.offsetShown) },
  { idx := 0x2000, sub := 0xF4, name := "SNAP_ADDEND", ty := Ty.u64, acc := .ro, priv := 3,
    read := atSnap (rdW fun d _ => d.time.addend) }]

def dict2100 : List ObjRow := [
  { idx := 0x2100, sub := 0x01, name := "TRIGGER", ty := Ty.dom 12 12, acc := .rw, priv := 1, sel := some 15,
    read := rdR fun d s => (d.trigger s).at_.bytes ++ be 1 (d.trigger s).action ++ [0],
    write := wrR fun s b => triggerWrite s b },
  { idx := 0x2100, sub := 0x02, name := "TRIGGER_STATE", ty := Ty.u8, acc := .ro, priv := 3, sel := some 15,
    read := rdN fun d s => (d.trigger s).state.ctorIdx },
  { idx := 0x2100, sub := 0x03, name := "TRIGGERS_PENDING", ty := Ty.u8, acc := .ro, priv := 3,
    read := rdN fun d _ => d.triggersPending },
  { idx := 0x2100, sub := 0x04, name := "SNAP_NOW", ty := Ty.u8, acc := .wo, priv := 2,
    write := wrN fun _ v => snapNow v },
  { idx := 0x2100, sub := 0x05, name := "SNAP_IN_ENABLE", ty := Ty.bool, acc := .rw, priv := 1,
    read := rdB fun d _ => d.cfg.time.snapInEnable,
    write := wrB fun _ v => snapInEnableWrite v },
  { idx := 0x2100, sub := 0x06, name := "SNAP_LOCK", ty := Ty.bool, acc := .rw, priv := 2,
    read := rdB fun d _ => d.cfg.time.snapLock,
    write := wrB fun _ v => snapLockWrite v },
  { idx := 0x2100, sub := 0x07, name := "SNAP_SEQ", ty := Ty.u32, acc := .ro, priv := 3,
    read := rdW fun d _ => d.time.snapSeq },
  { idx := 0x2100, sub := 0x08, name := "SNAP_TICK", ty := Ty.time, acc := .ro, priv := 3,
    read := rdR fun d _ => d.time.snapTick.bytes },
  { idx := 0x2100, sub := 0x09, name := "SNAP_CAUSE", ty := Ty.u8, acc := .ro, priv := 3,
    read := rdW fun d _ => d.time.snapCause },
  { idx := 0x2100, sub := 0x0A, name := "SNAP_SKIPPED", ty := Ty.u32, acc := .ro, priv := 3,
    read := rdW fun d _ => d.time.snapSkipped },
  { idx := 0x2100, sub := 0xF0, name := "SNAP_TRIGGERS_PENDING", ty := Ty.u8, acc := .ro, priv := 3,
    read := atSnap (rdN fun d _ => d.triggersPending) }]

end Sys2Proof.Machine
end

