-- ==== Sys2Proof/Machine/Dict.lean ====
section
/-! DEFINITION. The object dictionary as a whole, and the index map (R338). -/

namespace Sys2Proof.Machine

/-- The indexes in the order of the selector r of RANGE_RIGHTS (R338). -/
def indexMap : List Nat := [
  0x1000, 0x1100, 0x1200, 0x2000, 0x2100, 0x3000, 0x3100, 0x3200, 0x4000, 0x4100, 0x4200, 0x5000, 0x5100, 0x5200, 0x5300,
  0x6000, 0x6100, 0x6200, 0x6300, 0x7000, 0x7100, 0x7200, 0x8000, 0x9000, 0xA000, 0xA100, 0xB000, 0xC000, 0xC100]

/-- The rows of an index; an index absent from the map has none. -/
def dictOf (idx : Nat) : List ObjRow :=
  match idx with
  | 0x1000 => dict1000
  | 0x1100 => dict1100
  | 0x1200 => dict1200
  | 0x2000 => dict2000a ++ dict2000b
  | 0x2100 => dict2100
  | 0x3000 => dict3000
  | 0x3100 => dict3100
  | 0x3200 => dict3200
  | 0x4000 => dict4000
  | 0x4100 => dict4100
  | 0x4200 => dict4200
  | 0x5000 => dict5000
  | 0x5100 => dict5100a ++ dict5100b
  | 0x5200 => dict5200
  | 0x5300 => dict5300a ++ dict5300b
  | 0x6000 => dict6000
  | 0x6100 => dict6100
  | 0x6200 => dict6200
  | 0x6300 => dict6300
  | 0x7000 => dict7000
  | 0x7100 => dict7100
  | 0x7200 => dict7200
  | 0x8000 => dict8000a ++ dict8000b
  | 0x9000 => dict9000a ++ dict9000b
  | 0xA000 => dictA000
  | 0xA100 => dictA100
  | 0xB000 => dictB000
  | 0xC000 => dictC000
  | 0xC100 => dictC100
  | _ => []

/-- The row of an object. -/
def rowOf (idx sub : Nat) : Option ObjRow := (dictOf idx).find? (fun r => r.sub = sub)

end Sys2Proof.Machine
end

