-- ==== Sys2Proof/Machine/Items.lean ====
section
/-! DEFINITION. The items of a request (R316 to R319, R322, R327 to R330): levels, reading, writing, describing, and the
assembly of values sent in parts. -/

namespace Sys2Proof.Machine

/-! ## Levels (R319, R320) -/

/-- Level of an unsigned request from the network: the lowest-numbered valid rule that holds its source, else 3. -/
def Rights.levelOf (r : Rights) (src : Nat) : Nat :=
  match r.rules.find? (fun p => p.2.valid && p.2.low ≤ src && src ≤ p.2.high) with
  | some p => p.2.level
  | none => 3

/-- Level of an unsigned request. -/
def Dev.unsignedLevel (d : Dev) (spi : Bool) (src : Nat) : Nat :=
  if spi then d.req.rights.bspi else d.req.rights.levelOf src

/-- Number r of an index in the index map. -/
def rangeOf (idx : Nat) : Nat := indexMap.findIdx (fun i => i = idx)

/-- Required level of a read: RW and RWI objects read at level 2, or 3 when their column reads 3. -/
def ObjRow.readLevel (r : ObjRow) (g : Rights) : Nat :=
  let own := match r.acc with
    | .ro | .wo => r.priv
    | .rw | .rwi _ => if r.priv = 3 then 3 else 2
  min own (g.range (rangeOf r.idx)).1

/-- Required level of a write. -/
def ObjRow.writeLevel (r : ObjRow) (g : Rights) : Nat := min r.priv (g.range (rangeOf r.idx)).2

/-- The firmware objects of R437 and OWNER_KEY_INSTALL (R436). -/
def ObjRow.ownerless (r : ObjRow) : Bool := r.idx = 0xC000 && [1, 2, 3, 0x10].contains r.sub

/-- A write is allowed (R319), with the exceptions of RECOVERY (R429) and of a part without an owner (R436, R437). -/
def Dev.mayWrite (d : Dev) (r : ObjRow) (level : Nat) (link : Bool) : Bool :=
  if d.boot.phase = .recovery && r.idx = 0xC000 then true
  else if r.ownerless && d.ownerSlot.isNone then !link
  else level ≤ r.writeLevel d.req.rights

/-! ## Naming an object (R316) -/

/-- RECOVERY offers 0x1000.01 to 0x1000.06 and 0xC000.01 to 0xC000.06 (R429). -/
def Dev.offers (d : Dev) (r : ObjRow) : Bool :=
  d.boot.phase ≠ .recovery || ((r.idx = 0x1000 || r.idx = 0xC000) && 1 ≤ r.sub && r.sub ≤ 6)

/-- The first selector of an object: METER_ENABLE and METER_PROFILE have the classes 1 to 7 (R291). -/
def ObjRow.selFrom (r : ObjRow) : Nat := if r.idx = 0x3200 ∧ (r.sub = 0x10 ∨ r.sub = 0x11) then 1 else 0

/-- The row of an object and its selector, 0 where it takes none. -/
def Dev.named (d : Dev) (idx sub : Nat) (sel : Option Nat) : Except Resp (ObjRow × Nat) :=
  match rowOf idx sub with
  | none => .error .noent
  | some r =>
    if !d.offers r then .error .noent
    else match r.sel, sel with
      | none, none => .ok (r, 0)
      | some m, some s => if r.selFrom ≤ s ∧ s ≤ m then .ok (r, s) else .error .noent
      | _, _ => .error .invalid

/-! ## Reading (R318, R324, R329) -/

def Access.readable (a : Access) : Bool :=
  match a with
  | .wo => false
  | .ro | .rw | .rwi _ => true

def Access.writable (a : Access) : Bool :=
  match a with
  | .ro => false
  | .rw | .wo | .rwi _ => true

/-- A number in the encoding of its type. -/
def ObjTy.encode (t : ObjTy) (v : Int) : List Byte := be t.most (Machine.code (8 * t.most) v)

/-- The whole value of an object; none where it has no such entry. -/
def ObjRow.value (r : ObjRow) (d : Dev) (s : Nat) : Option (List Byte) :=
  match r.read d s with
  | .num v => some (r.ty.encode v)
  | .raw b => some b
  | .absent => none

/-- An answer without a value: no rule gives its TYPE. -/
def plainAnswer (c : Resp) : Answer := { code := c, ty := (Config.openType (respCode c)).toNat }

/-- Bytes off ... of a value: `len` of them, or all to the end; none where they lie outside it. -/
def ObjTy.part (t : ObjTy) (b : List Byte) (off len : Nat) : Option (List Byte) :=
  if t.varies then (if b.length < off + len then none else some (if len = 0 then b.drop off else (b.drop off).take len))
  else if off = 0 ∧ (len = 0 ∨ len = b.length) then some b else none

/-- OFFSET and LENGTH fit the object's size, where it has no such entry whose bytes could be counted. -/
def ObjTy.fits (t : ObjTy) (off len : Nat) : Bool :=
  if t.varies then off + len ≤ t.most else off = 0 && (len = 0 || len = t.most)

/-- A READ item at a level, with the checks of R327 in their order: an entry that is not there is the object's own check. -/
def readItem (level idx sub : Nat) (sel : Option Nat) (off len : Nat) (d : Dev) : Answer × Dev :=
  match d.named idx sub sel with
  | .error e => (plainAnswer e, d)
  | .ok (r, s) =>
    if !r.acc.readable then (plainAnswer .invalid, d)
    else if r.readLevel d.req.rights < level then (plainAnswer .denied, d)
    else match r.value d s with
      | none => (plainAnswer (if r.ty.fits off len then .noent else .invalid), d)
      | some b =>
        match r.ty.part b off len with
        | none => (plainAnswer .invalid, d)
        | some v =>
          match r.poison d s off (off + v.length) with
          | some a => ({ code := .poisoned, ty := r.ty.code, value := v }, d.lastError a 2 .requestService 0)
          | none => ({ code := .ok, ty := r.ty.code, value := v }, d)

/-! ## Describing (R322) -/

def Access.num (a : Access) : Nat :=
  match a with
  | .ro => 0 | .rw => 1 | .wo => 2 | .rwi _ => 3

/-- The 10 bytes of a description; no object here is of a Qm.n type. -/
def ObjRow.description (r : ObjRow) : List Byte :=
  be 1 r.ty.code ++ be 1 r.acc.num ++ be 1 r.priv ++ be 1 (ofBool r.sel.isSome) ++ [0, 0] ++ be 2 r.ty.most ++ be 2 (r.sel.getD 0)

/-- A DESCRIBE item: judged at level 3, so that every level may have it. -/
def describeItem (idx sub : Nat) (sel : Option Nat) (d : Dev) : Answer :=
  match d.named idx sub sel with
  | .error e => plainAnswer e
  | .ok (r, _) => { code := .ok, ty := (Config.openType 16).toNat, value := r.description }

/-- DESCRIBE. -/
def describe (obj : ObjRef) (d : Dev) : Dev :=
  d.replyWith (describeItem obj.index.toNat obj.sub.toNat (obj.sel.map BitVec.toNat) d)

def execDescribe (obj : ObjRef) (s : State) : Host.Outcome State Fault Refusal := s.upd (describe obj)

/-! ## Writing (R327) -/

/-- Check 4: the bytes are a value of the type (R317). -/
def ObjTy.takes (t : ObjTy) (b : List Byte) : Bool :=
  t.least ≤ b.length && b.length ≤ t.most
    && (t.code ≠ 1 || ofBe b ≤ 1) && (t.code ≠ 11 || field b 6 4 < 1000000000) && (t.code ≠ 12 || utf8Ok b)

/-- Check 5: an RWI object's block is idle. -/
def ObjRow.isIdle (r : ObjRow) (d : Dev) (s : Nat) : Bool :=
  match r.acc with
  | .rwi idle => idle d s
  | .ro | .rw | .wo => true

/-- Checks 1 to 3 of a write. -/
def Dev.writeTarget (d : Dev) (level : Nat) (link : Bool) (idx sub : Nat) (sel : Option Nat) : Except Resp (ObjRow × Nat) :=
  match d.named idx sub sel with
  | .error e => .error e
  | .ok (r, s) =>
    if !r.acc.writable then .error .invalid
    else if !d.mayWrite r level link then .error .denied
    else .ok (r, s)

/-- Checks 4 to 6 of a write, its value being whole. -/
def ObjRow.put (r : ObjRow) (src s : Nat) (b : List Byte) (d : Dev) : Reply × Dev :=
  if !r.ty.takes b then (.now .invalid, d)
  else if !r.isIdle d s then (.now .conflict, d)
  else r.write src s b d

/-- What a WaitFor still waits for has not come about. -/
def Dev.awaits (d : Dev) (w : WaitFor) : Bool :=
  match w with
  | .label id => d.lab.queue.any (fun q => q.2 = .host id) || (match d.lab.flush with
    | some x => x.2.1 = .host id
    | none => false)
  | .inject id => d.rd.injects.any (fun e => e.id = id)
  | .merge ws => d.merging ws

/-- A reply that has come about already is the code it came to. -/
def Dev.settled (d : Dev) (r : Reply) : Reply :=
  match r with
  | .later w => if d.awaits w then .later w else .now ((d.req.answer.map (fun a => a.code)).getD .ok)
  | .now c => .now c

/-! ## Values in parts (R330) -/

/-- The parts a requester's assembly buffer holds: those less than 1 s old. -/
def Dev.heldParts (d : Dev) (src : Nat) : Option Assembly :=
  d.req.assembly.find? (fun a => a.src = src && d.mono - a.at_ < 1000000000)

def Dev.dropParts (d : Dev) (src : Nat) : Dev :=
  d.setReq (fun q => { q with assembly := q.assembly.filter (fun a => a.src ≠ src) })

/-- A WRITE is a part when MORE is set, when it starts past the first byte, or when parts of its object are held. -/
def isPart (held : Option Assembly) (obj : ObjRef) (off : Nat) (more : Bool) : Bool :=
  more || off ≠ 0 || (match held with
    | some a => a.obj = obj
    | none => false)

/-- A part: held, or the last of a value, which is then written whole. -/
def partItem (src : Nat) (r : ObjRow) (s : Nat) (obj : ObjRef) (off : Nat) (b : List Byte) (more : Bool) (d : Dev) : Reply × Dev :=
  let held : Assembly := (d.heldParts src).getD { src := src, obj := obj, bytes := [], at_ := 0 }
  let all := held.bytes ++ b
  let d' := d.dropParts src
  if r.ty.code ≠ 13 ∨ held.obj ≠ obj ∨ off ≠ held.bytes.length ∨ 2048 < all.length then (.now .invalid, d')
  else if more then
    if !r.isIdle d s then (.now .conflict, d)
    else (.now .ok, d'.setReq (fun q => { q with assembly := q.assembly ++ [{ src := src, obj := obj, bytes := all, at_ := d.mono }] }))
  else r.put src s all d'

/-- A WRITE item past check 3: its value, or a part of one. -/
def putItem (src : Nat) (r : ObjRow) (s : Nat) (obj : ObjRef) (off : Nat) (b : List Byte) (more : Bool) (d : Dev) : Reply × Dev :=
  if isPart (d.heldParts src) obj off more then partItem src r s obj off b more d else r.put src s b d

/-- A WRITE item. -/
def writeItem (src level : Nat) (link : Bool) (obj : ObjRef) (ty off : Nat) (b : List Byte) (more : Bool) (d : Dev) : Reply × Dev :=
  match d.writeTarget level link obj.index.toNat obj.sub.toNat (obj.sel.map BitVec.toNat) with
  | .error e => (.now e, d)
  | .ok (r, s) =>
    if ty ≠ r.ty.code then (.now .invalid, d)
    else
      let p := putItem src r s obj off b more d
      (p.2.settled p.1, p.2)

/-- A direct write keeps its code for the sender; one that answers later is answered when it completes. -/
def Dev.answerNow (p : Reply × Dev) : Dev :=
  match p.1 with
  | .now c => p.2.reply c
  | .later _ => p.2

/-- DOMAIN_PART_WRITE: a WRITE item of type DOMAIN with its OFFSET and MORE. -/
def domainPartWrite (src level : Nat) (obj : ObjRef) (off : Nat) (b : List Byte) (more : Bool) (d : Dev) : Dev :=
  Dev.answerNow (writeItem src level (src ≠ 0) obj 13 off b more d)

def execDomainPartWrite (src : BitVec 16) (level : Fin 4) (obj : ObjRef) (off : Nat) (bytes : List Byte) (more : Bool) (s : State) :
    Host.Outcome State Fault Refusal :=
  s.upd (domainPartWrite src.toNat level obj off bytes more)

/-- ASSEMBLY_TIMEOUT: parts older than 1 s are discarded. -/
def assemblyTimeout (src : Nat) (d : Dev) : Dev :=
  if (d.heldParts src).isNone then d.dropParts src else d

def execAssemblyTimeout (src : BitVec 16) (s : State) : Host.Outcome State Fault Refusal := s.upd (assemblyTimeout src.toNat)

/-! ## REGISTER_WRITE -/

/-- The bytes of a value of a type: a number in its range, a TIME, or bytes of a STRING or DOMAIN. -/
def valueBytes (v : ObjVal) (t : ObjTy) : Option (List Byte) :=
  match v with
  | .num n =>
    let lo : Int := if t.isSigned then -(2 ^ (8 * t.most - 1)) else 0
    let hi : Int := if t.isSigned then 2 ^ (8 * t.most - 1) else 2 ^ (8 * t.most)
    if t.code ≤ 9 ∧ lo ≤ n ∧ n < hi then some (t.encode n) else none
  | .time secs nanos => if t.code = 11 ∧ secs < 2 ^ 48 ∧ nanos < 2 ^ 32 then some (be 6 secs ++ be 4 nanos) else none
  | .bytes b => if t.varies then some b else none

/-- REGISTER_WRITE: one whole value, with every check of R327; a value of another type fails check 4. -/
def registerWrite (level : Nat) (obj : ObjRef) (v : ObjVal) (d : Dev) : Dev :=
  match d.writeTarget level false obj.index.toNat obj.sub.toNat (obj.sel.map BitVec.toNat) with
  | .error e => d.reply e
  | .ok (r, s) =>
    match valueBytes v r.ty with
    | none => d.reply .invalid
    | some b =>
      let p := r.put 0 s b d
      Dev.answerNow (p.2.settled p.1, p.2)

def execRegisterWrite (level : Fin 4) (obj : ObjRef) (v : ObjVal) (s : State) : Host.Outcome State Fault Refusal :=
  s.upd (registerWrite level obj v)

end Sys2Proof.Machine
end

