-- ==== Sys2Proof/Machine/MateSync.lean ====
section
/-! DEFINITION. What passes between mates beside images: point sets and label commands, acknowledged (R182, R249, R368, R380). -/

namespace Sys2Proof.Machine

/-! ## Sending -/

/-- A frame of kind 1 or 2 is sent and kept until it is acknowledged. -/
def Dev.sendKept (d : Dev) (kind item : Nat) (poison : Bool) (body : List Byte) : Dev :=
  let n := d.tow.syncSeq
  let now := d.mono
  (d.sendSync kind 0 item poison body).setTow (fun t => { t with
    syncOut := t.syncOut ++ [{ seq := n, kind := kind, item := item, body := body, since := now, sends := 1, poison := poison }] })

/-- CAL_POINTS_FORWARD: a point set that a sweep or refit changed goes to the mate; a controller alone on its array sends none (R44). -/
def calPointsForward (e : Nat) (d : Dev) : Dev :=
  if d.cal.forward.contains e then
    let d := d.setCal (fun c => { c with forward := c.forward.filter (fun x => x ≠ e) })
    if d.net.mateAddress = 0 ∨ !d.arr.wiredOn then d else d.sendKept 1 e (d.pointsPoisoned e) (d.calPoints e)
  else d

def execCalPointsForward (elem : BitVec 15) (s : State) : Host.Outcome State Fault Refusal := s.upd (calPointsForward elem.toNat)

/-- LABEL_COMMAND_FORWARD: the oldest successful command goes to the mate; a controller alone on its array sends none (R44). -/
def labelCommandForward (d : Dev) : Dev :=
  match d.lab.forward with
  | [] => d
  | c :: l =>
    let d := d.setLab (fun t => { t with forward := l })
    if d.net.mateAddress = 0 ∨ !d.arr.wiredOn then d else d.sendKept 2 0 false (LabelCmd.bytes16 c)

def execLabelCommandForward (s : State) : Host.Outcome State Fault Refusal := s.upd labelCommandForward

/-- The frame of a kept entry again, on the other mate link (R368). -/
def Dev.resend (d : Dev) (x : SyncOut) : Dev :=
  let l := if x.sends % 2 = 1 then (if d.laneUp 3 then 3 else 2) else (if d.laneUp 2 then 2 else 3)
  if d.laneUp l then d.toMate l 4 17 x.poison (syncBytes x.kind 0 x.item x.seq.toNat x.body) else d

/-- MATE_SYNC_RESEND: 10 ms after the last sending. -/
def mateSyncResend (n : BitVec 32) (d : Dev) : Dev :=
  match d.tow.syncOut.find? (fun x => x.seq = n) with
  | none => d
  | some x =>
    if d.mono < x.since + 10000000 * x.sends then d
    else (d.resend x).setTow (fun t => { t with
      syncOut := t.syncOut.map (fun y => if y.seq = n then { y with sends := y.sends + 1 } else y) })

def execMateSyncResend (sync : BitVec 32) (s : State) : Host.Outcome State Fault Refusal := s.upd (mateSyncResend sync)

/-- MATE_SYNC_LOST: after 1 s without ACK the sender gives up. -/
def mateSyncLost (n : BitVec 32) (d : Dev) : Dev :=
  match d.tow.syncOut.find? (fun x => x.seq = n) with
  | none => d
  | some x =>
    if d.mono < 1000000000 + x.since then d
    else Dev.raise (d.setTow (fun t => { t with syncOut := t.syncOut.filter (fun y => y.seq ≠ n) })) .mateSyncLost [x.kind, x.item]

def execMateSyncLost (sync : BitVec 32) (s : State) : Host.Outcome State Fault Refusal := s.upd (mateSyncLost sync)

/-- MATE_SYNC_ACK: the frame needs no more sending. -/
def mateSyncAck (n : BitVec 32) (d : Dev) : Dev :=
  (d.takeAny 17).setTow (fun t => { t with syncOut := t.syncOut.filter (fun y => y.seq ≠ n) })

def execMateSyncAck (sync : BitVec 32) (s : State) : Host.Outcome State Fault Refusal := s.upd (mateSyncAck sync)

/-! ## Receiving -/

/-- An acknowledgement: the status, and the counter acknowledged. -/
def Dev.ack (d : Dev) (n : BitVec 32) (r : Resp) : Dev :=
  if d.mateUp then d.toMate d.mateLane 4 17 false (syncBytes 3 (respCode r) 0 n.toNat []) else d

/-- A frame of kind 1 or 2 is applied once: the counter of one that was refused is not among those applied, so that the frame sent anew is
tried anew; a poisoned one is answered POISONED and not applied (R368, R380). -/
def Dev.applySync (d : Dev) (n : BitVec 32) (poison : Bool) (f : Dev → Resp × Dev) : Dev :=
  let d := d.takeAny 17
  if poison then d.ack n .poisoned
  else if d.tow.syncApplied.contains n then d.ack n .ok
  else
    let r := f d
    (if r.1 = .ok then r.2.setTow (fun t => { t with syncApplied := (n :: t.syncApplied).take 64 }) else r.2).ack n r.1

/-- MATE_SYNC_CAL_POINTS: the mate's set is applied by R160. -/
def mateSyncCalPoints (n : BitVec 32) (e : Nat) (b : List Byte) (poison : Bool) (d : Dev) : Dev :=
  d.applySync n poison (calPointsWrite e b)

def execMateSyncCalPoints (sync : BitVec 32) (elem : BitVec 16) (points : List Byte) (poison : Bool) (s : State) :
    Host.Outcome State Fault Refusal :=
  s.upd (mateSyncCalPoints sync elem.toNat points poison)

/-- The mate's command as one of this unit's own: an INSERT with REPLACE set (R249). -/
def applyMateLabel (c : LabelCmd) (d : Dev) : Resp × Dev :=
  let c : LabelCmd := if c.opcode = 1 then { c with flags := c.flags ||| 2 } else c
  if !labelCmdOk c [1, 2, 5] then (.invalid, d)
  else if 32 ≤ d.commandsPending then (.busy, d)
  else (.ok, d.acceptLabel c .mate)

/-- MATE_SYNC_LABEL_COMMAND. -/
def mateSyncLabelCommand (n : BitVec 32) (c : LabelCmd) (poison : Bool) (d : Dev) : Dev :=
  d.applySync n poison (applyMateLabel c)

def execMateSyncLabelCommand (sync : BitVec 32) (cmd : LabelCmd) (poison : Bool) (s : State) :
    Host.Outcome State Fault Refusal :=
  s.upd (mateSyncLabelCommand sync cmd poison)

end Sys2Proof.Machine
end

