-- ==== Sys2Proof/Machine/Requests.lean ====
section
/-! DEFINITION. The Request Service: request bodies, the checks and their order, windows, signed requests, execution
(R320 to R333). -/

namespace Sys2Proof.Machine

/-! ## Request bodies (R321 to R323) -/

/-- An item of a request (R322). -/
structure ReqItem where
  op : Nat
  obj : ObjRef
  more : Bool
  ty : Nat
  off : Nat
  len : Nat
  value : List Byte
deriving DecidableEq, Repr

/-- A request body taken apart: SIGNED, QUIET, its items and the signed trailer. -/
structure ReqBody where
  signed : Bool
  quiet : Bool
  items : List ReqItem
  trailer : List Byte
deriving DecidableEq, Repr

/-- One item head with the value of a write, and the bytes after it; none where it is malformed. -/
def parseItem (b : List Byte) : Option (ReqItem × List Byte) :=
  let op := field b 0 1
  let fl := field b 1 1
  let ty := field b 5 1
  let sel := field b 6 2
  let len := field b 10 2
  let vlen := if op = 2 then len else 0
  if b.length < 12 + vlen ∨ op < 1 ∨ 3 < op ∨ 3 < fl ∨ (bit fl 1 ∧ op ≠ 2) ∨ (ty ≠ 0 ∧ op ≠ 2) ∨ (sel ≠ 0 ∧ bit fl 0 = false) then none
  else some (
    { op := op
      obj := { index := BitVec.ofNat 16 (field b 2 2), sub := BitVec.ofNat 8 (field b 4 1)
               sel := if bit fl 0 then some (BitVec.ofNat 16 sel) else none }
      more := bit fl 1, ty := ty, off := field b 8 2, len := len, value := (b.drop 12).take vlen }, b.drop (12 + vlen))

/-- n items back to back, and what follows them. -/
def parseItems : Nat → List Byte → Option (List ReqItem × List Byte)
  | 0, b => some ([], b)
  | n + 1, b =>
    match parseItem b with
    | none => none
    | some (i, rest) =>
      match parseItems n rest with
      | none => none
      | some (l, left) => some (i :: l, left)

/-- Check 2 of R326. -/
def parseBody (b : List Byte) : Option ReqBody :=
  let fl := field b 1 1
  let n := field b 2 1
  if b.length < 4 ∨ field b 0 1 ≠ 1 ∨ 3 < fl ∨ n < 1 ∨ 32 < n ∨ field b 3 1 ≠ 0 then none
  else match parseItems n (b.drop 4) with
    | none => none
    | some (l, left) =>
      if left.length = (if bit fl 0 then 120 else 0) then some ⟨bit fl 0, bit fl 1, l, left⟩ else none

/-! ## Executing items (R327, R328) -/

/-- One item: its answer, what the answer waits for, and the device after it. -/
def runItem (src level : Nat) (link : Bool) (i : ReqItem) (d : Dev) : Answer × Option WaitFor × Dev :=
  match i.op with
  | 1 =>
    let p := readItem level i.obj.index.toNat i.obj.sub.toNat (i.obj.sel.map BitVec.toNat) i.off i.len d
    (p.1, none, p.2)
  | 2 =>
    let p := writeItem src level link i.obj i.ty i.off i.value i.more d
    match p.1 with
    | .now c => (plainAnswer c, none, p.2)
    | .later w => (plainAnswer .ok, some w, p.2)
  | _ => (describeItem i.obj.index.toNat i.obj.sub.toNat (i.obj.sel.map BitVec.toNat) d, none, d)

/-- What a run of items leaves: the answers, and what item numbers wait for. -/
structure ItemRun where
  answers : List Answer := []
  waits : List (Nat × WaitFor) := []

/-- The items in order; an item that resets the controller ends the request with the service itself (R430, R431). -/
def runItems (src level : Nat) (link : Bool) : List ReqItem → ItemRun → Dev → ItemRun × Dev
  | [], x, d => (x, d)
  | i :: l, x, d =>
    let p := runItem src level link i d
    let y : ItemRun := {
      answers := x.answers ++ [p.1]
      waits := match p.2.1 with
        | some w => x.waits ++ [(x.answers.length, w)]
        | none => x.waits }
    if p.2.2.boot.phase = .rom then (y, p.2.2) else runItems src level link l y p.2.2

/-! ## Signed requests (R323) -/

/-- A signature verifies. -/
def Dev.signatureOk (d : Dev) (q : ReqFrame) (b : ReqBody) : Bool :=
  let head := if q.spi then List.replicate 6 0 else be 2 q.dest.toNat ++ be 2 q.src.toNat ++ be 2 q.seq.toNat
  let target := b.trailer.take 16
  match d.ownerKey with
  | none => false
  | some k =>
    (target = List.replicate 16 0 || target = serial) && d.req.ownerCounter.toNat < field b.trailer 16 8
      && ecdsaVerify k (sha384 (head ++ q.body.take (q.body.length - 96))) (b.trailer.drop 24)

/-- OWNER_COUNTER_LAST takes the request's counter, in external flash too. -/
def Dev.takeCounter (d : Dev) (b : ReqBody) : Dev :=
  let c := BitVec.ofNat 64 (field b.trailer 16 8)
  { d with
    req := { d.req with ownerCounter := c }
    boot := { d.boot with flash := { d.boot.flash with ownerCounters := d.boot.flash.ownerCounters ++ [c] } } }

/-! ## Windows (R331 to R333) -/

/-- What the window says of a request. -/
inductive WinCase where
  /-- new, or a late arrival: executed -/
  | run
  | cached (e : WinEntry)
  | join
  | conflict
  | stale
deriving DecidableEq, Repr

/-- R331 on a requester's window. -/
def Dev.winCase (d : Dev) (w : ReqWindow) (seq : BitVec 16) (digest : List Byte) : WinCase :=
  let back := (w.high - seq).toNat
  if 63 < back then (if 32768 < back then .run else .stale)
  else match w.entries.find? (fun e => e.seq = seq) with
    | some e => if e.digest = digest then .cached e else .conflict
    | none =>
      match d.req.outstanding.find? (fun o => !o.spi && o.src.toNat = w.src && o.seq = seq) with
      | some o => if o.digest = digest then .join else .conflict
      | none => .run

/-- A window goes up to a sequence number that lies ahead; entries more than 63 below it are dropped. -/
def ReqWindow.advance (w : ReqWindow) (seq : BitVec 16) : ReqWindow :=
  let a := (seq - w.high).toNat
  if 1 ≤ a ∧ a ≤ 32767 then { w with high := seq, entries := w.entries.filter (fun e => (seq - e.seq).toNat ≤ 63) } else w

/-- A window may be freed: 10 s without a request, and none of its requests outstanding. -/
def Dev.mayFree (d : Dev) (w : ReqWindow) : Bool :=
  10000000000 + w.lastAt ≤ d.mono && !d.req.outstanding.any (fun o => !o.spi && o.src.toNat = w.src)

def Dev.freeWindow (d : Dev) (src : Nat) : Dev :=
  d.setReq (fun r => { r with windows := r.windows.filter (fun w => w.src ≠ src) })

/-- Room for one more window: as things stand, or by freeing the window that has been idle longest; none where there is none. -/
def Dev.windowRoom (d : Dev) : Option Dev :=
  if d.req.windows.length < 256 then some d
  else
    let l := d.req.windows.filter d.mayFree
    match (l.map (fun w => w.lastAt)).min? with
    | none => none
    | some t => (l.find? (fun w => w.lastAt = t)).map (fun w => d.freeWindow w.src)

/-- A request at either bound of R333. -/
def Dev.atBound (d : Dev) (q : ReqFrame) : Bool :=
  64 ≤ (d.req.outstanding.filter (fun o => o.src = q.src)).length || 1024 ≤ d.req.outstanding.length

/-- Check 4: the request's window stands, created at its SEQ where there was none; none where a bound is reached. -/
def Dev.acceptRequest (d : Dev) (q : ReqFrame) : Option Dev :=
  if d.atBound q then none
  else if q.spi ∨ q.src = 0 then some d
  else match d.reqWindow q.src.toNat with
    | some w => some (d.putWindow (w.advance q.seq))
    | none => (d.windowRoom).map (fun d => d.putWindow { src := q.src.toNat, high := q.seq, lastAt := d.mono })

/-! ## Judging and executing (R326) -/

/-- An answer before any item executes: nothing is left in the window. -/
def Dev.refuse (d : Dev) (q : ReqFrame) (code : Resp) : Dev :=
  let seq := if q.spi then 0 else q.seq.toNat
  d.sendResponse q.spi q.src.toNat q.cls.toNat q.planeB false
    (responseBody seq code 0 2 (d.unsignedLevel q.spi q.src.toNat) (d.windowHigh q.src.toNat) [])

/-- The lane on which a frame of this controller leaves for an address on a plane (R268, R269). -/
def Dev.leavesOn (d : Dev) (planeB : Bool) (dest : Nat) : Option Nat :=
  match d.way none planeB false dest with
  | .out l =>
    if d.laneUp l then some l
    else match d.way none (!planeB) true dest with
      | .out k => some k
      | _ => some l
  | _ => none

/-- Payload a response may have: 2,010 bytes on the board SPI port. -/
def Dev.responseRoom (d : Dev) (q : ReqFrame) : Nat :=
  if q.spi then 2010 else match d.leavesOn q.planeB q.src.toNat with
    | some l => d.maxPayload l
    | none => 2010

/-- A request is answered, or held until the last of its items has answered; `was` is how it stood while it executed. -/
def Dev.conclude (d : Dev) (was o : Outstanding) : Dev :=
  let d := d.setReq (fun r => { r with outstanding := r.outstanding.erase was })
  if o.waits.isEmpty then d.finishRequest o else d.setReq (fun r => { r with outstanding := r.outstanding ++ [o] })

/-- Check 6, with the request outstanding since check 4 (R333): `d0` is the device should the response be too long for its lane
(R325). -/
def Dev.execute (d d0 : Dev) (q : ReqFrame) (b : ReqBody) (o : Outstanding) : Dev :=
  let d := d.setReq (fun r => { r with outstanding := r.outstanding ++ [o] })
  let p := runItems q.src.toNat o.level (!q.spi) b.items {} d
  if d.responseRoom q < 8 + (p.1.answers.flatMap Answer.bytes).length then (d0.countReq 5).refuse q .invalid
  else if p.2.boot.phase = .rom then p.2
  else (p.2.countReq 0).conclude o { o with answers := p.1.answers, waits := p.1.waits }

/-- Checks 5 and 6 on an accepted request; `d0` is the device before its acceptance. -/
def Dev.judge (d d0 : Dev) (q : ReqFrame) (b : ReqBody) (digest : List Byte) : Dev :=
  let o : Outstanding := {
    src := q.src, seq := q.seq, cls := q.cls, planeB := q.planeB, spi := q.spi, quiet := b.quiet
    level := d.unsignedLevel q.spi q.src.toNat, digest := digest, answers := [], waits := [] }
  if b.signed = false then d.execute d0 q b o
  else if d.signatureOk q b then (d.takeCounter b).execute (d0.takeCounter b) q b { o with level := 0 }
  else (d.countReq 3).finishRequest { o with answers := b.items.map (fun _ => plainAnswer .denied) }

/-- Check 4 and what follows it. -/
def Dev.take4 (d : Dev) (q : ReqFrame) (b : ReqBody) (digest : List Byte) : Dev :=
  match d.acceptRequest q with
  | none => (d.countReq 2).refuse q .busy
  | some d' => d'.judge d q b digest

/-- Check 3 and what follows it, for a requester that takes a window. -/
def Dev.take3 (d : Dev) (q : ReqFrame) (b : ReqBody) : Dev :=
  let digest := (sha384 q.body).take 8
  match d.reqWindow q.src.toNat with
  | none => d.take4 q b digest
  | some w =>
    match d.winCase w q.seq digest with
    | .run => d.take4 q b digest
    | .cached e => if b.quiet ∧ e.status = .ok then d else d.answerFromCache q.src.toNat q.cls.toNat q.planeB e
    | .join => d.setReq (fun r => { r with outstanding := r.outstanding.map (fun o =>
        if !o.spi && o.src = q.src && o.seq = q.seq then { o with dups := o.dups ++ [(q.cls, q.planeB)] } else o) })
    | .conflict => d.refuse q .conflict
    | .stale => (d.countReq 4).refuse q .stale

/-- A request is noted in its requester's window (R332). -/
def Dev.touchWindow (d : Dev) (src : Nat) : Dev :=
  d.setReq (fun r => { r with windows := r.windows.map (fun w => if w.src = src then { w with lastAt := d.mono } else w) })

/-- The six checks of R326. -/
def Dev.serve (d : Dev) (q : ReqFrame) : Dev :=
  if q.poison ∧ q.spi = false then d.refuse q .poisoned
  else match parseBody q.body with
    | none => (d.countReq 5).refuse q .invalid
    | some b => if q.spi ∨ q.src = 0 then d.take4 q b [] else d.take3 q b

/-- REQUEST_RECEIVE: the port executes the request it holds, one at a time (R275); the network reaches the Request Service while firmware
runs, and an UNASSIGNED controller answers none of its requests (R262). -/
def requestReceive (q : ReqFrame) (d : Dev) : Dev :=
  if q.spi then
    (if d.bspiOn = false ∨ d.net.bspi.response.isSome ∨ d.req.outstanding.any (fun o => o.spi) then d
     else match d.net.bspi.request with
       | none => d
       | some b => d.serve { q with src := 0, body := b })
  else if d.boot.phase ≠ .firmware then d
  else if d.net.role = .unassigned then d.takeAny 8
  else ((d.takeAny 8).touchWindow q.src.toNat).serve q

def execRequestReceive (req : ReqFrame) (s : State) : Host.Outcome State Fault Refusal := s.upd (requestReceive req)

/-- WINDOW_FREE: a window is freed after 10 s without a request. -/
def windowFree (src : Nat) (d : Dev) : Dev :=
  match d.reqWindow src with
  | some w => if d.mayFree w then d.freeWindow src else d
  | none => d

def execWindowFree (src : BitVec 16) (s : State) : Host.Outcome State Fault Refusal := s.upd (windowFree src.toNat)

/-! ## Telemetry (R336) -/

/-- An object of a list: INDEX, SUB, [0] SEL, SELECTOR. -/
structure TelemObj where
  name : List Byte
  idx : Nat
  sub : Nat
  sel : Option Nat
deriving DecidableEq, Repr

def telemObjs (b : List Byte) : List TelemObj :=
  (List.range (field b 4 1)).map (fun i =>
    let n := (b.drop (6 + 6 * i)).take 6
    { name := n, idx := field n 0 2, sub := field n 2 1, sel := if bit (field n 3 1) 0 then some (field n 4 2) else none })

/-- The frames of a sending, filled in list order with at most `room` bytes of items each: the bytes, their count, and whether
a value among them is poisoned; `x` is the frame being filled. -/
def packForward (room : Nat) : List (List Byte × Bool) → (List Byte × Nat × Bool) → List (List Byte × Nat × Bool)
  | [], x => [x]
  | (b, p) :: l, x =>
    if x.2.1 = 0 ∨ x.1.length + b.length ≤ room then packForward room l (x.1 ++ b, x.2.1 + 1, x.2.2 || p)
    else x :: packForward room l (b, 1, p)

/-- The answer of a telemetry object: one too long for any frame is answered INVALID, as R325 answers it in a request. -/
def telemAnswer (room : Nat) (a : Answer) : Answer := if room < 6 + a.bytes.length then plainAnswer .invalid else a

/-- Bytes of items that a frame of a list may carry. -/
def Dev.telemRoom (d : Dev) (dest : Nat) : Nat :=
  (match d.leavesOn (!d.laneUp 0) dest with
    | some l => d.maxPayload l
    | none => 2010) - 12

/-- One list is sent. -/
def telemList (n : Nat) (b : List Byte) (d : Dev) : Dev :=
  let dest := field b 0 2
  let level := max 1 (d.req.rights.levelOf dest)
  let room := d.telemRoom dest
  let r := (telemObjs b).foldl (fun (x : List (List Byte × Bool) × Dev) o =>
    let p := readItem level o.idx o.sub o.sel 0 0 x.2
    let a := telemAnswer room p.1
    (x.1 ++ [(o.name ++ a.bytes, a.poison)], p.2)) ([], d)
  let fs := packForward room r.1 ([], 0, false)
  let cycle := d.cycleNo
  let sent := fs.zipIdx.foldl (fun (d : Dev) f =>
    d.originate 5 20 dest none f.1.2.2 (be 1 n ++ be 1 f.2 ++ be 1 f.1.2.1 ++ [0] ++ be 8 cycle ++ f.1.1)) r.2
  sent.setReq (fun q => { q with telemSent := tset 0 q.telemSent n (tget 0 q.telemSent n + BitVec.ofNat 32 fs.length) })

/-- The lists whose period the cycle number that begins meets. -/
def Dev.telemTick (d : Dev) : Dev :=
  each d.cfg.req.telem (fun p d =>
    let k := field p.2 2 2
    if k = 0 ∨ d.cycleNo % (1024 * k) ≠ 0 then d else telemList p.1 p.2 d) d

end Sys2Proof.Machine
end

