-- ==== Sys2Proof/Machine/Tick.lean ====
section
/-! DEFINITION. TICK: the ordered actions of a tick, and what each block does at it (R17, R61, R294, R295, R351, R352). -/

namespace Sys2Proof.Machine

/-! ## The end of a cycle and the start of the next -/

/-- What the cycle that ends still has to do: the Calibration Unit's checks, the label table's step, the cycle's events,
captures of cycles without a sample, BANK_DIGEST. -/
def Dev.endCycle (d : Dev) (ended : Nat) : Dev :=
  (((d.curveChecks.labelTick).darkEvents).missedCaptures ended).digestTick

/-- A configuration that waits for this tick is in force from it (R51): the number that the tick's actions take is counted in its
periods. -/
def Dev.takeConf (d : Dev) (t : Nat) : Dev :=
  match d.cyc.next with
  | some c => if t % c.period = 0 then { d with cyc := { d.cyc with conf := c, next := none, changed := true } } else d
  | none => d

/-- A new cycle starts at a tick: its number follows from the tick (R17), its slots start anew (R49). -/
def Dev.openCycle (d : Dev) (t : Nat) : Dev :=
  let t := t % timeWrap
  let d := d.takeConf t
  let d := d.setTime (fun b => { b with prevTick := b.lastTick, lastTick := t, nextTick := ceilTo d.period (t + d.period) })
  { d with cyc := { d.cyc with
    ticks := d.cyc.ticks + 1, slot := 0, windowOpen := false, windowOn := d.cfg.cyc.tickWindow } }

/-! ## Roles (R351, R352, R363) -/

/-- STANDBY_ENTRY: the engine stops at once, the readout stands by. -/
def Dev.standBy (d : Dev) : Dev :=
  let d := d.stopLoop 2
  if d.rd.state = .run then { d with rd := { d.rd with state := .standby } } else d

/-- In standby duty the Checkpoint Unit applies the staged writes to the records. -/
def Dev.applyStaged (d : Dev) : Dev := each (d.loop.staged.map (fun s => s.elem)).eraseDups (fun e d => d.recordOnly e) d

/-- TOWER_ROLE is set, with what it brings: standby duty lasts until the unit wins (R352). -/
def Dev.roleTick (d : Dev) (lost : Bool) : Dev :=
  let was := d.tow.standing
  let r := d.roleAfter lost
  let on : Bool := r = 1 || (was && r ≠ 0)
  let d := d.setTow (fun t => { t with role := r, standing := on })
  if on then (if was then d else d.standBy).applyStaged else d

/-- Action 3: the claim result is applied; a takeover is noted for the commits it meets (R223). -/
def Dev.claimTick (d : Dev) : Dev :=
  let mate := d.mateTakes
  let lost : Bool := d.tow.role = 0 && mate
  let drove := d.driving
  let d := d.applyClaim
  let d := if mate || (!drove && d.driving && d.arr.wiredOn) then d.markTakeover else d
  d.roleTick lost

/-! ## Scheduled actions (R309) -/

/-- Entries of one action that are due act once, and all take its outcome. -/
def Dev.fireAction (d : Dev) (t action : Nat) (f : Dev → Resp × Dev) : Dev :=
  match (d.triggersDue t).filter (fun j => (d.trigger j).action = action) with
  | [] => d
  | js =>
    let p := f d
    each js (fun j d => d.endTrigger p.1 j) p.2

/-- TRIGGER_FIRE: DARK_CAPTURE, TRACE_FORCE and MARK; a snapshot is action 1. -/
def Dev.fireTriggers (d : Dev) (t : Nat) : Dev :=
  let mark := (d.triggersDue t).any (fun j => (d.trigger j).action = 4)
  let d := d.fireAction t 2 (fun d => darkCapture 1 d)
  let d := d.fireAction t 3 traceForce
  (d.fireAction t 4 (fun d => (.ok, d))).tickOutEdge mark

/-! ## Half rate (R61, R148, R410) -/

/-- An element runs at half rate in the cycle that begins. -/
def Dev.slow (d : Dev) (e : Nat) : Bool :=
  let r := d.record e
  r.mode = 0 && (d.cfg.loop.settleEntry + 64 ≤ r.settle : Bool) && !tget false d.loop.recordHold e
    && (tfind d.loop.softStart e).isNone && (tfind d.circ.jumpDue e).isNone && !d.jumpPending e
    && !(match d.circ.armed with
      | some a => a.marked.contains e
      | none => false)

/-- HALF_RATE_CHANGE. -/
def Dev.halfRateTick (d : Dev) : Dev :=
  let l := if d.therm.throttled && d.loop.state ≠ .stopped then d.used.filter d.slow else []
  { d with cyc := { d.cyc with halfRate := each l (fun e t => tset false t e true) [] } }

/-! ## The blocks at a tick -/

/-- A spare that has taken a column over at this tick loads the correction set of the column's gain (R169). -/
def Dev.loadSpares (d : Dev) (before : List (Nat × Nat)) : Dev :=
  each (d.drv.standIn.filter (fun p => !before.contains p)) (fun p d => d.loadCorr (256 + p.1) (d.gainOf p.2)) d

/-- The Column Drive: pages, late writes, declared contention, row lines, line faults, groups. -/
def Dev.driveTick (d : Dev) : Dev :=
  let before := d.drv.standIn
  (((d.swapPages.lateWrites.actContention.loadSpares before).rowTick).lineTick).groupTick

/-- The Loop Engine: lanes, the checker test, start and stop, throttling. -/
def Dev.engineTick (d : Dev) (missed : Bool) : Dev :=
  ((((d.countTick.laneTick).checkerTick missed).loopTick).throttleTick).halfRateTick

/-- Readout, calibration and the Label Decoder. -/
def Dev.sampleTick (d : Dev) : Dev :=
  ((((((d.readoutTick).sweepTick).refitTick).pairTick).countQuarter).labelPhases).decoderTick

/-- The Tower: self-test, duty, readiness, a Tower that nobody drives. -/
def Dev.towerTick (d : Dev) (selftest : Nat) : Dev :=
  ((((((d.selftestTick selftest).dutyTick).readinessTick).undrivenTick).wordAskTick).savedTick).rejoinTick

/-- Actions 2 to 7 of R17. -/
def Dev.tickActions (d : Dev) (t : Nat) : Dev :=
  let d := d.rightsTick.wiredTick.readoutRestart.claimTick
  let d := (d.verifyTick.commitTick).toneTick d.cycleNo
  let d := d.intervalTick.beginCapture
  ((d.fireTriggers t).rotationTick).darkTick

/-- What has come back: reference clocks, the timebase PLL, the cores with their heartbeat (R344, R397). -/
def Dev.returned (d : Dev) (env : TickEnv) : Dev :=
  { d with
    ev := { d.ev with
      refA := d.ev.refA || bit env.clocks.toNat 0, refB := d.ev.refB || bit env.clocks.toNat 1
      pllLocked := d.ev.pllLocked || bit env.clocks.toNat 2 }
    tow := { d.tow with
      coreHalted := d.tow.coreHalted && !env.heartbeat, heartbeatLost := d.tow.heartbeatLost && !env.heartbeat } }

/-- TICK. -/
def tick (env : TickEnv) (d : Dev) : Dev :=
  if d.boot.phase = .held then d
  else
    let d := d.returned env
    let ended := d.cycleNo
    let t := d.time.nextTick
    let p := ((d.advanceTo t).endCycle ended).snapshot t
    let d := (p.2.openCycle t).runTick.finishCapture
    let d := (d.traceTick p.1 ended).tickActions t
    let d := ((d.driveTick.engineTick env.checkerMissed).sampleTick).towerTick env.selftestFail.toNat
    ((d.stepWaiting.trafficTick).judgeGuarantee).telemTick

def execTick (env : TickEnv) (s : State) : Host.Outcome State Fault Refusal := s.upd (tick env)

end Sys2Proof.Machine
end

