-- ==== Sys2Proof/Machine/Dispatch.lean ====
section
/-! DEFINITION. One arm per command: the direct call of its meaning. -/

namespace Sys2Proof.Machine

/-- The effect of a command on everything but the queue. -/
def exec (i : Instr) (s : State) : Host.Outcome State Fault Refusal :=
  match i with
  | .tick env => Sys2Proof.Machine.execTick env s
  | .slot env => Sys2Proof.Machine.execSlot env s
  | .conversionComplete col convB raw => Sys2Proof.Machine.execConversionComplete col convB raw s
  | .converterTimeout col convB => Sys2Proof.Machine.execConverterTimeout col convB s
  | .claimWindowStart => Sys2Proof.Machine.execClaimWindowStart s
  | .claimWindowEnd va vb => Sys2Proof.Machine.execClaimWindowEnd va vb s
  | .outputRelease => Sys2Proof.Machine.execOutputRelease s
  | .tickWindowOpen => Sys2Proof.Machine.execTickWindowOpen s
  | .armingPoint => Sys2Proof.Machine.execArmingPoint s
  | .commitDone => Sys2Proof.Machine.execCommitDone s
  | .ffErrorRecord => Sys2Proof.Machine.execFfErrorRecord s
  | .bankCopy => Sys2Proof.Machine.execBankCopy s
  | .cycleApply v => Sys2Proof.Machine.execCycleApply v s
  | .cycleConfigEffect => Sys2Proof.Machine.execCycleConfigEffect s
  | .loadMeasure v drive monitor => Sys2Proof.Machine.execLoadMeasure v drive monitor s
  | .towerWiredWrite v => Sys2Proof.Machine.execTowerWiredWrite v s
  | .mateMissing => Sys2Proof.Machine.execMateMissing s
  | .auxPosition code => Sys2Proof.Machine.execAuxPosition code s
  | .injectRequest req => Sys2Proof.Machine.execInjectRequest req s
  | .idleCodeWrite v => Sys2Proof.Machine.execIdleCodeWrite v s
  | .rowFaultClear v => Sys2Proof.Machine.execRowFaultClear v s
  | .groupStop g => Sys2Proof.Machine.execGroupStop g s
  | .groupStopForced g => Sys2Proof.Machine.execGroupStopForced g s
  | .groupEnable g => Sys2Proof.Machine.execGroupEnable g s
  | .groupStopped g => Sys2Proof.Machine.execGroupStopped g s
  | .reverseLinearisation elem mismatch => Sys2Proof.Machine.execReverseLinearisation elem mismatch s
  | .laneUnfence v => Sys2Proof.Machine.execLaneUnfence v s
  | .laneSelftestDone lane pass => Sys2Proof.Machine.execLaneSelftestDone lane pass s
  | .loopStop => Sys2Proof.Machine.execLoopStop s
  | .loopStart => Sys2Proof.Machine.execLoopStart s
  | .recordFieldWrite elem field v => Sys2Proof.Machine.execRecordFieldWrite elem field v s
  | .modeWrite elem v => Sys2Proof.Machine.execModeWrite elem v s
  | .setpointRequest elem target rate => Sys2Proof.Machine.execSetpointRequest elem target rate s
  | .traceArm => Sys2Proof.Machine.execTraceArm s
  | .traceForce => Sys2Proof.Machine.execTraceForce s
  | .traceDisarm => Sys2Proof.Machine.execTraceDisarm s
  | .calPointsWrite elem points => Sys2Proof.Machine.execCalPointsWrite elem points s
  | .darkCapture v => Sys2Proof.Machine.execDarkCapture v s
  | .darkCaptureDone => Sys2Proof.Machine.execDarkCaptureDone s
  | .rotationStepEnd g m => Sys2Proof.Machine.execRotationStepEnd g m s
  | .spareMoveDeferred g => Sys2Proof.Machine.execSpareMoveDeferred g s
  | .calColumnSkipped g => Sys2Proof.Machine.execCalColumnSkipped g s
  | .calColumnRequest col => Sys2Proof.Machine.execCalColumnRequest col s
  | .calRotationStop => Sys2Proof.Machine.execCalRotationStop s
  | .calRotationStart => Sys2Proof.Machine.execCalRotationStart s
  | .sweepRequest elem force => Sys2Proof.Machine.execSweepRequest elem force s
  | .sweepStart => Sys2Proof.Machine.execSweepStart s
  | .sweepEnd elem => Sys2Proof.Machine.execSweepEnd elem s
  | .sweepCancel elem => Sys2Proof.Machine.execSweepCancel elem s
  | .refitWindowClose elem => Sys2Proof.Machine.execRefitWindowClose elem s
  | .calPointsForward elem => Sys2Proof.Machine.execCalPointsForward elem s
  | .fabricBlockWrite block bytes => Sys2Proof.Machine.execFabricBlockWrite block bytes s
  | .fabricApply v => Sys2Proof.Machine.execFabricApply v s
  | .fabricInForce => Sys2Proof.Machine.execFabricInForce s
  | .solveStrict => Sys2Proof.Machine.execSolveStrict s
  | .solvePermissive => Sys2Proof.Machine.execSolvePermissive s
  | .solveDone time => Sys2Proof.Machine.execSolveDone time s
  | .rawTargetWrite elem bytes => Sys2Proof.Machine.execRawTargetWrite elem bytes s
  | .circuitNextWrite k bytes => Sys2Proof.Machine.execCircuitNextWrite k bytes s
  | .circuitBatch bytes => Sys2Proof.Machine.execCircuitBatch bytes s
  | .nextResetCopy => Sys2Proof.Machine.execNextResetCopy s
  | .nextResetClear => Sys2Proof.Machine.execNextResetClear s
  | .portAttenWrite port bytes => Sys2Proof.Machine.execPortAttenWrite port bytes s
  | .commit req => Sys2Proof.Machine.execCommit req s
  | .commitCancel v => Sys2Proof.Machine.execCommitCancel v s
  | .verifyEnableWrite v => Sys2Proof.Machine.execVerifyEnableWrite v s
  | .verifyTimeout k => Sys2Proof.Machine.execVerifyTimeout k s
  | .quarterBit => Sys2Proof.Machine.execQuarterBit s
  | .labelGone chan pair => Sys2Proof.Machine.execLabelGone chan pair s
  | .learnReadIndexWrite v => Sys2Proof.Machine.execLearnReadIndexWrite v s
  | .labelInsert cmd => Sys2Proof.Machine.execLabelInsert cmd s
  | .labelDelete cmd => Sys2Proof.Machine.execLabelDelete cmd s
  | .labelSearch cmd => Sys2Proof.Machine.execLabelSearch cmd s
  | .labelNext cmd => Sys2Proof.Machine.execLabelNext cmd s
  | .flushByPort cmd => Sys2Proof.Machine.execFlushByPort cmd s
  | .flushByPortDone => Sys2Proof.Machine.execFlushByPortDone s
  | .agingPassStart => Sys2Proof.Machine.execAgingPassStart s
  | .decoderStop => Sys2Proof.Machine.execDecoderStop s
  | .decoderStart => Sys2Proof.Machine.execDecoderStart s
  | .decoderStopped => Sys2Proof.Machine.execDecoderStopped s
  | .pairWrite pair f0 f1 enable => Sys2Proof.Machine.execPairWrite pair f0 f1 enable s
  | .labelCommandForward => Sys2Proof.Machine.execLabelCommandForward s
  | .frameReceive lane frame => Sys2Proof.Machine.execFrameReceive lane frame s
  | .helloSend lane => Sys2Proof.Machine.execHelloSend lane s
  | .helloReceive lane payload => Sys2Proof.Machine.execHelloReceive lane payload s
  | .helloTimeout lane => Sys2Proof.Machine.execHelloTimeout lane s
  | .linkLockLoss loss => Sys2Proof.Machine.execLinkLockLoss loss s
  | .enumStart v => Sys2Proof.Machine.execEnumStart v s
  | .enumCount lane msg => Sys2Proof.Machine.execEnumCount lane msg s
  | .enumCountReply lane msg => Sys2Proof.Machine.execEnumCountReply lane msg s
  | .enumAssign lane msg => Sys2Proof.Machine.execEnumAssign lane msg s
  | .enumAssignDone lane msg => Sys2Proof.Machine.execEnumAssignDone lane msg s
  | .enumChildTimeout lane => Sys2Proof.Machine.execEnumChildTimeout lane s
  | .laneDisable lane => Sys2Proof.Machine.execLaneDisable lane s
  | .laneEnable lane => Sys2Proof.Machine.execLaneEnable lane s
  | .laneDisabled lane => Sys2Proof.Machine.execLaneDisabled lane s
  | .bspiWriteRequest length body => Sys2Proof.Machine.execBspiWriteRequest length body s
  | .bspiReadStatus => Sys2Proof.Machine.execBspiReadStatus s
  | .bspiReadResponse => Sys2Proof.Machine.execBspiReadResponse s
  | .bspiCsAbort shortWrite => Sys2Proof.Machine.execBspiCsAbort shortWrite s
  | .schedulerSelect lane => Sys2Proof.Machine.execSchedulerSelect lane s
  | .shaperRateWrite x v => Sys2Proof.Machine.execShaperRateWrite x v s
  | .shaperBurstWrite x v => Sys2Proof.Machine.execShaperBurstWrite x v s
  | .meterProfileWrite cls cir cbs pir pbs => Sys2Proof.Machine.execMeterProfileWrite cls cir cbs pir pbs s
  | .meterInstanceFree src cls => Sys2Proof.Machine.execMeterInstanceFree src cls s
  | .histClear v => Sys2Proof.Machine.execHistClear v s
  | .timeSyncSend => Sys2Proof.Machine.execTimeSyncSend s
  | .timeSyncReceive lane t1 queued msg => Sys2Proof.Machine.execTimeSyncReceive lane t1 queued msg s
  | .delayReqSend => Sys2Proof.Machine.execDelayReqSend s
  | .delayReqReceive lane seq queued => Sys2Proof.Machine.execDelayReqReceive lane seq queued s
  | .delayRespReceive lane msg => Sys2Proof.Machine.execDelayRespReceive lane msg s
  | .timeStep => Sys2Proof.Machine.execTimeStep s
  | .parentLost => Sys2Proof.Machine.execParentLost s
  | .holdoverExpired => Sys2Proof.Machine.execHoldoverExpired s
  | .timeSet secs nanos => Sys2Proof.Machine.execTimeSet secs nanos s
  | .timeSourceWrite v => Sys2Proof.Machine.execTimeSourceWrite v s
  | .ppsInEdge => Sys2Proof.Machine.execPpsInEdge s
  | .ppsHoldover => Sys2Proof.Machine.execPpsHoldover s
  | .triggerSchedule j trig => Sys2Proof.Machine.execTriggerSchedule j trig s
  | .triggerCancel j => Sys2Proof.Machine.execTriggerCancel j s
  | .snapNow v => Sys2Proof.Machine.execSnapNow v s
  | .snapInEdge => Sys2Proof.Machine.execSnapInEdge s
  | .requestReceive req => Sys2Proof.Machine.execRequestReceive req s
  | .registerWrite level obj v => Sys2Proof.Machine.execRegisterWrite level obj v s
  | .describe obj => Sys2Proof.Machine.execDescribe obj s
  | .domainPartWrite src level obj offset bytes more => Sys2Proof.Machine.execDomainPartWrite src level obj offset bytes more s
  | .assemblyTimeout src => Sys2Proof.Machine.execAssemblyTimeout src s
  | .windowFree src => Sys2Proof.Machine.execWindowFree src s
  | .rightsWrite w => Sys2Proof.Machine.execRightsWrite w s
  | .checkpointSend => Sys2Proof.Machine.execCheckpointSend s
  | .checkpointReceive chunk poison => Sys2Proof.Machine.execCheckpointReceive chunk poison s
  | .checkpointSeal msg => Sys2Proof.Machine.execCheckpointSeal msg s
  | .imageResident => Sys2Proof.Machine.execImageResident s
  | .imageAck imageCycle => Sys2Proof.Machine.execImageAck imageCycle s
  | .wordRequest elem sync => Sys2Proof.Machine.execWordRequest elem sync s
  | .wordReply elem status imageCycle word => Sys2Proof.Machine.execWordReply elem status imageCycle word s
  | .mateHealthSend => Sys2Proof.Machine.execMateHealthSend s
  | .mateHealthReceive msg => Sys2Proof.Machine.execMateHealthReceive msg s
  | .mateSyncCalPoints sync elem points poison => Sys2Proof.Machine.execMateSyncCalPoints sync elem points poison s
  | .mateSyncLabelCommand sync cmd poison => Sys2Proof.Machine.execMateSyncLabelCommand sync cmd poison s
  | .mateSyncAck sync => Sys2Proof.Machine.execMateSyncAck sync s
  | .mateSyncResend sync => Sys2Proof.Machine.execMateSyncResend sync s
  | .mateSyncLost sync => Sys2Proof.Machine.execMateSyncLost sync s
  | .yieldReq => Sys2Proof.Machine.execYieldReq s
  | .yieldForced => Sys2Proof.Machine.execYieldForced s
  | .yieldTimeout => Sys2Proof.Machine.execYieldTimeout s
  | .towerDutyDisable => Sys2Proof.Machine.execTowerDutyDisable s
  | .towerDutyEnable => Sys2Proof.Machine.execTowerDutyEnable s
  | .claimLineClear v => Sys2Proof.Machine.execClaimLineClear v s
  | .claimLineMaskWrite v => Sys2Proof.Machine.execClaimLineMaskWrite v s
  | .memoryUe addr finder flips => Sys2Proof.Machine.execMemoryUe addr finder flips s
  | .correctiveWriteback addr => Sys2Proof.Machine.execCorrectiveWriteback addr s
  | .mergeRetire flips => Sys2Proof.Machine.execMergeRetire flips s
  | .ceLeak => Sys2Proof.Machine.execCeLeak s
  | .scrubRead flips => Sys2Proof.Machine.execScrubRead flips s
  | .bankStoreScrubRead flips => Sys2Proof.Machine.execBankStoreScrubRead flips s
  | .scrubStart => Sys2Proof.Machine.execScrubStart s
  | .scrubStop => Sys2Proof.Machine.execScrubStop s
  | .scrubAutoPass => Sys2Proof.Machine.execScrubAutoPass s
  | .recordRebuild elem settingsOk => Sys2Proof.Machine.execRecordRebuild elem settingsOk s
  | .windowModeWrite v => Sys2Proof.Machine.execWindowModeWrite v s
  | .compatLoad v => Sys2Proof.Machine.execCompatLoad v s
  | .repairRow mac row => Sys2Proof.Machine.execRepairRow mac row s
  | .repairAuto mac row => Sys2Proof.Machine.execRepairAuto mac row s
  | .repairFuseDone => Sys2Proof.Machine.execRepairFuseDone s
  | .coreDataAbort addr inRequest => Sys2Proof.Machine.execCoreDataAbort addr inRequest s
  | .heartbeatMissing halted => Sys2Proof.Machine.execHeartbeatMissing halted s
  | .deviceRestart v => Sys2Proof.Machine.execDeviceRestart v s
  | .refclkLoss which => Sys2Proof.Machine.execRefclkLoss which s
  | .eventSummary => Sys2Proof.Machine.execEventSummary s
  | .eventSend => Sys2Proof.Machine.execEventSend s
  | .faultLogCopy => Sys2Proof.Machine.execFaultLogCopy s
  | .eventReadIndexWrite v => Sys2Proof.Machine.execEventReadIndexWrite v s
  | .faultLogClear v => Sys2Proof.Machine.execFaultLogClear v s
  | .faultAck v => Sys2Proof.Machine.execFaultAck v s
  | .dieSensorSample readings => Sys2Proof.Machine.execDieSensorSample readings s
  | .thermalRestart v => Sys2Proof.Machine.execThermalRestart v s
  | .railOutOfRange rail => Sys2Proof.Machine.execRailOutOfRange rail s
  | .railFault rail => Sys2Proof.Machine.execRailFault rail s
  | .railRecovered rail => Sys2Proof.Machine.execRailRecovered rail s
  | .pumpFault pump => Sys2Proof.Machine.execPumpFault pump s
  | .pumpRestart pump => Sys2Proof.Machine.execPumpRestart pump s
  | .resetAssert => Sys2Proof.Machine.execResetAssert s
  | .resetRelease straps => Sys2Proof.Machine.execResetRelease straps s
  | .boot => Sys2Proof.Machine.execBoot s
  | .firmwareStart => Sys2Proof.Machine.execFirmwareStart s
  | .startComplete => Sys2Proof.Machine.execStartComplete s
  | .savedDutyRestore => Sys2Proof.Machine.execSavedDutyRestore s
  | .savedStateWrite => Sys2Proof.Machine.execSavedStateWrite s
  | .firmwareBlock block bytes => Sys2Proof.Machine.execFirmwareBlock block bytes s
  | .firmwareApply v => Sys2Proof.Machine.execFirmwareApply v s
  | .securityVersionCommit v => Sys2Proof.Machine.execSecurityVersionCommit v s
  | .deviceReset v => Sys2Proof.Machine.execDeviceReset v s
  | .ownerKeyInstall key => Sys2Proof.Machine.execOwnerKeyInstall key s
  | .attestNonce nonce => Sys2Proof.Machine.execAttestNonce nonce s
  | .savedStateErase v => Sys2Proof.Machine.execSavedStateErase v s
  | .rejoin v => Sys2Proof.Machine.execRejoin v s
  | .rejoinComplete data => Sys2Proof.Machine.execRejoinComplete data s
  | .blockLockGained lane => Sys2Proof.Machine.execBlockLockGained lane s
  | .pumpRegulating pump => Sys2Proof.Machine.execPumpRegulating pump s
  | .timebasePllUnlock => Sys2Proof.Machine.execTimebasePllUnlock s
  | .enumAssignTimeout => Sys2Proof.Machine.execEnumAssignTimeout s

end Sys2Proof.Machine
end

