-- ==== Sys2Proof/Machine/Step.lean ====
section
/-! DEFINITION. One step: the command at the front of the queue, or one timebase clock when none waits. -/

namespace Sys2Proof.Machine

/-- The state without the command at the front of its queue. -/
def State.rest (s : State) (q : List Instr) : State := { s with pending := q }

/-- One timebase clock passes (R292): the clock counts on, except while RESET_N holds it. -/
def State.idle (s : State) : State :=
  if s.dev.boot.phase = .held then s else { s with dev := s.dev.setTime Belfry.clock }

/-- A step carries out the command at the front of the queue with the rest still queued; on an empty queue
one timebase clock passes (R292; log entry 1). -/
def step (s : State) : Host.Outcome State Fault Refusal :=
  match s.pending with
  | [] => .next s.idle
  | c :: q => exec c (s.rest q)

/-- The state with the command a table word spells at the front of its queue; no word spells one. -/
def State.withFetchWord (s : State) (nbits w : Nat) : State :=
  match Sys2Proof.decodeTableWord nbits w with
  | some c => { s with pending := c :: s.pending }
  | none => s

end Sys2Proof.Machine
end

