-- ==== Sys2Proof/Safety.lean ====
section
/-! DEFINITION. The terms the claims use: what a command answers, and what a sound device is (the cycle configuration obeys
its rules, R47 to R49; memory keeps its canonical form, R372). -/

namespace Sys2Proof.Machine

/-! ## What a command answers -/

/-- Command c, carried out on s, answers a next state: the device d and the same queue. -/
def Gives (c : Instr) (s : State) (d : Dev) : Prop := exec c s = .next { s with dev := d }

/-- Command c, carried out on s, answers a next state whose device is as P says, and the same queue. -/
def Completes (c : Instr) (s : State) (P : Dev → Prop) : Prop := ∃ d, Gives c s d ∧ P d

/-- Command c, carried out on s, is answered with code r (R325) and leaves the device d, the answer apart. -/
def Answers (c : Instr) (s : State) (r : Resp) (d : Dev) : Prop := Gives c s (d.reply r)

/-- Command c, carried out on s, is refused with code r and changes nothing but the answer. -/
def Refuses (c : Instr) (s : State) (r : Resp) : Prop := Answers c s r s.dev

/-- Command c, carried out on s, is answered with code r and leaves a device as P says. -/
def Replies (c : Instr) (s : State) (r : Resp) (P : Dev → Prop) : Prop := ∃ d, Answers c s r d ∧ P d

/-! ## Frames sent -/

/-- A frame of the controller's own (R257, R258, R268). -/
def Dev.ownFrame (d : Dev) (cls typ dest : Nat) (payload : List Byte) : Frame :=
  mkFrame cls typ dest d.net.address d.net.seq.toNat (!d.laneUp 0) false payload

/-- The class's queue on lane l has room for the frame (R279). -/
def Dev.hasRoom (d : Dev) (l cls : Nat) (f : Frame) : Prop := (d.lane l).depth cls + f.size ≤ d.queueLimit (8 * l + cls)

/-- From s to d the class's queue on lane l has grown by the frame, and the frame sequence number by 1. -/
def Queued (s d : Dev) (l cls : Nat) (f : Frame) : Prop :=
  tget [] (d.lane l).queues cls = tget [] (s.lane l).queues cls ++ [{ frame := f, at_ := s.time.up }]
    ∧ d.net.seq = s.net.seq + 1

/-! ## A sound device -/

/-- The cycle configuration in force and the one that waits for its common tick obey R47 to R49, and the next slot is one
of the present cycle's or follows its last (R49). -/
def Cycle.legal (c : Cycle) : Bool := c.conf.good && c.next.all CycleConf.good && c.slot ≤ c.conf.rows + c.conf.idle

/-- The SRAM keeps its canonical form (R372), and its merge buffer holds at most 8 entries (R375). -/
def Mem.sound (m : Mem) : Bool := m.wf && m.merge.length ≤ 8

/-- Every field of a record fits its place in the record's words (R107). -/
def Rec.fits (r : Rec) : Bool :=
  let u (n v : Nat) : Bool := v < 2 ^ n
  let i (n : Nat) (v : Int) : Bool := -(2 ^ (n - 1) : Int) ≤ v && v < (2 ^ (n - 1) : Int)
  u 2 r.kind && u 3 r.mode && u 4 r.tone && u 4 r.zone && u 15 r.monA && u 15 r.monB && u 15 r.drive
    && i 16 r.kp && i 16 r.ki && u 8 r.demodPhase && u 4 r.demodLog2 && u 12 r.codeSlew && u 8 r.feTimer
    && i 24 r.phiMin && i 24 r.phiMax && u 16 r.feLimit && i 24 r.phiFF && u 20 r.spTarget && u 20 r.spWork
    && u 16 r.spRate && u 20 r.darkTh && u 14 r.manualCode && u 14 r.codeND && i 32 r.integ && i 32 r.demodAcc
    && i 24 r.phiOut && u 16 r.mRef && u 10 r.demodCount && u 14 r.codeOut && i 17 r.eLast && u 8 r.feCount
    && u 7 r.settle && u 12 r.flags && u 20 r.meas

/-! ## Settings of the register table -/

/-- A number that the register table says is read and written, within a range and nothing more: its index and sub-index, the
range, and the setting it is for selector x (0 where it takes none). -/
structure Setting where
  idx : Nat
  sub : Nat
  low : Int
  high : Int
  put : Nat → Int → Cfg → Cfg

/-- Identity and time (R314, R315, R340). -/
def plainIdentity : List Setting := [
  ⟨0x1100, 0x02, 0, 4294967295, fun _ v c => { c with req := { c.req with systemId := BitVec.ofNat 32 v.toNat } }⟩,
  ⟨0x1100, 0x03, 0, 65535, fun _ v c => { c with req := { c.req with domainId := BitVec.ofNat 16 v.toNat } }⟩,
  ⟨0x2000, 0x18, -7, 0, fun _ v c => { c with time := { c.time with syncLog2 := v } }⟩,
  ⟨0x2000, 0x19, -7, 2, fun _ v c => { c with time := { c.time with delayReqLog2 := v } }⟩,
  ⟨0x2000, 0x1A, 0, 60000, fun _ v c => { c with time := { c.time with holdoverLimit := v.toNat } }⟩,
  ⟨0x2000, 0x1B, -500, 500, fun x v c => { c with time := { c.time with asymTrim := tset 0 c.time.asymTrim x v } }⟩,
  ⟨0x2000, 0x1D, 0, 65535, fun _ v c => { c with time := { c.time with tickOutDiv := v.toNat } }⟩,
  ⟨0x2100, 0x05, 0, 1, fun _ v c => { c with time := { c.time with snapInEnable := v = 1 } }⟩,
  ⟨0x2100, 0x06, 0, 1, fun _ v c => { c with time := { c.time with snapLock := v = 1 } }⟩]

/-- Links and traffic (R276, R277, R291). -/
def plainLinks : List Setting := [
  ⟨0x3000, 0x03, 0, 1, fun x v c => { c with net := { c.net with laneRate := tins c.net.laneRate x v.toNat } }⟩,
  ⟨0x3000, 0x09, 0, 65535, fun _ v c => { c with net := { c.net with etherType := v.toNat } }⟩,
  ⟨0x3000, 0x0A, 100, 10000, fun _ v c => { c with net := { c.net with helloPeriod := v.toNat } }⟩,
  ⟨0x3100, 0x05, 0, 65535, fun _ v c => { c with net := { c.net with domainBase := v.toNat } }⟩,
  ⟨0x3100, 0x06, 0, 65535, fun _ v c => { c with net := { c.net with domainSize := v.toNat } }⟩,
  ⟨0x3100, 0x08, 0, 65535, fun _ v c => { c with net := { c.net with spareAddresses := v.toNat } }⟩,
  ⟨0x3200, 0x10, 0, 1, fun x v c => { c with traf := { c.traf with meterOn := tset false c.traf.meterOn x (v = 1) } }⟩]

/-- Arrays, loops and calibration (R46, R103, R155, R157, R183). -/
def plainArrays : List Setting := [
  ⟨0x4000, 0x10, 1, 4294967295, fun x v c => { c with arr := { c.arr with nomRes := tset 10000 c.arr.nomRes x v.toNat } }⟩,
  ⟨0x4000, 0x11, 1, 65535, fun x v c => { c with arr := { c.arr with beta := tset 3435 c.arr.beta x v.toNat } }⟩,
  ⟨0x4000, 0x12, 0, 15, fun x v c => { c with arr := { c.arr with fallback := tins c.arr.fallback x v.toNat } }⟩,
  ⟨0x4200, 0x01, -128, 127, fun x v c => { c with drv := { c.drv with offsetTrim := tset 0 c.drv.offsetTrim x v } }⟩,
  ⟨0x4200, 0x02, -128, 127, fun x v c => { c with drv := { c.drv with gainTrim := tset 0 c.drv.gainTrim x v } }⟩,
  ⟨0x4200, 0x06, 50, 2000, fun _ v c => { c with drv := { c.drv with contentionLimit := v.toNat } }⟩,
  ⟨0x5000, 0x10, 1, 63, fun _ v c => { c with loop := { c.loop with settleEntry := v.toNat } }⟩,
  ⟨0x5200, 0x02, 0, 18446744073709551615, fun _ v c => { c with trace := { c.trace with nodes := BitVec.ofNat 64 v.toNat } }⟩,
  ⟨0x5200, 0x03, 0, 1, fun _ v c => { c with trace := { c.trace with mode := v.toNat } }⟩,
  ⟨0x5200, 0x04, 0, 65535, fun _ v c => { c with trace := { c.trace with post := v.toNat } }⟩,
  ⟨0x5200, 0x05, 1, 256, fun _ v c => { c with trace := { c.trace with decimate := v.toNat } }⟩,
  ⟨0x5200, 0x06, 0, 63, fun _ v c => { c with trace := { c.trace with trigger := BitVec.ofNat 8 v.toNat } }⟩,
  ⟨0x5300, 0x04, 2, 255, fun _ v c => { c with cal := { c.cal with entrySlew := v.toNat } }⟩,
  ⟨0x5300, 0x15, 0, 65535, fun _ v c => { c with cal := { c.cal with driftOffset := v.toNat } }⟩,
  ⟨0x5300, 0x16, 0, 65535, fun _ v c => { c with cal := { c.cal with driftGain := v.toNat } }⟩,
  ⟨0x5300, 0x31, 1024, 16384, fun _ v c => { c with cal := { c.cal with refitWindow := v.toNat } }⟩,
  ⟨0x5300, 0x32, 0, 255, fun _ v c => { c with cal := { c.cal with refitA0Max := v.toNat } }⟩,
  ⟨0x5300, 0x33, 0, 255, fun _ v c => { c with cal := { c.cal with refitDeadband := v.toNat } }⟩,
  ⟨0x5300, 0x34, 0, 255, fun _ v c => { c with cal := { c.cal with refitSlopeTol := v.toNat } }⟩]

/-- Circuits, labels, memory, tower and events (R207, R229, R230, R251, R370, R390, R405). -/
def plainCircuits : List Setting := [
  ⟨0x6000, 0x02, 0, 524288, fun _ v c => { c with fab := { c.fab with length := v.toNat } }⟩,
  ⟨0x6200, 0x09, 0, 1, fun _ v c => { c with circ := { c.circ with rejectStale := v = 1 } }⟩,
  ⟨0x6300, 0x01, 0, 1, fun _ v c => { c with ver := { c.ver with enable := v = 1 } }⟩,
  ⟨0x6300, 0x02, 250, 2000, fun _ v c => { c with ver := { c.ver with timeout := v.toNat } }⟩,
  ⟨0x7000, 0x03, 0, 65535, fun _ v c => { c with dec := { c.dec with minLevel := v.toNat } }⟩,
  ⟨0x7000, 0x04, 0, 1, fun _ v c => { c with dec := { c.dec with learnMode := v.toNat } }⟩,
  ⟨0x8000, 0x05, 0, 65535, fun x v c => { c with mem := { c.mem with ceThreshold := tset 64 c.mem.ceThreshold x v.toNat } }⟩,
  ⟨0x8000, 0x06, 1, 60000, fun _ v c => { c with mem := { c.mem with ceLeakInterval := v.toNat } }⟩,
  ⟨0x8000, 0x11, 1, 16384, fun _ v c => { c with mem := { c.mem with scrubRate := v.toNat } }⟩,
  ⟨0x8000, 0x15, 0, 1, fun _ v c => { c with mem := { c.mem with scrubAuto := v = 1 } }⟩,
  ⟨0x8000, 0x30, 0, 1, fun _ v c => { c with mem := { c.mem with repairAuto := v = 1 } }⟩,
  ⟨0x8000, 0x31, 1, 255, fun _ v c => { c with mem := { c.mem with repairThreshold := v.toNat } }⟩,
  ⟨0x9000, 0x03, 0, 255, fun _ v c => { c with tow := { c.tow with rank := v.toNat } }⟩,
  ⟨0x9000, 0x11, 0, 1, fun _ v c => { c with tow := { c.tow with enable := v = 1 } }⟩,
  ⟨0x9000, 0x12, 64, 16384, fun _ v c => { c with tow := { c.tow with freshLimit := v.toNat } }⟩,
  ⟨0xB000, 0x05, 0, 65535, fun _ v c => { c with ev := { c.ev with dest := BitVec.ofNat 16 v.toNat } }⟩,
  ⟨0xB000, 0x06, 0, 3, fun _ v c => { c with ev := { c.ev with irqLevel := v.toNat } }⟩,
  ⟨0xB000, 0x10, 1, 255, fun _ v c => { c with ev := { c.ev with suppressLimit := v.toNat } }⟩]

/-- Settings that keep a number of their range and change nothing else. -/
def plainSettings : List Setting := plainIdentity ++ plainLinks ++ plainArrays ++ plainCircuits

end Sys2Proof.Machine
end

