-- ==== Sys2Proof/WellFormed.lean ====
section
/-! DEFINITION. Well-formedness of a command's operands: what the frames, objects and pins that carry them can hold.
Operands of a fixed width cannot be ill-formed; the checks are on lists and numbers without a width. A value that can
be carried and that a rule refuses is well-formed: its meaning answers the refusal. -/

namespace Sys2Proof

/-- v lies between lo and hi. -/
def within (lo hi v : Int) : Bool := lo ≤ v && v ≤ hi

/-- A list of numbers below n, none twice. -/
def places (n : Nat) (l : List Nat) : Bool := l.all (fun x => x < n) && l.Nodup

/-- A DOMAIN holds at most 2,048 bytes (R330). -/
def domain (l : List Byte) : Bool := l.length ≤ 2048

/-- Bits of a stored word: 64 and 8 check bits under the native code (R373), 8 times 8 and 5 under PER_BYTE (R377). -/
def bitPlaces (l : List Nat) : Bool := places 104 l

/-- Elements, columns and row lines that exist (R9, R96). -/
def SlotEnv.wf (e : SlotEnv) : Bool :=
  places 32768 e.residue && places 32768 (e.latePoison.map Prod.fst) && places 256 (e.pads.map PadReading.col)
    && places 256 e.rowLow && places 256 e.rowHigh && places 32768 e.late && places 256 e.parityOne && places 256 e.parityBoth

/-- Sums of at most 256 codes of 14 bits (R168). -/
def StepMeasure.wf (m : StepMeasure) : Bool :=
  m.n ≤ 256
    && [m.zeroA.1, m.zeroA.2.1, m.zeroA.2.2, m.fullA.1, m.fullA.2.1, m.fullA.2.2,
        m.zeroB.1, m.zeroB.2.1, m.zeroB.2.2, m.fullB.1, m.fullB.2.1, m.fullB.2.2].all (fun s => s ≤ 16383 * m.n)

/-- A value fits the widest type of its kind (R317). -/
def ObjVal.wf : ObjVal → Bool
  | .num v => within (-(2 ^ 63)) (2 ^ 64 - 1) v
  | .time secs nanos => secs < 2 ^ 48 && nanos < 2 ^ 32
  | .bytes b => domain b

/-- Circuits, elements and the digest have their widths (R209, R359, R435). -/
def RejoinData.wf (d : RejoinData) : Bool :=
  d.entries.all (fun e => e.1 < 1024 && e.2.length == 16) && d.targets.all (fun t => t.1 < 32768)
    && d.bankDigest.length == 48

/-- A command's operands can be carried. -/
def Instr.wellFormed : Instr → Bool
  | .tick _ => true
  | .slot env => env.wf
  | .conversionComplete _ _ _ => true
  | .converterTimeout _ _ => true
  | .claimWindowStart => true
  | .claimWindowEnd _ _ => true
  | .outputRelease => true
  | .tickWindowOpen => true
  | .armingPoint => true
  | .commitDone => true
  | .ffErrorRecord => true
  | .bankCopy => true
  | .cycleApply _ => true
  | .cycleConfigEffect => true
  | .loadMeasure _ drive monitor => drive.length == 264 && monitor.length == 264
  | .towerWiredWrite _ => true
  | .mateMissing => true
  | .auxPosition _ => true
  | .injectRequest _ => true
  | .idleCodeWrite _ => true
  | .rowFaultClear _ => true
  | .groupStop _ => true
  | .groupStopForced _ => true
  | .groupEnable _ => true
  | .groupStopped _ => true
  | .reverseLinearisation _ _ => true
  | .laneUnfence _ => true
  | .laneSelftestDone _ _ => true
  | .loopStop => true
  | .loopStart => true
  | .recordFieldWrite _ _ v => within (-(2 ^ 31)) (2 ^ 32 - 1) v
  | .modeWrite _ _ => true
  | .setpointRequest _ _ _ => true
  | .traceArm => true
  | .traceForce => true
  | .traceDisarm => true
  | .calPointsWrite _ points => domain points
  | .darkCapture _ => true
  | .darkCaptureDone => true
  | .rotationStepEnd _ m => m.wf
  | .spareMoveDeferred _ => true
  | .calColumnSkipped _ => true
  | .calColumnRequest _ => true
  | .calRotationStop => true
  | .calRotationStart => true
  | .sweepRequest _ _ => true
  | .sweepStart => true
  | .sweepEnd _ => true
  | .sweepCancel _ => true
  | .refitWindowClose _ => true
  | .calPointsForward _ => true
  | .fabricBlockWrite _ bytes => domain bytes
  | .fabricApply _ => true
  | .fabricInForce => true
  | .solveStrict => true
  | .solvePermissive => true
  | .solveDone time => time < 2 ^ 32
  | .rawTargetWrite _ bytes => domain bytes
  | .circuitNextWrite _ bytes => domain bytes
  | .circuitBatch bytes => domain bytes
  | .nextResetCopy => true
  | .nextResetClear => true
  | .portAttenWrite _ bytes => domain bytes
  | .commit _ => true
  | .commitCancel _ => true
  | .verifyEnableWrite _ => true
  | .verifyTimeout _ => true
  | .quarterBit => true
  | .labelGone _ _ => true
  | .learnReadIndexWrite _ => true
  | .labelInsert _ => true
  | .labelDelete _ => true
  | .labelSearch _ => true
  | .labelNext _ => true
  | .flushByPort _ => true
  | .flushByPortDone => true
  | .agingPassStart => true
  | .decoderStop => true
  | .decoderStart => true
  | .decoderStopped => true
  | .pairWrite _ _ _ _ => true
  | .labelCommandForward => true
  | .frameReceive _ frame => frame.rx.align ≤ 2048
  | .helloSend _ => true
  | .helloReceive _ payload => payload.length == 24
  | .helloTimeout _ => true
  | .linkLockLoss _ => true
  | .enumStart _ => true
  | .enumCount _ _ => true
  | .enumCountReply _ _ => true
  | .enumAssign _ _ => true
  | .enumAssignDone _ _ => true
  | .enumChildTimeout _ => true
  | .laneDisable _ => true
  | .laneEnable _ => true
  | .laneDisabled _ => true
  | .bspiWriteRequest _ body => body.length ≤ 2 ^ 16 - 1
  | .bspiReadStatus => true
  | .bspiReadResponse => true
  | .bspiCsAbort _ => true
  | .schedulerSelect _ => true
  | .shaperRateWrite _ _ => true
  | .shaperBurstWrite _ _ => true
  | .meterProfileWrite _ _ _ _ _ => true
  | .meterInstanceFree _ _ => true
  | .histClear _ => true
  | .timeSyncSend => true
  | .timeSyncReceive _ _ queued msg => within (-128) 127 msg.syncLog2 && queued.nanos < 1000000000
  | .delayReqSend => true
  | .delayReqReceive _ _ queued => queued.nanos < 1000000000
  | .delayRespReceive _ msg => msg.nanos < 1000000000
  | .timeStep => true
  | .parentLost => true
  | .holdoverExpired => true
  | .timeSet _ _ => true
  | .timeSourceWrite _ => true
  | .ppsInEdge => true
  | .ppsHoldover => true
  | .triggerSchedule _ _ => true
  | .triggerCancel _ => true
  | .snapNow _ => true
  | .snapInEdge => true
  | .requestReceive req => req.body.length ≤ 2010
  | .registerWrite _ _ v => v.wf
  | .describe _ => true
  | .domainPartWrite _ _ _ offset bytes _ => offset < 2 ^ 16 && domain bytes
  | .assemblyTimeout _ => true
  | .windowFree _ => true
  | .rightsWrite _ => true
  | .checkpointSend => true
  | .checkpointReceive chunk _ => chunk.words.length ≤ 240
  | .checkpointSeal msg => msg.bankDigest.length == 48 && msg.imageDigest.length == 48 && msg.fabricDigest.length == 48
  | .imageResident => true
  | .imageAck imageCycle => imageCycle < 2 ^ 64
  | .wordRequest _ _ => true
  | .wordReply _ _ imageCycle _ => imageCycle < 2 ^ 64
  | .mateHealthSend => true
  | .mateHealthReceive _ => true
  | .mateSyncCalPoints _ _ points _ => points.length == 80
  | .mateSyncLabelCommand _ _ _ => true
  | .mateSyncAck _ => true
  | .mateSyncResend _ => true
  | .mateSyncLost _ => true
  | .yieldReq => true
  | .yieldForced => true
  | .yieldTimeout => true
  | .towerDutyDisable => true
  | .towerDutyEnable => true
  | .claimLineClear _ => true
  | .claimLineMaskWrite _ => true
  | .memoryUe _ _ flips => bitPlaces flips
  | .correctiveWriteback _ => true
  | .mergeRetire flips => bitPlaces flips
  | .ceLeak => true
  | .scrubRead flips => bitPlaces flips
  | .bankStoreScrubRead flips => bitPlaces flips
  | .scrubStart => true
  | .scrubStop => true
  | .scrubAutoPass => true
  | .recordRebuild _ _ => true
  | .windowModeWrite _ => true
  | .compatLoad _ => true
  | .repairRow _ _ => true
  | .repairAuto _ _ => true
  | .repairFuseDone => true
  | .coreDataAbort _ _ => true
  | .heartbeatMissing _ => true
  | .deviceRestart _ => true
  | .refclkLoss _ => true
  | .eventSummary => true
  | .eventSend => true
  | .faultLogCopy => true
  | .eventReadIndexWrite _ => true
  | .faultLogClear _ => true
  | .faultAck _ => true
  | .dieSensorSample readings => readings.length == 16
  | .thermalRestart _ => true
  | .railOutOfRange _ => true
  | .railFault _ => true
  | .railRecovered _ => true
  | .pumpFault _ => true
  | .pumpRestart _ => true
  | .resetAssert => true
  | .resetRelease _ => true
  | .boot => true
  | .firmwareStart => true
  | .startComplete => true
  | .savedDutyRestore => true
  | .savedStateWrite => true
  | .firmwareBlock _ bytes => domain bytes
  | .firmwareApply _ => true
  | .securityVersionCommit _ => true
  | .deviceReset _ => true
  | .ownerKeyInstall key => domain key
  | .attestNonce nonce => domain nonce
  | .savedStateErase _ => true
  | .rejoin _ => true
  | .rejoinComplete data => data.wf
  | .blockLockGained _ => true
  | .pumpRegulating _ => true
  | .timebasePllUnlock => true
  | .enumAssignTimeout => true

end Sys2Proof
end

