-- ==== Sys2Proof/Certificates/Slice0/Obligations.lean ====
section
/-! DEFINITION. The statements for the provers. -/

open Sys2Proof Sys2Proof.Machine

/-- For every command c and state s, a step of s with c at the front of its queue is exec of c on s with the rest of
the queue; whatever next state exec of a command answers has the queue it was given. On an empty queue a step
answers the state after one timebase clock, and the state itself while the controller is held in reset. The
queue and its order, and the clock on an empty queue, are the model's (log entry 1): what R292 states is the
clock. (R292) -/
def Obligations.StepTakesTheFrontCommand : Prop :=
  ∀ (c : Instr) (l : List Instr) (s : State),
    step { s with pending := c :: l } = exec c { s with pending := l }
    ∧ (∀ t, exec c s = .next t → t.pending = s.pending)
    ∧ (s.dev.boot.phase = .held → step { s with pending := [] } = .next { s with pending := [] })
    ∧ (s.dev.boot.phase ≠ .held → step { s with pending := [] }
      = .next { dev := { s.dev with time := s.dev.time.clock }, pending := [] })

/-- State.reset has no command waiting, RESET_N low, the outputs at high impedance, the loop STOPPED, a cycle period
of 4,000 ns with 128 rows and EVEN slots, TOWER_DUTY on and no claim won; every byte of memory reads 0 and no
word is poisoned; its cycle is legal and its memory sound, the two invariants every step keeps. That reset is
the machine with RESET_N low, and that memory reads 0 then, are the model's choices (log entries 9, 14). (R33,
R49, R372, R423) -/
def Obligations.ResetIsLegalAndSound : Prop :=
  State.reset.pending = [] ∧ State.reset.dev.boot.phase = .held ∧ State.reset.dev.arr.outputState = .highZ
    ∧ State.reset.dev.loop.state = .stopped ∧ State.reset.dev.cyc.conf = ⟨4000, 128, 0, 0⟩
    ∧ State.reset.dev.cfg.tow.duty = 1 ∧ State.reset.dev.tow.won = false
    ∧ (∀ a, State.reset.dev.sram.byte a = 0 ∧ State.reset.dev.sram.poisoned a = false)
    ∧ State.reset.dev.cyc.legal = true ∧ State.reset.dev.sram.sound = true

/-- For every state whose cycle is legal, that is, whose configuration in force and the one accepted for its common
tick obey the rules of the period, the rows and the slot length, and whose next slot is one of the cycle's or
follows its last: if a step answers a next state, that state's cycle is legal. (R47, R48, R49, R51) -/
def Obligations.StepKeepsTheCycleLegal : Prop :=
  ∀ s t : State, s.dev.cyc.legal = true → step s = .next t → t.dev.cyc.legal = true

/-- For every state whose memory is sound, that is, whose bytes, poison marks and byte poison marks stand in
strictly rising order of address with no entry equal to what an unlisted one reads, and whose merge buffer holds
at most 8 entries: if a step answers a next state, that state's memory is sound. (R372, R375, R376) -/
def Obligations.StepKeepsTheMemorySound : Prop :=
  ∀ s t : State, s.dev.sram.sound = true → step s = .next t → t.dev.sram.sound = true

/-- For every record whose fields fit their places, the record that its eight words spell is the record; and where
CODE_SLEW is not 0, the element's record read after it is written whole is that record, with no word of it
poisoned and every byte outside it as before. That a record with CODE_SLEW 0 reads as the defaults, which the
premise leaves aside, is the model's choice (log entry 13). (R107, R121) -/
def Obligations.RecordRoundTrip : Prop :=
  ∀ (r : Rec) (e : Nat) (d : Dev), r.fits = true →
    recOf (fun i => r.words.getD i 0) = r
    ∧ (d.sram.sound = true → r.codeSlew ≠ 0 →
      (d.putRec e r).record e = r ∧ (∀ w, w < 8 → tget false (d.putRec e r).sram.poison (64 * e + 8 * w) = false)
        ∧ ∀ a, a < 64 * e ∨ 64 * (e + 1) ≤ a → (d.putRec e r).sram.byte a = d.sram.byte a)

/-- Outside reset, in every state whose HEALTH is 0 and whose claim window of this cycle has not opened,
CLAIM_WINDOW_START opens it and gives a device whose claim sends no bit on a line, whatever the line carries;
CLAIM_WINDOW_END on that device, with any two values of the lines, records both values, latches no win and shows
the result WITHDRAWN, and a line that read 0xFFFF is FAULTY. (R345) -/
def Obligations.WithdrawnUnit : Prop :=
  ∀ (va vb : BitVec 16) (s : State), s.dev.health = 0 → s.dev.boot.phase ≠ .held → s.dev.tow.window = 0 →
    Completes .claimWindowStart s (fun d =>
      d.tow.window = 1 ∧ (∀ v, sentBits d.tow.claim.toNat v = 0)
        ∧ Completes (.claimWindowEnd va vb) { s with dev := d } (fun x =>
          x.tow.va = va ∧ x.tow.vb = vb ∧ x.tow.latched = some false ∧ x.tow.won = s.dev.tow.won ∧ x.tow.result = 2
            ∧ (va = 0xFFFF → x.tow.lineA = 2) ∧ (vb = 0xFFFF → x.tow.lineB = 2)))

/-- A write of 1 to DEVICE_RESET on the unit whose TOWER_ROLE is ACTIVE is refused with CONFLICT. On any other it is
answered OK and leaves the device that RESET_ASSERT and then RESET_RELEASE with the same straps leave. That the
straps stand through the reset as they were is the model's choice (log entry 44). (R431) -/
def Obligations.DeviceResetIsReset : Prop :=
  ∀ s : State,
    (s.dev.tow.role = 0 → Refuses (.deviceReset 1) s .conflict)
    ∧ (s.dev.tow.role ≠ 0 → ∃ a b : Dev, Gives .resetAssert s a
      ∧ Gives (.resetRelease s.dev.boot.straps) { s with dev := a } b ∧ Answers (.deviceReset 1) s .ok b)

/-- Outside reset, TICK completes in every state: the next slot is 0, the tick count is one more and the tick window
is closed. A cycle configuration that waits, and of whose period the tick's time is a multiple, is in force from
the tick, and none waits then; otherwise the configuration in force, and the one that waits, are those before
the tick. A snapshot asked for holds the bank, the rights, the outputs and the claim result from before the
tick. Staged rights come into force. A win latched enables the outputs where they are not held by a fault, a
loss turns them off, no result leaves them; TOWER_ROLE is ACTIVE exactly where the outputs drive. An armed
commit swaps the banks and the scan begins with its rows. Every tone generator takes the phase index of the new
cycle. A checkpoint capture begins on a driving unit at a multiple of the interval, of the committed generation.
Due triggers end DONE or FAILED. READINESS and, without telemetry, GUARANTEE_STATE are those of the state the
tick leaves. A histogram clearing is carried out. The curve checks and the aging pass go on, and telemetry is
sent last, of the state the rest left. While RESET_N is low a tick changes nothing. The order of acts that R17
does not order, and roles of a unit alone, are the model's choice (log entries 33, 92, 94). (R17, R51, R162,
R218, R243, R290, R309, R311, R338, R353, R357, R392) -/
def Obligations.TickStartsNewCycle : Prop :=
  ∀ (env : TickEnv) (s : State),
    (s.dev.boot.phase ≠ .held → Completes (.tick env) s (fun d =>
      (d.cyc.slot = 0 ∧ d.cyc.ticks = s.dev.cyc.ticks + 1 ∧ d.cyc.windowOpen = false
        ∧ (∀ c, s.dev.cyc.next = some c → s.dev.time.nextTick % timeWrap % c.period = 0 →
          d.cyc.conf = c ∧ d.cyc.next = none)
        ∧ ((∀ c, s.dev.cyc.next = some c → s.dev.time.nextTick % timeWrap % c.period ≠ 0) →
          d.cyc.conf = s.dev.cyc.conf ∧ d.cyc.next = s.dev.cyc.next))
        ∧ (s.dev.time.snapNow = true → s.dev.cfg.time.snapLock = false →
          d.snap.circ.physical = s.dev.circ.physical ∧ d.snap.req.rights = s.dev.req.rights
            ∧ d.snap.arr.outputState = s.dev.arr.outputState ∧ d.snap.tow.latched = s.dev.tow.latched
            ∧ d.snap.cyc.ticks = s.dev.cyc.ticks ∧ d.time.snapSeq = s.dev.time.snapSeq + 1)
        ∧ d.req.rights = (if s.dev.req.rightsPending then s.dev.req.staged else s.dev.req.rights)
        ∧ d.req.rightsPending = false
        ∧ d.tow.latched = none ∧ d.tow.window = 0
        ∧ (s.dev.tow.latched = none → d.arr.outputState = s.dev.arr.outputState)
        ∧ (s.dev.tow.latched = some false → d.arr.outputState ≠ .driving)
        ∧ (s.dev.tow.latched = some true → s.dev.tow.result = 1 → s.dev.arr.outputState ≠ .highZFault →
          d.arr.outputState = .driving)
        ∧ (d.tow.role = 0 ↔ d.arr.outputState = .driving)
        ∧ (∀ a, s.dev.circ.armed = some a →
          d.circ.physical = 1 - s.dev.circ.physical ∧ d.cyc.scan = a.rows ∧ d.circ.armed = none)
        ∧ (s.dev.circ.armed = none → d.circ.physical = s.dev.circ.physical ∧ d.cyc.scan = [])
        ∧ (∀ k < 16, tget [none, none, none] d.drv.toneIdx k
          = ((d.tone k).index d.cycleNo :: tget [none, none, none] s.dev.drv.toneIdx k).take 3)
        ∧ (d.arr.outputState = .driving → d.arr.wiredOn = true → s.dev.cfg.tow.enable = true →
          d.cycleNo % d.tow.intervalOn = 0 →
          ∃ i, d.tow.capture = some i ∧ i.cycle = d.cycleNo ∧ i.gen = d.circ.committedGen ∧ i.bankDigest = d.circ.bankDigest)
        ∧ (∀ j, (s.dev.trigger j).state = .pending → (s.dev.trigger j).at_.total ≤ s.dev.time.nextTick →
          1 ≤ (s.dev.trigger j).action → (s.dev.trigger j).action ≤ 4 →
          (d.trigger j).state = .done ∨ (d.trigger j).state = .failed)
        ∧ d.tow.readiness = d.readinessNow
        ∧ (s.dev.cfg.req.telem = [] → d.ev.guarantee = BitVec.ofNat 16 d.guaranteeNow)
        ∧ d.traf.histClearDue = false
        ∧ (s.dev.traf.histClearDue = true → d.cycleNo % 1024 ≠ 0 → d.traf.depthHist = [] ∧ d.traf.delayHist = [])
        ∧ d.cal.checkNext = (s.dev.cal.checkNext + min s.dev.cyc.conf.period 32768) % 32768
        ∧ d.lab.busy = false
        ∧ (∀ k, s.dev.lab.pass = some k → s.dev.dec.state = .running → s.dev.lab.queue = [] → s.dev.lab.flush = none →
          d.lab.pass = if k + 1 < 2176 then some (k + 1) else none)
        ∧ d.loop.updatesLast = s.dev.loop.updatesNow
        ∧ (∀ n b, s.dev.cfg.req.telem = [(n, b)] →
          (field b 2 2 = 0 ∨ d.cycleNo % (1024 * field b 2 2) ≠ 0 → d.req.telemSent = s.dev.req.telemSent)
          ∧ (field b 2 2 ≠ 0 → d.cycleNo % (1024 * field b 2 2) = 0 →
            ∃ x : Dev, x.cycleNo = d.cycleNo ∧ x.ev.guarantee = BitVec.ofNat 16 x.guaranteeNow
              ∧ x.tow.readiness = x.readinessNow ∧ d = telemList n b x))))
    ∧ (s.dev.boot.phase = .held → Gives (.tick env) s s.dev)

/-- For every environment and every state whose next slot j is one of the cycle's R + I slots, SLOT completes, the
slot number rises by 1 and every other field of the cycle unit is unchanged. In an enabled slot of a running
readout every enabled monitor column starts a conversion of row j. While the outputs drive, without parity
errors, each column that drives takes entry j of its active page: WRITTEN and unpoisoned its code becomes the
site's last code; otherwise the last code stays, and a poisoned entry is counted. An element alone in the row
that the next cycle's slot j writes, that is issued and meets no poison, mismatch or late write, has its
record's words written as its update gives them, its code queued in entry j of the fill page with WRITTEN, and
is counted. An idle slot, or one of a stopped Loop Engine, leaves memory and the fill page. After the last slot
SLOT changes nothing. What an update gives: a line cause is FAULT with that cause; HOLD queues CODE_OUT and
keeps CODE_ND; MANUAL moves CODE_ND towards MANUAL_CODE by the slew; AUTO below DARK_TH enters DARK. The slots
of the model are commands (log entry 10). (R12, R13, R48, R63, R88, R104, R110, R112, R121, R136, R140, R142) -/
def Obligations.SlotAdvances : Prop :=
  ∀ (env : SlotEnv) (s : State) (x : UpdIn),
    (s.dev.cyc.slot < s.dev.cyc.conf.rows + s.dev.cyc.conf.idle → Completes (.slot env) s (fun d =>
      d.cyc = { s.dev.cyc with slot := s.dev.cyc.slot + 1 }
        ∧ (s.dev.cyc.slot < s.dev.cyc.conf.rows → s.dev.rd.state = .run →
          d.rd.conversions = s.dev.rd.conversions
            ++ ((List.range 256).filter s.dev.monitorOn).map (s.dev.readSite s.dev.cyc.slot))
        ∧ (s.dev.cyc.slot < s.dev.cyc.conf.rows → s.dev.arr.outputState = .driving → env.parityOne = [] → env.parityBoth = [] →
          d.drv.lastRow = some (s.dev.rowNow s.dev.cyc.slot)
          ∧ ∀ c < 256, s.dev.columnState c = 1 ∨ s.dev.columnState c = 2 →
            d.lastCode (256 * s.dev.rowNow s.dev.cyc.slot + c)
              = (if bit (s.dev.entryAt c s.dev.cyc.slot) 14 ∧ bit (s.dev.entryAt c s.dev.cyc.slot) 15 = false
                then s.dev.entryAt c s.dev.cyc.slot % 16384
                else s.dev.lastCode (256 * s.dev.rowNow s.dev.cyc.slot + c))
            ∧ (bit (s.dev.entryAt c s.dev.cyc.slot) 15 = true →
              tget 0 d.drv.poisonCount c = tget 0 s.dev.drv.poisonCount c + 1))
        ∧ (s.dev.cyc.conf.rows ≤ s.dev.cyc.slot ∨ s.dev.loop.state = .stopped →
          d.sram = s.dev.sram ∧ d.drv.fill = s.dev.drv.fill ∧ d.loop.updatesNow = s.dev.loop.updatesNow)
        ∧ (∀ e, s.dev.cyc.slot < s.dev.cyc.conf.rows → s.dev.loop.state ≠ .stopped →
          s.dev.rowElems (s.dev.rowNext s.dev.cyc.slot) = [e] → e < 32768 → s.dev.parked e = false →
          s.dev.computes s.dev.cycleNo e = true → s.dev.recPoisoned e = false → s.dev.curvePoisoned e = false →
          tget false s.dev.loop.holdLate e = false → s.dev.sram.merge = [] →
          env.latePoison = [] → env.residue = [] → env.late = [] → env.rowLow = [] → env.rowHigh = [] →
          ∃ y : Dev, y.sram = s.dev.sram ∧ y.loop = s.dev.loop ∧ y.circ = s.dev.circ ∧ y.cfg = s.dev.cfg
            ∧ (∀ o, o = (y.fetch s.dev.cycleNo s.dev.cyc.slot e).inp.update.withheld
                (y.fetch s.dev.cycleNo s.dev.cyc.slot e).inp.r (y.fetch s.dev.cycleNo s.dev.cyc.slot e).later →
              (∀ i < 8, d.sram.word (64 * e + 8 * i) = o.r.words.getD i 0 % 2 ^ 64)
              ∧ tfind d.drv.fill (128 * siteCol o.r.drive + s.dev.cyc.slot) = some (BitVec.ofNat 16 (o.queue % 16384 + 2 ^ 14))
              ∧ d.loop.updatesNow = s.dev.loop.updatesNow + 1))))
    ∧ (s.dev.cyc.conf.rows + s.dev.cyc.conf.idle ≤ s.dev.cyc.slot → Gives (.slot env) s s.dev)
    ∧ (∀ c, x.line = some c → x.update.r.mode = 4 ∧ x.update.cause = some c)
    ∧ (x.line = none → x.group = false → x.sweep = none → x.hold = false → x.commit = none → x.soft = none →
      x.fromHold = false → x.mode = none →
      (x.r.mode = 2 → x.update.queue = x.r.codeOut ∧ x.update.r.codeND = x.r.codeND ∧ x.update.r.mode = 2)
      ∧ (x.r.mode = 1 → x.update.r.mode = 1 ∧ x.update.r.codeND
        = toward x.r.codeND x.r.manualCode (x.r.codeSlew * x.step))
      ∧ (x.r.mode = 0 → x.measured = true → x.isDark = true → x.update.r.mode = 3))

/-- LOOP_STOP is answered OK: LOOP_CONTROL reads 0, and a STOPPING engine with a restart pending is STOPPING again,
any other engine stops at the next tick. LOOP_START is answered CONFLICT, and changes nothing, in thermal
shutdown, under a device fault and on a unit that stands by, from its entry into STANDBY until it wins;
otherwise it is answered OK: LOOP_CONTROL reads 1, and a STOPPING engine becomes RESTART_PENDING, any other
starts at the next tick. Nothing else changes. A tick keeps standing by, or ends it, with the role. (R128, R337,
R352) -/
def Obligations.LoopStopAndStart : Prop :=
  ∀ s : State,
    (s.dev.loop.state = .restartPending → Answers .loopStop s .ok
      { s.dev with loop := { s.dev.loop with state := .stopping }
                   cfg := { s.dev.cfg with loop := { s.dev.cfg.loop with control := 0 } } })
    ∧ (s.dev.loop.state ≠ .restartPending → Answers .loopStop s .ok
      { s.dev with loop := { s.dev.loop with due := some 0 }
                   cfg := { s.dev.cfg with loop := { s.dev.cfg.loop with control := 0 } } })
    ∧ (s.dev.therm.state = 3 ∨ s.dev.ev.deviceFault ≠ 0 ∨ s.dev.tow.standing = true → Refuses .loopStart s .conflict)
    ∧ (s.dev.therm.state ≠ 3 → s.dev.ev.deviceFault = 0 → s.dev.tow.standing = false →
      (s.dev.loop.state = .stopping → Answers .loopStart s .ok
        { s.dev with loop := { s.dev.loop with state := .restartPending }
                     cfg := { s.dev.cfg with loop := { s.dev.cfg.loop with control := 1 } } })
      ∧ (s.dev.loop.state ≠ .stopping → Answers .loopStart s .ok
        { s.dev with loop := { s.dev.loop with due := some 1 }
                     cfg := { s.dev.cfg with loop := { s.dev.cfg.loop with control := 1 } } }))
    ∧ (∀ env : TickEnv, s.dev.boot.phase ≠ .held → Completes (.tick env) s (fun d =>
      (d.tow.role = 1 → d.tow.standing = true) ∧ (d.tow.role = 0 → d.tow.standing = false)
        ∧ (s.dev.tow.standing = true → d.tow.role ≠ 0 → d.tow.standing = true)))

/-- Outside reset, CLAIM_WINDOW_START, 1,500 ns before the next tick and once in a cycle, forms the claim number of
R346 from HEALTH, the driving state, RANK and UNIT, readmits FAULTY lines if CLAIM_LINE_CLEAR asked for it, and
lets a stopping tower duty withdraw; nothing outside the Claim Arbiter and the clock changes. CLAIM_WINDOW_END
of that window, 500 ns before the tick, on two usable lines that carry one value v and miss no bit the unit
sent, records v and latches a win exactly where HEALTH is at least 1 and v is the unit's own number; where it
latches a loss it changes nothing outside the Claim Arbiter, the clock and the Event Unit. OUTPUT_RELEASE puts
the outputs of a driving unit that lost at high impedance and its drivers in standby, 1 ns before the tick;
otherwise it changes nothing. A window that has opened in the cycle does not open again, and one that is not
open does not end. Which marks CLAIM_LINE_CLEAR ends, and when, is the model's choice (log entry 35). (R16, R42,
R93, R343, R346, R347, R348, R365) -/
def Obligations.ClaimWindow : Prop :=
  ∀ (v w : BitVec 16) (s : State),
    (s.dev.boot.phase ≠ .held → s.dev.tow.window = 0 →
      Gives .claimWindowStart s { s.dev with
        time := (s.dev.advanceTo (s.dev.time.nextTick - 1500)).time
        tow := { s.dev.tow with
          claim := BitVec.ofNat 16 (s.dev.health * 2 ^ 13 + ofBool s.dev.driving * 2 ^ 12
            + s.dev.cfg.tow.rank % 256 * 2 ^ 4 + s.dev.unit % 16)
          window := 1
          lineA := if s.dev.tow.clearDue ∧ s.dev.tow.lineA = 2 then 0 else s.dev.tow.lineA
          lineB := if s.dev.tow.clearDue ∧ s.dev.tow.lineB = 2 then 0 else s.dev.tow.lineB
          clearDue := false
          dutyWindow := s.dev.tow.dutyWindow || s.dev.tow.dutyState = .stopping || s.dev.tow.dutyState = .restartPending } })
    ∧ (s.dev.boot.phase = .held ∨ s.dev.tow.window ≠ 0 → Gives .claimWindowStart s s.dev)
    ∧ (s.dev.tow.window = 1 → s.dev.lineUsable false = true → s.dev.lineUsable true = true →
      judgeLine s.dev.tow.claim.toNat v.toNat ≠ .faulty →
      Completes (.claimWindowEnd v v) s (fun d =>
        d.tow.va = v ∧ d.tow.vb = v ∧ d.tow.accepted = v ∧ d.tow.window = 2
          ∧ d.tow.latched = some (decide (1 ≤ s.dev.tow.claim.toNat / 2 ^ 13 ∧ v = s.dev.tow.claim))
          ∧ d.time = (s.dev.advanceTo (s.dev.time.nextTick - 500)).time
          ∧ (d.tow.latched = some false → d = { s.dev with time := d.time, tow := d.tow, ev := d.ev })))
    ∧ (s.dev.tow.window ≠ 1 → Gives (.claimWindowEnd v w) s s.dev)
    ∧ (s.dev.tow.latched = some false → s.dev.arr.outputState = .driving →
      Gives .outputRelease s { s.dev with
        time := (s.dev.advanceTo (s.dev.time.nextTick - 1)).time
        arr := { s.dev.arr with outputState := .highZ }, tow := { s.dev.tow with driversAwake := false } })
    ∧ (s.dev.tow.latched ≠ some false ∨ s.dev.arr.outputState ≠ .driving → Gives .outputRelease s s.dev)

/-- When a conversion of the column and converter is under way, an invalid cause does not cover it, its site is not
filling its average and no injected conversion waits, CONVERSION_COMPLETE takes it out of the list, enters its
sample in its site's average and stores as the latest sample of the site one of the average's value, with the
flags VALID, OVERRANGE (raw code 16,383), SPARE, gain and converter and the slot from which it is usable, and
moves the sample before it back one place. CONVERTER_TIMEOUT takes it out of the list and stores a sample
without the flag VALID, and counts it in INVALID_COUNT of the column. Neither changes the cycle, the drive, the
Loop Engine, the circuits or a setting. The slot from which a sample is usable, and that a conversion carries
the corrections of its own slot, is the model's choice (log entries 52, 53). (R14, R53, R69, R71, R73) -/
def Obligations.ConversionStored : Prop :=
  ∀ (col : Fin 256) (b : Bool) (raw : BitVec 14) (s : State) (x : Conversion) (l : List Conversion),
    takeConversion col b s.dev.rd.conversions = (some x, l) → s.dev.rd.injects = [] →
    (x.invalid = false → tfind s.dev.rd.fill x.site = none →
      Completes (.conversionComplete col b raw) s (fun d =>
        d.rd.conversions = l
          ∧ d.rd.samples = tset {} s.dev.rd.samples x.site
              { value := avgOut (({ s.dev with rd := { s.dev.rd with conversions := l } }.enter x.site (x.sample raw.toNat)).2.accNow x.site)
                flags := sampleFlags true (decide (raw = 16383)) x.spare false x.gain x.convB
                fromTick := x.fromTick, fromSlot := x.fromSlot }
          ∧ d.rd.before = tset {} s.dev.rd.before x.site (tget {} s.dev.rd.samples x.site)
          ∧ d.rd.invalidCount = s.dev.rd.invalidCount
          ∧ d.cyc = s.dev.cyc ∧ d.drv = s.dev.drv ∧ d.loop = s.dev.loop ∧ d.circ = s.dev.circ ∧ d.cfg = s.dev.cfg))
    ∧ Completes (.converterTimeout col b) s (fun d =>
        d.rd = { s.dev.rd with
          conversions := l
          before := tset {} s.dev.rd.before x.site (tget {} s.dev.rd.samples x.site)
          samples := tset {} s.dev.rd.samples x.site
            { value := avgOut (s.dev.accNow x.site), flags := sampleFlags false false x.spare false x.gain x.convB
              fromTick := x.fromTick, fromSlot := x.fromSlot }
          invalidCount := tset 0 s.dev.rd.invalidCount col (tget 0 s.dev.rd.invalidCount col + 1) }
          ∧ d = { s.dev with rd := d.rd, ev := d.ev })

/-- TICK_WINDOW_OPEN opens the tick window, at its instant before the tick, and changes nothing else but the clock.
CYCLE_APPLY is answered INVALID for a value other than 1; otherwise BUSY while a configuration waits; otherwise
INVALID for a configuration against R47 to R49 or one that disables a row the map uses; otherwise OK: the staged
configuration waits for its common tick, and nothing else changes. CYCLE_CONFIG_EFFECT, in slot 0 of the cycle
at whose tick a configuration came into force, reduces the tick window to half its period, in force and as set;
it acts once, and in any other cycle or slot changes nothing. That CYCLE_CONFIG_EFFECT acts once, in slot 0
after the tick of the change, is the model's choice (log entry 49). (R6, R47, R48, R49, R51, R56) -/
def Obligations.CycleConfiguration : Prop :=
  ∀ (v : BitVec 8) (s : State),
    Completes .tickWindowOpen s (fun d =>
      d.cyc = { s.dev.cyc with windowOpen := true } ∧ d = { s.dev with cyc := d.cyc, time := d.time }
        ∧ d.time = (s.dev.advanceTo (s.dev.time.nextTick - s.dev.cyc.windowOn)).time
        ∧ (s.dev.time.nextTick < timeWrap → d.now = max s.dev.now (s.dev.time.nextTick - s.dev.cyc.windowOn)))
    ∧ (v ≠ 1 → Refuses (.cycleApply v) s .invalid)
    ∧ (s.dev.cyc.next ≠ none → Refuses (.cycleApply 1) s .busy)
    ∧ (s.dev.cyc.next = none →
      s.dev.cfg.cyc.staged.good = false ∨ (∃ r ∈ s.dev.mapRows, s.dev.cfg.cyc.staged.rows ≤ r) →
      Refuses (.cycleApply 1) s .invalid)
    ∧ (s.dev.cyc.next = none → s.dev.cfg.cyc.staged.good = true →
      (∀ r ∈ s.dev.mapRows, r < s.dev.cfg.cyc.staged.rows) →
      Answers (.cycleApply 1) s .ok { s.dev with cyc := { s.dev.cyc with next := some s.dev.cfg.cyc.staged } })
    ∧ (s.dev.cyc.changed = true → s.dev.cyc.slot = 0 →
      Completes .cycleConfigEffect s (fun d =>
        d.cyc = { s.dev.cyc with changed := false, windowOn := min s.dev.cyc.windowOn (s.dev.cyc.conf.period / 2) }
          ∧ d.cfg.cyc.tickWindow = min s.dev.cfg.cyc.tickWindow (s.dev.cyc.conf.period / 2)
          ∧ d.cfg.cyc.staged = s.dev.cfg.cyc.staged ∧ d.time = s.dev.time ∧ d.arr = s.dev.arr ∧ d.circ = s.dev.circ))
    ∧ (s.dev.cyc.changed = false ∨ s.dev.cyc.slot ≠ 0 → Gives .cycleConfigEffect s s.dev)

/-- At an arming point, slot 0 of the cycle before its tick, a pending commit with no cause of R216 against it is
armed: it is no longer pending; the armed commit is that one, with the elements whose target changes and their
rows; the next drive scan begins with those rows; and jumps are due for the marked elements if the outputs
drive. With a cause it is missed: nothing is pending or armed and COMMIT_REPORT reads MISSED with the cause;
only the Circuit Tables, the next scan's order and the Event Unit change. COMMIT_DONE, three ticks after the
commit tick, completes COMMIT_REPORT. FF_ERROR_RECORD, when due, drops its entry and changes nothing but
COMMIT_REPORT and, for a value the rules leave open, the count of free values (log entry 4). BANK_COPY brings
the words that the copy has not reached into the next bank and leaves no word still to be copied. The missed
report's GENERATION, CIRCUITS and 0xFFFF as FF_ERROR_MAX, and the order of the commits under way, are the
model's choice (log entry 73). (R209, R216, R221, R222) -/
def Obligations.CommitCourse : Prop :=
  ∀ s : State,
    (∀ c, s.dev.circ.pending = some c → s.dev.cyc.slot = 0 → c.tick ≤ s.dev.time.nextTick →
      (s.dev.missCause c = 0 → Completes .armingPoint s (fun d =>
        d.circ = { s.dev.circ with
          pending := none
          armed := some {
            commit := c, marked := s.dev.markedElems, rows := s.dev.rowsOf s.dev.markedElems, jumps := s.dev.driving
            overtaken := s.dev.circ.takenAt = s.dev.cyc.ticks + 1, gen := s.dev.circ.gen }
          jumpDue := if s.dev.driving then jumpsOf s.dev.circ.jumpDue s.dev.markedElems else s.dev.circ.jumpDue }
          ∧ d.cyc = { s.dev.cyc with
              nextScan := s.dev.rowsOf s.dev.markedElems
              halfRate := s.dev.cyc.halfRate.filter (fun p => !s.dev.markedElems.contains p.1) }))
      ∧ (s.dev.missCause c ≠ 0 → Completes .armingPoint s (fun d =>
        d.circ = { s.dev.circ with
          pending := none, armed := none, jumpDue := d.circ.jumpDue
          report := { at_ := c.at_, group := c.group, result := 2, cause := s.dev.missCause c, gen := s.dev.circ.gen
                      circuits := (s.dev.circuits false).length, ffError := 0xFFFF } }
          ∧ d.circ.jumpDue = (match s.dev.circ.armed with
            | some a => s.dev.circ.jumpDue.filter (fun p => !a.marked.contains p.1)
            | none => s.dev.circ.jumpDue)
          ∧ d = { s.dev with circ := d.circ, cyc := { s.dev.cyc with nextScan := [] }, ev := d.ev })))
    ∧ (∀ t a l, s.dev.circ.committing = (t, a) :: l → t + 3 ≤ s.dev.cyc.ticks → s.dev.cyc.slot = 0 →
      Completes .commitDone s (fun d =>
        d.circ = { s.dev.circ with committing := l, report := a.report } ∧ d = { s.dev with circ := d.circ, ev := d.ev }))
    ∧ (∀ t i m l, s.dev.circ.ffDue = (t, i, m) :: l → t ≤ s.dev.cyc.ticks → s.dev.cyc.slot = 0 →
      Completes .ffErrorRecord s (fun d =>
        d.circ = { s.dev.circ with ffDue := l, report := d.circ.report }
          ∧ (∀ v, s.dev.ffError m = some v → v ≤ 0xFFFF → s.dev.circ.report.at_ = i → s.dev.circ.report.result = 1 →
            d.circ.report = { s.dev.circ.report with ffError := v } ∧ d.free = s.dev.free)
          ∧ d = { s.dev with circ := d.circ, free := d.free }))
    ∧ (∀ l, s.dev.circ.written = some l → Completes .bankCopy s (fun d =>
      d.circ = { s.dev.circ with written := none }
        ∧ d.sram = { s.dev.sram.copyBank (bankAddr s.dev.curBank) (bankAddr s.dev.nextBank) l with cleared := [] }
        ∧ d = { s.dev with circ := d.circ, sram := d.sram, memory := d.memory }))
    ∧ (s.dev.circ.written = none → Gives .bankCopy s s.dev)

/-- LOAD_MEASURE of 1 is answered CONFLICT while the outputs are enabled or the mate claims, as the value accepted
on the claim lines shows; otherwise OK, and the load of every drive and monitor column, spares included, reads
as measured; nothing but the array registers and the Event Unit changes. Another value is answered INVALID.
TOWER_WIRED is refused with CONFLICT while the outputs are enabled, and otherwise takes the value written.
MATE_MISSING, 1 s after the mate was last heard while a mate is declared, raises its event and starts the next
second: before that has passed it changes nothing, and at its end it comes again; without a declared mate it
changes nothing. Outside reset AUX_POSITION steps the sequence of 32 positions and keeps the code of its
position, that of position 30 as TDAC_ROUTE routes it, and changes nothing outside the readout, array, thermal
and event registers; with RESET_N low it changes nothing. What shows that the mate claims, that MATE_MISSING
comes again each second (log entry 46) and the TDAC's part of position 30 (log entry 119) are the model's
choices. (R44, R46, R80, R82, R423) -/
def Obligations.ArrayInterface : Prop :=
  ∀ (v : BitVec 8) (b : Bool) (code : BitVec 16) (drive monitor : List Nat) (s : State),
    (v ≠ 1 → Refuses (.loadMeasure v drive monitor) s .invalid)
    ∧ (s.dev.arr.outputState = .driving ∨ s.dev.mateClaims = true → Refuses (.loadMeasure 1 drive monitor) s .conflict)
    ∧ (s.dev.arr.outputState ≠ .driving → s.dev.mateClaims = false →
      Replies (.loadMeasure 1 drive monitor) s .ok (fun d =>
        (∀ c, c < 264 → tget 0 d.arr.columnLoad c = drive.getD c 0 ∧ tget 0 d.arr.mcolumnLoad c = monitor.getD c 0)
          ∧ d = { s.dev with arr := d.arr, ev := d.ev }))
    ∧ (s.dev.arr.outputState = .driving → Refuses (.towerWiredWrite b) s .conflict)
    ∧ (s.dev.arr.outputState ≠ .driving → Answers (.towerWiredWrite b) s .ok
      { s.dev with cfg := { s.dev.cfg with arr := { s.dev.cfg.arr with towerWired := b } } })
    ∧ (s.dev.arr.wiredOn = true → s.dev.arr.mateHeard + 1000000000 ≤ s.dev.time.up →
      Completes .mateMissing s (fun d =>
        d.arr = { s.dev.arr with mateHeard := s.dev.time.up } ∧ d = { s.dev with arr := d.arr, ev := d.ev }
          ∧ d.ev = (s.dev.raise .mateMissing).ev
          ∧ ((runCount s.dev.ev.counts .mateMissing).1 < s.dev.cfg.ev.suppressLimit →
            (runCount d.ev.counts .mateMissing).1 = (runCount s.dev.ev.counts .mateMissing).1 + 1)
          ∧ (∀ up, s.dev.time.up ≤ up → up < s.dev.time.up + 1000000000 →
            Gives .mateMissing { s with dev := { d with time := { d.time with up := up } } } { d with time := { d.time with up := up } })
          ∧ (∀ up, s.dev.time.up + 1000000000 ≤ up →
            Completes .mateMissing { s with dev := { d with time := { d.time with up := up } } } (fun x => x.arr.mateHeard = up))))
    ∧ (s.dev.arr.wiredOn = false ∨ s.dev.time.up < s.dev.arr.mateHeard + 1000000000 → Gives .mateMissing s s.dev)
    ∧ (s.dev.boot.phase ≠ .held → Completes (.auxPosition code) s (fun d =>
        d.rd.auxPos = (s.dev.rd.auxPos + 1) % 32 ∧ d.rd.auxRaw = tset 0 s.dev.rd.auxRaw s.dev.rd.auxPos (if s.dev.rd.auxPos = 30 then s.dev.auxTdac code.toNat else code.toNat)
          ∧ d = { s.dev with rd := d.rd, arr := d.arr, therm := d.therm, ev := d.ev }))
    ∧ (s.dev.boot.phase = .held → Gives (.auxPosition code) s s.dev)

/-- INJECT_REQUEST is answered INVALID for a count outside 1 to 16 and for a site on a row or column that is not
enabled, LATE for a named start cycle that has begun, BUSY while 16 entries wait; otherwise OK: the entry is
queued for the named cycle, or, where 0 is named, for the cycle that begins at the next tick, counted in the
cycle period then in force, in order of the start cycles and behind the entries of the same one, and nothing
else changes. IDLE_CODE is answered CONFLICT while the outputs are enabled, INVALID above 16,383, otherwise OK:
every last code holds it. ROW_FAULT_CLEAR is answered INVALID for a value other than 1, CONFLICT while the
outputs are enabled, otherwise OK: ROW_FAULT reads 0. Nothing else changes. That LATE is judged against the next
tick, and the order among entries, is the model's choice (log entries 54, 55). (R76, R77, R84, R90, R103) -/
def Obligations.InjectionAndDriveWrites : Prop :=
  ∀ (r : InjectReq) (c : BitVec 16) (v : BitVec 8) (s : State),
    (r.count = 0 ∨ 16 < r.count.toNat ∨ s.dev.cyc.conf.rows ≤ siteRow r.site.toNat
        ∨ s.dev.monitorOn (siteCol r.site.toNat) = false → Refuses (.injectRequest r) s .invalid)
    ∧ (siteRow r.site.toNat < s.dev.cyc.conf.rows → s.dev.monitorOn (siteCol r.site.toNat) = true →
      r.count ≠ 0 → r.count.toNat ≤ 16 →
      (r.start ≠ 0 → r.start.toNat ≤ s.dev.cycleNo → Refuses (.injectRequest r) s .late)
      ∧ ((r.start = 0 ∨ s.dev.cycleNo < r.start.toNat) → 16 ≤ s.dev.rd.injects.length →
        Refuses (.injectRequest r) s .busy)
      ∧ ((r.start = 0 ∨ s.dev.cycleNo < r.start.toNat) → s.dev.rd.injects.length < 16 →
        Answers (.injectRequest r) s .ok
          { s.dev with rd := { s.dev.rd with
              injects := InjectEntry.insert
                { site := r.site.toNat, count := r.count.toNat, tag := r.tag, stored := 0, id := s.dev.rd.injectNext
                  start := if r.start = 0 then s.dev.nextCycleNo else r.start.toNat
                  nextCycle := if r.start = 0 then s.dev.nextCycleNo else r.start.toNat }
                s.dev.rd.injects
              injectNext := s.dev.rd.injectNext + 1 } }))
    ∧ (s.dev.arr.outputState = .driving → Refuses (.idleCodeWrite c) s .conflict)
    ∧ (s.dev.arr.outputState ≠ .driving → 16383 < c.toNat → Refuses (.idleCodeWrite c) s .invalid)
    ∧ (s.dev.arr.outputState ≠ .driving → c.toNat ≤ 16383 → Answers (.idleCodeWrite c) s .ok
      { s.dev with drv := { s.dev.drv with lastCode := [], lastFill := c.toNat }
                   cfg := { s.dev.cfg with drv := { s.dev.cfg.drv with idleCode := c.toNat } } })
    ∧ (v ≠ 1 → Refuses (.rowFaultClear v) s .invalid)
    ∧ (s.dev.arr.outputState = .driving → Refuses (.rowFaultClear 1) s .conflict)
    ∧ (s.dev.arr.outputState ≠ .driving →
      Answers (.rowFaultClear 1) s .ok { s.dev with drv := { s.dev.drv with rowFault := 0 } })

/-- GROUP_STOP is answered CONFLICT, and changes nothing, where a running group carries a circuit; otherwise (a
group with a restart pending included, whose restart it cancels) it is answered OK: GROUP_CONTROL reads 0 and
the stop falls due at the next tick. GROUP_STOP_FORCED and GROUP_ENABLE are always answered OK: GROUP_CONTROL
reads 2 or 1, due at the next tick. GROUP_STOPPED, at a tick, at least one tick after the stop began and once
every element's drive code is 0 or 4,096 ticks have passed, makes a STOPPING group STOPPED, and nothing else
changes; it makes a group with RESTART_PENDING RUNNING, with the last code 0 and a soft start from there for
each of its elements, and nothing but the Column Drive, the Loop Engine and memory changes. That a circuit bars
the stop of a running group only rests on log entry 57. (R97, R98, R337) -/
def Obligations.GroupControl : Prop :=
  ∀ (g : Fin 8) (s : State),
    (s.dev.groupState g = .running → s.dev.groupCarries g = true →
      Refuses (.groupStop g) s .conflict)
    ∧ (s.dev.groupState g ≠ .running ∨ s.dev.groupCarries g = false →
      Answers (.groupStop g) s .ok
        { s.dev with
            drv := { s.dev.drv with groupDue := s.dev.drv.groupDue.filter (fun p => p.1 ≠ (g : Nat)) ++ [((g : Nat), 0)] }
            cfg := { s.dev.cfg with drv := { s.dev.cfg.drv with groupControl := tset 1 s.dev.cfg.drv.groupControl g 0 } } })
    ∧ Answers (.groupStopForced g) s .ok
        { s.dev with
            drv := { s.dev.drv with groupDue := s.dev.drv.groupDue.filter (fun p => p.1 ≠ (g : Nat)) ++ [((g : Nat), 2)] }
            cfg := { s.dev.cfg with drv := { s.dev.cfg.drv with groupControl := tset 1 s.dev.cfg.drv.groupControl g 2 } } }
    ∧ Answers (.groupEnable g) s .ok
        { s.dev with
            drv := { s.dev.drv with groupDue := s.dev.drv.groupDue.filter (fun p => p.1 ≠ (g : Nat)) ++ [((g : Nat), 1)] }
            cfg := { s.dev.cfg with drv := { s.dev.cfg.drv with groupControl := tset 1 s.dev.cfg.drv.groupControl g 1 } } }
    ∧ (s.dev.cyc.slot = 0 → 1 ≤ tget 0 s.dev.drv.groupTicks g →
      (∀ e ∈ s.dev.groupElems g, s.dev.lastCode (entryDrive (s.dev.entry e)) = 0) ∨ 4096 ≤ tget 0 s.dev.drv.groupTicks g →
      (s.dev.groupState g = .stopping → Gives (.groupStopped g) s
        { s.dev with drv := { s.dev.drv with
            groupTicks := tset 0 s.dev.drv.groupTicks g 0
            groupState := tset .running s.dev.drv.groupState g .stopped } })
      ∧ (s.dev.groupState g = .restartPending → Completes (.groupStopped g) s (fun d =>
        d.drv = { s.dev.drv with
          groupTicks := tset 0 s.dev.drv.groupTicks g 0
          groupState := tset .running s.dev.drv.groupState g .running
          lastCode := d.drv.lastCode }
          ∧ (∀ e ∈ s.dev.groupElems g, d.lastCode (entryDrive (s.dev.entry e)) = 0)
          ∧ d.loop = { s.dev.loop with
              softStart := s.dev.loop.softStart.filter (fun p => !(s.dev.groupElems g).contains p.1)
                ++ (s.dev.groupElems g).map (fun e => (e, 0)) }
          ∧ d = { s.dev with drv := d.drv, loop := d.loop, sram := d.sram, memory := d.memory })))

/-- REVERSE_LINEARISATION of an element whose reverse linearisation waits counts one spare issue slot. Without a
residue mismatch it takes the element out of the waiting list and writes its PHI_OUT with the reverse
linearisation of the code by its working curve, clamped to its limits where the request was made in AUTO or
DARK: no other field of its record, no byte outside its record and nothing but the Loop Engine and memory
changes. With a mismatch it waits on and memory stands. Where none waits nothing changes. LANE_UNFENCE is
answered INVALID above lane 15, CONFLICT for a lane that is not fenced, otherwise OK: the lane's self-test runs,
one that runs already going on. LANE_SELFTEST_DONE of a lane under self-test ends it and counts its 4,096 spare
slots: a pass makes the lane rejoin at the next tick, a failure raises the event and leaves the lane fenced;
nothing else changes. How the works share spare slots (log entry 62) and LANE_UNFENCE during a self-test (log
entry 122) are the model's choices. (R106, R122, R127) -/
def Obligations.LoopService : Prop :=
  ∀ (elem : BitVec 15) (v : BitVec 8) (lane : Fin 16) (s : State),
    (∀ c limit, tfind s.dev.loop.reverse elem.toNat = some (c, limit) →
      Completes (.reverseLinearisation elem none) s (fun d =>
        d.loop = { s.dev.loop with
          spareNow := s.dev.loop.spareNow + 1
          reverse := s.dev.loop.reverse.filter (fun p => p.1 ≠ elem.toNat) }
          ∧ d.sram = (s.dev.modRec elem.toNat (fun r => { r with
              phiOut := (s.dev.workingCurve elem.toNat).reverse c r.phiOut r.phiMin r.phiMax limit })).sram
          ∧ (∀ a, a < 64 * elem.toNat ∨ 64 * (elem.toNat + 1) ≤ a → d.sram.byte a = s.dev.sram.byte a)
          ∧ d = { s.dev with loop := d.loop, sram := d.sram, memory := d.memory }))
    ∧ (∀ l, (tfind s.dev.loop.reverse elem.toNat).isSome = true →
      Completes (.reverseLinearisation elem (some l)) s (fun d =>
        d.loop.reverse = s.dev.loop.reverse ∧ d.loop.spareNow = s.dev.loop.spareNow + 1 ∧ d.sram = s.dev.sram))
    ∧ (∀ m, tfind s.dev.loop.reverse elem.toNat = none → Gives (.reverseLinearisation elem m) s s.dev)
    ∧ (15 < v.toNat → Refuses (.laneUnfence v) s .invalid)
    ∧ (v.toNat ≤ 15 → s.dev.loop.fenced.getLsbD v.toNat = false → Refuses (.laneUnfence v) s .conflict)
    ∧ (v.toNat ≤ 15 → s.dev.loop.fenced.getLsbD v.toNat = true → v.toNat ∉ s.dev.loop.selftests →
      Answers (.laneUnfence v) s .ok
        { s.dev with loop := { s.dev.loop with selftests := s.dev.loop.selftests ++ [v.toNat] } })
    ∧ (v.toNat ≤ 15 → s.dev.loop.fenced.getLsbD v.toNat = true → v.toNat ∈ s.dev.loop.selftests →
      Answers (.laneUnfence v) s .ok s.dev)
    ∧ ((lane : Nat) ∈ s.dev.loop.selftests →
      Gives (.laneSelftestDone lane true) s
        { s.dev with loop := { s.dev.loop with
            selftests := s.dev.loop.selftests.filter (fun k => k ≠ (lane : Nat))
            spareNow := s.dev.loop.spareNow + 4096
            rejoinDue := s.dev.loop.rejoinDue ++ [(lane : Nat)] } }
      ∧ Completes (.laneSelftestDone lane false) s (fun d =>
        d.loop = { s.dev.loop with
          selftests := s.dev.loop.selftests.filter (fun k => k ≠ (lane : Nat)), spareNow := s.dev.loop.spareNow + 4096 }
          ∧ d = { s.dev with loop := d.loop, ev := d.ev }))
    ∧ (∀ b, (lane : Nat) ∉ s.dev.loop.selftests → Gives (.laneSelftestDone lane b) s s.dev)

/-- RECORD_FIELD_WRITE, of a field other than MODE, and MODE_WRITE are answered NOENT above element 32,767 and
INVALID for a value the field does not take; MODE 0 to 2 is answered CONFLICT while the element is swept, or in
FAULT with a line cause; a write arriving while 1,024 are staged is answered BUSY, also one that would replace
an earlier one; otherwise OK: the write replaces an earlier staged write to the same field and falls due after
the next tick, SP_RATE clamped to SP_RATE_LIMIT. SETPOINT_REQUEST without a rate is the write of SP_TARGET, and
with a rate the two writes in order. Nothing but the staging buffer changes. That INVALID comes before BUSY (log
entry 19), and that a replacing write meets the bound too (log entry 60), are the model's choices. (R108, R130,
R131, R144) -/
def Obligations.RecordWrites : Prop :=
  ∀ (elem : BitVec 16) (f : RecField) (w : Int) (v : BitVec 8) (target : BitVec 32) (rate : BitVec 16) (s : State),
    (32767 < elem.toNat → Refuses (.recordFieldWrite elem f w) s .noent ∧ Refuses (.modeWrite elem v) s .noent)
    ∧ (elem.toNat ≤ 32767 →
      (2 < v.toNat → Refuses (.modeWrite elem v) s .invalid)
      ∧ (v.toNat ≤ 2 →
        ((s.dev.record elem.toNat).mode = 4 ∧ s.dev.anyLineCause (s.dev.record elem.toNat) = true)
          ∨ s.dev.swept elem.toNat = true → Refuses (.modeWrite elem v) s .conflict)
      ∧ (f ≠ .mode → s.dev.fieldOk elem.toNat f w = false → Refuses (.recordFieldWrite elem f w) s .invalid)
      ∧ (f ≠ .mode → s.dev.fieldOk elem.toNat f w = true → s.dev.stagingFull = true →
        Refuses (.recordFieldWrite elem f w) s .busy)
      ∧ (f ≠ .mode → s.dev.fieldOk elem.toNat f w = true → s.dev.stagingFull = false →
        Answers (.recordFieldWrite elem f w) s .ok
          { s.dev with loop := { s.dev.loop with
              staged := s.dev.loop.staged.filter (fun x => !(x.elem = elem.toNat && x.field = f))
                ++ [⟨elem.toNat, f, s.dev.acceptedRate elem.toNat f w, s.dev.cyc.ticks + 1⟩] } })
      ∧ (v.toNat ≤ 2 → ¬((s.dev.record elem.toNat).mode = 4 ∧ s.dev.anyLineCause (s.dev.record elem.toNat) = true) →
        s.dev.swept elem.toNat = false → s.dev.fieldOk elem.toNat .mode v.toNat = true → s.dev.stagingFull = true →
        Refuses (.modeWrite elem v) s .busy)
      ∧ (v.toNat ≤ 2 → ¬((s.dev.record elem.toNat).mode = 4 ∧ s.dev.anyLineCause (s.dev.record elem.toNat) = true) →
        s.dev.swept elem.toNat = false → s.dev.fieldOk elem.toNat .mode v.toNat = true →
        s.dev.stagingFull = false →
        Answers (.modeWrite elem v) s .ok
          { s.dev with loop := { s.dev.loop with
              staged := s.dev.loop.staged.filter (fun x => !(x.elem = elem.toNat && x.field = .mode))
                ++ [⟨elem.toNat, .mode, v.toNat, s.dev.cyc.ticks + 1⟩] } })
      ∧ (s.dev.fieldOk elem.toNat .spTarget target.toNat = true → s.dev.stagingFull = false →
        Answers (.setpointRequest elem target none) s .ok
          { s.dev with loop := { s.dev.loop with
              staged := s.dev.loop.staged.filter (fun x => !(x.elem = elem.toNat && x.field = .spTarget))
                ++ [⟨elem.toNat, .spTarget, target.toNat, s.dev.cyc.ticks + 1⟩] } }))
    ∧ (∀ r1 d1 r2 d2, fieldWrite elem.toNat .spTarget target.toNat s.dev = (r1, d1) →
      fieldWrite elem.toNat .spRate rate.toNat d1 = (r2, d2) →
      Answers (.setpointRequest elem target (some rate)) s (if r1 = .ok then r2 else r1) d2)

/-- TRACE_ARM is answered BUSY while a trace is armed or triggered, INVALID where no element is named or no node
chosen, and otherwise, for a set that obeys R152, OK: the set is taken, the trace arms at the next tick and its
buffer holds nothing; outside the trace unit and memory nothing changes. TRACE_FORCE of an armed trace triggers
it with cause 6 in this cycle; of any other it is answered CONFLICT. TRACE_DISARM is answered OK and returns the
trace to IDLE at the next tick; nothing else changes. When arming, forcing and disarming take effect is the
model's choice (log entry 64). (R152, R153) -/
def Obligations.TraceControl : Prop :=
  ∀ s : State,
    (s.dev.trace.state = .armed ∨ s.dev.trace.state = .triggered → Refuses .traceArm s .busy)
    ∧ (s.dev.trace.state ≠ .armed → s.dev.trace.state ≠ .triggered →
      (elementList 256 s.dev.cfg.trace.elements = [] ∨ s.dev.cfg.trace.nodes = 0 → Refuses .traceArm s .invalid)
      ∧ (∀ es, elementList 256 s.dev.cfg.trace.elements = es → es ≠ [] → es.Nodup → (∀ e ∈ es, e ≤ 32767) →
        s.dev.cfg.trace.nodes ≠ 0 →
        (s.dev.cfg.trace.mode = 0 →
          s.dev.cfg.trace.post < traceDepth es.length (entrySize (nodeList s.dev.cfg.trace.nodes).length)) →
        Replies .traceArm s .ok (fun d =>
          d.trace.armDue = true ∧ d.trace.disarmDue = false ∧ d.trace.state = s.dev.trace.state ∧ d.trace.elems = es
            ∧ d.trace.nodes = s.dev.cfg.trace.nodes ∧ d.trace.mode = s.dev.cfg.trace.mode
            ∧ d.trace.post = s.dev.cfg.trace.post ∧ d.trace.written = 0 ∧ d.trace.cause = 0xFF
            ∧ (∀ c ∈ d.sram.cells, regionOf c.1 ≠ some 4)
            ∧ (∀ c ∈ s.dev.sram.cells, regionOf c.1 ≠ some 4 → c ∈ d.sram.cells)
            ∧ d = { s.dev with trace := d.trace, sram := { s.dev.sram with cells := d.sram.cells, poison := d.sram.poison } })))
    ∧ (s.dev.trace.state = .armed → Replies .traceForce s .ok (fun d =>
        d.trace.state = .triggered ∧ d.trace.cause = 6 ∧ d.trace.triggerElem = 0xFFFF
          ∧ d.trace.triggerCycle = s.dev.cycleNo
          ∧ d.trace.left = (if s.dev.trace.mode = 0 then s.dev.trace.post else s.dev.trace.depth)
          ∧ d = { s.dev with trace := d.trace }))
    ∧ (s.dev.trace.state ≠ .armed → Refuses .traceForce s .conflict)
    ∧ Answers .traceDisarm s .ok { s.dev with trace := { s.dev.trace with armDue := false, disarmDue := true } }

/-- CAL_POINTS_WRITE is answered NOENT above element 32,767, INVALID for a value that is not 80 bytes or a set
against R160, otherwise OK: CAL_POINTS reads as written, the element is not marked for poisoned points, and no
byte outside the set and nothing outside calibration and memory changes. DARK_CAPTURE of 1 is answered CONFLICT
while the current bank holds a circuit or a capture runs, otherwise OK: the capture is due at the next tick;
another value is answered INVALID. DARK_CAPTURE_DONE, once 256 cycles are over and their conversions have ended,
ends the capture; where no write waits in the merge buffer, DARK of every enabled site with at least 128 VALID
samples reads as their mean, rounded half away from zero; nothing but calibration, readout and memory changes.
Before that it changes nothing. The order of points written in a cycle against its checks, and what a capture
waits for, is the model's choice (log entries 65, 66). (R160, R166) -/
def Obligations.CalibrationPoints : Prop :=
  ∀ (elem : BitVec 16) (points : List Byte) (v : BitVec 8) (s : State),
    (32767 < elem.toNat → Refuses (.calPointsWrite elem points) s .noent)
    ∧ (elem.toNat ≤ 32767 →
      (points.length ≠ 80 ∨ s.dev.pointSetOk elem.toNat points = false → Refuses (.calPointsWrite elem points) s .invalid)
      ∧ (points.length = 80 → s.dev.pointSetOk elem.toNat points = true →
        Replies (.calPointsWrite elem points) s .ok (fun d =>
          d.calPoints elem.toNat = points
            ∧ (∀ a, a < calAddr elem.toNat ∨ calAddr elem.toNat + 80 ≤ a → d.sram.byte a = s.dev.sram.byte a)
            ∧ tget false d.cal.calPoisoned elem.toNat = false
            ∧ d = { s.dev with sram := d.sram, memory := d.memory, cal := { s.dev.cal with
                calPoisoned := d.cal.calPoisoned, oldPoints := d.cal.oldPoints, overMark := d.cal.overMark
                renew := d.cal.renew } })))
    ∧ (v ≠ 1 → Refuses (.darkCapture v) s .invalid)
    ∧ (s.dev.circuits false ≠ [] ∨ s.dev.cal.darkDue = true ∨ s.dev.cal.darkRun ≠ none → Refuses (.darkCapture 1) s .conflict)
    ∧ (s.dev.circuits false = [] → s.dev.cal.darkDue = false → s.dev.cal.darkRun = none →
      Answers (.darkCapture 1) s .ok { s.dev with cal := { s.dev.cal with darkDue := true } })
    ∧ (∀ t, s.dev.cal.darkRun = some t →
      (t + 256 ≤ s.dev.cyc.ticks → (∀ x ∈ s.dev.rd.conversions, t + 256 ≤ x.tick) →
        Completes .darkCaptureDone s (fun d =>
          d.cal.darkRun = none ∧ d.cal.darkSums = []
            ∧ (s.dev.sram.merge = [] → ∀ m c, m < s.dev.cyc.conf.rows → c < 256 → s.dev.monitorOn c = true →
              128 ≤ (tget (0, 0) s.dev.cal.darkSums (256 * m + c)).2 →
              d.darkWritten (256 * m + c) = satI 16 (divAway (tget (0, 0) s.dev.cal.darkSums (256 * m + c)).1
                (tget (0, 0) s.dev.cal.darkSums (256 * m + c)).2))
            ∧ d = { s.dev with rd := d.rd, cal := d.cal, sram := d.sram, memory := d.memory }))
      ∧ (s.dev.cyc.ticks < t + 256 → Gives .darkCaptureDone s s.dev))

/-- CAL_ROTATION_STOP and CAL_ROTATION_START are answered OK and change only the rotation's setting and state: a
running rotation or one with a restart pending is STOPPING after a stop; a stopped one runs and a stopping one
has a restart pending after a start. CAL_COLUMN_REQUEST is answered INVALID above column 255, CONFLICT for a
column that does not fit or a group outside the rotation, otherwise OK: it is the group's only request.
ROTATION_STEP_END at the tick that ends a column's step of 256 cycles, with values in range, sets the column's
status to 0 and its trims to the measured ones, ends the step, and leaves the cycle unit alone.
SPARE_MOVE_DEFERRED, at a tick at which nothing the wait names is pending, begins the step on the waiting
column. CAL_COLUMN_SKIPPED, after a wait of 4,096 cycles, sets the column's status to 3. Each of the last three
changes nothing where the group has no step, or no wait. That a request is the group's only one and what a step
shows comes from outside (log entry 67), and that SKIPPED comes of a wait alone (log entry 121) are the model's
choices. (R169, R170, R171, R172, R173, R337) -/
def Obligations.RotationControl : Prop :=
  ∀ (col : BitVec 16) (g : Fin 8) (m : StepMeasure) (s : State),
    Answers .calRotationStop s .ok
      { s.dev with
          cal := { s.dev.cal with rotState :=
            if s.dev.cal.rotState = .running ∨ s.dev.cal.rotState = .restartPending then .stopping else s.dev.cal.rotState }
          cfg := { s.dev.cfg with cal := { s.dev.cfg.cal with rotation := 0 } } }
    ∧ Answers .calRotationStart s .ok
      { s.dev with
          cal := { s.dev.cal with rotState :=
            if s.dev.cal.rotState = .stopped then .running
            else if s.dev.cal.rotState = .stopping then .restartPending else s.dev.cal.rotState }
          cfg := { s.dev.cfg with cal := { s.dev.cfg.cal with rotation := 1 } } }
    ∧ (255 < col.toNat → Refuses (.calColumnRequest col) s .invalid)
    ∧ (col.toNat ≤ 255 → s.dev.columnFit col.toNat = false ∨ s.dev.inRotation (col.toNat / 32) = false →
      Refuses (.calColumnRequest col) s .conflict)
    ∧ (col.toNat ≤ 255 → s.dev.columnFit col.toNat = true → s.dev.inRotation (col.toNat / 32) = true →
      Answers (.calColumnRequest col) s .ok
        { s.dev with cal := { s.dev.cal with
            rotRequest := s.dev.cal.rotRequest.filter (fun p => p.1 ≠ col.toNat / 32) ++ [(col.toNat / 32, col.toNat)] } })
    ∧ (∀ c n, s.dev.stepOf g = some ⟨n, some c⟩ → 256 ≤ n → s.dev.cyc.slot = 0 → s.dev.rd.state = .run →
      s.dev.commitDefers = false → s.dev.stepDriverOk c m = true → stepChainOk m = true →
      Completes (.rotationStepEnd g m) s (fun d =>
        tget 0 d.cal.colStatus c = 0 ∧ d.stepOf g ≠ some ⟨n, some c⟩ ∧ d.cyc = s.dev.cyc
          ∧ tget 0 d.cfg.drv.offsetTrim c = s.dev.offsetTrimOf c m ∧ tget 0 d.cfg.drv.gainTrim c = s.dev.gainTrimOf c m))
    ∧ (s.dev.stepOf g = none → Gives (.rotationStepEnd g m) s s.dev)
    ∧ (∀ w, s.dev.waitOf g = some w → s.dev.cal.rotState = .running → s.dev.rd.state = .run → s.dev.stepOf g = none →
      s.dev.cyc.slot = 0 →
      (s.dev.inRotation g = true → w.since ≤ s.dev.cyc.ticks → s.dev.columnFit w.col = true → s.dev.stillPending w = false →
        s.dev.commitDefers = false →
        Completes (.spareMoveDeferred g) s (fun d =>
          d.stepOf g = some ⟨0, some w.col⟩ ∧ d.waitOf g = none ∧ d.cyc = s.dev.cyc))
      ∧ (s.dev.stillPending w = true → w.since + 4096 ≤ s.dev.cyc.ticks →
        Completes (.calColumnSkipped g) s (fun d => tget 0 d.cal.colStatus w.col = 3 ∧ d.cyc = s.dev.cyc)))
    ∧ (s.dev.waitOf g = none → Gives (.spareMoveDeferred g) s s.dev ∧ Gives (.calColumnSkipped g) s s.dev)

/-- SWEEP_REQUEST is answered INVALID for an element not in use or without a monitor kind, CONFLICT for one with a
line cause, queued or swept, or, unless forced, carrying light in either bank, BUSY while 256 wait, otherwise
OK: it is queued last. SWEEP_START at a tick with fewer than 64 sweeps under way takes the first of the queue.
SWEEP_CANCEL takes a queued element out of the queue with result CANCELLED, marks a sweep under way as
cancelled, and is otherwise answered NOENT. SWEEP_END, 64 cycles after the return move began, ends the sweep and
reports it: CANCELLED, or the points sampled, the fitted curve, and the verdict of the fit or the refusal of its
point. REFIT_WINDOW_CLOSE, when the window is over, ends it; where the window no longer holds, nothing else
changes. CAL_POINTS_FORWARD takes the element out of the list of those to be forwarded and, where a mate lane in
use is UP and has room, queues its point set for the mate with the next SYNC_SEQ, kept until it is acknowledged;
with no mate address known, or TOWER_WIRED 0, nothing else changes. SWEEP_CANCEL's answers and the order of the
verdicts (log entry 68), a fit that cannot be stored as 5 FAILED_SLOPE (log entry 68) and the forward dropped
without a mate (log entry 38) are the model's choices. (R44, R174, R175, R176, R177, R180, R182, R368) -/
def Obligations.Sweeps : Prop :=
  ∀ (elem : BitVec 16) (e : BitVec 15) (force : Bool) (s : State),
    (s.dev.inUse elem.toNat = false ∨ entryKind (s.dev.entry elem.toNat) = 3 → Refuses (.sweepRequest elem force) s .invalid)
    ∧ (s.dev.inUse elem.toNat = true → entryKind (s.dev.entry elem.toNat) ≠ 3 →
      (s.dev.anyLineCause (s.dev.record elem.toNat) = true ∨ s.dev.isQueued elem.toNat = true
          ∨ s.dev.isSwept elem.toNat = true
          ∨ (force = false ∧ (s.dev.carries false elem.toNat = true ∨ s.dev.carries true elem.toNat = true)) →
        Refuses (.sweepRequest elem force) s .conflict)
      ∧ (s.dev.anyLineCause (s.dev.record elem.toNat) = false → s.dev.isQueued elem.toNat = false →
        s.dev.isSwept elem.toNat = false →
        (force = true ∨ (s.dev.carries false elem.toNat = false ∧ s.dev.carries true elem.toNat = false)) →
        (256 ≤ s.dev.cal.sweepQueue.length → Refuses (.sweepRequest elem force) s .busy)
        ∧ (s.dev.cal.sweepQueue.length < 256 → Answers (.sweepRequest elem force) s .ok
          { s.dev with cal := { s.dev.cal with sweepQueue := s.dev.cal.sweepQueue ++ [(elem.toNat, force)] } })))
    ∧ (∀ a f l, s.dev.cal.sweepQueue = (a, f) :: l → s.dev.cal.sweeps.length < 64 → s.dev.cyc.slot = 0 →
      Completes .sweepStart s (fun d =>
        d.cal = { s.dev.cal with
          sweepQueue := l
          sweeps := s.dev.cal.sweeps ++ [{ elem := a, start := s.dev.cyc.ticks, code0 := (s.dev.record a).codeND }] }
          ∧ d = { s.dev with cal := d.cal, ev := d.ev }))
    ∧ (s.dev.isQueued elem.toNat = true → Replies (.sweepCancel elem) s .ok (fun d =>
        d.cal.sweepQueue = s.dev.cal.sweepQueue.filter (fun p => p.1 ≠ elem.toNat)
          ∧ (tget {} d.cal.sweepResult elem.toNat).status = 2 ∧ d = { s.dev with cal := d.cal }))
    ∧ (s.dev.isQueued elem.toNat = false → s.dev.isSwept elem.toNat = true → Answers (.sweepCancel elem) s .ok
        { s.dev with cal := { s.dev.cal with
            sweeps := s.dev.cal.sweeps.map (fun x => if x.elem = elem.toNat then { x with cancelled := true } else x) } })
    ∧ (s.dev.isQueued elem.toNat = false → s.dev.isSwept elem.toNat = false → Refuses (.sweepCancel elem) s .noent)
    ∧ (∀ w, s.dev.cal.sweeps.find? (fun x => x.elem = e.toNat) = some w → w.phase = .returning →
      w.back + 64 ≤ s.dev.cyc.ticks → s.dev.cyc.slot = 0 →
      Completes (.sweepEnd e) s (fun d =>
        (∀ x ∈ d.cal.sweeps, x.elem ≠ e.toNat)
          ∧ (tget {} d.cal.sweepResult e.toNat).elem = e.toNat
          ∧ (w.cancelled = true → (tget {} d.cal.sweepResult e.toNat).status = 2)
          ∧ (w.cancelled = false →
            ((tget {} d.cal.sweepResult e.toNat).status = s.dev.sweepJudge w
              ∨ (s.dev.sweepJudge w = 0 ∧ (tget {} d.cal.sweepResult e.toNat).status = 5))
            ∧ (tget {} d.cal.sweepResult e.toNat).used = sampledPoints w
            ∧ (⟨(tget {} d.cal.sweepResult e.toNat).a0, (tget {} d.cal.sweepResult e.toNat).a1,
                (tget {} d.cal.sweepResult e.toNat).a2⟩ : Curve) = sweepCurve w)
          ∧ d.cyc = s.dev.cyc))
    ∧ (∀ w, s.dev.cal.refits.find? (fun x => x.elem = e.toNat) = some w → w.start + s.dev.cfg.cal.refitWindow ≤ s.dev.cyc.ticks →
      Completes (.refitWindowClose e) s (fun d =>
        d.cal.refits = s.dev.cal.refits.filter (fun x => x.elem ≠ e.toNat) ∧ d.cyc = s.dev.cyc
          ∧ (s.dev.refitHolds e.toNat = false → d = { s.dev with cal := { s.dev.cal with refits := d.cal.refits } })))
    ∧ (e.toNat ∈ s.dev.cal.forward → (s.dev.net.mateAddress = 0 ∨ s.dev.arr.wiredOn = false) → Gives (.calPointsForward e) s
        { s.dev with cal := { s.dev.cal with forward := s.dev.cal.forward.filter (fun x => x ≠ e.toNat) } })
    ∧ (e.toNat ∈ s.dev.cal.forward → s.dev.net.mateAddress ≠ 0 → s.dev.arr.wiredOn = true →
      s.dev.laneUp 2 = true → (s.dev.lane 2).unused = false → s.dev.pointsPoisoned e.toNat = false →
      ∀ f, f = s.dev.ownFrame 4 17 s.dev.net.mateAddress
          (syncBytes 1 0 e.toNat s.dev.tow.syncSeq.toNat (s.dev.calPoints e.toNat)) →
      s.dev.hasRoom 2 4 f → Completes (.calPointsForward e) s (fun d =>
        d.cal = { s.dev.cal with forward := s.dev.cal.forward.filter (fun x => x ≠ e.toNat) }
          ∧ Queued s.dev d 2 4 f
          ∧ d.tow.syncSeq = s.dev.tow.syncSeq + 1
          ∧ d.tow.syncOut = s.dev.tow.syncOut ++ [{ seq := s.dev.tow.syncSeq, kind := 1, item := e.toNat
                                                    body := s.dev.calPoints e.toNat, since := s.dev.time.up, sends := 1 }]))

/-- FABRIC_BLOCK is answered NOENT above block 511, INVALID for a value that is not 1,024 bytes (log entry 21),
CONFLICT while a map is pending, otherwise OK: the block is staged and nothing else changes. FABRIC_APPLY of 1
is answered BUSY while a map is pending, CONFLICT unless the Loop Engine is stopped, both banks are empty and no
solve runs or waits; INVALID, with check and item in FABRIC_ERROR, where the staged image fails a check;
otherwise OK: the image is pending and FABRIC_STATE reads PENDING. FABRIC_IN_FORCE at a tick puts the pending
map in force, forgets every solve with its reports and the resident image, and misses a commit ahead with the
cause MAP_CHANGED; the next scan's order apart, the cycle unit stands. With no map pending it changes nothing.
The order of FABRIC_APPLY's checks (log entry 19), the item of a failed check without one (log entry 109), that
only the pending map counts until its tick (log entry 70) and the reports that a map resets beside the status
(log entry 123) are the model's choices. (R189, R190, R199, R217, R353) -/
def Obligations.FabricMap : Prop :=
  ∀ (block : BitVec 16) (bytes : List Byte) (v : BitVec 8) (s : State),
    (511 < block.toNat → Refuses (.fabricBlockWrite block bytes) s .noent)
    ∧ (block.toNat ≤ 511 → bytes.length ≠ 1024 → Refuses (.fabricBlockWrite block bytes) s .invalid)
    ∧ (block.toNat ≤ 511 → bytes.length = 1024 → s.dev.fab.state = .pending →
      Refuses (.fabricBlockWrite block bytes) s .conflict)
    ∧ (block.toNat ≤ 511 → bytes.length = 1024 → s.dev.fab.state ≠ .pending →
      Answers (.fabricBlockWrite block bytes) s .ok
        { s.dev with fab := { s.dev.fab with staged := tset [] s.dev.fab.staged block.toNat bytes } })
    ∧ (v ≠ 1 → Refuses (.fabricApply v) s .invalid)
    ∧ (s.dev.fab.state = .pending → Refuses (.fabricApply 1) s .busy)
    ∧ (s.dev.fab.state ≠ .pending → s.dev.loop.state ≠ .stopped ∨ s.dev.circuits false ≠ [] ∨ s.dev.circuits true ≠ []
        ∨ s.dev.solve.running ≠ none ∨ s.dev.solve.queued ≠ none → Refuses (.fabricApply 1) s .conflict)
    ∧ (s.dev.fab.state ≠ .pending → s.dev.loop.state = .stopped → s.dev.circuits false = [] → s.dev.circuits true = [] →
      s.dev.solve.running = none → s.dev.solve.queued = none →
      ((s.dev.checkImage s.dev.stagedImage).1 ≠ 0 → Answers (.fabricApply 1) s .invalid
        { s.dev with fab := { s.dev.fab with error := s.dev.checkImage s.dev.stagedImage } })
      ∧ ((s.dev.checkImage s.dev.stagedImage).1 = 0 → Replies (.fabricApply 1) s .ok (fun d =>
        d.fab = { s.dev.fab with state := .pending, error := (0, 0), pending := s.dev.stagedImage }
          ∧ d.cyc = s.dev.cyc)))
    ∧ (s.dev.fab.state = .pending → s.dev.cyc.slot = 0 → Completes .fabricInForce s (fun d =>
        d.fab = { s.dev.fab with state := .inForce, image := s.dev.fab.pending, pending := [] }
          ∧ d.solve.running = none ∧ d.solve.queued = none ∧ d.solve.status = .none_ ∧ d.solve.unplaced = 0xFFFF
          ∧ d.solve.moved = [] ∧ d.solve.changed = 0 ∧ d.solve.dual = 0
          ∧ (∀ c, s.dev.circ.pending = some c → d.circ.pending = none ∧ d.circ.report.result = 2 ∧ d.circ.report.cause = 1
            ∧ d.circ.report.at_ = c.at_)
          ∧ d.tow.resident = none ∧ d.cyc = { s.dev.cyc with nextScan := d.cyc.nextScan }))
    ∧ (s.dev.fab.state ≠ .pending → Gives .fabricInForce s s.dev)

/-- A solve request, STRICT or PERMISSIVE, is answered BUSY, and changes nothing, while one solve runs and another
waits; otherwise OK, and where the map is not RAW and the next bank holds no finished solve it runs in its mode,
or waits with its mode while another runs: nothing but the solver changes; otherwise nothing changes. SOLVE_DONE
of a running solve with no other waiting ends it: SOLVE_STATUS reads its status, STALE where the next bank's
generation changed since its start and the solve had been OK or in conflict, and its time is recorded. Where it
ends OK its reports are the solve's, and each cell state and each target of the next bank is the one that the
solve gives it, or as in the current bank where it gives none; otherwise memory stands, nothing is moved or
changed, DUAL_CELLS stands and FIRST_UNPLACED is the solve's on CONFLICT alone. RAW_TARGET is answered NOENT
above element 32,767, INVALID for a value that is not 8 bytes (log entry 21) or an element of a cell or a port
or not in use, LATE while a commit is armed, otherwise OK: the element's target in the next bank is the one
written, and only memory and the record of what was written change. That a conflict with a changed generation is
STALE and a solve's outcome is that of what stood at its start (log entry 71), and the answer without a map (log
entry 124) are the model's choices. (R197, R198, R199, R203, R204) -/
def Obligations.Solves : Prop :=
  ∀ (time : Nat) (elem : BitVec 16) (bytes : List Byte) (s : State),
    (s.dev.solve.running ≠ none → s.dev.solve.queued ≠ none → Refuses .solveStrict s .busy ∧ Refuses .solvePermissive s .busy)
    ∧ (s.dev.topology ≠ 0 → s.dev.finishedSolve = false → s.dev.solve.running = none →
      Replies .solveStrict s .ok (fun d => (∃ r, d = { s.dev with solve := { s.dev.solve with running := some r } }
        ∧ r.strict = true ∧ r.gen = s.dev.circ.gen))
      ∧ Replies .solvePermissive s .ok (fun d => (∃ r, d = { s.dev with solve := { s.dev.solve with running := some r } }
        ∧ r.strict = false ∧ r.gen = s.dev.circ.gen)))
    ∧ (s.dev.topology ≠ 0 → s.dev.finishedSolve = false → s.dev.solve.running ≠ none → s.dev.solve.queued = none →
      Answers .solveStrict s .ok { s.dev with solve := { s.dev.solve with queued := some true } }
      ∧ Answers .solvePermissive s .ok { s.dev with solve := { s.dev.solve with queued := some false } })
    ∧ (s.dev.topology = 0 ∨ s.dev.finishedSolve = true → s.dev.solve.running = none ∨ s.dev.solve.queued = none →
      Answers .solveStrict s .ok s.dev ∧ Answers .solvePermissive s .ok s.dev)
    ∧ (∀ r, s.dev.solve.running = some r → s.dev.solve.queued = none → Completes (.solveDone time) s (fun d =>
        d.solve.running = none ∧ d.solve.solvedGen = r.gen ∧ d.solve.lastTime = time
          ∧ (r.gen = s.dev.circ.gen → d.solve.status = r.status)
          ∧ (r.gen ≠ s.dev.circ.gen → r.status = .ok ∨ r.status = .conflict → d.solve.status = .stale)
          ∧ d.solve.unplaced = (if d.solve.status = .conflict then r.unplaced else 0xFFFF)
          ∧ (d.solve.status ≠ .ok → d.sram = s.dev.sram ∧ d.solve.moved = [] ∧ d.solve.changed = 0
            ∧ d.solve.dual = s.dev.solve.dual)
          ∧ (d.solve.status = .ok → d.solve.moved = r.moved ∧ d.solve.changed = r.changed ∧ d.solve.dual = r.dual
            ∧ (2 * s.dev.mapCells ≤ 32768 → (∀ e ∈ s.dev.solveElems, e < 32768) → (r.cells.map Prod.fst).Nodup →
              (∀ c, c < s.dev.mapCells → d.cell true c = (tfind r.cells c).getD (s.dev.cell false c))
              ∧ (∀ e ∈ s.dev.solveElems,
                d.target true e = ((tfind r.targets e).map (fun w => w.toNat)).getD (s.dev.target false e))))
          ∧ d.cyc = s.dev.cyc))
    ∧ (32767 < elem.toNat → Refuses (.rawTargetWrite elem bytes) s .noent)
    ∧ (elem.toNat ≤ 32767 →
      bytes.length ≠ 8 ∨ elem.toNat < 2 * s.dev.mapCells ∨ s.dev.portOf elem.toNat ≠ none ∨ s.dev.inUse elem.toNat = false →
      Refuses (.rawTargetWrite elem bytes) s .invalid)
    ∧ (bytes.length = 8 → elem.toNat ≤ 32767 → 2 * s.dev.mapCells ≤ elem.toNat → s.dev.portOf elem.toNat = none → s.dev.inUse elem.toNat = true →
      (s.dev.circ.armed ≠ none → Refuses (.rawTargetWrite elem bytes) s .late)
      ∧ (s.dev.circ.armed = none → Replies (.rawTargetWrite elem bytes) s .ok (fun d =>
        d.target true elem.toNat
            = field bytes 0 3 * 2 ^ 40 + field bytes 4 4 % 2 ^ 20 * 2 ^ 20 + field bytes 3 1 % 2 * 2 ^ 19
          ∧ d = { s.dev with sram := d.sram, memory := d.memory, circ := { s.dev.circ with written := d.circ.written } })))

/-- CIRCUIT_NEXT is answered NOENT above entry 1,023, INVALID for a value that is not 16 bytes; an entry without
BY_LABEL that a check refuses is answered its code and changes nothing; one that passes is answered OK, the next
bank's entry reads as checked, and where it differed the generation of the next bank rises by 1. With BY_LABEL
the sightings and the label command of the cycle have their turn first; then it is LATE while a commit is armed,
INVALID for a bad entry, NOENT for a label without entry, STALE for a stale one while REJECT_STALE is set,
CONFLICT for a clash, else stored with the port that the label's entry holds. CIRCUIT_BATCH of a false length is
answered INVALID; one of entries without BY_LABEL that a check refuses is answered the code of the first such
item, recorded in BATCH_ERROR, and changes nothing else; one that passes is answered OK, each entry it names
once reads as checked, and the generation rises by at most 1. NEXT_RESET is LATE while a commit is armed,
otherwise OK with the generation one higher: after a copy the next bank reads as the current one, after a
clearing it holds no circuit. PORT_ATTEN is NOENT above port 1,023, INVALID for a value that is not 9 bytes,
LATE while a commit is armed, INVALID for a power outside 1 to 524,287, otherwise OK: the setting is the one
written and the generation one higher. Only memory, the Circuit Tables and the port's setting change.
BATCH_ERROR's numbering and a false length (log entry 72), sightings before a resolution (log entry 110), the
code for a poisoned label word and the INGRESS of BY_LABEL entries (log entry 125) are the model's choices.
(R206, R211, R212, R213, R229, R244) -/
def Obligations.CircuitWrites : Prop :=
  ∀ (k port : BitVec 16) (b : List Byte) (s : State),
    (1023 < k.toNat → Refuses (.circuitNextWrite k b) s .noent)
    ∧ (k.toNat ≤ 1023 → b.length ≠ 16 → Refuses (.circuitNextWrite k b) s .invalid)
    ∧ (k.toNat ≤ 1023 → b.length = 16 → (circOf b).byLabel = false →
      (∀ e, s.dev.checkEntry k.toNat b (s.dev.circuits true) = .error e → Refuses (.circuitNextWrite k b) s e)
      ∧ (∀ c, s.dev.checkEntry k.toNat b (s.dev.circuits true) = .ok c →
        (s.dev.entryBytes true k.toNat = c.bytes → Answers (.circuitNextWrite k b) s .ok s.dev)
        ∧ (s.dev.entryBytes true k.toNat ≠ c.bytes → Replies (.circuitNextWrite k b) s .ok (fun d =>
          d.entryBytes true k.toNat = c.bytes ∧ d.circ = { s.dev.circ with gen := s.dev.circ.gen + 1, written := d.circ.written }
            ∧ d = { s.dev with circ := d.circ, sram := d.sram, memory := d.memory }))))
    ∧ (k.toNat ≤ 1023 → b.length = 16 → (circOf b).byLabel = true → ∀ x, x = s.dev.beforeResolution →
      (x.circ.armed ≠ none → Answers (.circuitNextWrite k b) s .late x)
      ∧ (x.circ.armed = none → x.circuitBad (circOf b) = true → Answers (.circuitNextWrite k b) s .invalid x)
      ∧ (x.circ.armed = none → x.circuitBad (circOf b) = false →
        (x.lookupPoison (circOf b).label = true → Answers (.circuitNextWrite k b) s .poisoned x)
        ∧ (x.lookupPoison (circOf b).label = false →
          (x.findLabel (circOf b).label = none → Answers (.circuitNextWrite k b) s .noent x)
          ∧ (∀ p c, x.findLabel (circOf b).label = some p → c = { circOf b with ingress := (x.labelEntry p).port } →
            ((x.labelEntry p).stale = true → x.cfg.circ.rejectStale = true → Answers (.circuitNextWrite k b) s .stale x)
            ∧ ((x.labelEntry p).stale = false ∨ x.cfg.circ.rejectStale = false →
              (c.inUse = true → clashes k.toNat c (x.circuits true) = true → Answers (.circuitNextWrite k b) s .conflict x)
              ∧ (c.inUse = false ∨ clashes k.toNat c (x.circuits true) = false →
                Replies (.circuitNextWrite k b) s .ok (fun d =>
                  d.entryBytes true k.toNat = c.bytes
                    ∧ d.circ.gen = (if x.entryBytes true k.toNat = c.bytes then x.circ.gen else x.circ.gen + 1)
                    ∧ d.circ = { x.circ with gen := d.circ.gen, written := d.circ.written }
                    ∧ d = { x with circ := d.circ, sram := d.sram, memory := d.memory })))))))
    ∧ (field b 0 1 = 0 ∨ 64 < field b 0 1 ∨ b.length ≠ 1 + 18 * field b 0 1 → Refuses (.circuitBatch b) s .invalid)
    ∧ (1 ≤ field b 0 1 → field b 0 1 ≤ 64 → b.length = 1 + 18 * field b 0 1 →
      (∀ p ∈ batchItems (field b 0 1) (b.drop 1), (circOf p.2).byLabel = false) →
      (∀ i e, s.dev.checkBatch 0 (batchItems (field b 0 1) (b.drop 1)) (s.dev.circuits true) = .error (i, e) →
        Answers (.circuitBatch b) s e { s.dev with circ := { s.dev.circ with batchError := (i, respCode e) } })
      ∧ (∀ l, s.dev.checkBatch 0 (batchItems (field b 0 1) (b.drop 1)) (s.dev.circuits true) = .ok l →
        Replies (.circuitBatch b) s .ok (fun d =>
          (d.circ.gen = s.dev.circ.gen ∨ d.circ.gen = s.dev.circ.gen + 1)
            ∧ (∀ p ∈ l, (∀ q ∈ l, q.1 = p.1 → q = p) → d.entryBytes true p.1 = p.2.bytes)
            ∧ d.circ = { s.dev.circ with gen := d.circ.gen, written := d.circ.written }
            ∧ d = { s.dev with circ := d.circ, sram := d.sram, memory := d.memory })))
    ∧ (s.dev.circ.armed ≠ none → Refuses .nextResetCopy s .late ∧ Refuses .nextResetClear s .late)
    ∧ (s.dev.circ.armed = none →
      Replies .nextResetCopy s .ok (fun d =>
        (∀ off, d.bankWord true off = s.dev.bankWord false off)
          ∧ d = { s.dev with circ := { s.dev.circ with written := some [], gen := s.dev.circ.gen + 1 } })
      ∧ Replies .nextResetClear s .ok (fun d =>
        d.circuits true = [] ∧ d.circ = { s.dev.circ with gen := s.dev.circ.gen + 1, written := d.circ.written }
          ∧ d = { s.dev with circ := d.circ, sram := d.sram, memory := d.memory }))
    ∧ (1023 < port.toNat → Refuses (.portAttenWrite port b) s .noent)
    ∧ (port.toNat ≤ 1023 → b.length ≠ 9 → Refuses (.portAttenWrite port b) s .invalid)
    ∧ (port.toNat ≤ 1023 → b.length = 9 →
      (s.dev.circ.armed ≠ none → Refuses (.portAttenWrite port b) s .late)
      ∧ (s.dev.circ.armed = none → field b 6 3 % 2 ^ 20 = 0 ∨ 524287 < field b 6 3 % 2 ^ 20 →
        Refuses (.portAttenWrite port b) s .invalid)
      ∧ (s.dev.circ.armed = none → 1 ≤ field b 6 3 % 2 ^ 20 → field b 6 3 % 2 ^ 20 ≤ 524287 →
        Replies (.portAttenWrite port b) s .ok (fun d =>
          d.circ = { s.dev.circ with gen := s.dev.circ.gen + 1, written := d.circ.written }
            ∧ d.cfg = { s.dev.cfg with circ := { s.dev.cfg.circ with portAtten :=
                (tset {} s.dev.cfg.circ.portAtten port.toNat
                  { phiOpen := signed 24 (field b 0 3), phiBlock := signed 24 (field b 3 3), power := field b 6 3 % 2 ^ 20 }) } }
            ∧ d = { s.dev with circ := d.circ, cfg := d.cfg, sram := d.sram, memory := d.memory })))

/-- COMMIT is answered INVALID for a time that is no TIME, no tick of the grid or more than a day ahead; STALE while
the time is not locked; LATE after the arming point of its tick; CONFLICT while a map is pending or EXPECT_GEN
names another generation; OK, replacing it, where a commit to the same tick is pending, and BUSY where one to
another tick is pending or one is armed; otherwise OK: the commit is pending. COMMIT_CANCEL of 1 is answered
LATE while a commit is armed, NOENT where none is pending, otherwise OK: nothing is pending and COMMIT_REPORT
reads CANCELLED for it. Nothing else changes. LATE exactly for a tick not after the next one or less than a
period away, BUSY while only an armed commit stands, and the fields of a CANCELLED report (log entry 73) are the
model's choices. (R18, R20, R52, R214, R215) -/
def Obligations.CommitRequests : Prop :=
  ∀ (r : CommitReq) (v : BitVec 8) (s : State) (t : Nat), t = 1000000000 * r.secs.toNat + r.nanos.toNat →
    (1000000000 ≤ r.nanos.toNat ∨ t % s.dev.cyc.conf.period ≠ 0 ∨ 86400 * 1000000000 + s.dev.now < t →
      Refuses (.commit r) s .invalid)
    ∧ (r.nanos.toNat < 1000000000 → t % s.dev.cyc.conf.period = 0 → t ≤ 86400 * 1000000000 + s.dev.now →
      (s.dev.time.state ≠ .locked → s.dev.time.state ≠ .holdover → Refuses (.commit r) s .stale)
      ∧ (s.dev.time.state = .locked ∨ s.dev.time.state = .holdover →
        (t ≤ s.dev.time.nextTick ∨ t < s.dev.now + s.dev.cyc.conf.period → Refuses (.commit r) s .late)
        ∧ (s.dev.time.nextTick < t → s.dev.now + s.dev.cyc.conf.period ≤ t →
          (s.dev.fab.state = .pending ∨ (r.expectGen ≠ 0xFFFFFFFF ∧ r.expectGen ≠ s.dev.circ.gen) →
            Refuses (.commit r) s .conflict)
          ∧ (s.dev.fab.state ≠ .pending → r.expectGen = 0xFFFFFFFF ∨ r.expectGen = s.dev.circ.gen →
            (∀ p, s.dev.circ.pending = some p → p.tick ≠ t → Refuses (.commit r) s .busy)
            ∧ (s.dev.circ.pending = none → s.dev.circ.armed ≠ none → Refuses (.commit r) s .busy)
            ∧ ((∃ p, s.dev.circ.pending = some p ∧ p.tick = t)
                ∨ (s.dev.circ.pending = none ∧ s.dev.circ.armed = none) →
              Answers (.commit r) s .ok { s.dev with circ := { s.dev.circ with
                pending := some ⟨⟨r.secs.toNat, r.nanos.toNat⟩, r.expectGen, r.group⟩ } })))))
    ∧ (v ≠ 1 → Refuses (.commitCancel v) s .invalid)
    ∧ (s.dev.circ.armed ≠ none → Refuses (.commitCancel 1) s .late)
    ∧ (s.dev.circ.armed = none → s.dev.circ.pending = none → Refuses (.commitCancel 1) s .noent)
    ∧ (∀ c, s.dev.circ.armed = none → s.dev.circ.pending = some c →
      Answers (.commitCancel 1) s .ok { s.dev with circ := { s.dev.circ with
        pending := none
        report := { at_ := c.at_, group := c.group, result := 3, gen := s.dev.circ.gen, ffError := 0xFFFF
                    circuits := (s.dev.circuits false).length } } })

/-- VERIFY_ENABLE is answered OK and changes its setting alone. VERIFY_TIMEOUT, while the decoder runs, of a circuit
PENDING or VERIFIED for VERIFY_TIMEOUT ms without a decode puts it in NO_LABEL; nothing but the verification
states and the Event Unit changes. Of any other circuit, or while the decoder does not run, it changes nothing.
That a decode's run begins anew in NO_LABEL (log entry 75) is the model's choice. (R227, R248) -/
def Obligations.Verification : Prop :=
  ∀ (v : Bool) (k : BitVec 10) (s : State),
    Answers (.verifyEnableWrite v) s .ok
      { s.dev with cfg := { s.dev.cfg with ver := { s.dev.cfg.ver with enable := v } } }
    ∧ (s.dev.dec.state = .running →
      (s.dev.verState k.toNat = .pending ∧ tget 0 s.dev.ver.since k.toNat + 1000000 * s.dev.cfg.ver.timeout ≤ s.dev.now)
        ∨ (s.dev.verState k.toNat = .verified ∧ tget 0 s.dev.ver.lastAt k.toNat + 1000000 * s.dev.cfg.ver.timeout ≤ s.dev.now) →
      Completes (.verifyTimeout k) s (fun d =>
        d.verState k.toNat = .noLabel ∧ d = { s.dev with ver := { s.dev.ver with state := d.ver.state, batch := d.ver.batch, last := d.ver.last }
                                                         ev := d.ev }))
    ∧ (s.dev.dec.state ≠ .running
        ∨ (s.dev.verState k.toNat = .pending ∧ s.dev.now < tget 0 s.dev.ver.since k.toNat + 1000000 * s.dev.cfg.ver.timeout)
        ∨ (s.dev.verState k.toNat = .verified ∧ s.dev.now < tget 0 s.dev.ver.lastAt k.toNat + 1000000 * s.dev.cfg.ver.timeout)
        ∨ (s.dev.verState k.toNat ≠ .pending ∧ s.dev.verState k.toNat ≠ .verified) → Gives (.verifyTimeout k) s s.dev)

/-- DECODER_STOP and DECODER_START are answered OK, set DECODER_CONTROL, and fall due at the next tick, turn a
pending restart round, or leave a stop under way as it is. DECODER_STOPPED in a cycle's slot 0 with no decode
under way makes a STOPPING decoder STOPPED, and one with a restart pending RUNNING from the present quarter-bit;
while a decode is under way it changes nothing. PAIR_WRITE is answered INVALID where the pair would be enabled
against the pair conditions or another active pair would be disabled by it, otherwise OK: the pair takes its
settings. LEARN_READ_INDEX is answered OK up to LEARN_WRITE_INDEX and INVALID beyond. QUARTER_BIT at a passed
boundary with every conversion in, in a cycle without a circuit resolution before it, makes the present
quarter-bit the one being summed. LABEL_GONE, 240 ms after the last decode, makes the current label the lost
one; on an egress channel nothing outside the decoder changes. Before that, and where there is no label, it
changes nothing. INVALID for a pair that would end another's ACTIVE state (log entry 76), QUARTER_BIT waiting
for the next cycle behind a resolution (log entry 110) and what holds up STOPPING (log entry 77) are the model's
choices. (R232, R234, R236, R239, R248, R337) -/
def Obligations.DecoderControl : Prop :=
  ∀ (p : Fin 8) (f0 f1 : BitVec 32) (on : Bool) (v : BitVec 16) (chan : BitVec 11) (s : State),
    Replies .decoderStop s .ok (fun d =>
        d = { s.dev with dec := d.dec, cfg := { s.dev.cfg with dec := { s.dev.cfg.dec with control := 0 } } }
          ∧ (s.dev.dec.state = .restartPending → d.dec = { s.dev.dec with state := .stopping })
          ∧ (s.dev.dec.state = .stopping → d.dec = { s.dev.dec with due := none })
          ∧ (s.dev.dec.state ≠ .restartPending → s.dev.dec.state ≠ .stopping → d.dec = { s.dev.dec with due := some 0 }))
    ∧ Replies .decoderStart s .ok (fun d =>
        d = { s.dev with dec := d.dec, cfg := { s.dev.cfg with dec := { s.dev.cfg.dec with control := 1 } } }
          ∧ (s.dev.dec.state = .stopping → d.dec = { s.dev.dec with state := .restartPending })
          ∧ (s.dev.dec.state ≠ .stopping → d.dec = { s.dev.dec with due := some 1 }))
    ∧ (s.dev.cyc.slot = 0 → (∀ x ∈ s.dev.dec.chans, x.2.decode = none) → s.dev.dec.state = .stopping →
      Gives .decoderStopped s { s.dev with dec := { s.dev.dec with state := .stopped, chans := [] } })
    ∧ (s.dev.cyc.slot = 0 → (∀ x ∈ s.dev.dec.chans, x.2.decode = none) → s.dev.dec.state = .restartPending →
      Completes .decoderStopped s (fun d =>
        d.dec = { s.dev.dec with
            state := .running, chans := [], quarter := s.dev.time.lastTick / 500000, ticksAhead := 0
            ticksNow := d.dec.ticksNow, tickCounts := d.dec.tickCounts }
          ∧ d.cyc = s.dev.cyc))
    ∧ ((∃ x ∈ s.dev.dec.chans, x.2.decode ≠ none) → Gives .decoderStopped s s.dev)
    ∧ ((on = true ∧ (p : Nat) ∉ activePairs s.dev.cyc.conf.period (splice s.dev.pairs p [⟨f0.toNat, f1.toNat, on⟩]))
        ∨ (∃ k ∈ activePairs s.dev.cyc.conf.period s.dev.pairs, k ≠ (p : Nat)
          ∧ k ∉ activePairs s.dev.cyc.conf.period (splice s.dev.pairs p [⟨f0.toNat, f1.toNat, on⟩])) →
      Refuses (.pairWrite p f0 f1 on) s .invalid)
    ∧ ((on = true → (p : Nat) ∈ activePairs s.dev.cyc.conf.period (splice s.dev.pairs p [⟨f0.toNat, f1.toNat, on⟩])) →
      (∀ k ∈ activePairs s.dev.cyc.conf.period s.dev.pairs, k ≠ (p : Nat) →
        k ∈ activePairs s.dev.cyc.conf.period (splice s.dev.pairs p [⟨f0.toNat, f1.toNat, on⟩])) →
      Replies (.pairWrite p f0 f1 on) s .ok (fun d =>
        d = { s.dev with
          dec := { s.dev.dec with oldEnable := d.dec.oldEnable }
          cfg := { s.dev.cfg with dec := { s.dev.cfg.dec with
            f0 := tset 0 s.dev.cfg.dec.f0 p f0, f1 := tset 0 s.dev.cfg.dec.f1 p f1
            enable := tset false s.dev.cfg.dec.enable p on } } }))
    ∧ ((v - s.dev.cfg.dec.learnRead).toNat ≤ (s.dev.dec.learnWrite - s.dev.cfg.dec.learnRead).toNat →
      Answers (.learnReadIndexWrite v) s .ok
        { s.dev with cfg := { s.dev.cfg with dec := { s.dev.cfg.dec with learnRead := v } } })
    ∧ ((s.dev.dec.learnWrite - s.dev.cfg.dec.learnRead).toNat < (v - s.dev.cfg.dec.learnRead).toNat →
      Refuses (.learnReadIndexWrite v) s .invalid)
    ∧ (s.dev.decoding = true → s.dev.lab.busy = false → s.dev.time.lastTick / 500000 ≠ s.dev.dec.quarter →
      (∀ x ∈ s.dev.rd.conversions, 500000 * (s.dev.dec.quarter + 1) ≤ x.start) →
      Completes .quarterBit s (fun d => d.dec.quarter = s.dev.time.lastTick / 500000 ∧ d.cyc = s.dev.cyc))
    ∧ (s.dev.decoding = false ∨ s.dev.lab.busy = true → Gives .quarterBit s s.dev)
    ∧ (∀ c, (s.dev.chan chan.toNat p).current = some c → 240000000 + c.lastEnd ≤ s.dev.now → s.dev.dec.state = .running →
      Completes (.labelGone chan p) s (fun d =>
        (d.chan chan.toNat p).current = none ∧ (d.chan chan.toNat p).lost = some c
          ∧ (chan.toNat % 2 = 1 → d = { s.dev with dec := d.dec })
          ∧ d.cyc = s.dev.cyc))
    ∧ (∀ c, (s.dev.chan chan.toNat p).current = some c → s.dev.now < 240000000 + c.lastEnd → Gives (.labelGone chan p) s s.dev)
    ∧ ((s.dev.chan chan.toNat p).current = none → Gives (.labelGone chan p) s s.dev)

/-- A command with a reserved opcode, or a NEXT with a cursor above 8,703 or a count not 1 to 8, is answered
INVALID; one that arrives while 32 are pending BUSY. One that arrives while sightings are due in the cycle, or
while the cycle has had its command, is queued last, its answer to come. On an idle table otherwise the command
executes at once and writes one result record. With no map in force it is answered INVALID. INSERT is answered
INVALID for a port the map does not have; where a word searched is poisoned, POISONED; for an absent key OK with
the lowest free position written, VALID, HIT and the STATIC of the command, or CONFLICT with none free; for a
key of the same port OK, refreshed, with the STATIC of the command; for a key of another port OK, refreshed and
moved, with the flag REPLACE, and without it EXISTS_OTHER_PORT. DELETE of a present key is answered OK and
clears its position. SEARCH is answered OK, or STALE for a marked entry, and records the entry. NEXT is answered
OK and records up to COUNT entries at or after the cursor, with the cursor to go on from, and beyond the last
entry NOENT; DELETE and SEARCH of an absent key NOENT, over a poisoned word POISONED. An INSERT or DELETE
answered OK on a unit that drives is put in line for the mate. No other byte of memory changes, and nothing
outside the table. The order of a cycle's work and the refusal of a cursor or count at acceptance (log entry 77)
are the model's choices. (R6, R242, R244, R245, R246, R247, R249) -/
def Obligations.LabelCommands : Prop :=
  ∀ (c : LabelCmd) (s : State),
    (labelCmdOk c [1] = false → Refuses (.labelInsert c) s .invalid)
    ∧ (labelCmdOk c [2] = false → Refuses (.labelDelete c) s .invalid)
    ∧ (labelCmdOk c [3] = false → Refuses (.labelSearch c) s .invalid)
    ∧ (labelCmdOk c [4] = false → Refuses (.labelNext c) s .invalid)
    ∧ (labelCmdOk c [1] = true → 32 ≤ s.dev.commandsPending → Refuses (.labelInsert c) s .busy)
    ∧ (labelCmdOk c [2] = true → 32 ≤ s.dev.commandsPending → Refuses (.labelDelete c) s .busy)
    ∧ (labelCmdOk c [3] = true → 32 ≤ s.dev.commandsPending → Refuses (.labelSearch c) s .busy)
    ∧ (labelCmdOk c [4] = true → 32 ≤ s.dev.commandsPending → Refuses (.labelNext c) s .busy)
    ∧ (s.dev.commandsPending < 32 → s.dev.sightingsDue = true ∨ s.dev.lab.busy = true →
      ∀ q, q = { s.dev with lab := { s.dev.lab with
          nextId := s.dev.lab.nextId + 1, queue := s.dev.lab.queue ++ [(c, .host s.dev.lab.nextId)] } } →
      (labelCmdOk c [1] = true → Gives (.labelInsert c) s q) ∧ (labelCmdOk c [2] = true → Gives (.labelDelete c) s q)
      ∧ (labelCmdOk c [3] = true → Gives (.labelSearch c) s q) ∧ (labelCmdOk c [4] = true → Gives (.labelNext c) s q))
    ∧ (s.dev.lab.queue = [] → s.dev.lab.flush = none → s.dev.lab.busy = false → s.dev.sightingsDue = false →
      s.dev.req.outstanding = [] →
      ∀ n, n = { s.dev with lab := { s.dev.lab with nextId := s.dev.lab.nextId + 1, busy := true } } →
      ∀ ready : Dev → Dev, ready = (fun d =>
        d.setLab (fun t => { t with forward := if s.dev.driving then t.forward ++ [c] else t.forward })) →
      (s.dev.fab.image = [] →
        (labelCmdOk c [1] = true → Answers (.labelInsert c) s .invalid (n.putResult80 c outInvalid))
        ∧ (labelCmdOk c [2] = true → Answers (.labelDelete c) s .invalid (n.putResult80 c outInvalid))
        ∧ (labelCmdOk c [3] = true → Answers (.labelSearch c) s .invalid (n.putResult80 c outInvalid))
        ∧ (labelCmdOk c [4] = true → Answers (.labelNext c) s .invalid (n.putResult80 c outInvalid)))
      ∧ (s.dev.fab.image ≠ [] → s.dev.lookupPoison c.key.toNat = true →
        (labelCmdOk c [1] = true → c.port.toNat < s.dev.mapPorts →
          Answers (.labelInsert c) s .poisoned (n.putResult80 c outPoisoned))
        ∧ (labelCmdOk c [2] = true → Answers (.labelDelete c) s .poisoned (n.putResult80 c outPoisoned))
        ∧ (labelCmdOk c [3] = true → Answers (.labelSearch c) s .poisoned (n.putResult80 c outPoisoned)))
      ∧ (s.dev.fab.image ≠ [] → labelCmdOk c [1] = true → s.dev.mapPorts ≤ c.port.toNat →
        Answers (.labelInsert c) s .invalid (n.putResult80 c outInvalid))
      ∧ (s.dev.fab.image ≠ [] → s.dev.lookupPoison c.key.toNat = false →
        (labelCmdOk c [1] = true → c.port.toNat < s.dev.mapPorts →
          (s.dev.findLabel c.key.toNat = none →
            (s.dev.freeLabel c.key.toNat = none →
              Answers (.labelInsert c) s .conflict (n.putResult80 c { resp := .conflict, result := 4 }))
            ∧ (∀ p e, s.dev.freeLabel c.key.toNat = some p →
              e = { key := c.key.toNat, port := c.port.toNat, valid := true, hit := true, static := c.flags.getLsbD 0 } →
              Answers (.labelInsert c) s .ok (ready ((n.putLabel p e).putResult80 c outOk))
                ∧ (s.dev.putLabel p e).sram.word (labelAddr p) = e.word
                ∧ ∀ a, a < labelAddr p ∨ labelAddr p + 8 ≤ a → (s.dev.putLabel p e).sram.byte a = s.dev.sram.byte a))
          ∧ (∀ p e, s.dev.findLabel c.key.toNat = some p → e = s.dev.labelEntry p →
            (e.port = c.port.toNat → Answers (.labelInsert c) s .ok (ready
              ((n.putLabel p { e with hit := true, stale := false, static := c.flags.getLsbD 0 }).putResult80 c outOk)))
            ∧ (e.port ≠ c.port.toNat → c.flags.getLsbD 1 = true → Answers (.labelInsert c) s .ok (ready
              ((n.putLabel p { e with hit := true, stale := false, port := c.port.toNat }).putResult80 c outOk)))
            ∧ (e.port ≠ c.port.toNat → c.flags.getLsbD 1 = false → Answers (.labelInsert c) s .existsOtherPort
              (n.putResult80 c { resp := .existsOtherPort, result := 3, port := e.port }))))
        ∧ (labelCmdOk c [2] = true →
          (∀ p, s.dev.findLabel c.key.toNat = some p →
            Answers (.labelDelete c) s .ok (ready ((n.putLabel p {}).putResult80 c outOk))
              ∧ (s.dev.putLabel p {}).sram.word (labelAddr p) = 0
              ∧ ∀ a, a < labelAddr p ∨ labelAddr p + 8 ≤ a → (s.dev.putLabel p {}).sram.byte a = s.dev.sram.byte a)
          ∧ (s.dev.findLabel c.key.toNat = none → Answers (.labelDelete c) s .noent (n.putResult80 c outNoent)))
        ∧ (labelCmdOk c [3] = true →
          (∀ p e, s.dev.findLabel c.key.toNat = some p → e = s.dev.labelEntry p →
            Answers (.labelSearch c) s (if e.stale then .stale else .ok) (n.putResult80 c
              { resp := if e.stale then .stale else .ok, result := if e.stale then 1 else 0, count := 1, words := [e.word] }))
          ∧ (s.dev.findLabel c.key.toNat = none → Answers (.labelSearch c) s .noent (n.putResult80 c outNoent))))
      ∧ (s.dev.fab.image ≠ [] → labelCmdOk c [4] = true →
        ∀ got, got = (s.dev.labelsRising.filter (fun p => c.cursor.toNat ≤ p)).take c.count.toNat →
        (∀ p, got.getLast? = some p → Answers (.labelNext c) s .ok (n.putResult80 c
          { resp := .ok, result := 0, count := got.length, cursor := if p + 1 < 8704 then p + 1 else 0xFFFF
            words := got.map (fun q => (s.dev.labelEntry q).word) }))
        ∧ (got = [] → Answers (.labelNext c) s .noent (n.putResult80 c outNoent))))

/-- FLUSH_BY_PORT is answered INVALID with a reserved opcode, BUSY while 32 commands are pending, and is queued
while sightings are due or the cycle has had its command. On an idle table otherwise, with no map in force or a
port the map does not have it is answered INVALID; else it removes the first bucket's entries of its port, the
STATIC ones only with the flag for them, and is under way at step 1 with the number removed, its answer still to
come. FLUSH_BY_PORT_DONE after step 2,176, with no request waiting, ends it, writes its record with the number
of entries removed and answers OK; before that step, or with no flush, it changes nothing. AGING_PASS_START at
the first tick at or after a multiple of half AGE_TIME, with the decoder running and no pass under way, starts a
pass at bucket 0 under the AGE_TIME written, or none where that is 0; else it changes nothing.
LABEL_COMMAND_FORWARD takes the oldest command to be forwarded and queues it to the mate's address on lane 2 in
class 4 as a LABEL_COMMAND with the next SYNC_SEQ, kept until it is acknowledged; with no mate address known, or
TOWER_WIRED 0, it is dropped. The flush's 2,176 steps, the first tick of a pass (log entry 77) and the forward
dropped without a mate (log entry 38) are the model's choices. (R44, R243, R244, R245, R246, R247, R249, R368) -/
def Obligations.LabelUpkeep : Prop :=
  ∀ (c : LabelCmd) (s : State),
    (labelCmdOk c [5] = false → Refuses (.flushByPort c) s .invalid)
    ∧ (labelCmdOk c [5] = true → 32 ≤ s.dev.commandsPending → Refuses (.flushByPort c) s .busy)
    ∧ (labelCmdOk c [5] = true → s.dev.commandsPending < 32 → s.dev.sightingsDue = true ∨ s.dev.lab.busy = true →
      Gives (.flushByPort c) s { s.dev with lab := { s.dev.lab with
          nextId := s.dev.lab.nextId + 1, queue := s.dev.lab.queue ++ [(c, .host s.dev.lab.nextId)] } })
    ∧ (s.dev.lab.queue = [] → s.dev.lab.flush = none → s.dev.lab.busy = false → s.dev.sightingsDue = false →
      labelCmdOk c [5] = true →
      ∀ n, n = { s.dev with lab := { s.dev.lab with nextId := s.dev.lab.nextId + 1, busy := true } } →
      (s.dev.fab.image = [] ∨ s.dev.mapPorts ≤ c.port.toNat → s.dev.req.outstanding = [] →
        Answers (.flushByPort c) s .invalid (n.putResult80 c outInvalid))
      ∧ (s.dev.fab.image ≠ [] → c.port.toNat < s.dev.mapPorts →
        ∀ hit, hit = (bucketPositions 0).filter (fun p => s.dev.holds p && (s.dev.labelEntry p).port = c.port.toNat
          && (c.flags.getLsbD 2 || !(s.dev.labelEntry p).static)) →
        Gives (.flushByPort c) s ((each hit (fun p d => d.putLabel p {}) n).setLab (fun t =>
          { t with flush := some (c, .host s.dev.lab.nextId, 1, hit.length) }))))
    ∧ (∀ id k n, s.dev.lab.flush = some (c, .host id, k, n) → c.opcode = 5 → 2176 ≤ k → s.dev.req.outstanding = [] →
      Answers .flushByPortDone s .ok
        (({ s.dev with lab := { s.dev.lab with
            flush := none, forward := if s.dev.driving then s.dev.lab.forward ++ [c] else s.dev.lab.forward } }).putResult80
          c { resp := .ok, result := 0, count := n }))
    ∧ (s.dev.lab.flush = none ∨ (∃ o k n, s.dev.lab.flush = some (c, o, k, n) ∧ k < 2176) → Gives .flushByPortDone s s.dev)
    ∧ (∀ h, h = 500000 * s.dev.ageNow →
      (s.dev.lab.pass = none → s.dev.dec.state = .running → s.dev.cyc.slot = 0 → h ≠ 0 →
        s.dev.time.prevTick / h < s.dev.time.lastTick / h →
        Gives .agingPassStart s { s.dev with lab := { s.dev.lab with
          ageOn := s.dev.cfg.lab.ageTime, pass := if s.dev.cfg.lab.ageTime = 0 then none else some 0 } })
      ∧ (s.dev.lab.pass ≠ none ∨ s.dev.dec.state ≠ .running ∨ s.dev.cyc.slot ≠ 0 ∨ h = 0
          ∨ s.dev.time.lastTick / h ≤ s.dev.time.prevTick / h → Gives .agingPassStart s s.dev))
    ∧ (∀ x l, s.dev.lab.forward = x :: l →
      (s.dev.net.mateAddress = 0 ∨ s.dev.arr.wiredOn = false → Gives .labelCommandForward s { s.dev with lab := { s.dev.lab with forward := l } })
      ∧ (s.dev.net.mateAddress ≠ 0 → s.dev.arr.wiredOn = true → s.dev.laneUp 2 = true → (s.dev.lane 2).unused = false →
        ∀ f, f = s.dev.ownFrame 4 17 s.dev.net.mateAddress
            (syncBytes 2 0 0 s.dev.tow.syncSeq.toNat (LabelCmd.bytes16 x)) →
        s.dev.hasRoom 2 4 f → Completes .labelCommandForward s (fun d =>
          d.lab = { s.dev.lab with forward := l } ∧ Queued s.dev d 2 4 f ∧ d.tow.syncSeq = s.dev.tow.syncSeq + 1
            ∧ d.tow.syncOut = s.dev.tow.syncOut ++ [{ seq := s.dev.tow.syncSeq, kind := 2, item := 0
                                                      body := LabelCmd.bytes16 x, since := s.dev.time.up, sends := 1 }])))

/-- FRAME_RECEIVE on a lane that is not enabled changes nothing. On an enabled lane the codewords are counted where
the lane has FEC; a frame that fails a check of the receiver is counted in the lane counter of its fault and
goes no further, one that may not travel on the lane in counter 5, one whose FCS fails and that has not left
already in counter 3. A class 0 frame to this controller is counted as received and delivered with its receive
stamp; one for another lane that is UP and carries it, within its MTU and with room, is counted and queued there
last with HOPS one higher. SCHEDULER_SELECT on an enabled lane ends the frame in transmission. With a class 0
frame waiting, the oldest is started and counted on the lane and its queue, and the TIMESTAMP of a time frame is
the time at which it leaves; in general no frame starts, or the oldest of a class does, of a class above 0 only
with class 0 empty and the head not blocked. LANE_DISABLE is answered OK: an enabled lane is STOPPING with its
queued frames discarded and counted as flushed, a RESTART_PENDING one STOPPING, any other as before. LANE_ENABLE
is answered OK and makes a DISABLED lane DOWN, a STOPPING one RESTART_PENDING, and leaves any other.
LANE_DISABLED makes a STOPPING lane DISABLED and one with a restart pending DOWN, with nothing in transmission.
BLOCK_LOCK_GAINED makes a DOWN lane LOCKED and leaves any other. Nothing else changes, but where a mate lane is
disabled. The ways a frame takes, the instants of a frame and the MTU of a forwarded one are the model's choices
(log entries 78, 111, 112). (R257, R258, R259, R260, R261, R268, R274, R276, R280, R282, R284, R337) -/
def Obligations.FramesOnLanes : Prop :=
  ∀ (l : Fin 96) (bytes : List Byte) (rx : RxInfo) (s : State),
    ((s.dev.lane l).receives = false → Gives (.frameReceive l ⟨bytes, rx⟩) s s.dev)
    ∧ (∀ n, (s.dev.lane l).receives = true → n = s.dev.countFec l rx.fec →
      (s.dev.laneFec l = false → n = s.dev)
      ∧ (s.dev.laneFec l = true →
        tget 0 (n.lane l).fec 0 = tget 0 (s.dev.lane l).fec 0 + rx.fec.corrected.zeroExtend 64
          ∧ tget 0 (n.lane l).fec 1 = tget 0 (s.dev.lane l).fec 1 + rx.fec.uncorrectable.zeroExtend 64
          ∧ n.lane l = { s.dev.lane l with fec := (n.lane l).fec })
      ∧ (∀ i, (s.dev.parse l bytes = .drop i
          ∨ (∃ f, s.dev.parse l bytes = .frame f ∧ s.dev.mayTravel l f = false ∧ i = if f.bad then 3 else 5)
          ∨ (∃ f, s.dev.parse l bytes = .frame f ∧ s.dev.mayTravel l f = true ∧ f.bad = true ∧ n.cutsThrough l f = false
              ∧ i = 3)) →
        Completes (.frameReceive l ⟨bytes, rx⟩) s (fun d =>
          tget 0 (d.lane l).counters i = tget 0 (s.dev.lane l).counters i + 1
            ∧ d.lane l = { n.lane l with counters := (d.lane l).counters }
            ∧ d = { s.dev with net := { s.dev.net with lanes := d.net.lanes } }))
      ∧ (∀ f, s.dev.parse l bytes = .frame f → s.dev.mayTravel l f = true → f.cls = 0 → f.bad = false →
        (f.dest = 0 ∨ f.dest = s.dev.net.address → Completes (.frameReceive l ⟨bytes, rx⟩) s (fun d =>
          d.net.delivered = s.dev.net.delivered ++ [((l : Nat), { f with rx := s.dev.rxStamp l rx.align.toNat })]
            ∧ tget 0 (d.lane l).counters 0 = tget 0 (s.dev.lane l).counters 0 + 1
            ∧ d = { s.dev with net := { s.dev.net with lanes := d.net.lanes, delivered := d.net.delivered } }))
        ∧ (∀ k, s.dev.way (some l) f.planeB false f.dest = .out k → s.dev.laneUp k = true → s.dev.mayTravel k f = true →
          f.size ≤ s.dev.mtu k → f.hops < 63 → s.dev.hasRoom k 0 f → Completes (.frameReceive l ⟨bytes, rx⟩) s (fun d =>
          (∃ cut, tget [] (d.lane k).queues 0 = tget [] (s.dev.lane k).queues 0
            ++ [{ frame := Frame.hop { f with rx := s.dev.rxStamp l rx.align.toNat }, at_ := s.dev.time.up, cut := cut }])
            ∧ tget 0 (d.lane l).counters 0 = tget 0 (s.dev.lane l).counters 0 + 1
            ∧ d = { s.dev with net := { s.dev.net with lanes := d.net.lanes } }))))
    ∧ (∀ q r, (s.dev.lane l).receives = true → tget [] (s.dev.lane l).queues 0 = q :: r →
      (q.frame.hdr.length = 20 → q.frame.typ = 3 ∨ q.frame.typ = 4 ∨ q.frame.typ = 5 →
        (s.dev.stamp l q.frame).timestamp = s.dev.leavesAt l % 2 ^ 32)
      ∧ Completes (.schedulerSelect l) s (fun d =>
        d.lane l = { s.dev.lane l with
          sending := some (s.dev.stamp l q.frame), cut := q.cut, queues := (d.lane l).queues, counters := (d.lane l).counters }
          ∧ tget [] (d.lane l).queues 0 = r
          ∧ tget 0 (d.lane l).counters 1 = tget 0 (s.dev.lane l).counters 1 + 1
          ∧ tget 0 d.traf.queueCount (32 * l) = tget 0 s.dev.traf.queueCount (32 * l) + 1
          ∧ tget 0 d.traf.queueCount (32 * l + 1) = tget 0 s.dev.traf.queueCount (32 * l + 1) + BitVec.ofNat 64 q.frame.size
          ∧ d = { s.dev with net := { s.dev.net with lanes := d.net.lanes }
                             traf := { s.dev.traf with queueCount := d.traf.queueCount }
                             time := (s.dev.noteDelayReq l q.frame).time }))
    ∧ ((s.dev.lane l).receives = true → Completes (.schedulerSelect l) s (fun d =>
        (d.lane l).sending = none
          ∨ ∃ c q r, tget [] (s.dev.lane l).queues c = q :: r ∧ (d.lane l).sending = some (s.dev.stamp l q.frame)
            ∧ tget [] (d.lane l).queues c = r
            ∧ (c ≠ 0 → tget [] (s.dev.lane l).queues 0 = [] ∧ s.dev.blocked l c q.frame = false)))
    ∧ ((s.dev.lane l).receives = true → Replies (.laneDisable l) s .ok (fun d =>
        d.lane l = { s.dev.lane l with state := .stopping, queues := [], counters := (d.lane l).counters }
          ∧ tget 0 (d.lane l).counters 7 = tget 0 (s.dev.lane l).counters 7
            + BitVec.ofNat 64 ((s.dev.lane l).queues.map (fun q => q.2.length)).sum
          ∧ tget true d.cfg.net.laneEnable l = false
          ∧ ((l : Nat) = 2 ∨ (l : Nat) = 3 ∨ d = { s.dev with
            net := { s.dev.net with lanes := d.net.lanes }
            cfg := { s.dev.cfg with net := { s.dev.cfg.net with laneEnable := d.cfg.net.laneEnable } } })))
    ∧ (∀ a b, (a = .disabled ∧ b = .disabled) ∨ (a = .stopping ∧ b = .stopping) ∨ (a = .restartPending ∧ b = .stopping) →
      (s.dev.lane l).state = a → Replies (.laneDisable l) s .ok (fun d =>
        d.lane l = { s.dev.lane l with state := b } ∧ tget true d.cfg.net.laneEnable l = false
          ∧ d = { s.dev with net := { s.dev.net with lanes := d.net.lanes }
                             cfg := { s.dev.cfg with net := { s.dev.cfg.net with laneEnable := d.cfg.net.laneEnable } } }))
    ∧ (∀ a b, (a = .disabled ∧ b = .down) ∨ (a = .stopping ∧ b = .restartPending)
        ∨ (a ≠ .disabled ∧ a ≠ .stopping ∧ b = a) → (s.dev.lane l).state = a →
      Replies (.laneEnable l) s .ok (fun d =>
        d.lane l = { s.dev.lane l with state := b } ∧ tget true d.cfg.net.laneEnable l = true
          ∧ d = { s.dev with net := { s.dev.net with lanes := d.net.lanes }
                             cfg := { s.dev.cfg with net := { s.dev.cfg.net with laneEnable := d.cfg.net.laneEnable } } }))
    ∧ (∀ a b, (a = .stopping ∧ b = .disabled) ∨ (a = .restartPending ∧ b = .down) → (s.dev.lane l).state = a →
      Completes (.laneDisabled l) s (fun d =>
        d.lane l = { s.dev.lane l with state := b, lock := false, helloRun := 0, heard := false, sending := none, cut := false }
          ∧ d = { s.dev with net := { s.dev.net with lanes := d.net.lanes } }))
    ∧ ((s.dev.lane l).state = .down → Completes (.blockLockGained l) s (fun d =>
        d.lane l = { s.dev.lane l with state := .locked, lock := true }
          ∧ d = { s.dev with net := { s.dev.net with lanes := d.net.lanes } }))
    ∧ ((s.dev.lane l).state ≠ .down → Gives (.blockLockGained l) s s.dev)

/-- HELLO_SEND on an enabled lane with room queues one HELLO frame of class 2 to address 0 and changes nothing
outside the network; on a lane not enabled it changes nothing. HELLO_RECEIVE on an enabled lane records the
payload, its reserved bytes as 0, as the lane's PEER, the period and the run of periods with HELLO, and brings a
lane with block lock UP in the third period in a row; on lane 0 or 1 nothing outside the network and the Event
Unit changes, and LINK_UP is raised where the lane comes UP. HELLO_TIMEOUT of a lane LOCKED or UP on which three
whole periods passed without HELLO, and LINK_LOCK_LOSS of an enabled lane, put it DOWN with nothing queued, in
transmission or heard, the queued frames counted as flushed; a timeout keeps block lock, a loss of lock does not
and counts its codewords. LINK_DOWN is raised where the lane was UP; on a lane that is no mate lane nothing else
changes. A timeout that comes sooner, or on any other lane, and a loss on a lane not enabled, change nothing.
How periods are aligned and what a lane that falls silent keeps are the model's choices (log entry 79). (R6,
R261, R274, R276, R279) -/
def Obligations.HelloAndLinks : Prop :=
  ∀ (l : Fin 96) (payload : List Byte) (fec : FecSeen) (s : State),
    ((s.dev.lane l).receives = false → Gives (.helloSend l) s s.dev ∧ Gives (.linkLockLoss ⟨l, fec⟩) s s.dev)
    ∧ ((s.dev.lane l).receives = true →
      s.dev.hasRoom l 2 (s.dev.ownFrame 2 0 0 (s.dev.helloPayload l)) → Completes (.helloSend l) s (fun d =>
        Queued s.dev d l 2 (s.dev.ownFrame 2 0 0 (s.dev.helloPayload l)) ∧ d = { s.dev with net := d.net }))
    ∧ (∀ now run, now = s.dev.time.up / (s.dev.cfg.net.helloPeriod * 1000) → run = helloRun (s.dev.lane l) now →
      ((s.dev.lane l).helloRun = 0 → run = 1)
      ∧ (0 < (s.dev.lane l).helloRun → now = (s.dev.lane l).helloPeriod + 1 → run = (s.dev.lane l).helloRun + 1)
      ∧ (0 < (s.dev.lane l).helloRun → now = (s.dev.lane l).helloPeriod → run = (s.dev.lane l).helloRun)
      ∧ ((s.dev.lane l).receives = true → Completes (.helloReceive l payload) s (fun d =>
        (d.lane l).peer = (fit 24 payload).take 18 ++ List.replicate 6 0 ∧ (d.lane l).heard = true ∧ (d.lane l).helloRun = run
          ∧ (d.lane l).helloPeriod = now ∧ (d.lane l).lock = (s.dev.lane l).lock
          ∧ (d.lane l).state = (if (s.dev.lane l).lock = true ∧ ((s.dev.lane l).state = .up ∨ 3 ≤ run) then .up
            else (s.dev.lane l).state)
          ∧ d.cyc = s.dev.cyc
          ∧ ((l : Nat) < 2 →
            d.ev = (s.dev.raiseIf ((s.dev.lane l).lock && (s.dev.lane l).state ≠ .up && 3 ≤ run) .linkUp [(l : Nat)]).ev
              ∧ d = { s.dev with net := d.net, ev := d.ev }))))
    ∧ ((s.dev.lane l).helloPeriod + 4 ≤ s.dev.time.up / (s.dev.cfg.net.helloPeriod * 1000) →
      (s.dev.lane l).state = .locked ∨ (s.dev.lane l).state = .up → Completes (.helloTimeout l) s (fun d =>
        d.lane l = { s.dev.lane l with
          state := .down, queues := [], sending := none, cut := false, heard := false, helloRun := 0, counters := (d.lane l).counters }
          ∧ tget 0 (d.lane l).counters 7 = tget 0 (s.dev.lane l).counters 7
            + BitVec.ofNat 64 ((s.dev.lane l).queues.map (fun q => q.2.length)).sum
          ∧ ((l : Nat) ≠ 2 → (l : Nat) ≠ 3 →
            d = { s.dev with net := { s.dev.net with lanes := d.net.lanes }
                             ev := (s.dev.raiseIf ((s.dev.lane l).state = .up) .linkDown [(l : Nat)]).ev })))
    ∧ (s.dev.time.up / (s.dev.cfg.net.helloPeriod * 1000) < (s.dev.lane l).helloPeriod + 4
        ∨ ((s.dev.lane l).state ≠ .locked ∧ (s.dev.lane l).state ≠ .up) → Gives (.helloTimeout l) s s.dev)
    ∧ ((s.dev.lane l).receives = true → Completes (.linkLockLoss ⟨l, fec⟩) s (fun d =>
        d.lane l = { (s.dev.countFec l fec).lane l with
          state := .down, lock := false, queues := [], sending := none, cut := false, heard := false, helloRun := 0
          counters := (d.lane l).counters }
          ∧ tget 0 (d.lane l).counters 7 = tget 0 (s.dev.lane l).counters 7
            + BitVec.ofNat 64 ((s.dev.lane l).queues.map (fun q => q.2.length)).sum
          ∧ ((l : Nat) ≠ 2 → (l : Nat) ≠ 3 →
            d = { s.dev with net := { s.dev.net with lanes := d.net.lanes }
                             ev := (s.dev.raiseIf ((s.dev.lane l).state = .up) .linkDown [(l : Nat)]).ev })))

/-- ENUM_START is answered INVALID for a value other than 1, CONFLICT where DOME_EN is clear, BUSY while a pass
runs, otherwise OK: the controller is the Dome at depth 0, takes the base address and a new generation; with
children and no chain it is counting, and a COUNT of depth 1 is queued, room provided, on each enabled lane that
has a child. ENUM_COUNT at a Dome's uplink raises WIRING_FAULT and changes nothing else; on any lane but 0 that
carries the answer it is answered WIRING, on lane 0 below depth 8 DEPTH_EXCEEDED. On lane 0 of a controller that
is no Dome, at depth 8 at most, it sets depth, generation, Dome address and parent and starts the count of its
children, or, without any, answers 1 + SPARE_ADDRESSES. ENUM_COUNT_REPLY of a counting child, with another still
counting, records its count, or excludes it where its status is not OK, and changes nothing else. ENUM_ASSIGN on
lane 0, in a count pass or with a block that serves it, takes the address, depth, generation and Dome address
given. ENUM_ASSIGN_DONE from a child still unassigned, with another still to answer, marks it assigned.
ENUM_CHILD_TIMEOUT after (8 - DEPTH) times 25 ms excludes a child still counting and counts it; before that it
changes nothing. ENUM_ASSIGN_TIMEOUT after that time in the assignment pass of a controller with a parent
completes its assignment and answers ASSIGN_DONE with the last address used; before it, nothing changes. What
serves a child that comes late is the model's choice (log entry 80). (R262, R263, R264, R266, R267, R277) -/
def Obligations.Enumeration : Prop :=
  ∀ (l : Fin 96) (v : BitVec 8) (m : EnumMsg) (s : State) (late : Prop),
    (late ↔ s.dev.net.enumAt + ((if s.dev.net.chain then 63 else 8) - s.dev.net.depth) * 25000000 ≤ s.dev.time.up) →
    (v ≠ 1 → Refuses (.enumStart v) s .invalid)
    ∧ (s.dev.domeEn = false → Refuses (.enumStart 1) s .conflict)
    ∧ (s.dev.domeEn = true → s.dev.net.enumState = .counting ∨ s.dev.net.enumState = .assigning →
      Refuses (.enumStart 1) s .busy)
    ∧ (s.dev.domeEn = true → s.dev.net.enumState ≠ .counting → s.dev.net.enumState ≠ .assigning →
      Replies (.enumStart 1) s .ok (fun d =>
        d.net.role = .dome ∧ d.net.depth = 0 ∧ d.net.address = s.dev.cfg.net.domainBase
          ∧ d.net.domeAddr = s.dev.cfg.net.domainBase ∧ d.net.enumGen = s.dev.net.enumGen + 1 ∧ d.net.enumParent = none
          ∧ d.net.chain = s.dev.chainEn
          ∧ (s.dev.chainEn = false → s.dev.childLanes ≠ [] →
            d.net.enumState = .counting ∧ d.net.enumAt = s.dev.time.up ∧ d.net.enumExcluded = 0
              ∧ d.net.children = s.dev.childLanes.map (fun k => { lane := k })
              ∧ ∀ k ∈ s.dev.childLanes, (s.dev.lane k).receives = true → (s.dev.lane k).depth 2 + 64 ≤ s.dev.queueLimit (8 * k + 2) →
                ∃ q : QFrame, tget [] (d.lane k).queues 2 = tget [] (s.dev.lane k).queues 2 ++ [q] ∧ q.frame.typ = 1
                  ∧ q.frame.payload = enumPayload 0 1 0 false (s.dev.net.enumGen + 1).toNat 0 0 s.dev.cfg.net.domainBase)
          ∧ d.cyc = s.dev.cyc))
    ∧ (s.dev.domeEn = true → (l : Nat) < 2 → Completes (.enumCount l m) s (fun d =>
        d.net.delivered = (s.dev.take l 1).net.delivered
          ∧ d = { s.dev with net := { s.dev.net with delivered := d.net.delivered }, ev := (s.dev.raise .wiringFault).ev }))
    ∧ (∀ f, (l : Nat) ≠ 0 → s.dev.domeEn = false → f = s.dev.ownFrame 2 1 0
          (enumPayload 1 (m.depth.toNat - 1) 3 m.chain m.gen.toNat 0 0 m.dome.toNat) →
      s.dev.mayTravel l f = true → s.dev.hasRoom l 2 f → Completes (.enumCount l m) s (fun d =>
        Queued s.dev d l 2 f ∧ d.net.enumStatus = 3 ∧ d = { s.dev with net := d.net }))
    ∧ (∀ f, s.dev.domeEn = false → 8 < m.depth.toNat → f = s.dev.ownFrame 2 1 0
          (enumPayload 1 (m.depth.toNat - 1) 1 m.chain m.gen.toNat 0 0 m.dome.toNat) →
      (s.dev.lane 0).receives = true → s.dev.hasRoom 0 2 f → Completes (.enumCount 0 m) s (fun d =>
        Queued s.dev d 0 2 f ∧ d.net.enumStatus = 1 ∧ d = { s.dev with net := d.net }))
    ∧ (s.dev.domeEn = false → m.depth.toNat ≤ 8 → Completes (.enumCount 0 m) s (fun d =>
        d.net.depth = m.depth.toNat ∧ d.net.enumGen = m.gen ∧ d.net.enumParent = some 0 ∧ d.net.domeAddr = m.dome.toNat
          ∧ d.net.enumState = .counting ∧ d.net.enumAt = s.dev.time.up ∧ d.net.address = s.dev.net.address
          ∧ d.net.children = s.dev.childLanes.map (fun k => { lane := k })
          ∧ (∀ f, s.dev.childLanes = [] → f = s.dev.ownFrame 2 1 0 (enumPayload 1 (m.depth.toNat - 1) 0 false m.gen.toNat
                (1 + s.dev.cfg.net.spareAddresses) 0 m.dome.toNat) → (s.dev.lane 0).receives = true → s.dev.hasRoom 0 2 f → Queued s.dev d 0 2 f)
          ∧ d = { s.dev with net := d.net, traf := d.traf }))
    ∧ (2 ≤ (l : Nat) → s.dev.net.enumState = .counting →
      (∃ c ∈ s.dev.net.children, c.lane = (l : Nat) ∧ c.count = none ∧ c.excluded = false) →
      (∃ c ∈ s.dev.net.children, c.lane ≠ (l : Nat) ∧ c.count = none ∧ c.excluded = false) →
      (m.status = 0 → Completes (.enumCountReply l m) s (fun d =>
        d.net = { s.dev.net with
          delivered := (s.dev.take l 1).net.delivered
          children := s.dev.net.children.map (fun c =>
            if c.lane = (l : Nat) then { c with count := some m.value.toNat } else c) }
          ∧ d = { s.dev with net := d.net }))
      ∧ (m.status ≠ 0 → Completes (.enumCountReply l m) s (fun d =>
        d.net = { s.dev.net with
          delivered := (s.dev.take l 1).net.delivered
          children := s.dev.net.children.map (fun c => if c.lane = (l : Nat) then { c with excluded := true } else c)
          enumExcluded := s.dev.net.enumExcluded + 1 }
          ∧ d = { s.dev with net := d.net, ev := (s.dev.raise .enumChildExcluded [(l : Nat)]).ev })))
    ∧ (s.dev.domeEn = false → (m.chain = true → m.depth.toNat < 64) → (m.chain = false → s.dev.unserved m = false) →
      Completes (.enumAssign 0 m) s (fun d =>
        d.net.address = m.value.toNat ∧ d.net.depth = m.depth.toNat ∧ d.net.enumGen = m.gen ∧ d.net.domeAddr = m.dome.toNat
          ∧ d.net.enumParent = some 0 ∧ d.net.chain = m.chain ∧ d.cyc = s.dev.cyc))
    ∧ (∀ c, 2 ≤ (l : Nat) → s.dev.net.chain = false →
      s.dev.net.children.find? (fun c => c.lane = (l : Nat) && !c.assigned && !c.excluded) = some c →
      c.offered = none ∨ c.count ≠ none →
      (∃ x ∈ s.dev.net.children, x.lane ≠ (l : Nat) ∧ x.assigned = false ∧ x.excluded = false) →
      Completes (.enumAssignDone l m) s (fun d =>
        d.net = { s.dev.net with
          delivered := (s.dev.take l 1).net.delivered
          children := s.dev.net.children.map (fun x => if x.lane = (l : Nat) then { x with assigned := true } else x) }
          ∧ d = { s.dev with net := d.net }))
    ∧ (late → s.dev.net.enumState = .counting →
      (∃ c ∈ s.dev.net.children, c.lane = (l : Nat) ∧ c.count = none ∧ c.excluded = false) →
      (∃ c ∈ s.dev.net.children, c.lane ≠ (l : Nat) ∧ c.count = none ∧ c.excluded = false) →
      Gives (.enumChildTimeout l) s (Dev.raise
        { s.dev with net := { s.dev.net with
          children := s.dev.net.children.map (fun c => if c.lane = (l : Nat) then { c with excluded := true } else c)
          enumExcluded := s.dev.net.enumExcluded + 1 } } .enumChildExcluded [(l : Nat)]))
    ∧ (¬ late → Gives (.enumChildTimeout l) s s.dev ∧ Gives .enumAssignTimeout s s.dev)
    ∧ (∀ f, late → s.dev.net.enumState = .assigning → s.dev.net.enumParent = some 0 → s.dev.net.late = false →
      f = s.dev.ownFrame 2 1 0 (enumPayload 3 (s.dev.net.depth - 1) 0 s.dev.net.chain s.dev.net.enumGen.toNat s.dev.lastUsed 0
        s.dev.net.domeAddr) → (s.dev.lane 0).receives = true → s.dev.hasRoom 0 2 f →
      Completes .enumAssignTimeout s (fun d =>
        d.net.enumState = .done ∧ Queued s.dev d 0 2 f ∧ d = { s.dev with net := d.net }))

/-- While the port serves: WRITE_REQUEST with a request or response present sets OVERRUN and takes nothing;
otherwise a LENGTH over 2,010, or more than the bytes sent, sets LENGTH_ERROR and takes nothing; otherwise the
first LENGTH bytes are the request. READ_STATUS sends the status byte and clears OVERRUN and LENGTH_ERROR.
READ_RESPONSE sends LENGTH and the response and clears RESPONSE_READY; with no response it sends a LENGTH of 0.
A short write sets LENGTH_ERROR; any other abort changes nothing. While the port does not serve, nothing
changes. Nothing outside the port changes. When the port serves is in part the model's choice (log entry 28).
(R275) -/
def Obligations.BoardSpi : Prop :=
  ∀ (n : BitVec 16) (body : List Byte) (b : Bool) (s : State),
    (s.dev.boot.phase = .held ∨ s.dev.boot.phase = .rom →
      Gives (.bspiWriteRequest n body) s s.dev ∧ Gives .bspiReadStatus s s.dev ∧ Gives .bspiReadResponse s s.dev
        ∧ Gives (.bspiCsAbort b) s s.dev)
    ∧ (s.dev.boot.phase ≠ .held → s.dev.boot.phase ≠ .rom →
      (s.dev.net.bspi.request ≠ none ∨ s.dev.net.bspi.response ≠ none → Gives (.bspiWriteRequest n body) s
        { s.dev with net := { s.dev.net with bspi := { s.dev.net.bspi with overrun := true } } })
      ∧ (s.dev.net.bspi.request = none → s.dev.net.bspi.response = none → 2010 < n.toNat ∨ body.length < n.toNat →
        Gives (.bspiWriteRequest n body) s
          { s.dev with net := { s.dev.net with bspi := { s.dev.net.bspi with lengthError := true } } })
      ∧ (s.dev.net.bspi.request = none → s.dev.net.bspi.response = none → n.toNat ≤ 2010 → n.toNat ≤ body.length →
        Gives (.bspiWriteRequest n body) s
          { s.dev with net := { s.dev.net with bspi := { s.dev.net.bspi with request := some (body.take n.toNat) } } })
      ∧ Gives .bspiReadStatus s
          { s.dev with net := { s.dev.net with bspi := { s.dev.net.bspi with
              sent := be 1 (ofBool s.dev.net.bspi.response.isSome + 2 * ofBool s.dev.net.bspi.request.isSome
                + 4 * ofBool s.dev.net.bspi.overrun + 8 * ofBool s.dev.net.bspi.lengthError)
              overrun := false, lengthError := false } } }
      ∧ (s.dev.net.bspi.response = none → Gives .bspiReadResponse s
          { s.dev with net := { s.dev.net with bspi := { s.dev.net.bspi with sent := be 2 0 } } })
      ∧ (∀ r, s.dev.net.bspi.response = some r → Gives .bspiReadResponse s
          { s.dev with net := { s.dev.net with bspi := { s.dev.net.bspi with
              sent := be 2 r.length ++ r, response := none } } })
      ∧ Gives (.bspiCsAbort true) s
          { s.dev with net := { s.dev.net with bspi := { s.dev.net.bspi with lengthError := true } } }
      ∧ Gives (.bspiCsAbort false) s s.dev)

/-- SHAPER_RATE and SHAPER_BURST are answered NOENT above queue 767, INVALID for class 0 or a value outside its
range, otherwise OK. A rate write brings the bucket up to the present at the old rate and keeps its debt; a
burst write lowers the bucket to the new burst and keeps a debt; the queue's setting reads as written.
METER_PROFILE is answered NOENT for a class outside 1 to 7. A frame to this controller of class 1 to 7, received
on another lane than the mate's, is counted green and delivered while METER_ENABLE of its class is 0; with the
meter on and fewer peak tokens in its instance than its bytes it is counted red and goes no further.
METER_INSTANCE_FREE frees an instance whose buckets have been full for 1 s and otherwise changes nothing.
HIST_CLEAR of 1 clears at the next tick, any other value is answered INVALID. Nothing else changes. That an
unmetered class makes no instance and METER_PROFILE names no class 0 are the model's choices (log entry 81).
(R283, R284, R285, R286, R287, R288, R290, R291, R316) -/
def Obligations.ShapersAndMeters : Prop :=
  ∀ (x : BitVec 16) (v : BitVec 32) (src : BitVec 16) (cls : Fin 8) (w : BitVec 8) (l : Fin 96) (bytes : List Byte) (rx : RxInfo)
    (s : State),
    (767 < x.toNat → Refuses (.shaperRateWrite x v) s .noent ∧ Refuses (.shaperBurstWrite x v) s .noent)
    ∧ (x.toNat ≤ 767 →
      (x.toNat % 8 = 0 ∨ v.toNat < 1000 ∨ 25000000 < v.toNat → Refuses (.shaperRateWrite x v) s .invalid)
      ∧ (x.toNat % 8 = 0 ∨ v.toNat < 2068 ∨ 1048576 < v.toNat → Refuses (.shaperBurstWrite x v) s .invalid)
      ∧ (x.toNat % 8 ≠ 0 → 1000 ≤ v.toNat → v.toNat ≤ 25000000 → Replies (.shaperRateWrite x v) s .ok (fun d =>
        d.bucketNow x.toNat = min ((s.dev.shaperBurst x.toNat * bucketUnit : Nat) : Int) (s.dev.bucketNow x.toNat)
          ∧ d.shaperRate x.toNat = v.toNat ∧ d.shaperBurst x.toNat = s.dev.shaperBurst x.toNat
          ∧ d = { s.dev with traf := { s.dev.traf with bucket := d.traf.bucket }
                             cfg := { s.dev.cfg with traf := { s.dev.cfg.traf with shaperRate := d.cfg.traf.shaperRate } } }))
      ∧ (x.toNat % 8 ≠ 0 → 2068 ≤ v.toNat → v.toNat ≤ 1048576 → Replies (.shaperBurstWrite x v) s .ok (fun d =>
        d.bucketNow x.toNat = min ((v.toNat * bucketUnit : Nat) : Int) (s.dev.bucketNow x.toNat)
          ∧ d.shaperBurst x.toNat = v.toNat ∧ d.shaperRate x.toNat = s.dev.shaperRate x.toNat
          ∧ d = { s.dev with traf := { s.dev.traf with bucket := d.traf.bucket }
                             cfg := { s.dev.cfg with traf := { s.dev.cfg.traf with shaperBurst := d.cfg.traf.shaperBurst } } })))
    ∧ (x.toNat = 0 ∨ 7 < x.toNat → ∀ cir cbs pir pbs, Refuses (.meterProfileWrite x cir cbs pir pbs) s .noent)
    ∧ (∀ f, (s.dev.lane l).receives = true → (l : Nat) ≠ 2 → (l : Nat) ≠ 3 → s.dev.parse l bytes = .frame f → f.bad = false →
      s.dev.mayTravel l f = true → f.cls ≠ 0 → f.dest = s.dev.net.address →
      (tget false s.dev.cfg.traf.meterOn f.cls = false → Completes (.frameReceive l ⟨bytes, rx⟩) s (fun d =>
        tget 0 d.traf.meterCount (3 * (8 * l + f.cls)) = tget 0 s.dev.traf.meterCount (3 * (8 * l + f.cls)) + 1
          ∧ d.net.delivered = s.dev.net.delivered ++ [((l : Nat), { f with rx := s.dev.rxStamp l rx.align.toNat })]
          ∧ d = { s.dev with net := { s.dev.net with lanes := d.net.lanes, delivered := d.net.delivered }
                             traf := { s.dev.traf with meterCount := d.traf.meterCount } }))
      ∧ (∀ m, tget false s.dev.cfg.traf.meterOn f.cls = true → s.dev.traf.meters.find? (meterIs f.src f.cls) = some m →
        (m.upTo (s.dev.profile f.cls) s.dev.time.up).p < max 64 (38 + f.length) * meterUnit →
        Completes (.frameReceive l ⟨bytes, rx⟩) s (fun d =>
          tget 0 d.traf.meterCount (3 * (8 * l + f.cls) + 2) = tget 0 s.dev.traf.meterCount (3 * (8 * l + f.cls) + 2) + 1
            ∧ (∀ k, (d.lane k).queues = (s.dev.lane k).queues)
            ∧ d = { s.dev with net := { s.dev.net with lanes := d.net.lanes }
                               traf := { s.dev.traf with meterCount := d.traf.meterCount, meters := d.traf.meters } })))
    ∧ (∀ m full, s.dev.traf.meters.find? (meterIs src.toNat cls) = some m →
      full = m.full.getD (m.at_ + max
        (fillTime ((s.dev.profile cls).cbs * meterUnit - m.c) (s.dev.profile cls).cir)
        (fillTime ((s.dev.profile cls).pbs * meterUnit - m.p) (s.dev.profile cls).pir)) →
      (1000000000 + full ≤ s.dev.time.up → Gives (.meterInstanceFree src cls) s
        { s.dev with traf := { s.dev.traf with meters := s.dev.traf.meters.filter (fun y => !meterIs src.toNat cls y) } })
      ∧ (s.dev.time.up < 1000000000 + full → Gives (.meterInstanceFree src cls) s s.dev))
    ∧ (s.dev.traf.meters.find? (meterIs src.toNat cls) = none → Gives (.meterInstanceFree src cls) s s.dev)
    ∧ (w ≠ 1 → Refuses (.histClear w) s .invalid)
    ∧ Answers (.histClear 1) s .ok { s.dev with traf := { s.dev.traf with histClearDue := true } }

/-- For a class 1 to 7, METER_PROFILE is answered INVALID when PIR < CIR, when either rate is outside 1,000 to
25,000,000 kb/s, or when CBS or PBS is outside 64 to 1,048,576 bytes. Any other is answered OK: the class's
profile reads as written, each content of every instance of the class, the shared meter among them, is the
smaller of the content brought up to the present under the old profile and the new size, every instance of
another class stands, and nothing else changes. (R289) -/
def Obligations.MeterProfileWrite : Prop :=
  ∀ (cls : BitVec 16) (cir cbs pir pbs : BitVec 32) (s : State), 1 ≤ cls.toNat → cls.toNat ≤ 7 →
    (pir.toNat < cir.toNat ∨ cir.toNat < 1000 ∨ 25000000 < cir.toNat ∨ pir.toNat < 1000 ∨ 25000000 < pir.toNat
        ∨ cbs.toNat < 64 ∨ 1048576 < cbs.toNat ∨ pbs.toNat < 64 ∨ 1048576 < pbs.toNat →
      Refuses (.meterProfileWrite cls cir cbs pir pbs) s .invalid)
    ∧ (cir.toNat ≤ pir.toNat → 1000 ≤ cir.toNat → pir.toNat ≤ 25000000 → 64 ≤ cbs.toNat → cbs.toNat ≤ 1048576 →
      64 ≤ pbs.toNat → pbs.toNat ≤ 1048576 →
      Replies (.meterProfileWrite cls cir cbs pir pbs) s .ok (fun d =>
        d.profile cls.toNat = ⟨cir.toNat, cbs.toNat, pir.toNat, pbs.toNat⟩
          ∧ (∃ g : Meter → Meter, d.traf.meters = s.dev.traf.meters.map g ∧ d.traf.shared = s.dev.traf.shared.map g
            ∧ (∀ m, m.cls ≠ cls.toNat → g m = m)
            ∧ (∀ m, m.cls = cls.toNat → (g m).src = m.src ∧ (g m).cls = m.cls ∧ (g m).at_ = s.dev.time.up
              ∧ (g m).c = min (min ((s.dev.profile cls.toNat).cbs * meterUnit)
                  (m.c + (s.dev.profile cls.toNat).cir * (s.dev.time.up - m.at_))) (cbs.toNat * meterUnit)
              ∧ (g m).p = min (min ((s.dev.profile cls.toNat).pbs * meterUnit)
                  (m.p + (s.dev.profile cls.toNat).pir * (s.dev.time.up - m.at_))) (pbs.toNat * meterUnit)
              ∧ ((g m).full ≠ none → (g m).c = cbs.toNat * meterUnit ∧ (g m).p = pbs.toNat * meterUnit)))
          ∧ d = { s.dev with traf := { s.dev.traf with meters := d.traf.meters, shared := d.traf.shared }
                             cfg := { s.dev.cfg with traf := { s.dev.cfg.traf with profile :=
                               (tset {} s.dev.cfg.traf.profile cls.toNat ⟨cir.toNat, cbs.toNat, pir.toNat, pbs.toNat⟩) } } }))

/-- TIME_SYNC_SEND queues one class 0 frame with the time, the state and STEPS of the controller on each downlink of
both planes that has room, or on SL4 of a chain, and changes nothing but the network. TIME_SYNC_RECEIVE on an
uplink of a controller that follows a parent records what it heard with both stamps extended, the receive stamp
that of its frame; on plane A from a parent LOCKED or in HOLDOVER it makes that uplink the parent and takes a
FREE controller to ACQUIRING; elsewhere the frame is only taken up. DELAY_REQ_SEND of a controller whose
parent's uplink is UP and has room queues a DELAY_REQ with its time and remembers its sequence number and the
time at which it leaves; without a parent it changes nothing. DELAY_REQ_RECEIVE on an UP lane of a controller
with a role, not the mate's, with room, queues the DELAY_RESP with the receive stamp of its frame extended; of
an UNASSIGNED controller it is only taken up. DELAY_RESP_RECEIVE of the answer awaited, on the parent's lane,
completes the exchange and, with the stamps of the parent's latest TIME_SYNC, forms OFFSET_LAST and PATH_DELAY;
any other is only taken up. The clock does not move. What the spec leaves open of STEPS is the model's choice
(log entry 82). (R262, R297, R299, R300, R301, R302, R304) -/
def Obligations.TimeExchange : Prop :=
  ∀ (l : Fin 96) (seq : BitVec 16) (t1 : BitVec 32) (q : QueuedTime) (m : TimeSyncMsg) (a : DelayRespMsg) (s : State),
    (∀ ls, ls = (if s.dev.net.chain then [4] else s.dev.downlinks false ++ s.dev.downlinks true) →
      Completes .timeSyncSend s (fun d =>
        (∀ k ∈ ls, s.dev.laneUp k = true → s.dev.laneDuty k = 3 ∨ s.dev.laneDuty k = 4 →
          (s.dev.lane k).depth 0 + 64 ≤ s.dev.queueLimit (8 * k) →
          ∃ q : QFrame, tget [] (d.lane k).queues 0 = tget [] (s.dev.lane k).queues 0 ++ [q] ∧ q.frame.typ = 3
            ∧ q.frame.dest = 0 ∧ q.frame.payload = be 6 s.dev.time.secs ++ be 4 s.dev.time.nanos ++ be 1 s.dev.time.state.code
              ++ be 1 s.dev.steps ++ be 2 (if s.dev.domeEn then s.dev.net.address else s.dev.net.domeAddr)
              ++ be 1 (code 8 s.dev.cfg.time.syncLog2) ++ [0])
          ∧ (∀ k, k ∉ ls → d.lane k = s.dev.lane k)
          ∧ d = { s.dev with net := d.net, traf := d.traf }))
    ∧ (∀ good, good = (if m.state = 3 ∨ m.state = 4 then some s.dev.time.up else s.dev.time.syncA.bind (fun h => h.goodAt)) →
      s.dev.follows = true → Completes (.timeSyncReceive 0 t1 q m) s (fun d =>
        d.time.syncA = some { state := m.state.toNat, steps := m.steps.toNat, root := m.root, syncLog2 := m.syncLog2
                              at_ := s.dev.time.up, goodAt := good, stamped := true
                              t1 := extendAfter (1000000000 * q.secs.toNat + q.nanos.toNat) t1.toNat
                              t2 := extendBefore s.dev.time.secs (s.dev.stampOf 0 3) }
          ∧ d.time.syncB = s.dev.time.syncB
          ∧ (m.state = 3 ∨ m.state = 4 → -7 ≤ m.syncLog2 → d.time.parentLane = some 0
            ∧ (s.dev.time.state = .free → d.time.state = .acquiring))
          ∧ d.time.secs = s.dev.time.secs ∧ d.time.nanos = s.dev.time.nanos ∧ d.cyc = s.dev.cyc))
    ∧ (2 ≤ (l : Nat) ∨ s.dev.follows = false → Gives (.timeSyncReceive l t1 q m) s (s.dev.take l 3))
    ∧ (s.dev.time.parentLane = none → Gives .delayReqSend s s.dev)
    ∧ (∀ p f, s.dev.time.parentLane = some p → p < 2 → s.dev.laneUp p = true →
      f = s.dev.ownFrame 0 4 0 (be 6 s.dev.time.secs ++ be 4 s.dev.time.nanos ++ List.replicate 6 0) →
      s.dev.hasRoom p 0 f → Completes .delayReqSend s (fun d =>
        Queued s.dev d p 0 f
          ∧ d.time = { s.dev.time with delayReq := some (s.dev.net.seq, s.dev.leavesAt p) }
          ∧ d = { s.dev with net := d.net, time := d.time }))
    ∧ (s.dev.net.role = .unassigned → Gives (.delayReqReceive l seq q) s (s.dev.take l 4))
    ∧ (∀ t4 f, s.dev.net.role ≠ .unassigned → s.dev.laneUp l = true → (l : Nat) < 2 ∨ s.dev.laneDuty l = 3 ∨ s.dev.laneDuty l = 4 →
      t4 = timeOf (extendBefore s.dev.time.secs (s.dev.stampOf l 4)) →
      f = s.dev.ownFrame 0 5 0 (be 6 t4.secs ++ be 4 t4.nanos ++ be 2 seq.toNat ++ [0, 0, 0, 0]) →
      s.dev.hasRoom l 0 f → Completes (.delayReqReceive l seq q) s (fun d =>
        Queued s.dev d l 0 f ∧ d = { s.dev with net := d.net }))
    ∧ (∀ t3 t4, s.dev.time.delayReq = some (a.reqSeq, t3) → s.dev.time.parentLane = some (l : Nat) →
      t4 = 1000000000 * a.secs.toNat + a.nanos.toNat → Completes (.delayRespReceive l a) s (fun d =>
        d.time.delayReq = none ∧ d.time.exchange = some (t3, t4)
          ∧ (∀ h, s.dev.parentSync = some h → h.stamped = true →
            d.time.offsetLast = ((((h.t2 : Int) - h.t1) - ((t4 : Int) - t3)) * 100 - tget 0 s.dev.cfg.time.asymTrim l * 10) / 2
              ∧ d.time.pathDelay = ((((h.t2 : Int) - h.t1) + ((t4 : Int) - t3)) * 100) / 2)
          ∧ (s.dev.time.state ≠ .acquiring ∨ s.dev.time.stepped = true →
            d.time.state = s.dev.time.state ∧ d.time.delays = s.dev.time.delays)
          ∧ d.time.secs = s.dev.time.secs ∧ d.time.nanos = s.dev.time.nanos
          ∧ d = { s.dev.take l 5 with time := d.time }))
    ∧ (s.dev.time.delayReq = none ∨ s.dev.time.parentLane ≠ some (l : Nat)
        ∨ (∃ n t3, s.dev.time.delayReq = some (n, t3) ∧ n ≠ a.reqSeq) → Gives (.delayRespReceive l a) s (s.dev.take l 5))

/-- TIME_STEP at a tick with the Loop Engine stopped and a step due sets the clock and the tick grid to the target,
below the wrap of SECONDS, once, and takes the controller to ACQUIRING, a Dome whose source is TIME_SET to
LOCKED; injected conversions whose start it passed over start with the next tick; otherwise it changes nothing.
PARENT_LOST of a controller that follows and heard no good TIME_SYNC within 4 intervals forgets its parent and
takes a LOCKED one to HOLDOVER, raising TIME_HOLDOVER, an unlocked, unstepped one to FREE, and leaves the state
of any other; of any other controller it changes nothing. HOLDOVER_EXPIRED after HOLDOVER_LIMIT ends holdover,
raising TIME_LOST; before, it changes nothing. TIME_SET is answered INVALID for a false TIME, CONFLICT except on
a FREE Dome whose source is not its parent, otherwise OK and takes the time or the seconds of the next edge.
TIME_SOURCE is answered CONFLICT while TIME_STATE is not FREE, INVALID above 2, CONFLICT except on a Dome,
otherwise OK. PPS_IN_EDGE records its stamp, and elsewhere than on a PPS Dome nothing else; on one that awaits
its second the step is due; while it waits, the offset of the edge is recorded and ADDEND stays within 200 ppm
of nominal; on one after its step the offset from the second is recorded, ADDEND stays within 200 ppm of
nominal, and with the 16th edge in a row within 10 ns it is LOCKED. PPS_HOLDOVER takes a LOCKED PPS Dome without
an edge for 3 s to HOLDOVER, raising TIME_HOLDOVER. What OFFSET_LAST is under PPS and from when 3 s count are
the model's choices (log entry 82). (R293, R296, R304, R305, R306, R307, R310) -/
def Obligations.TimeKeeping : Prop :=
  ∀ (secs : BitVec 48) (nanos : BitVec 32) (v : BitVec 8) (s : State),
    (s.dev.time.state = .lockPending → s.dev.time.stepped = false → s.dev.loop.state = .stopped → s.dev.now = s.dev.time.lastTick →
      s.dev.stepTarget < 2 ^ 48 * 1000000000 → Completes .timeStep s (fun d =>
        d.now = s.dev.stepTarget ∧ d.time.lastTick = s.dev.stepTarget ∧ d.time.stepped = true
          ∧ d.time.nextTick = ceilTo s.dev.cyc.conf.period (s.dev.stepTarget + s.dev.cyc.conf.period)
          ∧ (s.dev.domeEn = false ∨ s.dev.cfg.time.source ≠ 0 → d.time.state = .acquiring ∧ d.ev = s.dev.ev)
          ∧ (s.dev.domeEn = true → s.dev.cfg.time.source = 0 → d.time.state = .locked
            ∧ d.ev = (Dev.raise { s.dev with time := d.time } .timeLocked).ev)
          ∧ d.rd = { s.dev.rd with
            injects := releasePassed s.dev.cycleNo (d.time.nextTick / s.dev.cyc.conf.period) s.dev.rd.injects }
          ∧ d = { s.dev with time := d.time, rd := d.rd, ev := d.ev }))
    ∧ (s.dev.time.state ≠ .lockPending ∨ s.dev.time.stepped = true ∨ s.dev.loop.state ≠ .stopped
        ∨ s.dev.now ≠ s.dev.time.lastTick → Gives .timeStep s s.dev)
    ∧ (s.dev.follows = false ∨ s.dev.parentRecent = true → Gives .parentLost s s.dev)
    ∧ (∀ b : Belfry, b = { s.dev.time with
        parentLane := none, syncA := none, syncB := none, exchange := none, delayReq := none, inLock := 0 } →
      s.dev.follows = true → s.dev.parentRecent = false →
      (s.dev.time.state = .locked → Gives .parentLost s (Dev.raise
        { s.dev with time := { b.freeze with state := .holdover, holdoverAt := s.dev.time.up, ppsGood := 0 } } .timeHoldover))
      ∧ (s.dev.time.state = .acquiring ∨ s.dev.time.state = .lockPending →
        (s.dev.time.stepped = false → Gives .parentLost s { s.dev with time := { b with
          state := .free, delays := [], stepBy := none, setTo := none, ppsSeconds := none } })
        ∧ (s.dev.time.stepped = true → Gives .parentLost s { s.dev with time := b.freeze }))
      ∧ (s.dev.time.state = .free ∨ s.dev.time.state = .holdover ∨ s.dev.time.state = .expired →
        Gives .parentLost s { s.dev with time := b }))
    ∧ (s.dev.time.state = .holdover → s.dev.time.holdoverAt + 1000000 * s.dev.cfg.time.holdoverLimit ≤ s.dev.time.up →
      Gives .holdoverExpired s (Dev.raise { s.dev with time := { s.dev.time with state := .expired } } .timeLost))
    ∧ (s.dev.time.state ≠ .holdover ∨ s.dev.time.up < s.dev.time.holdoverAt + 1000000 * s.dev.cfg.time.holdoverLimit →
      Gives .holdoverExpired s s.dev)
    ∧ (1000000000 ≤ nanos.toNat → Refuses (.timeSet secs nanos) s .invalid)
    ∧ (nanos.toNat < 1000000000 →
      (s.dev.domeEn = false ∨ s.dev.cfg.time.source = 1 ∨ s.dev.time.state ≠ .free → Refuses (.timeSet secs nanos) s .conflict)
      ∧ (s.dev.domeEn = true → s.dev.cfg.time.source ≠ 1 → s.dev.time.state = .free →
        (s.dev.cfg.time.source = 0 → Answers (.timeSet secs nanos) s .ok
          { s.dev with time := { s.dev.time with
              state := .lockPending, waitRaised := false, setTo := some ⟨secs.toNat, nanos.toNat⟩ } })
        ∧ (s.dev.cfg.time.source ≠ 0 → Answers (.timeSet secs nanos) s .ok
          { s.dev with time := { s.dev.time with state := .acquiring, ppsSeconds := some secs.toNat } })))
    ∧ (s.dev.time.state ≠ .free → Refuses (.timeSourceWrite v) s .conflict)
    ∧ (s.dev.time.state = .free →
      (2 < v.toNat → Refuses (.timeSourceWrite v) s .invalid)
      ∧ (v.toNat ≤ 2 → s.dev.domeEn = false → Refuses (.timeSourceWrite v) s .conflict)
      ∧ (v.toNat ≤ 2 → s.dev.domeEn = true → Answers (.timeSourceWrite v) s .ok
        { s.dev with cfg := { s.dev.cfg with time := { s.dev.cfg.time with source := v.toNat } } }))
    ∧ (∀ b : Belfry, b = { s.dev.time with ppsStamp := ⟨s.dev.time.secs, s.dev.time.nanos⟩, ppsLast := some s.dev.time.up } →
      (s.dev.domeEn = false ∨ s.dev.cfg.time.source ≠ 2 → Gives .ppsInEdge s { s.dev with time := b })
      ∧ (s.dev.domeEn = true → s.dev.cfg.time.source = 2 →
        (∀ n, s.dev.time.stepped = false → s.dev.time.state = .acquiring → s.dev.time.ppsSeconds = some n →
          Gives .ppsInEdge s { s.dev with time := { b with
            state := .lockPending, waitRaised := false, ppsSeconds := none
            stepBy := some ((s.dev.now : Int) - ((1000000000 * n : Nat) : Int)) } })
        ∧ (∀ b, s.dev.time.stepped = false → s.dev.time.state = .lockPending → s.dev.time.stepBy = some b →
          Completes .ppsInEdge s (fun d =>
            d.time.offsetLast = fromSecond (((s.dev.now : Int) - b) % 1000000000).toNat * 100
              ∧ d.time.state = .lockPending ∧ d.time.stepped = false ∧ d.time.stepBy = some b
              ∧ 4294967296 - 858993 ≤ d.time.addend.toNat ∧ d.time.addend.toNat ≤ 4294967296 + 858993
              ∧ d = { s.dev with time := d.time, free := s.dev.free + 1 }))
        ∧ (∀ o : Int, ∀ n, o = (if s.dev.time.nanos ≤ 500000000 then (s.dev.time.nanos : Int) else (s.dev.time.nanos : Int) - 1000000000) →
          n = (if -10 ≤ o ∧ o ≤ 10 then s.dev.time.ppsGood + 1 else 0) → s.dev.time.stepped = true →
          Completes .ppsInEdge s (fun d =>
            d.time.offsetLast = o * 100
              ∧ 4294967296 - 858993 ≤ d.time.addend.toNat ∧ d.time.addend.toNat ≤ 4294967296 + 858993
              ∧ (16 ≤ n → d.time.state = .locked) ∧ (n < 16 → d.time.state = s.dev.time.state ∧ d.time.ppsGood = n ∧ d.ev = s.dev.ev)
              ∧ d = { s.dev with time := d.time, ev := d.ev, free := s.dev.free + 1 }))))
    ∧ (s.dev.domeEn = true → s.dev.cfg.time.source = 2 → s.dev.time.state = .locked →
      (∀ t, s.dev.time.ppsLast = some t → 3000000000 + t ≤ s.dev.time.up) →
      (s.dev.time.ppsLast = none → 3000000000 ≤ s.dev.time.up) →
      Gives .ppsHoldover s (Dev.raise { s.dev with time := { s.dev.time.freeze with
        state := .holdover, holdoverAt := s.dev.time.up, inLock := 0, ppsGood := 0 } } .timeHoldover))

/-- TRIGGER_SCHEDULE with an action is answered NOENT above entry 15; INVALID for a false TIME, a time off the grid
or more than a day ahead, or an action above 4; STALE for a snapshot while the time is not locked; LATE for a
tick that has passed; BUSY where 16 are pending and this is not one; otherwise OK and pending. TRIGGER_CANCEL,
or TRIGGER_SCHEDULE with action 0, of an entry that is not empty is answered OK and empties it, otherwise it is
answered NOENT. SNAP_NOW of 1 requests a snapshot at the next tick. Any other value of SNAP_NOW is answered
INVALID. SNAP_IN, while enabled and with no edge waiting, notes its edge. Nothing else changes. How a tick's
actions are ordered is the model's choice (log entry 83). (R20, R309, R312) -/
def Obligations.TriggersAndSnapshots : Prop :=
  ∀ (j : BitVec 16) (r : TriggerReq) (v : BitVec 8) (s : State) (t : Nat), t = 1000000000 * r.secs.toNat + r.nanos.toNat →
    (15 < j.toNat → Refuses (.triggerSchedule j r) s .noent ∧ Refuses (.triggerCancel j) s .noent)
    ∧ (j.toNat ≤ 15 →
      (1 ≤ r.action.toNat → 1000000000 ≤ r.nanos.toNat ∨ t % s.dev.cyc.conf.period ≠ 0 ∨ 86400 * 1000000000 + s.dev.now < t
          ∨ 4 < r.action.toNat → Refuses (.triggerSchedule j r) s .invalid)
      ∧ (1 ≤ r.action.toNat → r.action.toNat ≤ 4 → r.nanos.toNat < 1000000000 → t % s.dev.cyc.conf.period = 0 →
        t ≤ 86400 * 1000000000 + s.dev.now →
        (r.action = 1 → s.dev.locked = false → Refuses (.triggerSchedule j r) s .stale)
        ∧ (r.action ≠ 1 ∨ s.dev.locked = true →
          (t ≤ s.dev.now → Refuses (.triggerSchedule j r) s .late)
          ∧ (s.dev.now < t → 16 ≤ s.dev.triggersPending → (s.dev.trigger j.toNat).state ≠ .pending →
            Refuses (.triggerSchedule j r) s .busy)
          ∧ (s.dev.now < t → s.dev.triggersPending < 16 ∨ (s.dev.trigger j.toNat).state = .pending →
            Answers (.triggerSchedule j r) s .ok { s.dev with time := { s.dev.time with triggers :=
              (tset {} s.dev.time.triggers j.toNat
                { at_ := ⟨r.secs.toNat, r.nanos.toNat⟩, action := r.action.toNat, state := .pending }) } })))
      ∧ ((s.dev.trigger j.toNat).state = .empty → Refuses (.triggerCancel j) s .noent
        ∧ (r.action = 0 → Refuses (.triggerSchedule j r) s .noent))
      ∧ (∀ d, (s.dev.trigger j.toNat).state ≠ .empty →
        d = { s.dev with time := { s.dev.time with triggers := tset {} s.dev.time.triggers j.toNat {} } } →
        Answers (.triggerCancel j) s .ok d ∧ (r.action = 0 → Answers (.triggerSchedule j r) s .ok d)))
    ∧ (v ≠ 1 → Refuses (.snapNow v) s .invalid)
    ∧ Answers (.snapNow 1) s .ok { s.dev with time := { s.dev.time with snapNow := true } }
    ∧ (s.dev.cfg.time.snapInEnable = true → s.dev.time.snapIn = none → Gives .snapInEdge s
        { s.dev with time := { s.dev.time with snapIn := some s.dev.time.up } })
    ∧ (s.dev.cfg.time.snapInEnable = false ∨ s.dev.time.snapIn ≠ none → Gives .snapInEdge s s.dev)

/-- REQUEST_RECEIVE over the board SPI port, while it serves, executes the request that the port holds, with no
response held and none outstanding: a body that does not parse is answered INVALID with no item and counted
INVALID; an unsigned request of one READ item whose answer fits is outstanding while the item reads and counted
executed, and its response (sequence 0, status the item's code, one item, the port's level) stands in the port,
or, with QUIET and an item OK, none; with no request held nothing changes. Over the network while firmware runs
and the controller has a role, a poisoned request is answered POISONED with no item. A well-formed request of a
requester with a window, whose sequence number lies 64 to 32,768 behind it, is answered STALE and counted; one
whose entry stands there is answered CONFLICT where its digest differs, and otherwise from the entry, with
DUPLICATE set and the window's present high number, and counted, unless QUIET and OK; nothing executes. While no
firmware runs a network request changes nothing, and an UNASSIGNED controller takes it up without answering.
What a port or an unsigned request shows beyond the rules is the model's choice (log entries 27, 28, 29). (R262,
R275, R318, R324, R325, R326, R329, R331, R333) -/
def Obligations.RequestsReceived : Prop :=
  ∀ (q : ReqFrame) (body : List Byte) (s : State),
    (q.spi = true → s.dev.bspiOn = true → s.dev.net.bspi.request = some body → s.dev.net.bspi.response = none →
      s.dev.req.outstanding.any (fun o => o.spi) = false →
      (parseBody body = none → Completes (.requestReceive q) s (fun d =>
        d.net.bspi.response = some (responseBody 0 .invalid 0 2 s.dev.req.rights.bspi (s.dev.windowHigh 0) [])
          ∧ tget 0 d.req.counters 5 = tget 0 s.dev.req.counters 5 + 1
          ∧ d = { s.dev with
              net := { s.dev.net with bspi := { s.dev.net.bspi with request := none, response := d.net.bspi.response } }
              req := { s.dev.req with counters := d.req.counters, response := d.net.bspi.response } }))
      ∧ (∀ b i a e o, parseBody body = some b → b.signed = false → b.items = [i] → i.op = 1 →
        s.dev.reqWindow 0 = none →
        s.dev.req.outstanding.length < 1024 → (s.dev.req.outstanding.filter (fun o => o.src = 0)).length < 64 →
        o = ({ src := 0, seq := q.seq, cls := q.cls, planeB := q.planeB, spi := true, quiet := b.quiet
               level := s.dev.req.rights.bspi, digest := [], answers := [], waits := [] } : Outstanding) →
        readItem s.dev.req.rights.bspi i.obj.index.toNat i.obj.sub.toNat (i.obj.sel.map BitVec.toNat) i.off i.len
          { s.dev with req := { s.dev.req with outstanding := s.dev.req.outstanding ++ [o] } } = (a, e) →
        8 + a.bytes.length ≤ 2010 →
        (b.quiet = false ∨ a.code ≠ .ok → Completes (.requestReceive q) s (fun d =>
          d.net.bspi.response = some (responseBody 0 a.code 1 0 s.dev.req.rights.bspi (s.dev.windowHigh 0) a.bytes)
            ∧ tget 0 d.req.counters 0 = tget 0 s.dev.req.counters 0 + 1
            ∧ d = { e with
                net := { s.dev.net with bspi := { s.dev.net.bspi with request := none, response := d.net.bspi.response } }
                req := { s.dev.req with counters := d.req.counters, response := d.net.bspi.response } }))
        ∧ (b.quiet = true → a.code = .ok → Completes (.requestReceive q) s (fun d =>
          tget 0 d.req.counters 0 = tget 0 s.dev.req.counters 0 + 1
            ∧ d = { e with
                net := { s.dev.net with bspi := { s.dev.net.bspi with request := none } }
                req := { s.dev.req with counters := d.req.counters } }))))
    ∧ (q.spi = true → s.dev.net.bspi.request = none → Gives (.requestReceive q) s s.dev)
    ∧ (q.spi = false → s.dev.boot.phase ≠ .firmware → Gives (.requestReceive q) s s.dev)
    ∧ (q.spi = false → s.dev.boot.phase = .firmware → s.dev.net.role = .unassigned →
      Gives (.requestReceive q) s (s.dev.takeAny 8))
    ∧ (∀ level high, q.spi = false → s.dev.boot.phase = .firmware → s.dev.net.role ≠ .unassigned →
      level = s.dev.req.rights.levelOf q.src.toNat → high = s.dev.windowHigh q.src.toNat →
      (q.poison = true → Completes (.requestReceive q) s (fun d =>
        d.req.response = some (responseBody q.seq.toNat .poisoned 0 2 level high [])
          ∧ d.req.counters = s.dev.req.counters
          ∧ d = { s.dev with net := d.net, traf := d.traf, req := d.req }))
      ∧ (∀ b w, q.poison = false → q.src ≠ 0 → parseBody q.body = some b → s.dev.reqWindow q.src.toNat = some w →
        (64 ≤ (w.high - q.seq).toNat → (w.high - q.seq).toNat ≤ 32768 → Completes (.requestReceive q) s (fun d =>
          d.req.response = some (responseBody q.seq.toNat .stale 0 2 level high [])
            ∧ tget 0 d.req.counters 4 = tget 0 s.dev.req.counters 4 + 1
            ∧ d = { s.dev with net := d.net, traf := d.traf, req := d.req }))
        ∧ (∀ e, (w.high - q.seq).toNat ≤ 63 → w.entries.find? (fun e => e.seq = q.seq) = some e →
          (e.digest ≠ (sha384 q.body).take 8 → Completes (.requestReceive q) s (fun d =>
            d.req.response = some (responseBody q.seq.toNat .conflict 0 2 level high [])
              ∧ d.req.counters = s.dev.req.counters
              ∧ d = { s.dev with net := d.net, traf := d.traf, req := d.req }))
          ∧ (∀ full, e.digest = (sha384 q.body).take 8 → b.quiet = false ∨ e.status ≠ .ok → e.full = some full →
            Completes (.requestReceive q) s (fun d =>
              d.req.response = some (splice (splice full 4 (be 1 (field full 4 1 ||| 1))) 6 (be 2 high))
                ∧ tget 0 d.req.counters 1 = tget 0 s.dev.req.counters 1 + 1
                ∧ d = { s.dev with net := d.net, traf := d.traf, req := d.req })))))

/-- A REGISTER_WRITE whose object is missing, not writable or above the level is answered with that code; a value
not of the object's type INVALID; an object that is not idle CONFLICT; otherwise it is answered as the object's
own write answers, or later where that write answers later. Each of the 53 settings that keep a number of their
range, whoever writes them at a level that may, is answered INVALID outside the range, and within it OK: the
setting takes the value, reads it, and nothing else changes. DESCRIBE answers the object's description, or the
code of its first failed check. A DOMAIN_PART_WRITE is answered with the code of its object's first failed
check, INVALID for an object that is no DOMAIN. With MORE, one that starts a value, or goes on at the length
held, is held and answered OK up to 2,048 bytes in all; at another offset or beyond that length it is answered
INVALID and the parts are dropped; of an object that is not idle it is answered CONFLICT and what is held stays;
the last part writes the whole value. Parts and the level of direct commands are in part the model's choices
(log entries 18, 24). (R276, R317, R318, R319, R320, R327, R330, R46, R103, R183, R291, R390) -/
def Obligations.ObjectCommands : Prop :=
  ∀ (level : Fin 4) (src off : Nat) (obj : ObjRef) (v : ObjVal) (b : List Byte) (s : State),
    (∀ e, s.dev.writeTarget level false obj.index.toNat obj.sub.toNat (obj.sel.map BitVec.toNat) = .error e →
      Refuses (.registerWrite level obj v) s e)
    ∧ (∀ r x, s.dev.writeTarget level false obj.index.toNat obj.sub.toNat (obj.sel.map BitVec.toNat) = .ok (r, x) →
      (valueBytes v r.ty = none → Refuses (.registerWrite level obj v) s .invalid)
      ∧ (∀ w, valueBytes v r.ty = some w → r.ty.takes w = false → Refuses (.registerWrite level obj v) s .invalid)
      ∧ (∀ w, valueBytes v r.ty = some w → r.ty.takes w = true → r.isIdle s.dev x = false →
        Refuses (.registerWrite level obj v) s .conflict)
      ∧ (∀ w, valueBytes v r.ty = some w → r.ty.takes w = true → r.isIdle s.dev x = true →
        (∀ c e, r.write 0 x w s.dev = (.now c, e) → Answers (.registerWrite level obj v) s c e)
        ∧ (∀ y e, r.write 0 x w s.dev = (.later y, e) → e.awaits y = true → Gives (.registerWrite level obj v) s e))
      ∧ (∀ p ∈ plainSettings, ∀ n, p.idx = obj.index.toNat → p.sub = obj.sub.toNat → r.isIdle s.dev x = true → v = .num n →
        (p.low ≤ n → n ≤ p.high → Answers (.registerWrite level obj v) s .ok { s.dev with cfg := p.put x n s.dev.cfg }
          ∧ r.read { s.dev with cfg := p.put x n s.dev.cfg } x = .num n)
        ∧ (n < p.low ∨ p.high < n → Refuses (.registerWrite level obj v) s .invalid)))
    ∧ (∀ n : Nat, (level : Nat) ≤ min 1 (s.dev.req.rights.range (rangeOf 0x3000)).2 → s.dev.boot.phase ≠ .recovery →
      100 ≤ n → n ≤ 10000 → Answers (.registerWrite level ⟨0x3000, 0x0A, none⟩ (.num n)) s .ok
        { s.dev with cfg := { s.dev.cfg with net := { s.dev.cfg.net with helloPeriod := n } } })
    ∧ (∀ e, s.dev.named obj.index.toNat obj.sub.toNat (obj.sel.map BitVec.toNat) = .error e →
      Completes (.describe obj) s (fun d =>
        d.req.answer.map (fun a => (a.code, a.value)) = some (e, [])
          ∧ d = { s.dev with req := { s.dev.req with answer := d.req.answer } }))
    ∧ (∀ r x, s.dev.named obj.index.toNat obj.sub.toNat (obj.sel.map BitVec.toNat) = .ok (r, x) →
      Completes (.describe obj) s (fun d =>
        d.req.answer.map (fun a => (a.code, a.value)) = some (.ok, r.description)
          ∧ d = { s.dev with req := { s.dev.req with answer := d.req.answer } }))
    ∧ (∀ (p : BitVec 16) e more, p.toNat = src →
      s.dev.writeTarget level (decide (src ≠ 0)) obj.index.toNat obj.sub.toNat (obj.sel.map BitVec.toNat) = .error e →
      Refuses (.domainPartWrite p level obj off b more) s e)
    ∧ (∀ (p : BitVec 16) r x more, p.toNat = src →
      s.dev.writeTarget level (decide (src ≠ 0)) obj.index.toNat obj.sub.toNat (obj.sel.map BitVec.toNat) = .ok (r, x) →
      r.ty.code ≠ 13 → Refuses (.domainPartWrite p level obj off b more) s .invalid)
    ∧ (∀ (p : BitVec 16) r x, p.toNat = src →
      s.dev.writeTarget level (decide (src ≠ 0)) obj.index.toNat obj.sub.toNat (obj.sel.map BitVec.toNat) = .ok (r, x) →
      r.ty.code = 13 →
      (s.dev.heldParts src = none → b.length ≤ 2048 → r.isIdle s.dev x = true →
        Answers (.domainPartWrite p level obj 0 b true) s .ok { s.dev with req := { s.dev.req with
          assembly := s.dev.req.assembly.filter (fun a => a.src ≠ src) ++ [⟨src, obj, b, s.dev.mono⟩] } })
      ∧ (s.dev.heldParts src = none → b.length ≤ 2048 → r.isIdle s.dev x = false →
        Refuses (.domainPartWrite p level obj 0 b true) s .conflict)
      ∧ (∀ a, s.dev.heldParts src = some a → a.obj = obj →
        (off = a.bytes.length → (a.bytes ++ b).length ≤ 2048 → r.isIdle s.dev x = true →
          Answers (.domainPartWrite p level obj off b true) s .ok { s.dev with req := { s.dev.req with
            assembly := s.dev.req.assembly.filter (fun a => a.src ≠ src) ++ [⟨src, obj, a.bytes ++ b, s.dev.mono⟩] } })
        ∧ (off = a.bytes.length → (a.bytes ++ b).length ≤ 2048 → r.isIdle s.dev x = false →
          Refuses (.domainPartWrite p level obj off b true) s .conflict)
        ∧ (off ≠ a.bytes.length ∨ 2048 < (a.bytes ++ b).length →
          Answers (.domainPartWrite p level obj off b true) s .invalid { s.dev with
            req := { s.dev.req with assembly := s.dev.req.assembly.filter (fun a => a.src ≠ src) } })
        ∧ (off = a.bytes.length → (a.bytes ++ b).length ≤ 2048 →
          Gives (.domainPartWrite p level obj off b false) s (Dev.answerNow (
            let w := r.put src x (a.bytes ++ b) { s.dev with
              req := { s.dev.req with assembly := s.dev.req.assembly.filter (fun a => a.src ≠ src) } }
            (w.2.settled w.1, w.2))))))

/-- ASSEMBLY_TIMEOUT of a requester with no part written in the last second drops its parts, otherwise changes
nothing. WINDOW_FREE frees the window of a requester idle for 10 s with nothing outstanding, and otherwise
changes nothing. RIGHTS_WRITE answers NOENT for a number that does not exist, INVALID for a level or a pair that
may not stand, otherwise OK: the value is staged for the next tick, and RIGHTS_PENDING is true. What a level of
0 and a part are is in part the model's choice (log entries 24, 26). (R320, R332, R342) -/
def Obligations.RequesterUpkeep : Prop :=
  ∀ (src r lo hi : BitVec 16) (x y : BitVec 8) (b : Bool) (s : State),
    (s.dev.heldParts src.toNat = none → Gives (.assemblyTimeout src) s { s.dev with req := { s.dev.req with
        assembly := s.dev.req.assembly.filter (fun a => a.src ≠ src.toNat) } })
    ∧ (s.dev.heldParts src.toNat ≠ none → Gives (.assemblyTimeout src) s s.dev)
    ∧ (∀ w, s.dev.reqWindow src.toNat = some w →
      (10000000000 + w.lastAt ≤ s.dev.mono → s.dev.req.outstanding.all (fun o => o.spi || o.src.toNat ≠ w.src) = true →
        Gives (.windowFree src) s { s.dev with req := { s.dev.req with
          windows := s.dev.req.windows.filter (fun w => w.src ≠ src.toNat) } })
      ∧ (s.dev.mono < 10000000000 + w.lastAt ∨ s.dev.req.outstanding.any (fun o => !o.spi && o.src.toNat = w.src) = true →
        Gives (.windowFree src) s s.dev))
    ∧ (s.dev.reqWindow src.toNat = none → Gives (.windowFree src) s s.dev)
    ∧ (28 < r.toNat → Refuses (.rightsWrite (.rangeRights r x y)) s .noent)
    ∧ (r.toNat ≤ 28 → 3 < x.toNat ∨ 3 < y.toNat ∨ (27 ≤ r.toNat ∧ y ≠ 0) →
      Refuses (.rightsWrite (.rangeRights r x y)) s .invalid)
    ∧ (r.toNat ≤ 28 → x.toNat ≤ 3 → y.toNat ≤ 3 → (27 ≤ r.toNat → y = 0) →
      Replies (.rightsWrite (.rangeRights r x y)) s .ok (fun d =>
        tget (3, 3) d.req.staged.ranges r.toNat = (x.toNat, y.toNat) ∧ d.req.rightsPending = true
          ∧ d = { s.dev with req := { s.dev.req with
              staged := { s.dev.req.staged with ranges := d.req.staged.ranges }, rightsPending := true } }))
    ∧ (31 < r.toNat → Refuses (.rightsWrite (.addrRule r lo hi x b)) s .noent)
    ∧ (r.toNat ≤ 31 → hi.toNat < lo.toNat ∨ 3 < x.toNat ∨ (b = true ∧ x = 0) → Refuses (.rightsWrite (.addrRule r lo hi x b)) s .invalid)
    ∧ (r.toNat ≤ 31 → lo.toNat ≤ hi.toNat → x.toNat ≤ 3 → (b = true → x ≠ 0) →
      Replies (.rightsWrite (.addrRule r lo hi x b)) s .ok (fun d =>
        tget {} d.req.staged.rules r.toNat = { low := lo.toNat, high := hi.toNat, level := x.toNat, valid := b }
          ∧ d.req.rightsPending = true
          ∧ d = { s.dev with req := { s.dev.req with
              staged := { s.dev.req.staged with rules := d.req.staged.rules }, rightsPending := true } }))
    ∧ (x.toNat < 1 ∨ 3 < x.toNat → Refuses (.rightsWrite (.bspiLevel x)) s .invalid)
    ∧ (1 ≤ x.toNat → x.toNat ≤ 3 → Answers (.rightsWrite (.bspiLevel x)) s .ok { s.dev with req := { s.dev.req with
        staged := { s.dev.req.staged with bspi := x.toNat }, rightsPending := true } })

/-- CHECKPOINT_SEND with a mate link up and TOWER_WIRED 1 sends the next chunk of the stream, read from its buffer,
as a class 4 frame of type 16 on the lane of its turn; after the last chunk it queues the seal on every mate
link that is up and has room, counts the image as sent and ends the stream; otherwise it ends the stream.
CHECKPOINT_RECEIVE of a unit that drives or has won takes up the frame and no more. Elsewhere it stores an
unpoisoned chunk of the image under reception in its buffer and nowhere else, and notes the chunk; a poisoned
chunk, or one beyond the image, poisons the reception; a chunk of another image begins a new reception in the
buffer that is not resident, and a reception so abandoned is counted. CHECKPOINT_SEAL of a complete image whose
digests match makes it the verified image; one whose bank digest differs is discarded, counted, with
BANK_MISMATCH; one that is not good is discarded and counted; with no reception of its cycle only the mate's
fabric digest is noted. IMAGE_RESIDENT at a tick after the seal makes the verified image resident, counts it and
acknowledges it to the mate, takes the last code of every element in use from it (R90), leaves memory alone
where its generation is not the committed one, and else writes CODE_OUT, CODE_ND, MODE, JUMP_PENDING and the
STATE field into every record and nothing else there; in a unit that drives or has won it discards the image and
counts that; at any other time, or with no verified image, it changes nothing. What spoils a reception and when
an image ends are the model's choices (log entry 37). (R44, R90, R359, R360, R369) -/
def Obligations.CheckpointImages : Prop :=
  ∀ (m : ChunkMsg) (z : SealMsg) (b : Bool) (s : State),
    (∀ t, s.dev.tow.stream = some t → s.dev.mateUp = true → s.dev.arr.wiredOn = true →
      (t.next < t.image.chunks → ∀ n i l, i = t.image → n = (if i.chunks = 137 then 240 else 120) → l = s.dev.chunkLane t.next →
        ∀ first words a p f, first = t.next * n → words = min n (32768 - first) → a = 0x6C0000 + 0x40000 * i.buffer + 8 * first →
        (List.range words).any (fun w => s.dev.sram.poisoned (a + 8 * w)) = false →
        p = checkHead t.next i.chunks first words i.cycle i.gen.toNat ++ s.dev.sram.bytes a (8 * words) →
        f = s.dev.ownFrame 4 16 s.dev.net.mateAddress p → (s.dev.lane l).unused = false → f.size ≤ s.dev.mtu l →
        s.dev.hasRoom l 4 f → Completes .checkpointSend s (fun d =>
          Queued s.dev d l 4 f
            ∧ d = { s.dev with net := d.net, tow := { s.dev.tow with stream := some { t with next := t.next + 1 } } }))
      ∧ (t.image.chunks ≤ t.next → Completes .checkpointSend s (fun d =>
        tget 0 d.tow.counters 0 = tget 0 s.dev.tow.counters 0 + 1
          ∧ d.tow = { s.dev.tow with stream := none, lastSent := t.image.cycle, counters := d.tow.counters }
          ∧ (∀ l p f, l = 2 ∨ l = 3 → s.dev.laneUp l = true → (s.dev.lane l).unused = false →
            p = checkHead 0xFFFF t.image.chunks 0 0 t.image.cycle t.image.gen.toNat ++ t.image.bankDigest
              ++ sha384 (s.dev.sram.bytes (0x6C0000 + 0x40000 * t.image.buffer) 0x40000) ++ t.image.fabricDigest →
            f = s.dev.ownFrame 4 16 s.dev.net.mateAddress p → f.size ≤ s.dev.mtu l → s.dev.hasRoom l 4 f →
            ∃ q : QFrame, tget [] (d.lane l).queues 4 = tget [] (s.dev.lane l).queues 4 ++ [q] ∧ q.frame.typ = 16
              ∧ q.frame.payload = p)
          ∧ d = { s.dev with net := d.net, traf := d.traf, tow := d.tow })))
    ∧ (s.dev.mateUp = false ∨ s.dev.arr.wiredOn = false →
      Gives .checkpointSend s { s.dev with tow := { s.dev.tow with stream := none } })
    ∧ (s.dev.driving = true ∨ s.dev.tow.won = true → Gives (.checkpointReceive m b) s (s.dev.takeAny 16))
    ∧ (∀ r old, s.dev.driving = false → s.dev.tow.won = false →
      ((s.dev.tow.reception = some r ∧ r.cycle = m.imageCycle.toNat ∧ old = 0)
        ∨ (r = { cycle := m.imageCycle.toNat, gen := m.generation, chunks := m.chunkCount.toNat, buffer := s.dev.freeBuffer
                 got := [], poisoned := false }
          ∧ ((s.dev.tow.reception = none ∧ old = 0)
            ∨ (∃ x, s.dev.tow.reception = some x ∧ x.cycle ≠ m.imageCycle.toNat ∧ old = 1)))) →
      (m.first.toNat + m.words.length ≤ 32768 → Completes (.checkpointReceive m false) s (fun d =>
        (∀ k (h : k < m.words.length), d.sram.word (0x6C0000 + 0x40000 * r.buffer + 8 * (m.first.toNat + k)) = m.words[k].toNat)
          ∧ (∀ a, a < 0x6C0000 + 0x40000 * r.buffer + 8 * m.first.toNat
              ∨ 0x6C0000 + 0x40000 * r.buffer + 8 * (m.first.toNat + m.words.length) ≤ a → d.sram.byte a = s.dev.sram.byte a)
          ∧ (∃ l, d.tow.reception = some { r with got := l } ∧ ∀ x, x ∈ l ↔ x = m.chunk.toNat ∨ x ∈ r.got)
          ∧ tget 0 d.tow.counters 2 = tget 0 s.dev.tow.counters 2 + BitVec.ofNat 64 old
          ∧ d = { s.dev with net := { s.dev.net with delivered := d.net.delivered }, sram := d.sram
                             memory := { s.dev.memory with cleared := d.memory.cleared }
                             tow := { s.dev.tow with reception := d.tow.reception, counters := d.tow.counters } }))
      ∧ (b = true ∨ 32768 < m.first.toNat + m.words.length → Completes (.checkpointReceive m b) s (fun d =>
        tget 0 d.tow.counters 2 = tget 0 s.dev.tow.counters 2 + BitVec.ofNat 64 old
          ∧ d = { s.dev with net := { s.dev.net with delivered := d.net.delivered }
                             tow := { s.dev.tow with reception := some { r with poisoned := true }, counters := d.tow.counters } })))
    ∧ (s.dev.tow.reception = none ∨ (∃ r, s.dev.tow.reception = some r ∧ r.cycle ≠ z.imageCycle.toNat) →
      Completes (.checkpointSeal z) s (fun d =>
        d = { s.dev with net := { s.dev.net with delivered := d.net.delivered }
                         tow := { s.dev.tow with mateFabric := some z.fabricDigest } }))
    ∧ (∀ r, s.dev.tow.reception = some r → r.cycle = z.imageCycle.toNat →
      (s.dev.sealGood r z = true →
        (z.bankDigest = s.dev.circ.bankDigest → Completes (.checkpointSeal z) s (fun d =>
          d = { s.dev with
            net := { s.dev.net with delivered := d.net.delivered }
            tow := { s.dev.tow with
              reception := none, mateFabric := some z.fabricDigest, verifiedAt := s.dev.cyc.ticks
              verified := some ⟨r.cycle, r.gen, r.chunks, r.buffer, z.bankDigest, z.fabricDigest⟩ } }))
        ∧ (z.bankDigest ≠ s.dev.circ.bankDigest → Completes (.checkpointSeal z) s (fun d =>
          tget 0 d.tow.counters 2 = tget 0 s.dev.tow.counters 2 + 1
            ∧ d = { s.dev with
              net := { s.dev.net with delivered := d.net.delivered }
              tow := { s.dev.tow with reception := none, mateFabric := some z.fabricDigest, counters := d.tow.counters }
              ev := (s.dev.raise .bankMismatch).ev })))
      ∧ (s.dev.sealGood r z = false → Completes (.checkpointSeal z) s (fun d =>
        tget 0 d.tow.counters 2 = tget 0 s.dev.tow.counters 2 + 1
          ∧ d = { s.dev with
            net := { s.dev.net with delivered := d.net.delivered }
            tow := { s.dev.tow with reception := none, mateFabric := some z.fabricDigest, counters := d.tow.counters } })))
    ∧ (s.dev.tow.verified = none ∨ s.dev.cyc.slot ≠ 0 ∨ s.dev.cyc.ticks ≤ s.dev.tow.verifiedAt → Gives .imageResident s s.dev)
    ∧ (∀ i, s.dev.tow.verified = some i → s.dev.cyc.slot = 0 → s.dev.tow.verifiedAt < s.dev.cyc.ticks →
      (s.dev.driving = true ∨ s.dev.tow.won = true → Completes .imageResident s (fun d =>
        d.tow = { s.dev.tow with verified := none, counters := d.tow.counters }
          ∧ tget 0 d.tow.counters 2 = tget 0 s.dev.tow.counters 2 + 1 ∧ d = { s.dev with tow := d.tow }))
      ∧ (s.dev.driving = false → s.dev.tow.won = false → Completes .imageResident s (fun d =>
        d.tow.resident = some i ∧ d.tow.verified = none ∧ tget 0 d.tow.counters 1 = tget 0 s.dev.tow.counters 1 + 1
          ∧ (∀ c, (∀ e ∈ s.dev.used, entryDrive (s.dev.entry e) ≠ c) → d.lastCode c = s.dev.lastCode c)
          ∧ (∀ e ∈ s.dev.used, (∀ x ∈ s.dev.used, entryDrive (s.dev.entry x) = entryDrive (s.dev.entry e) → x = e) →
            d.lastCode (entryDrive (s.dev.entry e)) = bitsOf (s.dev.sram.word (0x6C0000 + 0x40000 * i.buffer + 8 * e)) 50 14)
          ∧ (i.gen ≠ s.dev.circ.committedGen → d.sram = s.dev.sram)
          ∧ (i.gen = s.dev.circ.committedGen → (s.dev.sram.merge.map (fun x => x.word)).Nodup →
            (∀ x ∈ s.dev.sram.merge, ∀ c ∈ x.bytes, wordOf c.1 = x.word) →
            ∀ e w, e < 32768 → w = s.dev.sram.word (0x6C0000 + 0x40000 * i.buffer + 8 * e) → 0 < (s.dev.record e).codeSlew →
              d.record e = { s.dev.record e with
                codeOut := bitsOf w 50 14, codeND := bitsOf w 36 14, mode := bitsOf w 33 3
                integ := if bitsOf w 33 3 = 0 ∨ bitsOf w 33 3 = 3 then signed 32 (w % 2 ^ 32) else (s.dev.record e).integ
                manualCode := if bitsOf w 33 3 = 1 then w % 2 ^ 14 else (s.dev.record e).manualCode }
              ∧ bit (d.elemField e) 0 = bit w 32 ∧ (bitsOf w 33 3 = 4 → d.faultCause e = w % 8))
          ∧ (∀ f, s.dev.mateUp = true → (s.dev.lane s.dev.mateLane).unused = false →
            f = s.dev.ownFrame 4 17 s.dev.net.mateAddress (be 1 4 ++ [0, 0, 0] ++ be 4 s.dev.tow.syncSeq.toNat ++ be 8 i.cycle) →
            s.dev.hasRoom s.dev.mateLane 4 f → Queued s.dev d s.dev.mateLane 4 f ∧ d.tow.syncSeq = s.dev.tow.syncSeq + 1)
          ∧ d.cyc = s.dev.cyc ∧ d.circ = s.dev.circ ∧ d.cfg = s.dev.cfg)))

/-- MATE_HEALTH_SEND at a cycle number that is a multiple of 1,024, once in its cycle, or after a change in bytes 0
to 3, 12 to 23 or 28, queues the 32 bytes of the health report in class 3 on each mate link that is up and has
room and notes what it sent; otherwise it changes nothing. MATE_HEALTH_RECEIVE records the report, its reserved
bits 0, and the tick it came at. IMAGE_ACK of the image a yielding unit waits for begins its withdrawal; another
is only taken up. WORD_REQUEST of an element is answered on the mate link, room provided: with a fresh image
resident, its cycle and the element's word, with status OK; NOENT for an element above 32,767; STALE without a
fresh image. A WORD_REPLY within 2 ms to an outstanding request is its answer: of status OK and unpoisoned, the
word is kept for the record's rebuild, otherwise none is; a reply nobody waits for is only taken up. The answers
without an image, the links taken and the first report's comparison are the model's choices (log entries 38, 39,
133). (R356, R361, R366, R368, R380, R386) -/
def Obligations.MateExchange : Prop :=
  ∀ (cycle ic : Nat) (m : MateHealthMsg) (e : BitVec 16) (n : BitVec 32) (w : BitVec 64) (code : Resp) (b : Bool) (s : State),
    (∀ p : List Byte, p = be 2 s.dev.tow.claim.toNat ++ be 1 s.dev.tow.role ++ be 1 s.dev.tow.readiness
        ++ be 8 (if s.dev.tow.role = 0 then s.dev.tow.lastSent else (s.dev.tow.resident.map (fun i => i.cycle)).getD 0)
        ++ be 4 s.dev.circ.committedGen.toNat ++ be 4 s.dev.healthCauses ++ be 4 s.dev.tow.selftest.toNat
        ++ be 2 (Machine.code 16 s.dev.therm.dieTempMax) ++ be 1 s.dev.time.state.code ++ be 1 s.dev.tow.dutyState.code
        ++ be 1 (ofBool s.dev.cfg.tow.enable) ++ [0, 0, 0] → ∀ seen, seen = p.take 4 ++ (p.drop 12).take 12 ++ (p.drop 28).take 1 →
      ((s.dev.cycleNo % 1024 = 0 ∧ s.dev.tow.healthAt ≠ some s.dev.cyc.ticks) ∨ seen ≠ s.dev.tow.healthSent →
        Completes .mateHealthSend s (fun d =>
          (∀ l, l = 2 ∨ l = 3 → s.dev.laneUp l = true → (s.dev.lane l).unused = false →
            s.dev.hasRoom l 3 (s.dev.ownFrame 3 18 s.dev.net.mateAddress p) →
            ∃ q : QFrame, tget [] (d.lane l).queues 3 = tget [] (s.dev.lane l).queues 3 ++ [q] ∧ q.frame.typ = 18
              ∧ q.frame.dest = s.dev.net.mateAddress % 65536 ∧ q.frame.payload = p)
            ∧ d = { s.dev with net := d.net, traf := d.traf
                               tow := { s.dev.tow with healthSent := seen, healthAt := some s.dev.cyc.ticks } }))
      ∧ ((s.dev.cycleNo % 1024 ≠ 0 ∨ s.dev.tow.healthAt = some s.dev.cyc.ticks) → seen = s.dev.tow.healthSent →
        Gives .mateHealthSend s s.dev))
    ∧ Completes (.mateHealthReceive m) s (fun d =>
        d = { s.dev with net := { s.dev.net with delivered := d.net.delivered }
                         tow := { s.dev.tow with mateReport := MateHealthMsg.bytes m, reportAt := some s.dev.cyc.ticks } })
    ∧ (s.dev.tow.yieldState = 1 → s.dev.tow.yieldCycle = some cycle → Completes (.imageAck cycle) s (fun d =>
        d = { s.dev with net := { s.dev.net with delivered := d.net.delivered }
                         tow := { s.dev.tow with yieldState := 2, withdrawAt := s.dev.cyc.ticks } }))
    ∧ (s.dev.tow.yieldState ≠ 1 ∨ s.dev.tow.yieldCycle ≠ some cycle → Gives (.imageAck cycle) s (s.dev.takeAny 17))
    ∧ (∀ p f l, l = s.dev.mateLane → s.dev.mateUp = true → (s.dev.lane l).unused = false →
      ((∃ i, s.dev.freshImage = some i ∧ e.toNat < 32768
          ∧ s.dev.sram.poisoned (0x6C0000 + 0x40000 * i.buffer + 8 * e.toNat) = false
          ∧ p = syncBytes 6 0 e.toNat s.dev.tow.syncSeq.toNat
            (be 8 i.cycle ++ be 8 (s.dev.sram.word (0x6C0000 + 0x40000 * i.buffer + 8 * e.toNat))))
        ∨ (s.dev.freshImage ≠ none ∧ 32768 ≤ e.toNat
          ∧ p = syncBytes 6 3 e.toNat s.dev.tow.syncSeq.toNat (List.replicate 16 0))
        ∨ (s.dev.freshImage = none ∧ p = syncBytes 6 5 e.toNat s.dev.tow.syncSeq.toNat (List.replicate 16 0))) →
      f = s.dev.ownFrame 4 17 s.dev.net.mateAddress p → s.dev.hasRoom l 4 f →
      Completes (.wordRequest e n) s (fun d =>
        Queued s.dev d l 4 f
          ∧ d = { s.dev with net := d.net, tow := { s.dev.tow with syncSeq := s.dev.tow.syncSeq + 1 } }))
    ∧ (∀ asked, asked = s.dev.tow.wordAsked.any (fun p => p.2.1 = e.toNat && p.2.2.any (fun t => s.dev.time.up < t + 2000000)) →
      (asked = true → Completes (.wordReply e code ic ⟨w, b⟩) s (fun d =>
        d.memory.rebuild = (if code = .ok ∧ b = false then
            s.dev.memory.rebuild.map (fun p => if p.1 = e.toNat then (e.toNat, some w) else p) else s.dev.memory.rebuild)
          ∧ d = { s.dev with
            net := { s.dev.net with delivered := d.net.delivered }
            memory := { s.dev.memory with rebuild := d.memory.rebuild }
            tow := { s.dev.tow with wordAsked :=
              (s.dev.tow.wordAsked.map (fun p => if p.2.1 = e.toNat then (p.1, e.toNat, none) else p)) } }))
      ∧ (asked = false → Gives (.wordReply e code ic ⟨w, b⟩) s (s.dev.takeAny 17)))

/-- A MATE_SYNC with a SYNC_SEQ not yet applied that is taken is applied and its SYNC_SEQ noted among the last 64:
MATE_SYNC_CAL_POINTS writes a good point set as CAL_POINTS would, and no other byte of memory, and of one that
is not good stores nothing and notes no SYNC_SEQ; MATE_SYNC_LABEL_COMMAND with an opcode other than INSERT,
DELETE and FLUSH_BY_PORT, or with 32 commands pending, changes nothing and is not noted; otherwise the command,
an INSERT with REPLACE set, is queued last as the mate's while the cycle has had its command or sightings are
due, and on an idle table executes at once: an INSERT of an absent key writes its entry and its result record, a
flush of a port of the map begins. A poisoned one, and one already applied, changes nothing here. With lane 2 up
and in use and room in its queue, each is acknowledged in a class 4 frame of type 17: POISONED for a poisoned
one, INVALID or BUSY for a refused one, otherwise OK. MATE_SYNC_ACK forgets the frame it names.
MATE_SYNC_RESEND, 10 ms after the last sending, sends it again, on the other mate link where that is up, with
its POISON bit; before that, or of a frame not kept, it changes nothing. MATE_SYNC_LOST, 1 s after the first,
forgets it and raises MATE_SYNC_LOST; before that, or of a frame not kept, it changes nothing. What a duplicate
is answered and the link of a frame sent again are the model's choices (log entry 38). (R160, R182, R245, R249,
R368, R380) -/
def Obligations.MateSync : Prop :=
  ∀ (n : BitVec 32) (elem : BitVec 16) (points : List Byte) (c : LabelCmd) (s : State),
    (∀ f : Resp → Frame, (∀ r, f r = s.dev.ownFrame 4 17 s.dev.net.mateAddress (syncBytes 3 (respCode r) 0 n.toNat [])) →
      s.dev.laneUp 2 = true → (s.dev.lane 2).unused = false → s.dev.hasRoom 2 4 (f .ok) →
      (s.dev.tow.syncApplied.contains n = false →
        (elem.toNat ≤ 32767 → points.length = 80 → s.dev.pointSetOk elem.toNat points = true →
          Completes (.mateSyncCalPoints n elem points false) s (fun d =>
            d.sram = (s.dev.putPoints elem.toNat points).sram ∧ d.cal = (s.dev.putPoints elem.toNat points).cal
              ∧ (∀ a, a < calAddr elem.toNat ∨ calAddr elem.toNat + 80 ≤ a → d.sram.byte a = s.dev.sram.byte a)
              ∧ d.tow.syncApplied = (n :: s.dev.tow.syncApplied).take 64 ∧ Queued s.dev d 2 4 (f .ok)
              ∧ d = { s.dev with net := d.net, sram := d.sram, memory := d.memory, cal := d.cal
                                 tow := { s.dev.tow with syncApplied := d.tow.syncApplied } }))
        ∧ (elem.toNat ≤ 32767 → points.length = 80 → s.dev.pointSetOk elem.toNat points = false →
          Completes (.mateSyncCalPoints n elem points false) s (fun d =>
            Queued s.dev d 2 4 (f .invalid) ∧ d = { s.dev with net := d.net }))
        ∧ (∀ r, (labelCmdOk c [1, 2, 5] = false ∧ r = .invalid)
            ∨ (labelCmdOk c [1, 2, 5] = true ∧ 32 ≤ s.dev.commandsPending ∧ r = .busy) →
          Completes (.mateSyncLabelCommand n c false) s (fun d => Queued s.dev d 2 4 (f r) ∧ d = { s.dev with net := d.net }))
        ∧ (∀ own, own = (if c.opcode = 1 then { c with flags := c.flags ||| 2 } else c) →
          labelCmdOk c [1, 2, 5] = true →
          (s.dev.commandsPending < 32 → s.dev.sightingsDue = true ∨ s.dev.lab.busy = true →
            Completes (.mateSyncLabelCommand n c false) s (fun d =>
              d.tow.syncApplied = (n :: s.dev.tow.syncApplied).take 64 ∧ Queued s.dev d 2 4 (f .ok)
                ∧ d = { s.dev with net := d.net, lab := { s.dev.lab with queue := s.dev.lab.queue ++ [(own, .mate)] }
                                   tow := { s.dev.tow with syncApplied := d.tow.syncApplied } }))
          ∧ (s.dev.lab.queue = [] → s.dev.lab.flush = none → s.dev.lab.busy = false → s.dev.sightingsDue = false →
            s.dev.fab.image ≠ [] → c.port.toNat < s.dev.mapPorts →
            (c.opcode = 5 → Completes (.mateSyncLabelCommand n c false) s (fun d =>
              (∃ k, d.lab = { s.dev.lab with busy := true, flush := some (c, .mate, 1, k) })
                ∧ d.tow.syncApplied = (n :: s.dev.tow.syncApplied).take 64 ∧ Queued s.dev d 2 4 (f .ok)
                ∧ d = { s.dev with net := d.net, sram := d.sram, memory := d.memory, lab := d.lab
                                   tow := { s.dev.tow with syncApplied := d.tow.syncApplied } }))
            ∧ (∀ p e, c.opcode = 1 → s.dev.lookupPoison c.key.toNat = false → s.dev.findLabel c.key.toNat = none →
              s.dev.freeLabel c.key.toNat = some p →
              e = { key := c.key.toNat, port := c.port.toNat, valid := true, hit := true, static := c.flags.getLsbD 0 } →
              Completes (.mateSyncLabelCommand n c false) s (fun d =>
                d.sram = (s.dev.putLabel p e).sram ∧ d.lab.resultIndex = s.dev.lab.resultIndex + 1
                  ∧ d.tow.syncApplied = (n :: s.dev.tow.syncApplied).take 64 ∧ Queued s.dev d 2 4 (f .ok)
                  ∧ d = { s.dev with net := d.net, sram := d.sram, memory := d.memory, lab := d.lab
                                     tow := { s.dev.tow with syncApplied := d.tow.syncApplied } })))))
      ∧ (s.dev.tow.syncApplied.contains n = true →
        Completes (.mateSyncCalPoints n elem points false) s (fun d => Queued s.dev d 2 4 (f .ok) ∧ d = { s.dev with net := d.net })
        ∧ Completes (.mateSyncLabelCommand n c false) s (fun d => Queued s.dev d 2 4 (f .ok) ∧ d = { s.dev with net := d.net }))
      ∧ Completes (.mateSyncCalPoints n elem points true) s (fun d => Queued s.dev d 2 4 (f .poisoned) ∧ d = { s.dev with net := d.net })
      ∧ Completes (.mateSyncLabelCommand n c true) s (fun d => Queued s.dev d 2 4 (f .poisoned) ∧ d = { s.dev with net := d.net }))
    ∧ Completes (.mateSyncAck n) s (fun d =>
        d.tow.syncOut = s.dev.tow.syncOut.filter (fun y => y.seq ≠ n)
          ∧ d = { s.dev with net := { s.dev.net with delivered := d.net.delivered }, tow := { s.dev.tow with syncOut := d.tow.syncOut } })
    ∧ (s.dev.tow.syncOut.find? (fun x => x.seq = n) = none → Gives (.mateSyncResend n) s s.dev ∧ Gives (.mateSyncLost n) s s.dev)
    ∧ (∀ x, s.dev.tow.syncOut.find? (fun x => x.seq = n) = some x →
      (s.dev.mono < x.since + 10000000 * x.sends → Gives (.mateSyncResend n) s s.dev)
      ∧ (∀ l f, l = (if x.sends % 2 = 1 then (if s.dev.laneUp 3 then 3 else 2) else (if s.dev.laneUp 2 then 2 else 3)) →
        f = mkFrame 4 17 s.dev.net.mateAddress s.dev.net.address s.dev.net.seq.toNat (!s.dev.laneUp 0) x.poison
          (syncBytes x.kind 0 x.item x.seq.toNat x.body) →
        x.since + 10000000 * x.sends ≤ s.dev.mono → s.dev.laneUp l = true → (s.dev.lane l).unused = false →
        f.size ≤ s.dev.mtu l → s.dev.hasRoom l 4 f →
        Completes (.mateSyncResend n) s (fun d =>
          Queued s.dev d l 4 f
            ∧ d.tow.syncOut = s.dev.tow.syncOut.map (fun y => if y.seq = n then { y with sends := y.sends + 1 } else y)
            ∧ d = { s.dev with net := d.net, tow := { s.dev.tow with syncOut := d.tow.syncOut } }))
      ∧ (s.dev.mono < 1000000000 + x.since → Gives (.mateSyncLost n) s s.dev)
      ∧ (1000000000 + x.since ≤ s.dev.mono → Gives (.mateSyncLost n) s (Dev.raise { s.dev with
          tow := { s.dev.tow with syncOut := s.dev.tow.syncOut.filter (fun y => y.seq ≠ n) } } .mateSyncLost [x.kind, x.item])))

/-- YIELD is answered CONFLICT where the unit is not incumbent, a commit is armed or under way, or the mate is not
fit; otherwise OK and the handover waits for the next tick. YIELD_FORCED of the incumbent is answered OK and
begins the withdrawal at once. YIELD_TIMEOUT, 64 ticks after a YIELD that no image followed or 4 after a
withdrawal not taken over, fails it with YIELD_FAILED; before that it changes nothing. TOWER_DUTY_DISABLE is
CONFLICT on the incumbent, otherwise OK: a STOPPED duty stays STOPPED, any other is STOPPING. TOWER_DUTY_ENABLE
is OK: a STOPPED or RUNNING duty is RUNNING, a stopping one has its restart pending. CLAIM_LINE_CLEAR takes 1
only; CLAIM_LINE_MASK is CONFLICT for both lines, else OK, its bits [7:2] kept 0. When YIELD is judged and what
bits [7:2] do are the model's choices (log entries 35, 36). (R348, R366, R367, R370, R337) -/
def Obligations.YieldAndDuty : Prop :=
  ∀ (v : BitVec 8) (s : State),
    (s.dev.tow.role ≠ 0 ∨ s.dev.commitBusy = true ∨ s.dev.mateFit = false → Refuses .yieldReq s .conflict)
    ∧ (s.dev.tow.role = 0 → s.dev.commitBusy = false → s.dev.mateFit = true → Answers .yieldReq s .ok
        { s.dev with tow := { s.dev.tow with yieldState := 1, yieldDue := true, yieldCycle := none, yieldAt := s.dev.ticks } })
    ∧ (s.dev.tow.role ≠ 0 → Refuses .yieldForced s .conflict)
    ∧ (s.dev.tow.role = 0 → Answers .yieldForced s .ok
        { s.dev with tow := { s.dev.tow with yieldState := 2, yieldDue := false, withdrawAt := s.dev.ticks } })
    ∧ ((s.dev.tow.yieldState = 1 ∧ s.dev.tow.yieldAt + 64 ≤ s.dev.ticks)
        ∨ (s.dev.tow.yieldState = 2 ∧ s.dev.tow.withdrawAt + 4 ≤ s.dev.ticks) →
      Gives .yieldTimeout s (Dev.raise { s.dev with tow := { s.dev.tow with yieldState := 4, yieldDue := false } } .yieldFailed))
    ∧ ((s.dev.tow.yieldState ≠ 1 ∨ s.dev.ticks < s.dev.tow.yieldAt + 64)
        ∧ (s.dev.tow.yieldState ≠ 2 ∨ s.dev.ticks < s.dev.tow.withdrawAt + 4) → Gives .yieldTimeout s s.dev)
    ∧ (s.dev.tow.role = 0 → Refuses .towerDutyDisable s .conflict)
    ∧ (s.dev.tow.role ≠ 0 → ∀ x, x = (if s.dev.tow.dutyState = .stopped then RunState.stopped else .stopping) →
      Answers .towerDutyDisable s .ok { s.dev with
        tow := { s.dev.tow with dutyState := x }
        cfg := { s.dev.cfg with tow := { s.dev.cfg.tow with duty := 0 } }
        boot := { s.dev.boot with savedDuty := none } })
    ∧ (∀ x, x = (if s.dev.tow.dutyState = .stopped ∨ s.dev.tow.dutyState = .running then RunState.running else .restartPending) →
      Answers .towerDutyEnable s .ok { s.dev with
        tow := { s.dev.tow with dutyState := x, dutyWindow := if x = .running then false else s.dev.tow.dutyWindow }
        cfg := { s.dev.cfg with tow := { s.dev.cfg.tow with duty := 1 } }
        boot := { s.dev.boot with savedDuty := none } })
    ∧ (v ≠ 1 → Refuses (.claimLineClear v) s .invalid)
    ∧ Answers (.claimLineClear 1) s .ok { s.dev with tow := { s.dev.tow with clearDue := true } }
    ∧ (v &&& 3 = 3 → Refuses (.claimLineMaskWrite v) s .conflict)
    ∧ (v &&& 3 ≠ 3 → Answers (.claimLineMaskWrite v) s .ok
        { s.dev with cfg := { s.dev.cfg with tow := { s.dev.cfg.tow with mask := v &&& 3 } } })

/-- MEMORY_UE, a block's read of a word that is not poisoned and stands outside a PER_BYTE window: with no bit in
error every byte reads as before; with one bit of the 72 in error every byte still reads as before, no poison
changes, a write-back is due where no merge entry serves, the region's corrected count goes up by 1 and
LAST_ERROR names the address, kind 0 and finder; with two different bits in error the word is poisoned, no other
word's poison or bytes change, the region's uncorrectable count goes up by 1, LAST_ERROR has kind 1 and a record
waits for its rebuild. Of a poisoned word it changes nothing. In a PER_BYTE window, of a byte not poisoned: one
bit in error leaves every byte and every poison mark as it was and is counted corrected, two different bits of
it in error poison that byte. An address outside memory stops as no such address. CORRECTIVE_WRITEBACK of a word
that is due is carried out; of another changes nothing. That an address of no region stops, and how bits of a
PER_BYTE window are numbered, is the model's choice (log entries 15, 16, 84). (R373, R374, R377, R386, R387,
R390) -/
def Obligations.CodedReads : Prop :=
  ∀ (addr : BitVec 24) (f : Finder) (g p q : Nat) (s : State),
    (s.dev.sram.sound = true → regionOf addr.toNat = some g → s.dev.perByte (wordOf addr.toNat) = false →
      s.dev.sram.poisoned (wordOf addr.toNat) = false →
      Completes (.memoryUe addr f []) s (fun d =>
        (∀ a, d.sram.byte a = s.dev.sram.byte a) ∧ d.sram.poison = s.dev.sram.poison
          ∧ d = { s.dev with sram := d.sram, memory := { s.dev.memory with cleared := d.memory.cleared } })
      ∧ (p < 72 → Completes (.memoryUe addr f [p]) s (fun d =>
        (∀ a, d.sram.byte a = s.dev.sram.byte a) ∧ d.sram.poison = s.dev.sram.poison
          ∧ tget 0 d.memory.ce g = tget 0 s.dev.memory.ce g + 1
          ∧ (d.memory.lastError.addr = wordOf addr.toNat ∧ d.memory.lastError.kind = 0
            ∧ d.memory.lastError.finder = (finderCode f))
          ∧ (mergeEntry s.dev.sram.merge (wordOf addr.toNat) = none →
            tfind d.sram.writebacks (wordOf addr.toNat) = some (syndromeOf 64 8 [p]))
          ∧ d = { s.dev with sram := d.sram, memory := d.memory, ev := d.ev }))
      ∧ (p < 72 → q < 72 → p ≠ q → Completes (.memoryUe addr f [p, q]) s (fun d =>
        d.sram.poisoned addr.toNat = true
          ∧ (∀ a, wordOf a ≠ wordOf addr.toNat →
            d.sram.byte a = s.dev.sram.byte a ∧ d.sram.poisoned a = s.dev.sram.poisoned a)
          ∧ tget 0 d.memory.ue g = tget 0 s.dev.memory.ue g + 1
          ∧ (d.memory.lastError.addr = wordOf addr.toNat ∧ d.memory.lastError.kind = 1
            ∧ d.memory.lastError.finder = (finderCode f))
          ∧ (g = 0 → d.memory.rebuild.any (fun x => x.1 = wordOf addr.toNat / 64) = true)
          ∧ d = { s.dev with sram := d.sram, memory := d.memory, ev := d.ev })))
    ∧ (regionOf addr.toNat = some g → s.dev.perByte (wordOf addr.toNat) = false →
      s.dev.sram.poisoned (wordOf addr.toNat) = true → ∀ l, Gives (.memoryUe addr f l) s s.dev)
    ∧ (∀ k, s.dev.sram.sound = true → s.dev.perByte (wordOf addr.toNat) = true → regionOf addr.toNat = some g →
      p < 104 → k = wordOf addr.toNat + p / 13 → tget false s.dev.sram.bytePoison k = false →
      Completes (.memoryUe addr f [p]) s (fun d =>
        (∀ a, d.sram.byte a = s.dev.sram.byte a) ∧ d.sram.bytePoison = s.dev.sram.bytePoison
          ∧ d.sram.poison = s.dev.sram.poison ∧ tget 0 d.memory.ce g = tget 0 s.dev.memory.ce g + 1
          ∧ d = { s.dev with sram := d.sram, memory := d.memory, ev := d.ev })
      ∧ (q < 104 → p / 13 = q / 13 → p ≠ q → Completes (.memoryUe addr f [p, q]) s (fun d =>
        tget false d.sram.bytePoison k = true ∧ (∀ a, a ≠ k → d.sram.byte a = s.dev.sram.byte a
            ∧ tget false d.sram.bytePoison a = tget false s.dev.sram.bytePoison a)
          ∧ tget 0 d.memory.ue g = tget 0 s.dev.memory.ue g + 1
          ∧ d = { s.dev with sram := d.sram, memory := d.memory, ev := d.ev })))
    ∧ (regionOf addr.toNat = none → ∀ l, exec (.memoryUe addr f l) s = .fault (.noSuchAddress addr.toNat)
        ∧ exec (.correctiveWriteback addr) s = .fault (.noSuchAddress addr.toNat))
    ∧ (regionOf addr.toNat = some g →
      (tfind s.dev.sram.writebacks addr.toNat = none → Gives (.correctiveWriteback addr) s s.dev)
      ∧ (∀ y, tfind s.dev.sram.writebacks addr.toNat = some y → Completes (.correctiveWriteback addr) s (fun d =>
        d.sram.writebacks = tdel s.dev.sram.writebacks addr.toNat
          ∧ (addr.toNat, y, s.dev.mono) ∈ d.memory.corrected
          ∧ d = { s.dev with sram := { s.dev.sram with writebacks := d.sram.writebacks }
                             memory := { s.dev.memory with corrected := d.memory.corrected } })))

/-- MERGE_RETIRE of the oldest entry of the merge buffer, over a word free of error and poison, takes the entry out
of the buffer, and every byte reads as it read before, when the entry's bytes were read from the buffer; a host
write is answered OK. Over a poisoned word the word stays poisoned and the entry leaves; a host write is
answered POISONED, another is not. A request whose one item still waited for that word takes the code and is
answered: its entry recorded and its response sent. An empty buffer changes nothing. CE_LEAK takes 1 from each
region's bucket above 0 and ends the region's excess where its bucket is at most half its threshold.
CORE_DATA_ABORT at a poisoned word records LAST_ERROR kind 2 and raises MEM_POISON_CONSUMED; in a request the
answer is POISONED, as is the item in execution for it where one waits, otherwise the core halts; at a word that
is not poisoned it changes nothing; outside memory it stops. Which item a core works for, and the order in which
entries retire, are the model's choice (log entries 16, 84). (R375, R376, R379, R381) -/
def Obligations.MergeBufferAndLeak : Prop :=
  ∀ (e : MergeEntry) (l : List MergeEntry) (o : Outstanding) (w : WaitFor) (k : Nat) (addr : BitVec 24) (g : Nat) (b : Bool) (s : State),
    (s.dev.sram.merge = [] → Gives (.mergeRetire []) s s.dev)
    ∧ (s.dev.sram.sound = true → s.dev.sram.merge = e :: l → e.word % 8 = 0 → (e.bytes.map (fun c => c.1)).Nodup →
      (∀ c ∈ e.bytes, wordOf c.1 = e.word) → s.dev.mergeWaits = [] →
      (s.dev.sram.poisoned e.word = false → ∃ d : Dev,
        ((e.host = true → Answers (.mergeRetire []) s .ok d) ∧ (e.host = false → Gives (.mergeRetire []) s d))
          ∧ (∀ a, d.sram.byte a = s.dev.sram.byte a) ∧ d.sram.merge = s.dev.sram.merge.filter (fun x => x.word ≠ e.word)
          ∧ d.sram.poison = s.dev.sram.poison
          ∧ d = { s.dev with sram := d.sram, memory := { s.dev.memory with cleared := d.memory.cleared } })
      ∧ (s.dev.sram.poisoned e.word = true → e.host = true → Replies (.mergeRetire []) s .poisoned (fun d =>
        d.sram.poisoned e.word = true ∧ d.sram.merge = s.dev.sram.merge.filter (fun x => x.word ≠ e.word)
          ∧ d = { s.dev with sram := d.sram, memory := { s.dev.memory with cleared := d.memory.cleared } }))
      ∧ (s.dev.sram.poisoned e.word = true → e.host = false → Completes (.mergeRetire []) s (fun d =>
        d.sram.poisoned e.word = true ∧ d.sram.merge = s.dev.sram.merge.filter (fun x => x.word ≠ e.word)
          ∧ d = { s.dev with sram := d.sram, memory := { s.dev.memory with cleared := d.memory.cleared } })))
    ∧ (s.dev.sram.merge = [e] → e.host = true → s.dev.req.outstanding = [o] → o.waits = [(k, .merge [e.word])] →
      ∀ r, r = (if s.dev.sram.poisoned e.word then Resp.poisoned else Resp.ok) → s.dev.sram.sound = true → e.word % 8 = 0 →
        (∀ c ∈ e.bytes, wordOf c.1 = e.word) → Completes (.mergeRetire []) s (fun d => ∃ m c,
          d = Dev.finishRequest
            { s.dev with sram := m, memory := { s.dev.memory with cleared := c }
                         req := { s.dev.req with answer := some { code := r }, outstanding := [] } }
            { o with answers := setCode r k o.answers, waits := [] }))
    ∧ Completes .ceLeak s (fun d =>
        (∀ r, r < 9 → tget 0 d.memory.bucket r = tget 0 s.dev.memory.bucket r - 1
          ∧ tget false d.memory.ceRaised r
            = (if tget 0 s.dev.memory.bucket r - 1 ≤ s.dev.ceThreshold r / 2 then false else tget false s.dev.memory.ceRaised r))
          ∧ d = { s.dev with memory := { s.dev.memory with bucket := d.memory.bucket, ceRaised := d.memory.ceRaised } })
    ∧ (regionOf addr.toNat = none → exec (.coreDataAbort addr b) s = .fault (.noSuchAddress addr.toNat))
    ∧ (regionOf addr.toNat = some g →
      (s.dev.sram.poisoned addr.toNat = false → Gives (.coreDataAbort addr b) s s.dev)
      ∧ (s.dev.sram.poisoned addr.toNat = true →
        (s.dev.itemAtWork = none → Replies (.coreDataAbort addr true) s .poisoned (fun d =>
          d = Dev.raise (s.dev.lastError addr.toNat 2 .core 0) .memPoisonConsumed [addr.toNat]))
        ∧ (s.dev.itemAtWork = some w → Replies (.coreDataAbort addr true) s .poisoned (fun d =>
          d = Dev.answerWait (Dev.raise (s.dev.lastError addr.toNat 2 .core 0) .memPoisonConsumed [addr.toNat]) w .poisoned))
        ∧ Completes (.coreDataAbort addr false) s (fun d =>
          d.tow.coreHalted = true
            ∧ d.memory.lastError = ⟨addr.toNat, 2, 1, 0, s.dev.cycleNo⟩
            ∧ d = { s.dev with memory := { s.dev.memory with lastError := d.memory.lastError }
                               ev := (s.dev.raise .memPoisonConsumed [addr.toNat]).ev
                               tow := { s.dev.tow with coreHalted := true } })))

/-- With automatic scrubbing, SCRUB_START and SCRUB_STOP are CONFLICT. Otherwise SCRUB_START of a STOPPED scrubber
is answered OK and starts a pass from SCRUB_RANGE's start with a clear summary, of a RUNNING one is CONFLICT, of
a STOPPING or RESTART_PENDING one asks for a restart; SCRUB_STOP leaves a STOPPED one STOPPED and makes any
other STOPPING. SCRUB_AUTO_PASS with automatic scrubbing and no pass starts one over all memory, and otherwise
changes nothing. SCRUB_READ in a pass, of a word outside a PER_BYTE window: a good word is counted, and the pass
moves on by a word, every byte reading as before; with one bit in error it is counted corrected too and is the
last failing address; a poisoned word is counted as poison seen and left. The read of the last word of a RUNNING
pass ends it with status 2; the read in a STOPPING or RESTART_PENDING pass ends it with status 3; SCRUB_DONE is
raised, and a restart pending begins a new pass. Of a stopped scrubber it changes nothing. BANK_STORE_SCRUB_READ
of a good word moves on by a word, from the last to the first. CONFLICT under automatic scrubbing and a stop at
the word in progress are the model's choice (log entry 86). (R337, R382, R383, R384, R385) -/
def Obligations.Scrubbing : Prop :=
  ∀ (s : State),
    (s.dev.cfg.mem.scrubAuto = true → Refuses .scrubStart s .conflict ∧ Refuses .scrubStop s .conflict)
    ∧ (s.dev.cfg.mem.scrubAuto = false → s.dev.memory.scrubState = .stopped →
      Answers .scrubStart s .ok { s.dev with
        cfg := { s.dev.cfg with mem := { s.dev.cfg.mem with scrubControl := 1 } }
        memory := { s.dev.memory with
          scrubState := .running, scrubNext := s.dev.cfg.mem.scrubStart
          scrub := { start := s.dev.cfg.mem.scrubStart, stop := s.dev.cfg.mem.scrubEnd, read := 0, corrected := 0
                     uncorrectable := 0, poisonSeen := 0, firstFail := 0xFFFFFFFF, lastFail := 0xFFFFFFFF, status := 1 } } }
      ∧ Answers .scrubStop s .ok { s.dev with cfg := { s.dev.cfg with mem := { s.dev.cfg.mem with scrubControl := 0 } } })
    ∧ (s.dev.cfg.mem.scrubAuto = false → s.dev.memory.scrubState = .running → Refuses .scrubStart s .conflict)
    ∧ (s.dev.cfg.mem.scrubAuto = false → s.dev.memory.scrubState = .stopping ∨ s.dev.memory.scrubState = .restartPending →
      Answers .scrubStart s .ok { s.dev with
        cfg := { s.dev.cfg with mem := { s.dev.cfg.mem with scrubControl := 1 } }
        memory := { s.dev.memory with scrubState := .restartPending } })
    ∧ (s.dev.cfg.mem.scrubAuto = false → s.dev.memory.scrubState ≠ .stopped →
      Answers .scrubStop s .ok { s.dev with
        cfg := { s.dev.cfg with mem := { s.dev.cfg.mem with scrubControl := 0 } }
        memory := { s.dev.memory with scrubState := .stopping } })
    ∧ (s.dev.cfg.mem.scrubAuto = true → s.dev.memory.scrubState = .stopped → Completes .scrubAutoPass s (fun d =>
        d.memory.scrubState = .running ∧ d.memory.scrubNext = 0 ∧ d.memory.scrub.start = 0 ∧ d.memory.scrub.stop = 0x97FFF8
          ∧ d.memory.scrub.read = 0 ∧ d.memory.scrub.status = 1
          ∧ d = { s.dev with
            cfg := { s.dev.cfg with mem := { s.dev.cfg.mem with scrubStart := 0, scrubEnd := 0x97FFF8 } }
            memory := { s.dev.memory with scrubState := .running, scrubNext := 0, scrub := d.memory.scrub } }))
    ∧ (s.dev.cfg.mem.scrubAuto = false ∨ s.dev.memory.scrubState ≠ .stopped → Gives .scrubAutoPass s s.dev)
    ∧ (s.dev.memory.scrubState = .stopped → ∀ l, Gives (.scrubRead l) s s.dev)
    ∧ (∀ a b, a = s.dev.memory.scrubNext → b = s.dev.memory.scrub → s.dev.sram.sound = true → s.dev.perByte a = false →
      (s.dev.memory.scrubState = .running → a < b.stop →
        (s.dev.sram.poisoned a = false → Completes (.scrubRead []) s (fun d =>
          (∀ x, d.sram.byte x = s.dev.sram.byte x)
            ∧ d = { s.dev with sram := d.sram, memory := { s.dev.memory with
                scrubNext := a + 8, scrub := { b with read := b.read + 1 }, cleared := d.memory.cleared } })
          ∧ (∀ p, p < 72 → Completes (.scrubRead [p]) s (fun d =>
            (∀ x, d.sram.byte x = s.dev.sram.byte x) ∧ d.memory.scrubNext = a + 8 ∧ d.memory.scrubState = .running
              ∧ d.memory.scrub = { b with
                read := b.read + 1, corrected := b.corrected + 1, lastFail := a
                firstFail := if b.firstFail = 0xFFFFFFFF then a else b.firstFail }
              ∧ d = { s.dev with sram := d.sram, memory := d.memory, ev := d.ev })))
        ∧ (s.dev.sram.poisoned a = true → ∀ l, Gives (.scrubRead l) s { s.dev with memory := { s.dev.memory with
            scrubNext := a + 8, scrub := { b with read := b.read + 1, poisonSeen := b.poisonSeen + 1 } } }))
      ∧ (∀ status, (s.dev.memory.scrubState = .running ∧ b.stop ≤ a ∧ status = 2)
          ∨ (s.dev.memory.scrubState = .stopping ∧ status = 3) → s.dev.sram.poisoned a = false →
        Completes (.scrubRead []) s (fun d =>
          (∀ x, d.sram.byte x = s.dev.sram.byte x)
            ∧ d = { s.dev with
              sram := d.sram, ev := (s.dev.raise .scrubDone).ev
              memory := { s.dev.memory with
                scrubState := .stopped, scrubNext := a + 8, cleared := d.memory.cleared
                scrub := { b with read := b.read + 1, status := status, finish := timeOf s.dev.now } } }))
      ∧ (s.dev.memory.scrubState = .restartPending → s.dev.sram.poisoned a = false → Completes (.scrubRead []) s (fun d =>
        (∀ x, d.sram.byte x = s.dev.sram.byte x) ∧ d.memory.scrubState = .running
          ∧ d.memory.scrubNext = s.dev.cfg.mem.scrubStart ∧ d.memory.scrub.read = 0 ∧ d.memory.scrub.status = 1
          ∧ d = { s.dev with sram := d.sram, memory := d.memory, ev := (s.dev.raise .scrubDone).ev })))
    ∧ (∀ a, a = s.dev.memory.bankNext → s.dev.sram.sound = true → s.dev.perByte a = false → s.dev.sram.poisoned a = false →
      Completes (.bankStoreScrubRead []) s (fun d =>
        (∀ x, d.sram.byte x = s.dev.sram.byte x)
          ∧ d.memory.bankNext = (if a + 8 < 0xA90000 then a + 8 else 0xA00000)
          ∧ d = { s.dev with sram := d.sram, memory := { s.dev.memory with
              bankNext := d.memory.bankNext, cleared := d.memory.cleared } }))

/-- RECORD_REBUILD of an element that no rebuild waits for changes nothing; of one that waits, with no word of the
mate heard while it may still come, it changes nothing either. Otherwise the element no longer waits for a
rebuild or a word. With no settings to be had, REBUILD_FAILED is raised and nothing else changes. With saved
settings all eight words of the record are written with their poison bits clear, each holding the word the
rebuilt record packs, and no other byte or mark of memory changes; a late hold ends, and the element's record
hold, unless a word of its curve is poisoned; where word 6 was lost the reverse linearisation of the restored
CODE_ND is requested, clamped when the restored MODE is AUTO or DARK; the rebuild is counted and RECORD_REBUILT
raised with the element and where the image word came from. The rebuilt record keeps the fields of every word
that was not poisoned; of a poisoned word 0 it has MODE from the image word, or HOLD, and WANT_B of the current
bank; of words 1 and 2 the saved settings; of word 3 the current bank's PHI_FF and SP_TARGET, SP_WORK equal to
SP_TARGET; of word 4 the settings, CODE_ND of the image word, or LAST_CODE, and the image's STATE as MANUAL_CODE
when its MODE is MANUAL; of word 5 the image's STATE as INTEG when its MODE is AUTO or DARK, else 0, and
DEMOD_ACC 0; of word 6 PHI_FF where the linearisation starts, and LAST_CODE; of word 7 zeros with DEMOD_SPOILT
set. That the linearisation follows the writes in a spare slot, and that nothing changes while the mate's word
may come, is the model's choice (log entry 84). (R122, R386) -/
def Obligations.RecordRebuild : Prop :=
  ∀ (elem : BitVec 15) (h : Option (BitVec 64)) (b : Bool) (s : State),
    (tfind s.dev.memory.rebuild elem.toNat = none → Gives (.recordRebuild elem b) s s.dev)
    ∧ (tfind s.dev.memory.rebuild elem.toNat = some none → s.dev.wordOpen elem.toNat = true →
      Gives (.recordRebuild elem b) s s.dev)
    ∧ (tfind s.dev.memory.rebuild elem.toNat = some h → (h ≠ none ∨ s.dev.wordOpen elem.toNat = false) →
      (b = false ∨ s.dev.boot.flash.settingsOf elem.toNat = none → Gives (.recordRebuild elem b) s (Dev.raise { s.dev with
        memory := { s.dev.memory with rebuild := s.dev.memory.rebuild.filter (fun p => p.1 ≠ elem.toNat) }
        tow := { s.dev.tow with wordAsked := s.dev.tow.wordAsked.filter (fun p => p.2.1 ≠ elem.toNat) } } .rebuildFailed))
      ∧ (∀ v r, s.dev.boot.flash.settingsOf elem.toNat = some v →
        r = s.dev.rebuilt elem.toNat v (s.dev.imageWord elem.toNat h).1 → Completes (.recordRebuild elem true) s (fun d =>
        ∃ x : Dev, d = x.raise .recordRebuilt [elem.toNat, (s.dev.imageWord elem.toNat h).2]
          ∧ (∀ k, k < 8 → tget false x.sram.poison (64 * elem.toNat + 8 * k) = false
              ∧ x.sram.word (64 * elem.toNat + 8 * k) = r.words.getD k 0)
          ∧ (∀ a, a < 64 * elem.toNat ∨ 64 * (elem.toNat + 1) ≤ a →
              x.sram.byte a = s.dev.sram.byte a ∧ x.sram.poisoned a = s.dev.sram.poisoned a)
          ∧ tget false x.loop.holdLate elem.toNat = false
          ∧ (s.dev.curvePoisoned elem.toNat = false → tget false x.loop.recordHold elem.toNat = false
              ∧ (tget false s.dev.loop.recordHold elem.toNat = true → tget false x.loop.holdEnded elem.toNat = true))
          ∧ (s.dev.curvePoisoned elem.toNat = true →
              tget false x.loop.recordHold elem.toNat = tget false s.dev.loop.recordHold elem.toNat
              ∧ tget false x.loop.holdEnded elem.toNat = tget false s.dev.loop.holdEnded elem.toNat)
          ∧ (s.dev.sram.poisoned (64 * elem.toNat + 48) = true →
              tfind x.loop.reverse elem.toNat = some (r.codeND, decide (r.mode = 0 ∨ r.mode = 3)))
          ∧ (s.dev.sram.poisoned (64 * elem.toNat + 48) = false → x.loop.reverse = s.dev.loop.reverse)
          ∧ (∀ e, e ≠ elem.toNat → tget false x.loop.holdLate e = tget false s.dev.loop.holdLate e
              ∧ tget false x.loop.recordHold e = tget false s.dev.loop.recordHold e
              ∧ tget false x.loop.holdEnded e = tget false s.dev.loop.holdEnded e
              ∧ tfind x.loop.reverse e = tfind s.dev.loop.reverse e)
          ∧ x = { s.dev with
            sram := x.sram
            loop := { s.dev.loop with
              holdLate := x.loop.holdLate, recordHold := x.loop.recordHold, holdEnded := x.loop.holdEnded
              reverse := x.loop.reverse }
            memory := { s.dev.memory with
              rebuild := s.dev.memory.rebuild.filter (fun p => p.1 ≠ elem.toNat)
              rebuilds := s.dev.memory.rebuilds + 1, cleared := x.memory.cleared }
            tow := { s.dev.tow with wordAsked := s.dev.tow.wordAsked.filter (fun p => p.2.1 ≠ elem.toNat) } })))
    ∧ (∀ (d : Dev) (e : Nat) (v r q : Rec) (im : Option Nat) (bad : Nat → Bool), r = d.rebuilt e v im → q = d.record e →
      (∀ k, bad k = d.sram.poisoned (64 * e + 8 * k)) →
      (r.mode = (if bad 0 then (im.map (fun w => w / 2 ^ 33 % 2 ^ 3)).getD 2 else q.mode)
        ∧ r.wantB = (if bad 0 then targetWantB (d.target false e) else q.wantB)
        ∧ (r.kind, r.drive, r.monA, r.monB, r.monBEn, r.tone, r.dither, r.zone, r.delay2) =
            (if bad 0 then (v.kind, v.drive, v.monA, v.monB, v.monBEn, v.tone, v.dither, v.zone, v.delay2)
              else (q.kind, q.drive, q.monA, q.monB, q.monBEn, q.tone, q.dither, q.zone, q.delay2)))
      ∧ (r.kp, r.ki, r.demodPhase, r.demodLog2, r.codeSlew, r.feTimer) =
          (if bad 1 then (v.kp, v.ki, v.demodPhase, v.demodLog2, v.codeSlew, v.feTimer)
            else (q.kp, q.ki, q.demodPhase, q.demodLog2, q.codeSlew, q.feTimer))
      ∧ (r.phiMin, r.phiMax, r.feLimit) =
          (if bad 2 then (v.phiMin, v.phiMax, v.feLimit) else (q.phiMin, q.phiMax, q.feLimit))
      ∧ (r.phiFF, r.spTarget, r.spWork) =
          (if bad 3 then (targetPhi (d.target false e), targetSp (d.target false e), targetSp (d.target false e))
            else (q.phiFF, q.spTarget, q.spWork))
      ∧ (r.spRate, r.darkTh) = (if bad 4 then (v.spRate, v.darkTh) else (q.spRate, q.darkTh))
      ∧ (bad 4 = false → r.manualCode = q.manualCode ∧ r.codeND = q.codeND)
      ∧ (bad 4 = true → im = none → r.manualCode = v.manualCode ∧ r.codeND = d.lastCode (entryDrive (d.entry e)))
      ∧ (∀ w, bad 4 = true → im = some w → r.codeND = w / 2 ^ 36 % 2 ^ 14
        ∧ r.manualCode = (if w / 2 ^ 33 % 2 ^ 3 = 1 then w % 2 ^ 32 % 2 ^ 14 else v.manualCode))
      ∧ r.demodAcc = (if bad 5 then 0 else q.demodAcc) ∧ (bad 5 = false → r.integ = q.integ)
      ∧ (bad 5 = true → im = none → r.integ = 0)
      ∧ (∀ w, bad 5 = true → im = some w →
        r.integ = (if w / 2 ^ 33 % 2 ^ 3 = 0 ∨ w / 2 ^ 33 % 2 ^ 3 = 3 then signed 32 (w % 2 ^ 32) else 0))
      ∧ (r.mRef, r.demodCount) = (if bad 6 then (0, 0) else (q.mRef, q.demodCount))
      ∧ (r.phiOut, r.codeOut) = (if bad 6 then (r.phiFF, d.lastCode (entryDrive (d.entry e))) else (q.phiOut, q.codeOut))
      ∧ (r.eLast, r.feCount, r.settle, r.meas, r.flags) =
          (if bad 7 then (0, 0, 0, 0, 2 ^ fSpoilt) else (q.eLast, q.feCount, q.settle, q.meas, q.flags)))

/-- WINDOW_MODE while COMPAT_LOAD runs is CONFLICT, above 1 INVALID; the present mode is OK and changes nothing; the
other mode is OK, every byte of the window then reads 0, unpoisoned, and every other byte as before, and besides
memory's own bookkeeping only WINDOW_MODE changes. COMPAT_LOAD of a value other than 1 is INVALID, in NATIVE
mode CONFLICT, while one runs BUSY, of a poisoned window POISONED with status FAILED_FORMAT, LAST_ERROR kind 2
and MEM_POISON_CONSUMED at the first mark; otherwise a window of no image gives INVALID with status
FAILED_FORMAT. An image is staged as FABRIC_BLOCK would stage it and applied as FABRIC_APPLY does: a refusal is
answered with the same code under status FAILED_MAP, and with INVALID the failed check and item stand in the
status; an image taken is OK with status RUNNING until its map is in force, and the settings it spells are
written in turn; the first that is refused gives its code, status FAILED_FORMAT and the element. The format,
RUNNING until the map is in force and a refused setting as FAILED_FORMAT are the model's choice (log entries 45,
85). (R377, R378, R381, R390) -/
def Obligations.WindowAndCompat : Prop :=
  ∀ (v : BitVec 8) (a : Nat) (l : List (Nat × Bool)) (s : State),
    (s.dev.compatRunning = true → Refuses (.windowModeWrite v) s .conflict)
    ∧ (s.dev.compatRunning = false →
      (1 < v.toNat → Refuses (.windowModeWrite v) s .invalid)
      ∧ (v.toNat ≤ 1 → v.toNat = s.dev.cfg.mem.windowMode → Refuses (.windowModeWrite v) s .ok)
      ∧ (v.toNat ≤ 1 → v.toNat ≠ s.dev.cfg.mem.windowMode → Replies (.windowModeWrite v) s .ok (fun d =>
        (∀ a, regionOf a = some 7 → d.sram.byte a = 0 ∧ d.sram.poisoned a = false)
          ∧ (∀ a, regionOf a ≠ some 7 → d.sram.byte a = s.dev.sram.byte a ∧ d.sram.poisoned a = s.dev.sram.poisoned a)
          ∧ d = { s.dev with
            sram := d.sram, memory := { s.dev.memory with cleared := d.memory.cleared }
            cfg := { s.dev.cfg with mem := { s.dev.cfg.mem with windowMode := v.toNat } } })))
    ∧ (v ≠ 1 → Refuses (.compatLoad v) s .invalid)
    ∧ (s.dev.cfg.mem.windowMode = 0 → Refuses (.compatLoad 1) s .conflict)
    ∧ (s.dev.cfg.mem.windowMode ≠ 0 → s.dev.compatRunning = true → Refuses (.compatLoad 1) s .busy)
    ∧ (s.dev.cfg.mem.windowMode ≠ 0 → s.dev.compatRunning = false → s.dev.windowMarks = (a, true) :: l →
      Replies (.compatLoad 1) s .poisoned (fun d =>
        d.memory.lastError = ⟨a, 2, 1, 0, s.dev.cycleNo⟩
          ∧ d = { s.dev with
            memory := { s.dev.memory with compat := (3, 0, 0), lastError := d.memory.lastError }
            ev := (s.dev.raise .memPoisonConsumed [a]).ev }))
    ∧ (s.dev.cfg.mem.windowMode ≠ 0 → s.dev.compatRunning = false → s.dev.windowPoisoned = false →
      Completes (.compatLoad 1) s (fun d =>
        (Config.compatImage s.dev.windowBytes = none →
          d = Dev.reply { s.dev with memory := { s.dev.memory with compat := (3, 0, 0) } } .invalid)
          ∧ (∀ img x, Config.compatImage s.dev.windowBytes = some img → fabricApply 1 (s.dev.stageImage img) = (.invalid, x) →
            d = Dev.reply { x with memory := { x.memory with compat := (4, x.fab.error.1, x.fab.error.2) } } .invalid)
          ∧ (∀ img r x, Config.compatImage s.dev.windowBytes = some img → fabricApply 1 (s.dev.stageImage img) = (r, x) →
            r ≠ .invalid → r ≠ .ok → d = Dev.reply { x with memory := { x.memory with compat := (4, 0, 0) } } r)
          ∧ (∀ (img : List Byte) (x : Dev) (z : Nat → Dev) (r : Nat → Resp) (k : Nat), Config.compatImage s.dev.windowBytes = some img → fabricApply 1 (s.dev.stageImage img) = (.ok, x) →
            (∀ i, z i = each ((Config.compatSettings s.dev.windowBytes).take i)
              (fun p d => (anyFieldWrite p.1 (fieldOf p.2.1) p.2.2 d).2) x) →
            (∀ i p, (Config.compatSettings s.dev.windowBytes)[i]? = some p →
              r i = (anyFieldWrite p.1 (fieldOf p.2.1) p.2.2 (z i)).1) →
            k = (Config.compatSettings s.dev.windowBytes).length →
            ((∀ i, i < k → r i = .ok) →
                d = Dev.reply { z k with memory := { (z k).memory with compat := (1, 0, 0) } } .ok)
              ∧ (∀ i p, (Config.compatSettings s.dev.windowBytes)[i]? = some p → r i ≠ .ok → (∀ j, j < i → r j = .ok) →
                d = Dev.reply { z k with memory := { (z k).memory with compat := (3, 0, p.1) } } (r i)))))

/-- REPAIR_ROW of a macro above 151 or a row above 1,023 is INVALID; while repairs are barred CONFLICT; otherwise,
with a spare row of the macro and a fuse entry free, it is OK: the row is mapped to the lowest free spare, the
lowest free fuse entry is queued for it, its hard-error row is no candidate any longer, REPAIR_MAPPED is raised,
and no byte or poison mark of memory changes; with none free it is BUSY and REPAIR_EXHAUSTED is raised.
REPAIR_AUTO of a row that is no candidate, with automatic repair off or with repairs barred changes nothing; of
a candidate it does the same as REPAIR_ROW without an answer. REPAIR_FUSE_DONE writes the oldest queued fuse
word and raises REPAIR_DONE; with none queued it changes nothing. BUSY with no spare left, and a mapped row
being no candidate, are the model's choice (log entry 84). (R387, R388, R390) -/
def Obligations.Repairs : Prop :=
  ∀ (mac : BitVec 8) (row : BitVec 16) (m : Fin 152) (r : Fin 1024) (s : State),
    (∀ mapped : Nat → Nat → Nat → Nat → Dev, mapped = (fun mac row sp k => Dev.raise { s.dev with memory := { s.dev.memory with
          softMap := s.dev.memory.softMap ++ [(mac, row, sp)]
          repairs := s.dev.memory.repairs ++ [{ mac := mac, row := row, spare := sp, entry := k }]
          hardRows := s.dev.memory.hardRows.map
            (fun e => if e.1 = mac ∧ e.2.1 = row then (e.1, e.2.1, e.2.2.1, false) else e) } } .repairMapped) →
      (151 < mac.toNat ∨ 1023 < row.toNat → Refuses (.repairRow mac row) s .invalid)
      ∧ (mac.toNat ≤ 151 → row.toNat ≤ 1023 → s.dev.repairBarred = true → Refuses (.repairRow mac row) s .conflict)
      ∧ (mac.toNat ≤ 151 → row.toNat ≤ 1023 → s.dev.repairBarred = false →
        (∀ sp k, s.dev.freeSpare mac.toNat = some sp → s.dev.freeFuse = some k →
          Answers (.repairRow mac row) s .ok (mapped mac.toNat row.toNat sp k))
        ∧ (s.dev.freeSpare mac.toNat = none ∨ s.dev.freeFuse = none →
          Answers (.repairRow mac row) s .busy (Dev.raise s.dev .repairExhausted)))
      ∧ (s.dev.cfg.mem.repairAuto = true → rowCandidate m r s.dev.memory.hardRows = true → s.dev.repairBarred = false →
        (∀ sp k, s.dev.freeSpare m = some sp → s.dev.freeFuse = some k → Gives (.repairAuto m r) s (mapped m r sp k))
        ∧ (s.dev.freeSpare m = none ∨ s.dev.freeFuse = none →
          Gives (.repairAuto m r) s (Dev.raise s.dev .repairExhausted))))
    ∧ (∀ mac sp, s.dev.freeSpare mac = some sp → sp < 4 ∧ s.dev.spareTaken mac sp = false
        ∧ ∀ j, j < sp → s.dev.spareTaken mac j = true)
    ∧ (∀ k, s.dev.freeFuse = some k → k < 64 ∧ fuseValid (s.dev.fuse k) = false
        ∧ (∀ p ∈ s.dev.memory.repairs, p.entry ≠ k))
    ∧ (s.dev.cfg.mem.repairAuto = false ∨ rowCandidate m r s.dev.memory.hardRows = false ∨ s.dev.repairBarred = true →
      Gives (.repairAuto m r) s s.dev)
    ∧ (s.dev.memory.repairs = [] → Gives .repairFuseDone s s.dev)
    ∧ (∀ r l, s.dev.memory.repairs = r :: l → Gives .repairFuseDone s (Dev.raise { s.dev with memory := { s.dev.memory with
        repairs := l, fuses := tset 0 s.dev.memory.fuses r.entry (fuseWord r.mac r.row r.spare) } } .repairDone))

/-- HEARTBEAT_MISSING marks the core halted or its heartbeat lost and raises CORE_HALTED. REFCLK_LOSS of a clock
already lost changes nothing; of one of two good clocks marks it lost, and where it was clock A the device moves
to clock B and REFCLK_FAIL is raised, where it was clock B the device is on clock A. The loss of the second,
with REFCLK_FAIL, and TIMEBASE_PLL_UNLOCK declare device fault 3: the outputs go to the fault's high impedance
with the drivers no longer awake, the loop is STOPPED with cause FAULT, the first fault declared stays shown,
and DEVICE_FAULT_DECLARED is raised. DEVICE_RESTART is INVALID for a value other than 1, CONFLICT while a
declared cause persists, otherwise OK: no fault is shown or declared, and outputs held by it are at high
impedance, a claim won or latched before forgotten, unless a thermal shutdown holds them. Which loss raises
REFCLK_FAIL, the clock in use, and later faults kept beside the first, are the model's choice (log entries 87,
126). (R11, R92, R344, R396, R397) -/
def Obligations.FaultsAndClocks : Prop :=
  ∀ (v : BitVec 8) (b : Bool) (s : State),
    Gives (.heartbeatMissing b) s (Dev.raise { s.dev with tow := { s.dev.tow with
        coreHalted := s.dev.tow.coreHalted || b, heartbeatLost := s.dev.tow.heartbeatLost || !b } } .coreHalted)
    ∧ (s.dev.ev.refA = false → Gives (.refclkLoss false) s s.dev)
    ∧ (s.dev.ev.refB = false → Gives (.refclkLoss true) s s.dev)
    ∧ (s.dev.ev.refA = true → s.dev.ev.refB = true →
      Gives (.refclkLoss false) s (Dev.raise { s.dev with ev := { s.dev.ev with refA := false, onRefB := true } } .refclkFail)
      ∧ Gives (.refclkLoss true) s { s.dev with ev := { s.dev.ev with refB := false, onRefB := false } })
    ∧ (∀ fault : Dev → Dev, fault = (fun x => Dev.raise { x with
          arr := { x.arr with outputState := .highZFault }
          tow := { x.tow with driversAwake := false }
          loop := { x.loop with state := .stopped, stopCause := 3, due := none }
          ev := { x.ev with
            deviceFault := if x.ev.deviceFault = 0 then 3 else x.ev.deviceFault
            declared := if 3 ∈ x.ev.declared then x.ev.declared else x.ev.declared ++ [3] } } .deviceFaultDeclared [3]) →
      (s.dev.ev.refA = true → s.dev.ev.refB = false → Gives (.refclkLoss false) s
        (fault (Dev.raise { s.dev with ev := { s.dev.ev with refA := false, onRefB := false } } .refclkFail)))
      ∧ (s.dev.ev.refA = false → s.dev.ev.refB = true → Gives (.refclkLoss true) s
        (fault (Dev.raise { s.dev with ev := { s.dev.ev with refB := false } } .refclkFail)))
      ∧ Gives .timebasePllUnlock s (fault { s.dev with ev := { s.dev.ev with pllLocked := false } }))
    ∧ (v ≠ 1 → Refuses (.deviceRestart v) s .invalid)
    ∧ (s.dev.causePersists = true → Refuses (.deviceRestart 1) s .conflict)
    ∧ (s.dev.causePersists = false → ∀ x, x = { s.dev with ev := { s.dev.ev with deviceFault := 0, declared := [] } } →
      (s.dev.arr.outputState = .highZFault → s.dev.therm.state ≠ 3 → Answers (.deviceRestart 1) s .ok { x with
        arr := { s.dev.arr with outputState := .highZ }
        tow := { s.dev.tow with won := false, latched := s.dev.tow.latched.map (fun _ => false) } })
      ∧ (s.dev.arr.outputState ≠ .highZFault ∨ s.dev.therm.state = 3 → Answers (.deviceRestart 1) s .ok x))
    ∧ (s.dev.causePersists = true ↔
      (3 ∈ s.dev.ev.declared ∧ ((s.dev.ev.refA = false ∧ s.dev.ev.refB = false) ∨ s.dev.ev.pllLocked = false))
        ∨ (4 ∈ s.dev.ev.declared ∧ s.dev.therm.railState ≠ []))

/-- EVENT_SUMMARY posts, for each code suppressed in the runs that ended, one SUMMARY record with its count, in
their order, and none wait after it. EVENT_SEND sends all the records that wait to EVENT_DEST in frames of 30
and a last one of the rest, in their order, and none wait after it; with no EVENT_DEST it only drops them.
FAULT_LOG_COPY copies the records that wait to the log in external flash, each at the next of its 4,096 places,
where it stands unless 4,096 later ones follow it, every other place reading as before, and none wait after it.
EVENT_READ_INDEX beyond the write index is INVALID, otherwise OK and taken. FAULT_LOG_CLEAR and FAULT_ACK take 1
only: the log is empty; no FATAL event is unacknowledged. That the places go on counting after a clear is the
model's choice (log entry 88). (R400, R401, R402, R403, R405) -/
def Obligations.EventService : Prop :=
  ∀ (v : BitVec 8) (w : BitVec 16) (s : State),
    (s.dev.ev.ended = [] → Gives .eventSummary s s.dev)
    ∧ (∀ e n l d, s.dev.ev.ended = (e, n) :: l →
        (Gives .eventSummary s d ↔ Gives .eventSummary
          { s with dev := { Dev.post s.dev e [n] true with ev := { (Dev.post s.dev e [n] true).ev with ended := l } } } d))
    ∧ Completes .eventSummary s (fun d =>
        d.ev.ended = [] ∧ d.ev.posted = s.dev.ev.posted + BitVec.ofNat _ s.dev.ev.ended.length
          ∧ d.ev.counts = s.dev.ev.counts
          ∧ (s.dev.cfg.ev.dest ≠ 0 → (d.ev.toSend.drop s.dev.ev.toSend.length).map (fun r => (r.ev, r.args, r.summary))
              = s.dev.ev.ended.map (fun e => (e.1, [e.2], true))
            ∧ d.ev.toSend.take s.dev.ev.toSend.length = s.dev.ev.toSend)
          ∧ d = { s.dev with ev := d.ev })
    ∧ (s.dev.cfg.ev.dest = 0 → Gives .eventSend s { s.dev with ev := { s.dev.ev with toSend := [] } })
    ∧ (s.dev.cfg.ev.dest ≠ 0 → s.dev.ev.toSend = [] → Gives .eventSend s s.dev)
    ∧ (∀ send : List EventRec → Dev → Dev, send = (fun l d => d.originate 3 12 s.dev.cfg.ev.dest.toNat none false
          ([1] ++ be 1 l.length ++ [0, 0] ++ l.flatMap EventRec.bytes)) →
      s.dev.cfg.ev.dest ≠ 0 → s.dev.ev.toSend ≠ [] →
      Gives .eventSend s (each (List.range ((s.dev.ev.toSend.length + 29) / 30))
        (fun i d => send ((s.dev.ev.toSend.drop (30 * i)).take 30) d) { s.dev with ev := { s.dev.ev with toSend := [] } }))
    ∧ Completes .eventSend s (fun d => d.ev.toSend = [])
    ∧ Completes .faultLogCopy s (fun d =>
        d.ev = { s.dev.ev with toLog := [] }
          ∧ d.boot.flash.logIndex = s.dev.boot.flash.logIndex + BitVec.ofNat 32 s.dev.ev.toLog.length
          ∧ d.boot.flash = s.dev.ev.toLog.foldl (fun f r => f.logOne r) s.dev.boot.flash
          ∧ (∀ i r, s.dev.ev.toLog[i]? = some r → s.dev.ev.toLog.length ≤ i + 4096 →
            tget [] d.boot.flash.log ((s.dev.boot.flash.logIndex.toNat + i) % 4096) = r.bytes)
          ∧ (∀ p, p < 4096 → (∀ i, i < s.dev.ev.toLog.length → (s.dev.boot.flash.logIndex.toNat + i) % 4096 ≠ p) →
            tget [] d.boot.flash.log p = tget [] s.dev.boot.flash.log p)
          ∧ d = { s.dev with ev := d.ev, boot := { s.dev.boot with flash := { s.dev.boot.flash with
              log := d.boot.flash.log, logIndex := d.boot.flash.logIndex } } })
    ∧ (∀ (f : Flash) (r : EventRec), f.logOne r = { f with
        log := tins f.log (f.logIndex.toNat % 4096) r.bytes, logIndex := f.logIndex + 1 })
    ∧ ((s.dev.ev.writeIndex - s.dev.cfg.ev.readIndex).toNat < (w - s.dev.cfg.ev.readIndex).toNat →
      Refuses (.eventReadIndexWrite w) s .invalid)
    ∧ ((w - s.dev.cfg.ev.readIndex).toNat ≤ (s.dev.ev.writeIndex - s.dev.cfg.ev.readIndex).toNat →
      Answers (.eventReadIndexWrite w) s .ok
        { s.dev with cfg := { s.dev.cfg with ev := { s.dev.cfg.ev with readIndex := w } } })
    ∧ (v ≠ 1 → Refuses (.faultLogClear v) s .invalid ∧ Refuses (.faultAck v) s .invalid)
    ∧ Answers (.faultLogClear 1) s .ok
        { s.dev with boot := { s.dev.boot with flash := { s.dev.boot.flash with log := [] } } }
    ∧ Answers (.faultAck 1) s .ok { s.dev with ev := { s.dev.ev with unacked := 0 } }

/-- A DIE_SENSOR_SAMPLE in which no sensor is or becomes broken is recorded as every sensor's temperature, its
highest reading as the maximum and in the peak; the level follows the table of R409 from the level before and
the maximum, with the events of the levels passed on the way up or of the level entered on the way down,
THROTTLE entries counted and the sampling rate set for the next sample. Where it enters SHUTDOWN the outputs are
held, the loop is STOPPED with cause THERMAL, the readout OFF with its conversions dropped, the decoder idle
without labels and both pumps OFF; otherwise nothing else changes. An implausible reading breaks its sensor and
brings the level to THROTTLE at least. THERMAL_RESTART takes 1 only, is CONFLICT outside SHUTDOWN or with a
plausible sensor at 100.00 C or above, otherwise OK: pumps STARTING, the readout due to leave OFF at the next
tick, the level as the readings give it but never above THROTTLE, with its event, and held outputs at high
impedance, a claim won or latched before forgotten, unless a device fault holds them. A rail out of range or
faulty is shown, once, with its event, a fault declaring device fault 4; RAIL_RECOVERED shows it good. A pump in
use fails into FAULT with its event, restarts from FAULT into STARTING, and regulates from STARTING; in other
states nothing changes. The level after a restart between two levels, the order in which sensors are judged, and
a pump that restarts again are the model's choice (log entries 89, 90). (R92, R396, R406, R408, R409, R411,
R412, R415, R418) -/
def Obligations.ThermalAndSupply : Prop :=
  ∀ (v : BitVec 8) (l : List Int) (top : Int) (r : Fin 6) (p : Fin 2) (s : State),
    (l.length = 16 → top ∈ l → (∀ y ∈ l, y ≤ top) → s.dev.therm.sensorState = [] →
      (∀ i, i < 16 → Thermal.breaks
        { s.dev.therm with history := (l.map some :: s.dev.therm.history).take 1024 } (l.map some) i = none) →
      ∀ n, n = stateFrom s.dev.therm.state top false false → Completes (.dieSensorSample (l.map some)) s (fun d =>
        ∃ x : Dev, (∀ i, i < 16 → tget 0 x.therm.dieTemp i = l.getD i 0)
          ∧ x = Dev.levelEvents { s.dev with therm := { s.dev.therm with
              history := (l.map some :: s.dev.therm.history).take 1024, dieTemp := x.therm.dieTemp
              dieTempMax := top, peak := max s.dev.therm.peak top, state := n
              fast := s.dev.therm.fastNext
              fastNext := if 10000 ≤ top then true else if top < 9500 then false else s.dev.therm.fastNext
              throttleCount := if s.dev.therm.state < 2 ∧ 2 ≤ n then s.dev.therm.throttleCount + 1
                else s.dev.therm.throttleCount } } s.dev.therm.state n
          ∧ (s.dev.therm.state = 3 ∨ n ≠ 3 → d = x)
          ∧ (s.dev.therm.state ≠ 3 → n = 3 → d = { x with
              arr := { x.arr with outputState := .highZFault }, tow := { x.tow with driversAwake := false }
              loop := { x.loop with state := .stopped, stopCause := 1, due := none }
              rd := { x.rd with state := .off, leftOff := true, restartDue := false, conversions := [] }
              dec := { x.dec with state := .idle, chans := [] }
              therm := { x.therm with pumpH := 0, pumpL := 0 } })))
    ∧ (∀ old t, stateFrom old t false false = (if old = 3 ∨ 12500 ≤ t then 3
        else if 11000 ≤ t ∨ (old = 2 ∧ 10500 ≤ t) then 2
        else if 10000 ≤ t ∨ (1 ≤ old ∧ 9500 ≤ t) then 1 else 0))
    ∧ (∀ i sample, i < 16 → tget 0 s.dev.therm.sensorState i = 0 → plausible (reading sample i) = false →
      Completes (.dieSensorSample sample) s (fun d =>
        tget 0 d.therm.sensorState i = 1 ∧ 2 ≤ d.therm.state ∧ d.cfg = s.dev.cfg ∧ d.sram = s.dev.sram))
    ∧ (v ≠ 1 → Refuses (.thermalRestart v) s .invalid)
    ∧ (s.dev.therm.state ≠ 3 ∨ s.dev.stillHot = true → Refuses (.thermalRestart 1) s .conflict)
    ∧ (s.dev.therm.state = 3 → s.dev.stillHot = false → ∀ n,
      n = (if s.dev.therm.sensorState ≠ [] ∨ 11000 ≤ s.dev.therm.dieTempMax then 2
        else if 10000 ≤ s.dev.therm.dieTempMax then 1 else 0) →
      ∀ x, x = { s.dev with
        therm := { s.dev.therm with
          state := n, pumpH := 1, pumpL := 1
          throttleCount := if n = 2 then s.dev.therm.throttleCount + 1 else s.dev.therm.throttleCount }
        rd := { s.dev.rd with restartDue := true } } →
      (s.dev.arr.outputState = .highZFault → s.dev.ev.deviceFault = 0 →
        Answers (.thermalRestart 1) s .ok (Dev.raise { x with
          arr := { s.dev.arr with outputState := .highZ }
          tow := { s.dev.tow with won := false, latched := s.dev.tow.latched.map (fun _ => false) } } (levelEvent n)))
      ∧ (s.dev.arr.outputState ≠ .highZFault ∨ s.dev.ev.deviceFault ≠ 0 →
        Answers (.thermalRestart 1) s .ok (x.raise (levelEvent n))))
    ∧ (s.dev.railState r = 0 → Gives (.railOutOfRange r) s (Dev.raise { s.dev with therm := { s.dev.therm with
        railState := tset 0 s.dev.therm.railState r 1 } } .railOutOfRange [(r : Nat)]))
    ∧ (s.dev.railState r ≠ 0 → Gives (.railOutOfRange r) s s.dev)
    ∧ (s.dev.railState r = 2 → Gives (.railFault r) s s.dev)
    ∧ (s.dev.railState r ≠ 2 → Gives (.railFault r) s (Dev.raise (Dev.raise { s.dev with
        arr := { s.dev.arr with outputState := .highZFault }
        tow := { s.dev.tow with driversAwake := false }
        loop := { s.dev.loop with state := .stopped, stopCause := 3, due := none }
        therm := { s.dev.therm with railState := tset 0 s.dev.therm.railState r 2 }
        ev := { s.dev.ev with
          deviceFault := if s.dev.ev.deviceFault = 0 then 4 else s.dev.ev.deviceFault
          declared := if 4 ∈ s.dev.ev.declared then s.dev.ev.declared else s.dev.ev.declared ++ [4] } }
        .deviceFaultDeclared [4]) .railFault [(r : Nat)]))
    ∧ Gives (.railRecovered r) s { s.dev with therm := { s.dev.therm with railState := tset 0 s.dev.therm.railState r 0 } }
    ∧ (s.dev.pump p = 1 ∨ s.dev.pump p = 2 → Gives (.pumpFault p) s ((s.dev.setPump p 3).raise .pumpFault [(p : Nat)]))
    ∧ (s.dev.pump p = 0 ∨ s.dev.pump p = 3 → Gives (.pumpFault p) s s.dev)
    ∧ (s.dev.pump p = 3 → Gives (.pumpRestart p) s (s.dev.setPump p 1))
    ∧ (s.dev.pump p ≠ 3 → Gives (.pumpRestart p) s s.dev)
    ∧ (s.dev.pump p = 1 → Gives (.pumpRegulating p) s (s.dev.setPump p 2))
    ∧ (s.dev.pump p ≠ 1 → Gives (.pumpRegulating p) s s.dev)
    ∧ (∀ (q : Fin 2) (n : Nat), (s.dev.setPump p n).pump q = (if q = p then n else s.dev.pump q)
        ∧ s.dev.setPump p n = { s.dev with therm := { s.dev.therm with
            pumpH := (s.dev.setPump p n).therm.pumpH, pumpL := (s.dev.setPump p n).therm.pumpL } })

/-- RESET_ASSERT leaves the device as a reset leaves it, but for external flash, fuses, owner slots, security
version, revision, the test access port and the owner counter of the flash, and holds it. RESET_RELEASE of a
held device with no rail short of its range before one that follows it samples the straps, counts the boot,
clears memory, starts both pumps and lets the boot ROM run; otherwise it changes nothing. BOOT goes to recovery
where the flash has no readable table or strap 9 is set; otherwise it loads the preferred slot where its check
passes, else the other where that one's does, noting the slot passed over and why, else goes to recovery; it
reads the flash by quad fast reads where strap 8 is set and the flash offers them. A slot passes when its
format, size, signatures and security version do. FIRMWARE_START of a loaded device posts FIRMWARE_SLOT_BAD for
a slot passed over; of revision 0x00A1 it runs the firmware, brings every enabled lane DOWN, writes TOWER_DUTY 0
unless the unit is ACTIVE, and begins the start mode: CALIBRATION by strap 10 or START_MODE, or for want of a
saved copy, else SAVED; of another revision it stops with UNSUPPORTED_REVISION. In other phases BOOT and
FIRMWARE_START change nothing. What a reset keeps (log entry 44), and where the owner's counter stands and which
event comes first (log entries 41, 114) are the model's choices. (R8, R372, R402, R416, R423, R424, R425, R427,
R428, R429, R433) -/
def Obligations.ResetAndBoot : Prop :=
  ∀ (straps : BitVec 16) (s : State),
    Gives .resetAssert s { ({} : Dev) with
        free := s.dev.free
        boot := { ({} : Dev).boot with
          revision := s.dev.boot.revision, flash := s.dev.boot.flash, ownerSlots := s.dev.boot.ownerSlots
          securityVersion := s.dev.boot.securityVersion, scan := s.dev.boot.scan }
        memory := { ({} : Dev).memory with fuses := s.dev.memory.fuses }
        req := { ({} : Dev).req with ownerCounter := s.dev.boot.flash.ownerCounters.getLastD 0 } }
    ∧ ({} : Dev).boot.phase = .held
    ∧ (s.dev.boot.phase ≠ .held ∨ (∃ i j, i < j ∧ j < 6 ∧ s.dev.railState i ≠ 0 ∧ s.dev.railState j = 0) →
      Gives (.resetRelease straps) s s.dev)
    ∧ (s.dev.boot.phase = .held → (∀ i j, i < j → j < 6 → s.dev.railState j = 0 → s.dev.railState i = 0) → Gives (.resetRelease straps) s { s.dev with
        boot := { s.dev.boot with
          phase := .rom, straps := straps &&& 0x07FF, flash := { s.dev.boot.flash with bootCount := s.dev.boot.flash.bootCount + 1 } }
        ev := { s.dev.ev with bootCount := s.dev.boot.flash.bootCount + 1 }
        sram := {}, therm := { s.dev.therm with pumpH := 1, pumpL := 1 } })
    ∧ (s.dev.boot.phase ≠ .rom → Gives .boot s s.dev)
    ∧ (s.dev.boot.phase = .rom → s.dev.boot.flash.sfdp = false ∨ bit s.dev.boot.straps.toNat 9 = true →
      Gives .boot s { s.dev with boot := { s.dev.boot with phase := .recovery } })
    ∧ (s.dev.boot.phase = .rom → s.dev.boot.flash.sfdp = true → bit s.dev.boot.straps.toNat 9 = false →
      ∀ (p : Nat) (load : Nat → Option (Nat × Nat) → Dev), p = (if s.dev.boot.flash.bootRecord = 1 then 1 else 0) →
        load = (fun k passed => { s.dev with snap := { s.dev.snap with boot := { s.dev.snap.boot with bootSlot := k } }, boot := { s.dev.boot with
          phase := .loaded, quadRead := bit s.dev.boot.straps.toNat 8 && s.dev.boot.flash.quad, bootSlot := k, target := 1 - k
          imageDigest := (imageOf (s.dev.boot.flash.slot k)).digest
          imageVersion := BitVec.ofNat 32 (imageOf (s.dev.boot.flash.slot k)).version
          imageSecurity := (imageOf (s.dev.boot.flash.slot k)).security, passedOver := passed } }) →
        (s.dev.slotCheck p = 1 → Gives .boot s (load p none))
        ∧ (s.dev.slotCheck p ≠ 1 → s.dev.slotCheck (1 - p) = 1 → Gives .boot s (load (1 - p) (some (p, s.dev.slotCheck p))))
        ∧ (s.dev.slotCheck p ≠ 1 → s.dev.slotCheck (1 - p) ≠ 1 →
          Gives .boot s { s.dev with boot := { s.dev.boot with phase := .recovery } }))
    ∧ (∀ k x, x = imageOf (s.dev.boot.flash.slot k) → (s.dev.slotCheck k = 1 ↔
        x.header ≠ List.replicate 256 0xFF ∧ x.format = 0x0301 ∧ field x.header 12 4 ≤ 1048576
          ∧ ecdsaVerify Config.vendorKey x.digest x.vendorSig = true
          ∧ (s.dev.boot.ownerSlots = [] ∨ ∃ h, s.dev.boot.ownerSlots.getLast? = some h ∧ sha384 s.dev.boot.flash.ownerKey = h
            ∧ ecdsaVerify s.dev.boot.flash.ownerKey x.digest x.ownerSig = true)
          ∧ s.dev.boot.securityVersion ≤ x.security))
    ∧ (s.dev.boot.phase ≠ .loaded → Gives .firmwareStart s s.dev)
    ∧ (∀ report : Dev → Dev, report = (fun x => match s.dev.boot.passedOver with
          | some (k, c) => x.raise .firmwareSlotBad [k, c]
          | none => x) →
      (s.dev.boot.phase = .loaded → s.dev.boot.revision ≠ 0x00A1 → Gives .firmwareStart s
        (Dev.raise (report { s.dev with boot := { s.dev.boot with phase := .stopped } })
          .unsupportedRevision [s.dev.boot.revision.toNat]))
      ∧ (s.dev.boot.phase = .loaded → s.dev.boot.revision = 0x00A1 → Completes .firmwareStart s (fun d =>
        d.cfg.tow.duty = (if s.dev.tow.role = 0 then s.dev.cfg.tow.duty else 0)
          ∧ d.tow.dutyState = (if s.dev.tow.role = 0 ∨ s.dev.tow.dutyState = .stopped then s.dev.tow.dutyState else .stopping)
          ∧ (bit s.dev.boot.straps.toNat 10 = true → d.boot.startMode = 1 ∧ d.boot.startWhy = 2 ∧ d.boot.savedDuty = none)
          ∧ (bit s.dev.boot.straps.toNat 10 = false → s.dev.boot.flash.startMode = 1 →
            d.boot.startMode = 1 ∧ d.boot.startWhy = 0 ∧ d.boot.savedDuty = none)
          ∧ (bit s.dev.boot.straps.toNat 10 = false → s.dev.boot.flash.startMode = 0 →
            (s.dev.boot.flash.newest = none → d.boot.startMode = 1 ∧ d.boot.startWhy = 1 ∧ d.boot.savedDuty = none)
            ∧ (∀ a, s.dev.boot.flash.newest = some a →
              d.boot.startMode = 0 ∧ d.boot.startWhy = 0 ∧ d.boot.savedDuty = some a.cfg.tow.duty))
          ∧ (∀ l, l < 96 → d.lane l = (if s.dev.laneEnabled l = true then { s.dev.lane l with state := .down } else s.dev.lane l))
          ∧ d.ev = (report s.dev).ev
          ∧ d = { s.dev with
            boot := { s.dev.boot with
              phase := .firmware, startDone := false, startMode := d.boot.startMode, startWhy := d.boot.startWhy
              savedDuty := d.boot.savedDuty }
            ev := d.ev, net := { s.dev.net with lanes := d.net.lanes }
            cfg := { s.dev.cfg with tow := { s.dev.cfg.tow with duty := d.cfg.tow.duty } }
            tow := { s.dev.tow with dutyState := d.tow.dutyState } })))

/-- START_COMPLETE of running firmware whose start is not done leaves the start done and the loop STOPPED with cause
RESET; with no state to restore it changes nothing else. With a saved copy it stages and applies the saved map.
Where the map is taken, every setting reads as saved but TOWER_DUTY, IDLE_CODE fills the last codes, triggers
and staged rights stand as saved, records, tables and both banks hold what was saved and the rest of the banks
0, COMMITTED_GENERATION is the saved one, lanes are DOWN or DISABLED as enabled, column groups, rotation,
decoder and Scrubber take their settings as a write would give them, and nothing else changes. Where it is not
taken nothing is restored and CALIBRATION is reported for the map's failure. In another phase or with the start
done it changes nothing. SAVED_DUTY_RESTORE with the start done, the clock LOCKED, at a tick, restores a saved
duty of 1 as TOWER_DUTY_ENABLE would, and forgets one of 0; otherwise, or without a saved duty, it changes
nothing. SAVED_STATE_WRITE with the start done and no copy being written puts the settings into the copy that is
not the newest, its sequence the newest's plus 1, or 1: at the next tick it is whole and the newest; until then
the newest stands. DEVICE_RESET takes 1 only, is CONFLICT on the ACTIVE unit, otherwise OK: the device is as
RESET_N low and then high with the same straps leave it. How the rest is restored and when a copy is whole (log
entry 40), what a refused map leaves (log entry 41) and the straps of DEVICE_RESET (log entry 44) are the
model's choices. (R431, R432, R433) -/
def Obligations.StartAndSavedState : Prop :=
  ∀ (v : BitVec 8) (s : State),
    (s.dev.boot.phase ≠ .firmware ∨ s.dev.boot.startDone = true → Gives .startComplete s s.dev)
    ∧ (∀ done : Dev → Dev, done = (fun x => { x with
          loop := { x.loop with state := .stopped, stopCause := 4, due := none }, boot := { x.boot with startDone := true } }) →
      s.dev.boot.phase = .firmware → s.dev.boot.startDone = false →
      (s.dev.boot.startMode ≠ 0 ∨ s.dev.boot.flash.newest = none → Gives .startComplete s (done s.dev))
      ∧ (∀ a r x, s.dev.boot.startMode = 0 → s.dev.boot.flash.newest = some a → s.dev.restoreMap a.fabric = (r, x) →
        (r = .ok → Completes .startComplete s (fun d =>
          d.cfg = { a.cfg with
            tow := { a.cfg.tow with duty := x.cfg.tow.duty }
            drv := { a.cfg.drv with groupControl := d.cfg.drv.groupControl } }
          ∧ ((a.cfg.drv.groupControl.map Prod.fst).Nodup →
            ∀ g, tget 1 d.cfg.drv.groupControl g = tget 1 a.cfg.drv.groupControl g)
          ∧ d.drv = { x.drv with lastCode := [], lastFill := a.cfg.drv.idleCode, groupDue := d.drv.groupDue }
          ∧ d.time = { x.time with triggers := a.triggers.map (fun (p : Nat × Trigger) => (p.1, { p.2 with state := .empty })) }
          ∧ d.req = { x.req with staged := a.rights, rightsPending := true }
          ∧ d.circ = { x.circ with written := some [], gen := a.gen, committedGen := a.gen, digestDue := true }
          ∧ d.loop = { x.loop with state := .stopped, stopCause := 4, due := none }
          ∧ ((∀ m ∈ x.sram.merge, m.word < 0x200000) →
            (∀ p ∈ a.records, p.1 < 32768 ∧ p.2.length = 8 ∧ ∀ w ∈ p.2, w < 2 ^ 64) → (a.records.map Prod.fst).Nodup →
            (∀ c ∈ a.tables, savedByte c.1 = true) → (a.tables.map Prod.fst).Nodup →
            (∀ c ∈ a.bank, c.1 < 0x48000) → (a.bank.map Prod.fst).Nodup →
            (∀ p ∈ a.records, ∀ k, k < 8 → d.sram.word (64 * p.1 + 8 * k) = p.2.getD k 0)
            ∧ (∀ c ∈ a.tables, d.sram.byte c.1 = c.2)
            ∧ (∀ c ∈ a.bank, d.sram.byte (bankAddr x.curBank + c.1) = c.2)
            ∧ (∀ n, 0xA00000 ≤ n → (∀ c ∈ a.bank, bankAddr x.curBank + c.1 ≠ n) → d.sram.byte n = 0)
            ∧ (∀ n, n < 0xA00000 → (∀ p ∈ a.records, n < 64 * p.1 ∨ 64 * (p.1 + 1) ≤ n) → (∀ c ∈ a.tables, c.1 ≠ n) →
              d.sram.byte n = x.sram.byte n))
          ∧ (∀ l, l < 96 → d.lane l = { x.lane l with
              state := if tget true a.cfg.net.laneEnable l = true then .down else .disabled })
          ∧ d = { x with
              cfg := d.cfg, drv := d.drv, time := d.time, req := d.req, circ := d.circ, loop := d.loop
              sram := d.sram, memory := d.memory, net := { x.net with lanes := d.net.lanes }
              dec := { x.dec with state := d.dec.state, due := d.dec.due }
              cal := { x.cal with rotState := d.cal.rotState }, boot := { x.boot with startDone := true } }))
        ∧ (r ≠ .ok → Gives .startComplete s (done { x with boot := { x.boot with
            startMode := 1, startWhy := 3, savedDuty := none } })))
      ∧ (∀ a r x, s.dev.boot.startMode = 0 → s.dev.boot.flash.newest = some a → s.dev.restoreMap a.fabric = (r, x) →
        a.fabric = [] → r = .ok ∧ x = s.dev))
    ∧ (s.dev.boot.savedDuty = none ∨ s.dev.boot.startDone = false ∨ s.dev.time.state ≠ .locked ∨ s.dev.cyc.slot ≠ 0 →
      Gives .savedDutyRestore s s.dev)
    ∧ (∀ n, s.dev.boot.savedDuty = some n → s.dev.boot.startDone = true → s.dev.time.state = .locked → s.dev.cyc.slot = 0 →
      (n ≠ 1 → Gives .savedDutyRestore s { s.dev with boot := { s.dev.boot with savedDuty := none } })
      ∧ (n = 1 → ∀ x, x = (if s.dev.tow.dutyState = .stopped ∨ s.dev.tow.dutyState = .running then RunState.running
          else .restartPending) →
        Gives .savedDutyRestore s { s.dev with
            tow := { s.dev.tow with
              dutyState := x, dutyWindow := if x = .running then false else s.dev.tow.dutyWindow }
            cfg := { s.dev.cfg with tow := { s.dev.cfg.tow with duty := 1 } }
            boot := { s.dev.boot with savedDuty := none } }))
    ∧ (s.dev.boot.phase ≠ .firmware ∨ s.dev.boot.startDone = false ∨ s.dev.boot.saving ≠ none →
      Gives .savedStateWrite s s.dev)
    ∧ (s.dev.boot.phase = .firmware → s.dev.boot.startDone = true → s.dev.boot.saving = none →
      ∀ k q b, k = (match s.dev.boot.flash.newest with | some _ => 1 - s.dev.boot.flash.newestCopy | none => 0) →
        q = (match s.dev.boot.flash.newest with | some a => a.seq + 1 | none => 1) → b = s.dev.savedNow q →
        b.seq = q ∧ b.at_ = timeOf s.dev.now ∧ b.cfg = s.dev.cfg ∧ b.rights = s.dev.req.staged ∧ b.fabric = s.dev.fab.image
          ∧ b.gen = s.dev.circ.committedGen ∧ b.bankDigest = s.dev.circ.bankDigest ∧ b.triggers = s.dev.time.triggers
          ∧ (∀ c, c ∈ b.tables ↔ c ∈ s.dev.sram.cells ∧ savedByte c.1 = true)
          ∧ (∀ n v, (n, v) ∈ b.bank ↔ n < 0x48000 ∧ (bankAddr s.dev.curBank + n, v) ∈ s.dev.sram.cells)
          ∧ Completes .savedStateWrite s (fun d =>
            d = { s.dev with boot := { s.dev.boot with
                saving := some k
                flash := { s.dev.boot.flash with
                  copy0 := if k = 0 then some { b with whole := false } else s.dev.boot.flash.copy0
                  copy1 := if k = 0 then s.dev.boot.flash.copy1 else some { b with whole := false } } } }
            ∧ d.boot.flash.newest = s.dev.boot.flash.newest
            ∧ d.savedTick.boot.flash.newest = some { b with whole := true } ∧ d.savedTick.boot.saving = none))
    ∧ (v ≠ 1 → Refuses (.deviceReset v) s .invalid)
    ∧ (s.dev.tow.role = 0 → Refuses (.deviceReset 1) s .conflict)
    ∧ (s.dev.tow.role ≠ 0 → Replies (.deviceReset 1) s .ok (fun d =>
        (∃ x, Gives .resetAssert s x ∧ Gives (.resetRelease s.dev.boot.straps) { s with dev := x } d)
          ∧ d.boot.phase = .rom ∧ d.boot.flash = { s.dev.boot.flash with bootCount := s.dev.boot.flash.bootCount + 1 }
          ∧ d.boot.straps = s.dev.boot.straps &&& 0x07FF ∧ d.cfg = ({} : Dev).cfg ∧ d.cyc = ({} : Dev).cyc
          ∧ d.loop = ({} : Dev).loop ∧ d.sram = {} ∧ d.memory.fuses = s.dev.memory.fuses))

/-- FIRMWARE_BLOCK beyond block 1,024 is NOENT, of other than 1,024 bytes INVALID, otherwise OK and written in the
target slot. FIRMWARE_APPLY of 1 is INVALID where that slot's check fails and changes nothing; where it passes
it is OK and the boot record prefers that slot; outside recovery nothing else changes, in recovery the device
resets. SECURITY_VERSION_COMMIT is CONFLICT while GUARANTEE_STATE is not 0, otherwise OK: the fused version is
not below the running image's, as far as 64 fuses reach. OWNER_KEY_INSTALL of other than 97 bytes, or not
beginning with 04, is INVALID; with four keys held, or a slot it would shut out, CONFLICT; otherwise OK, the key
stands in flash with its slot's number and counter 0 and its digest among the owners'. ATTEST_NONCE of other
than 32 bytes is INVALID, of 32 answered OK: ATTEST_REPORT holds FORMAT, REVISION, SERIAL_NUMBER,
FIRMWARE_VERSION, SYSTEM_ID, ADDRESS, TOWER_ROLE, OWNER_SLOT or 0xFF, TIME, BOOT_COUNT, two bytes 0,
FIRMWARE_DIGEST, CONFIG_DIGEST, FABRIC_DIGEST, BANK_DIGEST and the nonce, in this order and big-endian, and
behind them the ECDSA P-384 signature by the identity key over the SHA-384 of those bytes. SAVED_STATE_ERASE of
1 erases both copies. Another value than 1 is INVALID for FIRMWARE_APPLY, SECURITY_VERSION_COMMIT and
SAVED_STATE_ERASE. The signature's ephemeral key and the identity key are free values (log entry 95); the order
of the refusals of OWNER_KEY_INSTALL (log entry 42) and what SAVED_STATE_ERASE leaves of a write under way (log
entry 40) are the model's choices. (R429, R430, R432, R436, R439, R441) -/
def Obligations.FirmwareAndKeys : Prop :=
  ∀ (j : BitVec 16) (l : List Byte) (v : BitVec 8) (s : State),
    (1024 < j.toNat → Refuses (.firmwareBlock j l) s .noent)
    ∧ (j.toNat ≤ 1024 → l.length ≠ 1024 → Refuses (.firmwareBlock j l) s .invalid)
    ∧ (j.toNat ≤ 1024 → l.length = 1024 → Replies (.firmwareBlock j l) s .ok (fun d =>
        d.boot.flash.slot s.dev.boot.target = tset erased (s.dev.boot.flash.slot s.dev.boot.target) j.toNat l
          ∧ (∀ k, k < 2 → (k = 0 ↔ s.dev.boot.target ≠ 0) → d.boot.flash.slot k = s.dev.boot.flash.slot k)
          ∧ d = { s.dev with boot := { s.dev.boot with flash := { s.dev.boot.flash with
              slot0 := d.boot.flash.slot0, slot1 := d.boot.flash.slot1 } } }))
    ∧ (v ≠ 1 → Refuses (.firmwareApply v) s .invalid ∧ Refuses (.securityVersionCommit v) s .invalid
        ∧ Refuses (.savedStateErase v) s .invalid)
    ∧ (s.dev.slotCheck s.dev.boot.target ≠ 1 → Refuses (.firmwareApply 1) s .invalid)
    ∧ (s.dev.slotCheck s.dev.boot.target = 1 →
      (s.dev.boot.phase ≠ .recovery → Answers (.firmwareApply 1) s .ok { s.dev with boot := { s.dev.boot with
          flash := { s.dev.boot.flash with bootRecord := BitVec.ofNat 8 s.dev.boot.target } } })
      ∧ (s.dev.boot.phase = .recovery → Replies (.firmwareApply 1) s .ok (fun d =>
        d.boot.phase = .rom ∧ d.boot.straps = s.dev.boot.straps &&& 0x07FF
          ∧ d.boot.flash = { s.dev.boot.flash with
              bootRecord := BitVec.ofNat 8 s.dev.boot.target, bootCount := s.dev.boot.flash.bootCount + 1 }
          ∧ d.cfg = ({} : Dev).cfg ∧ d.cyc = ({} : Dev).cyc ∧ d.loop = ({} : Dev).loop ∧ d.sram = {}
          ∧ d.memory.fuses = s.dev.memory.fuses)))
    ∧ (s.dev.ev.guarantee ≠ 0 → Refuses (.securityVersionCommit 1) s .conflict)
    ∧ (s.dev.ev.guarantee = 0 → Answers (.securityVersionCommit 1) s .ok { s.dev with boot := { s.dev.boot with
        securityVersion := max s.dev.boot.securityVersion (min 64 s.dev.boot.imageSecurity) } })
    ∧ Answers (.savedStateErase 1) s .ok { s.dev with boot := { s.dev.boot with
        flash := { s.dev.boot.flash with copy0 := none, copy1 := none }, saving := none } }
    ∧ (l.length ≠ 97 ∨ l.head? ≠ some 4 → Refuses (.ownerKeyInstall l) s .invalid)
    ∧ (l.length = 97 → l.head? = some 4 →
      (4 ≤ s.dev.boot.ownerSlots.length ∨ s.dev.slotShutOut l 0 = true ∨ s.dev.slotShutOut l 1 = true →
        Refuses (.ownerKeyInstall l) s .conflict)
      ∧ (s.dev.boot.ownerSlots.length < 4 → s.dev.slotShutOut l 0 = false → s.dev.slotShutOut l 1 = false →
        Answers (.ownerKeyInstall l) s .ok { s.dev with
          boot := { s.dev.boot with
            flash := { s.dev.boot.flash with ownerKey := l, ownerSlot := s.dev.boot.ownerSlots.length, ownerCounters := [] }
            ownerSlots := s.dev.boot.ownerSlots ++ [sha384 l] }
          req := { s.dev.req with ownerCounter := 0 } }))
    ∧ (∀ k x, x = imageOf (s.dev.boot.flash.slot k) → (s.dev.slotShutOut l k = true ↔
        x.format = 0x0301 ∧ field x.header 12 4 ≤ 1048576 ∧ ecdsaVerify l x.digest x.ownerSig = false))
    ∧ (l.length ≠ 32 → Refuses (.attestNonce l) s .invalid)
    ∧ (l.length = 32 → Replies (.attestNonce l) s .ok (fun d =>
        (∀ body, body = be 2 0x0320 ++ be 2 s.dev.boot.revision.toNat ++ (List.range 16).map Config.serialNumber
              ++ be 4 s.dev.boot.imageVersion.toNat ++ be 4 s.dev.cfg.req.systemId.toNat ++ be 2 s.dev.net.address
              ++ be 1 s.dev.tow.role ++ be 1 (s.dev.ownerSlot.getD 0xFF) ++ be 6 (timeOf s.dev.now).secs
              ++ be 4 (timeOf s.dev.now).nanos ++ be 4 s.dev.ev.bootCount.toNat ++ [0, 0] ++ fit 48 s.dev.boot.imageDigest
              ++ (match s.dev.boot.flash.newest with | some a => sha384 a.content | none => List.replicate 48 0)
              ++ s.dev.fabricDigest ++ fit 48 s.dev.circ.bankDigest ++ l →
            ∃ n, d.boot.attest = body ++ ecdsaSign Config.identitySecret n (sha384 body))
          ∧ d = { s.dev with free := d.free, boot := { s.dev.boot with attest := d.boot.attest } }))

/-- REJOIN takes 1 only; it is CONFLICT on the ACTIVE unit, with no mate address, or where the mate's fabric is
known to differ; otherwise OK: the rejoin is RUNNING with no try spent and no request sent. REJOIN_COMPLETE
while none runs changes nothing; a reading that failed makes it FAILED with the reading's code; one whose
generation changed meanwhile is tried again, and FAILED when three tries are spent. With one generation before
and after, both banks, current and next, hold the entries and targets read, and entries and targets of 0 for the
others; a cell is cross where the PHI_FF read of its switching element is the cell table's PHI_CROSS, and bar
where it is PHI_BAR or the cell has none; the generations are the mate's, the bank's digest is formed from its
entries, no byte below the banks changes, and the rejoin is DONE where the digest is the mate's, else FAILED
with BANK_MISMATCH. What a rejoin that failed without a refused read reads as its code is a free value (log
entry 4); that REJOIN_COMPLETE brings what was read and that an unknown FABRIC_DIGEST of the mate bars nothing
(log entry 43) are the model's choices. (R435, R441) -/
def Obligations.Rejoining : Prop :=
  ∀ (v : BitVec 8) (x : RejoinData) (s : State),
    (v ≠ 1 → Refuses (.rejoin v) s .invalid)
    ∧ (s.dev.tow.role = 0 ∨ s.dev.net.mateAddress = 0 ∨ (∃ f, s.dev.tow.mateFabric = some f ∧ f ≠ s.dev.fabricDigest) →
      Refuses (.rejoin 1) s .conflict)
    ∧ (s.dev.tow.role ≠ 0 → s.dev.net.mateAddress ≠ 0 → (∀ f, s.dev.tow.mateFabric = some f → f = s.dev.fabricDigest) →
      Answers (.rejoin 1) s .ok
        { s.dev with boot := { s.dev.boot with rejoinState := 1, rejoinCode := 0, rejoinTries := 0, rejoinSent := 0 } })
    ∧ (s.dev.boot.rejoinState ≠ 1 → Gives (.rejoinComplete x) s s.dev)
    ∧ (s.dev.boot.rejoinState = 1 →
      (x.status ≠ .ok → Gives (.rejoinComplete x) s
        { s.dev with boot := { s.dev.boot with rejoinState := 3, rejoinCode := respCode x.status } })
      ∧ (x.status = .ok → x.genBefore ≠ x.genAfter →
        (s.dev.boot.rejoinTries < 3 → Gives (.rejoinComplete x) s
          { s.dev with boot := { s.dev.boot with rejoinTries := s.dev.boot.rejoinTries + 1, rejoinSent := 0 } })
        ∧ (3 ≤ s.dev.boot.rejoinTries → Completes (.rejoinComplete x) s (fun d =>
          d = { s.dev with free := d.free, boot := { s.dev.boot with rejoinState := 3, rejoinCode := d.boot.rejoinCode } })))
      ∧ (x.status = .ok → x.genBefore = x.genAfter → Completes (.rejoinComplete x) s (fun d =>
        (∀ (next : Bool) k, k < 1024 →
            (∀ b, (k, b) ∈ x.entries → (∀ b', (k, b') ∈ x.entries → b' = b) → d.entryBytes next k = fit 16 b)
            ∧ ((∀ b, (k, b) ∉ x.entries) → d.entryBytes next k = List.replicate 16 0))
          ∧ (∀ (next : Bool) e, e < 32768 →
            (∀ w, (e, w) ∈ x.targets → (∀ w', (e, w') ∈ x.targets → w' = w) → d.bankWord next (targetOff e) = w.toNat)
            ∧ ((∀ w, (e, w) ∉ x.targets) → d.bankWord next (targetOff e) = 0))
          ∧ (∀ (next : Bool) c, c < s.dev.mapCells → c < 32768 →
            (∀ w, (c, w) ∈ x.targets → (∀ w', (c, w') ∈ x.targets → w' = w) → s.dev.phiCross c ≠ s.dev.phiBar c →
              (targetPhi w.toNat = s.dev.phiCross c → d.cell next c = true)
              ∧ (targetPhi w.toNat = s.dev.phiBar c → d.cell next c = false))
            ∧ ((∀ w, (c, w) ∉ x.targets) → d.cell next c = false))
          ∧ (∀ (next : Bool) c, s.dev.mapCells ≤ c → c < 32768 → d.cell next c = false)
          ∧ (∀ a, a < 0xA00000 → d.sram.byte a = s.dev.sram.byte a ∧ d.sram.poisoned a = s.dev.sram.poisoned a)
          ∧ d.circ.bankDigest = sha384 ((List.range 1024).flatMap (fun k => d.entryBytes false k))
          ∧ (∀ y, y = { s.dev with
              sram := d.sram, free := d.free, memory := { s.dev.memory with cleared := d.memory.cleared }
              circ := { s.dev.circ with
                written := some [], gen := x.genAfter, committedGen := x.genAfter, digestDue := false
                bankDigest := d.circ.bankDigest } } →
            (d.circ.bankDigest = x.bankDigest →
              d = { y with boot := { y.boot with rejoinState := 2, rejoinCode := 0 } })
            ∧ (d.circ.bankDigest ≠ x.bankDigest →
              d = Dev.raise { y with boot := { y.boot with rejoinState := 3, rejoinCode := d.boot.rejoinCode } }
                .bankMismatch)))))
end

