-- ==== Sys2Proof/Laws/Frame.lean ====
section
/-! SUPPORT. Projections of a conditional: what a frame proof needs to look through the branches of a meaning. -/

namespace Sys2Proof.Machine

theorem toLive_ite (c : Prop) [Decidable c] (a b : Dev) : (if c then a else b).toLive = if c then a.toLive else b.toLive :=
  apply_ite _ _ _ _

theorem snd_ite {α β : Type} (c : Prop) [Decidable c] (a b : α × β) : (if c then a else b).2 = if c then a.2 else b.2 :=
  apply_ite _ _ _ _

end Sys2Proof.Machine
end

