-- ==== Sys2Proof/Laws/Tables.lean ====
section
/-! SUPPORT. The laws of sparse tables: a write is read back and leaves every other key alone, and keeps the canonical form. -/

namespace Sys2Proof.Machine

variable {α : Type}

/-! ## Reading after writing -/

theorem tget_tins_same (d : α) (t : Tab α) (k : Nat) (v : α) : tget d (tins t k v) k = v := by
  induction t with
  | nil => simp [tins, tget]
  | cons e t ih =>
    obtain ⟨j, w⟩ := e
    simp only [tins]
    split
    · simp [tget]
    · split
      · simp [tget]
      · rename_i hjk
        simp [tget, hjk, ih]

theorem tget_tins_other (d : α) (t : Tab α) {j k : Nat} (v : α) (h : j ≠ k) : tget d (tins t k v) j = tget d t j := by
  induction t with
  | nil => simp [tins, tget, Ne.symm h]
  | cons e t ih =>
    obtain ⟨i, w⟩ := e
    simp only [tins]
    split
    · simp [tget, Ne.symm h]
    · split
      · rename_i hik
        subst hik
        simp [tget, Ne.symm h]
      · simp only [tget, ih]

theorem tget_tdel_same (d : α) (t : Tab α) (k : Nat) : tget d (tdel t k) k = d := by
  induction t with
  | nil => rfl
  | cons e t ih =>
    obtain ⟨j, w⟩ := e
    simp only [tdel]
    split
    · exact ih
    · rename_i h
      simp [tget, h, ih]

theorem tget_tdel_other (d : α) (t : Tab α) {j k : Nat} (h : j ≠ k) : tget d (tdel t k) j = tget d t j := by
  induction t with
  | nil => rfl
  | cons e t ih =>
    obtain ⟨i, w⟩ := e
    simp only [tdel]
    split
    · rename_i hik
      subst hik
      simp [tget, Ne.symm h, ih]
    · simp only [tget, ih]

/-- A table reads back what was written. -/
@[simp] theorem tget_tset_same [DecidableEq α] (d : α) (t : Tab α) (k : Nat) (v : α) : tget d (tset d t k v) k = v := by
  unfold tset
  split
  · rename_i h
    rw [tget_tdel_same, h]
  · exact tget_tins_same ..

/-- A write leaves every other key alone. -/
theorem tget_tset_other [DecidableEq α] (d : α) (t : Tab α) {j k : Nat} (v : α) (h : j ≠ k) :
    tget d (tset d t k v) j = tget d t j := by
  unfold tset
  split
  · exact tget_tdel_other _ _ h
  · exact tget_tins_other _ _ _ h

theorem tget_tset [DecidableEq α] (d : α) (t : Tab α) (j k : Nat) (v : α) :
    tget d (tset d t k v) j = if j = k then v else tget d t j := by
  split
  · rename_i h
    rw [h, tget_tset_same]
  · rename_i h
    exact tget_tset_other _ _ _ h

/-! ## The canonical form -/

/-- The canonical form as a fact about lists: keys rise strictly, and no entry holds d. -/
theorem tab_wf_iff [DecidableEq α] (d : α) (t : Tab α) :
    Tab.wf d t = true ↔ t.Pairwise (fun a b => a.1 < b.1) ∧ ∀ e ∈ t, e.2 ≠ d := by
  match t with
  | [] => simp [Tab.wf]
  | [(j, v)] => simp [Tab.wf]
  | (j, v) :: (k, w) :: t =>
    have ih := tab_wf_iff d ((k, w) :: t)
    simp only [Tab.wf, Bool.and_eq_true, decide_eq_true_eq, ih, List.pairwise_cons, List.mem_cons]
    constructor
    · rintro ⟨⟨hjk, hv⟩, ⟨hk, ht⟩, hd⟩
      refine ⟨⟨?_, hk, ht⟩, ?_⟩
      · rintro e (rfl | he)
        · exact hjk
        · exact lt_trans hjk (hk e he)
      · rintro e (rfl | he)
        · exact hv
        · exact hd e he
    · rintro ⟨⟨hj, hk, ht⟩, hd⟩
      exact ⟨⟨hj _ (Or.inl rfl), hd _ (Or.inl rfl)⟩, ⟨hk, ht⟩, fun e he => hd e (Or.inr he)⟩

theorem mem_tins {t : Tab α} {k : Nat} {v : α} {e : Nat × α} (h : e ∈ tins t k v) : e = (k, v) ∨ e ∈ t := by
  induction t with
  | nil => simpa [tins] using h
  | cons a t ih =>
    obtain ⟨j, w⟩ := a
    simp only [tins] at h
    split at h
    · simpa using h
    · split at h
      · rcases List.mem_cons.1 h with h | h
        · exact .inl h
        · exact .inr (List.mem_cons_of_mem _ h)
      · rcases List.mem_cons.1 h with h | h
        · exact .inr (h ▸ List.mem_cons_self ..)
        · exact (ih h).imp_right (List.mem_cons_of_mem _)

theorem tdel_sublist (t : Tab α) (k : Nat) : (tdel t k).Sublist t := by
  induction t with
  | nil => exact .slnil
  | cons a t ih =>
    simp only [tdel]
    split
    · exact .cons _ ih
    · exact .cons_cons _ ih

theorem tins_rising {t : Tab α} {k : Nat} {v : α} (h : t.Pairwise (fun a b => a.1 < b.1)) :
    (tins t k v).Pairwise (fun a b => a.1 < b.1) := by
  induction t with
  | nil => simp [tins]
  | cons a t ih =>
    obtain ⟨j, w⟩ := a
    obtain ⟨hj, ht⟩ := List.pairwise_cons.1 h
    simp only [tins]
    split
    · rename_i hk
      refine List.pairwise_cons.2 ⟨fun e he => ?_, h⟩
      rcases List.mem_cons.1 he with rfl | he
      · exact hk
      · exact lt_trans hk (hj e he)
    · split
      · rename_i hjk
        subst hjk
        exact List.pairwise_cons.2 ⟨hj, ht⟩
      · refine List.pairwise_cons.2 ⟨fun e he => ?_, ih ht⟩
        rcases mem_tins he with rfl | he
        · omega
        · exact hj e he

/-- A part of a canonical table, in its order, is canonical. -/
theorem wf_of_sublist [DecidableEq α] {d : α} {s t : Tab α} (hs : s.Sublist t) (h : Tab.wf d t = true) : Tab.wf d s = true := by
  rw [tab_wf_iff] at h ⊢
  exact ⟨h.1.sublist hs, fun e he => h.2 e (hs.subset he)⟩

theorem wf_filter [DecidableEq α] {d : α} {t : Tab α} (p : Nat × α → Bool) (h : Tab.wf d t = true) :
    Tab.wf d (t.filter p) = true := wf_of_sublist List.filter_sublist h

/-- A write keeps the canonical form. -/
theorem wf_tset [DecidableEq α] {d : α} {t : Tab α} (k : Nat) (v : α) (h : Tab.wf d t = true) :
    Tab.wf d (tset d t k v) = true := by
  unfold tset
  split
  · exact wf_of_sublist (tdel_sublist t k) h
  · rename_i hv
    rw [tab_wf_iff] at h ⊢
    refine ⟨tins_rising h.1, fun e he => ?_⟩
    rcases mem_tins he with rfl | he
    · exact hv
    · exact h.2 e he

end Sys2Proof.Machine
end

