-- ==== Sys2Proof/Laws/Memory.lean ====
section
/-! SUPPORT. Every operation over the SRAM keeps its canonical form and the bound of the merge buffer (R372, R375), and a
stored byte reads back (R376). -/

namespace Sys2Proof.Machine

theorem each_keeps {α β : Type} (p : β → Prop) (l : List α) (f : α → β → β) (b : β) (hf : ∀ a b, p b → p (f a b)) (h : p b) :
    p (each l f b) := by
  unfold each
  induction l generalizing b with
  | nil => exact h
  | cons a l ih => exact ih _ (hf a b h)

theorem sound_iff (m : Mem) : m.sound = true ↔
    Tab.wf 0 m.cells = true ∧ Tab.wf false m.poison = true ∧ Tab.wf false m.bytePoison = true ∧ m.merge.length ≤ 8 := by
  simp only [Mem.sound, Mem.wf, Bool.and_eq_true, decide_eq_true_eq, and_assoc]

theorem setCell_sound {m : Mem} (a : Nat) (b : Byte) (h : m.sound = true) : (m.setCell a b).sound = true := by
  rw [sound_iff] at h ⊢
  exact ⟨wf_tset _ _ h.1, h.2⟩

theorem setCells_sound {m : Mem} (a : Nat) (l : List Byte) (h : m.sound = true) : (m.setCells a l).sound = true := by
  induction l generalizing m a with
  | nil => exact h
  | cons b l ih => exact ih _ (setCell_sound _ _ h)

theorem mark_sound {m : Mem} (a : Nat) (b : Bool) (h : m.sound = true) : (m.mark a b).sound = true := by
  rw [sound_iff] at h ⊢
  exact ⟨h.1, wf_tset _ _ h.2.1, h.2.2⟩

theorem settle_sound {m : Mem} (a : Nat) (h : m.sound = true) : (m.settle a).sound = true := by
  rw [sound_iff] at h ⊢
  exact ⟨h.1, h.2.1, h.2.2.1, (List.length_filter_le ..).trans h.2.2.2⟩

theorem putBytes8_sound {m : Mem} (a : Nat) (l : List Byte) (h : m.sound = true) : (m.putBytes8 a l).sound = true := by
  have h' := mark_sound a false (setCells_sound a (fit 8 l) (settle_sound a h))
  unfold Mem.putBytes8
  split
  · rw [sound_iff] at h' ⊢
    exact h'
  · exact h'

theorem putWord_sound {m : Mem} (a w : Nat) (h : m.sound = true) : (m.putWord a w).sound = true := putBytes8_sound _ _ h

theorem putWords_sound {m : Mem} (a : Nat) (l : List Nat) (h : m.sound = true) : (m.putWords a l).sound = true := by
  induction l generalizing m a with
  | nil => exact h
  | cons w l ih => exact ih _ (putWord_sound _ _ h)

theorem putBlock_sound {m : Mem} (a n : Nat) (l : List Byte) (h : m.sound = true) : (m.putBlock a n l).sound = true := by
  induction n generalizing m a l with
  | zero => exact h
  | succ n ih => exact ih _ _ (putBytes8_sound _ _ h)

theorem copyWord_sound {m : Mem} (a w : Nat) (p : Bool) (h : m.sound = true) : (m.copyWord a w p).sound = true :=
  mark_sound _ _ (putWord_sound _ _ h)

theorem blank_sound {m : Mem} (p : Nat → Bool) (h : m.sound = true) : (m.blank p).sound = true := by
  rw [sound_iff] at h ⊢
  exact ⟨wf_filter _ h.1, wf_filter _ h.2.1, wf_filter _ h.2.2.1, (List.length_filter_le ..).trans h.2.2.2⟩

theorem retire_sound {m : Mem} (e : MergeEntry) (h : m.sound = true) : (m.retire e).sound = true := by
  have h1 : (each e.bytes (fun c m => m.setCell c.1 c.2) m).sound = true :=
    each_keeps (fun m : Mem => m.sound = true) _ _ _ (fun (c : Host.Cell) x hx => setCell_sound c.1 c.2 hx) h
  rw [sound_iff] at h h1 ⊢
  exact ⟨h1.1, h1.2.1, h1.2.2.1, (List.length_filter_le ..).trans h.2.2.2⟩

theorem makeRoom_sound {m : Mem} (h : m.sound = true) : m.makeRoom.sound = true := by
  unfold Mem.makeRoom
  split
  · split
    · exact h
    · exact retire_sound _ h
  · exact h

theorem makeRoom_room {m : Mem} (h : m.sound = true) : m.makeRoom.merge.length ≤ 7 := by
  unfold Mem.makeRoom
  split
  · rename_i e l he
    split
    · omega
    · rw [sound_iff, he] at h
      simp only [Mem.retire, he, List.filter_cons, ne_eq, not_true_eq_false, decide_false, Bool.false_eq_true, if_false]
      exact (List.length_filter_le ..).trans (Nat.le_of_lt_succ (by simpa [Nat.lt_succ_iff] using h.2.2.2))
  · rename_i he
    simp [he]

theorem narrow_sound {m : Mem} (l : List Host.Cell) (f : Finder) (host : Bool) (h : m.sound = true) :
    (m.narrow l f host).sound = true := by
  unfold Mem.narrow
  split
  · exact h
  · rename_i c _
    dsimp only
    have h1 : ∀ g, ({ m with writebacks := g } : Mem).sound = true := fun g => by rw [sound_iff] at h ⊢; exact h
    split
    · rw [sound_iff] at h ⊢
      exact ⟨h.1, h.2.1, h.2.2.1, by simpa using h.2.2.2⟩
    · have h2 := makeRoom_sound (h1 (m.writebacks.filter (fun e => e.1 ≠ wordOf c.1)))
      have h3 := makeRoom_room (h1 (m.writebacks.filter (fun e => e.1 ≠ wordOf c.1)))
      rw [sound_iff] at h2 ⊢
      exact ⟨h2.1, h2.2.1, h2.2.2.1, by rw [List.length_append]; exact Nat.succ_le_succ h3⟩

theorem putPart_sound {m : Mem} (a : Nat) (l : List Byte) (f : Finder) (host : Bool) (h : m.sound = true) :
    (m.putPart a l f host).sound = true := by
  unfold Mem.putPart
  split
  · exact putBytes8_sound _ _ h
  · exact narrow_sound _ _ _ h

theorem putField_sound {m : Mem} (a w : Nat) (f : Finder) (h : m.sound = true) : (m.putField a w f).sound = true :=
  narrow_sound _ _ _ h

theorem putFields_sound {m : Mem} (f : Finder) (a : Nat) (l : List Nat) (h : m.sound = true) : (m.putFields f a l).sound = true := by
  induction l generalizing m a with
  | nil => exact h
  | cons w l ih => exact ih _ (putField_sound _ _ _ h)

theorem putKept_sound {m : Mem} (a w : Nat) (h : m.sound = true) : (m.putKept a w).sound = true := by
  unfold Mem.putKept
  split
  · exact h
  · exact copyWord_sound _ _ _ h

theorem putKeptWords_sound {m : Mem} (a : Nat) (l : List Nat) (h : m.sound = true) : (m.putKeptWords a l).sound = true := by
  induction l generalizing m a with
  | nil => exact h
  | cons w l ih => exact ih _ (putKept_sound _ _ h)

theorem setStored_sound {m : Mem} (a w : Nat) (h : m.sound = true) : (m.setStored a w).sound = true := setCells_sound _ _ h

theorem dueWriteback_sound {m : Mem} (a syn : Nat) (h : m.sound = true) : (m.dueWriteback a syn).sound = true := by
  unfold Mem.dueWriteback
  split
  · exact h
  · rw [sound_iff] at h ⊢
    exact h

theorem clearWindow_sound {m : Mem} (h : m.sound = true) : m.clearWindow.sound = true := blank_sound _ h

theorem windowPut_sound {m : Mem} (a : Nat) (l : List Byte) (h : m.sound = true) : (m.windowPut a l).sound = true := by
  refine each_keeps (fun m : Mem => m.sound = true) _ _ _ (fun c x hx => ?_) h
  have h1 := setCell_sound c.1 c.2 hx
  rw [sound_iff] at hx h1 ⊢
  exact ⟨h1.1, h1.2.1, wf_tset c.1 false hx.2.2.1, h1.2.2.2⟩

theorem putChanged_sound {m : Mem} (a : Nat) (l : List Nat) (h : m.sound = true) : (m.putChanged a l).sound = true := by
  induction l generalizing m a with
  | nil => exact h
  | cons w l ih =>
    refine ih _ ?_
    split
    · exact h
    · exact putWord_sound _ _ h

theorem copyBank_sound {m : Mem} (src dst : Nat) (written : List Nat) (h : m.sound = true) :
    (m.copyBank src dst written).sound = true := by
  refine each_keeps (fun m : Mem => m.sound = true) _ _ _ (fun c x hx => mark_sound _ _ hx)
    (each_keeps (fun m : Mem => m.sound = true) _ _ _ (fun c x hx => setCell_sound _ _ hx) (blank_sound _ h))

/-- An operation that keeps the SRAM sound keeps it sound in the device. -/
theorem mem_sound {d : Dev} (f : Mem → Mem) (hf : d.sram.sound = true → (f d.sram).sound = true) (h : d.sram.sound = true) :
    (d.mem f).sram.sound = true := by
  have h1 := hf h
  rw [sound_iff] at h1 ⊢
  exact h1

/-! ## Read after write (R376) -/

theorem mergeEntry_settle (l : List MergeEntry) {a x : Nat} (h : x ≠ a) :
    mergeEntry (l.filter (fun e => e.word ≠ a)) x = mergeEntry l x := by
  induction l with
  | nil => rfl
  | cons e l ih =>
    rw [List.filter_cons]
    by_cases he : e.word = a
    · rw [if_neg (by simp [he]), ih, mergeEntry, if_neg (fun hx => h (hx.symm.trans he))]
    · rw [if_pos (by simp [he]), mergeEntry, mergeEntry, ih]

theorem mergeEntry_settle_same (l : List MergeEntry) (a : Nat) : mergeEntry (l.filter (fun e => e.word ≠ a)) a = none := by
  induction l with
  | nil => rfl
  | cons e l ih =>
    by_cases he : e.word = a
    · simpa [List.filter_cons, he] using ih
    · simpa [List.filter_cons, he, mergeEntry] using ih

theorem setCells_merge (m : Mem) (a : Nat) (l : List Byte) : (m.setCells a l).merge = m.merge := by
  induction l generalizing m a with
  | nil => rfl
  | cons b l ih => exact ih _ _

theorem cell_setCells_other (m : Mem) (a : Nat) (l : List Byte) {x : Nat} (h : x < a ∨ a + l.length ≤ x) :
    (m.setCells a l).cell x = m.cell x := by
  induction l generalizing m a with
  | nil => rfl
  | cons b l ih =>
    simp only [List.length_cons] at h
    rw [Mem.setCells, ih (m.setCell a b) (a + 1) (by omega)]
    exact tget_tset_other _ _ _ (by omega)

theorem cell_setCells (m : Mem) (a : Nat) (l : List Byte) {i : Nat} (h : i < l.length) :
    (m.setCells a l).cell (a + i) = l.getD i 0 := by
  induction l generalizing m a i with
  | nil => exact absurd h (by simp)
  | cons b l ih =>
    cases i with
    | zero =>
      rw [Mem.setCells, Nat.add_zero, cell_setCells_other _ _ _ (Or.inl (by omega))]
      simp [Mem.setCell, Mem.cell]
    | succ i =>
      have := ih (m.setCell a b) (a + 1) (i := i) (by simpa using h)
      rw [Mem.setCells, show a + (i + 1) = a + 1 + i by omega, this]; rfl

theorem putBytes8_merge (m : Mem) (a : Nat) (l : List Byte) :
    (m.putBytes8 a l).merge = m.merge.filter (fun e => e.word ≠ a) := by
  have h : (((m.settle a).setCells a (fit 8 l)).mark a false).merge = m.merge.filter (fun e => e.word ≠ a) := by
    show ((m.settle a).setCells a (fit 8 l)).merge = _
    rw [setCells_merge]; rfl
  unfold Mem.putBytes8
  split <;> exact h

theorem putBytes8_cell (m : Mem) (a : Nat) (l : List Byte) (x : Nat) :
    (m.putBytes8 a l).cell x = ((m.settle a).setCells a (fit 8 l)).cell x := by
  unfold Mem.putBytes8
  split <;> rfl

theorem fit_length (n : Nat) (l : List Byte) : (fit n l).length = n := by simp [fit]

/-- A full-word write leaves every byte outside its word as it reads (R376). -/
theorem putBytes8_byte_other (m : Mem) (a : Nat) (l : List Byte) {x : Nat} (ha : a % 8 = 0) (h : x < a ∨ a + 8 ≤ x) :
    (m.putBytes8 a l).byte x = m.byte x := by
  have hw : wordOf x ≠ a := by unfold wordOf; omega
  have hc : ∀ y, wordOf y ≠ a → (m.putBytes8 a l).cell y = m.cell y := fun y hy => by
    rw [putBytes8_cell, cell_setCells_other _ _ _ (by rw [fit_length]; unfold wordOf at hy; omega)]; rfl
  simp only [Mem.byte, putBytes8_merge, mergeEntry_settle _ hw, hc x hw]

/-- A full-word write reads back byte for byte (R376). -/
theorem putBytes8_byte (m : Mem) (a : Nat) (l : List Byte) {i : Nat} (ha : a % 8 = 0) (hi : i < 8) :
    (m.putBytes8 a l).byte (a + i) = (fit 8 l).getD i 0 := by
  have hw : wordOf (a + i) = a := by unfold wordOf; omega
  have hc : (m.putBytes8 a l).cell (a + i) = (fit 8 l).getD i 0 := by
    rw [putBytes8_cell, cell_setCells _ _ _ (by rw [fit_length]; exact hi)]
  simp only [Mem.byte, hw, putBytes8_merge, mergeEntry_settle_same, hc]

theorem mark_byte (m : Mem) (a x : Nat) (b : Bool) : (m.mark a b).byte x = m.byte x := rfl

theorem putWords_byte_other (m : Mem) (a : Nat) (l : List Nat) {x : Nat} (ha : a % 8 = 0) (h : x < a ∨ a + 8 * l.length ≤ x) :
    (m.putWords a l).byte x = m.byte x := by
  induction l generalizing m a with
  | nil => rfl
  | cons w l ih =>
    simp only [List.length_cons] at h
    rw [Mem.putWords, ih _ _ (by omega) (by omega)]
    exact putBytes8_byte_other _ _ _ ha (by omega)

theorem putKept_byte_other (m : Mem) (a w : Nat) {x : Nat} (ha : a % 8 = 0) (h : x < a ∨ a + 8 ≤ x) :
    (m.putKept a w).byte x = m.byte x := by
  unfold Mem.putKept
  split
  · rfl
  · exact putBytes8_byte_other _ _ _ ha h

theorem putKeptWords_byte_other (m : Mem) (a : Nat) (l : List Nat) {x : Nat} (ha : a % 8 = 0) (h : x < a ∨ a + 8 * l.length ≤ x) :
    (m.putKeptWords a l).byte x = m.byte x := by
  induction l generalizing m a with
  | nil => rfl
  | cons w l ih =>
    simp only [List.length_cons] at h
    rw [Mem.putKeptWords, ih _ _ (by omega) (by omega)]
    exact putKept_byte_other _ _ _ ha (by omega)

theorem putBlock_byte_other (m : Mem) (a n : Nat) (l : List Byte) {x : Nat} (ha : a % 8 = 0) (h : x < a ∨ a + 8 * n ≤ x) :
    (m.putBlock a n l).byte x = m.byte x := by
  induction n generalizing m a l with
  | zero => rfl
  | succ n ih =>
    rw [Mem.putBlock, ih _ _ _ (by omega) (by omega)]
    exact putBytes8_byte_other _ _ _ ha (by omega)

theorem words_length (r : Rec) : r.words.length = 8 := by simp only [Rec.words, List.length_cons, List.length_nil]

theorem mem_byte (d : Dev) (f : Mem → Mem) (x : Nat) : (d.mem f).sram.byte x = (f d.sram).byte x := rfl

theorem modRec_byte_other (d : Dev) (e : Nat) (f : Rec → Rec) {x : Nat} (h : x < 64 * e ∨ 64 * (e + 1) ≤ x) :
    (d.modRec e f).sram.byte x = d.sram.byte x := by
  rw [Dev.modRec, mem_byte]
  exact putKeptWords_byte_other _ _ _ (by unfold recAddr; omega) (by rw [words_length]; unfold recAddr; omega)

end Sys2Proof.Machine
end

