-- ==== Sys2Proof/Laws/State.lean ====
section
/-! SUPPORT. What each update of a device leaves alone, field by field, and what a command that is carried out answers. -/

namespace Sys2Proof.Machine

variable (d : Dev)

/-! ## Answers of the three kinds of command -/

@[simp] theorem State.upd_next (f : Dev → Dev) (s : State) : s.upd f = .next { s with dev := f s.dev } := rfl

@[simp] theorem State.ask_next (f : Dev → Resp × Dev) (s : State) :
    s.ask f = .next { s with dev := (f s.dev).2.reply (f s.dev).1 } := rfl

theorem State.updM_ok {f : Dev → Except Fault Dev} {s : State} {d : Dev} (h : f s.dev = .ok d) :
    s.updM f = .next { s with dev := d } := by
  rw [State.updM, h]

theorem State.updM_error {f : Dev → Except Fault Dev} {s : State} {e : Fault} (h : f s.dev = .error e) :
    s.updM f = .fault e := by
  rw [State.updM, h]

/-! ## Events and memory -/

/-- Posting a record changes the Event Unit alone. -/
theorem Dev.post_ev (e : EventName) (a : List Nat) (b : Bool) : ∃ v, d.post e a b = { d with ev := v } := by
  unfold Dev.post
  dsimp only
  split
  · exact ⟨_, rfl⟩
  · exact ⟨_, rfl⟩

/-- Raising an event changes the Event Unit alone. -/
theorem Dev.raise_ev (e : EventName) (a : List Nat) : ∃ v, d.raise e a = { d with ev := v } := by
  unfold Dev.raise
  dsimp only
  split
  · obtain ⟨v, h⟩ := Dev.post_ev { d with ev := { d.ev with counts := setRun d.ev.counts e ((runCount d.ev.counts e).1 + 1, (runCount d.ev.counts e).2) } } e a false
    exact ⟨v, by rw [h]⟩
  · split
    · obtain ⟨v, h⟩ := Dev.post_ev { d with ev := { d.ev with counts := setRun d.ev.counts e ((runCount d.ev.counts e).1 + 1, (runCount d.ev.counts e).2) } } e a false
      exact ⟨v, by rw [h]⟩
    · exact ⟨_, rfl⟩

theorem Dev.raiseIf_ev (b : Bool) (e : EventName) (a : List Nat) : ∃ v, d.raiseIf b e a = { d with ev := v } := by
  unfold Dev.raiseIf
  split
  · exact Dev.raise_ev d e a
  · exact ⟨_, rfl⟩

@[simp] theorem Dev.raise_time (e : EventName) (a : List Nat) : (d.raise e a).time = d.time := by
  obtain ⟨v, h⟩ := Dev.raise_ev d e a
  rw [h]
@[simp] theorem Dev.raiseIf_time (b : Bool) (e : EventName) (a : List Nat) : (d.raiseIf b e a).time = d.time := by
  obtain ⟨v, h⟩ := Dev.raiseIf_ev d b e a
  rw [h]
@[simp] theorem Dev.raise_sram (e : EventName) (a : List Nat) : (d.raise e a).sram = d.sram := by
  obtain ⟨v, h⟩ := Dev.raise_ev d e a
  rw [h]
@[simp] theorem Dev.raiseIf_sram (b : Bool) (e : EventName) (a : List Nat) : (d.raiseIf b e a).sram = d.sram := by
  obtain ⟨v, h⟩ := Dev.raiseIf_ev d b e a
  rw [h]
@[simp] theorem Dev.raise_memory (e : EventName) (a : List Nat) : (d.raise e a).memory = d.memory := by
  obtain ⟨v, h⟩ := Dev.raise_ev d e a
  rw [h]
@[simp] theorem Dev.raiseIf_memory (b : Bool) (e : EventName) (a : List Nat) : (d.raiseIf b e a).memory = d.memory := by
  obtain ⟨v, h⟩ := Dev.raiseIf_ev d b e a
  rw [h]
@[simp] theorem Dev.raise_arr (e : EventName) (a : List Nat) : (d.raise e a).arr = d.arr := by
  obtain ⟨v, h⟩ := Dev.raise_ev d e a
  rw [h]
@[simp] theorem Dev.raiseIf_arr (b : Bool) (e : EventName) (a : List Nat) : (d.raiseIf b e a).arr = d.arr := by
  obtain ⟨v, h⟩ := Dev.raiseIf_ev d b e a
  rw [h]
@[simp] theorem Dev.raise_cyc (e : EventName) (a : List Nat) : (d.raise e a).cyc = d.cyc := by
  obtain ⟨v, h⟩ := Dev.raise_ev d e a
  rw [h]
@[simp] theorem Dev.raiseIf_cyc (b : Bool) (e : EventName) (a : List Nat) : (d.raiseIf b e a).cyc = d.cyc := by
  obtain ⟨v, h⟩ := Dev.raiseIf_ev d b e a
  rw [h]
@[simp] theorem Dev.raise_rd (e : EventName) (a : List Nat) : (d.raise e a).rd = d.rd := by
  obtain ⟨v, h⟩ := Dev.raise_ev d e a
  rw [h]
@[simp] theorem Dev.raiseIf_rd (b : Bool) (e : EventName) (a : List Nat) : (d.raiseIf b e a).rd = d.rd := by
  obtain ⟨v, h⟩ := Dev.raiseIf_ev d b e a
  rw [h]
@[simp] theorem Dev.raise_drv (e : EventName) (a : List Nat) : (d.raise e a).drv = d.drv := by
  obtain ⟨v, h⟩ := Dev.raise_ev d e a
  rw [h]
@[simp] theorem Dev.raiseIf_drv (b : Bool) (e : EventName) (a : List Nat) : (d.raiseIf b e a).drv = d.drv := by
  obtain ⟨v, h⟩ := Dev.raiseIf_ev d b e a
  rw [h]
@[simp] theorem Dev.raise_loop (e : EventName) (a : List Nat) : (d.raise e a).loop = d.loop := by
  obtain ⟨v, h⟩ := Dev.raise_ev d e a
  rw [h]
@[simp] theorem Dev.raiseIf_loop (b : Bool) (e : EventName) (a : List Nat) : (d.raiseIf b e a).loop = d.loop := by
  obtain ⟨v, h⟩ := Dev.raiseIf_ev d b e a
  rw [h]
@[simp] theorem Dev.raise_trace (e : EventName) (a : List Nat) : (d.raise e a).trace = d.trace := by
  obtain ⟨v, h⟩ := Dev.raise_ev d e a
  rw [h]
@[simp] theorem Dev.raiseIf_trace (b : Bool) (e : EventName) (a : List Nat) : (d.raiseIf b e a).trace = d.trace := by
  obtain ⟨v, h⟩ := Dev.raiseIf_ev d b e a
  rw [h]
@[simp] theorem Dev.raise_cal (e : EventName) (a : List Nat) : (d.raise e a).cal = d.cal := by
  obtain ⟨v, h⟩ := Dev.raise_ev d e a
  rw [h]
@[simp] theorem Dev.raiseIf_cal (b : Bool) (e : EventName) (a : List Nat) : (d.raiseIf b e a).cal = d.cal := by
  obtain ⟨v, h⟩ := Dev.raiseIf_ev d b e a
  rw [h]
@[simp] theorem Dev.raise_fab (e : EventName) (a : List Nat) : (d.raise e a).fab = d.fab := by
  obtain ⟨v, h⟩ := Dev.raise_ev d e a
  rw [h]
@[simp] theorem Dev.raiseIf_fab (b : Bool) (e : EventName) (a : List Nat) : (d.raiseIf b e a).fab = d.fab := by
  obtain ⟨v, h⟩ := Dev.raiseIf_ev d b e a
  rw [h]
@[simp] theorem Dev.raise_solve (e : EventName) (a : List Nat) : (d.raise e a).solve = d.solve := by
  obtain ⟨v, h⟩ := Dev.raise_ev d e a
  rw [h]
@[simp] theorem Dev.raiseIf_solve (b : Bool) (e : EventName) (a : List Nat) : (d.raiseIf b e a).solve = d.solve := by
  obtain ⟨v, h⟩ := Dev.raiseIf_ev d b e a
  rw [h]
@[simp] theorem Dev.raise_circ (e : EventName) (a : List Nat) : (d.raise e a).circ = d.circ := by
  obtain ⟨v, h⟩ := Dev.raise_ev d e a
  rw [h]
@[simp] theorem Dev.raiseIf_circ (b : Bool) (e : EventName) (a : List Nat) : (d.raiseIf b e a).circ = d.circ := by
  obtain ⟨v, h⟩ := Dev.raiseIf_ev d b e a
  rw [h]
@[simp] theorem Dev.raise_ver (e : EventName) (a : List Nat) : (d.raise e a).ver = d.ver := by
  obtain ⟨v, h⟩ := Dev.raise_ev d e a
  rw [h]
@[simp] theorem Dev.raiseIf_ver (b : Bool) (e : EventName) (a : List Nat) : (d.raiseIf b e a).ver = d.ver := by
  obtain ⟨v, h⟩ := Dev.raiseIf_ev d b e a
  rw [h]
@[simp] theorem Dev.raise_dec (e : EventName) (a : List Nat) : (d.raise e a).dec = d.dec := by
  obtain ⟨v, h⟩ := Dev.raise_ev d e a
  rw [h]
@[simp] theorem Dev.raiseIf_dec (b : Bool) (e : EventName) (a : List Nat) : (d.raiseIf b e a).dec = d.dec := by
  obtain ⟨v, h⟩ := Dev.raiseIf_ev d b e a
  rw [h]
@[simp] theorem Dev.raise_lab (e : EventName) (a : List Nat) : (d.raise e a).lab = d.lab := by
  obtain ⟨v, h⟩ := Dev.raise_ev d e a
  rw [h]
@[simp] theorem Dev.raiseIf_lab (b : Bool) (e : EventName) (a : List Nat) : (d.raiseIf b e a).lab = d.lab := by
  obtain ⟨v, h⟩ := Dev.raiseIf_ev d b e a
  rw [h]
@[simp] theorem Dev.raise_net (e : EventName) (a : List Nat) : (d.raise e a).net = d.net := by
  obtain ⟨v, h⟩ := Dev.raise_ev d e a
  rw [h]
@[simp] theorem Dev.raiseIf_net (b : Bool) (e : EventName) (a : List Nat) : (d.raiseIf b e a).net = d.net := by
  obtain ⟨v, h⟩ := Dev.raiseIf_ev d b e a
  rw [h]
@[simp] theorem Dev.raise_traf (e : EventName) (a : List Nat) : (d.raise e a).traf = d.traf := by
  obtain ⟨v, h⟩ := Dev.raise_ev d e a
  rw [h]
@[simp] theorem Dev.raiseIf_traf (b : Bool) (e : EventName) (a : List Nat) : (d.raiseIf b e a).traf = d.traf := by
  obtain ⟨v, h⟩ := Dev.raiseIf_ev d b e a
  rw [h]
@[simp] theorem Dev.raise_req (e : EventName) (a : List Nat) : (d.raise e a).req = d.req := by
  obtain ⟨v, h⟩ := Dev.raise_ev d e a
  rw [h]
@[simp] theorem Dev.raiseIf_req (b : Bool) (e : EventName) (a : List Nat) : (d.raiseIf b e a).req = d.req := by
  obtain ⟨v, h⟩ := Dev.raiseIf_ev d b e a
  rw [h]
@[simp] theorem Dev.raise_tow (e : EventName) (a : List Nat) : (d.raise e a).tow = d.tow := by
  obtain ⟨v, h⟩ := Dev.raise_ev d e a
  rw [h]
@[simp] theorem Dev.raiseIf_tow (b : Bool) (e : EventName) (a : List Nat) : (d.raiseIf b e a).tow = d.tow := by
  obtain ⟨v, h⟩ := Dev.raiseIf_ev d b e a
  rw [h]
@[simp] theorem Dev.raise_therm (e : EventName) (a : List Nat) : (d.raise e a).therm = d.therm := by
  obtain ⟨v, h⟩ := Dev.raise_ev d e a
  rw [h]
@[simp] theorem Dev.raiseIf_therm (b : Bool) (e : EventName) (a : List Nat) : (d.raiseIf b e a).therm = d.therm := by
  obtain ⟨v, h⟩ := Dev.raiseIf_ev d b e a
  rw [h]
@[simp] theorem Dev.raise_boot (e : EventName) (a : List Nat) : (d.raise e a).boot = d.boot := by
  obtain ⟨v, h⟩ := Dev.raise_ev d e a
  rw [h]
@[simp] theorem Dev.raiseIf_boot (b : Bool) (e : EventName) (a : List Nat) : (d.raiseIf b e a).boot = d.boot := by
  obtain ⟨v, h⟩ := Dev.raiseIf_ev d b e a
  rw [h]
@[simp] theorem Dev.raise_cfg (e : EventName) (a : List Nat) : (d.raise e a).cfg = d.cfg := by
  obtain ⟨v, h⟩ := Dev.raise_ev d e a
  rw [h]
@[simp] theorem Dev.raiseIf_cfg (b : Bool) (e : EventName) (a : List Nat) : (d.raiseIf b e a).cfg = d.cfg := by
  obtain ⟨v, h⟩ := Dev.raiseIf_ev d b e a
  rw [h]
@[simp] theorem Dev.raise_free (e : EventName) (a : List Nat) : (d.raise e a).free = d.free := by
  obtain ⟨v, h⟩ := Dev.raise_ev d e a
  rw [h]
@[simp] theorem Dev.raiseIf_free (b : Bool) (e : EventName) (a : List Nat) : (d.raiseIf b e a).free = d.free := by
  obtain ⟨v, h⟩ := Dev.raiseIf_ev d b e a
  rw [h]
@[simp] theorem Dev.raise_snap (e : EventName) (a : List Nat) : (d.raise e a).snap = d.snap := by
  obtain ⟨v, h⟩ := Dev.raise_ev d e a
  rw [h]
@[simp] theorem Dev.raiseIf_snap (b : Bool) (e : EventName) (a : List Nat) : (d.raiseIf b e a).snap = d.snap := by
  obtain ⟨v, h⟩ := Dev.raiseIf_ev d b e a
  rw [h]

@[simp] theorem Dev.mem_sram (f : Mem → Mem) : (d.mem f).sram = { f d.sram with cleared := [] } := (rfl)
@[simp] theorem Dev.mem_time (f : Mem → Mem) : (d.mem f).time = d.time := (rfl)
@[simp] theorem Dev.mem_ev (f : Mem → Mem) : (d.mem f).ev = d.ev := (rfl)
@[simp] theorem Dev.mem_arr (f : Mem → Mem) : (d.mem f).arr = d.arr := (rfl)
@[simp] theorem Dev.mem_cyc (f : Mem → Mem) : (d.mem f).cyc = d.cyc := (rfl)
@[simp] theorem Dev.mem_rd (f : Mem → Mem) : (d.mem f).rd = d.rd := (rfl)
@[simp] theorem Dev.mem_drv (f : Mem → Mem) : (d.mem f).drv = d.drv := (rfl)
@[simp] theorem Dev.mem_loop (f : Mem → Mem) : (d.mem f).loop = d.loop := (rfl)
@[simp] theorem Dev.mem_trace (f : Mem → Mem) : (d.mem f).trace = d.trace := (rfl)
@[simp] theorem Dev.mem_cal (f : Mem → Mem) : (d.mem f).cal = d.cal := (rfl)
@[simp] theorem Dev.mem_fab (f : Mem → Mem) : (d.mem f).fab = d.fab := (rfl)
@[simp] theorem Dev.mem_solve (f : Mem → Mem) : (d.mem f).solve = d.solve := (rfl)
@[simp] theorem Dev.mem_circ (f : Mem → Mem) : (d.mem f).circ = d.circ := (rfl)
@[simp] theorem Dev.mem_ver (f : Mem → Mem) : (d.mem f).ver = d.ver := (rfl)
@[simp] theorem Dev.mem_dec (f : Mem → Mem) : (d.mem f).dec = d.dec := (rfl)
@[simp] theorem Dev.mem_lab (f : Mem → Mem) : (d.mem f).lab = d.lab := (rfl)
@[simp] theorem Dev.mem_net (f : Mem → Mem) : (d.mem f).net = d.net := (rfl)
@[simp] theorem Dev.mem_traf (f : Mem → Mem) : (d.mem f).traf = d.traf := (rfl)
@[simp] theorem Dev.mem_req (f : Mem → Mem) : (d.mem f).req = d.req := (rfl)
@[simp] theorem Dev.mem_tow (f : Mem → Mem) : (d.mem f).tow = d.tow := (rfl)
@[simp] theorem Dev.mem_therm (f : Mem → Mem) : (d.mem f).therm = d.therm := (rfl)
@[simp] theorem Dev.mem_boot (f : Mem → Mem) : (d.mem f).boot = d.boot := (rfl)
@[simp] theorem Dev.mem_cfg (f : Mem → Mem) : (d.mem f).cfg = d.cfg := (rfl)
@[simp] theorem Dev.mem_free (f : Mem → Mem) : (d.mem f).free = d.free := (rfl)
@[simp] theorem Dev.mem_snap (f : Mem → Mem) : (d.mem f).snap = d.snap := (rfl)

/-! ## Answers -/

@[simp] theorem Dev.reply_req (r : Resp) : (d.reply r).req = { d.req with answer := some { code := r } } := (rfl)
@[simp] theorem Dev.replyWith_req (a : Answer) : (d.replyWith a).req = { d.req with answer := some a } := (rfl)
@[simp] theorem Dev.reply_time (r : Resp) : (d.reply r).time = d.time := (rfl)
@[simp] theorem Dev.replyWith_time (a : Answer) : (d.replyWith a).time = d.time := (rfl)
@[simp] theorem Dev.reply_ev (r : Resp) : (d.reply r).ev = d.ev := (rfl)
@[simp] theorem Dev.replyWith_ev (a : Answer) : (d.replyWith a).ev = d.ev := (rfl)
@[simp] theorem Dev.reply_sram (r : Resp) : (d.reply r).sram = d.sram := (rfl)
@[simp] theorem Dev.replyWith_sram (a : Answer) : (d.replyWith a).sram = d.sram := (rfl)
@[simp] theorem Dev.reply_memory (r : Resp) : (d.reply r).memory = d.memory := (rfl)
@[simp] theorem Dev.replyWith_memory (a : Answer) : (d.replyWith a).memory = d.memory := (rfl)
@[simp] theorem Dev.reply_arr (r : Resp) : (d.reply r).arr = d.arr := (rfl)
@[simp] theorem Dev.replyWith_arr (a : Answer) : (d.replyWith a).arr = d.arr := (rfl)
@[simp] theorem Dev.reply_cyc (r : Resp) : (d.reply r).cyc = d.cyc := (rfl)
@[simp] theorem Dev.replyWith_cyc (a : Answer) : (d.replyWith a).cyc = d.cyc := (rfl)
@[simp] theorem Dev.reply_rd (r : Resp) : (d.reply r).rd = d.rd := (rfl)
@[simp] theorem Dev.replyWith_rd (a : Answer) : (d.replyWith a).rd = d.rd := (rfl)
@[simp] theorem Dev.reply_drv (r : Resp) : (d.reply r).drv = d.drv := (rfl)
@[simp] theorem Dev.replyWith_drv (a : Answer) : (d.replyWith a).drv = d.drv := (rfl)
@[simp] theorem Dev.reply_loop (r : Resp) : (d.reply r).loop = d.loop := (rfl)
@[simp] theorem Dev.replyWith_loop (a : Answer) : (d.replyWith a).loop = d.loop := (rfl)
@[simp] theorem Dev.reply_trace (r : Resp) : (d.reply r).trace = d.trace := (rfl)
@[simp] theorem Dev.replyWith_trace (a : Answer) : (d.replyWith a).trace = d.trace := (rfl)
@[simp] theorem Dev.reply_cal (r : Resp) : (d.reply r).cal = d.cal := (rfl)
@[simp] theorem Dev.replyWith_cal (a : Answer) : (d.replyWith a).cal = d.cal := (rfl)
@[simp] theorem Dev.reply_fab (r : Resp) : (d.reply r).fab = d.fab := (rfl)
@[simp] theorem Dev.replyWith_fab (a : Answer) : (d.replyWith a).fab = d.fab := (rfl)
@[simp] theorem Dev.reply_solve (r : Resp) : (d.reply r).solve = d.solve := (rfl)
@[simp] theorem Dev.replyWith_solve (a : Answer) : (d.replyWith a).solve = d.solve := (rfl)
@[simp] theorem Dev.reply_circ (r : Resp) : (d.reply r).circ = d.circ := (rfl)
@[simp] theorem Dev.replyWith_circ (a : Answer) : (d.replyWith a).circ = d.circ := (rfl)
@[simp] theorem Dev.reply_ver (r : Resp) : (d.reply r).ver = d.ver := (rfl)
@[simp] theorem Dev.replyWith_ver (a : Answer) : (d.replyWith a).ver = d.ver := (rfl)
@[simp] theorem Dev.reply_dec (r : Resp) : (d.reply r).dec = d.dec := (rfl)
@[simp] theorem Dev.replyWith_dec (a : Answer) : (d.replyWith a).dec = d.dec := (rfl)
@[simp] theorem Dev.reply_lab (r : Resp) : (d.reply r).lab = d.lab := (rfl)
@[simp] theorem Dev.replyWith_lab (a : Answer) : (d.replyWith a).lab = d.lab := (rfl)
@[simp] theorem Dev.reply_net (r : Resp) : (d.reply r).net = d.net := (rfl)
@[simp] theorem Dev.replyWith_net (a : Answer) : (d.replyWith a).net = d.net := (rfl)
@[simp] theorem Dev.reply_traf (r : Resp) : (d.reply r).traf = d.traf := (rfl)
@[simp] theorem Dev.replyWith_traf (a : Answer) : (d.replyWith a).traf = d.traf := (rfl)
@[simp] theorem Dev.reply_tow (r : Resp) : (d.reply r).tow = d.tow := (rfl)
@[simp] theorem Dev.replyWith_tow (a : Answer) : (d.replyWith a).tow = d.tow := (rfl)
@[simp] theorem Dev.reply_therm (r : Resp) : (d.reply r).therm = d.therm := (rfl)
@[simp] theorem Dev.replyWith_therm (a : Answer) : (d.replyWith a).therm = d.therm := (rfl)
@[simp] theorem Dev.reply_boot (r : Resp) : (d.reply r).boot = d.boot := (rfl)
@[simp] theorem Dev.replyWith_boot (a : Answer) : (d.replyWith a).boot = d.boot := (rfl)
@[simp] theorem Dev.reply_cfg (r : Resp) : (d.reply r).cfg = d.cfg := (rfl)
@[simp] theorem Dev.replyWith_cfg (a : Answer) : (d.replyWith a).cfg = d.cfg := (rfl)
@[simp] theorem Dev.reply_free (r : Resp) : (d.reply r).free = d.free := (rfl)
@[simp] theorem Dev.replyWith_free (a : Answer) : (d.replyWith a).free = d.free := (rfl)
@[simp] theorem Dev.reply_snap (r : Resp) : (d.reply r).snap = d.snap := (rfl)
@[simp] theorem Dev.replyWith_snap (a : Answer) : (d.replyWith a).snap = d.snap := (rfl)

/-! ## One unit at a time -/

@[simp] theorem Dev.setTime_time (f : Belfry → Belfry) : (d.setTime f).time = f d.time := (rfl)
@[simp] theorem Dev.setTime_ev (f : Belfry → Belfry) : (d.setTime f).ev = d.ev := (rfl)
@[simp] theorem Dev.setTime_sram (f : Belfry → Belfry) : (d.setTime f).sram = d.sram := (rfl)
@[simp] theorem Dev.setTime_memory (f : Belfry → Belfry) : (d.setTime f).memory = d.memory := (rfl)
@[simp] theorem Dev.setTime_arr (f : Belfry → Belfry) : (d.setTime f).arr = d.arr := (rfl)
@[simp] theorem Dev.setTime_cyc (f : Belfry → Belfry) : (d.setTime f).cyc = d.cyc := (rfl)
@[simp] theorem Dev.setTime_rd (f : Belfry → Belfry) : (d.setTime f).rd = d.rd := (rfl)
@[simp] theorem Dev.setTime_drv (f : Belfry → Belfry) : (d.setTime f).drv = d.drv := (rfl)
@[simp] theorem Dev.setTime_loop (f : Belfry → Belfry) : (d.setTime f).loop = d.loop := (rfl)
@[simp] theorem Dev.setTime_trace (f : Belfry → Belfry) : (d.setTime f).trace = d.trace := (rfl)
@[simp] theorem Dev.setTime_cal (f : Belfry → Belfry) : (d.setTime f).cal = d.cal := (rfl)
@[simp] theorem Dev.setTime_fab (f : Belfry → Belfry) : (d.setTime f).fab = d.fab := (rfl)
@[simp] theorem Dev.setTime_solve (f : Belfry → Belfry) : (d.setTime f).solve = d.solve := (rfl)
@[simp] theorem Dev.setTime_circ (f : Belfry → Belfry) : (d.setTime f).circ = d.circ := (rfl)
@[simp] theorem Dev.setTime_ver (f : Belfry → Belfry) : (d.setTime f).ver = d.ver := (rfl)
@[simp] theorem Dev.setTime_dec (f : Belfry → Belfry) : (d.setTime f).dec = d.dec := (rfl)
@[simp] theorem Dev.setTime_lab (f : Belfry → Belfry) : (d.setTime f).lab = d.lab := (rfl)
@[simp] theorem Dev.setTime_net (f : Belfry → Belfry) : (d.setTime f).net = d.net := (rfl)
@[simp] theorem Dev.setTime_traf (f : Belfry → Belfry) : (d.setTime f).traf = d.traf := (rfl)
@[simp] theorem Dev.setTime_req (f : Belfry → Belfry) : (d.setTime f).req = d.req := (rfl)
@[simp] theorem Dev.setTime_tow (f : Belfry → Belfry) : (d.setTime f).tow = d.tow := (rfl)
@[simp] theorem Dev.setTime_therm (f : Belfry → Belfry) : (d.setTime f).therm = d.therm := (rfl)
@[simp] theorem Dev.setTime_boot (f : Belfry → Belfry) : (d.setTime f).boot = d.boot := (rfl)
@[simp] theorem Dev.setTime_cfg (f : Belfry → Belfry) : (d.setTime f).cfg = d.cfg := (rfl)
@[simp] theorem Dev.setTime_free (f : Belfry → Belfry) : (d.setTime f).free = d.free := (rfl)
@[simp] theorem Dev.setTime_snap (f : Belfry → Belfry) : (d.setTime f).snap = d.snap := (rfl)

@[simp] theorem Dev.setArr_arr (f : ArrayIf → ArrayIf) : (d.setArr f).arr = f d.arr := (rfl)
@[simp] theorem Dev.setArr_time (f : ArrayIf → ArrayIf) : (d.setArr f).time = d.time := (rfl)
@[simp] theorem Dev.setArr_ev (f : ArrayIf → ArrayIf) : (d.setArr f).ev = d.ev := (rfl)
@[simp] theorem Dev.setArr_sram (f : ArrayIf → ArrayIf) : (d.setArr f).sram = d.sram := (rfl)
@[simp] theorem Dev.setArr_memory (f : ArrayIf → ArrayIf) : (d.setArr f).memory = d.memory := (rfl)
@[simp] theorem Dev.setArr_cyc (f : ArrayIf → ArrayIf) : (d.setArr f).cyc = d.cyc := (rfl)
@[simp] theorem Dev.setArr_rd (f : ArrayIf → ArrayIf) : (d.setArr f).rd = d.rd := (rfl)
@[simp] theorem Dev.setArr_drv (f : ArrayIf → ArrayIf) : (d.setArr f).drv = d.drv := (rfl)
@[simp] theorem Dev.setArr_loop (f : ArrayIf → ArrayIf) : (d.setArr f).loop = d.loop := (rfl)
@[simp] theorem Dev.setArr_trace (f : ArrayIf → ArrayIf) : (d.setArr f).trace = d.trace := (rfl)
@[simp] theorem Dev.setArr_cal (f : ArrayIf → ArrayIf) : (d.setArr f).cal = d.cal := (rfl)
@[simp] theorem Dev.setArr_fab (f : ArrayIf → ArrayIf) : (d.setArr f).fab = d.fab := (rfl)
@[simp] theorem Dev.setArr_solve (f : ArrayIf → ArrayIf) : (d.setArr f).solve = d.solve := (rfl)
@[simp] theorem Dev.setArr_circ (f : ArrayIf → ArrayIf) : (d.setArr f).circ = d.circ := (rfl)
@[simp] theorem Dev.setArr_ver (f : ArrayIf → ArrayIf) : (d.setArr f).ver = d.ver := (rfl)
@[simp] theorem Dev.setArr_dec (f : ArrayIf → ArrayIf) : (d.setArr f).dec = d.dec := (rfl)
@[simp] theorem Dev.setArr_lab (f : ArrayIf → ArrayIf) : (d.setArr f).lab = d.lab := (rfl)
@[simp] theorem Dev.setArr_net (f : ArrayIf → ArrayIf) : (d.setArr f).net = d.net := (rfl)
@[simp] theorem Dev.setArr_traf (f : ArrayIf → ArrayIf) : (d.setArr f).traf = d.traf := (rfl)
@[simp] theorem Dev.setArr_req (f : ArrayIf → ArrayIf) : (d.setArr f).req = d.req := (rfl)
@[simp] theorem Dev.setArr_tow (f : ArrayIf → ArrayIf) : (d.setArr f).tow = d.tow := (rfl)
@[simp] theorem Dev.setArr_therm (f : ArrayIf → ArrayIf) : (d.setArr f).therm = d.therm := (rfl)
@[simp] theorem Dev.setArr_boot (f : ArrayIf → ArrayIf) : (d.setArr f).boot = d.boot := (rfl)
@[simp] theorem Dev.setArr_cfg (f : ArrayIf → ArrayIf) : (d.setArr f).cfg = d.cfg := (rfl)
@[simp] theorem Dev.setArr_free (f : ArrayIf → ArrayIf) : (d.setArr f).free = d.free := (rfl)
@[simp] theorem Dev.setArr_snap (f : ArrayIf → ArrayIf) : (d.setArr f).snap = d.snap := (rfl)

@[simp] theorem Dev.setRd_rd (f : Readout → Readout) : (d.setRd f).rd = f d.rd := (rfl)
@[simp] theorem Dev.setRd_time (f : Readout → Readout) : (d.setRd f).time = d.time := (rfl)
@[simp] theorem Dev.setRd_ev (f : Readout → Readout) : (d.setRd f).ev = d.ev := (rfl)
@[simp] theorem Dev.setRd_sram (f : Readout → Readout) : (d.setRd f).sram = d.sram := (rfl)
@[simp] theorem Dev.setRd_memory (f : Readout → Readout) : (d.setRd f).memory = d.memory := (rfl)
@[simp] theorem Dev.setRd_arr (f : Readout → Readout) : (d.setRd f).arr = d.arr := (rfl)
@[simp] theorem Dev.setRd_cyc (f : Readout → Readout) : (d.setRd f).cyc = d.cyc := (rfl)
@[simp] theorem Dev.setRd_drv (f : Readout → Readout) : (d.setRd f).drv = d.drv := (rfl)
@[simp] theorem Dev.setRd_loop (f : Readout → Readout) : (d.setRd f).loop = d.loop := (rfl)
@[simp] theorem Dev.setRd_trace (f : Readout → Readout) : (d.setRd f).trace = d.trace := (rfl)
@[simp] theorem Dev.setRd_cal (f : Readout → Readout) : (d.setRd f).cal = d.cal := (rfl)
@[simp] theorem Dev.setRd_fab (f : Readout → Readout) : (d.setRd f).fab = d.fab := (rfl)
@[simp] theorem Dev.setRd_solve (f : Readout → Readout) : (d.setRd f).solve = d.solve := (rfl)
@[simp] theorem Dev.setRd_circ (f : Readout → Readout) : (d.setRd f).circ = d.circ := (rfl)
@[simp] theorem Dev.setRd_ver (f : Readout → Readout) : (d.setRd f).ver = d.ver := (rfl)
@[simp] theorem Dev.setRd_dec (f : Readout → Readout) : (d.setRd f).dec = d.dec := (rfl)
@[simp] theorem Dev.setRd_lab (f : Readout → Readout) : (d.setRd f).lab = d.lab := (rfl)
@[simp] theorem Dev.setRd_net (f : Readout → Readout) : (d.setRd f).net = d.net := (rfl)
@[simp] theorem Dev.setRd_traf (f : Readout → Readout) : (d.setRd f).traf = d.traf := (rfl)
@[simp] theorem Dev.setRd_req (f : Readout → Readout) : (d.setRd f).req = d.req := (rfl)
@[simp] theorem Dev.setRd_tow (f : Readout → Readout) : (d.setRd f).tow = d.tow := (rfl)
@[simp] theorem Dev.setRd_therm (f : Readout → Readout) : (d.setRd f).therm = d.therm := (rfl)
@[simp] theorem Dev.setRd_boot (f : Readout → Readout) : (d.setRd f).boot = d.boot := (rfl)
@[simp] theorem Dev.setRd_cfg (f : Readout → Readout) : (d.setRd f).cfg = d.cfg := (rfl)
@[simp] theorem Dev.setRd_free (f : Readout → Readout) : (d.setRd f).free = d.free := (rfl)
@[simp] theorem Dev.setRd_snap (f : Readout → Readout) : (d.setRd f).snap = d.snap := (rfl)

@[simp] theorem Dev.setDrv_drv (f : Drive → Drive) : (d.setDrv f).drv = f d.drv := (rfl)
@[simp] theorem Dev.setDrv_time (f : Drive → Drive) : (d.setDrv f).time = d.time := (rfl)
@[simp] theorem Dev.setDrv_ev (f : Drive → Drive) : (d.setDrv f).ev = d.ev := (rfl)
@[simp] theorem Dev.setDrv_sram (f : Drive → Drive) : (d.setDrv f).sram = d.sram := (rfl)
@[simp] theorem Dev.setDrv_memory (f : Drive → Drive) : (d.setDrv f).memory = d.memory := (rfl)
@[simp] theorem Dev.setDrv_arr (f : Drive → Drive) : (d.setDrv f).arr = d.arr := (rfl)
@[simp] theorem Dev.setDrv_cyc (f : Drive → Drive) : (d.setDrv f).cyc = d.cyc := (rfl)
@[simp] theorem Dev.setDrv_rd (f : Drive → Drive) : (d.setDrv f).rd = d.rd := (rfl)
@[simp] theorem Dev.setDrv_loop (f : Drive → Drive) : (d.setDrv f).loop = d.loop := (rfl)
@[simp] theorem Dev.setDrv_trace (f : Drive → Drive) : (d.setDrv f).trace = d.trace := (rfl)
@[simp] theorem Dev.setDrv_cal (f : Drive → Drive) : (d.setDrv f).cal = d.cal := (rfl)
@[simp] theorem Dev.setDrv_fab (f : Drive → Drive) : (d.setDrv f).fab = d.fab := (rfl)
@[simp] theorem Dev.setDrv_solve (f : Drive → Drive) : (d.setDrv f).solve = d.solve := (rfl)
@[simp] theorem Dev.setDrv_circ (f : Drive → Drive) : (d.setDrv f).circ = d.circ := (rfl)
@[simp] theorem Dev.setDrv_ver (f : Drive → Drive) : (d.setDrv f).ver = d.ver := (rfl)
@[simp] theorem Dev.setDrv_dec (f : Drive → Drive) : (d.setDrv f).dec = d.dec := (rfl)
@[simp] theorem Dev.setDrv_lab (f : Drive → Drive) : (d.setDrv f).lab = d.lab := (rfl)
@[simp] theorem Dev.setDrv_net (f : Drive → Drive) : (d.setDrv f).net = d.net := (rfl)
@[simp] theorem Dev.setDrv_traf (f : Drive → Drive) : (d.setDrv f).traf = d.traf := (rfl)
@[simp] theorem Dev.setDrv_req (f : Drive → Drive) : (d.setDrv f).req = d.req := (rfl)
@[simp] theorem Dev.setDrv_tow (f : Drive → Drive) : (d.setDrv f).tow = d.tow := (rfl)
@[simp] theorem Dev.setDrv_therm (f : Drive → Drive) : (d.setDrv f).therm = d.therm := (rfl)
@[simp] theorem Dev.setDrv_boot (f : Drive → Drive) : (d.setDrv f).boot = d.boot := (rfl)
@[simp] theorem Dev.setDrv_cfg (f : Drive → Drive) : (d.setDrv f).cfg = d.cfg := (rfl)
@[simp] theorem Dev.setDrv_free (f : Drive → Drive) : (d.setDrv f).free = d.free := (rfl)
@[simp] theorem Dev.setDrv_snap (f : Drive → Drive) : (d.setDrv f).snap = d.snap := (rfl)

@[simp] theorem Dev.setLoop_loop (f : Loop → Loop) : (d.setLoop f).loop = f d.loop := (rfl)
@[simp] theorem Dev.setLoop_time (f : Loop → Loop) : (d.setLoop f).time = d.time := (rfl)
@[simp] theorem Dev.setLoop_ev (f : Loop → Loop) : (d.setLoop f).ev = d.ev := (rfl)
@[simp] theorem Dev.setLoop_sram (f : Loop → Loop) : (d.setLoop f).sram = d.sram := (rfl)
@[simp] theorem Dev.setLoop_memory (f : Loop → Loop) : (d.setLoop f).memory = d.memory := (rfl)
@[simp] theorem Dev.setLoop_arr (f : Loop → Loop) : (d.setLoop f).arr = d.arr := (rfl)
@[simp] theorem Dev.setLoop_cyc (f : Loop → Loop) : (d.setLoop f).cyc = d.cyc := (rfl)
@[simp] theorem Dev.setLoop_rd (f : Loop → Loop) : (d.setLoop f).rd = d.rd := (rfl)
@[simp] theorem Dev.setLoop_drv (f : Loop → Loop) : (d.setLoop f).drv = d.drv := (rfl)
@[simp] theorem Dev.setLoop_trace (f : Loop → Loop) : (d.setLoop f).trace = d.trace := (rfl)
@[simp] theorem Dev.setLoop_cal (f : Loop → Loop) : (d.setLoop f).cal = d.cal := (rfl)
@[simp] theorem Dev.setLoop_fab (f : Loop → Loop) : (d.setLoop f).fab = d.fab := (rfl)
@[simp] theorem Dev.setLoop_solve (f : Loop → Loop) : (d.setLoop f).solve = d.solve := (rfl)
@[simp] theorem Dev.setLoop_circ (f : Loop → Loop) : (d.setLoop f).circ = d.circ := (rfl)
@[simp] theorem Dev.setLoop_ver (f : Loop → Loop) : (d.setLoop f).ver = d.ver := (rfl)
@[simp] theorem Dev.setLoop_dec (f : Loop → Loop) : (d.setLoop f).dec = d.dec := (rfl)
@[simp] theorem Dev.setLoop_lab (f : Loop → Loop) : (d.setLoop f).lab = d.lab := (rfl)
@[simp] theorem Dev.setLoop_net (f : Loop → Loop) : (d.setLoop f).net = d.net := (rfl)
@[simp] theorem Dev.setLoop_traf (f : Loop → Loop) : (d.setLoop f).traf = d.traf := (rfl)
@[simp] theorem Dev.setLoop_req (f : Loop → Loop) : (d.setLoop f).req = d.req := (rfl)
@[simp] theorem Dev.setLoop_tow (f : Loop → Loop) : (d.setLoop f).tow = d.tow := (rfl)
@[simp] theorem Dev.setLoop_therm (f : Loop → Loop) : (d.setLoop f).therm = d.therm := (rfl)
@[simp] theorem Dev.setLoop_boot (f : Loop → Loop) : (d.setLoop f).boot = d.boot := (rfl)
@[simp] theorem Dev.setLoop_cfg (f : Loop → Loop) : (d.setLoop f).cfg = d.cfg := (rfl)
@[simp] theorem Dev.setLoop_free (f : Loop → Loop) : (d.setLoop f).free = d.free := (rfl)
@[simp] theorem Dev.setLoop_snap (f : Loop → Loop) : (d.setLoop f).snap = d.snap := (rfl)

@[simp] theorem Dev.setTrace_trace (f : Trace → Trace) : (d.setTrace f).trace = f d.trace := (rfl)
@[simp] theorem Dev.setTrace_time (f : Trace → Trace) : (d.setTrace f).time = d.time := (rfl)
@[simp] theorem Dev.setTrace_ev (f : Trace → Trace) : (d.setTrace f).ev = d.ev := (rfl)
@[simp] theorem Dev.setTrace_sram (f : Trace → Trace) : (d.setTrace f).sram = d.sram := (rfl)
@[simp] theorem Dev.setTrace_memory (f : Trace → Trace) : (d.setTrace f).memory = d.memory := (rfl)
@[simp] theorem Dev.setTrace_arr (f : Trace → Trace) : (d.setTrace f).arr = d.arr := (rfl)
@[simp] theorem Dev.setTrace_cyc (f : Trace → Trace) : (d.setTrace f).cyc = d.cyc := (rfl)
@[simp] theorem Dev.setTrace_rd (f : Trace → Trace) : (d.setTrace f).rd = d.rd := (rfl)
@[simp] theorem Dev.setTrace_drv (f : Trace → Trace) : (d.setTrace f).drv = d.drv := (rfl)
@[simp] theorem Dev.setTrace_loop (f : Trace → Trace) : (d.setTrace f).loop = d.loop := (rfl)
@[simp] theorem Dev.setTrace_cal (f : Trace → Trace) : (d.setTrace f).cal = d.cal := (rfl)
@[simp] theorem Dev.setTrace_fab (f : Trace → Trace) : (d.setTrace f).fab = d.fab := (rfl)
@[simp] theorem Dev.setTrace_solve (f : Trace → Trace) : (d.setTrace f).solve = d.solve := (rfl)
@[simp] theorem Dev.setTrace_circ (f : Trace → Trace) : (d.setTrace f).circ = d.circ := (rfl)
@[simp] theorem Dev.setTrace_ver (f : Trace → Trace) : (d.setTrace f).ver = d.ver := (rfl)
@[simp] theorem Dev.setTrace_dec (f : Trace → Trace) : (d.setTrace f).dec = d.dec := (rfl)
@[simp] theorem Dev.setTrace_lab (f : Trace → Trace) : (d.setTrace f).lab = d.lab := (rfl)
@[simp] theorem Dev.setTrace_net (f : Trace → Trace) : (d.setTrace f).net = d.net := (rfl)
@[simp] theorem Dev.setTrace_traf (f : Trace → Trace) : (d.setTrace f).traf = d.traf := (rfl)
@[simp] theorem Dev.setTrace_req (f : Trace → Trace) : (d.setTrace f).req = d.req := (rfl)
@[simp] theorem Dev.setTrace_tow (f : Trace → Trace) : (d.setTrace f).tow = d.tow := (rfl)
@[simp] theorem Dev.setTrace_therm (f : Trace → Trace) : (d.setTrace f).therm = d.therm := (rfl)
@[simp] theorem Dev.setTrace_boot (f : Trace → Trace) : (d.setTrace f).boot = d.boot := (rfl)
@[simp] theorem Dev.setTrace_cfg (f : Trace → Trace) : (d.setTrace f).cfg = d.cfg := (rfl)
@[simp] theorem Dev.setTrace_free (f : Trace → Trace) : (d.setTrace f).free = d.free := (rfl)
@[simp] theorem Dev.setTrace_snap (f : Trace → Trace) : (d.setTrace f).snap = d.snap := (rfl)

@[simp] theorem Dev.setCal_cal (f : Calib → Calib) : (d.setCal f).cal = f d.cal := (rfl)
@[simp] theorem Dev.setCal_time (f : Calib → Calib) : (d.setCal f).time = d.time := (rfl)
@[simp] theorem Dev.setCal_ev (f : Calib → Calib) : (d.setCal f).ev = d.ev := (rfl)
@[simp] theorem Dev.setCal_sram (f : Calib → Calib) : (d.setCal f).sram = d.sram := (rfl)
@[simp] theorem Dev.setCal_memory (f : Calib → Calib) : (d.setCal f).memory = d.memory := (rfl)
@[simp] theorem Dev.setCal_arr (f : Calib → Calib) : (d.setCal f).arr = d.arr := (rfl)
@[simp] theorem Dev.setCal_cyc (f : Calib → Calib) : (d.setCal f).cyc = d.cyc := (rfl)
@[simp] theorem Dev.setCal_rd (f : Calib → Calib) : (d.setCal f).rd = d.rd := (rfl)
@[simp] theorem Dev.setCal_drv (f : Calib → Calib) : (d.setCal f).drv = d.drv := (rfl)
@[simp] theorem Dev.setCal_loop (f : Calib → Calib) : (d.setCal f).loop = d.loop := (rfl)
@[simp] theorem Dev.setCal_trace (f : Calib → Calib) : (d.setCal f).trace = d.trace := (rfl)
@[simp] theorem Dev.setCal_fab (f : Calib → Calib) : (d.setCal f).fab = d.fab := (rfl)
@[simp] theorem Dev.setCal_solve (f : Calib → Calib) : (d.setCal f).solve = d.solve := (rfl)
@[simp] theorem Dev.setCal_circ (f : Calib → Calib) : (d.setCal f).circ = d.circ := (rfl)
@[simp] theorem Dev.setCal_ver (f : Calib → Calib) : (d.setCal f).ver = d.ver := (rfl)
@[simp] theorem Dev.setCal_dec (f : Calib → Calib) : (d.setCal f).dec = d.dec := (rfl)
@[simp] theorem Dev.setCal_lab (f : Calib → Calib) : (d.setCal f).lab = d.lab := (rfl)
@[simp] theorem Dev.setCal_net (f : Calib → Calib) : (d.setCal f).net = d.net := (rfl)
@[simp] theorem Dev.setCal_traf (f : Calib → Calib) : (d.setCal f).traf = d.traf := (rfl)
@[simp] theorem Dev.setCal_req (f : Calib → Calib) : (d.setCal f).req = d.req := (rfl)
@[simp] theorem Dev.setCal_tow (f : Calib → Calib) : (d.setCal f).tow = d.tow := (rfl)
@[simp] theorem Dev.setCal_therm (f : Calib → Calib) : (d.setCal f).therm = d.therm := (rfl)
@[simp] theorem Dev.setCal_boot (f : Calib → Calib) : (d.setCal f).boot = d.boot := (rfl)
@[simp] theorem Dev.setCal_cfg (f : Calib → Calib) : (d.setCal f).cfg = d.cfg := (rfl)
@[simp] theorem Dev.setCal_free (f : Calib → Calib) : (d.setCal f).free = d.free := (rfl)
@[simp] theorem Dev.setCal_snap (f : Calib → Calib) : (d.setCal f).snap = d.snap := (rfl)

@[simp] theorem Dev.setFab_fab (f : Fabric → Fabric) : (d.setFab f).fab = f d.fab := (rfl)
@[simp] theorem Dev.setFab_time (f : Fabric → Fabric) : (d.setFab f).time = d.time := (rfl)
@[simp] theorem Dev.setFab_ev (f : Fabric → Fabric) : (d.setFab f).ev = d.ev := (rfl)
@[simp] theorem Dev.setFab_sram (f : Fabric → Fabric) : (d.setFab f).sram = d.sram := (rfl)
@[simp] theorem Dev.setFab_memory (f : Fabric → Fabric) : (d.setFab f).memory = d.memory := (rfl)
@[simp] theorem Dev.setFab_arr (f : Fabric → Fabric) : (d.setFab f).arr = d.arr := (rfl)
@[simp] theorem Dev.setFab_cyc (f : Fabric → Fabric) : (d.setFab f).cyc = d.cyc := (rfl)
@[simp] theorem Dev.setFab_rd (f : Fabric → Fabric) : (d.setFab f).rd = d.rd := (rfl)
@[simp] theorem Dev.setFab_drv (f : Fabric → Fabric) : (d.setFab f).drv = d.drv := (rfl)
@[simp] theorem Dev.setFab_loop (f : Fabric → Fabric) : (d.setFab f).loop = d.loop := (rfl)
@[simp] theorem Dev.setFab_trace (f : Fabric → Fabric) : (d.setFab f).trace = d.trace := (rfl)
@[simp] theorem Dev.setFab_cal (f : Fabric → Fabric) : (d.setFab f).cal = d.cal := (rfl)
@[simp] theorem Dev.setFab_solve (f : Fabric → Fabric) : (d.setFab f).solve = d.solve := (rfl)
@[simp] theorem Dev.setFab_circ (f : Fabric → Fabric) : (d.setFab f).circ = d.circ := (rfl)
@[simp] theorem Dev.setFab_ver (f : Fabric → Fabric) : (d.setFab f).ver = d.ver := (rfl)
@[simp] theorem Dev.setFab_dec (f : Fabric → Fabric) : (d.setFab f).dec = d.dec := (rfl)
@[simp] theorem Dev.setFab_lab (f : Fabric → Fabric) : (d.setFab f).lab = d.lab := (rfl)
@[simp] theorem Dev.setFab_net (f : Fabric → Fabric) : (d.setFab f).net = d.net := (rfl)
@[simp] theorem Dev.setFab_traf (f : Fabric → Fabric) : (d.setFab f).traf = d.traf := (rfl)
@[simp] theorem Dev.setFab_req (f : Fabric → Fabric) : (d.setFab f).req = d.req := (rfl)
@[simp] theorem Dev.setFab_tow (f : Fabric → Fabric) : (d.setFab f).tow = d.tow := (rfl)
@[simp] theorem Dev.setFab_therm (f : Fabric → Fabric) : (d.setFab f).therm = d.therm := (rfl)
@[simp] theorem Dev.setFab_boot (f : Fabric → Fabric) : (d.setFab f).boot = d.boot := (rfl)
@[simp] theorem Dev.setFab_cfg (f : Fabric → Fabric) : (d.setFab f).cfg = d.cfg := (rfl)
@[simp] theorem Dev.setFab_free (f : Fabric → Fabric) : (d.setFab f).free = d.free := (rfl)
@[simp] theorem Dev.setFab_snap (f : Fabric → Fabric) : (d.setFab f).snap = d.snap := (rfl)

@[simp] theorem Dev.setSolve_solve (f : Solver → Solver) : (d.setSolve f).solve = f d.solve := (rfl)
@[simp] theorem Dev.setSolve_time (f : Solver → Solver) : (d.setSolve f).time = d.time := (rfl)
@[simp] theorem Dev.setSolve_ev (f : Solver → Solver) : (d.setSolve f).ev = d.ev := (rfl)
@[simp] theorem Dev.setSolve_sram (f : Solver → Solver) : (d.setSolve f).sram = d.sram := (rfl)
@[simp] theorem Dev.setSolve_memory (f : Solver → Solver) : (d.setSolve f).memory = d.memory := (rfl)
@[simp] theorem Dev.setSolve_arr (f : Solver → Solver) : (d.setSolve f).arr = d.arr := (rfl)
@[simp] theorem Dev.setSolve_cyc (f : Solver → Solver) : (d.setSolve f).cyc = d.cyc := (rfl)
@[simp] theorem Dev.setSolve_rd (f : Solver → Solver) : (d.setSolve f).rd = d.rd := (rfl)
@[simp] theorem Dev.setSolve_drv (f : Solver → Solver) : (d.setSolve f).drv = d.drv := (rfl)
@[simp] theorem Dev.setSolve_loop (f : Solver → Solver) : (d.setSolve f).loop = d.loop := (rfl)
@[simp] theorem Dev.setSolve_trace (f : Solver → Solver) : (d.setSolve f).trace = d.trace := (rfl)
@[simp] theorem Dev.setSolve_cal (f : Solver → Solver) : (d.setSolve f).cal = d.cal := (rfl)
@[simp] theorem Dev.setSolve_fab (f : Solver → Solver) : (d.setSolve f).fab = d.fab := (rfl)
@[simp] theorem Dev.setSolve_circ (f : Solver → Solver) : (d.setSolve f).circ = d.circ := (rfl)
@[simp] theorem Dev.setSolve_ver (f : Solver → Solver) : (d.setSolve f).ver = d.ver := (rfl)
@[simp] theorem Dev.setSolve_dec (f : Solver → Solver) : (d.setSolve f).dec = d.dec := (rfl)
@[simp] theorem Dev.setSolve_lab (f : Solver → Solver) : (d.setSolve f).lab = d.lab := (rfl)
@[simp] theorem Dev.setSolve_net (f : Solver → Solver) : (d.setSolve f).net = d.net := (rfl)
@[simp] theorem Dev.setSolve_traf (f : Solver → Solver) : (d.setSolve f).traf = d.traf := (rfl)
@[simp] theorem Dev.setSolve_req (f : Solver → Solver) : (d.setSolve f).req = d.req := (rfl)
@[simp] theorem Dev.setSolve_tow (f : Solver → Solver) : (d.setSolve f).tow = d.tow := (rfl)
@[simp] theorem Dev.setSolve_therm (f : Solver → Solver) : (d.setSolve f).therm = d.therm := (rfl)
@[simp] theorem Dev.setSolve_boot (f : Solver → Solver) : (d.setSolve f).boot = d.boot := (rfl)
@[simp] theorem Dev.setSolve_cfg (f : Solver → Solver) : (d.setSolve f).cfg = d.cfg := (rfl)
@[simp] theorem Dev.setSolve_free (f : Solver → Solver) : (d.setSolve f).free = d.free := (rfl)
@[simp] theorem Dev.setSolve_snap (f : Solver → Solver) : (d.setSolve f).snap = d.snap := (rfl)

@[simp] theorem Dev.setCirc_circ (f : Circuits → Circuits) : (d.setCirc f).circ = f d.circ := (rfl)
@[simp] theorem Dev.setCirc_time (f : Circuits → Circuits) : (d.setCirc f).time = d.time := (rfl)
@[simp] theorem Dev.setCirc_ev (f : Circuits → Circuits) : (d.setCirc f).ev = d.ev := (rfl)
@[simp] theorem Dev.setCirc_sram (f : Circuits → Circuits) : (d.setCirc f).sram = d.sram := (rfl)
@[simp] theorem Dev.setCirc_memory (f : Circuits → Circuits) : (d.setCirc f).memory = d.memory := (rfl)
@[simp] theorem Dev.setCirc_arr (f : Circuits → Circuits) : (d.setCirc f).arr = d.arr := (rfl)
@[simp] theorem Dev.setCirc_cyc (f : Circuits → Circuits) : (d.setCirc f).cyc = d.cyc := (rfl)
@[simp] theorem Dev.setCirc_rd (f : Circuits → Circuits) : (d.setCirc f).rd = d.rd := (rfl)
@[simp] theorem Dev.setCirc_drv (f : Circuits → Circuits) : (d.setCirc f).drv = d.drv := (rfl)
@[simp] theorem Dev.setCirc_loop (f : Circuits → Circuits) : (d.setCirc f).loop = d.loop := (rfl)
@[simp] theorem Dev.setCirc_trace (f : Circuits → Circuits) : (d.setCirc f).trace = d.trace := (rfl)
@[simp] theorem Dev.setCirc_cal (f : Circuits → Circuits) : (d.setCirc f).cal = d.cal := (rfl)
@[simp] theorem Dev.setCirc_fab (f : Circuits → Circuits) : (d.setCirc f).fab = d.fab := (rfl)
@[simp] theorem Dev.setCirc_solve (f : Circuits → Circuits) : (d.setCirc f).solve = d.solve := (rfl)
@[simp] theorem Dev.setCirc_ver (f : Circuits → Circuits) : (d.setCirc f).ver = d.ver := (rfl)
@[simp] theorem Dev.setCirc_dec (f : Circuits → Circuits) : (d.setCirc f).dec = d.dec := (rfl)
@[simp] theorem Dev.setCirc_lab (f : Circuits → Circuits) : (d.setCirc f).lab = d.lab := (rfl)
@[simp] theorem Dev.setCirc_net (f : Circuits → Circuits) : (d.setCirc f).net = d.net := (rfl)
@[simp] theorem Dev.setCirc_traf (f : Circuits → Circuits) : (d.setCirc f).traf = d.traf := (rfl)
@[simp] theorem Dev.setCirc_req (f : Circuits → Circuits) : (d.setCirc f).req = d.req := (rfl)
@[simp] theorem Dev.setCirc_tow (f : Circuits → Circuits) : (d.setCirc f).tow = d.tow := (rfl)
@[simp] theorem Dev.setCirc_therm (f : Circuits → Circuits) : (d.setCirc f).therm = d.therm := (rfl)
@[simp] theorem Dev.setCirc_boot (f : Circuits → Circuits) : (d.setCirc f).boot = d.boot := (rfl)
@[simp] theorem Dev.setCirc_cfg (f : Circuits → Circuits) : (d.setCirc f).cfg = d.cfg := (rfl)
@[simp] theorem Dev.setCirc_free (f : Circuits → Circuits) : (d.setCirc f).free = d.free := (rfl)
@[simp] theorem Dev.setCirc_snap (f : Circuits → Circuits) : (d.setCirc f).snap = d.snap := (rfl)

@[simp] theorem Dev.setVer_ver (f : Verify → Verify) : (d.setVer f).ver = f d.ver := (rfl)
@[simp] theorem Dev.setVer_time (f : Verify → Verify) : (d.setVer f).time = d.time := (rfl)
@[simp] theorem Dev.setVer_ev (f : Verify → Verify) : (d.setVer f).ev = d.ev := (rfl)
@[simp] theorem Dev.setVer_sram (f : Verify → Verify) : (d.setVer f).sram = d.sram := (rfl)
@[simp] theorem Dev.setVer_memory (f : Verify → Verify) : (d.setVer f).memory = d.memory := (rfl)
@[simp] theorem Dev.setVer_arr (f : Verify → Verify) : (d.setVer f).arr = d.arr := (rfl)
@[simp] theorem Dev.setVer_cyc (f : Verify → Verify) : (d.setVer f).cyc = d.cyc := (rfl)
@[simp] theorem Dev.setVer_rd (f : Verify → Verify) : (d.setVer f).rd = d.rd := (rfl)
@[simp] theorem Dev.setVer_drv (f : Verify → Verify) : (d.setVer f).drv = d.drv := (rfl)
@[simp] theorem Dev.setVer_loop (f : Verify → Verify) : (d.setVer f).loop = d.loop := (rfl)
@[simp] theorem Dev.setVer_trace (f : Verify → Verify) : (d.setVer f).trace = d.trace := (rfl)
@[simp] theorem Dev.setVer_cal (f : Verify → Verify) : (d.setVer f).cal = d.cal := (rfl)
@[simp] theorem Dev.setVer_fab (f : Verify → Verify) : (d.setVer f).fab = d.fab := (rfl)
@[simp] theorem Dev.setVer_solve (f : Verify → Verify) : (d.setVer f).solve = d.solve := (rfl)
@[simp] theorem Dev.setVer_circ (f : Verify → Verify) : (d.setVer f).circ = d.circ := (rfl)
@[simp] theorem Dev.setVer_dec (f : Verify → Verify) : (d.setVer f).dec = d.dec := (rfl)
@[simp] theorem Dev.setVer_lab (f : Verify → Verify) : (d.setVer f).lab = d.lab := (rfl)
@[simp] theorem Dev.setVer_net (f : Verify → Verify) : (d.setVer f).net = d.net := (rfl)
@[simp] theorem Dev.setVer_traf (f : Verify → Verify) : (d.setVer f).traf = d.traf := (rfl)
@[simp] theorem Dev.setVer_req (f : Verify → Verify) : (d.setVer f).req = d.req := (rfl)
@[simp] theorem Dev.setVer_tow (f : Verify → Verify) : (d.setVer f).tow = d.tow := (rfl)
@[simp] theorem Dev.setVer_therm (f : Verify → Verify) : (d.setVer f).therm = d.therm := (rfl)
@[simp] theorem Dev.setVer_boot (f : Verify → Verify) : (d.setVer f).boot = d.boot := (rfl)
@[simp] theorem Dev.setVer_cfg (f : Verify → Verify) : (d.setVer f).cfg = d.cfg := (rfl)
@[simp] theorem Dev.setVer_free (f : Verify → Verify) : (d.setVer f).free = d.free := (rfl)
@[simp] theorem Dev.setVer_snap (f : Verify → Verify) : (d.setVer f).snap = d.snap := (rfl)

@[simp] theorem Dev.setDec_dec (f : Decoder → Decoder) : (d.setDec f).dec = f d.dec := (rfl)
@[simp] theorem Dev.setDec_time (f : Decoder → Decoder) : (d.setDec f).time = d.time := (rfl)
@[simp] theorem Dev.setDec_ev (f : Decoder → Decoder) : (d.setDec f).ev = d.ev := (rfl)
@[simp] theorem Dev.setDec_sram (f : Decoder → Decoder) : (d.setDec f).sram = d.sram := (rfl)
@[simp] theorem Dev.setDec_memory (f : Decoder → Decoder) : (d.setDec f).memory = d.memory := (rfl)
@[simp] theorem Dev.setDec_arr (f : Decoder → Decoder) : (d.setDec f).arr = d.arr := (rfl)
@[simp] theorem Dev.setDec_cyc (f : Decoder → Decoder) : (d.setDec f).cyc = d.cyc := (rfl)
@[simp] theorem Dev.setDec_rd (f : Decoder → Decoder) : (d.setDec f).rd = d.rd := (rfl)
@[simp] theorem Dev.setDec_drv (f : Decoder → Decoder) : (d.setDec f).drv = d.drv := (rfl)
@[simp] theorem Dev.setDec_loop (f : Decoder → Decoder) : (d.setDec f).loop = d.loop := (rfl)
@[simp] theorem Dev.setDec_trace (f : Decoder → Decoder) : (d.setDec f).trace = d.trace := (rfl)
@[simp] theorem Dev.setDec_cal (f : Decoder → Decoder) : (d.setDec f).cal = d.cal := (rfl)
@[simp] theorem Dev.setDec_fab (f : Decoder → Decoder) : (d.setDec f).fab = d.fab := (rfl)
@[simp] theorem Dev.setDec_solve (f : Decoder → Decoder) : (d.setDec f).solve = d.solve := (rfl)
@[simp] theorem Dev.setDec_circ (f : Decoder → Decoder) : (d.setDec f).circ = d.circ := (rfl)
@[simp] theorem Dev.setDec_ver (f : Decoder → Decoder) : (d.setDec f).ver = d.ver := (rfl)
@[simp] theorem Dev.setDec_lab (f : Decoder → Decoder) : (d.setDec f).lab = d.lab := (rfl)
@[simp] theorem Dev.setDec_net (f : Decoder → Decoder) : (d.setDec f).net = d.net := (rfl)
@[simp] theorem Dev.setDec_traf (f : Decoder → Decoder) : (d.setDec f).traf = d.traf := (rfl)
@[simp] theorem Dev.setDec_req (f : Decoder → Decoder) : (d.setDec f).req = d.req := (rfl)
@[simp] theorem Dev.setDec_tow (f : Decoder → Decoder) : (d.setDec f).tow = d.tow := (rfl)
@[simp] theorem Dev.setDec_therm (f : Decoder → Decoder) : (d.setDec f).therm = d.therm := (rfl)
@[simp] theorem Dev.setDec_boot (f : Decoder → Decoder) : (d.setDec f).boot = d.boot := (rfl)
@[simp] theorem Dev.setDec_cfg (f : Decoder → Decoder) : (d.setDec f).cfg = d.cfg := (rfl)
@[simp] theorem Dev.setDec_free (f : Decoder → Decoder) : (d.setDec f).free = d.free := (rfl)
@[simp] theorem Dev.setDec_snap (f : Decoder → Decoder) : (d.setDec f).snap = d.snap := (rfl)

@[simp] theorem Dev.setLab_lab (f : LabelTable → LabelTable) : (d.setLab f).lab = f d.lab := (rfl)
@[simp] theorem Dev.setLab_time (f : LabelTable → LabelTable) : (d.setLab f).time = d.time := (rfl)
@[simp] theorem Dev.setLab_ev (f : LabelTable → LabelTable) : (d.setLab f).ev = d.ev := (rfl)
@[simp] theorem Dev.setLab_sram (f : LabelTable → LabelTable) : (d.setLab f).sram = d.sram := (rfl)
@[simp] theorem Dev.setLab_memory (f : LabelTable → LabelTable) : (d.setLab f).memory = d.memory := (rfl)
@[simp] theorem Dev.setLab_arr (f : LabelTable → LabelTable) : (d.setLab f).arr = d.arr := (rfl)
@[simp] theorem Dev.setLab_cyc (f : LabelTable → LabelTable) : (d.setLab f).cyc = d.cyc := (rfl)
@[simp] theorem Dev.setLab_rd (f : LabelTable → LabelTable) : (d.setLab f).rd = d.rd := (rfl)
@[simp] theorem Dev.setLab_drv (f : LabelTable → LabelTable) : (d.setLab f).drv = d.drv := (rfl)
@[simp] theorem Dev.setLab_loop (f : LabelTable → LabelTable) : (d.setLab f).loop = d.loop := (rfl)
@[simp] theorem Dev.setLab_trace (f : LabelTable → LabelTable) : (d.setLab f).trace = d.trace := (rfl)
@[simp] theorem Dev.setLab_cal (f : LabelTable → LabelTable) : (d.setLab f).cal = d.cal := (rfl)
@[simp] theorem Dev.setLab_fab (f : LabelTable → LabelTable) : (d.setLab f).fab = d.fab := (rfl)
@[simp] theorem Dev.setLab_solve (f : LabelTable → LabelTable) : (d.setLab f).solve = d.solve := (rfl)
@[simp] theorem Dev.setLab_circ (f : LabelTable → LabelTable) : (d.setLab f).circ = d.circ := (rfl)
@[simp] theorem Dev.setLab_ver (f : LabelTable → LabelTable) : (d.setLab f).ver = d.ver := (rfl)
@[simp] theorem Dev.setLab_dec (f : LabelTable → LabelTable) : (d.setLab f).dec = d.dec := (rfl)
@[simp] theorem Dev.setLab_net (f : LabelTable → LabelTable) : (d.setLab f).net = d.net := (rfl)
@[simp] theorem Dev.setLab_traf (f : LabelTable → LabelTable) : (d.setLab f).traf = d.traf := (rfl)
@[simp] theorem Dev.setLab_req (f : LabelTable → LabelTable) : (d.setLab f).req = d.req := (rfl)
@[simp] theorem Dev.setLab_tow (f : LabelTable → LabelTable) : (d.setLab f).tow = d.tow := (rfl)
@[simp] theorem Dev.setLab_therm (f : LabelTable → LabelTable) : (d.setLab f).therm = d.therm := (rfl)
@[simp] theorem Dev.setLab_boot (f : LabelTable → LabelTable) : (d.setLab f).boot = d.boot := (rfl)
@[simp] theorem Dev.setLab_cfg (f : LabelTable → LabelTable) : (d.setLab f).cfg = d.cfg := (rfl)
@[simp] theorem Dev.setLab_free (f : LabelTable → LabelTable) : (d.setLab f).free = d.free := (rfl)
@[simp] theorem Dev.setLab_snap (f : LabelTable → LabelTable) : (d.setLab f).snap = d.snap := (rfl)

@[simp] theorem Dev.setNet_net (f : Net → Net) : (d.setNet f).net = f d.net := (rfl)
@[simp] theorem Dev.setNet_time (f : Net → Net) : (d.setNet f).time = d.time := (rfl)
@[simp] theorem Dev.setNet_ev (f : Net → Net) : (d.setNet f).ev = d.ev := (rfl)
@[simp] theorem Dev.setNet_sram (f : Net → Net) : (d.setNet f).sram = d.sram := (rfl)
@[simp] theorem Dev.setNet_memory (f : Net → Net) : (d.setNet f).memory = d.memory := (rfl)
@[simp] theorem Dev.setNet_arr (f : Net → Net) : (d.setNet f).arr = d.arr := (rfl)
@[simp] theorem Dev.setNet_cyc (f : Net → Net) : (d.setNet f).cyc = d.cyc := (rfl)
@[simp] theorem Dev.setNet_rd (f : Net → Net) : (d.setNet f).rd = d.rd := (rfl)
@[simp] theorem Dev.setNet_drv (f : Net → Net) : (d.setNet f).drv = d.drv := (rfl)
@[simp] theorem Dev.setNet_loop (f : Net → Net) : (d.setNet f).loop = d.loop := (rfl)
@[simp] theorem Dev.setNet_trace (f : Net → Net) : (d.setNet f).trace = d.trace := (rfl)
@[simp] theorem Dev.setNet_cal (f : Net → Net) : (d.setNet f).cal = d.cal := (rfl)
@[simp] theorem Dev.setNet_fab (f : Net → Net) : (d.setNet f).fab = d.fab := (rfl)
@[simp] theorem Dev.setNet_solve (f : Net → Net) : (d.setNet f).solve = d.solve := (rfl)
@[simp] theorem Dev.setNet_circ (f : Net → Net) : (d.setNet f).circ = d.circ := (rfl)
@[simp] theorem Dev.setNet_ver (f : Net → Net) : (d.setNet f).ver = d.ver := (rfl)
@[simp] theorem Dev.setNet_dec (f : Net → Net) : (d.setNet f).dec = d.dec := (rfl)
@[simp] theorem Dev.setNet_lab (f : Net → Net) : (d.setNet f).lab = d.lab := (rfl)
@[simp] theorem Dev.setNet_traf (f : Net → Net) : (d.setNet f).traf = d.traf := (rfl)
@[simp] theorem Dev.setNet_req (f : Net → Net) : (d.setNet f).req = d.req := (rfl)
@[simp] theorem Dev.setNet_tow (f : Net → Net) : (d.setNet f).tow = d.tow := (rfl)
@[simp] theorem Dev.setNet_therm (f : Net → Net) : (d.setNet f).therm = d.therm := (rfl)
@[simp] theorem Dev.setNet_boot (f : Net → Net) : (d.setNet f).boot = d.boot := (rfl)
@[simp] theorem Dev.setNet_cfg (f : Net → Net) : (d.setNet f).cfg = d.cfg := (rfl)
@[simp] theorem Dev.setNet_free (f : Net → Net) : (d.setNet f).free = d.free := (rfl)
@[simp] theorem Dev.setNet_snap (f : Net → Net) : (d.setNet f).snap = d.snap := (rfl)

@[simp] theorem Dev.setReq_req (f : Requests → Requests) : (d.setReq f).req = f d.req := (rfl)
@[simp] theorem Dev.setReq_time (f : Requests → Requests) : (d.setReq f).time = d.time := (rfl)
@[simp] theorem Dev.setReq_ev (f : Requests → Requests) : (d.setReq f).ev = d.ev := (rfl)
@[simp] theorem Dev.setReq_sram (f : Requests → Requests) : (d.setReq f).sram = d.sram := (rfl)
@[simp] theorem Dev.setReq_memory (f : Requests → Requests) : (d.setReq f).memory = d.memory := (rfl)
@[simp] theorem Dev.setReq_arr (f : Requests → Requests) : (d.setReq f).arr = d.arr := (rfl)
@[simp] theorem Dev.setReq_cyc (f : Requests → Requests) : (d.setReq f).cyc = d.cyc := (rfl)
@[simp] theorem Dev.setReq_rd (f : Requests → Requests) : (d.setReq f).rd = d.rd := (rfl)
@[simp] theorem Dev.setReq_drv (f : Requests → Requests) : (d.setReq f).drv = d.drv := (rfl)
@[simp] theorem Dev.setReq_loop (f : Requests → Requests) : (d.setReq f).loop = d.loop := (rfl)
@[simp] theorem Dev.setReq_trace (f : Requests → Requests) : (d.setReq f).trace = d.trace := (rfl)
@[simp] theorem Dev.setReq_cal (f : Requests → Requests) : (d.setReq f).cal = d.cal := (rfl)
@[simp] theorem Dev.setReq_fab (f : Requests → Requests) : (d.setReq f).fab = d.fab := (rfl)
@[simp] theorem Dev.setReq_solve (f : Requests → Requests) : (d.setReq f).solve = d.solve := (rfl)
@[simp] theorem Dev.setReq_circ (f : Requests → Requests) : (d.setReq f).circ = d.circ := (rfl)
@[simp] theorem Dev.setReq_ver (f : Requests → Requests) : (d.setReq f).ver = d.ver := (rfl)
@[simp] theorem Dev.setReq_dec (f : Requests → Requests) : (d.setReq f).dec = d.dec := (rfl)
@[simp] theorem Dev.setReq_lab (f : Requests → Requests) : (d.setReq f).lab = d.lab := (rfl)
@[simp] theorem Dev.setReq_net (f : Requests → Requests) : (d.setReq f).net = d.net := (rfl)
@[simp] theorem Dev.setReq_traf (f : Requests → Requests) : (d.setReq f).traf = d.traf := (rfl)
@[simp] theorem Dev.setReq_tow (f : Requests → Requests) : (d.setReq f).tow = d.tow := (rfl)
@[simp] theorem Dev.setReq_therm (f : Requests → Requests) : (d.setReq f).therm = d.therm := (rfl)
@[simp] theorem Dev.setReq_boot (f : Requests → Requests) : (d.setReq f).boot = d.boot := (rfl)
@[simp] theorem Dev.setReq_cfg (f : Requests → Requests) : (d.setReq f).cfg = d.cfg := (rfl)
@[simp] theorem Dev.setReq_free (f : Requests → Requests) : (d.setReq f).free = d.free := (rfl)
@[simp] theorem Dev.setReq_snap (f : Requests → Requests) : (d.setReq f).snap = d.snap := (rfl)

@[simp] theorem Dev.setTow_tow (f : Tower → Tower) : (d.setTow f).tow = f d.tow := (rfl)
@[simp] theorem Dev.setTow_time (f : Tower → Tower) : (d.setTow f).time = d.time := (rfl)
@[simp] theorem Dev.setTow_ev (f : Tower → Tower) : (d.setTow f).ev = d.ev := (rfl)
@[simp] theorem Dev.setTow_sram (f : Tower → Tower) : (d.setTow f).sram = d.sram := (rfl)
@[simp] theorem Dev.setTow_memory (f : Tower → Tower) : (d.setTow f).memory = d.memory := (rfl)
@[simp] theorem Dev.setTow_arr (f : Tower → Tower) : (d.setTow f).arr = d.arr := (rfl)
@[simp] theorem Dev.setTow_cyc (f : Tower → Tower) : (d.setTow f).cyc = d.cyc := (rfl)
@[simp] theorem Dev.setTow_rd (f : Tower → Tower) : (d.setTow f).rd = d.rd := (rfl)
@[simp] theorem Dev.setTow_drv (f : Tower → Tower) : (d.setTow f).drv = d.drv := (rfl)
@[simp] theorem Dev.setTow_loop (f : Tower → Tower) : (d.setTow f).loop = d.loop := (rfl)
@[simp] theorem Dev.setTow_trace (f : Tower → Tower) : (d.setTow f).trace = d.trace := (rfl)
@[simp] theorem Dev.setTow_cal (f : Tower → Tower) : (d.setTow f).cal = d.cal := (rfl)
@[simp] theorem Dev.setTow_fab (f : Tower → Tower) : (d.setTow f).fab = d.fab := (rfl)
@[simp] theorem Dev.setTow_solve (f : Tower → Tower) : (d.setTow f).solve = d.solve := (rfl)
@[simp] theorem Dev.setTow_circ (f : Tower → Tower) : (d.setTow f).circ = d.circ := (rfl)
@[simp] theorem Dev.setTow_ver (f : Tower → Tower) : (d.setTow f).ver = d.ver := (rfl)
@[simp] theorem Dev.setTow_dec (f : Tower → Tower) : (d.setTow f).dec = d.dec := (rfl)
@[simp] theorem Dev.setTow_lab (f : Tower → Tower) : (d.setTow f).lab = d.lab := (rfl)
@[simp] theorem Dev.setTow_net (f : Tower → Tower) : (d.setTow f).net = d.net := (rfl)
@[simp] theorem Dev.setTow_traf (f : Tower → Tower) : (d.setTow f).traf = d.traf := (rfl)
@[simp] theorem Dev.setTow_req (f : Tower → Tower) : (d.setTow f).req = d.req := (rfl)
@[simp] theorem Dev.setTow_therm (f : Tower → Tower) : (d.setTow f).therm = d.therm := (rfl)
@[simp] theorem Dev.setTow_boot (f : Tower → Tower) : (d.setTow f).boot = d.boot := (rfl)
@[simp] theorem Dev.setTow_cfg (f : Tower → Tower) : (d.setTow f).cfg = d.cfg := (rfl)
@[simp] theorem Dev.setTow_free (f : Tower → Tower) : (d.setTow f).free = d.free := (rfl)
@[simp] theorem Dev.setTow_snap (f : Tower → Tower) : (d.setTow f).snap = d.snap := (rfl)

@[simp] theorem Dev.setTherm_therm (f : Thermal → Thermal) : (d.setTherm f).therm = f d.therm := (rfl)
@[simp] theorem Dev.setTherm_time (f : Thermal → Thermal) : (d.setTherm f).time = d.time := (rfl)
@[simp] theorem Dev.setTherm_ev (f : Thermal → Thermal) : (d.setTherm f).ev = d.ev := (rfl)
@[simp] theorem Dev.setTherm_sram (f : Thermal → Thermal) : (d.setTherm f).sram = d.sram := (rfl)
@[simp] theorem Dev.setTherm_memory (f : Thermal → Thermal) : (d.setTherm f).memory = d.memory := (rfl)
@[simp] theorem Dev.setTherm_arr (f : Thermal → Thermal) : (d.setTherm f).arr = d.arr := (rfl)
@[simp] theorem Dev.setTherm_cyc (f : Thermal → Thermal) : (d.setTherm f).cyc = d.cyc := (rfl)
@[simp] theorem Dev.setTherm_rd (f : Thermal → Thermal) : (d.setTherm f).rd = d.rd := (rfl)
@[simp] theorem Dev.setTherm_drv (f : Thermal → Thermal) : (d.setTherm f).drv = d.drv := (rfl)
@[simp] theorem Dev.setTherm_loop (f : Thermal → Thermal) : (d.setTherm f).loop = d.loop := (rfl)
@[simp] theorem Dev.setTherm_trace (f : Thermal → Thermal) : (d.setTherm f).trace = d.trace := (rfl)
@[simp] theorem Dev.setTherm_cal (f : Thermal → Thermal) : (d.setTherm f).cal = d.cal := (rfl)
@[simp] theorem Dev.setTherm_fab (f : Thermal → Thermal) : (d.setTherm f).fab = d.fab := (rfl)
@[simp] theorem Dev.setTherm_solve (f : Thermal → Thermal) : (d.setTherm f).solve = d.solve := (rfl)
@[simp] theorem Dev.setTherm_circ (f : Thermal → Thermal) : (d.setTherm f).circ = d.circ := (rfl)
@[simp] theorem Dev.setTherm_ver (f : Thermal → Thermal) : (d.setTherm f).ver = d.ver := (rfl)
@[simp] theorem Dev.setTherm_dec (f : Thermal → Thermal) : (d.setTherm f).dec = d.dec := (rfl)
@[simp] theorem Dev.setTherm_lab (f : Thermal → Thermal) : (d.setTherm f).lab = d.lab := (rfl)
@[simp] theorem Dev.setTherm_net (f : Thermal → Thermal) : (d.setTherm f).net = d.net := (rfl)
@[simp] theorem Dev.setTherm_traf (f : Thermal → Thermal) : (d.setTherm f).traf = d.traf := (rfl)
@[simp] theorem Dev.setTherm_req (f : Thermal → Thermal) : (d.setTherm f).req = d.req := (rfl)
@[simp] theorem Dev.setTherm_tow (f : Thermal → Thermal) : (d.setTherm f).tow = d.tow := (rfl)
@[simp] theorem Dev.setTherm_boot (f : Thermal → Thermal) : (d.setTherm f).boot = d.boot := (rfl)
@[simp] theorem Dev.setTherm_cfg (f : Thermal → Thermal) : (d.setTherm f).cfg = d.cfg := (rfl)
@[simp] theorem Dev.setTherm_free (f : Thermal → Thermal) : (d.setTherm f).free = d.free := (rfl)
@[simp] theorem Dev.setTherm_snap (f : Thermal → Thermal) : (d.setTherm f).snap = d.snap := (rfl)

@[simp] theorem Dev.setBoot_boot (f : Boot → Boot) : (d.setBoot f).boot = f d.boot := (rfl)
@[simp] theorem Dev.setBoot_time (f : Boot → Boot) : (d.setBoot f).time = d.time := (rfl)
@[simp] theorem Dev.setBoot_ev (f : Boot → Boot) : (d.setBoot f).ev = d.ev := (rfl)
@[simp] theorem Dev.setBoot_sram (f : Boot → Boot) : (d.setBoot f).sram = d.sram := (rfl)
@[simp] theorem Dev.setBoot_memory (f : Boot → Boot) : (d.setBoot f).memory = d.memory := (rfl)
@[simp] theorem Dev.setBoot_arr (f : Boot → Boot) : (d.setBoot f).arr = d.arr := (rfl)
@[simp] theorem Dev.setBoot_cyc (f : Boot → Boot) : (d.setBoot f).cyc = d.cyc := (rfl)
@[simp] theorem Dev.setBoot_rd (f : Boot → Boot) : (d.setBoot f).rd = d.rd := (rfl)
@[simp] theorem Dev.setBoot_drv (f : Boot → Boot) : (d.setBoot f).drv = d.drv := (rfl)
@[simp] theorem Dev.setBoot_loop (f : Boot → Boot) : (d.setBoot f).loop = d.loop := (rfl)
@[simp] theorem Dev.setBoot_trace (f : Boot → Boot) : (d.setBoot f).trace = d.trace := (rfl)
@[simp] theorem Dev.setBoot_cal (f : Boot → Boot) : (d.setBoot f).cal = d.cal := (rfl)
@[simp] theorem Dev.setBoot_fab (f : Boot → Boot) : (d.setBoot f).fab = d.fab := (rfl)
@[simp] theorem Dev.setBoot_solve (f : Boot → Boot) : (d.setBoot f).solve = d.solve := (rfl)
@[simp] theorem Dev.setBoot_circ (f : Boot → Boot) : (d.setBoot f).circ = d.circ := (rfl)
@[simp] theorem Dev.setBoot_ver (f : Boot → Boot) : (d.setBoot f).ver = d.ver := (rfl)
@[simp] theorem Dev.setBoot_dec (f : Boot → Boot) : (d.setBoot f).dec = d.dec := (rfl)
@[simp] theorem Dev.setBoot_lab (f : Boot → Boot) : (d.setBoot f).lab = d.lab := (rfl)
@[simp] theorem Dev.setBoot_net (f : Boot → Boot) : (d.setBoot f).net = d.net := (rfl)
@[simp] theorem Dev.setBoot_traf (f : Boot → Boot) : (d.setBoot f).traf = d.traf := (rfl)
@[simp] theorem Dev.setBoot_req (f : Boot → Boot) : (d.setBoot f).req = d.req := (rfl)
@[simp] theorem Dev.setBoot_tow (f : Boot → Boot) : (d.setBoot f).tow = d.tow := (rfl)
@[simp] theorem Dev.setBoot_therm (f : Boot → Boot) : (d.setBoot f).therm = d.therm := (rfl)
@[simp] theorem Dev.setBoot_cfg (f : Boot → Boot) : (d.setBoot f).cfg = d.cfg := (rfl)
@[simp] theorem Dev.setBoot_free (f : Boot → Boot) : (d.setBoot f).free = d.free := (rfl)
@[simp] theorem Dev.setBoot_snap (f : Boot → Boot) : (d.setBoot f).snap = d.snap := (rfl)

/-! ## Settings -/

@[simp] theorem Dev.setArrCfg_cfg (f : ArrayCfg → ArrayCfg) : (d.setArrCfg f).cfg = { d.cfg with arr := f d.cfg.arr } := (rfl)
@[simp] theorem Dev.setArrCfg_time (f : ArrayCfg → ArrayCfg) : (d.setArrCfg f).time = d.time := (rfl)
@[simp] theorem Dev.setArrCfg_ev (f : ArrayCfg → ArrayCfg) : (d.setArrCfg f).ev = d.ev := (rfl)
@[simp] theorem Dev.setArrCfg_sram (f : ArrayCfg → ArrayCfg) : (d.setArrCfg f).sram = d.sram := (rfl)
@[simp] theorem Dev.setArrCfg_memory (f : ArrayCfg → ArrayCfg) : (d.setArrCfg f).memory = d.memory := (rfl)
@[simp] theorem Dev.setArrCfg_arr (f : ArrayCfg → ArrayCfg) : (d.setArrCfg f).arr = d.arr := (rfl)
@[simp] theorem Dev.setArrCfg_cyc (f : ArrayCfg → ArrayCfg) : (d.setArrCfg f).cyc = d.cyc := (rfl)
@[simp] theorem Dev.setArrCfg_rd (f : ArrayCfg → ArrayCfg) : (d.setArrCfg f).rd = d.rd := (rfl)
@[simp] theorem Dev.setArrCfg_drv (f : ArrayCfg → ArrayCfg) : (d.setArrCfg f).drv = d.drv := (rfl)
@[simp] theorem Dev.setArrCfg_loop (f : ArrayCfg → ArrayCfg) : (d.setArrCfg f).loop = d.loop := (rfl)
@[simp] theorem Dev.setArrCfg_trace (f : ArrayCfg → ArrayCfg) : (d.setArrCfg f).trace = d.trace := (rfl)
@[simp] theorem Dev.setArrCfg_cal (f : ArrayCfg → ArrayCfg) : (d.setArrCfg f).cal = d.cal := (rfl)
@[simp] theorem Dev.setArrCfg_fab (f : ArrayCfg → ArrayCfg) : (d.setArrCfg f).fab = d.fab := (rfl)
@[simp] theorem Dev.setArrCfg_solve (f : ArrayCfg → ArrayCfg) : (d.setArrCfg f).solve = d.solve := (rfl)
@[simp] theorem Dev.setArrCfg_circ (f : ArrayCfg → ArrayCfg) : (d.setArrCfg f).circ = d.circ := (rfl)
@[simp] theorem Dev.setArrCfg_ver (f : ArrayCfg → ArrayCfg) : (d.setArrCfg f).ver = d.ver := (rfl)
@[simp] theorem Dev.setArrCfg_dec (f : ArrayCfg → ArrayCfg) : (d.setArrCfg f).dec = d.dec := (rfl)
@[simp] theorem Dev.setArrCfg_lab (f : ArrayCfg → ArrayCfg) : (d.setArrCfg f).lab = d.lab := (rfl)
@[simp] theorem Dev.setArrCfg_net (f : ArrayCfg → ArrayCfg) : (d.setArrCfg f).net = d.net := (rfl)
@[simp] theorem Dev.setArrCfg_traf (f : ArrayCfg → ArrayCfg) : (d.setArrCfg f).traf = d.traf := (rfl)
@[simp] theorem Dev.setArrCfg_req (f : ArrayCfg → ArrayCfg) : (d.setArrCfg f).req = d.req := (rfl)
@[simp] theorem Dev.setArrCfg_tow (f : ArrayCfg → ArrayCfg) : (d.setArrCfg f).tow = d.tow := (rfl)
@[simp] theorem Dev.setArrCfg_therm (f : ArrayCfg → ArrayCfg) : (d.setArrCfg f).therm = d.therm := (rfl)
@[simp] theorem Dev.setArrCfg_boot (f : ArrayCfg → ArrayCfg) : (d.setArrCfg f).boot = d.boot := (rfl)
@[simp] theorem Dev.setArrCfg_free (f : ArrayCfg → ArrayCfg) : (d.setArrCfg f).free = d.free := (rfl)
@[simp] theorem Dev.setArrCfg_snap (f : ArrayCfg → ArrayCfg) : (d.setArrCfg f).snap = d.snap := (rfl)

@[simp] theorem Dev.setRdCfg_cfg (f : ReadoutCfg → ReadoutCfg) : (d.setRdCfg f).cfg = { d.cfg with rd := f d.cfg.rd } := (rfl)
@[simp] theorem Dev.setRdCfg_time (f : ReadoutCfg → ReadoutCfg) : (d.setRdCfg f).time = d.time := (rfl)
@[simp] theorem Dev.setRdCfg_ev (f : ReadoutCfg → ReadoutCfg) : (d.setRdCfg f).ev = d.ev := (rfl)
@[simp] theorem Dev.setRdCfg_sram (f : ReadoutCfg → ReadoutCfg) : (d.setRdCfg f).sram = d.sram := (rfl)
@[simp] theorem Dev.setRdCfg_memory (f : ReadoutCfg → ReadoutCfg) : (d.setRdCfg f).memory = d.memory := (rfl)
@[simp] theorem Dev.setRdCfg_arr (f : ReadoutCfg → ReadoutCfg) : (d.setRdCfg f).arr = d.arr := (rfl)
@[simp] theorem Dev.setRdCfg_cyc (f : ReadoutCfg → ReadoutCfg) : (d.setRdCfg f).cyc = d.cyc := (rfl)
@[simp] theorem Dev.setRdCfg_rd (f : ReadoutCfg → ReadoutCfg) : (d.setRdCfg f).rd = d.rd := (rfl)
@[simp] theorem Dev.setRdCfg_drv (f : ReadoutCfg → ReadoutCfg) : (d.setRdCfg f).drv = d.drv := (rfl)
@[simp] theorem Dev.setRdCfg_loop (f : ReadoutCfg → ReadoutCfg) : (d.setRdCfg f).loop = d.loop := (rfl)
@[simp] theorem Dev.setRdCfg_trace (f : ReadoutCfg → ReadoutCfg) : (d.setRdCfg f).trace = d.trace := (rfl)
@[simp] theorem Dev.setRdCfg_cal (f : ReadoutCfg → ReadoutCfg) : (d.setRdCfg f).cal = d.cal := (rfl)
@[simp] theorem Dev.setRdCfg_fab (f : ReadoutCfg → ReadoutCfg) : (d.setRdCfg f).fab = d.fab := (rfl)
@[simp] theorem Dev.setRdCfg_solve (f : ReadoutCfg → ReadoutCfg) : (d.setRdCfg f).solve = d.solve := (rfl)
@[simp] theorem Dev.setRdCfg_circ (f : ReadoutCfg → ReadoutCfg) : (d.setRdCfg f).circ = d.circ := (rfl)
@[simp] theorem Dev.setRdCfg_ver (f : ReadoutCfg → ReadoutCfg) : (d.setRdCfg f).ver = d.ver := (rfl)
@[simp] theorem Dev.setRdCfg_dec (f : ReadoutCfg → ReadoutCfg) : (d.setRdCfg f).dec = d.dec := (rfl)
@[simp] theorem Dev.setRdCfg_lab (f : ReadoutCfg → ReadoutCfg) : (d.setRdCfg f).lab = d.lab := (rfl)
@[simp] theorem Dev.setRdCfg_net (f : ReadoutCfg → ReadoutCfg) : (d.setRdCfg f).net = d.net := (rfl)
@[simp] theorem Dev.setRdCfg_traf (f : ReadoutCfg → ReadoutCfg) : (d.setRdCfg f).traf = d.traf := (rfl)
@[simp] theorem Dev.setRdCfg_req (f : ReadoutCfg → ReadoutCfg) : (d.setRdCfg f).req = d.req := (rfl)
@[simp] theorem Dev.setRdCfg_tow (f : ReadoutCfg → ReadoutCfg) : (d.setRdCfg f).tow = d.tow := (rfl)
@[simp] theorem Dev.setRdCfg_therm (f : ReadoutCfg → ReadoutCfg) : (d.setRdCfg f).therm = d.therm := (rfl)
@[simp] theorem Dev.setRdCfg_boot (f : ReadoutCfg → ReadoutCfg) : (d.setRdCfg f).boot = d.boot := (rfl)
@[simp] theorem Dev.setRdCfg_free (f : ReadoutCfg → ReadoutCfg) : (d.setRdCfg f).free = d.free := (rfl)
@[simp] theorem Dev.setRdCfg_snap (f : ReadoutCfg → ReadoutCfg) : (d.setRdCfg f).snap = d.snap := (rfl)

@[simp] theorem Dev.setDrvCfg_cfg (f : DriveCfg → DriveCfg) : (d.setDrvCfg f).cfg = { d.cfg with drv := f d.cfg.drv } := (rfl)
@[simp] theorem Dev.setDrvCfg_time (f : DriveCfg → DriveCfg) : (d.setDrvCfg f).time = d.time := (rfl)
@[simp] theorem Dev.setDrvCfg_ev (f : DriveCfg → DriveCfg) : (d.setDrvCfg f).ev = d.ev := (rfl)
@[simp] theorem Dev.setDrvCfg_sram (f : DriveCfg → DriveCfg) : (d.setDrvCfg f).sram = d.sram := (rfl)
@[simp] theorem Dev.setDrvCfg_memory (f : DriveCfg → DriveCfg) : (d.setDrvCfg f).memory = d.memory := (rfl)
@[simp] theorem Dev.setDrvCfg_arr (f : DriveCfg → DriveCfg) : (d.setDrvCfg f).arr = d.arr := (rfl)
@[simp] theorem Dev.setDrvCfg_cyc (f : DriveCfg → DriveCfg) : (d.setDrvCfg f).cyc = d.cyc := (rfl)
@[simp] theorem Dev.setDrvCfg_rd (f : DriveCfg → DriveCfg) : (d.setDrvCfg f).rd = d.rd := (rfl)
@[simp] theorem Dev.setDrvCfg_drv (f : DriveCfg → DriveCfg) : (d.setDrvCfg f).drv = d.drv := (rfl)
@[simp] theorem Dev.setDrvCfg_loop (f : DriveCfg → DriveCfg) : (d.setDrvCfg f).loop = d.loop := (rfl)
@[simp] theorem Dev.setDrvCfg_trace (f : DriveCfg → DriveCfg) : (d.setDrvCfg f).trace = d.trace := (rfl)
@[simp] theorem Dev.setDrvCfg_cal (f : DriveCfg → DriveCfg) : (d.setDrvCfg f).cal = d.cal := (rfl)
@[simp] theorem Dev.setDrvCfg_fab (f : DriveCfg → DriveCfg) : (d.setDrvCfg f).fab = d.fab := (rfl)
@[simp] theorem Dev.setDrvCfg_solve (f : DriveCfg → DriveCfg) : (d.setDrvCfg f).solve = d.solve := (rfl)
@[simp] theorem Dev.setDrvCfg_circ (f : DriveCfg → DriveCfg) : (d.setDrvCfg f).circ = d.circ := (rfl)
@[simp] theorem Dev.setDrvCfg_ver (f : DriveCfg → DriveCfg) : (d.setDrvCfg f).ver = d.ver := (rfl)
@[simp] theorem Dev.setDrvCfg_dec (f : DriveCfg → DriveCfg) : (d.setDrvCfg f).dec = d.dec := (rfl)
@[simp] theorem Dev.setDrvCfg_lab (f : DriveCfg → DriveCfg) : (d.setDrvCfg f).lab = d.lab := (rfl)
@[simp] theorem Dev.setDrvCfg_net (f : DriveCfg → DriveCfg) : (d.setDrvCfg f).net = d.net := (rfl)
@[simp] theorem Dev.setDrvCfg_traf (f : DriveCfg → DriveCfg) : (d.setDrvCfg f).traf = d.traf := (rfl)
@[simp] theorem Dev.setDrvCfg_req (f : DriveCfg → DriveCfg) : (d.setDrvCfg f).req = d.req := (rfl)
@[simp] theorem Dev.setDrvCfg_tow (f : DriveCfg → DriveCfg) : (d.setDrvCfg f).tow = d.tow := (rfl)
@[simp] theorem Dev.setDrvCfg_therm (f : DriveCfg → DriveCfg) : (d.setDrvCfg f).therm = d.therm := (rfl)
@[simp] theorem Dev.setDrvCfg_boot (f : DriveCfg → DriveCfg) : (d.setDrvCfg f).boot = d.boot := (rfl)
@[simp] theorem Dev.setDrvCfg_free (f : DriveCfg → DriveCfg) : (d.setDrvCfg f).free = d.free := (rfl)
@[simp] theorem Dev.setDrvCfg_snap (f : DriveCfg → DriveCfg) : (d.setDrvCfg f).snap = d.snap := (rfl)

@[simp] theorem Dev.setTraceCfg_cfg (f : TraceCfg → TraceCfg) : (d.setTraceCfg f).cfg = { d.cfg with trace := f d.cfg.trace } := (rfl)
@[simp] theorem Dev.setTraceCfg_time (f : TraceCfg → TraceCfg) : (d.setTraceCfg f).time = d.time := (rfl)
@[simp] theorem Dev.setTraceCfg_ev (f : TraceCfg → TraceCfg) : (d.setTraceCfg f).ev = d.ev := (rfl)
@[simp] theorem Dev.setTraceCfg_sram (f : TraceCfg → TraceCfg) : (d.setTraceCfg f).sram = d.sram := (rfl)
@[simp] theorem Dev.setTraceCfg_memory (f : TraceCfg → TraceCfg) : (d.setTraceCfg f).memory = d.memory := (rfl)
@[simp] theorem Dev.setTraceCfg_arr (f : TraceCfg → TraceCfg) : (d.setTraceCfg f).arr = d.arr := (rfl)
@[simp] theorem Dev.setTraceCfg_cyc (f : TraceCfg → TraceCfg) : (d.setTraceCfg f).cyc = d.cyc := (rfl)
@[simp] theorem Dev.setTraceCfg_rd (f : TraceCfg → TraceCfg) : (d.setTraceCfg f).rd = d.rd := (rfl)
@[simp] theorem Dev.setTraceCfg_drv (f : TraceCfg → TraceCfg) : (d.setTraceCfg f).drv = d.drv := (rfl)
@[simp] theorem Dev.setTraceCfg_loop (f : TraceCfg → TraceCfg) : (d.setTraceCfg f).loop = d.loop := (rfl)
@[simp] theorem Dev.setTraceCfg_trace (f : TraceCfg → TraceCfg) : (d.setTraceCfg f).trace = d.trace := (rfl)
@[simp] theorem Dev.setTraceCfg_cal (f : TraceCfg → TraceCfg) : (d.setTraceCfg f).cal = d.cal := (rfl)
@[simp] theorem Dev.setTraceCfg_fab (f : TraceCfg → TraceCfg) : (d.setTraceCfg f).fab = d.fab := (rfl)
@[simp] theorem Dev.setTraceCfg_solve (f : TraceCfg → TraceCfg) : (d.setTraceCfg f).solve = d.solve := (rfl)
@[simp] theorem Dev.setTraceCfg_circ (f : TraceCfg → TraceCfg) : (d.setTraceCfg f).circ = d.circ := (rfl)
@[simp] theorem Dev.setTraceCfg_ver (f : TraceCfg → TraceCfg) : (d.setTraceCfg f).ver = d.ver := (rfl)
@[simp] theorem Dev.setTraceCfg_dec (f : TraceCfg → TraceCfg) : (d.setTraceCfg f).dec = d.dec := (rfl)
@[simp] theorem Dev.setTraceCfg_lab (f : TraceCfg → TraceCfg) : (d.setTraceCfg f).lab = d.lab := (rfl)
@[simp] theorem Dev.setTraceCfg_net (f : TraceCfg → TraceCfg) : (d.setTraceCfg f).net = d.net := (rfl)
@[simp] theorem Dev.setTraceCfg_traf (f : TraceCfg → TraceCfg) : (d.setTraceCfg f).traf = d.traf := (rfl)
@[simp] theorem Dev.setTraceCfg_req (f : TraceCfg → TraceCfg) : (d.setTraceCfg f).req = d.req := (rfl)
@[simp] theorem Dev.setTraceCfg_tow (f : TraceCfg → TraceCfg) : (d.setTraceCfg f).tow = d.tow := (rfl)
@[simp] theorem Dev.setTraceCfg_therm (f : TraceCfg → TraceCfg) : (d.setTraceCfg f).therm = d.therm := (rfl)
@[simp] theorem Dev.setTraceCfg_boot (f : TraceCfg → TraceCfg) : (d.setTraceCfg f).boot = d.boot := (rfl)
@[simp] theorem Dev.setTraceCfg_free (f : TraceCfg → TraceCfg) : (d.setTraceCfg f).free = d.free := (rfl)
@[simp] theorem Dev.setTraceCfg_snap (f : TraceCfg → TraceCfg) : (d.setTraceCfg f).snap = d.snap := (rfl)

@[simp] theorem Dev.setCalCfg_cfg (f : CalCfg → CalCfg) : (d.setCalCfg f).cfg = { d.cfg with cal := f d.cfg.cal } := (rfl)
@[simp] theorem Dev.setCalCfg_time (f : CalCfg → CalCfg) : (d.setCalCfg f).time = d.time := (rfl)
@[simp] theorem Dev.setCalCfg_ev (f : CalCfg → CalCfg) : (d.setCalCfg f).ev = d.ev := (rfl)
@[simp] theorem Dev.setCalCfg_sram (f : CalCfg → CalCfg) : (d.setCalCfg f).sram = d.sram := (rfl)
@[simp] theorem Dev.setCalCfg_memory (f : CalCfg → CalCfg) : (d.setCalCfg f).memory = d.memory := (rfl)
@[simp] theorem Dev.setCalCfg_arr (f : CalCfg → CalCfg) : (d.setCalCfg f).arr = d.arr := (rfl)
@[simp] theorem Dev.setCalCfg_cyc (f : CalCfg → CalCfg) : (d.setCalCfg f).cyc = d.cyc := (rfl)
@[simp] theorem Dev.setCalCfg_rd (f : CalCfg → CalCfg) : (d.setCalCfg f).rd = d.rd := (rfl)
@[simp] theorem Dev.setCalCfg_drv (f : CalCfg → CalCfg) : (d.setCalCfg f).drv = d.drv := (rfl)
@[simp] theorem Dev.setCalCfg_loop (f : CalCfg → CalCfg) : (d.setCalCfg f).loop = d.loop := (rfl)
@[simp] theorem Dev.setCalCfg_trace (f : CalCfg → CalCfg) : (d.setCalCfg f).trace = d.trace := (rfl)
@[simp] theorem Dev.setCalCfg_cal (f : CalCfg → CalCfg) : (d.setCalCfg f).cal = d.cal := (rfl)
@[simp] theorem Dev.setCalCfg_fab (f : CalCfg → CalCfg) : (d.setCalCfg f).fab = d.fab := (rfl)
@[simp] theorem Dev.setCalCfg_solve (f : CalCfg → CalCfg) : (d.setCalCfg f).solve = d.solve := (rfl)
@[simp] theorem Dev.setCalCfg_circ (f : CalCfg → CalCfg) : (d.setCalCfg f).circ = d.circ := (rfl)
@[simp] theorem Dev.setCalCfg_ver (f : CalCfg → CalCfg) : (d.setCalCfg f).ver = d.ver := (rfl)
@[simp] theorem Dev.setCalCfg_dec (f : CalCfg → CalCfg) : (d.setCalCfg f).dec = d.dec := (rfl)
@[simp] theorem Dev.setCalCfg_lab (f : CalCfg → CalCfg) : (d.setCalCfg f).lab = d.lab := (rfl)
@[simp] theorem Dev.setCalCfg_net (f : CalCfg → CalCfg) : (d.setCalCfg f).net = d.net := (rfl)
@[simp] theorem Dev.setCalCfg_traf (f : CalCfg → CalCfg) : (d.setCalCfg f).traf = d.traf := (rfl)
@[simp] theorem Dev.setCalCfg_req (f : CalCfg → CalCfg) : (d.setCalCfg f).req = d.req := (rfl)
@[simp] theorem Dev.setCalCfg_tow (f : CalCfg → CalCfg) : (d.setCalCfg f).tow = d.tow := (rfl)
@[simp] theorem Dev.setCalCfg_therm (f : CalCfg → CalCfg) : (d.setCalCfg f).therm = d.therm := (rfl)
@[simp] theorem Dev.setCalCfg_boot (f : CalCfg → CalCfg) : (d.setCalCfg f).boot = d.boot := (rfl)
@[simp] theorem Dev.setCalCfg_free (f : CalCfg → CalCfg) : (d.setCalCfg f).free = d.free := (rfl)
@[simp] theorem Dev.setCalCfg_snap (f : CalCfg → CalCfg) : (d.setCalCfg f).snap = d.snap := (rfl)

@[simp] theorem Dev.setDecCfg_cfg (f : DecoderCfg → DecoderCfg) : (d.setDecCfg f).cfg = { d.cfg with dec := f d.cfg.dec } := (rfl)
@[simp] theorem Dev.setDecCfg_time (f : DecoderCfg → DecoderCfg) : (d.setDecCfg f).time = d.time := (rfl)
@[simp] theorem Dev.setDecCfg_ev (f : DecoderCfg → DecoderCfg) : (d.setDecCfg f).ev = d.ev := (rfl)
@[simp] theorem Dev.setDecCfg_sram (f : DecoderCfg → DecoderCfg) : (d.setDecCfg f).sram = d.sram := (rfl)
@[simp] theorem Dev.setDecCfg_memory (f : DecoderCfg → DecoderCfg) : (d.setDecCfg f).memory = d.memory := (rfl)
@[simp] theorem Dev.setDecCfg_arr (f : DecoderCfg → DecoderCfg) : (d.setDecCfg f).arr = d.arr := (rfl)
@[simp] theorem Dev.setDecCfg_cyc (f : DecoderCfg → DecoderCfg) : (d.setDecCfg f).cyc = d.cyc := (rfl)
@[simp] theorem Dev.setDecCfg_rd (f : DecoderCfg → DecoderCfg) : (d.setDecCfg f).rd = d.rd := (rfl)
@[simp] theorem Dev.setDecCfg_drv (f : DecoderCfg → DecoderCfg) : (d.setDecCfg f).drv = d.drv := (rfl)
@[simp] theorem Dev.setDecCfg_loop (f : DecoderCfg → DecoderCfg) : (d.setDecCfg f).loop = d.loop := (rfl)
@[simp] theorem Dev.setDecCfg_trace (f : DecoderCfg → DecoderCfg) : (d.setDecCfg f).trace = d.trace := (rfl)
@[simp] theorem Dev.setDecCfg_cal (f : DecoderCfg → DecoderCfg) : (d.setDecCfg f).cal = d.cal := (rfl)
@[simp] theorem Dev.setDecCfg_fab (f : DecoderCfg → DecoderCfg) : (d.setDecCfg f).fab = d.fab := (rfl)
@[simp] theorem Dev.setDecCfg_solve (f : DecoderCfg → DecoderCfg) : (d.setDecCfg f).solve = d.solve := (rfl)
@[simp] theorem Dev.setDecCfg_circ (f : DecoderCfg → DecoderCfg) : (d.setDecCfg f).circ = d.circ := (rfl)
@[simp] theorem Dev.setDecCfg_ver (f : DecoderCfg → DecoderCfg) : (d.setDecCfg f).ver = d.ver := (rfl)
@[simp] theorem Dev.setDecCfg_dec (f : DecoderCfg → DecoderCfg) : (d.setDecCfg f).dec = d.dec := (rfl)
@[simp] theorem Dev.setDecCfg_lab (f : DecoderCfg → DecoderCfg) : (d.setDecCfg f).lab = d.lab := (rfl)
@[simp] theorem Dev.setDecCfg_net (f : DecoderCfg → DecoderCfg) : (d.setDecCfg f).net = d.net := (rfl)
@[simp] theorem Dev.setDecCfg_traf (f : DecoderCfg → DecoderCfg) : (d.setDecCfg f).traf = d.traf := (rfl)
@[simp] theorem Dev.setDecCfg_req (f : DecoderCfg → DecoderCfg) : (d.setDecCfg f).req = d.req := (rfl)
@[simp] theorem Dev.setDecCfg_tow (f : DecoderCfg → DecoderCfg) : (d.setDecCfg f).tow = d.tow := (rfl)
@[simp] theorem Dev.setDecCfg_therm (f : DecoderCfg → DecoderCfg) : (d.setDecCfg f).therm = d.therm := (rfl)
@[simp] theorem Dev.setDecCfg_boot (f : DecoderCfg → DecoderCfg) : (d.setDecCfg f).boot = d.boot := (rfl)
@[simp] theorem Dev.setDecCfg_free (f : DecoderCfg → DecoderCfg) : (d.setDecCfg f).free = d.free := (rfl)
@[simp] theorem Dev.setDecCfg_snap (f : DecoderCfg → DecoderCfg) : (d.setDecCfg f).snap = d.snap := (rfl)

@[simp] theorem Dev.setTimeCfg_cfg (f : TimeCfg → TimeCfg) : (d.setTimeCfg f).cfg = { d.cfg with time := f d.cfg.time } := (rfl)
@[simp] theorem Dev.setTimeCfg_time (f : TimeCfg → TimeCfg) : (d.setTimeCfg f).time = d.time := (rfl)
@[simp] theorem Dev.setTimeCfg_ev (f : TimeCfg → TimeCfg) : (d.setTimeCfg f).ev = d.ev := (rfl)
@[simp] theorem Dev.setTimeCfg_sram (f : TimeCfg → TimeCfg) : (d.setTimeCfg f).sram = d.sram := (rfl)
@[simp] theorem Dev.setTimeCfg_memory (f : TimeCfg → TimeCfg) : (d.setTimeCfg f).memory = d.memory := (rfl)
@[simp] theorem Dev.setTimeCfg_arr (f : TimeCfg → TimeCfg) : (d.setTimeCfg f).arr = d.arr := (rfl)
@[simp] theorem Dev.setTimeCfg_cyc (f : TimeCfg → TimeCfg) : (d.setTimeCfg f).cyc = d.cyc := (rfl)
@[simp] theorem Dev.setTimeCfg_rd (f : TimeCfg → TimeCfg) : (d.setTimeCfg f).rd = d.rd := (rfl)
@[simp] theorem Dev.setTimeCfg_drv (f : TimeCfg → TimeCfg) : (d.setTimeCfg f).drv = d.drv := (rfl)
@[simp] theorem Dev.setTimeCfg_loop (f : TimeCfg → TimeCfg) : (d.setTimeCfg f).loop = d.loop := (rfl)
@[simp] theorem Dev.setTimeCfg_trace (f : TimeCfg → TimeCfg) : (d.setTimeCfg f).trace = d.trace := (rfl)
@[simp] theorem Dev.setTimeCfg_cal (f : TimeCfg → TimeCfg) : (d.setTimeCfg f).cal = d.cal := (rfl)
@[simp] theorem Dev.setTimeCfg_fab (f : TimeCfg → TimeCfg) : (d.setTimeCfg f).fab = d.fab := (rfl)
@[simp] theorem Dev.setTimeCfg_solve (f : TimeCfg → TimeCfg) : (d.setTimeCfg f).solve = d.solve := (rfl)
@[simp] theorem Dev.setTimeCfg_circ (f : TimeCfg → TimeCfg) : (d.setTimeCfg f).circ = d.circ := (rfl)
@[simp] theorem Dev.setTimeCfg_ver (f : TimeCfg → TimeCfg) : (d.setTimeCfg f).ver = d.ver := (rfl)
@[simp] theorem Dev.setTimeCfg_dec (f : TimeCfg → TimeCfg) : (d.setTimeCfg f).dec = d.dec := (rfl)
@[simp] theorem Dev.setTimeCfg_lab (f : TimeCfg → TimeCfg) : (d.setTimeCfg f).lab = d.lab := (rfl)
@[simp] theorem Dev.setTimeCfg_net (f : TimeCfg → TimeCfg) : (d.setTimeCfg f).net = d.net := (rfl)
@[simp] theorem Dev.setTimeCfg_traf (f : TimeCfg → TimeCfg) : (d.setTimeCfg f).traf = d.traf := (rfl)
@[simp] theorem Dev.setTimeCfg_req (f : TimeCfg → TimeCfg) : (d.setTimeCfg f).req = d.req := (rfl)
@[simp] theorem Dev.setTimeCfg_tow (f : TimeCfg → TimeCfg) : (d.setTimeCfg f).tow = d.tow := (rfl)
@[simp] theorem Dev.setTimeCfg_therm (f : TimeCfg → TimeCfg) : (d.setTimeCfg f).therm = d.therm := (rfl)
@[simp] theorem Dev.setTimeCfg_boot (f : TimeCfg → TimeCfg) : (d.setTimeCfg f).boot = d.boot := (rfl)
@[simp] theorem Dev.setTimeCfg_free (f : TimeCfg → TimeCfg) : (d.setTimeCfg f).free = d.free := (rfl)
@[simp] theorem Dev.setTimeCfg_snap (f : TimeCfg → TimeCfg) : (d.setTimeCfg f).snap = d.snap := (rfl)

@[simp] theorem Dev.setTraf_cfg (f : TrafficCfg → TrafficCfg) : (d.setTraf f).cfg = { d.cfg with traf := f d.cfg.traf } := (rfl)
@[simp] theorem Dev.setTraf_time (f : TrafficCfg → TrafficCfg) : (d.setTraf f).time = d.time := (rfl)
@[simp] theorem Dev.setTraf_ev (f : TrafficCfg → TrafficCfg) : (d.setTraf f).ev = d.ev := (rfl)
@[simp] theorem Dev.setTraf_sram (f : TrafficCfg → TrafficCfg) : (d.setTraf f).sram = d.sram := (rfl)
@[simp] theorem Dev.setTraf_memory (f : TrafficCfg → TrafficCfg) : (d.setTraf f).memory = d.memory := (rfl)
@[simp] theorem Dev.setTraf_arr (f : TrafficCfg → TrafficCfg) : (d.setTraf f).arr = d.arr := (rfl)
@[simp] theorem Dev.setTraf_cyc (f : TrafficCfg → TrafficCfg) : (d.setTraf f).cyc = d.cyc := (rfl)
@[simp] theorem Dev.setTraf_rd (f : TrafficCfg → TrafficCfg) : (d.setTraf f).rd = d.rd := (rfl)
@[simp] theorem Dev.setTraf_drv (f : TrafficCfg → TrafficCfg) : (d.setTraf f).drv = d.drv := (rfl)
@[simp] theorem Dev.setTraf_loop (f : TrafficCfg → TrafficCfg) : (d.setTraf f).loop = d.loop := (rfl)
@[simp] theorem Dev.setTraf_trace (f : TrafficCfg → TrafficCfg) : (d.setTraf f).trace = d.trace := (rfl)
@[simp] theorem Dev.setTraf_cal (f : TrafficCfg → TrafficCfg) : (d.setTraf f).cal = d.cal := (rfl)
@[simp] theorem Dev.setTraf_fab (f : TrafficCfg → TrafficCfg) : (d.setTraf f).fab = d.fab := (rfl)
@[simp] theorem Dev.setTraf_solve (f : TrafficCfg → TrafficCfg) : (d.setTraf f).solve = d.solve := (rfl)
@[simp] theorem Dev.setTraf_circ (f : TrafficCfg → TrafficCfg) : (d.setTraf f).circ = d.circ := (rfl)
@[simp] theorem Dev.setTraf_ver (f : TrafficCfg → TrafficCfg) : (d.setTraf f).ver = d.ver := (rfl)
@[simp] theorem Dev.setTraf_dec (f : TrafficCfg → TrafficCfg) : (d.setTraf f).dec = d.dec := (rfl)
@[simp] theorem Dev.setTraf_lab (f : TrafficCfg → TrafficCfg) : (d.setTraf f).lab = d.lab := (rfl)
@[simp] theorem Dev.setTraf_net (f : TrafficCfg → TrafficCfg) : (d.setTraf f).net = d.net := (rfl)
@[simp] theorem Dev.setTraf_traf (f : TrafficCfg → TrafficCfg) : (d.setTraf f).traf = d.traf := (rfl)
@[simp] theorem Dev.setTraf_req (f : TrafficCfg → TrafficCfg) : (d.setTraf f).req = d.req := (rfl)
@[simp] theorem Dev.setTraf_tow (f : TrafficCfg → TrafficCfg) : (d.setTraf f).tow = d.tow := (rfl)
@[simp] theorem Dev.setTraf_therm (f : TrafficCfg → TrafficCfg) : (d.setTraf f).therm = d.therm := (rfl)
@[simp] theorem Dev.setTraf_boot (f : TrafficCfg → TrafficCfg) : (d.setTraf f).boot = d.boot := (rfl)
@[simp] theorem Dev.setTraf_free (f : TrafficCfg → TrafficCfg) : (d.setTraf f).free = d.free := (rfl)
@[simp] theorem Dev.setTraf_snap (f : TrafficCfg → TrafficCfg) : (d.setTraf f).snap = d.snap := (rfl)

@[simp] theorem Dev.setMemCfg_cfg (f : MemCfg → MemCfg) : (d.setMemCfg f).cfg = { d.cfg with mem := f d.cfg.mem } := (rfl)
@[simp] theorem Dev.setMemCfg_time (f : MemCfg → MemCfg) : (d.setMemCfg f).time = d.time := (rfl)
@[simp] theorem Dev.setMemCfg_ev (f : MemCfg → MemCfg) : (d.setMemCfg f).ev = d.ev := (rfl)
@[simp] theorem Dev.setMemCfg_sram (f : MemCfg → MemCfg) : (d.setMemCfg f).sram = d.sram := (rfl)
@[simp] theorem Dev.setMemCfg_memory (f : MemCfg → MemCfg) : (d.setMemCfg f).memory = d.memory := (rfl)
@[simp] theorem Dev.setMemCfg_arr (f : MemCfg → MemCfg) : (d.setMemCfg f).arr = d.arr := (rfl)
@[simp] theorem Dev.setMemCfg_cyc (f : MemCfg → MemCfg) : (d.setMemCfg f).cyc = d.cyc := (rfl)
@[simp] theorem Dev.setMemCfg_rd (f : MemCfg → MemCfg) : (d.setMemCfg f).rd = d.rd := (rfl)
@[simp] theorem Dev.setMemCfg_drv (f : MemCfg → MemCfg) : (d.setMemCfg f).drv = d.drv := (rfl)
@[simp] theorem Dev.setMemCfg_loop (f : MemCfg → MemCfg) : (d.setMemCfg f).loop = d.loop := (rfl)
@[simp] theorem Dev.setMemCfg_trace (f : MemCfg → MemCfg) : (d.setMemCfg f).trace = d.trace := (rfl)
@[simp] theorem Dev.setMemCfg_cal (f : MemCfg → MemCfg) : (d.setMemCfg f).cal = d.cal := (rfl)
@[simp] theorem Dev.setMemCfg_fab (f : MemCfg → MemCfg) : (d.setMemCfg f).fab = d.fab := (rfl)
@[simp] theorem Dev.setMemCfg_solve (f : MemCfg → MemCfg) : (d.setMemCfg f).solve = d.solve := (rfl)
@[simp] theorem Dev.setMemCfg_circ (f : MemCfg → MemCfg) : (d.setMemCfg f).circ = d.circ := (rfl)
@[simp] theorem Dev.setMemCfg_ver (f : MemCfg → MemCfg) : (d.setMemCfg f).ver = d.ver := (rfl)
@[simp] theorem Dev.setMemCfg_dec (f : MemCfg → MemCfg) : (d.setMemCfg f).dec = d.dec := (rfl)
@[simp] theorem Dev.setMemCfg_lab (f : MemCfg → MemCfg) : (d.setMemCfg f).lab = d.lab := (rfl)
@[simp] theorem Dev.setMemCfg_net (f : MemCfg → MemCfg) : (d.setMemCfg f).net = d.net := (rfl)
@[simp] theorem Dev.setMemCfg_traf (f : MemCfg → MemCfg) : (d.setMemCfg f).traf = d.traf := (rfl)
@[simp] theorem Dev.setMemCfg_req (f : MemCfg → MemCfg) : (d.setMemCfg f).req = d.req := (rfl)
@[simp] theorem Dev.setMemCfg_tow (f : MemCfg → MemCfg) : (d.setMemCfg f).tow = d.tow := (rfl)
@[simp] theorem Dev.setMemCfg_therm (f : MemCfg → MemCfg) : (d.setMemCfg f).therm = d.therm := (rfl)
@[simp] theorem Dev.setMemCfg_boot (f : MemCfg → MemCfg) : (d.setMemCfg f).boot = d.boot := (rfl)
@[simp] theorem Dev.setMemCfg_free (f : MemCfg → MemCfg) : (d.setMemCfg f).free = d.free := (rfl)
@[simp] theorem Dev.setMemCfg_snap (f : MemCfg → MemCfg) : (d.setMemCfg f).snap = d.snap := (rfl)

@[simp] theorem Dev.setEvCfg_cfg (f : EventCfg → EventCfg) : (d.setEvCfg f).cfg = { d.cfg with ev := f d.cfg.ev } := (rfl)
@[simp] theorem Dev.setEvCfg_time (f : EventCfg → EventCfg) : (d.setEvCfg f).time = d.time := (rfl)
@[simp] theorem Dev.setEvCfg_ev (f : EventCfg → EventCfg) : (d.setEvCfg f).ev = d.ev := (rfl)
@[simp] theorem Dev.setEvCfg_sram (f : EventCfg → EventCfg) : (d.setEvCfg f).sram = d.sram := (rfl)
@[simp] theorem Dev.setEvCfg_memory (f : EventCfg → EventCfg) : (d.setEvCfg f).memory = d.memory := (rfl)
@[simp] theorem Dev.setEvCfg_arr (f : EventCfg → EventCfg) : (d.setEvCfg f).arr = d.arr := (rfl)
@[simp] theorem Dev.setEvCfg_cyc (f : EventCfg → EventCfg) : (d.setEvCfg f).cyc = d.cyc := (rfl)
@[simp] theorem Dev.setEvCfg_rd (f : EventCfg → EventCfg) : (d.setEvCfg f).rd = d.rd := (rfl)
@[simp] theorem Dev.setEvCfg_drv (f : EventCfg → EventCfg) : (d.setEvCfg f).drv = d.drv := (rfl)
@[simp] theorem Dev.setEvCfg_loop (f : EventCfg → EventCfg) : (d.setEvCfg f).loop = d.loop := (rfl)
@[simp] theorem Dev.setEvCfg_trace (f : EventCfg → EventCfg) : (d.setEvCfg f).trace = d.trace := (rfl)
@[simp] theorem Dev.setEvCfg_cal (f : EventCfg → EventCfg) : (d.setEvCfg f).cal = d.cal := (rfl)
@[simp] theorem Dev.setEvCfg_fab (f : EventCfg → EventCfg) : (d.setEvCfg f).fab = d.fab := (rfl)
@[simp] theorem Dev.setEvCfg_solve (f : EventCfg → EventCfg) : (d.setEvCfg f).solve = d.solve := (rfl)
@[simp] theorem Dev.setEvCfg_circ (f : EventCfg → EventCfg) : (d.setEvCfg f).circ = d.circ := (rfl)
@[simp] theorem Dev.setEvCfg_ver (f : EventCfg → EventCfg) : (d.setEvCfg f).ver = d.ver := (rfl)
@[simp] theorem Dev.setEvCfg_dec (f : EventCfg → EventCfg) : (d.setEvCfg f).dec = d.dec := (rfl)
@[simp] theorem Dev.setEvCfg_lab (f : EventCfg → EventCfg) : (d.setEvCfg f).lab = d.lab := (rfl)
@[simp] theorem Dev.setEvCfg_net (f : EventCfg → EventCfg) : (d.setEvCfg f).net = d.net := (rfl)
@[simp] theorem Dev.setEvCfg_traf (f : EventCfg → EventCfg) : (d.setEvCfg f).traf = d.traf := (rfl)
@[simp] theorem Dev.setEvCfg_req (f : EventCfg → EventCfg) : (d.setEvCfg f).req = d.req := (rfl)
@[simp] theorem Dev.setEvCfg_tow (f : EventCfg → EventCfg) : (d.setEvCfg f).tow = d.tow := (rfl)
@[simp] theorem Dev.setEvCfg_therm (f : EventCfg → EventCfg) : (d.setEvCfg f).therm = d.therm := (rfl)
@[simp] theorem Dev.setEvCfg_boot (f : EventCfg → EventCfg) : (d.setEvCfg f).boot = d.boot := (rfl)
@[simp] theorem Dev.setEvCfg_free (f : EventCfg → EventCfg) : (d.setEvCfg f).free = d.free := (rfl)
@[simp] theorem Dev.setEvCfg_snap (f : EventCfg → EventCfg) : (d.setEvCfg f).snap = d.snap := (rfl)

@[simp] theorem Dev.setNetCfg_cfg (f : NetCfg → NetCfg) : (d.setNetCfg f).cfg = { d.cfg with net := f d.cfg.net } := (rfl)
@[simp] theorem Dev.setNetCfg_time (f : NetCfg → NetCfg) : (d.setNetCfg f).time = d.time := (rfl)
@[simp] theorem Dev.setNetCfg_ev (f : NetCfg → NetCfg) : (d.setNetCfg f).ev = d.ev := (rfl)
@[simp] theorem Dev.setNetCfg_sram (f : NetCfg → NetCfg) : (d.setNetCfg f).sram = d.sram := (rfl)
@[simp] theorem Dev.setNetCfg_memory (f : NetCfg → NetCfg) : (d.setNetCfg f).memory = d.memory := (rfl)
@[simp] theorem Dev.setNetCfg_arr (f : NetCfg → NetCfg) : (d.setNetCfg f).arr = d.arr := (rfl)
@[simp] theorem Dev.setNetCfg_cyc (f : NetCfg → NetCfg) : (d.setNetCfg f).cyc = d.cyc := (rfl)
@[simp] theorem Dev.setNetCfg_rd (f : NetCfg → NetCfg) : (d.setNetCfg f).rd = d.rd := (rfl)
@[simp] theorem Dev.setNetCfg_drv (f : NetCfg → NetCfg) : (d.setNetCfg f).drv = d.drv := (rfl)
@[simp] theorem Dev.setNetCfg_loop (f : NetCfg → NetCfg) : (d.setNetCfg f).loop = d.loop := (rfl)
@[simp] theorem Dev.setNetCfg_trace (f : NetCfg → NetCfg) : (d.setNetCfg f).trace = d.trace := (rfl)
@[simp] theorem Dev.setNetCfg_cal (f : NetCfg → NetCfg) : (d.setNetCfg f).cal = d.cal := (rfl)
@[simp] theorem Dev.setNetCfg_fab (f : NetCfg → NetCfg) : (d.setNetCfg f).fab = d.fab := (rfl)
@[simp] theorem Dev.setNetCfg_solve (f : NetCfg → NetCfg) : (d.setNetCfg f).solve = d.solve := (rfl)
@[simp] theorem Dev.setNetCfg_circ (f : NetCfg → NetCfg) : (d.setNetCfg f).circ = d.circ := (rfl)
@[simp] theorem Dev.setNetCfg_ver (f : NetCfg → NetCfg) : (d.setNetCfg f).ver = d.ver := (rfl)
@[simp] theorem Dev.setNetCfg_dec (f : NetCfg → NetCfg) : (d.setNetCfg f).dec = d.dec := (rfl)
@[simp] theorem Dev.setNetCfg_lab (f : NetCfg → NetCfg) : (d.setNetCfg f).lab = d.lab := (rfl)
@[simp] theorem Dev.setNetCfg_net (f : NetCfg → NetCfg) : (d.setNetCfg f).net = d.net := (rfl)
@[simp] theorem Dev.setNetCfg_traf (f : NetCfg → NetCfg) : (d.setNetCfg f).traf = d.traf := (rfl)
@[simp] theorem Dev.setNetCfg_req (f : NetCfg → NetCfg) : (d.setNetCfg f).req = d.req := (rfl)
@[simp] theorem Dev.setNetCfg_tow (f : NetCfg → NetCfg) : (d.setNetCfg f).tow = d.tow := (rfl)
@[simp] theorem Dev.setNetCfg_therm (f : NetCfg → NetCfg) : (d.setNetCfg f).therm = d.therm := (rfl)
@[simp] theorem Dev.setNetCfg_boot (f : NetCfg → NetCfg) : (d.setNetCfg f).boot = d.boot := (rfl)
@[simp] theorem Dev.setNetCfg_free (f : NetCfg → NetCfg) : (d.setNetCfg f).free = d.free := (rfl)
@[simp] theorem Dev.setNetCfg_snap (f : NetCfg → NetCfg) : (d.setNetCfg f).snap = d.snap := (rfl)

@[simp] theorem Dev.setReqCfg_cfg (f : ReqCfg → ReqCfg) : (d.setReqCfg f).cfg = { d.cfg with req := f d.cfg.req } := (rfl)
@[simp] theorem Dev.setReqCfg_time (f : ReqCfg → ReqCfg) : (d.setReqCfg f).time = d.time := (rfl)
@[simp] theorem Dev.setReqCfg_ev (f : ReqCfg → ReqCfg) : (d.setReqCfg f).ev = d.ev := (rfl)
@[simp] theorem Dev.setReqCfg_sram (f : ReqCfg → ReqCfg) : (d.setReqCfg f).sram = d.sram := (rfl)
@[simp] theorem Dev.setReqCfg_memory (f : ReqCfg → ReqCfg) : (d.setReqCfg f).memory = d.memory := (rfl)
@[simp] theorem Dev.setReqCfg_arr (f : ReqCfg → ReqCfg) : (d.setReqCfg f).arr = d.arr := (rfl)
@[simp] theorem Dev.setReqCfg_cyc (f : ReqCfg → ReqCfg) : (d.setReqCfg f).cyc = d.cyc := (rfl)
@[simp] theorem Dev.setReqCfg_rd (f : ReqCfg → ReqCfg) : (d.setReqCfg f).rd = d.rd := (rfl)
@[simp] theorem Dev.setReqCfg_drv (f : ReqCfg → ReqCfg) : (d.setReqCfg f).drv = d.drv := (rfl)
@[simp] theorem Dev.setReqCfg_loop (f : ReqCfg → ReqCfg) : (d.setReqCfg f).loop = d.loop := (rfl)
@[simp] theorem Dev.setReqCfg_trace (f : ReqCfg → ReqCfg) : (d.setReqCfg f).trace = d.trace := (rfl)
@[simp] theorem Dev.setReqCfg_cal (f : ReqCfg → ReqCfg) : (d.setReqCfg f).cal = d.cal := (rfl)
@[simp] theorem Dev.setReqCfg_fab (f : ReqCfg → ReqCfg) : (d.setReqCfg f).fab = d.fab := (rfl)
@[simp] theorem Dev.setReqCfg_solve (f : ReqCfg → ReqCfg) : (d.setReqCfg f).solve = d.solve := (rfl)
@[simp] theorem Dev.setReqCfg_circ (f : ReqCfg → ReqCfg) : (d.setReqCfg f).circ = d.circ := (rfl)
@[simp] theorem Dev.setReqCfg_ver (f : ReqCfg → ReqCfg) : (d.setReqCfg f).ver = d.ver := (rfl)
@[simp] theorem Dev.setReqCfg_dec (f : ReqCfg → ReqCfg) : (d.setReqCfg f).dec = d.dec := (rfl)
@[simp] theorem Dev.setReqCfg_lab (f : ReqCfg → ReqCfg) : (d.setReqCfg f).lab = d.lab := (rfl)
@[simp] theorem Dev.setReqCfg_net (f : ReqCfg → ReqCfg) : (d.setReqCfg f).net = d.net := (rfl)
@[simp] theorem Dev.setReqCfg_traf (f : ReqCfg → ReqCfg) : (d.setReqCfg f).traf = d.traf := (rfl)
@[simp] theorem Dev.setReqCfg_req (f : ReqCfg → ReqCfg) : (d.setReqCfg f).req = d.req := (rfl)
@[simp] theorem Dev.setReqCfg_tow (f : ReqCfg → ReqCfg) : (d.setReqCfg f).tow = d.tow := (rfl)
@[simp] theorem Dev.setReqCfg_therm (f : ReqCfg → ReqCfg) : (d.setReqCfg f).therm = d.therm := (rfl)
@[simp] theorem Dev.setReqCfg_boot (f : ReqCfg → ReqCfg) : (d.setReqCfg f).boot = d.boot := (rfl)
@[simp] theorem Dev.setReqCfg_free (f : ReqCfg → ReqCfg) : (d.setReqCfg f).free = d.free := (rfl)
@[simp] theorem Dev.setReqCfg_snap (f : ReqCfg → ReqCfg) : (d.setReqCfg f).snap = d.snap := (rfl)

@[simp] theorem Dev.setTowCfg_cfg (f : TowerCfg → TowerCfg) : (d.setTowCfg f).cfg = { d.cfg with tow := f d.cfg.tow } := (rfl)
@[simp] theorem Dev.setTowCfg_time (f : TowerCfg → TowerCfg) : (d.setTowCfg f).time = d.time := (rfl)
@[simp] theorem Dev.setTowCfg_ev (f : TowerCfg → TowerCfg) : (d.setTowCfg f).ev = d.ev := (rfl)
@[simp] theorem Dev.setTowCfg_sram (f : TowerCfg → TowerCfg) : (d.setTowCfg f).sram = d.sram := (rfl)
@[simp] theorem Dev.setTowCfg_memory (f : TowerCfg → TowerCfg) : (d.setTowCfg f).memory = d.memory := (rfl)
@[simp] theorem Dev.setTowCfg_arr (f : TowerCfg → TowerCfg) : (d.setTowCfg f).arr = d.arr := (rfl)
@[simp] theorem Dev.setTowCfg_cyc (f : TowerCfg → TowerCfg) : (d.setTowCfg f).cyc = d.cyc := (rfl)
@[simp] theorem Dev.setTowCfg_rd (f : TowerCfg → TowerCfg) : (d.setTowCfg f).rd = d.rd := (rfl)
@[simp] theorem Dev.setTowCfg_drv (f : TowerCfg → TowerCfg) : (d.setTowCfg f).drv = d.drv := (rfl)
@[simp] theorem Dev.setTowCfg_loop (f : TowerCfg → TowerCfg) : (d.setTowCfg f).loop = d.loop := (rfl)
@[simp] theorem Dev.setTowCfg_trace (f : TowerCfg → TowerCfg) : (d.setTowCfg f).trace = d.trace := (rfl)
@[simp] theorem Dev.setTowCfg_cal (f : TowerCfg → TowerCfg) : (d.setTowCfg f).cal = d.cal := (rfl)
@[simp] theorem Dev.setTowCfg_fab (f : TowerCfg → TowerCfg) : (d.setTowCfg f).fab = d.fab := (rfl)
@[simp] theorem Dev.setTowCfg_solve (f : TowerCfg → TowerCfg) : (d.setTowCfg f).solve = d.solve := (rfl)
@[simp] theorem Dev.setTowCfg_circ (f : TowerCfg → TowerCfg) : (d.setTowCfg f).circ = d.circ := (rfl)
@[simp] theorem Dev.setTowCfg_ver (f : TowerCfg → TowerCfg) : (d.setTowCfg f).ver = d.ver := (rfl)
@[simp] theorem Dev.setTowCfg_dec (f : TowerCfg → TowerCfg) : (d.setTowCfg f).dec = d.dec := (rfl)
@[simp] theorem Dev.setTowCfg_lab (f : TowerCfg → TowerCfg) : (d.setTowCfg f).lab = d.lab := (rfl)
@[simp] theorem Dev.setTowCfg_net (f : TowerCfg → TowerCfg) : (d.setTowCfg f).net = d.net := (rfl)
@[simp] theorem Dev.setTowCfg_traf (f : TowerCfg → TowerCfg) : (d.setTowCfg f).traf = d.traf := (rfl)
@[simp] theorem Dev.setTowCfg_req (f : TowerCfg → TowerCfg) : (d.setTowCfg f).req = d.req := (rfl)
@[simp] theorem Dev.setTowCfg_tow (f : TowerCfg → TowerCfg) : (d.setTowCfg f).tow = d.tow := (rfl)
@[simp] theorem Dev.setTowCfg_therm (f : TowerCfg → TowerCfg) : (d.setTowCfg f).therm = d.therm := (rfl)
@[simp] theorem Dev.setTowCfg_boot (f : TowerCfg → TowerCfg) : (d.setTowCfg f).boot = d.boot := (rfl)
@[simp] theorem Dev.setTowCfg_free (f : TowerCfg → TowerCfg) : (d.setTowCfg f).free = d.free := (rfl)
@[simp] theorem Dev.setTowCfg_snap (f : TowerCfg → TowerCfg) : (d.setTowCfg f).snap = d.snap := (rfl)

@[simp] theorem Dev.setCircCfg_cfg (f : CircCfg → CircCfg) : (d.setCircCfg f).cfg = { d.cfg with circ := f d.cfg.circ } := (rfl)
@[simp] theorem Dev.setCircCfg_time (f : CircCfg → CircCfg) : (d.setCircCfg f).time = d.time := (rfl)
@[simp] theorem Dev.setCircCfg_ev (f : CircCfg → CircCfg) : (d.setCircCfg f).ev = d.ev := (rfl)
@[simp] theorem Dev.setCircCfg_sram (f : CircCfg → CircCfg) : (d.setCircCfg f).sram = d.sram := (rfl)
@[simp] theorem Dev.setCircCfg_memory (f : CircCfg → CircCfg) : (d.setCircCfg f).memory = d.memory := (rfl)
@[simp] theorem Dev.setCircCfg_arr (f : CircCfg → CircCfg) : (d.setCircCfg f).arr = d.arr := (rfl)
@[simp] theorem Dev.setCircCfg_cyc (f : CircCfg → CircCfg) : (d.setCircCfg f).cyc = d.cyc := (rfl)
@[simp] theorem Dev.setCircCfg_rd (f : CircCfg → CircCfg) : (d.setCircCfg f).rd = d.rd := (rfl)
@[simp] theorem Dev.setCircCfg_drv (f : CircCfg → CircCfg) : (d.setCircCfg f).drv = d.drv := (rfl)
@[simp] theorem Dev.setCircCfg_loop (f : CircCfg → CircCfg) : (d.setCircCfg f).loop = d.loop := (rfl)
@[simp] theorem Dev.setCircCfg_trace (f : CircCfg → CircCfg) : (d.setCircCfg f).trace = d.trace := (rfl)
@[simp] theorem Dev.setCircCfg_cal (f : CircCfg → CircCfg) : (d.setCircCfg f).cal = d.cal := (rfl)
@[simp] theorem Dev.setCircCfg_fab (f : CircCfg → CircCfg) : (d.setCircCfg f).fab = d.fab := (rfl)
@[simp] theorem Dev.setCircCfg_solve (f : CircCfg → CircCfg) : (d.setCircCfg f).solve = d.solve := (rfl)
@[simp] theorem Dev.setCircCfg_circ (f : CircCfg → CircCfg) : (d.setCircCfg f).circ = d.circ := (rfl)
@[simp] theorem Dev.setCircCfg_ver (f : CircCfg → CircCfg) : (d.setCircCfg f).ver = d.ver := (rfl)
@[simp] theorem Dev.setCircCfg_dec (f : CircCfg → CircCfg) : (d.setCircCfg f).dec = d.dec := (rfl)
@[simp] theorem Dev.setCircCfg_lab (f : CircCfg → CircCfg) : (d.setCircCfg f).lab = d.lab := (rfl)
@[simp] theorem Dev.setCircCfg_net (f : CircCfg → CircCfg) : (d.setCircCfg f).net = d.net := (rfl)
@[simp] theorem Dev.setCircCfg_traf (f : CircCfg → CircCfg) : (d.setCircCfg f).traf = d.traf := (rfl)
@[simp] theorem Dev.setCircCfg_req (f : CircCfg → CircCfg) : (d.setCircCfg f).req = d.req := (rfl)
@[simp] theorem Dev.setCircCfg_tow (f : CircCfg → CircCfg) : (d.setCircCfg f).tow = d.tow := (rfl)
@[simp] theorem Dev.setCircCfg_therm (f : CircCfg → CircCfg) : (d.setCircCfg f).therm = d.therm := (rfl)
@[simp] theorem Dev.setCircCfg_boot (f : CircCfg → CircCfg) : (d.setCircCfg f).boot = d.boot := (rfl)
@[simp] theorem Dev.setCircCfg_free (f : CircCfg → CircCfg) : (d.setCircCfg f).free = d.free := (rfl)
@[simp] theorem Dev.setCircCfg_snap (f : CircCfg → CircCfg) : (d.setCircCfg f).snap = d.snap := (rfl)

end Sys2Proof.Machine
end

