-- ==== Sys2Proof/Laws/CycleFrame.lean ====
section
/-! SUPPORT. Which meanings leave the cycle unit alone, and that every other keeps its configuration legal (R47 to R51). -/

namespace Sys2Proof.Machine

theorem each_cyc {α : Type} (l : List α) (f : α → Dev → Dev) (d : Dev) (h : ∀ a d, (f a d).cyc = d.cyc) :
    (each l f d).cyc = d.cyc := by
  unfold each
  induction l generalizing d with
  | nil => rfl
  | cons a l ih => simp only [List.foldl_cons, ih, h]

theorem iter_cyc (f : Nat → Dev → Dev) (n i : Nat) (d : Dev) (h : ∀ a d, (f a d).cyc = d.cyc) :
    (iter f n i d).cyc = d.cyc := by
  induction n generalizing i d with
  | zero => rfl
  | succ n ih => simp only [iter, ih, h]

theorem foldl_cyc {α : Type} (l : List α) (f : Dev → α → Dev) (d : Dev) (h : ∀ a d, (f d a).cyc = d.cyc) :
    (l.foldl f d).cyc = d.cyc := by
  induction l generalizing d with
  | nil => rfl
  | cons a l ih => simp only [List.foldl_cons, ih, h]

theorem cyc_ite (c : Prop) [Decidable c] (a b : Live) : (if c then a else b).cyc = if c then a.cyc else b.cyc :=
  apply_ite _ _ _ _

theorem legal_ite (c : Prop) [Decidable c] (a b : Cycle) : (if c then a else b).legal = if c then a.legal else b.legal :=
  apply_ite _ _ _ _

theorem each_cyc_q {α : Type} (l : List α) (f : α → Dev → Dev) (d : Dev)
    (hf : ∀ a d, d.cyc.legal = true → (f a d).cyc.legal = true) (h : d.cyc.legal = true) : (each l f d).cyc.legal = true := by
  unfold each
  induction l generalizing d with
  | nil => exact h
  | cons a l ih => exact ih _ (hf a d h)

theorem iter_cyc_q (f : Nat → Dev → Dev) (n i : Nat) (d : Dev)
    (hf : ∀ a d, d.cyc.legal = true → (f a d).cyc.legal = true) (h : d.cyc.legal = true) : (iter f n i d).cyc.legal = true := by
  induction n generalizing i d with
  | zero => exact h
  | succ n ih => exact ih _ _ (hf i d h)

/-! ## Ops -/

theorem Dev.draw_cyc (d : Dev) : (Dev.draw d).2.cyc = d.cyc := by
  simp only [Dev.draw]

theorem Dev.post_cyc (d : Dev) (e : EventName) (args : List Nat) (summary : Bool) :
    (Dev.post d e args summary).cyc = d.cyc := by
  simp only [Dev.post, toLive_ite, cyc_ite, ite_self]

/-! ## Flags -/

theorem Dev.setLane_cyc (d : Dev) (l : Nat) (x : Lane) : (Dev.setLane d l x).cyc = d.cyc := by
  simp only [Dev.setLane]

theorem Dev.judgeGuarantee_cyc (d : Dev) : (Dev.judgeGuarantee d).cyc = d.cyc := by
  simp only [Dev.judgeGuarantee, Dev.raiseIf_cyc]

/-! ## Frames -/

theorem Dev.countLane_cyc (d : Dev) (l i n : Nat) : (Dev.countLane d l i n).cyc = d.cyc := by
  simp only [Dev.countLane, Dev.setLane_cyc]

theorem Dev.countQueue_cyc (d : Dev) (x i n : Nat) : (Dev.countQueue d x i n).cyc = d.cyc := by
  simp only [Dev.countQueue]

theorem Dev.countMeter_cyc (d : Dev) (x i : Nat) : (Dev.countMeter d x i).cyc = d.cyc := by
  simp only [Dev.countMeter]

theorem Dev.enqueue_cyc (d : Dev) (l : Nat) (f : Frame) (cut : Bool) : (Dev.enqueue d l f cut).cyc = d.cyc := by
  simp only [Dev.enqueue, Dev.setLane_cyc, toLive_ite, cyc_ite, snd_ite, ite_self, implies_true]

theorem Dev.letIn_cyc (d : Dev) (l : Nat) (f : Frame) (yellow : Bool) (cut : Bool) : (Dev.letIn d l f yellow cut).cyc = d.cyc := by
  simp only [Dev.letIn, Dev.countQueue_cyc, Dev.enqueue_cyc, toLive_ite, cyc_ite, snd_ite, ite_self, implies_true]

theorem Dev.flushLane_cyc (d : Dev) (l : Nat) : (Dev.flushLane d l).cyc = d.cyc := by
  simp only [Dev.flushLane, Dev.setLane_cyc, Dev.countLane_cyc]

theorem Dev.deliver_cyc (d : Dev) (l : Nat) (f : Frame) : (Dev.deliver d l f).cyc = d.cyc := by
  simp only [Dev.deliver, toLive_ite, cyc_ite, snd_ite, ite_self, implies_true]

theorem Dev.forward_cyc (d : Dev) (i l : Nat) (f : Frame) (yellow : Bool) : (Dev.forward d i l f yellow).cyc = d.cyc := by
  simp only [Dev.forward, Dev.countLane_cyc, Dev.letIn_cyc, toLive_ite, cyc_ite, snd_ite, ite_self, implies_true]

theorem Dev.drop_cyc (d : Dev) (inLane : Option Nat) (i : Nat) : (Dev.drop d inLane i).cyc = d.cyc := by
  simp only [Dev.drop, Dev.countLane_cyc]

theorem Dev.sendOn_cyc (d : Dev) (inLane : Option Nat) (l : Nat) (f : Frame) (yellow : Bool) : (Dev.sendOn d inLane l f yellow).cyc = d.cyc := by
  (simp only [Dev.sendOn]; (repeat' split) <;> first | with_reducible rfl | simp only [Dev.drop_cyc, Dev.forward_cyc, Dev.letIn_cyc, implies_true])

theorem Dev.broadcast_cyc (d : Dev) (inLane : Option Nat) (f : Frame) (yellow : Bool) :
    (Dev.broadcast d inLane f yellow).cyc = d.cyc := by
  simp only [Dev.broadcast, Dev.deliver_cyc, Dev.sendOn_cyc, Dev.drop_cyc, each_cyc, toLive_ite, cyc_ite, ite_self, implies_true]

theorem Dev.route_cyc (d : Dev) (inLane : Option Nat) (f : Frame) (yellow : Bool) :
    (Dev.route d inLane f yellow).cyc = d.cyc := by
  (simp only [Dev.route]; (repeat' split) <;> first | with_reducible rfl | simp only [Dev.deliver_cyc, Dev.sendOn_cyc, Dev.drop_cyc, Dev.broadcast_cyc])

theorem Dev.nextSeq_cyc (d : Dev) : (Dev.nextSeq d).cyc = d.cyc := by
  simp only [Dev.nextSeq]

theorem Dev.originate_cyc (d : Dev) (cls typ dest : Nat) (plane : Option Bool) (poison : Bool) (payload : List Byte) :
    (Dev.originate d cls typ dest plane poison payload).cyc = d.cyc := by
  simp only [Dev.originate, Dev.route_cyc, Dev.nextSeq_cyc]

theorem Dev.sendLocal_cyc (d : Dev) (l cls typ dest : Nat) (poison : Bool) (payload : List Byte) : (Dev.sendLocal d l cls typ dest poison payload).cyc = d.cyc := by
  simp only [Dev.sendLocal, Dev.letIn_cyc, Dev.nextSeq_cyc, toLive_ite, cyc_ite, snd_ite, ite_self, implies_true]

theorem Dev.take_cyc (d : Dev) (l typ : Nat) : (Dev.take d l typ).cyc = d.cyc := by
  simp only [Dev.take]

theorem Dev.takeAny_cyc (d : Dev) (typ : Nat) : (Dev.takeAny d typ).cyc = d.cyc := by
  simp only [Dev.takeAny]

theorem Dev.meterFrame_cyc (d : Dev) (f : Frame) : (Dev.meterFrame d f).2.cyc = d.cyc := by
  simp only [Dev.meterFrame, toLive_ite, cyc_ite, snd_ite, ite_self]

/-! ## Events -/

theorem Dev.stopLoop_cyc (d : Dev) (cause : Nat) : (Dev.stopLoop d cause).cyc = d.cyc := by
  simp only [Dev.stopLoop]

theorem Dev.holdOutputs_cyc (d : Dev) : (Dev.holdOutputs d).cyc = d.cyc := by
  simp only [Dev.holdOutputs]

theorem Dev.declareFault_cyc (d : Dev) (n : Nat) : (Dev.declareFault d n).cyc = d.cyc := by
  simp only [Dev.declareFault, Dev.raise_cyc, Dev.stopLoop_cyc, Dev.holdOutputs_cyc]

theorem Dev.releaseHold_cyc (d : Dev) (held : Bool) : (Dev.releaseHold d held).cyc = d.cyc := by
  simp only [Dev.releaseHold, toLive_ite, cyc_ite, ite_self]

theorem deviceRestart_cyc (v : Nat) (d : Dev) : (deviceRestart v d).2.cyc = d.cyc := by
  simp only [deviceRestart, Dev.releaseHold_cyc, toLive_ite, cyc_ite, snd_ite, ite_self]

theorem refclkLoss_cyc (which : Bool) (d : Dev) : (refclkLoss which d).cyc = d.cyc := by
  simp only [refclkLoss, Dev.raiseIf_cyc, Dev.declareFault_cyc, toLive_ite, cyc_ite, ite_self]

theorem timebasePllUnlock_cyc (d : Dev) : (timebasePllUnlock d).cyc = d.cyc := by
  simp only [timebasePllUnlock, Dev.declareFault_cyc]

theorem eventSummary_cyc (d : Dev) : (eventSummary d).cyc = d.cyc := by
  simp only [eventSummary, Dev.post_cyc, each_cyc, implies_true]

theorem Dev.sendEvents_cyc (d : Dev) (dest n : Nat) (l : List EventRec) : (d.sendEvents dest n l).cyc = d.cyc := by
  induction n generalizing d l with
  | zero => rfl
  | succ n ih => cases l with
    | nil => rfl
    | cons a l => simp only [Dev.sendEvents, ih, Dev.originate_cyc]

theorem eventSend_cyc (d : Dev) : (eventSend d).cyc = d.cyc := by
  unfold eventSend
  simp only [toLive_ite, cyc_ite, Dev.sendEvents_cyc, ite_self]

theorem Dev.setFlash_cyc (d : Dev) (f : Flash → Flash) : (Dev.setFlash d f).cyc = d.cyc := by
  simp only [Dev.setFlash]

theorem faultLogCopy_cyc (d : Dev) : (faultLogCopy d).cyc = d.cyc := by
  simp only [faultLogCopy, Dev.setFlash_cyc]

theorem eventReadIndexWrite_cyc (v : BitVec 16) (d : Dev) : (eventReadIndexWrite v d).2.cyc = d.cyc := by
  simp only [eventReadIndexWrite, toLive_ite, cyc_ite, snd_ite, ite_self]

theorem faultLogClear_cyc (v : Nat) (d : Dev) : (faultLogClear v d).2.cyc = d.cyc := by
  simp only [faultLogClear, Dev.setFlash_cyc, toLive_ite, cyc_ite, snd_ite, ite_self]

theorem faultAck_cyc (v : Nat) (d : Dev) : (faultAck v d).2.cyc = d.cyc := by
  simp only [faultAck, toLive_ite, cyc_ite, snd_ite, ite_self]

/-! ## Thermal -/

theorem Dev.judgeSensor_cyc (d : Dev) (sample : List (Option Int)) (s : Nat) : (Dev.judgeSensor d sample s).cyc = d.cyc := by
  (simp only [Dev.judgeSensor]; (repeat' split) <;> first | with_reducible rfl | simp only [Dev.raise_cyc, Dev.setTherm_cyc])

theorem Dev.levelEvents_cyc (d : Dev) (old new : Nat) : (Dev.levelEvents d old new).cyc = d.cyc := by
  simp only [Dev.levelEvents, Dev.raise_cyc, Dev.raiseIf_cyc, iter_cyc, toLive_ite, cyc_ite, ite_self, implies_true]

theorem Dev.shutDown_cyc (d : Dev) : (Dev.shutDown d).cyc = d.cyc := by
  simp only [Dev.shutDown, Dev.stopLoop_cyc, Dev.holdOutputs_cyc]

theorem Dev.thermalJudge_cyc (d : Dev) (sample : List (Option Int)) : (Dev.thermalJudge d sample).cyc = d.cyc := by
  simp only [Dev.thermalJudge, Dev.setTherm_cyc, Dev.levelEvents_cyc, Dev.shutDown_cyc, toLive_ite, cyc_ite, ite_self]

theorem dieSensorSample_cyc (sample : List (Option Int)) (d : Dev) : (dieSensorSample sample d).cyc = d.cyc := by
  simp only [dieSensorSample, Dev.setTherm_cyc, Dev.judgeSensor_cyc, Dev.thermalJudge_cyc, iter_cyc, implies_true]

theorem Dev.throttleTick_cyc (d : Dev) : (Dev.throttleTick d).cyc = d.cyc := by
  simp only [Dev.throttleTick, Dev.setTherm_cyc]

theorem thermalRestart_cyc (v : Nat) (d : Dev) : (thermalRestart v d).2.cyc = d.cyc := by
  simp only [thermalRestart, Dev.raise_cyc, Dev.releaseHold_cyc, Dev.setTherm_cyc, toLive_ite, cyc_ite, snd_ite, ite_self]

theorem Dev.judgeZone_cyc (d : Dev) (z : Nat) : (Dev.judgeZone d z).cyc = d.cyc := by
  simp only [Dev.judgeZone, Dev.raiseIf_cyc, Dev.setTherm_cyc]

theorem zoneWarnWrite_cyc (v : Int) (d : Dev) : (zoneWarnWrite v d).2.cyc = d.cyc := by
  simp only [zoneWarnWrite, toLive_ite, cyc_ite, snd_ite, ite_self]

theorem zoneHighWrite_cyc (v : Int) (d : Dev) : (zoneHighWrite v d).2.cyc = d.cyc := by
  simp only [zoneHighWrite, toLive_ite, cyc_ite, snd_ite, ite_self]

/-! ## Supply -/

theorem Dev.setRail_cyc (d : Dev) (r v : Nat) : (Dev.setRail d r v).cyc = d.cyc := by
  simp only [Dev.setRail, Dev.setTherm_cyc]

theorem railOutOfRange_cyc (r : Nat) (d : Dev) : (railOutOfRange r d).cyc = d.cyc := by
  simp only [railOutOfRange, Dev.raise_cyc, Dev.setRail_cyc, toLive_ite, cyc_ite, ite_self]

theorem railFault_cyc (r : Nat) (d : Dev) : (railFault r d).cyc = d.cyc := by
  simp only [railFault, Dev.raise_cyc, Dev.declareFault_cyc, Dev.setRail_cyc, toLive_ite, cyc_ite, ite_self]

theorem railRecovered_cyc (r : Nat) (d : Dev) : (railRecovered r d).cyc = d.cyc := by
  simp only [railRecovered, Dev.setRail_cyc]

theorem Dev.setPump_cyc (d : Dev) (p v : Nat) : (Dev.setPump d p v).cyc = d.cyc := by
  simp only [Dev.setPump, Dev.setTherm_cyc]

theorem pumpFault_cyc (p : Nat) (d : Dev) : (pumpFault p d).cyc = d.cyc := by
  simp only [pumpFault, Dev.raise_cyc, Dev.setPump_cyc, toLive_ite, cyc_ite, ite_self]

theorem pumpRestart_cyc (p : Nat) (d : Dev) : (pumpRestart p d).cyc = d.cyc := by
  simp only [pumpRestart, Dev.setPump_cyc, toLive_ite, cyc_ite, ite_self]

theorem pumpRegulating_cyc (p : Nat) (d : Dev) : (pumpRegulating p d).cyc = d.cyc := by
  simp only [pumpRegulating, Dev.setPump_cyc, toLive_ite, cyc_ite, ite_self]

theorem Dev.publishSupply_cyc (d : Dev) (pos : Nat) : (Dev.publishSupply d pos).cyc = d.cyc := by
  (simp only [Dev.publishSupply]; (repeat' split) <;> first | with_reducible rfl | simp only [Dev.setTherm_cyc])

theorem Dev.estimatePower_cyc (d : Dev) : (Dev.estimatePower d).cyc = d.cyc := by
  simp only [Dev.estimatePower, Dev.setTherm_cyc]

/-! ## ArrayIf -/

theorem Dev.putLoad_cyc (d : Dev) (monitor : Bool) (c v : Nat) : (Dev.putLoad d monitor c v).cyc = d.cyc := by
  simp only [Dev.putLoad, Dev.raiseIf_cyc, Dev.setArr_cyc, toLive_ite, cyc_ite, ite_self]

theorem Dev.putRatio_cyc (d : Dev) (g : Nat) : (Dev.putRatio d g).cyc = d.cyc := by
  simp only [Dev.putRatio, Dev.raiseIf_cyc, Dev.setArr_cyc]

theorem loadMeasure_cyc (v : Nat) (drive monitor : List Nat) (d : Dev) : (loadMeasure v drive monitor d).2.cyc = d.cyc := by
  simp only [loadMeasure, Dev.putLoad_cyc, Dev.putRatio_cyc, iter_cyc, toLive_ite, cyc_ite, snd_ite, ite_self, implies_true]

theorem towerWiredWrite_cyc (v : Bool) (d : Dev) : (towerWiredWrite v d).2.cyc = d.cyc := by
  simp only [towerWiredWrite, Dev.setArrCfg_cyc, toLive_ite, cyc_ite, snd_ite, ite_self]

theorem Dev.markMate_cyc (d : Dev) (b : Bool) : (Dev.markMate d b).cyc = d.cyc := by
  simp only [Dev.markMate, toLive_ite, cyc_ite, snd_ite, ite_self, implies_true]

theorem Dev.wiredTick_cyc (d : Dev) : (Dev.wiredTick d).cyc = d.cyc := by
  simp only [Dev.wiredTick, Dev.markMate_cyc, Dev.setArr_cyc, toLive_ite, cyc_ite, snd_ite, ite_self, implies_true]

theorem mateMissing_cyc (d : Dev) : (mateMissing d).cyc = d.cyc := by
  simp only [mateMissing, Dev.raise_cyc, Dev.setArr_cyc, toLive_ite, cyc_ite, ite_self]

theorem dcolEnableWrite_cyc (b : List Byte) (d : Dev) : (dcolEnableWrite b d).2.cyc = d.cyc := by
  simp only [dcolEnableWrite, Dev.setArrCfg_cyc, toLive_ite, cyc_ite, snd_ite, ite_self]

theorem mcolEnableWrite_cyc (b : List Byte) (d : Dev) : (mcolEnableWrite b d).2.cyc = d.cyc := by
  simp only [mcolEnableWrite, Dev.setArrCfg_cyc, toLive_ite, cyc_ite, snd_ite, ite_self]

theorem zoneNomResWrite_cyc (z v : Nat) (d : Dev) : (zoneNomResWrite z v d).2.cyc = d.cyc := by
  simp only [zoneNomResWrite, Dev.setArrCfg_cyc, toLive_ite, cyc_ite, snd_ite, ite_self]

theorem zoneBetaWrite_cyc (z v : Nat) (d : Dev) : (zoneBetaWrite z v d).2.cyc = d.cyc := by
  simp only [zoneBetaWrite, Dev.setArrCfg_cyc, toLive_ite, cyc_ite, snd_ite, ite_self]

theorem zoneFallbackWrite_cyc (z v : Nat) (d : Dev) : (zoneFallbackWrite z v d).2.cyc = d.cyc := by
  simp only [zoneFallbackWrite, Dev.setArrCfg_cyc, toLive_ite, cyc_ite, snd_ite, ite_self]

theorem Dev.zoneTemps_cyc (d : Dev) : (Dev.zoneTemps d).cyc = d.cyc := by
  simp only [Dev.zoneTemps, Dev.judgeZone_cyc, Dev.setArr_cyc, iter_cyc, toLive_ite, cyc_ite, ite_self, implies_true]

theorem Dev.zoneSample_cyc (d : Dev) (z code : Nat) : (Dev.zoneSample d z code).cyc = d.cyc := by
  simp only [Dev.zoneSample, Dev.raiseIf_cyc, Dev.setArr_cyc, Dev.zoneTemps_cyc, toLive_ite, cyc_ite, ite_self]

theorem Dev.auxReference_cyc (d : Dev) (code : Nat) : (Dev.auxReference d code).cyc = d.cyc := by
  simp only [Dev.auxReference, iter_cyc, Dev.judgeZone_cyc, Dev.raise_cyc, Dev.setArr_cyc, toLive_ite, cyc_ite, snd_ite, ite_self, implies_true]

theorem auxPosition_cyc (code : Nat) (d : Dev) : (auxPosition code d).cyc = d.cyc := by
  simp only [auxPosition, Dev.publishSupply_cyc, Dev.estimatePower_cyc, Dev.zoneSample_cyc, Dev.auxReference_cyc, toLive_ite, cyc_ite, ite_self]

/-! ## BoardSpi -/

theorem Dev.setBspi_cyc (d : Dev) (f : BoardSpi → BoardSpi) : (Dev.setBspi d f).cyc = d.cyc := by
  simp only [Dev.setBspi]

theorem bspiWriteRequest_cyc (length : Nat) (body : List Byte) (d : Dev) : (bspiWriteRequest length body d).cyc = d.cyc := by
  simp only [bspiWriteRequest, Dev.setBspi_cyc, toLive_ite, cyc_ite, ite_self]

theorem bspiReadStatus_cyc (d : Dev) : (bspiReadStatus d).cyc = d.cyc := by
  simp only [bspiReadStatus, Dev.setBspi_cyc, toLive_ite, cyc_ite, ite_self]

theorem bspiReadResponse_cyc (d : Dev) : (bspiReadResponse d).cyc = d.cyc := by
  simp only [bspiReadResponse, Dev.setBspi_cyc, toLive_ite, cyc_ite, ite_self]

theorem bspiCsAbort_cyc (shortWrite : Bool) (d : Dev) : (bspiCsAbort shortWrite d).cyc = d.cyc := by
  simp only [bspiCsAbort, Dev.setBspi_cyc, toLive_ite, cyc_ite, ite_self]

/-! ## Record -/

theorem Dev.putRec_cyc (d : Dev) (e : Nat) (r : Rec) : (Dev.putRec d e r).cyc = d.cyc := by
  simp only [Dev.putRec, Dev.mem_cyc]

theorem Dev.modRec_cyc (d : Dev) (e : Nat) (f : Rec → Rec) : (Dev.modRec d e f).cyc = d.cyc := by
  simp only [Dev.modRec, Dev.mem_cyc]

theorem Dev.setElemField_cyc (d : Dev) (e lo n v : Nat) (who : Finder) : (Dev.setElemField d e lo n v who).cyc = d.cyc := by
  simp only [Dev.setElemField, Dev.mem_cyc, toLive_ite, cyc_ite, snd_ite, ite_self, implies_true]

theorem Dev.setJump_cyc (d : Dev) (e : Nat) (b : Bool) (who : Finder) : (Dev.setJump d e b who).cyc = d.cyc := by
  simp only [Dev.setJump, Dev.setElemField_cyc, toLive_ite, cyc_ite, snd_ite, ite_self, implies_true]

theorem Dev.setSoft_cyc (d : Dev) (e : Nat) (b : Bool) : (Dev.setSoft d e b).cyc = d.cyc := by
  simp only [Dev.setSoft, Dev.setElemField_cyc, toLive_ite, cyc_ite, snd_ite, ite_self, implies_true]

theorem Dev.setCause_cyc (d : Dev) (e n : Nat) (who : Finder) : (Dev.setCause d e n who).cyc = d.cyc := by
  simp only [Dev.setCause, Dev.setElemField_cyc, toLive_ite, cyc_ite, snd_ite, ite_self, implies_true]

theorem Dev.setLast_cyc (d : Dev) (site v : Nat) : (Dev.setLast d site v).cyc = d.cyc := by
  simp only [Dev.setLast]

/-! ## Paths -/

theorem Dev.putNext_cyc (d : Dev) (off w : Nat) : (Dev.putNext d off w).cyc = d.cyc := by
  simp only [Dev.putNext, Dev.mem_cyc]

/-! ## Solver -/

theorem Dev.startSolve_cyc (d : Dev) (strict : Bool) : (Dev.startSolve d strict).cyc = d.cyc := by
  simp only [Dev.startSolve, Dev.setSolve_cyc]

theorem solveRequest_cyc (strict : Bool) (d : Dev) : (solveRequest strict d).2.cyc = d.cyc := by
  simp only [solveRequest, Dev.setSolve_cyc, Dev.startSolve_cyc, toLive_ite, cyc_ite, snd_ite, ite_self]

theorem solveStrict_cyc (d : Dev) : (solveStrict d).2.cyc = d.cyc := by
  simp only [solveStrict, solveRequest_cyc]

theorem solvePermissive_cyc (d : Dev) : (solvePermissive d).2.cyc = d.cyc := by
  simp only [solvePermissive, solveRequest_cyc]

theorem solveRequestWrite_cyc (v : Nat) (d : Dev) : (solveRequestWrite v d).2.cyc = d.cyc := by
  simp only [solveRequestWrite, solveStrict_cyc, solvePermissive_cyc, toLive_ite, cyc_ite, snd_ite, ite_self]

theorem Dev.putNextIf_cyc (d : Dev) (off w : Nat) : (Dev.putNextIf d off w).cyc = d.cyc := by
  simp only [Dev.putNextIf, Dev.putNext_cyc, toLive_ite, cyc_ite, ite_self]

theorem Dev.writeSolve_cyc (d : Dev) (r : SolveRun) : (Dev.writeSolve d r).cyc = d.cyc := by
  simp only [Dev.writeSolve, Dev.putNextIf_cyc, each_cyc, iter_cyc, implies_true]

theorem solveDone_cyc (time : Nat) (d : Dev) : (solveDone time d).cyc = d.cyc := by
  (simp only [solveDone]; (repeat' split) <;> first | with_reducible rfl | simp only [Dev.raise_cyc, Dev.setSolve_cyc, Dev.startSolve_cyc, Dev.writeSolve_cyc])

theorem rawTargetWrite_cyc (e : Nat) (b : List Byte) (d : Dev) : (rawTargetWrite e b d).2.cyc = d.cyc := by
  simp only [rawTargetWrite, Dev.putNext_cyc, toLive_ite, cyc_ite, snd_ite, ite_self]

/-! ## Respond -/

theorem Dev.putWindow_cyc (d : Dev) (w : ReqWindow) : (Dev.putWindow d w).cyc = d.cyc := by
  simp only [Dev.putWindow, Dev.setReq_cyc]

theorem Dev.recordEntry_cyc (d : Dev) (o : Outstanding) (status : Resp) (body : List Byte) :
    (Dev.recordEntry d o status body).cyc = d.cyc := by
  (simp only [Dev.recordEntry]; (repeat' split) <;> first | with_reducible rfl | simp only [Dev.setReq_cyc, Dev.putWindow_cyc])

theorem Dev.sendResponse_cyc (d : Dev) (spi : Bool) (src cls : Nat) (planeB poison : Bool) (body : List Byte) :
    (Dev.sendResponse d spi src cls planeB poison body).cyc = d.cyc := by
  simp only [Dev.sendResponse, Dev.originate_cyc, Dev.setBspi_cyc, Dev.setReq_cyc, toLive_ite, cyc_ite, ite_self]

theorem Dev.countReq_cyc (d : Dev) (i : Nat) : (Dev.countReq d i).cyc = d.cyc := by
  simp only [Dev.countReq, Dev.setReq_cyc]

theorem Dev.answerFromCache_cyc (d : Dev) (src cls : Nat) (planeB : Bool) (e : WinEntry) :
    (Dev.answerFromCache d src cls planeB e).cyc = d.cyc := by
  simp only [Dev.answerFromCache, Dev.sendResponse_cyc, Dev.countReq_cyc]

theorem Dev.finishRequest_cyc (d : Dev) (o : Outstanding) : (Dev.finishRequest d o).cyc = d.cyc := by
  simp only [Dev.finishRequest, each_cyc, Dev.answerFromCache_cyc, Dev.recordEntry_cyc, Dev.sendResponse_cyc, Dev.setBspi_cyc, toLive_ite, cyc_ite, snd_ite, ite_self, implies_true]

theorem Dev.answerWait_cyc (d : Dev) (w : WaitFor) (code : Resp) : (Dev.answerWait d w code).cyc = d.cyc := by
  simp only [Dev.answerWait, Dev.setReq_cyc, Dev.finishRequest_cyc, each_cyc, implies_true]

/-! ## LabelSample -/

theorem Dev.setChan_cyc (d : Dev) (t j : Nat) (x : PairChan) : (Dev.setChan d t j x).cyc = d.cyc := by
  simp only [Dev.setChan, Dev.setDec_cyc]

theorem Dev.labelPhases_cyc (d : Dev) : (Dev.labelPhases d).cyc = d.cyc := by
  simp only [Dev.labelPhases, Dev.setDec_cyc, iter_cyc, toLive_ite, cyc_ite, ite_self, implies_true]

theorem Dev.chanSample_cyc (d : Dev) (t : Nat) (s : Int) (q back : Nat) : (Dev.chanSample d t s q back).cyc = d.cyc := by
  simp only [Dev.chanSample, Dev.setDec_cyc, Dev.setChan_cyc, iter_cyc, toLive_ite, cyc_ite, ite_self, implies_true]

theorem Dev.labelSample_cyc (d : Dev) (site : Nat) (s : Int) (cycle tick : Nat) :
    (Dev.labelSample d site s cycle tick).cyc = d.cyc := by
  simp only [Dev.labelSample, Dev.chanSample_cyc, iter_cyc, toLive_ite, cyc_ite, ite_self, implies_true]

/-! ## LabelTable -/

theorem Dev.putLabel_cyc (d : Dev) (p : Nat) (e : LabelEntry) : (Dev.putLabel d p e).cyc = d.cyc := by
  simp only [Dev.putLabel, Dev.mem_cyc]

theorem Dev.clearLabel_cyc (d : Dev) (p : Nat) : (Dev.clearLabel d p).cyc = d.cyc := by
  simp only [Dev.clearLabel, Dev.putLabel_cyc]

theorem Dev.pushLearn_cyc (d : Dev) (b : List Byte) : (Dev.pushLearn d b).cyc = d.cyc := by
  simp only [Dev.pushLearn, Dev.raiseIf_cyc, Dev.setDec_cyc, toLive_ite, cyc_ite, ite_self]

theorem learnReadIndexWrite_cyc (v : BitVec 16) (d : Dev) : (learnReadIndexWrite v d).2.cyc = d.cyc := by
  simp only [learnReadIndexWrite, Dev.setDecCfg_cyc, toLive_ite, cyc_ite, snd_ite, ite_self]

theorem Dev.runInsert_cyc (d : Dev) (c : LabelCmd) : (Dev.runInsert d c).2.cyc = d.cyc := by
  (simp only [Dev.runInsert, toLive_ite, cyc_ite, snd_ite]; (repeat' split) <;> first | with_reducible rfl | simp only [Dev.putLabel_cyc])

theorem Dev.runDelete_cyc (d : Dev) (c : LabelCmd) : (Dev.runDelete d c).2.cyc = d.cyc := by
  (simp only [Dev.runDelete, toLive_ite, cyc_ite, snd_ite]; (repeat' split) <;> first | with_reducible rfl | simp only [Dev.clearLabel_cyc])

theorem Dev.runSearch_cyc (d : Dev) (c : LabelCmd) : (Dev.runSearch d c).2.cyc = d.cyc := by
  (simp only [Dev.runSearch, toLive_ite, cyc_ite, snd_ite]; (repeat' split) <;> with_reducible rfl)

theorem Dev.runNext_cyc (d : Dev) (c : LabelCmd) : (Dev.runNext d c).2.cyc = d.cyc := by
  (simp only [Dev.runNext, toLive_ite, cyc_ite, snd_ite]; (repeat' split) <;> with_reducible rfl)

theorem Dev.putResult80_cyc (d : Dev) (c : LabelCmd) (o : LabelOut) : (Dev.putResult80 d c o).cyc = d.cyc := by
  simp only [Dev.putResult80, Dev.setLab_cyc]

theorem Dev.completeLabel_cyc (d : Dev) (c : LabelCmd) (origin : CmdOrigin) (o : LabelOut) :
    (Dev.completeLabel d c origin o).cyc = d.cyc := by
  (simp only [Dev.completeLabel, toLive_ite]; (repeat' split) <;> first | with_reducible rfl | simp only [Dev.reply_cyc, Dev.answerWait_cyc, Dev.setLab_cyc, Dev.pushLearn_cyc, Dev.putResult80_cyc])

theorem Dev.flushStep_cyc (d : Dev) (c : LabelCmd) (origin : CmdOrigin) (k n : Nat) :
    (Dev.flushStep d c origin k n).cyc = d.cyc := by
  simp only [Dev.flushStep, Dev.setLab_cyc, Dev.clearLabel_cyc, each_cyc, implies_true]

theorem Dev.labelStep_cyc (d : Dev) : (Dev.labelStep d).cyc = d.cyc := by
  (simp only [Dev.labelStep, toLive_ite, cyc_ite]; (repeat' split) <;> first | with_reducible rfl | simp only [Dev.setLab_cyc, Dev.runInsert_cyc, Dev.runDelete_cyc, Dev.runSearch_cyc, Dev.runNext_cyc, Dev.completeLabel_cyc, Dev.flushStep_cyc])

theorem Dev.queueLabel_cyc (d : Dev) (c : LabelCmd) (o : CmdOrigin) : (Dev.queueLabel d c o).cyc = d.cyc := by
  simp only [Dev.queueLabel, Dev.setLab_cyc, toLive_ite, cyc_ite, snd_ite, ite_self, implies_true]

theorem Dev.acceptLabel_cyc (d : Dev) (c : LabelCmd) (o : CmdOrigin) : (Dev.acceptLabel d c o).cyc = d.cyc := by
  simp only [Dev.acceptLabel, Dev.labelStep_cyc, Dev.queueLabel_cyc, toLive_ite, cyc_ite, snd_ite, ite_self, implies_true]

theorem Dev.submitLabel_cyc (d : Dev) (c : LabelCmd) (ops : List Nat) : (Dev.submitLabel d c ops).2.cyc = d.cyc := by
  simp only [Dev.submitLabel, Dev.setLab_cyc, Dev.acceptLabel_cyc, toLive_ite, cyc_ite, snd_ite, ite_self]

theorem Dev.labelCommand_cyc (d : Dev) (c : LabelCmd) (ops : List Nat) : (d.labelCommand c ops).cyc = d.cyc := by
  have h := Dev.submitLabel_cyc d c ops
  unfold Dev.labelCommand
  generalize d.submitLabel c ops = p at h ⊢
  rcases p with ⟨_ | _, x⟩ <;> simpa only [Dev.reply_cyc] using h

theorem labelInsert_cyc (c : LabelCmd) (d : Dev) : (labelInsert c d).cyc = d.cyc := by
  simp only [labelInsert, Dev.labelCommand_cyc]

theorem labelDelete_cyc (c : LabelCmd) (d : Dev) : (labelDelete c d).cyc = d.cyc := by
  simp only [labelDelete, Dev.labelCommand_cyc]

theorem labelSearch_cyc (c : LabelCmd) (d : Dev) : (labelSearch c d).cyc = d.cyc := by
  simp only [labelSearch, Dev.labelCommand_cyc]

theorem labelNext_cyc (c : LabelCmd) (d : Dev) : (labelNext c d).cyc = d.cyc := by
  simp only [labelNext, Dev.labelCommand_cyc]

theorem flushByPort_cyc (c : LabelCmd) (d : Dev) : (flushByPort c d).cyc = d.cyc := by
  simp only [flushByPort, Dev.labelCommand_cyc]

theorem flushByPortDone_cyc (d : Dev) : (flushByPortDone d).cyc = d.cyc := by
  (simp only [flushByPortDone]; (repeat' split) <;> first | with_reducible rfl | simp only [Dev.setLab_cyc, Dev.completeLabel_cyc])

theorem Dev.refreshSeen_cyc (d : Dev) (key level : Nat) : (Dev.refreshSeen d key level).cyc = d.cyc := by
  (simp only [Dev.refreshSeen]; (repeat' split) <;> first | with_reducible rfl | simp only [Dev.putLabel_cyc])

theorem Dev.ageOne_cyc (d : Dev) (p : Nat) : (Dev.ageOne d p).cyc = d.cyc := by
  simp only [Dev.ageOne, Dev.setLab_cyc, Dev.putLabel_cyc, Dev.clearLabel_cyc, toLive_ite, cyc_ite, ite_self]

theorem Dev.sweepStep_cyc (d : Dev) : (Dev.sweepStep d).cyc = d.cyc := by
  (simp only [Dev.sweepStep]; (repeat' split) <;> first | with_reducible rfl | simp only [Dev.setLab_cyc, Dev.ageOne_cyc, each_cyc, implies_true])

theorem Dev.labelTick_cyc (d : Dev) : (Dev.labelTick d).cyc = d.cyc := by
  simp only [Dev.labelTick, Dev.setLab_cyc, Dev.labelStep_cyc, Dev.sweepStep_cyc]

theorem agingPassStart_cyc (d : Dev) : (agingPassStart d).cyc = d.cyc := by
  simp only [agingPassStart, Dev.setLab_cyc, toLive_ite, cyc_ite, ite_self]

theorem ageTimeWrite_cyc (v : Nat) (d : Dev) : (ageTimeWrite v d).2.cyc = d.cyc := by
  simp only [ageTimeWrite, toLive_ite, cyc_ite, snd_ite, ite_self]

theorem Dev.hitAll_cyc (d : Dev) : (Dev.hitAll d).cyc = d.cyc := by
  simp only [Dev.hitAll, Dev.putLabel_cyc, each_cyc, implies_true]

theorem Dev.dropPorts_cyc (d : Dev) (n : Nat) : (Dev.dropPorts d n).cyc = d.cyc := by
  simp only [Dev.dropPorts, Dev.clearLabel_cyc, each_cyc, implies_true]

/-! ## Circuit -/

theorem Dev.nextGen_cyc (d : Dev) : (Dev.nextGen d).cyc = d.cyc := by
  simp only [Dev.nextGen, Dev.setCirc_cyc]

theorem Dev.putEntry_cyc (d : Dev) (k : Nat) (c : Circ) : (Dev.putEntry d k c).cyc = d.cyc := by
  simp only [Dev.putEntry, Dev.putNextIf_cyc]

theorem Dev.setVerState_cyc (d : Dev) (k : Nat) (x : VerState) : (Dev.setVerState d k x).cyc = d.cyc := by
  simp only [Dev.setVerState, Dev.setVer_cyc]

theorem Dev.verifyDone_cyc (d : Dev) : (Dev.verifyDone d).cyc = d.cyc := by
  simp only [Dev.verifyDone, Dev.raise_cyc, Dev.setVer_cyc, each_cyc, implies_true]

theorem Dev.verifySeen_cyc (d : Dev) (k : Nat) (c : Circ) (key : BitVec 24) (start stop : Nat) :
    (Dev.verifySeen d k c key start stop).cyc = d.cyc := by
  simp only [Dev.verifySeen, Dev.raiseIf_cyc, Dev.setVer_cyc, Dev.setVerState_cyc, Dev.verifyDone_cyc, toLive_ite, cyc_ite, ite_self]

theorem Dev.verifyDecode_cyc (d : Dev) (p : Nat) (key : BitVec 24) (start stop : Nat) :
    (Dev.verifyDecode d p key start stop).cyc = d.cyc := by
  simp only [Dev.verifyDecode, Dev.verifySeen_cyc, each_cyc, implies_true]

theorem Dev.setBucket_cyc (d : Dev) (x : Nat) (b : Int) : (Dev.setBucket d x b).cyc = d.cyc := by
  simp only [Dev.setBucket]

theorem Dev.noteDelayReq_cyc (d : Dev) (l : Nat) (f : Frame) : (Dev.noteDelayReq d l f).cyc = d.cyc := by
  (simp only [Dev.noteDelayReq]; (repeat' split) <;> first | with_reducible rfl | simp only [implies_true])

theorem Dev.start_cyc (d : Dev) (l c : Nat) (x : Lane) : (Dev.start d l c x).cyc = d.cyc := by
  (simp only [Dev.start]; (repeat' split) <;> first | with_reducible rfl | simp only [Dev.countLane_cyc, Dev.countQueue_cyc, Dev.noteDelayReq_cyc, Dev.setBucket_cyc, Dev.setLane_cyc, implies_true])

theorem Dev.notify_cyc (d : Dev) (kind pair port : Nat) (key : BitVec 24) (level other start : Nat) : (Dev.notify d kind pair port key level other start).cyc = d.cyc := by
  simp only [Dev.notify, Dev.pushLearn_cyc, Dev.queueLabel_cyc, Dev.setDec_cyc, Dev.start_cyc, toLive_ite, cyc_ite, snd_ite, ite_self, implies_true]

theorem Dev.sight_cyc (d : Dev) (p j : Nat) (c : CurLabel) : (Dev.sight d p j c).cyc = d.cyc := by
  simp only [Dev.sight, Dev.setChan_cyc, Dev.refreshSeen_cyc, Dev.notify_cyc, toLive_ite, cyc_ite, ite_self]

theorem Dev.goodDecode_cyc (d : Dev) (t j : Nat) (key : BitVec 24) (level start stop : Nat) :
    (Dev.goodDecode d t j key level start stop).cyc = d.cyc := by
  (simp only [Dev.goodDecode, Dev.setChan_cyc, Dev.verifyDecode_cyc, toLive_ite, cyc_ite]; (repeat' split) <;> first | with_reducible rfl | simp only [Dev.setChan_cyc, Dev.sight_cyc])

theorem Dev.endDecode_cyc (d : Dev) (t j : Nat) (x : Decode) (stop : Nat) : (Dev.endDecode d t j x stop).cyc = d.cyc := by
  (simp only [Dev.endDecode]; (repeat' split) <;> first | with_reducible rfl | simp only [Dev.setDec_cyc, Dev.goodDecode_cyc])

theorem Dev.quarterOne_cyc (d : Dev) (q t j : Nat) : (Dev.quarterOne d q t j).cyc = d.cyc := by
  (simp only [Dev.quarterOne, toLive_ite, cyc_ite]; (repeat' split) <;> first | with_reducible rfl | simp only [Dev.setChan_cyc, Dev.endDecode_cyc])

theorem quarterBit_cyc (d : Dev) : (quarterBit d).cyc = d.cyc := by
  simp only [quarterBit, iter_cyc, Dev.labelStep_cyc, Dev.quarterOne_cyc, Dev.setDec_cyc, toLive_ite, cyc_ite, snd_ite, ite_self, implies_true]

theorem Dev.beforeResolution_cyc (d : Dev) : (Dev.beforeResolution d).cyc = d.cyc := by
  simp only [Dev.beforeResolution, Dev.labelStep_cyc, Dev.setLab_cyc, quarterBit_cyc, toLive_ite, cyc_ite, snd_ite, ite_self, implies_true]

theorem circuitNextWrite_cyc (k : Nat) (b : List Byte) (d : Dev) : (circuitNextWrite k b d).2.cyc = d.cyc := by
  (simp only [circuitNextWrite]; (repeat' split) <;> first | with_reducible rfl | simp only [Dev.beforeResolution_cyc, Dev.nextGen_cyc, Dev.putEntry_cyc, implies_true])

theorem circuitBatch_cyc (b : List Byte) (d : Dev) : (circuitBatch b d).2.cyc = d.cyc := by
  (simp only [circuitBatch]; (repeat' split) <;> first | with_reducible rfl | simp only [each_cyc, Dev.beforeResolution_cyc, Dev.drop_cyc, Dev.nextGen_cyc, Dev.putEntry_cyc, Dev.setCirc_cyc, implies_true])

theorem nextResetCopy_cyc (d : Dev) : (nextResetCopy d).2.cyc = d.cyc := by
  simp only [nextResetCopy, Dev.setCirc_cyc, Dev.nextGen_cyc, toLive_ite, cyc_ite, snd_ite, ite_self]

theorem nextResetClear_cyc (d : Dev) : (nextResetClear d).2.cyc = d.cyc := by
  simp only [nextResetClear, Dev.nextGen_cyc, Dev.putEntry_cyc, each_cyc, toLive_ite, cyc_ite, snd_ite, ite_self, implies_true]

theorem nextResetWrite_cyc (v : Nat) (d : Dev) : (nextResetWrite v d).2.cyc = d.cyc := by
  (simp only [nextResetWrite]; (repeat' split) <;> first | with_reducible rfl | simp only [nextResetCopy_cyc, nextResetClear_cyc])

theorem Dev.rawAtten_cyc (d : Dev) (p : Nat) : (Dev.rawAtten d p).cyc = d.cyc := by
  simp only [Dev.rawAtten, Dev.putNextIf_cyc, toLive_ite, cyc_ite, ite_self]

theorem portAttenWrite_cyc (p : Nat) (b : List Byte) (d : Dev) : (portAttenWrite p b d).2.cyc = d.cyc := by
  simp only [portAttenWrite, Dev.nextGen_cyc, Dev.rawAtten_cyc, toLive_ite, cyc_ite, snd_ite, ite_self]

/-! ## Drive -/

theorem Dev.repeatCode_cyc (d : Dev) (site c : Nat) (env : SlotEnv) : (Dev.repeatCode d site c env).2.cyc = d.cyc := by
  (simp only [Dev.repeatCode, Dev.raise_cyc, Dev.setLast_cyc, Dev.setDrv_cyc, toLive_ite, cyc_ite, snd_ite, ite_self]; (repeat' split) <;> first | with_reducible rfl | simp only [Dev.draw_cyc])

theorem Dev.driveColumn_cyc (d : Dev) (j row : Nat) (env : SlotEnv) (c : Nat) :
    (Dev.driveColumn d j row env c).cyc = d.cyc := by
  simp only [Dev.driveColumn, Dev.raise_cyc, Dev.setLast_cyc, Dev.setDrv_cyc, Dev.repeatCode_cyc, toLive_ite, cyc_ite, ite_self]

theorem Dev.driveSlot_cyc (d : Dev) (j : Nat) (env : SlotEnv) : (Dev.driveSlot d j env).cyc = d.cyc := by
  simp only [Dev.driveSlot, each_cyc, Dev.driveColumn_cyc, Dev.setDrv_cyc, toLive_ite, cyc_ite, snd_ite, ite_self, implies_true]

theorem Dev.lateWrites_cyc (d : Dev) : (Dev.lateWrites d).cyc = d.cyc := by
  simp only [Dev.lateWrites, each_cyc, Dev.raise_cyc, Dev.setDrv_cyc, toLive_ite, cyc_ite, snd_ite, ite_self, implies_true]

theorem Dev.queueCode_cyc (d : Dev) (c j code : Nat) (poison : Bool) : (Dev.queueCode d c j code poison).cyc = d.cyc := by
  simp only [Dev.queueCode, Dev.setDrv_cyc]

theorem Dev.swapPages_cyc (d : Dev) : (Dev.swapPages d).cyc = d.cyc := by
  simp only [Dev.swapPages, Dev.setDrv_cyc]

theorem Dev.contentionSlot_cyc (d : Dev) (env : SlotEnv) : (Dev.contentionSlot d env).cyc = d.cyc := by
  simp only [Dev.contentionSlot, Dev.raise_cyc, Dev.setDrv_cyc, each_cyc, toLive_ite, cyc_ite, ite_self, implies_true]

theorem Dev.addLineFault_cyc (d : Dev) (cause line arg2 due : Nat) :
    (Dev.addLineFault d cause line arg2 due).cyc = d.cyc := by
  simp only [Dev.addLineFault, Dev.setLoop_cyc]

theorem Dev.invalidColumn_cyc (d : Dev) (c cycles : Nat) : (Dev.invalidColumn d c cycles).cyc = d.cyc := by
  simp only [Dev.invalidColumn]

theorem Dev.returnColumn_cyc (d : Dev) (g : Nat) : (Dev.returnColumn d g).cyc = d.cyc := by
  (simp only [Dev.returnColumn]; (repeat' split) <;> first | with_reducible rfl | simp only [Dev.setDrv_cyc, Dev.invalidColumn_cyc])

theorem Dev.moveColumn_cyc (d : Dev) (c : Nat) : (Dev.moveColumn d c).cyc = d.cyc := by
  simp only [Dev.moveColumn, Dev.setDrv_cyc, Dev.invalidColumn_cyc, Dev.returnColumn_cyc]

theorem Dev.permanentSpare_cyc (d : Dev) (c : Nat) : (Dev.permanentSpare d c).cyc = d.cyc := by
  simp only [Dev.permanentSpare, Dev.setDrv_cyc, Dev.moveColumn_cyc, toLive_ite, cyc_ite, ite_self]

theorem Dev.actColumn_cyc (d : Dev) (few : Bool) (c : Nat) : (Dev.actColumn d few c).cyc = d.cyc := by
  simp only [Dev.actColumn, Dev.addLineFault_cyc, Dev.permanentSpare_cyc, Dev.raise_cyc, Dev.setDrv_cyc, toLive_ite, cyc_ite, snd_ite, ite_self, implies_true]

theorem Dev.actContention_cyc (d : Dev) : (Dev.actContention d).cyc = d.cyc := by
  simp only [Dev.actContention, each_cyc, Dev.actColumn_cyc, Dev.declareFault_cyc, Dev.raise_cyc, Dev.setDrv_cyc, toLive_ite, cyc_ite, snd_ite, ite_self, implies_true]

theorem Dev.rowFail_cyc (d : Dev) (n : Nat) : (Dev.rowFail d n).cyc = d.cyc := by
  simp only [Dev.rowFail, Dev.raise_cyc, Dev.setDrv_cyc, Dev.addLineFault_cyc, toLive_ite, cyc_ite, ite_self]

theorem Dev.rowSlot_cyc (d : Dev) (j : Nat) (env : SlotEnv) : (Dev.rowSlot d j env).cyc = d.cyc := by
  simp only [Dev.rowSlot, Dev.setDrv_cyc, Dev.rowFail_cyc, each_cyc, toLive_ite, cyc_ite, ite_self, implies_true]

theorem Dev.rowTick_cyc (d : Dev) : (Dev.rowTick d).cyc = d.cyc := by
  simp only [Dev.rowTick, Dev.setDrv_cyc]

theorem rowFaultClear_cyc (v : Nat) (d : Dev) : (rowFaultClear v d).2.cyc = d.cyc := by
  simp only [rowFaultClear, Dev.setDrv_cyc, toLive_ite, cyc_ite, snd_ite, ite_self]

theorem Dev.lineTick_cyc (d : Dev) : (Dev.lineTick d).cyc = d.cyc := by
  simp only [Dev.lineTick, Dev.raiseIf_cyc, Dev.setLoop_cyc, each_cyc, implies_true]

theorem Dev.groupWrite_cyc (d : Dev) (g v : Nat) : (Dev.groupWrite d g v).cyc = d.cyc := by
  simp only [Dev.groupWrite, Dev.setDrv_cyc, Dev.setDrvCfg_cyc]

theorem groupStop_cyc (g : Nat) (d : Dev) : (groupStop g d).2.cyc = d.cyc := by
  simp only [groupStop, Dev.groupWrite_cyc, toLive_ite, cyc_ite, snd_ite, ite_self]

theorem groupStopForced_cyc (g : Nat) (d : Dev) : (groupStopForced g d).2.cyc = d.cyc := by
  simp only [groupStopForced, Dev.groupWrite_cyc]

theorem groupEnable_cyc (g : Nat) (d : Dev) : (groupEnable g d).2.cyc = d.cyc := by
  simp only [groupEnable, Dev.groupWrite_cyc]

theorem groupControlWrite_cyc (g v : Nat) (d : Dev) : (groupControlWrite g v d).2.cyc = d.cyc := by
  (simp only [groupControlWrite]; (repeat' split) <;> first | with_reducible rfl | simp only [groupStop_cyc, groupStopForced_cyc, groupEnable_cyc])

theorem Dev.setGroup_cyc (d : Dev) (g : Nat) (x : RunState) : (Dev.setGroup d g x).cyc = d.cyc := by
  simp only [Dev.setGroup, Dev.setDrv_cyc]

theorem Dev.fromZero_cyc (d : Dev) (e : Nat) : (Dev.fromZero d e).cyc = d.cyc := by
  simp only [Dev.fromZero, Dev.modRec_cyc, Dev.setLast_cyc, toLive_ite, cyc_ite, snd_ite, ite_self, implies_true]

theorem Dev.restartGroup_cyc (d : Dev) (g : Nat) : (Dev.restartGroup d g).cyc = d.cyc := by
  simp only [Dev.restartGroup, each_cyc, Dev.fromZero_cyc, Dev.setGroup_cyc, Dev.setLoop_cyc, toLive_ite, cyc_ite, snd_ite, ite_self, implies_true]

theorem Dev.groupOne_cyc (d : Dev) (g : Nat) : (Dev.groupOne d g).cyc = d.cyc := by
  (simp only [Dev.groupOne, toLive_ite]; (repeat' split) <;> first | with_reducible rfl | simp only [Dev.setDrv_cyc, Dev.setGroup_cyc, Dev.restartGroup_cyc])

theorem Dev.groupTick_cyc (d : Dev) : (Dev.groupTick d).cyc = d.cyc := by
  simp only [Dev.groupTick, Dev.setDrv_cyc, Dev.groupOne_cyc, iter_cyc, implies_true]

theorem groupStopped_cyc (g : Nat) (d : Dev) : (groupStopped g d).cyc = d.cyc := by
  simp only [groupStopped, Dev.setDrv_cyc, Dev.setGroup_cyc, Dev.restartGroup_cyc, toLive_ite, cyc_ite, ite_self]

theorem idleCodeWrite_cyc (v : Nat) (d : Dev) : (idleCodeWrite v d).2.cyc = d.cyc := by
  simp only [idleCodeWrite, Dev.setDrv_cyc, Dev.setDrvCfg_cyc, toLive_ite, cyc_ite, snd_ite, ite_self]

theorem Dev.toneStep_cyc (d : Dev) (n t : Nat) : (Dev.toneStep d n t).cyc = d.cyc := by
  simp only [Dev.toneStep, Dev.setDrv_cyc]

theorem Dev.toneTick_cyc (d : Dev) (n : Nat) : (Dev.toneTick d n).cyc = d.cyc := by
  simp only [Dev.toneTick, Dev.setDrv_cyc, Dev.toneStep_cyc, iter_cyc, implies_true]

theorem Dev.putTone_cyc (d : Dev) (t : Nat) (f : Tone → Tone) : (Dev.putTone d t f).cyc = d.cyc := by
  simp only [Dev.putTone, Dev.setDrv_cyc, Dev.setDrvCfg_cyc]

theorem toneFtwWrite_cyc (t v : Nat) (d : Dev) : (toneFtwWrite t v d).2.cyc = d.cyc := by
  simp only [toneFtwWrite, Dev.putTone_cyc, toLive_ite, cyc_ite, snd_ite, ite_self]

theorem tonePhaseWrite_cyc (t v : Nat) (d : Dev) : (tonePhaseWrite t v d).2.cyc = d.cyc := by
  simp only [tonePhaseWrite, Dev.putTone_cyc]

theorem toneAmplitudeWrite_cyc (t v : Nat) (d : Dev) : (toneAmplitudeWrite t v d).2.cyc = d.cyc := by
  simp only [toneAmplitudeWrite, Dev.putTone_cyc]

theorem toneEnableWrite_cyc (t : Nat) (v : Bool) (d : Dev) : (toneEnableWrite t v d).2.cyc = d.cyc := by
  simp only [toneEnableWrite, Dev.putTone_cyc]

theorem offsetTrimWrite_cyc (c : Nat) (v : Int) (d : Dev) : (offsetTrimWrite c v d).2.cyc = d.cyc := by
  simp only [offsetTrimWrite, Dev.setDrvCfg_cyc, toLive_ite, cyc_ite, snd_ite, ite_self]

theorem gainTrimWrite_cyc (c : Nat) (v : Int) (d : Dev) : (gainTrimWrite c v d).2.cyc = d.cyc := by
  simp only [gainTrimWrite, Dev.setDrvCfg_cyc, toLive_ite, cyc_ite, snd_ite, ite_self]

theorem contentionLimitWrite_cyc (v : Nat) (d : Dev) : (contentionLimitWrite v d).2.cyc = d.cyc := by
  simp only [contentionLimitWrite, Dev.setDrvCfg_cyc, toLive_ite, cyc_ite, snd_ite, ite_self]

/-! ## Law -/

theorem Dev.putWorking_cyc (d : Dev) (e : Nat) (k : Curve) : (Dev.putWorking d e k).cyc = d.cyc := by
  simp only [Dev.putWorking, Dev.mem_cyc]

/-! ## RecordWrite -/

theorem Dev.stage_cyc (d : Dev) (e : Nat) (f : RecField) (v : Int) : (Dev.stage d e f v).cyc = d.cyc := by
  simp only [Dev.stage, Dev.setLoop_cyc]

theorem fieldWrite_cyc (e : Nat) (f : RecField) (v : Int) (d : Dev) : (fieldWrite e f v d).2.cyc = d.cyc := by
  simp only [fieldWrite, Dev.stage_cyc, toLive_ite, cyc_ite, snd_ite, ite_self]

theorem modeField_cyc (e : Nat) (v : Int) (d : Dev) : (modeField e v d).2.cyc = d.cyc := by
  simp only [modeField, fieldWrite_cyc, toLive_ite, cyc_ite, snd_ite, ite_self]

theorem anyFieldWrite_cyc (e : Nat) (f : RecField) (v : Int) (d : Dev) : (anyFieldWrite e f v d).2.cyc = d.cyc := by
  (simp only [anyFieldWrite]; (repeat' split) <;> first | with_reducible rfl | simp only [fieldWrite_cyc, modeField_cyc])

theorem recordFieldWrite_cyc (e : Nat) (f : RecField) (v : Int) (d : Dev) : (recordFieldWrite e f v d).2.cyc = d.cyc := by
  simp only [recordFieldWrite, anyFieldWrite_cyc]

theorem modeWrite_cyc (e v : Nat) (d : Dev) : (modeWrite e v d).2.cyc = d.cyc := by
  simp only [modeWrite, modeField_cyc]

theorem setpointRequest_cyc (e : Nat) (target : Nat) (rate : Option Nat) (d : Dev) :
    (setpointRequest e target rate d).2.cyc = d.cyc := by
  (simp only [setpointRequest]; (repeat' split) <;> first | with_reducible rfl | simp only [fieldWrite_cyc])

theorem settleEntryWrite_cyc (v : Nat) (d : Dev) : (settleEntryWrite v d).2.cyc = d.cyc := by
  simp only [settleEntryWrite, toLive_ite, cyc_ite, snd_ite, ite_self]

/-! ## LoopCtl -/

theorem Dev.loopWrite_cyc (d : Dev) (v : Nat) (f : Loop → Loop) : (Dev.loopWrite d v f).cyc = d.cyc := by
  simp only [Dev.loopWrite]

theorem loopStop_cyc (d : Dev) : (loopStop d).2.cyc = d.cyc := by
  simp only [loopStop, Dev.loopWrite_cyc]

theorem loopStart_cyc (d : Dev) : (loopStart d).2.cyc = d.cyc := by
  simp only [loopStart, Dev.loopWrite_cyc, toLive_ite, cyc_ite, snd_ite, ite_self]

theorem loopControlWrite_cyc (v : Nat) (d : Dev) : (loopControlWrite v d).2.cyc = d.cyc := by
  (simp only [loopControlWrite]; (repeat' split) <;> first | with_reducible rfl | simp only [loopStop_cyc, loopStart_cyc])

theorem Dev.startLoop_cyc (d : Dev) : (Dev.startLoop d).cyc = d.cyc := by
  simp only [Dev.startLoop, Dev.setLoop_cyc]

theorem Dev.loopTick_cyc (d : Dev) : (Dev.loopTick d).cyc = d.cyc := by
  (simp only [Dev.loopTick]; (repeat' split) <;> first | with_reducible rfl | simp only [Dev.setLoop_cyc, Dev.startLoop_cyc])

theorem Dev.fenceLane_cyc (d : Dev) (l : Nat) : (Dev.fenceLane d l).cyc = d.cyc := by
  simp only [Dev.fenceLane, Dev.declareFault_cyc, Dev.setLoop_cyc, toLive_ite, cyc_ite, ite_self]

theorem Dev.mismatch_cyc (d : Dev) (l e : Nat) : (Dev.mismatch d l e).cyc = d.cyc := by
  simp only [Dev.mismatch, Dev.raise_cyc, Dev.setLoop_cyc, Dev.fenceLane_cyc, toLive_ite, cyc_ite, ite_self]

theorem laneUnfence_cyc (l : Nat) (d : Dev) : (laneUnfence l d).2.cyc = d.cyc := by
  simp only [laneUnfence, Dev.setLoop_cyc, toLive_ite, cyc_ite, snd_ite, ite_self]

theorem Dev.takeSpare_cyc (d : Dev) (n : Nat) : (Dev.takeSpare d n).cyc = d.cyc := by
  simp only [Dev.takeSpare, Dev.setLoop_cyc, toLive_ite, cyc_ite, snd_ite, ite_self, implies_true]

theorem laneSelftestDone_cyc (l : Nat) (pass : Bool) (d : Dev) : (laneSelftestDone l pass d).cyc = d.cyc := by
  simp only [laneSelftestDone, Dev.raise_cyc, Dev.setLoop_cyc, Dev.takeSpare_cyc, toLive_ite, cyc_ite, snd_ite, ite_self, implies_true]

theorem Dev.laneTick_cyc (d : Dev) : (Dev.laneTick d).cyc = d.cyc := by
  simp only [Dev.laneTick, Dev.raise_cyc, Dev.setLoop_cyc, each_cyc, implies_true]

theorem Dev.checkerTick_cyc (d : Dev) (missed : Bool) : (Dev.checkerTick d missed).cyc = d.cyc := by
  simp only [Dev.checkerTick, Dev.fenceLane_cyc, Dev.raise_cyc, Dev.setLoop_cyc, Dev.takeSpare_cyc, toLive_ite, cyc_ite, snd_ite, ite_self, implies_true]

theorem Dev.requestReverse_cyc (d : Dev) (e c mode : Nat) : (Dev.requestReverse d e c mode).cyc = d.cyc := by
  simp only [Dev.requestReverse, Dev.setLoop_cyc, toLive_ite, cyc_ite, snd_ite, ite_self, implies_true]

theorem reverseLinearisation_cyc (e : Nat) (bad : Option Nat) (d : Dev) : (reverseLinearisation e bad d).cyc = d.cyc := by
  (simp only [reverseLinearisation]; (repeat' split) <;> first | with_reducible rfl | simp only [Dev.mismatch_cyc, Dev.modRec_cyc, Dev.setLoop_cyc, Dev.takeSpare_cyc, implies_true])

theorem Dev.darkEvents_cyc (d : Dev) : (Dev.darkEvents d).cyc = d.cyc := by
  simp only [Dev.darkEvents, Dev.raise_cyc, Dev.setLoop_cyc, toLive_ite, cyc_ite, ite_self]

theorem Dev.countTick_cyc (d : Dev) : (Dev.countTick d).cyc = d.cyc := by
  simp only [Dev.countTick, Dev.setLoop_cyc]

/-! ## MemUnit -/

theorem Dev.lastError_cyc (d : Dev) (a kind : Nat) (f : Finder) (syn : Nat) :
    (Dev.lastError d a kind f syn).cyc = d.cyc := by
  simp only [Dev.lastError]

theorem Dev.countCorrected_cyc (d : Dev) (g : Nat) : (Dev.countCorrected d g).cyc = d.cyc := by
  simp only [Dev.countCorrected, Dev.raiseIf_cyc]

theorem Dev.hardError_cyc (d : Dev) (a : Nat) : (Dev.hardError d a).cyc = d.cyc := by
  simp only [Dev.hardError, Dev.raise_cyc, Dev.raiseIf_cyc, toLive_ite, cyc_ite, ite_self]

theorem Dev.askRebuild_cyc (d : Dev) (a : Nat) : (Dev.askRebuild d a).cyc = d.cyc := by
  simp only [Dev.askRebuild, toLive_ite, cyc_ite, ite_self]

theorem Dev.noteCorrected_cyc (d : Dev) (a : Nat) (f : Finder) (syn : Nat) : (Dev.noteCorrected d a f syn).cyc = d.cyc := by
  simp only [Dev.noteCorrected, Dev.lastError_cyc, Dev.countCorrected_cyc, Dev.hardError_cyc, toLive_ite, cyc_ite, ite_self]

theorem Dev.noteBad_cyc (d : Dev) (a : Nat) (f : Finder) (syn : Nat) : (Dev.noteBad d a f syn).cyc = d.cyc := by
  simp only [Dev.noteBad, Dev.raise_cyc, Dev.lastError_cyc, Dev.hardError_cyc, Dev.askRebuild_cyc, toLive_ite, cyc_ite, ite_self]

theorem Dev.readNative_cyc (d : Dev) (a : Nat) (f : Finder) (flips : List Nat) :
    (Dev.readNative d a f flips).cyc = d.cyc := by
  (simp only [Dev.readNative, toLive_ite, cyc_ite]; (repeat' split) <;> first | with_reducible rfl | simp only [Dev.mem_cyc, Dev.noteCorrected_cyc, Dev.noteBad_cyc])

theorem Dev.readByte_cyc (d : Dev) (a : Nat) (f : Finder) (flips : List Nat) : (Dev.readByte d a f flips).cyc = d.cyc := by
  (simp only [Dev.readByte, toLive_ite, cyc_ite]; (repeat' split) <;> first | with_reducible rfl | simp only [Dev.mem_cyc, Dev.noteCorrected_cyc, Dev.noteBad_cyc])

theorem Dev.readWord_cyc (d : Dev) (a : Nat) (f : Finder) (flips : List Nat) : (Dev.readWord d a f flips).cyc = d.cyc := by
  simp only [Dev.readWord, Dev.readNative_cyc, Dev.readByte_cyc, iter_cyc, toLive_ite, cyc_ite, ite_self, implies_true]

theorem memoryUe_cyc (addr : Nat) (f : Finder) (flips : List Nat) (d : Dev) :
    ∀ d2, memoryUe addr f flips d = .ok d2 → d2.cyc = d.cyc := by
  intro d2 h
  unfold memoryUe at h
  split at h
  · cases h
  · cases h; exact Dev.readWord_cyc ..

theorem correctiveWriteback_cyc (a : Nat) (d : Dev) : ∀ d2, correctiveWriteback a d = .ok d2 → d2.cyc = d.cyc := by
  intro d2 h
  unfold correctiveWriteback at h
  split at h
  · cases h
  · split at h <;> (cases h; rfl)

theorem Dev.answerMerged_cyc (d : Dev) : (Dev.answerMerged d).cyc = d.cyc := by
  simp only [Dev.answerMerged, each_cyc, Dev.answerWait_cyc, toLive_ite, cyc_ite, snd_ite, ite_self, implies_true]

theorem mergeRetire_cyc (flips : List Nat) (d : Dev) : (mergeRetire flips d).cyc = d.cyc := by
  (simp only [mergeRetire]; (repeat' split) <;> first | with_reducible rfl | simp only [Dev.answerMerged_cyc, Dev.mem_cyc, Dev.readNative_cyc, Dev.reply_cyc, implies_true])

theorem hostPart_cyc (a : Nat) (l : List Byte) (d : Dev) : (hostPart a l d).2.cyc = d.cyc := by
  simp only [hostPart, Dev.mem_cyc, toLive_ite, cyc_ite, snd_ite, ite_self]

theorem leakOne_cyc (d : Dev) (g : Nat) : (leakOne d g).cyc = d.cyc := by
  simp only [leakOne]

theorem ceLeak_cyc (d : Dev) : (ceLeak d).cyc = d.cyc := by
  simp only [ceLeak, leakOne_cyc, iter_cyc, implies_true]

theorem windowModeWrite_cyc (v : Nat) (d : Dev) : (windowModeWrite v d).2.cyc = d.cyc := by
  simp only [windowModeWrite, Dev.mem_cyc, toLive_ite, cyc_ite, snd_ite, ite_self]

theorem windowBlockWrite_cyc (j : Nat) (l : List Byte) (d : Dev) : (windowBlockWrite j l d).2.cyc = d.cyc := by
  simp only [windowBlockWrite, Dev.mem_cyc]

theorem Dev.consumePoison_cyc (d : Dev) (a : Nat) : (Dev.consumePoison d a).cyc = d.cyc := by
  simp only [Dev.consumePoison, Dev.lastError_cyc, Dev.raise_cyc, toLive_ite, cyc_ite, snd_ite, ite_self, implies_true]

theorem coreDataAbort_cyc (a : Nat) (inRequest : Bool) (d : Dev) : ∀ d2, coreDataAbort a inRequest d = .ok d2 → d2.cyc = d.cyc := by
  intro d2 h
  unfold coreDataAbort at h
  split at h
  · cases h
  · split at h
    · cases h
      dsimp only
      (repeat' split) <;> simp only [Dev.reply_cyc, Dev.answerWait_cyc, Dev.consumePoison_cyc]
    · cases h; rfl

theorem heartbeatMissing_cyc (halted : Bool) (d : Dev) : (heartbeatMissing halted d).cyc = d.cyc := by
  simp only [heartbeatMissing, Dev.raise_cyc]

/-! ## Readout -/

theorem Dev.monitorSlot_cyc (d : Dev) (m : Nat) : (Dev.monitorSlot d m).cyc = d.cyc := by
  simp only [Dev.monitorSlot, Dev.setRd_cyc, toLive_ite, cyc_ite, ite_self]

theorem Dev.putAcc_cyc (d : Dev) (i : Nat) (v : Int) : (Dev.putAcc d i v).cyc = d.cyc := by
  (simp only [Dev.putAcc, Dev.mem_cyc, toLive_ite, cyc_ite]; (repeat' split) <;> first | with_reducible rfl | simp only [Dev.mem_cyc, Dev.setRd_cyc])

theorem Dev.enter_cyc (d : Dev) (i : Nat) (s : Int) : (Dev.enter d i s).2.cyc = d.cyc := by
  (simp only [Dev.enter]; (repeat' split) <;> first | with_reducible rfl | simp only [Dev.setRd_cyc, Dev.putAcc_cyc])

theorem Dev.store_cyc (d : Dev) (i : Nat) (x : Sample) : (Dev.store d i x).cyc = d.cyc := by
  simp only [Dev.store, Dev.setRd_cyc]

theorem Dev.countInvalid_cyc (d : Dev) (c : Nat) (valid : Bool) : (Dev.countInvalid d c valid).cyc = d.cyc := by
  simp only [Dev.countInvalid, Dev.setRd_cyc, toLive_ite, cyc_ite, ite_self]

theorem Dev.countOver_cyc (d : Dev) (c : Nat) : (Dev.countOver d c).cyc = d.cyc := by
  simp only [Dev.countOver, Dev.raiseIf_cyc, Dev.setRd_cyc]

theorem Dev.pushInject_cyc (d : Dev) (b : List Byte) : (Dev.pushInject d b).cyc = d.cyc := by
  simp only [Dev.pushInject, Dev.setRd_cyc]

theorem Dev.capture_cyc (d : Dev) (e : InjectEntry) (n : Nat) (flags : BitVec 8) (raw slot : Nat) (s : Int) :
    (Dev.capture d e n flags raw slot s).cyc = d.cyc := by
  simp only [Dev.capture, Dev.answerWait_cyc, Dev.setRd_cyc, Dev.pushInject_cyc, toLive_ite, cyc_ite, ite_self]

theorem Dev.missedOf_cyc (d : Dev) (bound : Nat) (e : InjectEntry) : (Dev.missedOf d bound e).cyc = d.cyc := by
  unfold Dev.missedOf
  refine iter_cyc _ _ _ _ (fun n x => ?_)
  split
  · split
    · exact Dev.capture_cyc ..
    · rfl
  · rfl

theorem Dev.takeover_cyc (d : Dev) : (Dev.takeover d).cyc = d.cyc := by
  simp only [Dev.takeover, Dev.raise_cyc, Dev.setTow_cyc]

theorem Dev.causeTo_cyc (d : Dev) (e : Nat) (c : Option Nat) : (Dev.causeTo d e c).cyc = d.cyc := by
  (simp only [Dev.causeTo]; (repeat' split) <;> first | with_reducible rfl | simp only [Dev.setCause_cyc, implies_true])

theorem Dev.putRateLimit_cyc (d : Dev) (e : Nat) (writes : List Staged) : (Dev.putRateLimit d e writes).cyc = d.cyc := by
  (simp only [Dev.putRateLimit]; (repeat' split) <;> first | with_reducible rfl | simp only [Dev.setElemField_cyc, implies_true])

theorem Dev.softTo_cyc (d : Dev) (e : Nat) (b : Bool) : (Dev.softTo d e b).cyc = d.cyc := by
  simp only [Dev.softTo, Dev.setSoft_cyc, toLive_ite, cyc_ite, snd_ite, ite_self, implies_true]

theorem Dev.recordOnly_cyc (d : Dev) (e : Nat) : (Dev.recordOnly d e).cyc = d.cyc := by
  simp only [Dev.recordOnly, Dev.causeTo_cyc, Dev.mem_cyc, Dev.putRateLimit_cyc, Dev.setLoop_cyc, Dev.softTo_cyc, toLive_ite, cyc_ite, snd_ite, ite_self, implies_true]

theorem Dev.traceEntry_cyc (d : Dev) (e status slot : Nat) (nodes : List (Nat × Int)) :
    (Dev.traceEntry d e status slot nodes).cyc = d.cyc := by
  (simp only [Dev.traceEntry, toLive_ite, cyc_ite]; (repeat' split) <;> first | with_reducible rfl | simp only [Dev.mem_cyc])

theorem Dev.retryJump_cyc (d : Dev) (e : Nat) : (Dev.retryJump d e).cyc = d.cyc := by
  simp only [Dev.retryJump]

theorem Dev.discard_cyc (d : Dev) : (Dev.discard d).cyc = d.cyc := by
  simp only [Dev.discard, Dev.setLoop_cyc]

theorem Dev.fireTrace_cyc (d : Dev) (cause elem cycle : Nat) (inGroup : Bool) :
    (Dev.fireTrace d cause elem cycle inGroup).cyc = d.cyc := by
  simp only [Dev.fireTrace, Dev.setTrace_cyc, toLive_ite, cyc_ite, ite_self]

theorem Dev.traceSource_cyc (d : Dev) (src elem cycle : Nat) (inGroup : Bool) :
    (Dev.traceSource d src elem cycle inGroup).cyc = d.cyc := by
  simp only [Dev.traceSource, Dev.fireTrace_cyc, toLive_ite, cyc_ite, ite_self]

theorem Dev.enterHold_cyc (d : Dev) (n j e a : Nat) : (Dev.enterHold d n j e a).cyc = d.cyc := by
  simp only [Dev.enterHold, Dev.discard_cyc, Dev.lastError_cyc, Dev.raise_cyc, Dev.setLoop_cyc, Dev.traceEntry_cyc, Dev.traceSource_cyc, toLive_ite, cyc_ite, snd_ite, ite_self, implies_true]

theorem Dev.jumpTaken_cyc (d : Dev) (e : Nat) (taken : Bool) : (Dev.jumpTaken d e taken).cyc = d.cyc := by
  simp only [Dev.jumpTaken, Dev.setJump_cyc, toLive_ite, cyc_ite, snd_ite, ite_self, implies_true]

theorem Dev.putElem_cyc (d : Dev) (f : Fetch) (o : UpdOut) (e : Nat) : (Dev.putElem d f o e).cyc = d.cyc := by
  simp only [Dev.putElem, Dev.causeTo_cyc, Dev.jumpTaken_cyc, Dev.putRateLimit_cyc, Dev.softTo_cyc, toLive_ite, cyc_ite, snd_ite, ite_self, implies_true]

theorem Dev.settleLists_cyc (d : Dev) (f : Fetch) (e : Nat) : (Dev.settleLists d f e).cyc = d.cyc := by
  simp only [Dev.settleLists, Dev.setLoop_cyc]

theorem Dev.settleJump_cyc (d : Dev) (f : Fetch) (o : UpdOut) (e : Nat) : (Dev.settleJump d f o e).cyc = d.cyc := by
  simp only [Dev.settleJump]

theorem Dev.sweepSample_cyc (d : Dev) (f : Fetch) (e : Nat) : (Dev.sweepSample d f e).cyc = d.cyc := by
  simp only [Dev.sweepSample]

theorem Dev.refitAdd_cyc (d : Dev) (f : Fetch) (o : UpdOut) (e : Nat) : (Dev.refitAdd d f o e).2.cyc = d.cyc := by
  (simp only [Dev.refitAdd]; (repeat' split) <;> first | with_reducible rfl | simp only [Dev.takeSpare_cyc, implies_true])

theorem Dev.updateEvents_cyc (d : Dev) (f : Fetch) (o : UpdOut) (n e : Nat) : (Dev.updateEvents d f o n e).cyc = d.cyc := by
  simp only [Dev.updateEvents, Dev.raise_cyc, Dev.raiseIf_cyc, Dev.setLoop_cyc, Dev.traceSource_cyc, toLive_ite, cyc_ite, ite_self]

theorem Dev.captureWord_cyc (d : Dev) (b e : Nat) : (Dev.captureWord d b e).cyc = d.cyc := by
  simp only [Dev.captureWord, Dev.mem_cyc, toLive_ite, cyc_ite, snd_ite, ite_self, implies_true]

theorem Dev.takeWord_cyc (d : Dev) (e : Nat) : (Dev.takeWord d e).cyc = d.cyc := by
  (simp only [Dev.takeWord]; (repeat' split) <;> first | with_reducible rfl | simp only [Dev.capture_cyc, Dev.captureWord_cyc, Dev.setTow_cyc, implies_true])

theorem Dev.writeBack_cyc (d : Dev) (f : Fetch) (n j lane clock e : Nat) : (Dev.writeBack d f n j lane clock e).cyc = d.cyc := by
  (simp only [Dev.writeBack]; (repeat' split) <;> first | with_reducible rfl | simp only [Dev.mem_cyc, Dev.putElem_cyc, Dev.queueCode_cyc, Dev.refitAdd_cyc, Dev.requestReverse_cyc, Dev.settleJump_cyc, Dev.settleLists_cyc, Dev.sweepSample_cyc, Dev.takeWord_cyc, Dev.traceEntry_cyc, Dev.updateEvents_cyc, implies_true])

theorem Dev.updateElem_cyc (d : Dev) (env : SlotEnv) (n j lane clock e : Nat) : (Dev.updateElem d env n j lane clock e).cyc = d.cyc := by
  (simp only [Dev.updateElem]; (repeat' split) <;> first | with_reducible rfl | simp only [Dev.askRebuild_cyc, Dev.discard_cyc, Dev.enterHold_cyc, Dev.mismatch_cyc, Dev.queueCode_cyc, Dev.retryJump_cyc, Dev.setLoop_cyc, Dev.traceEntry_cyc, Dev.writeBack_cyc, implies_true])

theorem Dev.makeLate_cyc (d : Dev) (j c : Nat) : (Dev.makeLate d j c).cyc = d.cyc := by
  simp only [Dev.makeLate, Dev.setDrv_cyc, toLive_ite, cyc_ite, snd_ite, ite_self, implies_true]

theorem Dev.updateSlot_cyc (d : Dev) (env : SlotEnv) (j : Nat) : (Dev.updateSlot d env j).cyc = d.cyc := by
  unfold Dev.updateSlot
  dsimp only
  (repeat' split) <;> first | rfl | simp only [each_cyc, Dev.makeLate_cyc, Dev.recordOnly_cyc, Dev.setLoop_cyc, Dev.start_cyc, Dev.takeover_cyc, Dev.updateElem_cyc, toLive_ite, cyc_ite, snd_ite, ite_self, implies_true]

theorem Dev.toSlot_cyc (d : Dev) (j : Nat) : (Dev.toSlot d j).cyc = d.cyc := by
  simp only [Dev.toSlot, toLive_ite, cyc_ite, ite_self]

theorem slot_cyc_q (env : SlotEnv) (d : Dev) (h : d.cyc.legal = true) : (slot env d).cyc.legal = true := by
  unfold slot
  dsimp only
  split
  · exact h
  · rename_i hs
    simp only [Cycle.legal, Bool.and_eq_true, toLive_ite, cyc_ite, Dev.updateSlot_cyc, Dev.rowSlot_cyc, Dev.contentionSlot_cyc,
      Dev.driveSlot_cyc, Dev.monitorSlot_cyc, Dev.lateWrites_cyc, Dev.toSlot_cyc, ite_self] at h ⊢
    exact ⟨h.1, by simpa using hs⟩

theorem Dev.captures_cyc (d : Dev) (x : Conversion) (flags : BitVec 8) (raw : Nat) (s : Int) : (Dev.captures d x flags raw s).cyc = d.cyc := by
  simp only [Dev.captures, each_cyc, Dev.capture_cyc, Dev.missedOf_cyc, toLive_ite, cyc_ite, snd_ite, ite_self, implies_true]

theorem Dev.missedCaptures_cyc (d : Dev) (ended : Nat) : (d.missedCaptures ended).cyc = d.cyc := by
  refine each_cyc _ _ _ (fun e d => iter_cyc _ _ _ _ (fun n d => ?_))
  split
  · split <;> first | rfl | exact Dev.capture_cyc ..
  · rfl

theorem Dev.darkSum_cyc (d : Dev) (x : Conversion) (v : Int) : (Dev.darkSum d x v).cyc = d.cyc := by
  (simp only [Dev.darkSum]; (repeat' split) <;> with_reducible rfl)

theorem Dev.advanceTo_cyc (d : Dev) (t : Nat) : (Dev.advanceTo d t).cyc = d.cyc := by
  simp only [Dev.advanceTo, Dev.setTime_cyc, toLive_ite, cyc_ite, ite_self]

theorem Dev.fillBuffer_cyc (d : Dev) (b : Nat) (es : List Nat) : (Dev.fillBuffer d b es).cyc = d.cyc := by
  simp only [Dev.fillBuffer, each_cyc, Dev.captureWord_cyc, Dev.mem_cyc, toLive_ite, cyc_ite, snd_ite, ite_self, implies_true]

theorem Dev.finishCapture_cyc (d : Dev) : (Dev.finishCapture d).cyc = d.cyc := by
  (simp only [Dev.finishCapture]; (repeat' split) <;> first | with_reducible rfl | simp only [Dev.capture_cyc, Dev.fillBuffer_cyc, Dev.setTow_cyc, Dev.takeSpare_cyc, implies_true])

theorem Dev.openGroup_cyc (d : Dev) : (Dev.openGroup d).cyc = d.cyc := by
  simp only [Dev.openGroup, Dev.setTrace_cyc, Dev.traceEntry_cyc, each_cyc, implies_true]

theorem Dev.traceTick_cyc (d : Dev) (snap : Bool) (ended : Nat) : (Dev.traceTick d snap ended).cyc = d.cyc := by
  (simp only [Dev.traceTick, Dev.setTrace_cyc, Dev.traceSource_cyc, toLive_ite, cyc_ite, ite_self]; (repeat' split) <;> first | with_reducible rfl | simp only [Dev.setTrace_cyc, Dev.traceSource_cyc, Dev.openGroup_cyc])

theorem Dev.stepWaiting_cyc (d : Dev) : (Dev.stepWaiting d).cyc = d.cyc := by
  simp only [Dev.stepWaiting, Dev.raise_cyc, Dev.setTime_cyc, toLive_ite, cyc_ite, ite_self]

theorem Dev.sampleQueue_cyc (d : Dev) (l c : Nat) : (Dev.sampleQueue d l c).cyc = d.cyc := by
  simp only [Dev.sampleQueue]

theorem Dev.sampleQueues_cyc (d : Dev) : (Dev.sampleQueues d).cyc = d.cyc := by
  simp only [Dev.sampleQueues, Dev.sampleQueue_cyc, iter_cyc, toLive_ite, cyc_ite, ite_self, implies_true]

theorem Dev.trafficTick_cyc (d : Dev) : (Dev.trafficTick d).cyc = d.cyc := by
  simp only [Dev.trafficTick, Dev.sampleQueues_cyc, toLive_ite, cyc_ite, ite_self]

theorem Dev.setTrigger_cyc (d : Dev) (j : Nat) (x : Trigger) : (Dev.setTrigger d j x).cyc = d.cyc := by
  simp only [Dev.setTrigger]

theorem Dev.endTrigger_cyc (d : Dev) (r : Resp) (j : Nat) : (Dev.endTrigger d r j).cyc = d.cyc := by
  simp only [Dev.endTrigger, Dev.raise_cyc, Dev.setTrigger_cyc, toLive_ite, cyc_ite, ite_self]

theorem Dev.clearCauses_cyc (d : Dev) (causes : Nat) : (Dev.clearCauses d causes).cyc = d.cyc := by
  simp only [Dev.clearCauses]

theorem Dev.snapshot_cyc (d : Dev) (tick : Nat) : (Dev.snapshot d tick).2.cyc = d.cyc := by
  simp only [Dev.snapshot, Dev.raise_cyc, Dev.endTrigger_cyc, Dev.clearCauses_cyc, each_cyc, toLive_ite, cyc_ite, snd_ite, ite_self, implies_true]

theorem readItem_cyc (level idx sub : Nat) (sel : Option Nat) (off len : Nat) (d : Dev) :
    (readItem level idx sub sel off len d).2.cyc = d.cyc := by
  (simp only [readItem]; (repeat' split) <;> first | with_reducible rfl | simp only [Dev.lastError_cyc])

theorem telemList_cyc (n : Nat) (b : List Byte) (d : Dev) : (telemList n b d).cyc = d.cyc := by
  have key : ∀ (level room : Nat) (l : List TelemObj) (r : List (List Byte × Bool) × Dev), (l.foldl (fun (x : List (List Byte × Bool) × Dev) o =>
    let p := readItem level o.idx o.sub o.sel 0 0 x.2
    let a := telemAnswer room p.1
    (x.1 ++ [(o.name ++ a.bytes, a.poison)], p.2)) r).2.cyc = r.2.cyc := by
    intro level room l
    induction l with
    | nil => intro r; rfl
    | cons o l ih => intro r; simp only [List.foldl_cons, ih, readItem_cyc]
  unfold telemList
  simp only [Dev.setReq_cyc, foldl_cyc _ _ _ (fun (f : (List Byte × Nat × Bool) × Nat) (x : Dev) => Dev.originate_cyc x ..), key]

theorem Dev.telemTick_cyc (d : Dev) : (Dev.telemTick d).cyc = d.cyc := by
  simp only [Dev.telemTick, telemList_cyc, each_cyc, toLive_ite, cyc_ite, ite_self, implies_true]

theorem Dev.endHold_cyc (d : Dev) (e : Nat) : (Dev.endHold d e).cyc = d.cyc := by
  simp only [Dev.endHold, Dev.setLoop_cyc, toLive_ite, cyc_ite, snd_ite, ite_self, implies_true]

theorem Dev.enterCurve_cyc (d : Dev) (e : Nat) (k : Curve) : (Dev.enterCurve d e k).cyc = d.cyc := by
  simp only [Dev.enterCurve, Dev.endHold_cyc, Dev.putWorking_cyc, Dev.requestReverse_cyc, Dev.setCal_cyc, toLive_ite, cyc_ite, snd_ite, ite_self, implies_true]

theorem Dev.checkCurve_cyc (d : Dev) (e : Nat) : (Dev.checkCurve d e).cyc = d.cyc := by
  simp only [Dev.checkCurve, Dev.enter_cyc, Dev.enterCurve_cyc, Dev.raise_cyc, Dev.setCal_cyc, toLive_ite, cyc_ite, snd_ite, ite_self, implies_true]

theorem Dev.curveChecks_cyc (d : Dev) : (Dev.curveChecks d).cyc = d.cyc := by
  simp only [Dev.curveChecks, Dev.setCal_cyc, Dev.checkCurve_cyc, each_cyc, implies_true]

theorem Dev.digestTick_cyc (d : Dev) : (Dev.digestTick d).cyc = d.cyc := by
  simp only [Dev.digestTick, Dev.setCirc_cyc, toLive_ite, cyc_ite, ite_self]

theorem Dev.endCycle_cyc (d : Dev) (ended : Nat) : (Dev.endCycle d ended).cyc = d.cyc := by
  simp only [Dev.endCycle, Dev.labelTick_cyc, Dev.darkEvents_cyc, Dev.missedCaptures_cyc, Dev.curveChecks_cyc, Dev.digestTick_cyc]

theorem Dev.takeConf_cyc_q (d : Dev) (t : Nat) (h : d.cyc.legal = true) :
    (d.takeConf t).cyc.conf.good = true ∧ (d.takeConf t).cyc.next.all CycleConf.good = true := by
  simp only [Cycle.legal, Bool.and_eq_true] at h
  unfold Dev.takeConf
  split
  · rename_i c hc
    split
    · exact ⟨by simpa only [hc, Option.all_some] using h.1.2, rfl⟩
    · exact h.1
  · exact h.1

theorem Dev.openCycle_cyc_q (d : Dev) (t : Nat) (h : d.cyc.legal = true) : (d.openCycle t).cyc.legal = true := by
  have h1 := Dev.takeConf_cyc_q d (t % timeWrap) h
  simp only [Dev.openCycle, Dev.setTime_cyc, Cycle.legal, Bool.and_eq_true, Nat.zero_le, decide_true, and_true]
  exact h1

theorem Dev.loadCorr_cyc (d : Dev) (chain g : Nat) : (Dev.loadCorr d chain g).cyc = d.cyc := by
  simp only [Dev.loadCorr, Dev.setRdCfg_cyc, iter_cyc, implies_true]

theorem Dev.loadSpares_cyc (d : Dev) (before : List (Nat × Nat)) : (Dev.loadSpares d before).cyc = d.cyc := by
  simp only [Dev.loadSpares, Dev.loadCorr_cyc, each_cyc, implies_true]

theorem Dev.driveTick_cyc (d : Dev) : (Dev.driveTick d).cyc = d.cyc := by
  simp only [Dev.driveTick, Dev.actContention_cyc, Dev.groupTick_cyc, Dev.lateWrites_cyc, Dev.lineTick_cyc, Dev.loadSpares_cyc, Dev.rowTick_cyc, Dev.swapPages_cyc, toLive_ite, cyc_ite, snd_ite, ite_self, implies_true]

theorem Dev.halfRateTick_cyc_q (d : Dev) (h : d.cyc.legal = true) : d.halfRateTick.cyc.legal = true := h

theorem Dev.engineTick_cyc_q (d : Dev) (missed : Bool) (h : d.cyc.legal = true) :
    (Dev.engineTick d missed).cyc.legal = true := by
  simp +contextual only [Dev.engineTick, Dev.throttleTick_cyc, Dev.loopTick_cyc, Dev.laneTick_cyc, Dev.checkerTick_cyc, Dev.countTick_cyc, Dev.halfRateTick_cyc_q, h]

theorem Dev.readoutTick_cyc (d : Dev) : d.readoutTick.cyc = d.cyc := by
  have step : ∀ (p : Nat × Int) (x : Dev), (if tget 0 x.cfg.rd.skewTrim p.1 = p.2 then x else match x.servedBy (p.1 / 2) with
      | some c => x.invalidColumn c 1
      | none => x).cyc = x.cyc := by
    intro p x
    split
    · rfl
    · split
      · exact Dev.invalidColumn_cyc ..
      · rfl
  unfold Dev.readoutTick
  refine (each_cyc _ _ _ step).trans ((each_cyc _ _ _ ?_).trans ((each_cyc _ _ _ ?_).trans (Dev.setRd_cyc ..)))
  · intro p x; dsimp only; split <;> first | rfl | exact Dev.setRd_cyc ..
  · intro p x; dsimp only; split
    · rfl
    · rw [Dev.invalidColumn_cyc, Dev.loadCorr_cyc]

theorem Dev.sweepTick_cyc (d : Dev) : (Dev.sweepTick d).cyc = d.cyc := by
  simp only [Dev.sweepTick, Dev.setCal_cyc]

theorem Dev.refitTick_cyc (d : Dev) : (Dev.refitTick d).cyc = d.cyc := by
  simp only [Dev.refitTick, Dev.setCal_cyc, toLive_ite, cyc_ite, ite_self]

theorem Dev.pausePairs_cyc (d : Dev) : (Dev.pausePairs d).cyc = d.cyc := by
  simp only [Dev.pausePairs, Dev.setDec_cyc, toLive_ite, cyc_ite, snd_ite, ite_self, implies_true]

theorem Dev.pairTick_cyc (d : Dev) : (Dev.pairTick d).cyc = d.cyc := by
  simp only [Dev.pairTick, iter_cyc, Dev.pausePairs_cyc, Dev.raiseIf_cyc, Dev.setDec_cyc, toLive_ite, cyc_ite, snd_ite, ite_self, implies_true]

theorem Dev.enterPending_cyc (d : Dev) (k tick : Nat) : (Dev.enterPending d k tick).cyc = d.cyc := by
  simp only [Dev.enterPending, Dev.setVer_cyc, Dev.setVerState_cyc]

theorem Dev.pendAll_cyc (d : Dev) : (Dev.pendAll d).cyc = d.cyc := by
  simp only [Dev.pendAll, Dev.enterPending_cyc, each_cyc, toLive_ite, cyc_ite, ite_self, implies_true]

theorem Dev.repend_cyc (d : Dev) : (Dev.repend d).cyc = d.cyc := by
  simp only [Dev.repend, Dev.pendAll_cyc, Dev.setVer_cyc, Dev.verifyDone_cyc, toLive_ite, cyc_ite, snd_ite, ite_self, implies_true]

theorem Dev.resumeDecoder_cyc (d : Dev) : (Dev.resumeDecoder d).cyc = d.cyc := by
  simp only [Dev.resumeDecoder, Dev.hitAll_cyc, Dev.repend_cyc, Dev.setDec_cyc, toLive_ite, cyc_ite, snd_ite, ite_self, implies_true]

theorem Dev.clearLabels_cyc (d : Dev) : (Dev.clearLabels d).cyc = d.cyc := by
  simp only [Dev.clearLabels, Dev.setDec_cyc]

theorem Dev.leaveDecoder_cyc (d : Dev) (x : DecoderState) : (Dev.leaveDecoder d x).cyc = d.cyc := by
  simp only [Dev.leaveDecoder, Dev.setDec_cyc, Dev.clearLabels_cyc]

theorem Dev.decoderTick_cyc (d : Dev) : (Dev.decoderTick d).cyc = d.cyc := by
  (simp only [Dev.decoderTick, Dev.setDec_cyc, toLive_ite, cyc_ite, ite_self]; (repeat' split) <;> first | with_reducible rfl | simp only [Dev.setDec_cyc, Dev.resumeDecoder_cyc, Dev.leaveDecoder_cyc])

theorem Dev.countQuarter_cyc (d : Dev) : (Dev.countQuarter d).cyc = d.cyc := by
  simp only [Dev.countQuarter, Dev.setDec_cyc, toLive_ite, cyc_ite, snd_ite, ite_self, implies_true]

theorem Dev.sampleTick_cyc (d : Dev) : (Dev.sampleTick d).cyc = d.cyc := by
  simp only [Dev.sampleTick, Dev.countQuarter_cyc, Dev.decoderTick_cyc, Dev.labelPhases_cyc, Dev.pairTick_cyc, Dev.readoutTick_cyc, Dev.refitTick_cyc, Dev.sweepTick_cyc, toLive_ite, cyc_ite, snd_ite, ite_self, implies_true]

theorem Dev.readinessTick_cyc (d : Dev) : (Dev.readinessTick d).cyc = d.cyc := by
  simp only [Dev.readinessTick, Dev.raiseIf_cyc, Dev.setTow_cyc]

theorem Dev.selfItem_cyc (d : Dev) (fails i : Nat) : (Dev.selfItem d fails i).cyc = d.cyc := by
  simp only [Dev.selfItem, Dev.raise_cyc, Dev.setTow_cyc, toLive_ite, cyc_ite, snd_ite, ite_self, implies_true]

theorem Dev.selftestTick_cyc (d : Dev) (named : Nat) : (Dev.selftestTick d named).cyc = d.cyc := by
  simp only [Dev.selftestTick, iter_cyc, Dev.selfItem_cyc, Dev.setTow_cyc, toLive_ite, cyc_ite, snd_ite, ite_self, implies_true]

theorem Dev.dutyTick_cyc (d : Dev) : (Dev.dutyTick d).cyc = d.cyc := by
  (simp only [Dev.dutyTick, toLive_ite, cyc_ite]; (repeat' split) <;> first | with_reducible rfl | simp only [Dev.setTow_cyc])

theorem Dev.undrivenTick_cyc (d : Dev) : (Dev.undrivenTick d).cyc = d.cyc := by
  simp only [Dev.undrivenTick, Dev.raise_cyc, Dev.setTow_cyc, toLive_ite, cyc_ite, ite_self]

theorem Dev.toMate_cyc (d : Dev) (l cls typ : Nat) (poison : Bool) (payload : List Byte) :
    (Dev.toMate d l cls typ poison payload).cyc = d.cyc := by
  simp only [Dev.toMate, Dev.sendLocal_cyc]

theorem Dev.sendSync_cyc (d : Dev) (kind status item : Nat) (poison : Bool) (body : List Byte) :
    (Dev.sendSync d kind status item poison body).cyc = d.cyc := by
  simp only [Dev.sendSync, Dev.setTow_cyc, Dev.toMate_cyc, toLive_ite, cyc_ite, ite_self]

theorem Dev.wordAskTick_cyc (d : Dev) : (Dev.wordAskTick d).cyc = d.cyc := by
  simp only [Dev.wordAskTick, Dev.setTow_cyc, Dev.sendSync_cyc, each_cyc, toLive_ite, cyc_ite, ite_self, implies_true]

theorem Dev.loadSlot_cyc (d : Dev) (k : Nat) (passed : Option (Nat × Nat)) : (Dev.loadSlot d k passed).cyc = d.cyc := by
  simp only [Dev.loadSlot, Dev.setBoot_cyc]

theorem boot_cyc (d : Dev) : (boot d).cyc = d.cyc := by
  simp only [boot, Dev.setBoot_cyc, Dev.loadSlot_cyc, toLive_ite, cyc_ite, ite_self]

theorem Dev.rejoinTick_cyc (d : Dev) : (Dev.rejoinTick d).cyc = d.cyc := by
  (simp only [Dev.rejoinTick]; (repeat' split) <;> first | with_reducible rfl | simp only [Dev.originate_cyc, Dev.setBoot_cyc, boot_cyc, implies_true])

theorem Dev.savedTick_cyc (d : Dev) : (Dev.savedTick d).cyc = d.cyc := by
  (simp only [Dev.savedTick]; (repeat' split) <;> first | with_reducible rfl | simp only [Dev.setBoot_cyc, Dev.setFlash_cyc, boot_cyc, implies_true])

theorem Dev.towerTick_cyc (d : Dev) (selftest : Nat) : (Dev.towerTick d selftest).cyc = d.cyc := by
  simp only [Dev.towerTick, Dev.dutyTick_cyc, Dev.readinessTick_cyc, Dev.rejoinTick_cyc, Dev.savedTick_cyc, Dev.selftestTick_cyc, Dev.undrivenTick_cyc, Dev.wordAskTick_cyc, toLive_ite, cyc_ite, snd_ite, ite_self, implies_true]

theorem Dev.darkTick_cyc (d : Dev) : (Dev.darkTick d).cyc = d.cyc := by
  simp only [Dev.darkTick, Dev.setCal_cyc, toLive_ite, cyc_ite, ite_self]

theorem Dev.countImage_cyc (d : Dev) (i : Nat) : (Dev.countImage d i).cyc = d.cyc := by
  simp only [Dev.countImage, Dev.setTow_cyc]

theorem Dev.beginCapture_cyc (d : Dev) : (Dev.beginCapture d).cyc = d.cyc := by
  simp only [Dev.beginCapture, Dev.setTow_cyc, Dev.countImage_cyc, toLive_ite, cyc_ite, ite_self]

theorem Dev.intervalTick_cyc (d : Dev) : (Dev.intervalTick d).cyc = d.cyc := by
  simp only [Dev.intervalTick, Dev.setTow_cyc, toLive_ite, cyc_ite, ite_self]

theorem Dev.verifyTick_cyc (d : Dev) : (Dev.verifyTick d).cyc = d.cyc := by
  simp only [Dev.verifyTick, Dev.setVer_cyc, Dev.pendAll_cyc, Dev.verifyDone_cyc, toLive_ite, cyc_ite, ite_self]

theorem Dev.verifyCommit_cyc (d : Dev) (marked : List Nat) : (Dev.verifyCommit d marked).cyc = d.cyc := by
  simp only [Dev.verifyCommit, each_cyc, Dev.enterPending_cyc, Dev.setVer_cyc, Dev.setVerState_cyc, Dev.verifyDone_cyc, toLive_ite, cyc_ite, snd_ite, ite_self, implies_true]

theorem Dev.putCommitted_cyc (d : Dev) (e : Nat) : (Dev.putCommitted d e).cyc = d.cyc := by
  simp only [Dev.putCommitted, Dev.mem_cyc, Dev.take_cyc, toLive_ite, cyc_ite, snd_ite, ite_self, implies_true]

theorem Dev.fieldsLater_cyc (d : Dev) (marked : List Nat) : (Dev.fieldsLater d marked).cyc = d.cyc := by
  simp only [Dev.fieldsLater, each_cyc, Dev.putCommitted_cyc, Dev.setCirc_cyc, Dev.setJump_cyc, toLive_ite, cyc_ite, snd_ite, ite_self, implies_true]

theorem Dev.swapBanks_cyc (d : Dev) (a : Armed) : (Dev.swapBanks d a).cyc = d.cyc := by
  simp only [Dev.swapBanks, Dev.setCirc_cyc]

theorem Dev.finishCopy_cyc (d : Dev) : (Dev.finishCopy d).cyc = d.cyc := by
  (simp only [Dev.finishCopy]; (repeat' split) <;> first | with_reducible rfl | simp only [Dev.mem_cyc, Dev.setCirc_cyc])

theorem Dev.commitTick_cyc_q (d : Dev) (h : d.cyc.legal = true) : d.commitTick.cyc.legal = true := by
  unfold Dev.commitTick
  split
  · exact h
  · rename_i a _
    rw [← Dev.finishCopy_cyc, ← Dev.swapBanks_cyc _ a] at h
    simp only [Dev.verifyCommit_cyc, toLive_ite, cyc_ite, Dev.fieldsLater_cyc, ite_self]
    exact h

theorem Dev.setRotPos_cyc (d : Dev) (g p : Nat) : (Dev.setRotPos d g p).cyc = d.cyc := by
  simp only [Dev.setRotPos, Dev.setCal_cyc]

theorem Dev.requestMove_cyc (d : Dev) (g c t : Nat) : (Dev.requestMove d g c t).cyc = d.cyc := by
  (simp only [Dev.requestMove]; (repeat' split) <;> first | with_reducible rfl | simp only [Dev.setCal_cyc])

theorem Dev.enterStep_cyc (d : Dev) (g : Nat) (col : Option Nat) : (Dev.enterStep d g col).cyc = d.cyc := by
  (simp only [Dev.enterStep]; (repeat' split) <;> first | with_reducible rfl | simp only [Dev.moveColumn_cyc, Dev.loadCorr_cyc, Dev.setCal_cyc, Dev.setRotPos_cyc])

theorem Dev.startStep_cyc (d : Dev) (g : Nat) : (Dev.startStep d g).cyc = d.cyc := by
  (simp only [Dev.startStep, toLive_ite, cyc_ite]; (repeat' split) <;> first | with_reducible rfl | simp only [Dev.setCal_cyc, Dev.setRotPos_cyc, Dev.requestMove_cyc, Dev.enterStep_cyc])

theorem Dev.settleRotation_cyc (d : Dev) : (Dev.settleRotation d).cyc = d.cyc := by
  (simp only [Dev.settleRotation]; (repeat' split) <;> first | with_reducible rfl | simp only [Dev.setCal_cyc, Dev.startStep_cyc, iter_cyc, implies_true])

theorem Dev.rotateGroup_cyc (d : Dev) (g : Nat) : (Dev.rotateGroup d g).cyc = d.cyc := by
  (simp only [Dev.rotateGroup]; (repeat' split) <;> first | with_reducible rfl | simp only [Dev.setCal_cyc, Dev.requestMove_cyc, Dev.startStep_cyc])

theorem Dev.rotationTick_cyc (d : Dev) : (Dev.rotationTick d).cyc = d.cyc := by
  simp only [Dev.rotationTick, Dev.settleRotation_cyc, Dev.rotateGroup_cyc, iter_cyc, toLive_ite, cyc_ite, ite_self, implies_true]

theorem Dev.rightsTick_cyc (d : Dev) : (Dev.rightsTick d).cyc = d.cyc := by
  simp only [Dev.rightsTick, Dev.setReq_cyc, toLive_ite, cyc_ite, ite_self]

theorem Dev.dropOutputs_cyc (d : Dev) : (Dev.dropOutputs d).cyc = d.cyc := by
  simp only [Dev.dropOutputs, toLive_ite, cyc_ite, snd_ite, ite_self, implies_true]

theorem Dev.readoutRun_cyc (d : Dev) : (Dev.readoutRun d).cyc = d.cyc := by
  simp only [Dev.readoutRun, toLive_ite, cyc_ite, ite_self]

theorem Dev.applyClaim_cyc (d : Dev) : (Dev.applyClaim d).cyc = d.cyc := by
  (simp only [Dev.applyClaim]; (repeat' split) <;> first | with_reducible rfl | simp only [Dev.dropOutputs_cyc, Dev.readoutRun_cyc, Dev.setTow_cyc, Dev.takeover_cyc, implies_true])

theorem Dev.markTakeover_cyc (d : Dev) : (Dev.markTakeover d).cyc = d.cyc := by
  simp only [Dev.markTakeover, Dev.setCirc_cyc]

theorem Dev.standBy_cyc (d : Dev) : (Dev.standBy d).cyc = d.cyc := by
  simp only [Dev.standBy, Dev.stopLoop_cyc, toLive_ite, cyc_ite, ite_self]

theorem Dev.applyStaged_cyc (d : Dev) : (Dev.applyStaged d).cyc = d.cyc := by
  (simp only [Dev.applyStaged]; (repeat' split) <;> first | with_reducible rfl | simp only [each_cyc, Dev.recordOnly_cyc, implies_true])

theorem Dev.roleTick_cyc (d : Dev) (lost : Bool) : (Dev.roleTick d lost).cyc = d.cyc := by
  simp only [Dev.roleTick, Dev.setTow_cyc, Dev.standBy_cyc, Dev.applyStaged_cyc, toLive_ite, cyc_ite, ite_self]

theorem Dev.claimTick_cyc (d : Dev) : (Dev.claimTick d).cyc = d.cyc := by
  simp only [Dev.claimTick, Dev.applyClaim_cyc, Dev.markTakeover_cyc, Dev.roleTick_cyc, toLive_ite, cyc_ite, ite_self]

theorem darkCapture_cyc (v : Nat) (d : Dev) : (darkCapture v d).2.cyc = d.cyc := by
  simp only [darkCapture, Dev.setCal_cyc, toLive_ite, cyc_ite, snd_ite, ite_self]

theorem traceForce_cyc (d : Dev) : (traceForce d).2.cyc = d.cyc := by
  simp only [traceForce, Dev.fireTrace_cyc, toLive_ite, cyc_ite, snd_ite, ite_self]

theorem Dev.tickOutEdge_cyc (d : Dev) (mark : Bool) : (Dev.tickOutEdge d mark).cyc = d.cyc := by
  simp only [Dev.tickOutEdge, Dev.setTime_cyc]

theorem Dev.fireAction_cyc (d : Dev) (t action : Nat) (f : Dev → Resp × Dev) (hf : ∀ d, (f d).2.cyc = d.cyc) :
    (Dev.fireAction d t action f).cyc = d.cyc := by
  (simp only [Dev.fireAction]; (repeat' split) <;> first | with_reducible rfl | simp only [Dev.endTrigger_cyc, each_cyc, implies_true, hf])

theorem Dev.fireTriggers_cyc (d : Dev) (t : Nat) : (Dev.fireTriggers d t).cyc = d.cyc := by
  simp only [Dev.fireTriggers, darkCapture_cyc, traceForce_cyc, Dev.tickOutEdge_cyc, Dev.fireAction_cyc, implies_true]

theorem Dev.readoutRestart_cyc (d : Dev) : (Dev.readoutRestart d).cyc = d.cyc := by
  simp only [Dev.readoutRestart, Dev.setRd_cyc, toLive_ite, cyc_ite, snd_ite, ite_self, implies_true]

theorem Dev.tickActions_cyc_q (d : Dev) (t : Nat) (h : d.cyc.legal = true) : (Dev.tickActions d t).cyc.legal = true := by
  simp +contextual only [Dev.tickActions, Dev.beginCapture_cyc, Dev.claimTick_cyc, Dev.commitTick_cyc_q, Dev.darkTick_cyc, Dev.fireTriggers_cyc, Dev.intervalTick_cyc, Dev.readoutRestart_cyc, Dev.rightsTick_cyc, Dev.rotationTick_cyc, Dev.toneTick_cyc, Dev.verifyTick_cyc, Dev.wiredTick_cyc, toLive_ite, cyc_ite, snd_ite, ite_self, legal_ite, implies_true, h]

theorem Dev.runTick_cyc (d : Dev) : (Dev.runTick d).cyc = d.cyc := by
  simp only [Dev.runTick, toLive_ite, cyc_ite, snd_ite, ite_self, implies_true]

theorem tick_cyc_q (env : TickEnv) (d : Dev) (h : d.cyc.legal = true) : (tick env d).cyc.legal = true := by
  unfold tick
  split
  · exact h
  · simp only [Dev.telemTick_cyc, Dev.judgeGuarantee_cyc, Dev.trafficTick_cyc, Dev.stepWaiting_cyc, Dev.towerTick_cyc, Dev.sampleTick_cyc]
    apply Dev.engineTick_cyc_q
    rw [Dev.driveTick_cyc]
    apply Dev.tickActions_cyc_q
    rw [Dev.traceTick_cyc, Dev.finishCapture_cyc, Dev.runTick_cyc]
    apply Dev.openCycle_cyc_q
    rw [Dev.snapshot_cyc, Dev.endCycle_cyc, Dev.advanceTo_cyc]
    exact h

theorem conversionComplete_cyc (c : Nat) (b : Bool) (raw : Nat) (d : Dev) : (conversionComplete c b raw d).cyc = d.cyc := by
  (simp only [conversionComplete]; (repeat' split) <;> first | with_reducible rfl | simp only [Dev.captures_cyc, Dev.countInvalid_cyc, Dev.countOver_cyc, Dev.darkSum_cyc, Dev.enter_cyc, Dev.labelSample_cyc, Dev.setRd_cyc, Dev.start_cyc, Dev.store_cyc, implies_true])

theorem converterTimeout_cyc (c : Nat) (b : Bool) (d : Dev) : (converterTimeout c b d).cyc = d.cyc := by
  (simp only [converterTimeout]; (repeat' split) <;> first | with_reducible rfl | simp only [Dev.captures_cyc, Dev.countInvalid_cyc, Dev.raise_cyc, Dev.setRd_cyc, Dev.store_cyc, implies_true])

theorem columnGainWrite_cyc (c v : Nat) (d : Dev) : (columnGainWrite c v d).2.cyc = d.cyc := by
  simp only [columnGainWrite, Dev.setRd_cyc, Dev.setRdCfg_cyc, toLive_ite, cyc_ite, snd_ite, ite_self]

theorem avgLog2Write_cyc (i v : Nat) (d : Dev) : (avgLog2Write i v d).2.cyc = d.cyc := by
  simp only [avgLog2Write, Dev.setRd_cyc, Dev.setRdCfg_cyc, toLive_ite, cyc_ite, snd_ite, ite_self]

theorem darkWrite_cyc (i : Nat) (b : List Byte) (d : Dev) : (darkWrite i b d).2.cyc = d.cyc := by
  simp only [darkWrite, hostPart_cyc, Dev.setRd_cyc]

theorem tapRespWrite_cyc (i : Nat) (b : List Byte) (d : Dev) : (tapRespWrite i b d).2.cyc = d.cyc := by
  simp only [tapRespWrite, hostPart_cyc]

theorem Dev.putCorr_cyc (d : Dev) (x g : Nat) (off : Int) (gain : Nat) : (Dev.putCorr d x g off gain).cyc = d.cyc := by
  simp only [Dev.putCorr, Dev.mem_cyc]

theorem Dev.setOffset_cyc (d : Dev) (x : Nat) (v : Int) : (Dev.setOffset d x v).cyc = d.cyc := by
  simp only [Dev.setOffset, Dev.setRd_cyc, Dev.setRdCfg_cyc]

theorem Dev.setCGain_cyc (d : Dev) (x v : Nat) : (Dev.setCGain d x v).cyc = d.cyc := by
  simp only [Dev.setCGain, Dev.setRd_cyc, Dev.setRdCfg_cyc]

theorem hostCorr_cyc (x g : Nat) (off : Int) (gain : Nat) (d : Dev) : (hostCorr x g off gain d).2.cyc = d.cyc := by
  simp only [hostCorr, hostPart_cyc, toLive_ite, cyc_ite, snd_ite, ite_self, implies_true]

theorem convOffsetWrite_cyc (x : Nat) (v : Int) (d : Dev) : (convOffsetWrite x v d).2.cyc = d.cyc := by
  simp only [convOffsetWrite, Dev.setOffset_cyc, hostCorr_cyc, toLive_ite, cyc_ite, snd_ite, ite_self, implies_true]

theorem convGainWrite_cyc (x v : Nat) (d : Dev) : (convGainWrite x v d).2.cyc = d.cyc := by
  simp only [convGainWrite, Dev.setCGain_cyc, hostCorr_cyc, toLive_ite, cyc_ite, snd_ite, ite_self, implies_true]

theorem skewTrimWrite_cyc (x : Nat) (v : Int) (d : Dev) : (skewTrimWrite x v d).2.cyc = d.cyc := by
  simp only [skewTrimWrite, Dev.setRd_cyc, Dev.setRdCfg_cyc, toLive_ite, cyc_ite, snd_ite, ite_self]

theorem hostSplit_cyc (k a : Nat) (l : List Byte) (d : Dev) : (hostSplit k a l d).2.cyc = d.cyc := by
  simp only [hostSplit, Dev.drop_cyc, Dev.take_cyc, hostPart_cyc, toLive_ite, cyc_ite, snd_ite, ite_self, implies_true]

theorem chainCorrWrite_cyc (x : Nat) (b : List Byte) (d : Dev) : (chainCorrWrite x b d).2.cyc = d.cyc := by
  simp only [chainCorrWrite, hostSplit_cyc, toLive_ite, cyc_ite, snd_ite, ite_self, implies_true]

theorem Dev.setTdac_cyc (d : Dev) (f : ReadoutCfg → ReadoutCfg) : (Dev.setTdac d f).2.cyc = d.cyc := by
  simp only [Dev.setTdac, Dev.setRd_cyc, Dev.setRdCfg_cyc, toLive_ite, cyc_ite, snd_ite, ite_self]

theorem tdacRouteWrite_cyc (v : Nat) (d : Dev) : (tdacRouteWrite v d).2.cyc = d.cyc := by
  simp only [tdacRouteWrite, Dev.setTdac_cyc, toLive_ite, cyc_ite, snd_ite, ite_self]

theorem tdacGroupWrite_cyc (v : Nat) (d : Dev) : (tdacGroupWrite v d).2.cyc = d.cyc := by
  simp only [tdacGroupWrite, Dev.setTdac_cyc, toLive_ite, cyc_ite, snd_ite, ite_self]

theorem tdacCodeWrite_cyc (v : Nat) (d : Dev) : (tdacCodeWrite v d).2.cyc = d.cyc := by
  simp only [tdacCodeWrite, Dev.setTdac_cyc]

theorem injectRequest_cyc (site count : Nat) (tag : BitVec 8) (start : Nat) (d : Dev) :
    (injectRequest site count tag start d).2.cyc = d.cyc := by
  simp only [injectRequest, Dev.setRd_cyc, toLive_ite, cyc_ite, snd_ite, ite_self]

theorem injectWrite_cyc (b : List Byte) (d : Dev) : (injectWrite b d).2.cyc = d.cyc := by
  simp only [injectWrite, injectRequest_cyc]

/-! ## Calib -/

theorem Dev.putPoints_cyc (d : Dev) (e : Nat) (b : List Byte) : (Dev.putPoints d e b).cyc = d.cyc := by
  simp only [Dev.putPoints, Dev.mem_cyc, Dev.setCal_cyc]

theorem calPointsWrite_cyc (e : Nat) (b : List Byte) (d : Dev) : (calPointsWrite e b d).2.cyc = d.cyc := by
  simp only [calPointsWrite, Dev.putPoints_cyc, toLive_ite, cyc_ite, snd_ite, ite_self]

theorem Dev.darkSite_cyc (d : Dev) (i : Nat) : (Dev.darkSite d i).cyc = d.cyc := by
  simp only [Dev.darkSite, Dev.mem_cyc, Dev.setRd_cyc, Dev.setCal_cyc, toLive_ite, cyc_ite, ite_self]

theorem darkCaptureDone_cyc (d : Dev) : (darkCaptureDone d).cyc = d.cyc := by
  (simp only [darkCaptureDone, Dev.setCal_cyc]; (repeat' split) <;> first | with_reducible rfl | simp only [Dev.setCal_cyc, Dev.darkSite_cyc, iter_cyc, toLive_ite, cyc_ite, ite_self, implies_true])

theorem entrySlewWrite_cyc (v : Nat) (d : Dev) : (entrySlewWrite v d).2.cyc = d.cyc := by
  simp only [entrySlewWrite, Dev.setCalCfg_cyc, toLive_ite, cyc_ite, snd_ite, ite_self]

theorem driftOffsetWrite_cyc (v : Nat) (d : Dev) : (driftOffsetWrite v d).2.cyc = d.cyc := by
  simp only [driftOffsetWrite, Dev.setCalCfg_cyc]

theorem driftGainWrite_cyc (v : Nat) (d : Dev) : (driftGainWrite v d).2.cyc = d.cyc := by
  simp only [driftGainWrite, Dev.setCalCfg_cyc]

theorem refitEnableWrite_cyc (v : BitVec 8) (d : Dev) : (refitEnableWrite v d).2.cyc = d.cyc := by
  simp only [refitEnableWrite, Dev.setCalCfg_cyc]

theorem refitWindowWrite_cyc (v : Nat) (d : Dev) : (refitWindowWrite v d).2.cyc = d.cyc := by
  simp only [refitWindowWrite, Dev.setCalCfg_cyc, toLive_ite, cyc_ite, snd_ite, ite_self]

theorem refitA0MaxWrite_cyc (v : Nat) (d : Dev) : (refitA0MaxWrite v d).2.cyc = d.cyc := by
  simp only [refitA0MaxWrite, Dev.setCalCfg_cyc]

theorem refitDeadbandWrite_cyc (v : Nat) (d : Dev) : (refitDeadbandWrite v d).2.cyc = d.cyc := by
  simp only [refitDeadbandWrite, Dev.setCalCfg_cyc]

theorem refitSlopeTolWrite_cyc (v : Nat) (d : Dev) : (refitSlopeTolWrite v d).2.cyc = d.cyc := by
  simp only [refitSlopeTolWrite, Dev.setCalCfg_cyc]

/-! ## Claim -/

theorem claimWindowStart_cyc (d : Dev) : (claimWindowStart d).cyc = d.cyc := by
  simp only [claimWindowStart, Dev.advanceTo_cyc, Dev.setTow_cyc, boot_cyc, toLive_ite, cyc_ite, snd_ite, ite_self, implies_true]

theorem Dev.markAllJump_cyc (d : Dev) : (Dev.markAllJump d).cyc = d.cyc := by
  simp only [Dev.markAllJump, each_cyc, Dev.setJump_cyc, toLive_ite, cyc_ite, snd_ite, ite_self, implies_true]

theorem Dev.latchWin_cyc (d : Dev) : (Dev.latchWin d).cyc = d.cyc := by
  simp only [Dev.latchWin, Dev.setTow_cyc, Dev.markAllJump_cyc, toLive_ite, cyc_ite, ite_self]

theorem Dev.endYield_cyc (d : Dev) : (Dev.endYield d).cyc = d.cyc := by
  simp only [Dev.endYield, Dev.setTow_cyc, toLive_ite, cyc_ite, ite_self]

theorem claimWindowEnd_cyc (va vb : Nat) (d : Dev) : (claimWindowEnd va vb d).cyc = d.cyc := by
  simp only [claimWindowEnd, Dev.advanceTo_cyc, Dev.endYield_cyc, Dev.latchWin_cyc, Dev.raiseIf_cyc, Dev.setTow_cyc, toLive_ite, cyc_ite, snd_ite, ite_self, implies_true]

theorem outputRelease_cyc (d : Dev) : (outputRelease d).cyc = d.cyc := by
  simp only [outputRelease, Dev.advanceTo_cyc, Dev.dropOutputs_cyc, toLive_ite, cyc_ite, snd_ite, ite_self, implies_true]

theorem claimLineClear_cyc (v : Nat) (d : Dev) : (claimLineClear v d).2.cyc = d.cyc := by
  simp only [claimLineClear, Dev.setTow_cyc, toLive_ite, cyc_ite, snd_ite, ite_self]

theorem claimLineMaskWrite_cyc (v : BitVec 8) (d : Dev) : (claimLineMaskWrite v d).2.cyc = d.cyc := by
  simp only [claimLineMaskWrite, toLive_ite, cyc_ite, snd_ite, ite_self]

/-! ## Checkpoint -/

theorem Dev.toMateBoth_cyc (d : Dev) (cls typ : Nat) (payload : List Byte) :
    (Dev.toMateBoth d cls typ payload).cyc = d.cyc := by
  simp only [Dev.toMateBoth, Dev.toMate_cyc, each_cyc, toLive_ite, cyc_ite, ite_self, implies_true]

theorem checkpointSend_cyc (d : Dev) : (checkpointSend d).cyc = d.cyc := by
  (simp only [checkpointSend]; (repeat' split) <;> first | with_reducible rfl | simp only [Dev.setTow_cyc, Dev.countImage_cyc, Dev.toMate_cyc, Dev.toMateBoth_cyc])

theorem Dev.openReception_cyc (d : Dev) (m : ChunkMsg) : (Dev.openReception d m).cyc = d.cyc := by
  (simp only [Dev.openReception]; (repeat' split) <;> first | with_reducible rfl | simp only [Dev.setTow_cyc, Dev.countImage_cyc])

theorem checkpointReceive_cyc (m : ChunkMsg) (poison : Bool) (d : Dev) : (checkpointReceive m poison d).cyc = d.cyc := by
  (simp only [checkpointReceive, Dev.takeAny_cyc, toLive_ite, cyc_ite]; (repeat' split) <;> first | with_reducible rfl | simp only [Dev.mem_cyc, Dev.takeAny_cyc, Dev.setTow_cyc, Dev.openReception_cyc])

theorem checkpointSeal_cyc (m : SealMsg) (d : Dev) : (checkpointSeal m d).cyc = d.cyc := by
  (simp only [checkpointSeal]; (repeat' split) <;> first | with_reducible rfl | simp only [Dev.raise_cyc, Dev.takeAny_cyc, Dev.setTow_cyc, Dev.countImage_cyc])

theorem Dev.fieldRec_cyc (d : Dev) (e : Nat) (who : Finder) (f : Rec → Rec) : (Dev.fieldRec d e who f).cyc = d.cyc := by
  simp only [Dev.fieldRec, Dev.mem_cyc, toLive_ite, cyc_ite, snd_ite, ite_self, implies_true]

theorem Dev.restoreWord_cyc (d : Dev) (e w : Nat) (bad : Bool) : (Dev.restoreWord d e w bad).cyc = d.cyc := by
  simp only [Dev.restoreWord, each_cyc, Dev.fieldRec_cyc, Dev.mem_cyc, Dev.setCause_cyc, Dev.setJump_cyc, toLive_ite, cyc_ite, snd_ite, ite_self, implies_true]

theorem Dev.ack_cyc (d : Dev) (n : BitVec 32) (r : Resp) : (Dev.ack d n r).cyc = d.cyc := by
  simp only [Dev.ack, Dev.toMate_cyc, toLive_ite, cyc_ite, ite_self]

theorem Dev.lastFromImage_cyc (d : Dev) (b : Nat) : (Dev.lastFromImage d b).cyc = d.cyc := by
  simp only [Dev.lastFromImage, each_cyc, Dev.setLast_cyc, toLive_ite, cyc_ite, snd_ite, ite_self, implies_true]

theorem Dev.restoreImage_cyc (d : Dev) (b : Nat) : (Dev.restoreImage d b).cyc = d.cyc := by
  simp only [Dev.restoreImage, each_cyc, Dev.restoreWord_cyc, toLive_ite, cyc_ite, snd_ite, ite_self, implies_true]

theorem imageResident_cyc (d : Dev) : (imageResident d).cyc = d.cyc := by
  (simp only [imageResident]; (repeat' split) <;> first | with_reducible rfl | simp only [Dev.ack_cyc, Dev.countImage_cyc, Dev.lastFromImage_cyc, Dev.restoreImage_cyc, Dev.setTow_cyc, Dev.toMate_cyc, implies_true])

theorem imageAck_cyc (cycle : Nat) (d : Dev) : (imageAck cycle d).cyc = d.cyc := by
  simp only [imageAck, Dev.takeAny_cyc, Dev.setTow_cyc, toLive_ite, cyc_ite, ite_self]

theorem intervalWrite_cyc (v : Nat) (d : Dev) : (intervalWrite v d).2.cyc = d.cyc := by
  simp only [intervalWrite, toLive_ite, cyc_ite, snd_ite, ite_self]

theorem freshLimitWrite_cyc (v : Nat) (d : Dev) : (freshLimitWrite v d).2.cyc = d.cyc := by
  simp only [freshLimitWrite, toLive_ite, cyc_ite, snd_ite, ite_self]

/-! ## Sweep -/

theorem sweepRequest_cyc (e : Nat) (force : Bool) (d : Dev) : (sweepRequest e force d).2.cyc = d.cyc := by
  simp only [sweepRequest, Dev.setCal_cyc, toLive_ite, cyc_ite, snd_ite, ite_self]

theorem sweepRequestWrite_cyc (b : List Byte) (d : Dev) : (sweepRequestWrite b d).2.cyc = d.cyc := by
  simp only [sweepRequestWrite, sweepRequest_cyc]

theorem sweepStart_cyc (d : Dev) : (sweepStart d).cyc = d.cyc := by
  (simp only [sweepStart]; (repeat' split) <;> first | with_reducible rfl | simp only [Dev.raiseIf_cyc, Dev.setCal_cyc])

theorem Dev.putResult_cyc (d : Dev) (e : Nat) (r : SweepResult) : (Dev.putResult d e r).cyc = d.cyc := by
  simp only [Dev.putResult, Dev.setCal_cyc]

theorem Dev.firmwarePoints_cyc (d : Dev) (e : Nat) (pts : List (Nat × Curve)) :
    (Dev.firmwarePoints d e pts).2.cyc = d.cyc := by
  simp only [Dev.firmwarePoints, Dev.setCal_cyc, Dev.putPoints_cyc, toLive_ite, cyc_ite, snd_ite, ite_self]

theorem Dev.resumeSwept_cyc (d : Dev) (e : Nat) : (Dev.resumeSwept d e).cyc = d.cyc := by
  simp only [Dev.resumeSwept, Dev.enterCurve_cyc, Dev.setCal_cyc, Dev.setLoop_cyc, toLive_ite, cyc_ite, snd_ite, ite_self, implies_true]

theorem sweepEnd_cyc (e : Nat) (d : Dev) : (sweepEnd e d).cyc = d.cyc := by
  (simp only [sweepEnd, snd_ite]; (repeat' split) <;> first | with_reducible rfl | simp only [Dev.setCal_cyc, Dev.putResult_cyc, Dev.firmwarePoints_cyc, Dev.resumeSwept_cyc])

theorem sweepCancel_cyc (e : Nat) (d : Dev) : (sweepCancel e d).2.cyc = d.cyc := by
  simp only [sweepCancel, Dev.setCal_cyc, Dev.putResult_cyc, toLive_ite, cyc_ite, snd_ite, ite_self]

theorem Dev.abortSweep_cyc (d : Dev) (e : Nat) : (Dev.abortSweep d e).cyc = d.cyc := by
  simp only [Dev.abortSweep, Dev.setCal_cyc, Dev.putResult_cyc, toLive_ite, cyc_ite, ite_self]

theorem Dev.noteLimited_cyc (d : Dev) (k : Nat) (dir : Int) : (Dev.noteLimited d k dir).cyc = d.cyc := by
  simp only [Dev.noteLimited, Dev.raiseIf_cyc, Dev.setCal_cyc]

theorem Dev.refitA0_cyc (d : Dev) (e : Nat) (pts : List (Nat × Curve)) : (Dev.refitA0 d e pts).2.cyc = d.cyc := by
  simp only [Dev.refitA0, Dev.noteLimited_cyc, toLive_ite, cyc_ite, snd_ite, ite_self, implies_true]

theorem Dev.refitA1_cyc (d : Dev) (e : Nat) (w : Refit) (pts : List (Nat × Curve)) : (Dev.refitA1 d e w pts).2.cyc = d.cyc := by
  simp only [Dev.refitA1, Dev.noteLimited_cyc, toLive_ite, cyc_ite, snd_ite, ite_self, implies_true]

theorem Dev.refitStore_cyc (d : Dev) (e : Nat) (pts : List (Nat × Curve)) : (Dev.refitStore d e pts).cyc = d.cyc := by
  simp only [Dev.refitStore, Dev.firmwarePoints_cyc, Dev.setCal_cyc, toLive_ite, cyc_ite, snd_ite, ite_self, implies_true]

theorem refitWindowClose_cyc (e : Nat) (d : Dev) : (refitWindowClose e d).cyc = d.cyc := by
  (simp only [refitWindowClose]; (repeat' split) <;> first | with_reducible rfl | simp only [Dev.refitA0_cyc, Dev.refitA1_cyc, Dev.refitStore_cyc, Dev.setCal_cyc, Dev.start_cyc, Dev.takeSpare_cyc, implies_true])

/-! ## Fabric -/

theorem fabricBlockWrite_cyc (j : Nat) (b : List Byte) (d : Dev) : (fabricBlockWrite j b d).2.cyc = d.cyc := by
  simp only [fabricBlockWrite, Dev.setFab_cyc, toLive_ite, cyc_ite, snd_ite, ite_self]

theorem fabricLengthWrite_cyc (v : Nat) (d : Dev) : (fabricLengthWrite v d).2.cyc = d.cyc := by
  simp only [fabricLengthWrite, toLive_ite, cyc_ite, snd_ite, ite_self]

theorem Dev.placeElem_cyc (d : Dev) (old new : List Byte) (e : Nat) : (Dev.placeElem d old new e).cyc = d.cyc := by
  simp only [Dev.placeElem, Dev.fieldRec_cyc, Dev.setCause_cyc, toLive_ite, cyc_ite, snd_ite, ite_self, implies_true]

theorem Dev.putTables_cyc (d : Dev) (img : List Byte) : (Dev.putTables d img).cyc = d.cyc := by
  simp only [Dev.putTables, Dev.mem_cyc]

theorem fabricApply_cyc (v : Nat) (d : Dev) : (fabricApply v d).2.cyc = d.cyc := by
  simp only [fabricApply, Dev.setFab_cyc, Dev.placeElem_cyc, Dev.putTables_cyc, each_cyc, toLive_ite, cyc_ite, snd_ite, ite_self, implies_true]

theorem Dev.reassignSites_cyc (d : Dev) (old new : List (Nat × Nat × Nat)) : (Dev.reassignSites d old new).cyc = d.cyc := by
  simp only [Dev.reassignSites, each_cyc, implies_true]

theorem Dev.missCommit_cyc_q (d : Dev) (c : PendingCommit) (cause : Nat) (h : d.cyc.legal = true) :
    (Dev.missCommit d c cause).cyc.legal = true := by
  simpa only [Dev.missCommit, Dev.setCirc_cyc, Cycle.legal] using h

theorem Dev.keepTaps_cyc (d old : Dev) : (Dev.keepTaps d old).cyc = d.cyc := by
  simp only [Dev.keepTaps, Dev.setDec_cyc, toLive_ite, cyc_ite, snd_ite, ite_self, implies_true]

theorem Dev.missAhead_cyc_q (d : Dev) (h : d.cyc.legal = true) : (Dev.missAhead d).cyc.legal = true := by
  unfold Dev.missAhead
  split
  · exact Dev.missCommit_cyc_q _ _ _ h
  · exact h

theorem Dev.dropJumps_cyc (d : Dev) (l : List Nat) : (Dev.dropJumps d l).cyc = d.cyc :=
  each_cyc _ _ _ (fun e y => by split <;> simp only [Dev.setJump_cyc])

theorem fabricInForce_cyc_q (d : Dev) (h : d.cyc.legal = true) : (fabricInForce d).cyc.legal = true := by
  unfold fabricInForce
  split
  · exact h
  · simp only [Dev.clearLabels_cyc, Dev.keepTaps_cyc, Dev.dropPorts_cyc, Dev.setSolve_cyc, Dev.dropJumps_cyc]
    exact Dev.missAhead_cyc_q _ (by rw [Dev.setFab_cyc, Dev.reassignSites_cyc]; exact h)

/-! ## Verify -/

theorem verifyEnableWrite_cyc (v : Bool) (d : Dev) : (verifyEnableWrite v d).2.cyc = d.cyc := by
  simp only [verifyEnableWrite]

theorem verifyTimeoutWrite_cyc (v : Nat) (d : Dev) : (verifyTimeoutWrite v d).2.cyc = d.cyc := by
  simp only [verifyTimeoutWrite, toLive_ite, cyc_ite, snd_ite, ite_self]

theorem verifyTimeout_cyc (k : Nat) (d : Dev) : (verifyTimeout k d).cyc = d.cyc := by
  simp only [verifyTimeout, Dev.raise_cyc, Dev.setVerState_cyc, Dev.setVer_cyc, Dev.verifyDone_cyc, toLive_ite, cyc_ite, ite_self]

/-! ## Trace -/

theorem traceArm_cyc (d : Dev) : (traceArm d).2.cyc = d.cyc := by
  simp only [traceArm, Dev.setTrace_cyc, toLive_ite, cyc_ite, snd_ite, ite_self]

theorem traceDisarm_cyc (d : Dev) : (traceDisarm d).2.cyc = d.cyc := by
  simp only [traceDisarm, Dev.setTrace_cyc]

theorem traceControlWrite_cyc (v : Nat) (d : Dev) : (traceControlWrite v d).2.cyc = d.cyc := by
  (simp only [traceControlWrite]; (repeat' split) <;> first | with_reducible rfl | simp only [traceArm_cyc, traceForce_cyc, traceDisarm_cyc])

theorem Dev.traceSet_cyc (d : Dev) (ok : Bool) (f : TraceCfg → TraceCfg) : (Dev.traceSet d ok f).2.cyc = d.cyc := by
  simp only [Dev.traceSet, Dev.setTraceCfg_cyc, toLive_ite, cyc_ite, snd_ite, ite_self]

theorem traceElementsWrite_cyc (b : List Byte) (d : Dev) : (traceElementsWrite b d).2.cyc = d.cyc := by
  simp only [traceElementsWrite, Dev.traceSet_cyc]

theorem traceNodesWrite_cyc (v : Nat) (d : Dev) : (traceNodesWrite v d).2.cyc = d.cyc := by
  simp only [traceNodesWrite, Dev.traceSet_cyc]

theorem traceModeWrite_cyc (v : Nat) (d : Dev) : (traceModeWrite v d).2.cyc = d.cyc := by
  simp only [traceModeWrite, Dev.traceSet_cyc]

theorem tracePostWrite_cyc (v : Nat) (d : Dev) : (tracePostWrite v d).2.cyc = d.cyc := by
  simp only [tracePostWrite, Dev.traceSet_cyc]

theorem traceDecimateWrite_cyc (v : Nat) (d : Dev) : (traceDecimateWrite v d).2.cyc = d.cyc := by
  simp only [traceDecimateWrite, Dev.traceSet_cyc]

theorem traceTriggerWrite_cyc (v : Nat) (d : Dev) : (traceTriggerWrite v d).2.cyc = d.cyc := by
  simp only [traceTriggerWrite, Dev.traceSet_cyc]

/-! ## Slot -/

/-! ## Commit -/

theorem commitRequest_cyc (r : CommitReq) (d : Dev) : (commitRequest r d).2.cyc = d.cyc := by
  (simp only [commitRequest, toLive_ite, cyc_ite, snd_ite]; (repeat' split) <;> first | with_reducible rfl | simp only [Dev.setCirc_cyc])

theorem commitWrite_cyc (b : List Byte) (d : Dev) : (commitWrite b d).2.cyc = d.cyc := by
  simp only [commitWrite, commitRequest_cyc, toLive_ite, cyc_ite, snd_ite, ite_self]

theorem commitCancel_cyc (v : Nat) (d : Dev) : (commitCancel v d).2.cyc = d.cyc := by
  (simp only [commitCancel, toLive_ite, cyc_ite, snd_ite]; (repeat' split) <;> first | with_reducible rfl | simp only [Dev.setCirc_cyc])

theorem Dev.armCommit_cyc_q (d : Dev) (c : PendingCommit) (h : d.cyc.legal = true) : (d.armCommit c).cyc.legal = true := by
  unfold Dev.armCommit
  rw [Dev.setCirc_cyc]
  rw [← each_cyc d.markedElems (fun e d => d.abortSweep e) d (fun e d => Dev.abortSweep_cyc d e)] at h
  exact h

theorem armingPoint_cyc_q (d : Dev) (h : d.cyc.legal = true) : (armingPoint d).cyc.legal = true := by
  (simp +contextual only [armingPoint]; (repeat' split) <;> first | with_reducible rfl | (simp +contextual only [Dev.raise_cyc, Dev.missCommit_cyc_q, Dev.armCommit_cyc_q, h]))

theorem bankCopy_cyc (d : Dev) : (bankCopy d).cyc = d.cyc := by
  simp only [bankCopy, Dev.finishCopy_cyc]

theorem commitDone_cyc (d : Dev) : (commitDone d).cyc = d.cyc := by
  (simp only [commitDone]; (repeat' split) <;> first | with_reducible rfl | simp only [Dev.raise_cyc, Dev.setCirc_cyc])

theorem ffErrorRecord_cyc (d : Dev) : (ffErrorRecord d).cyc = d.cyc := by
  (simp only [ffErrorRecord]; (repeat' split) <;> first | with_reducible rfl | simp only [Dev.draw_cyc, Dev.setCirc_cyc])

/-! ## Decoder -/

theorem labelGone_cyc (t j : Nat) (d : Dev) : (labelGone t j d).cyc = d.cyc := by
  (simp only [labelGone]; (repeat' split) <;> first | with_reducible rfl | simp only [Dev.setChan_cyc, Dev.notify_cyc])

theorem pairWrite_cyc (j f0 f1 : Nat) (on : Bool) (d : Dev) : (pairWrite j f0 f1 on d).2.cyc = d.cyc := by
  simp only [pairWrite, Dev.setDec_cyc, Dev.setDecCfg_cyc, toLive_ite, cyc_ite, snd_ite, ite_self]

theorem decoderStop_cyc (d : Dev) : (decoderStop d).2.cyc = d.cyc := by
  simp only [decoderStop, Dev.setDec_cyc, Dev.setDecCfg_cyc]

theorem decoderStart_cyc (d : Dev) : (decoderStart d).2.cyc = d.cyc := by
  simp only [decoderStart, Dev.setDec_cyc, Dev.setDecCfg_cyc]

theorem decoderControlWrite_cyc (v : Nat) (d : Dev) : (decoderControlWrite v d).2.cyc = d.cyc := by
  (simp only [decoderControlWrite]; (repeat' split) <;> first | with_reducible rfl | simp only [decoderStop_cyc, decoderStart_cyc])

theorem decoderStopped_cyc (d : Dev) : (decoderStopped d).cyc = d.cyc := by
  (simp only [decoderStopped, toLive_ite, cyc_ite]; (repeat' split) <;> first | with_reducible rfl | simp only [Dev.setDec_cyc, Dev.resumeDecoder_cyc])

theorem minLevelWrite_cyc (v : Nat) (d : Dev) : (minLevelWrite v d).2.cyc = d.cyc := by
  simp only [minLevelWrite, Dev.setDecCfg_cyc]

theorem learnModeWrite_cyc (v : Nat) (d : Dev) : (learnModeWrite v d).2.cyc = d.cyc := by
  simp only [learnModeWrite, Dev.setDecCfg_cyc, toLive_ite, cyc_ite, snd_ite, ite_self]

theorem learnRepostWrite_cyc (v : Nat) (d : Dev) : (learnRepostWrite v d).2.cyc = d.cyc := by
  simp only [learnRepostWrite, Dev.setDecCfg_cyc, toLive_ite, cyc_ite, snd_ite, ite_self]

/-! ## Rotation -/

theorem Dev.applyCorr_cyc (d : Dev) (x g : Nat) (k : Int × Int) : (Dev.applyCorr d x g k).cyc = d.cyc := by
  simp only [Dev.applyCorr, Dev.raiseIf_cyc, Dev.putCorr_cyc]

theorem Dev.driverDrift_cyc (d : Dev) (c : Nat) (m : StepMeasure) : (Dev.driverDrift d c m).cyc = d.cyc := by
  simp only [Dev.driverDrift, Dev.raiseIf_cyc, toLive_ite, cyc_ite, snd_ite, ite_self, implies_true]

theorem Dev.applyStep_cyc (d : Dev) (chain : Nat) (m : StepMeasure) : (Dev.applyStep d chain m).cyc = d.cyc := by
  simp only [Dev.applyStep, iter_cyc, Dev.applyCorr_cyc, Dev.driverDrift_cyc, Dev.loadCorr_cyc, Dev.setDrvCfg_cyc, Dev.setRdCfg_cyc, toLive_ite, cyc_ite, snd_ite, ite_self, implies_true]

theorem Dev.setColStatus_cyc (d : Dev) (c v : Nat) : (Dev.setColStatus d c v).cyc = d.cyc := by
  simp only [Dev.setColStatus, Dev.setCal_cyc]

theorem Dev.failStep_cyc (d : Dev) (g : Nat) (col : Option Nat) (m : StepMeasure) :
    (Dev.failStep d g col m).cyc = d.cyc := by
  (simp only [Dev.failStep, Dev.raise_cyc]; (repeat' split) <;> first | with_reducible rfl | simp only [Dev.setDrv_cyc, Dev.permanentSpare_cyc, Dev.setColStatus_cyc])

theorem rotationStepEnd_cyc (g : Nat) (m : StepMeasure) (d : Dev) : (rotationStepEnd g m d).cyc = d.cyc := by
  (simp only [rotationStepEnd]; (repeat' split) <;> first | with_reducible rfl | simp only [Dev.returnColumn_cyc, Dev.setCal_cyc, Dev.setRotPos_cyc, Dev.startStep_cyc, Dev.settleRotation_cyc, Dev.applyStep_cyc, Dev.setColStatus_cyc, Dev.failStep_cyc])

theorem spareMoveDeferred_cyc (g : Nat) (d : Dev) : (spareMoveDeferred g d).cyc = d.cyc := by
  (simp only [spareMoveDeferred]; (repeat' split) <;> first | with_reducible rfl | simp only [Dev.enterStep_cyc])

theorem calColumnSkipped_cyc (g : Nat) (d : Dev) : (calColumnSkipped g d).cyc = d.cyc := by
  (simp only [calColumnSkipped]; (repeat' split) <;> first | with_reducible rfl | simp only [Dev.raise_cyc, Dev.setCal_cyc, Dev.setRotPos_cyc, Dev.startStep_cyc, Dev.setColStatus_cyc])

theorem calColumnRequest_cyc (c : Nat) (d : Dev) : (calColumnRequest c d).2.cyc = d.cyc := by
  simp only [calColumnRequest, Dev.setCal_cyc, toLive_ite, cyc_ite, snd_ite, ite_self]

theorem Dev.rotationWrite_cyc (d : Dev) (v : Nat) (f : RunState → RunState) : (Dev.rotationWrite d v f).cyc = d.cyc := by
  simp only [Dev.rotationWrite, Dev.setCal_cyc, Dev.setCalCfg_cyc]

theorem calRotationStop_cyc (d : Dev) : (calRotationStop d).2.cyc = d.cyc := by
  simp only [calRotationStop, Dev.rotationWrite_cyc]

theorem calRotationStart_cyc (d : Dev) : (calRotationStart d).2.cyc = d.cyc := by
  simp only [calRotationStart, Dev.rotationWrite_cyc]

theorem calRotationWrite_cyc (v : Nat) (d : Dev) : (calRotationWrite v d).2.cyc = d.cyc := by
  (simp only [calRotationWrite]; (repeat' split) <;> first | with_reducible rfl | simp only [calRotationStop_cyc, calRotationStart_cyc])

/-! ## Links -/

theorem Dev.setRoutes_cyc (d : Dev) (t : Tab (Option Route)) : (Dev.setRoutes d t).cyc = d.cyc := by
  simp only [Dev.setRoutes]

theorem Dev.addRoute_cyc (d : Dev) (r : Route) : (Dev.addRoute d r).cyc = d.cyc := by
  (simp only [Dev.addRoute]; (repeat' split) <;> first | with_reducible rfl | simp only [Dev.setRoutes_cyc])

theorem Dev.dropRoutes_cyc (d : Dev) (p : Route → Bool) : (Dev.dropRoutes d p).cyc = d.cyc := by
  simp only [Dev.dropRoutes, Dev.setRoutes_cyc]

theorem helloSend_cyc (l : Nat) (d : Dev) : (helloSend l d).cyc = d.cyc := by
  (simp only [helloSend]; (repeat' split) <;> first | with_reducible rfl | simp only [Dev.sendLocal_cyc])

theorem Dev.installB_cyc (d : Dev) (r : Route) : (Dev.installB d r).cyc = d.cyc := by
  simp only [Dev.installB, Dev.addRoute_cyc, toLive_ite, cyc_ite, ite_self]

theorem Dev.childInstall_cyc (d : Dev) (l : Nat) : (Dev.childInstall d l).cyc = d.cyc := by
  unfold Dev.childInstall
  split
  · rfl
  · rw [each_cyc _ _ _ (fun r x => Dev.installB_cyc x r)]

theorem Dev.planeBEntries_cyc (d : Dev) (l : Nat) : (Dev.planeBEntries d l).cyc = d.cyc := by
  simp only [Dev.planeBEntries, each_cyc, Dev.childInstall_cyc, Dev.dropRoutes_cyc, Dev.raiseIf_cyc, toLive_ite, cyc_ite, snd_ite, ite_self, implies_true]

theorem Dev.sendEnum_cyc (d : Dev) (l op depth status : Nat) (value blockHigh : Nat) :
    (Dev.sendEnum d l op depth status value blockHigh).cyc = d.cyc := by
  simp only [Dev.sendEnum, Dev.sendLocal_cyc]

theorem Dev.offerSpare_cyc (d : Dev) (l : Nat) : (Dev.offerSpare d l).cyc = d.cyc := by
  simp only [Dev.offerSpare, Dev.raise_cyc, Dev.setNet_cyc, Dev.sendEnum_cyc, toLive_ite, cyc_ite, ite_self]

theorem Dev.keepFit_cyc (d : Dev) (l : Nat) : (Dev.keepFit d l).cyc = d.cyc := by
  simp only [Dev.keepFit, Dev.countLane_cyc, Dev.setLane_cyc, toLive_ite, cyc_ite, snd_ite, ite_self, implies_true]

theorem Dev.mateHello_cyc (d : Dev) (l : Nat) : (Dev.mateHello d l).cyc = d.cyc := by
  simp only [Dev.mateHello, Dev.keepFit_cyc, Dev.raiseIf_cyc, Dev.setLane_cyc, Dev.setNet_cyc, toLive_ite, cyc_ite, snd_ite, ite_self, implies_true]

theorem Dev.mateLinksJudge_cyc (d : Dev) : (Dev.mateLinksJudge d).cyc = d.cyc := by
  simp only [Dev.mateLinksJudge, Dev.raise_cyc, toLive_ite, cyc_ite, ite_self]

theorem helloReceive_cyc (l : Nat) (payload : List Byte) (d : Dev) : (helloReceive l payload d).cyc = d.cyc := by
  (simp only [helloReceive]; (repeat' split) <;> first | with_reducible rfl | simp only [Dev.keepFit_cyc, Dev.mateHello_cyc, Dev.mateLinksJudge_cyc, Dev.offerSpare_cyc, Dev.planeBEntries_cyc, Dev.raiseIf_cyc, Dev.setLane_cyc, Dev.take_cyc, implies_true])

theorem Dev.laneDown_cyc (d : Dev) (l : Nat) (lock : Bool) : (Dev.laneDown d l lock).cyc = d.cyc := by
  simp only [Dev.laneDown, Dev.raiseIf_cyc, Dev.setLane_cyc, Dev.flushLane_cyc, Dev.mateLinksJudge_cyc, toLive_ite, cyc_ite, ite_self]

theorem helloTimeout_cyc (l : Nat) (d : Dev) : (helloTimeout l d).cyc = d.cyc := by
  (simp only [helloTimeout]; (repeat' split) <;> first | with_reducible rfl | simp only [Dev.laneDown_cyc])

theorem Dev.countFec_cyc (d : Dev) (l : Nat) (w : FecSeen) : (Dev.countFec d l w).cyc = d.cyc := by
  simp only [Dev.countFec, Dev.setLane_cyc, toLive_ite, cyc_ite, snd_ite, ite_self, implies_true]

theorem linkLockLoss_cyc (l : Nat) (fec : FecSeen) (d : Dev) : (linkLockLoss l fec d).cyc = d.cyc := by
  (simp only [linkLockLoss]; (repeat' split) <;> first | with_reducible rfl | simp only [Dev.countFec_cyc, Dev.laneDown_cyc, implies_true])

theorem blockLockGained_cyc (l : Nat) (d : Dev) : (blockLockGained l d).cyc = d.cyc := by
  simp only [blockLockGained, Dev.setLane_cyc, toLive_ite, cyc_ite, ite_self]

theorem Dev.setEnable_cyc (d : Dev) (l : Nat) (b : Bool) : (Dev.setEnable d l b).cyc = d.cyc := by
  simp only [Dev.setEnable]

theorem Dev.setLaneState_cyc (d : Dev) (l : Nat) (x : LaneState) : (Dev.setLaneState d l x).cyc = d.cyc := by
  simp only [Dev.setLaneState, Dev.setLane_cyc]

theorem laneDisable_cyc (l : Nat) (d : Dev) : (laneDisable l d).2.cyc = d.cyc := by
  (simp only [laneDisable]; (repeat' split) <;> first | with_reducible rfl | simp only [Dev.flushLane_cyc, Dev.mateLinksJudge_cyc, Dev.setEnable_cyc, Dev.setLaneState_cyc, implies_true])

theorem laneEnable_cyc (l : Nat) (d : Dev) : (laneEnable l d).2.cyc = d.cyc := by
  (simp only [laneEnable]; (repeat' split) <;> first | with_reducible rfl | simp only [Dev.setEnable_cyc, Dev.setLaneState_cyc])

theorem laneDisabled_cyc (l : Nat) (d : Dev) : (laneDisabled l d).cyc = d.cyc := by
  (simp only [laneDisabled]; (repeat' split) <;> first | with_reducible rfl | simp only [Dev.setLane_cyc])

theorem laneRateWrite_cyc (l v : Nat) (d : Dev) : (laneRateWrite l v d).2.cyc = d.cyc := by
  simp only [laneRateWrite, toLive_ite, cyc_ite, snd_ite, ite_self]

theorem laneFecWrite_cyc (l : Nat) (v : Bool) (d : Dev) : (laneFecWrite l v d).2.cyc = d.cyc := by
  simp only [laneFecWrite, toLive_ite, cyc_ite, snd_ite, ite_self]

theorem helloPeriodWrite_cyc (v : Nat) (d : Dev) : (helloPeriodWrite v d).2.cyc = d.cyc := by
  simp only [helloPeriodWrite, toLive_ite, cyc_ite, snd_ite, ite_self]

/-! ## TimeXfer -/

theorem Dev.writeAddend_cyc (d : Dev) (v : Nat) : (d.writeAddend v).cyc = d.cyc := by
  unfold Dev.writeAddend
  split
  · exact Dev.setTime_cyc ..
  · rfl

theorem Dev.servo_cyc (d : Dev) : (Dev.servo d).cyc = d.cyc := by
  simp only [Dev.servo, Dev.writeAddend_cyc]

theorem Dev.holdOffset_cyc (d : Dev) : (Dev.holdOffset d).cyc = d.cyc := by
  simp only [Dev.holdOffset, Dev.writeAddend_cyc]

theorem Dev.chooseParent_cyc (d : Dev) : (Dev.chooseParent d).cyc = d.cyc := by
  (simp only [Dev.chooseParent]; (repeat' split) <;> first | with_reducible rfl | simp only [Dev.setTime_cyc])

theorem timeSyncSend_cyc (d : Dev) : (timeSyncSend d).cyc = d.cyc := by
  simp only [timeSyncSend, Dev.sendLocal_cyc, each_cyc, implies_true]

theorem Dev.formOffset_cyc (d : Dev) : (Dev.formOffset d).cyc = d.cyc := by
  (simp only [Dev.formOffset]; (repeat' split) <;> first | with_reducible rfl | simp only [Dev.setTime_cyc])

theorem Dev.becomeLocked_cyc (d : Dev) : (Dev.becomeLocked d).cyc = d.cyc := by
  simp only [Dev.becomeLocked, Dev.raise_cyc, Dev.setTime_cyc]

theorem Dev.countLock_cyc (d : Dev) : (Dev.countLock d).cyc = d.cyc := by
  simp only [Dev.countLock, Dev.setTime_cyc, Dev.becomeLocked_cyc, toLive_ite, cyc_ite, ite_self]

theorem Dev.syncState_cyc (d : Dev) : (Dev.syncState d).cyc = d.cyc := by
  (simp only [Dev.syncState]; (repeat' split) <;> first | with_reducible rfl | simp only [Dev.setTime_cyc, Dev.servo_cyc, Dev.holdOffset_cyc, Dev.formOffset_cyc, Dev.countLock_cyc])

theorem timeSyncReceive_cyc (l : Nat) (t1 : Nat) (q : QueuedTime) (m : TimeSyncMsg) (d : Dev) : (timeSyncReceive l t1 q m d).cyc = d.cyc := by
  simp only [timeSyncReceive, Dev.chooseParent_cyc, Dev.setTime_cyc, Dev.syncState_cyc, Dev.take_cyc, toLive_ite, cyc_ite, snd_ite, ite_self, implies_true]

theorem delayReqSend_cyc (d : Dev) : (delayReqSend d).cyc = d.cyc := by
  (simp only [delayReqSend]; (repeat' split) <;> first | with_reducible rfl | simp only [Dev.sendLocal_cyc, Dev.setTime_cyc])

theorem delayReqReceive_cyc (l seq : Nat) (d : Dev) : (delayReqReceive l seq d).cyc = d.cyc := by
  simp only [delayReqReceive, Dev.sendLocal_cyc, Dev.take_cyc, toLive_ite, cyc_ite, snd_ite, ite_self, implies_true]

theorem Dev.qualify_cyc (d : Dev) : (Dev.qualify d).cyc = d.cyc := by
  simp only [Dev.qualify, Dev.setTime_cyc, toLive_ite, cyc_ite, ite_self]

theorem delayRespReceive_cyc (l : Nat) (m : DelayRespMsg) (d : Dev) : (delayRespReceive l m d).cyc = d.cyc := by
  (simp only [delayRespReceive]; (repeat' split) <;> first | with_reducible rfl | simp only [Dev.take_cyc, Dev.setTime_cyc, Dev.formOffset_cyc, Dev.qualify_cyc])

theorem timeStep_cyc (d : Dev) : (timeStep d).cyc = d.cyc := by
  simp only [timeStep, Dev.setTime_cyc, Dev.becomeLocked_cyc, toLive_ite, cyc_ite, ite_self]

theorem Dev.loseBeforeLock_cyc (d : Dev) : (Dev.loseBeforeLock d).cyc = d.cyc := by
  simp only [Dev.loseBeforeLock, Dev.setTime_cyc, toLive_ite, cyc_ite, ite_self]

theorem Dev.enterHoldover_cyc (d : Dev) : (Dev.enterHoldover d).cyc = d.cyc := by
  simp only [Dev.enterHoldover, Dev.raise_cyc, Dev.setTime_cyc]

theorem parentLost_cyc (d : Dev) : (parentLost d).cyc = d.cyc := by
  (simp only [parentLost, toLive_ite, cyc_ite]; (repeat' split) <;> first | with_reducible rfl | simp only [Dev.setTime_cyc, Dev.loseBeforeLock_cyc, Dev.enterHoldover_cyc])

theorem holdoverExpired_cyc (d : Dev) : (holdoverExpired d).cyc = d.cyc := by
  simp only [holdoverExpired, Dev.raise_cyc, Dev.setTime_cyc, toLive_ite, cyc_ite, ite_self]

theorem timeSet_cyc (secs nanos : Nat) (d : Dev) : (timeSet secs nanos d).2.cyc = d.cyc := by
  simp only [timeSet, Dev.setTime_cyc, toLive_ite, cyc_ite, snd_ite, ite_self]

theorem timeSourceWrite_cyc (v : Nat) (d : Dev) : (timeSourceWrite v d).2.cyc = d.cyc := by
  simp only [timeSourceWrite, toLive_ite, cyc_ite, snd_ite, ite_self]

theorem Dev.ppsTrack_cyc (d : Dev) : (Dev.ppsTrack d).cyc = d.cyc := by
  simp only [Dev.ppsTrack, Dev.setTime_cyc, Dev.servo_cyc, Dev.becomeLocked_cyc, toLive_ite, cyc_ite, ite_self]

theorem ppsInEdge_cyc (d : Dev) : (ppsInEdge d).cyc = d.cyc := by
  (simp only [ppsInEdge]; (repeat' split) <;> first | with_reducible rfl | simp only [Dev.holdOffset_cyc, Dev.ppsTrack_cyc, Dev.setTime_cyc, implies_true])

theorem ppsHoldover_cyc (d : Dev) : (ppsHoldover d).cyc = d.cyc := by
  (simp only [ppsHoldover, toLive_ite, cyc_ite]; (repeat' split) <;> first | with_reducible rfl | simp only [Dev.loseBeforeLock_cyc, Dev.enterHoldover_cyc])

theorem syncLog2Write_cyc (v : Int) (d : Dev) : (syncLog2Write v d).2.cyc = d.cyc := by
  simp only [syncLog2Write, Dev.setTimeCfg_cyc, toLive_ite, cyc_ite, snd_ite, ite_self]

theorem delayReqLog2Write_cyc (v : Int) (d : Dev) : (delayReqLog2Write v d).2.cyc = d.cyc := by
  simp only [delayReqLog2Write, Dev.setTimeCfg_cyc, toLive_ite, cyc_ite, snd_ite, ite_self]

theorem holdoverLimitWrite_cyc (v : Nat) (d : Dev) : (holdoverLimitWrite v d).2.cyc = d.cyc := by
  simp only [holdoverLimitWrite, Dev.setTimeCfg_cyc, toLive_ite, cyc_ite, snd_ite, ite_self]

theorem asymTrimWrite_cyc (l : Nat) (v : Int) (d : Dev) : (asymTrimWrite l v d).2.cyc = d.cyc := by
  simp only [asymTrimWrite, Dev.setTimeCfg_cyc, toLive_ite, cyc_ite, snd_ite, ite_self]

/-! ## Tower -/

theorem mateHealthSend_cyc (d : Dev) : (mateHealthSend d).cyc = d.cyc := by
  simp only [mateHealthSend, Dev.setTow_cyc, Dev.toMateBoth_cyc, toLive_ite, cyc_ite, snd_ite, ite_self, implies_true]

theorem mateHealthReceive_cyc (m : MateHealthMsg) (d : Dev) : (mateHealthReceive m d).cyc = d.cyc := by
  simp only [mateHealthReceive, Dev.takeAny_cyc, Dev.setTow_cyc]

theorem yieldReq_cyc (d : Dev) : (yieldReq d).2.cyc = d.cyc := by
  simp only [yieldReq, Dev.setTow_cyc, toLive_ite, cyc_ite, snd_ite, ite_self]

theorem yieldForced_cyc (d : Dev) : (yieldForced d).2.cyc = d.cyc := by
  simp only [yieldForced, Dev.setTow_cyc, toLive_ite, cyc_ite, snd_ite, ite_self]

theorem yieldWrite_cyc (v : Nat) (d : Dev) : (yieldWrite v d).2.cyc = d.cyc := by
  simp only [yieldWrite, yieldReq_cyc, yieldForced_cyc, toLive_ite, cyc_ite, snd_ite, ite_self]

theorem yieldTimeout_cyc (d : Dev) : (yieldTimeout d).cyc = d.cyc := by
  simp only [yieldTimeout, Dev.raise_cyc, Dev.setTow_cyc, toLive_ite, cyc_ite, ite_self]

theorem Dev.setDuty_cyc (d : Dev) (v : Nat) (x : RunState) : (Dev.setDuty d v x).cyc = d.cyc := by
  simp only [Dev.setDuty, Dev.setTow_cyc]

theorem towerDutyDisable_cyc (d : Dev) : (towerDutyDisable d).2.cyc = d.cyc := by
  (simp only [towerDutyDisable, toLive_ite, cyc_ite, snd_ite]; (repeat' split) <;> first | with_reducible rfl | simp only [Dev.setDuty_cyc])

theorem towerDutyEnable_cyc (d : Dev) : (towerDutyEnable d).2.cyc = d.cyc := by
  (simp only [towerDutyEnable]; (repeat' split) <;> first | with_reducible rfl | simp only [Dev.setDuty_cyc])

theorem towerDutyWrite_cyc (v : Nat) (d : Dev) : (towerDutyWrite v d).2.cyc = d.cyc := by
  simp only [towerDutyWrite, towerDutyDisable_cyc, towerDutyEnable_cyc, toLive_ite, cyc_ite, snd_ite, ite_self]

/-! ## Scrub -/

theorem startPass_cyc (d : Dev) : (startPass d).cyc = d.cyc := by
  simp only [startPass]

theorem endPass_cyc (status : Nat) (d : Dev) : (endPass status d).cyc = d.cyc := by
  simp only [endPass, Dev.raise_cyc, startPass_cyc, toLive_ite, cyc_ite, ite_self]

theorem scrubRead_cyc (flips : List Nat) (d : Dev) : (scrubRead flips d).cyc = d.cyc := by
  simp only [scrubRead, Dev.readWord_cyc, endPass_cyc, toLive_ite, cyc_ite, ite_self]

theorem bankStoreScrubRead_cyc (flips : List Nat) (d : Dev) : (bankStoreScrubRead flips d).cyc = d.cyc := by
  simp only [bankStoreScrubRead, Dev.readWord_cyc]

theorem Dev.setScrubControl_cyc (d : Dev) (v : Nat) : (Dev.setScrubControl d v).cyc = d.cyc := by
  simp only [Dev.setScrubControl]

theorem Dev.setScrubState_cyc (d : Dev) (x : RunState) : (Dev.setScrubState d x).cyc = d.cyc := by
  simp only [Dev.setScrubState]

theorem scrubStart_cyc (d : Dev) : (scrubStart d).2.cyc = d.cyc := by
  (simp only [scrubStart, toLive_ite, cyc_ite, snd_ite]; (repeat' split) <;> first | with_reducible rfl | simp only [startPass_cyc, Dev.setScrubControl_cyc, Dev.setScrubState_cyc])

theorem scrubStop_cyc (d : Dev) : (scrubStop d).2.cyc = d.cyc := by
  (simp only [scrubStop, toLive_ite, cyc_ite, snd_ite]; (repeat' split) <;> first | with_reducible rfl | simp only [Dev.setScrubControl_cyc, Dev.setScrubState_cyc])

theorem scrubControlWrite_cyc (v : Nat) (d : Dev) : (scrubControlWrite v d).2.cyc = d.cyc := by
  simp only [scrubControlWrite, scrubStart_cyc, scrubStop_cyc, toLive_ite, cyc_ite, snd_ite, ite_self]

theorem scrubAutoPass_cyc (d : Dev) : (scrubAutoPass d).cyc = d.cyc := by
  simp only [scrubAutoPass, startPass_cyc, toLive_ite, cyc_ite, ite_self]

theorem scrubRangeWrite_cyc (l : List Byte) (d : Dev) : (scrubRangeWrite l d).2.cyc = d.cyc := by
  simp only [scrubRangeWrite, toLive_ite, cyc_ite, snd_ite, ite_self]

/-! ## Boot -/

theorem Dev.afterReset_cyc_q (d : Dev) (h : d.cyc.legal = true) : (d.afterReset).cyc.legal = true := by
  have _ := h
  exact (by decide : ({} : Cycle).legal = true)

theorem resetAssert_cyc_q (d : Dev) (h : d.cyc.legal = true) : (resetAssert d).cyc.legal = true := by
  simp +contextual only [resetAssert, Dev.afterReset_cyc_q, h]

theorem resetRelease_cyc (straps : BitVec 16) (d : Dev) : (resetRelease straps d).cyc = d.cyc := by
  simp only [resetRelease, Dev.setFlash_cyc, Dev.setPump_cyc, Dev.setBoot_cyc, toLive_ite, cyc_ite, ite_self]

theorem Dev.restart_cyc_q (d : Dev) (h : d.cyc.legal = true) : (Dev.restart d).cyc.legal = true := by
  simp +contextual only [Dev.restart, resetRelease_cyc, resetAssert_cyc_q, h]

theorem deviceReset_cyc_q (v : Nat) (d : Dev) (h : d.cyc.legal = true) : (deviceReset v d).2.cyc.legal = true := by
  simp +contextual only [deviceReset, Dev.restart_cyc_q, toLive_ite, cyc_ite, snd_ite, ite_self, legal_ite, h]

theorem savedStateWrite_cyc (d : Dev) : (savedStateWrite d).cyc = d.cyc := by
  simp only [savedStateWrite, Dev.setBoot_cyc, Dev.setFlash_cyc, boot_cyc, toLive_ite, cyc_ite, snd_ite, ite_self, implies_true]

theorem savedStateErase_cyc (v : Nat) (d : Dev) : (savedStateErase v d).2.cyc = d.cyc := by
  simp only [savedStateErase, Dev.setBoot_cyc, Dev.setFlash_cyc, toLive_ite, cyc_ite, snd_ite, ite_self, implies_true]

theorem startModeWrite_cyc (v : Nat) (d : Dev) : (startModeWrite v d).2.cyc = d.cyc := by
  simp only [startModeWrite, Dev.setFlash_cyc, toLive_ite, cyc_ite, snd_ite, ite_self]

theorem Dev.wakeLanes_cyc (d : Dev) : (Dev.wakeLanes d).cyc = d.cyc := by
  simp only [Dev.wakeLanes, Dev.setLane_cyc, iter_cyc, toLive_ite, cyc_ite, ite_self, implies_true]

theorem Dev.reportSlot_cyc (d : Dev) : (Dev.reportSlot d).cyc = d.cyc := by
  (simp only [Dev.reportSlot]; (repeat' split) <;> first | with_reducible rfl | simp only [Dev.raise_cyc])

theorem Dev.beginStart_cyc (d : Dev) : (Dev.beginStart d).cyc = d.cyc := by
  simp only [Dev.beginStart, Dev.setBoot_cyc]

theorem firmwareStart_cyc (d : Dev) : (firmwareStart d).cyc = d.cyc := by
  simp only [firmwareStart, Dev.raise_cyc, towerDutyDisable_cyc, Dev.setBoot_cyc, Dev.wakeLanes_cyc, Dev.reportSlot_cyc, Dev.beginStart_cyc, toLive_ite, cyc_ite, ite_self]

theorem Dev.putBank_cyc (d : Dev) (bank : List Host.Cell) (gen : BitVec 32) : (Dev.putBank d bank gen).cyc = d.cyc := by
  simp only [Dev.putBank, Dev.mem_cyc, Dev.setCirc_cyc]

theorem Dev.replaySettings_cyc (d : Dev) : (Dev.replaySettings d).cyc = d.cyc := by
  simp only [Dev.replaySettings, Dev.setLane_cyc, Dev.setCirc_cyc, Dev.groupWrite_cyc, decoderControlWrite_cyc, calRotationWrite_cyc, scrubControlWrite_cyc, each_cyc, iter_cyc, toLive_ite, cyc_ite, ite_self, implies_true]

theorem Dev.restoreRest_cyc (d : Dev) (a : Saved) : (Dev.restoreRest d a).cyc = d.cyc := by
  simp only [Dev.restoreRest, each_cyc, Dev.mem_cyc, Dev.putBank_cyc, Dev.replaySettings_cyc, Dev.setDrv_cyc, toLive_ite, cyc_ite, snd_ite, ite_self, implies_true]

theorem Dev.restoreMap_cyc (d : Dev) (img : List Byte) : (Dev.restoreMap d img).2.cyc = d.cyc := by
  simp only [Dev.restoreMap, Dev.setFab_cyc, fabricLengthWrite_cyc, fabricApply_cyc, toLive_ite, cyc_ite, snd_ite, ite_self]

theorem startComplete_cyc (d : Dev) : (startComplete d).cyc = d.cyc := by
  unfold startComplete
  split
  · rfl
  · simp only [Dev.setBoot_cyc, Dev.setLoop_cyc]
    split
    · rfl
    · rename_i a _
      have h := Dev.restoreMap_cyc d a.fabric
      generalize d.restoreMap a.fabric = p at h ⊢
      rcases p with ⟨r, x⟩
      cases r <;> simpa only [Dev.restoreRest_cyc, Dev.setBoot_cyc] using h

theorem savedDutyRestore_cyc (d : Dev) : (savedDutyRestore d).cyc = d.cyc := by
  (simp only [savedDutyRestore]; (repeat' split) <;> first | with_reducible rfl | simp only [towerDutyEnable_cyc, Dev.setBoot_cyc])

/-! ## Compat -/

theorem Dev.compatStatus_cyc (d : Dev) (st check item : Nat) : (Dev.compatStatus d st check item).cyc = d.cyc := by
  simp only [Dev.compatStatus]

theorem Dev.stageImage_cyc (d : Dev) (img : List Byte) : (Dev.stageImage d img).cyc = d.cyc := by
  simp only [Dev.stageImage, fabricBlockWrite_cyc, fabricLengthWrite_cyc, iter_cyc, implies_true]

theorem Dev.stageSettings_cyc (d : Dev) (l : List (Nat × Nat × Int)) : (Dev.stageSettings d l).2.cyc = d.cyc :=
  each_keeps (fun x : Option (Resp × Nat) × Dev => x.2.cyc = d.cyc) l _ _
    (fun p x hx => (anyFieldWrite_cyc p.1 (fieldOf p.2.1) p.2.2 x.2).trans hx) rfl

theorem Dev.compatSet_cyc (d : Dev) (l : List (Nat × Nat × Int)) : (Dev.compatSet d l).2.cyc = d.cyc := by
  unfold Dev.compatSet
  dsimp only
  split <;> simp only [Dev.compatStatus_cyc, Dev.stageSettings_cyc]

theorem compatLoad_cyc (v : Nat) (d : Dev) : (compatLoad v d).2.cyc = d.cyc := by
  unfold compatLoad
  (repeat' (first | split | dsimp only)) <;> simp only [Dev.compatSet_cyc, Dev.compatStatus_cyc, fabricApply_cyc, Dev.stageImage_cyc, each_cyc, Dev.consumePoison_cyc, implies_true]

/-! ## Traffic -/

theorem schedulerSelect_cyc (l : Nat) (d : Dev) : (schedulerSelect l d).cyc = d.cyc := by
  (simp only [schedulerSelect]; (repeat' split) <;> first | with_reducible rfl | simp only [Dev.setLane_cyc, Dev.start_cyc])

theorem quantumWrite_cyc (x v : Nat) (d : Dev) : (quantumWrite x v d).2.cyc = d.cyc := by
  simp only [quantumWrite, Dev.setTraf_cyc, toLive_ite, cyc_ite, snd_ite, ite_self]

theorem queueLimitWrite_cyc (x v : Nat) (d : Dev) : (queueLimitWrite x v d).2.cyc = d.cyc := by
  simp only [queueLimitWrite, Dev.setTraf_cyc, toLive_ite, cyc_ite, snd_ite, ite_self]

theorem yellowWrite_cyc (x v : Nat) (d : Dev) : (yellowWrite x v d).2.cyc = d.cyc := by
  simp only [yellowWrite, Dev.setTraf_cyc, toLive_ite, cyc_ite, snd_ite, ite_self]

theorem shaperEnableWrite_cyc (x : Nat) (v : Bool) (d : Dev) : (shaperEnableWrite x v d).2.cyc = d.cyc := by
  simp only [shaperEnableWrite, Dev.setTraf_cyc, toLive_ite, cyc_ite, snd_ite, ite_self]

theorem shaperRateWrite_cyc (x v : Nat) (d : Dev) : (shaperRateWrite x v d).2.cyc = d.cyc := by
  simp only [shaperRateWrite, Dev.setBucket_cyc, Dev.setTraf_cyc, toLive_ite, cyc_ite, snd_ite, ite_self]

theorem shaperBurstWrite_cyc (x v : Nat) (d : Dev) : (shaperBurstWrite x v d).2.cyc = d.cyc := by
  simp only [shaperBurstWrite, Dev.setBucket_cyc, Dev.setTraf_cyc, toLive_ite, cyc_ite, snd_ite, ite_self]

theorem meterProfileWrite_cyc (c cir cbs pir pbs : Nat) (d : Dev) :
    (meterProfileWrite c cir cbs pir pbs d).2.cyc = d.cyc := by
  simp only [meterProfileWrite, Dev.setTraf_cyc, toLive_ite, cyc_ite, snd_ite, ite_self]

theorem meterInstanceFree_cyc (src cls : Nat) (d : Dev) : (meterInstanceFree src cls d).cyc = d.cyc := by
  (simp only [meterInstanceFree]; (repeat' split) <;> with_reducible rfl)

theorem histClear_cyc (v : Nat) (d : Dev) : (histClear v d).2.cyc = d.cyc := by
  simp only [histClear, toLive_ite, cyc_ite, snd_ite, ite_self]

/-! ## Cycle -/

theorem Dev.stageCycle_cyc (d : Dev) (f : CycleConf → CycleConf) : (Dev.stageCycle d f).2.cyc = d.cyc := by
  simp only [Dev.stageCycle, toLive_ite, cyc_ite, snd_ite, ite_self]

theorem cyclePeriodWrite_cyc (v : Nat) (d : Dev) : (cyclePeriodWrite v d).2.cyc = d.cyc := by
  simp only [cyclePeriodWrite, Dev.stageCycle_cyc]

theorem rowsEnabledWrite_cyc (v : Nat) (d : Dev) : (rowsEnabledWrite v d).2.cyc = d.cyc := by
  simp only [rowsEnabledWrite, Dev.stageCycle_cyc, toLive_ite, cyc_ite, snd_ite, ite_self]

theorem idleSlotsWrite_cyc (v : Nat) (d : Dev) : (idleSlotsWrite v d).2.cyc = d.cyc := by
  simp only [idleSlotsWrite, Dev.stageCycle_cyc]

theorem slotLengthWrite_cyc (v : Nat) (d : Dev) : (slotLengthWrite v d).2.cyc = d.cyc := by
  simp only [slotLengthWrite, Dev.stageCycle_cyc, toLive_ite, cyc_ite, snd_ite, ite_self]

theorem tickWindowWrite_cyc (v : Nat) (d : Dev) : (tickWindowWrite v d).2.cyc = d.cyc := by
  simp only [tickWindowWrite, toLive_ite, cyc_ite, snd_ite, ite_self]

theorem cycleApply_cyc_q (v : Nat) (d : Dev) (h : d.cyc.legal = true) : (cycleApply v d).2.cyc.legal = true := by
  unfold cycleApply
  split
  · exact h
  · split
    · exact h
    · dsimp only
      split
      · exact h
      · rename_i hc
        simp only [Cycle.legal, Bool.and_eq_true] at h ⊢
        refine ⟨⟨h.1.1, ?_⟩, h.2⟩
        simp only [not_or, Bool.not_eq_false] at hc
        exact hc.1

theorem Dev.clipWindow_cyc_q (d : Dev) (period : Nat) (h : d.cyc.legal = true) : (d.clipWindow period).cyc.legal = true := by
  unfold Dev.clipWindow
  dsimp only
  split
  · rw [Dev.raise_cyc]; exact h
  · exact h

theorem Dev.deriveDelays_cyc (d : Dev) : (Dev.deriveDelays d).cyc = d.cyc := by
  simp only [Dev.deriveDelays, each_cyc, Dev.fieldRec_cyc, toLive_ite, cyc_ite, snd_ite, ite_self, implies_true]

theorem cycleConfigEffect_cyc_q (d : Dev) (h : d.cyc.legal = true) : (cycleConfigEffect d).cyc.legal = true := by
  unfold cycleConfigEffect
  split
  · exact h
  · dsimp only
    rw [Dev.pairTick_cyc, Dev.deriveDelays_cyc]
    exact Dev.clipWindow_cyc_q _ _ h

theorem tickWindowOpen_cyc_q (d : Dev) (h : d.cyc.legal = true) : (tickWindowOpen d).cyc.legal = true := by
  rw [← Dev.advanceTo_cyc d d.windowOpens] at h
  unfold tickWindowOpen
  generalize d.advanceTo d.windowOpens = x at h ⊢
  exact h

/-! ## Enumeration -/

theorem Dev.takeAddress_cyc (d : Dev) (a : Nat) : (Dev.takeAddress d a).cyc = d.cyc := by
  simp only [Dev.takeAddress, Dev.raiseIf_cyc, Dev.setNet_cyc]

theorem Dev.askCounts_cyc (d : Dev) : (Dev.askCounts d).cyc = d.cyc := by
  simp only [Dev.askCounts, Dev.setNet_cyc, Dev.sendEnum_cyc, each_cyc, implies_true]

theorem Dev.giveBlocks_cyc (d : Dev) (top : Nat) (bs : List Block) : (Dev.giveBlocks d top bs).cyc = d.cyc := by
  simp only [Dev.giveBlocks, each_cyc, Dev.addRoute_cyc, Dev.raise_cyc, Dev.sendEnum_cyc, Dev.setNet_cyc, toLive_ite, cyc_ite, snd_ite, ite_self, implies_true]

theorem Dev.finishAssign_cyc (d : Dev) (value : Nat) : (Dev.finishAssign d value).cyc = d.cyc := by
  (simp only [Dev.finishAssign]; (repeat' split) <;> first | with_reducible rfl | simp only [Dev.raise_cyc, Dev.setNet_cyc, Dev.sendEnum_cyc])

theorem Dev.finishIfAssigned_cyc (d : Dev) : (Dev.finishIfAssigned d).cyc = d.cyc := by
  simp only [Dev.finishIfAssigned, Dev.finishAssign_cyc, toLive_ite, cyc_ite, ite_self]

theorem Dev.offerNext_cyc (d : Dev) : (Dev.offerNext d).cyc = d.cyc := by
  simp only [Dev.offerNext, each_cyc, Dev.offerSpare_cyc, toLive_ite, cyc_ite, snd_ite, ite_self, implies_true]

theorem Dev.startAssign_cyc (d : Dev) : (Dev.startAssign d).cyc = d.cyc := by
  simp only [Dev.startAssign, foldl_cyc, Dev.dropRoutes_cyc, Dev.finishIfAssigned_cyc, Dev.giveBlocks_cyc, Dev.offerNext_cyc, Dev.setNet_cyc, toLive_ite, cyc_ite, snd_ite, ite_self, implies_true]

theorem Dev.finishCount_cyc (d : Dev) : (Dev.finishCount d).cyc = d.cyc := by
  (simp only [Dev.finishCount]; (repeat' split) <;> first | with_reducible rfl | simp only [Dev.setNet_cyc, Dev.sendEnum_cyc, Dev.startAssign_cyc])

theorem Dev.finishIfCounted_cyc (d : Dev) : (Dev.finishIfCounted d).cyc = d.cyc := by
  simp only [Dev.finishIfCounted, Dev.finishCount_cyc, toLive_ite, cyc_ite, ite_self]

theorem Dev.exclude_cyc (d : Dev) (l : Nat) : (Dev.exclude d l).cyc = d.cyc := by
  simp only [Dev.exclude, Dev.raise_cyc, Dev.setNet_cyc]

theorem enumStart_cyc (v : Nat) (d : Dev) : (enumStart v d).2.cyc = d.cyc := by
  simp only [enumStart, Dev.setNet_cyc, Dev.dropRoutes_cyc, Dev.sendEnum_cyc, Dev.takeAddress_cyc, Dev.askCounts_cyc, Dev.finishAssign_cyc, Dev.finishIfCounted_cyc, toLive_ite, cyc_ite, snd_ite, ite_self]

theorem Dev.beginResult_cyc (d : Dev) (status : Nat) : (Dev.beginResult d status).cyc = d.cyc := by
  simp only [Dev.beginResult, Dev.setNet_cyc, toLive_ite, cyc_ite, snd_ite, ite_self, implies_true]

theorem enumCount_cyc (l : Nat) (m : EnumMsg) (d : Dev) : (enumCount l m d).cyc = d.cyc := by
  simp only [enumCount, Dev.askCounts_cyc, Dev.beginResult_cyc, Dev.finishIfCounted_cyc, Dev.raise_cyc, Dev.sendLocal_cyc, Dev.setNet_cyc, Dev.take_cyc, toLive_ite, cyc_ite, snd_ite, ite_self, implies_true]

theorem enumCountReply_cyc (l : Nat) (m : EnumMsg) (d : Dev) : (enumCountReply l m d).cyc = d.cyc := by
  simp only [enumCountReply, Dev.raise_cyc, Dev.setNet_cyc, Dev.take_cyc, Dev.finishIfCounted_cyc, Dev.exclude_cyc, toLive_ite, cyc_ite, ite_self]

theorem enumChildTimeout_cyc (l : Nat) (d : Dev) : (enumChildTimeout l d).cyc = d.cyc := by
  simp only [enumChildTimeout, Dev.finishIfCounted_cyc, Dev.exclude_cyc, toLive_ite, cyc_ite, ite_self]

theorem Dev.chainAssign_cyc (d : Dev) (m : EnumMsg) : (Dev.chainAssign d m).cyc = d.cyc := by
  simp only [Dev.chainAssign, Dev.beginResult_cyc, Dev.dropRoutes_cyc, Dev.finishAssign_cyc, Dev.sendEnum_cyc, Dev.sendLocal_cyc, Dev.setNet_cyc, Dev.takeAddress_cyc, toLive_ite, cyc_ite, snd_ite, ite_self, implies_true]

theorem enumAssign_cyc (l : Nat) (m : EnumMsg) (d : Dev) : (enumAssign l m d).cyc = d.cyc := by
  simp only [enumAssign, Dev.chainAssign_cyc, Dev.raise_cyc, Dev.sendLocal_cyc, Dev.setNet_cyc, Dev.startAssign_cyc, Dev.take_cyc, Dev.takeAddress_cyc, toLive_ite, cyc_ite, snd_ite, ite_self, implies_true]

theorem enumAssignDone_cyc (l : Nat) (m : EnumMsg) (d : Dev) : (enumAssignDone l m d).cyc = d.cyc := by
  (simp only [enumAssignDone]; (repeat' split) <;> first | with_reducible rfl | simp only [Dev.addRoute_cyc, Dev.finishAssign_cyc, Dev.finishIfAssigned_cyc, Dev.offerNext_cyc, Dev.raise_cyc, Dev.setNet_cyc, Dev.take_cyc, implies_true])

theorem Dev.dropWaiting_cyc (d : Dev) : (Dev.dropWaiting d).cyc = d.cyc := by
  simp only [Dev.dropWaiting, Dev.offerNext_cyc, Dev.setNet_cyc, toLive_ite, cyc_ite, snd_ite, ite_self, implies_true]

theorem enumAssignTimeout_cyc (d : Dev) : (enumAssignTimeout d).cyc = d.cyc := by
  simp only [enumAssignTimeout, Dev.dropWaiting_cyc, Dev.finishAssign_cyc, toLive_ite, cyc_ite, snd_ite, ite_self, implies_true]

theorem hostBlockWrite_cyc (b : List Byte) (d : Dev) : (hostBlockWrite b d).2.cyc = d.cyc := by
  simp only [hostBlockWrite, toLive_ite, cyc_ite, snd_ite, ite_self]

/-! ## FrameRx -/

theorem Dev.accept_cyc (d : Dev) (l : Nat) (f : Frame) : (Dev.accept d l f).cyc = d.cyc := by
  (simp only [Dev.accept, Dev.countLane_cyc, Dev.route_cyc, toLive_ite, cyc_ite]; (repeat' split) <;> first | with_reducible rfl | simp only [Dev.countLane_cyc, Dev.countMeter_cyc, Dev.route_cyc, Dev.meterFrame_cyc])

theorem frameReceive_cyc (l : Nat) (bytes : List Byte) (rx : RxInfo) (d : Dev) : (frameReceive l bytes rx d).cyc = d.cyc := by
  (simp only [frameReceive]; (repeat' split) <;> first | with_reducible rfl | simp only [Dev.accept_cyc, Dev.countFec_cyc, Dev.countLane_cyc, Dev.drop_cyc, implies_true])

/-! ## Settings -/

theorem keepIf_cyc (ok : Bool) (f : Dev → Dev) (d : Dev) (hf : ∀ d, (f d).cyc = d.cyc) : (keepIf ok f d).2.cyc = d.cyc := by
  simp only [keepIf, toLive_ite, cyc_ite, snd_ite, ite_self, hf]

theorem ceThresholdWrite_cyc (g v : Nat) (d : Dev) : (ceThresholdWrite g v d).2.cyc = d.cyc := by
  simp only [ceThresholdWrite, Dev.setMemCfg_cyc, keepIf_cyc, implies_true]

theorem ceLeakIntervalWrite_cyc (v : Nat) (d : Dev) : (ceLeakIntervalWrite v d).2.cyc = d.cyc := by
  simp only [ceLeakIntervalWrite, Dev.setMemCfg_cyc, keepIf_cyc, implies_true]

theorem scrubRateWrite_cyc (v : Nat) (d : Dev) : (scrubRateWrite v d).2.cyc = d.cyc := by
  simp only [scrubRateWrite, Dev.setMemCfg_cyc, keepIf_cyc, implies_true]

theorem scrubAutoWrite_cyc (v : Bool) (d : Dev) : (scrubAutoWrite v d).2.cyc = d.cyc := by
  simp only [scrubAutoWrite, Dev.setMemCfg_cyc, keepIf_cyc, implies_true]

theorem repairAutoWrite_cyc (v : Bool) (d : Dev) : (repairAutoWrite v d).2.cyc = d.cyc := by
  simp only [repairAutoWrite, Dev.setMemCfg_cyc, keepIf_cyc, implies_true]

theorem repairThresholdWrite_cyc (v : Nat) (d : Dev) : (repairThresholdWrite v d).2.cyc = d.cyc := by
  simp only [repairThresholdWrite, Dev.setMemCfg_cyc, keepIf_cyc, implies_true]

theorem eventDestWrite_cyc (v : Nat) (d : Dev) : (eventDestWrite v d).2.cyc = d.cyc := by
  simp only [eventDestWrite, Dev.setEvCfg_cyc, keepIf_cyc, implies_true]

theorem irqLevelWrite_cyc (v : Nat) (d : Dev) : (irqLevelWrite v d).2.cyc = d.cyc := by
  simp only [irqLevelWrite, Dev.setEvCfg_cyc, keepIf_cyc, implies_true]

theorem suppressLimitWrite_cyc (v : Nat) (d : Dev) : (suppressLimitWrite v d).2.cyc = d.cyc := by
  simp only [suppressLimitWrite, Dev.setEvCfg_cyc, keepIf_cyc, implies_true]

theorem etherTypeWrite_cyc (v : Nat) (d : Dev) : (etherTypeWrite v d).2.cyc = d.cyc := by
  simp only [etherTypeWrite, Dev.setNetCfg_cyc, keepIf_cyc, implies_true]

theorem domainBaseWrite_cyc (v : Nat) (d : Dev) : (domainBaseWrite v d).2.cyc = d.cyc := by
  simp only [domainBaseWrite, Dev.setNetCfg_cyc, keepIf_cyc, implies_true]

theorem domainSizeWrite_cyc (v : Nat) (d : Dev) : (domainSizeWrite v d).2.cyc = d.cyc := by
  simp only [domainSizeWrite, Dev.setNetCfg_cyc, keepIf_cyc, implies_true]

theorem spareAddressesWrite_cyc (v : Nat) (d : Dev) : (spareAddressesWrite v d).2.cyc = d.cyc := by
  simp only [spareAddressesWrite, Dev.setNetCfg_cyc, keepIf_cyc, implies_true]

theorem meterEnableWrite_cyc (c : Nat) (v : Bool) (d : Dev) : (meterEnableWrite c v d).2.cyc = d.cyc := by
  simp only [meterEnableWrite, Dev.setTraf_cyc, toLive_ite, cyc_ite, snd_ite, ite_self]

theorem tickOutDivWrite_cyc (v : Nat) (d : Dev) : (tickOutDivWrite v d).2.cyc = d.cyc := by
  simp only [tickOutDivWrite, Dev.setTimeCfg_cyc, keepIf_cyc, implies_true]

theorem snapInEnableWrite_cyc (v : Bool) (d : Dev) : (snapInEnableWrite v d).2.cyc = d.cyc := by
  simp only [snapInEnableWrite, Dev.setTimeCfg_cyc, keepIf_cyc, implies_true]

theorem snapLockWrite_cyc (v : Bool) (d : Dev) : (snapLockWrite v d).2.cyc = d.cyc := by
  simp only [snapLockWrite, Dev.setTimeCfg_cyc, keepIf_cyc, implies_true]

theorem claimRankWrite_cyc (v : Nat) (d : Dev) : (claimRankWrite v d).2.cyc = d.cyc := by
  simp only [claimRankWrite, Dev.setTowCfg_cyc, keepIf_cyc, implies_true]

theorem checkpointEnableWrite_cyc (v : Bool) (d : Dev) : (checkpointEnableWrite v d).2.cyc = d.cyc := by
  simp only [checkpointEnableWrite, Dev.setTowCfg_cyc, keepIf_cyc, implies_true]

theorem rejectStaleWrite_cyc (v : Bool) (d : Dev) : (rejectStaleWrite v d).2.cyc = d.cyc := by
  simp only [rejectStaleWrite, Dev.setCircCfg_cyc, keepIf_cyc, implies_true]

theorem deviceLabelWrite_cyc (b : List Byte) (d : Dev) : (deviceLabelWrite b d).2.cyc = d.cyc := by
  simp only [deviceLabelWrite, Dev.setReqCfg_cyc, keepIf_cyc, implies_true]

theorem systemIdWrite_cyc (v : Nat) (d : Dev) : (systemIdWrite v d).2.cyc = d.cyc := by
  simp only [systemIdWrite, Dev.setReqCfg_cyc, keepIf_cyc, implies_true]

theorem domainIdWrite_cyc (v : Nat) (d : Dev) : (domainIdWrite v d).2.cyc = d.cyc := by
  simp only [domainIdWrite, Dev.setReqCfg_cyc, keepIf_cyc, implies_true]

theorem telemListWrite_cyc (n : Nat) (b : List Byte) (d : Dev) : (telemListWrite n b d).2.cyc = d.cyc := by
  simp only [telemListWrite, Dev.setReqCfg_cyc, keepIf_cyc, implies_true]

theorem Dev.stageRights_cyc (d : Dev) (f : Rights → Rights) : (Dev.stageRights d f).cyc = d.cyc := by
  simp only [Dev.stageRights, Dev.setReq_cyc]

theorem rangeRightsWrite_cyc (r rd wr : Nat) (d : Dev) : (rangeRightsWrite r rd wr d).2.cyc = d.cyc := by
  simp only [rangeRightsWrite, Dev.stageRights_cyc, toLive_ite, cyc_ite, snd_ite, ite_self]

theorem addrRuleWrite_cyc (j lo hi level : Nat) (valid : Bool) (d : Dev) :
    (addrRuleWrite j lo hi level valid d).2.cyc = d.cyc := by
  simp only [addrRuleWrite, Dev.stageRights_cyc, toLive_ite, cyc_ite, snd_ite, ite_self]

theorem bspiLevelWrite_cyc (v : Nat) (d : Dev) : (bspiLevelWrite v d).2.cyc = d.cyc := by
  simp only [bspiLevelWrite, Dev.stageRights_cyc, toLive_ite, cyc_ite, snd_ite, ite_self]

theorem rightsWrite_cyc (w : RightsWrite) (d : Dev) : (rightsWrite w d).2.cyc = d.cyc := by
  (simp only [rightsWrite]; (repeat' split) <;> first | with_reducible rfl | simp only [rangeRightsWrite_cyc, addrRuleWrite_cyc, bspiLevelWrite_cyc])

/-! ## Security -/

theorem firmwareTargetWrite_cyc (v : Nat) (d : Dev) : (firmwareTargetWrite v d).2.cyc = d.cyc := by
  simp only [firmwareTargetWrite, Dev.setBoot_cyc, toLive_ite, cyc_ite, snd_ite, ite_self]

theorem firmwareBlock_cyc (j : Nat) (b : List Byte) (d : Dev) : (firmwareBlock j b d).2.cyc = d.cyc := by
  simp only [firmwareBlock, Dev.setFlash_cyc, toLive_ite, cyc_ite, snd_ite, ite_self]

theorem firmwareApply_cyc_q (v : Nat) (d : Dev) (h : d.cyc.legal = true) : (firmwareApply v d).2.cyc.legal = true := by
  simp +contextual only [firmwareApply, Dev.setFlash_cyc, Dev.restart_cyc_q, toLive_ite, cyc_ite, snd_ite, ite_self, legal_ite, h]

theorem securityVersionCommit_cyc (v : Nat) (d : Dev) : (securityVersionCommit v d).2.cyc = d.cyc := by
  simp only [securityVersionCommit, Dev.setBoot_cyc, toLive_ite, cyc_ite, snd_ite, ite_self]

theorem ownerKeyInstall_cyc (key : List Byte) (d : Dev) : (ownerKeyInstall key d).2.cyc = d.cyc := by
  simp only [ownerKeyInstall, Dev.setFlash_cyc, Dev.setBoot_cyc, toLive_ite, cyc_ite, snd_ite, ite_self]

theorem attestNonce_cyc (nonce : List Byte) (d : Dev) : (attestNonce nonce d).2.cyc = d.cyc := by
  simp only [attestNonce, Dev.draw_cyc, Dev.setBoot_cyc, toLive_ite, cyc_ite, snd_ite, ite_self]

theorem Dev.setRejoin_cyc (d : Dev) (st code : Nat) : (Dev.setRejoin d st code).cyc = d.cyc := by
  simp only [Dev.setRejoin, Dev.setBoot_cyc]

theorem rejoin_cyc (v : Nat) (d : Dev) : (rejoin v d).2.cyc = d.cyc := by
  simp only [rejoin, Dev.setBoot_cyc, Dev.setRejoin_cyc, toLive_ite, cyc_ite, snd_ite, ite_self]

theorem Dev.cellFrom_cyc (d : Dev) (c : Nat) (phi : Int) : (Dev.cellFrom d c phi).2.cyc = d.cyc := by
  simp only [Dev.cellFrom, Dev.draw_cyc, toLive_ite, cyc_ite, snd_ite, ite_self]

theorem Dev.cellStates_cyc (d : Dev) (targets : List (Nat × BitVec 64)) : (d.cellStates targets).2.cyc = d.cyc := by
  have key : ∀ (n i : Nat) (r : List Nat × Dev), (iter (fun c r =>
      match tfind targets c with
      | some w =>
        let x := Dev.cellFrom r.2 c (targetPhi w.toNat)
        (if x.1 then c :: r.1 else r.1, x.2)
      | none => r) n i r).2.cyc = r.2.cyc := by
    intro n
    induction n with
    | zero => intro i r; rfl
    | succ n ih =>
      intro i r
      simp only [iter, ih]
      split
      · exact Dev.cellFrom_cyc ..
      · rfl
  exact key ..

theorem Dev.takeBank_cyc (d : Dev) (x : RejoinData) : (Dev.takeBank d x).cyc = d.cyc := by
  simp only [Dev.takeBank, Dev.draw_cyc, Dev.raise_cyc, Dev.setCirc_cyc, Dev.digestTick_cyc, Dev.putBank_cyc, Dev.setRejoin_cyc, Dev.cellStates_cyc, toLive_ite, cyc_ite, ite_self]

theorem rejoinComplete_cyc (x : RejoinData) (d : Dev) : (rejoinComplete x d).cyc = d.cyc := by
  simp only [rejoinComplete, Dev.draw_cyc, Dev.setBoot_cyc, Dev.setRejoin_cyc, Dev.takeBank_cyc, toLive_ite, cyc_ite, ite_self]

/-! ## Rebuild -/

theorem wordRequest_cyc (e : Nat) (d : Dev) : (wordRequest e d).cyc = d.cyc := by
  (simp only [wordRequest]; (repeat' split) <;> first | with_reducible rfl | simp only [Dev.takeAny_cyc, Dev.sendSync_cyc])

theorem wordReply_cyc (e : Nat) (status : Resp) (w : BitVec 64) (poison : Bool) (d : Dev) : (wordReply e status w poison d).cyc = d.cyc := by
  simp only [wordReply, Dev.setTow_cyc, Dev.takeAny_cyc, toLive_ite, cyc_ite, snd_ite, ite_self, implies_true]

theorem recordRebuild_cyc (e : Nat) (ok : Bool) (d : Dev) : (recordRebuild e ok d).cyc = d.cyc := by
  (simp only [recordRebuild]; (repeat' split) <;> first | with_reducible rfl | simp only [Dev.endHold_cyc, Dev.putRec_cyc, Dev.raise_cyc, Dev.requestReverse_cyc, Dev.setLoop_cyc, Dev.setTow_cyc, boot_cyc, implies_true])

/-! ## Triggers -/

theorem triggerCancel_cyc (j : Nat) (d : Dev) : (triggerCancel j d).2.cyc = d.cyc := by
  simp only [triggerCancel, Dev.setTrigger_cyc, toLive_ite, cyc_ite, snd_ite, ite_self]

theorem triggerSchedule_cyc (j secs nanos action : Nat) (d : Dev) :
    (triggerSchedule j secs nanos action d).2.cyc = d.cyc := by
  simp only [triggerSchedule, Dev.setTrigger_cyc, triggerCancel_cyc, toLive_ite, cyc_ite, snd_ite, ite_self]

theorem triggerWrite_cyc (j : Nat) (b : List Byte) (d : Dev) : (triggerWrite j b d).2.cyc = d.cyc := by
  simp only [triggerWrite, triggerSchedule_cyc]

theorem snapNow_cyc (v : Nat) (d : Dev) : (snapNow v d).2.cyc = d.cyc := by
  simp only [snapNow, toLive_ite, cyc_ite, snd_ite, ite_self]

theorem snapInEdge_cyc (d : Dev) : (snapInEdge d).cyc = d.cyc := by
  simp only [snapInEdge, toLive_ite, cyc_ite, ite_self]

/-! ## DictArray -/

theorem loadMeasureOpen_cyc (v : Nat) (d : Dev) : (loadMeasureOpen v d).2.cyc = d.cyc := by
  simp only [loadMeasureOpen, Dev.draw_cyc, loadMeasure_cyc, toLive_ite, cyc_ite, snd_ite, ite_self]

theorem injectItem_cyc (b : List Byte) (d : Dev) : (injectItem b d).2.cyc = d.cyc := by
  simp only [injectItem, injectWrite_cyc, snd_ite, ite_self]

/-! ## DictLabel -/

theorem labelItem_cyc (c : LabelCmd) (ops : List Nat) (d : Dev) : (labelItem c ops d).2.cyc = d.cyc := by
  have h := Dev.submitLabel_cyc d c ops
  unfold labelItem
  generalize d.submitLabel c ops = p at h ⊢
  rcases p with ⟨_ | _, x⟩ <;> exact h

/-! ## Repair -/

theorem repairMap_cyc (mac row : Nat) (d : Dev) : (repairMap mac row d).2.cyc = d.cyc := by
  (simp only [repairMap]; (repeat' split) <;> first | with_reducible rfl | simp only [Dev.raise_cyc])

theorem repairRow_cyc (mac row : Nat) (d : Dev) : (repairRow mac row d).2.cyc = d.cyc := by
  simp only [repairRow, repairMap_cyc, toLive_ite, cyc_ite, snd_ite, ite_self]

theorem repairAuto_cyc (mac row : Nat) (d : Dev) : (repairAuto mac row d).cyc = d.cyc := by
  simp only [repairAuto, repairMap_cyc, toLive_ite, cyc_ite, ite_self]

theorem repairFuseDone_cyc (d : Dev) : (repairFuseDone d).cyc = d.cyc := by
  unfold repairFuseDone
  split
  · rfl
  · exact Dev.raise_cyc ..

/-! ## Items -/

/-- What every row of the dictionary does when it is written keeps the cycle configuration legal. -/
def RowKeeps (r : ObjRow) : Prop := ∀ src s b d, d.cyc.legal = true → (r.write src s b d).2.cyc.legal = true

theorem dict1000_keeps : ∀ r ∈ dict1000, RowKeeps r := by
  simp only [dict1000, List.forall_mem_cons, List.not_mem_nil, false_imp_iff, implies_true, and_true, RowKeeps]
  refine ⟨?_, ?_, ?_, ?_, ?_, ?_, ?_, ?_, ?_⟩ <;> intro src s b d h <;> (try exact h) <;>
    simp +contextual only [wrR, answered, deviceLabelWrite_cyc,  h]

theorem dict1100_keeps : ∀ r ∈ dict1100, RowKeeps r := by
  simp only [dict1100, List.forall_mem_cons, List.not_mem_nil, false_imp_iff, implies_true, and_true, RowKeeps]
  refine ⟨?_, ?_, ?_, ?_⟩ <;> intro src s b d h <;> (try exact h) <;>
    simp +contextual only [wrN, wrI, wrB, wrR, answered, boot_cyc, systemIdWrite_cyc, domainIdWrite_cyc,  h, toLive_ite, cyc_ite, snd_ite, ite_self]

theorem dict1200_keeps : ∀ r ∈ dict1200, RowKeeps r := by
  simp only [dict1200, List.forall_mem_cons, List.not_mem_nil, false_imp_iff, implies_true, and_true, RowKeeps]
  refine ⟨?_, ?_, ?_, ?_, ?_, ?_, ?_, ?_, ?_, ?_⟩ <;> intro src s b d h <;> (try exact h) <;>
    simp +contextual only [wrR, answered, telemListWrite_cyc,  h]

theorem dictC000_keeps : ∀ r ∈ dictC000, RowKeeps r := by
  simp only [dictC000, List.forall_mem_cons, List.not_mem_nil, false_imp_iff, implies_true, and_true, RowKeeps]
  refine ⟨?_, ?_, ?_, ?_, ?_, ?_, ?_, ?_, ?_, ?_, ?_, ?_, ?_, ?_, ?_, ?_, ?_, ?_, ?_, ?_, ?_, ?_, ?_, ?_⟩ <;> intro src s b d h <;> (try exact h) <;>
    simp +contextual only [wrN, wrR, answered, savedStateErase_cyc, startModeWrite_cyc, firmwareTargetWrite_cyc, firmwareBlock_cyc, securityVersionCommit_cyc, ownerKeyInstall_cyc, attestNonce_cyc, rejoin_cyc, deviceReset_cyc_q, firmwareApply_cyc_q,  h]

theorem dictC100_keeps : ∀ r ∈ dictC100, RowKeeps r := by
  simp only [dictC100, List.forall_mem_cons, List.not_mem_nil, false_imp_iff, implies_true, and_true, RowKeeps]
  refine ⟨?_, ?_, ?_, ?_, ?_, ?_⟩ <;> intro src s b d h <;> (try exact h) <;>
    simp +contextual only [wrN, wrR, answered, rangeRightsWrite_cyc, addrRuleWrite_cyc, bspiLevelWrite_cyc,  h]

theorem dict2000a_keeps : ∀ r ∈ dict2000a, RowKeeps r := by
  simp only [dict2000a, List.forall_mem_cons, List.not_mem_nil, false_imp_iff, implies_true, and_true, RowKeeps]
  refine ⟨?_, ?_, ?_, ?_, ?_, ?_, ?_, ?_, ?_, ?_, ?_, ?_, ?_, ?_, ?_, ?_, ?_, ?_, ?_, ?_, ?_, ?_, ?_, ?_⟩ <;> intro src s b d h <;> (try exact h) <;>
    simp +contextual only [wrN, wrI, wrR, answered, timeSet_cyc, timeSourceWrite_cyc, syncLog2Write_cyc, cyclePeriodWrite_cyc, rowsEnabledWrite_cyc, idleSlotsWrite_cyc, slotLengthWrite_cyc, tickWindowWrite_cyc, cycleApply_cyc_q,  h]

theorem dict2000b_keeps : ∀ r ∈ dict2000b, RowKeeps r := by
  simp only [dict2000b, List.forall_mem_cons, List.not_mem_nil, false_imp_iff, implies_true, and_true, RowKeeps]
  refine ⟨?_, ?_, ?_, ?_, ?_, ?_, ?_, ?_, ?_, ?_⟩ <;> intro src s b d h <;> (try exact h) <;>
    simp +contextual only [wrN, wrI, answered, delayReqLog2Write_cyc, holdoverLimitWrite_cyc, asymTrimWrite_cyc,  h]

theorem dict2100_keeps : ∀ r ∈ dict2100, RowKeeps r := by
  simp only [dict2100, List.forall_mem_cons, List.not_mem_nil, false_imp_iff, implies_true, and_true, RowKeeps]
  refine ⟨?_, ?_, ?_, ?_, ?_, ?_, ?_, ?_, ?_, ?_, ?_⟩ <;> intro src s b d h <;> (try exact h) <;>
    simp +contextual only [wrN, wrR, answered, triggerWrite_cyc, snapNow_cyc,  h]

theorem dict3000_keeps : ∀ r ∈ dict3000, RowKeeps r := by
  simp only [dict3000, List.forall_mem_cons, List.not_mem_nil, false_imp_iff, implies_true, and_true, RowKeeps]
  refine ⟨?_, ?_, ?_, ?_, ?_, ?_, ?_, ?_, ?_, ?_, ?_, ?_, ?_⟩ <;> intro src s b d h <;> (try exact h) <;>
    simp +contextual only [wrN, wrB, answered, laneDisable_cyc, laneEnable_cyc, laneRateWrite_cyc, laneFecWrite_cyc, helloPeriodWrite_cyc,  h, toLive_ite, cyc_ite, snd_ite, ite_self]

theorem dict3100_keeps : ∀ r ∈ dict3100, RowKeeps r := by
  simp only [dict3100, List.forall_mem_cons, List.not_mem_nil, false_imp_iff, implies_true, and_true, RowKeeps]
  refine ⟨?_, ?_, ?_, ?_, ?_, ?_, ?_, ?_, ?_, ?_, ?_, ?_, ?_, ?_, ?_, ?_, ?_⟩ <;> intro src s b d h <;> (try exact h) <;>
    simp +contextual only [wrN, wrR, answered, enumStart_cyc, hostBlockWrite_cyc,  h]

theorem dict3200_keeps : ∀ r ∈ dict3200, RowKeeps r := by
  simp only [dict3200, List.forall_mem_cons, List.not_mem_nil, false_imp_iff, implies_true, and_true, RowKeeps]
  refine ⟨?_, ?_, ?_, ?_, ?_, ?_, ?_, ?_, ?_, ?_, ?_, ?_, ?_, ?_, ?_, ?_, ?_, ?_, ?_⟩ <;> intro src s b d h <;> (try exact h) <;>
    simp +contextual only [wrN, wrB, wrR, answered, quantumWrite_cyc, queueLimitWrite_cyc, yellowWrite_cyc, shaperEnableWrite_cyc, shaperRateWrite_cyc, shaperBurstWrite_cyc, meterProfileWrite_cyc, histClear_cyc, meterEnableWrite_cyc,  h]

theorem dict4000_keeps : ∀ r ∈ dict4000, RowKeeps r := by
  simp only [dict4000, List.forall_mem_cons, List.not_mem_nil, false_imp_iff, implies_true, and_true, RowKeeps]
  refine ⟨?_, ?_, ?_, ?_, ?_, ?_, ?_, ?_, ?_, ?_, ?_, ?_, ?_, ?_, ?_, ?_⟩ <;> intro src s b d h <;> (try exact h) <;>
    simp +contextual only [wrN, wrB, wrR, answered, towerWiredWrite_cyc, dcolEnableWrite_cyc, mcolEnableWrite_cyc, zoneNomResWrite_cyc, zoneBetaWrite_cyc, zoneFallbackWrite_cyc, loadMeasureOpen_cyc,  h]

theorem dict4100_keeps : ∀ r ∈ dict4100, RowKeeps r := by
  simp only [dict4100, List.forall_mem_cons, List.not_mem_nil, false_imp_iff, implies_true, and_true, RowKeeps]
  refine ⟨?_, ?_, ?_, ?_, ?_, ?_, ?_, ?_, ?_, ?_, ?_, ?_, ?_, ?_, ?_, ?_, ?_, ?_, ?_, ?_, ?_, ?_⟩ <;> intro src s b d h <;> (try exact h) <;>
    simp +contextual only [wrN, wrI, wrR, answered, columnGainWrite_cyc, avgLog2Write_cyc, darkWrite_cyc, convOffsetWrite_cyc, convGainWrite_cyc, skewTrimWrite_cyc, tdacRouteWrite_cyc, tdacGroupWrite_cyc, tdacCodeWrite_cyc, injectItem_cyc,  h]

theorem dict4200_keeps : ∀ r ∈ dict4200, RowKeeps r := by
  simp only [dict4200, List.forall_mem_cons, List.not_mem_nil, false_imp_iff, implies_true, and_true, RowKeeps]
  refine ⟨?_, ?_, ?_, ?_, ?_, ?_, ?_, ?_, ?_, ?_, ?_, ?_, ?_, ?_, ?_, ?_, ?_, ?_, ?_, ?_, ?_, ?_⟩ <;> intro src s b d h <;> (try exact h) <;>
    simp +contextual only [wrN, wrI, answered, rowFaultClear_cyc, groupControlWrite_cyc, idleCodeWrite_cyc, toneFtwWrite_cyc, offsetTrimWrite_cyc, gainTrimWrite_cyc, contentionLimitWrite_cyc,  h]

theorem dict5000_keeps : ∀ r ∈ dict5000, RowKeeps r := by
  simp only [dict5000, List.forall_mem_cons, List.not_mem_nil, false_imp_iff, implies_true, and_true, RowKeeps]
  refine ⟨?_, ?_, ?_, ?_, ?_, ?_, ?_, ?_, ?_, ?_, ?_, ?_, ?_, ?_, ?_, ?_, ?_, ?_, ?_, ?_, ?_, ?_⟩ <;> intro src s b d h <;> (try exact h) <;>
    simp +contextual only [wrN, answered, settleEntryWrite_cyc, loopControlWrite_cyc, laneUnfence_cyc,  h]

theorem dict5100a_keeps : ∀ r ∈ dict5100a, RowKeeps r := by
  simp only [dict5100a, List.forall_mem_cons, List.not_mem_nil, false_imp_iff, implies_true, and_true, RowKeeps]
  refine ⟨?_, ?_, ?_, ?_, ?_, ?_, ?_, ?_, ?_, ?_, ?_, ?_, ?_, ?_, ?_, ?_, ?_, ?_, ?_, ?_, ?_, ?_, ?_, ?_⟩ <;> intro src s b d h <;> (try exact h) <;>
    simp +contextual only [wrN, wrI, answered, anyFieldWrite_cyc,  h]

theorem dict5100b_keeps : ∀ r ∈ dict5100b, RowKeeps r := by
  simp only [dict5100b, List.forall_mem_cons, List.not_mem_nil, false_imp_iff, implies_true, and_true, RowKeeps]
  refine ⟨?_, ?_, ?_, ?_, ?_, ?_, ?_, ?_, ?_, ?_, ?_, ?_, ?_, ?_, ?_, ?_, ?_, ?_, ?_, ?_, ?_, ?_⟩ <;> intro src s b d h <;> (try exact h) <;>
    simp +contextual only [wrN, answered, anyFieldWrite_cyc,  h]

theorem dict5200_keeps : ∀ r ∈ dict5200, RowKeeps r := by
  simp only [dict5200, List.forall_mem_cons, List.not_mem_nil, false_imp_iff, implies_true, and_true, RowKeeps]
  refine ⟨?_, ?_, ?_, ?_, ?_, ?_, ?_, ?_, ?_, ?_, ?_, ?_⟩ <;> intro src s b d h <;> (try exact h) <;>
    simp +contextual only [wrN, wrR, answered, traceControlWrite_cyc, traceElementsWrite_cyc, traceNodesWrite_cyc, traceModeWrite_cyc, tracePostWrite_cyc, traceDecimateWrite_cyc, traceTriggerWrite_cyc,  h]

theorem dict5300a_keeps : ∀ r ∈ dict5300a, RowKeeps r := by
  simp only [dict5300a, List.forall_mem_cons, List.not_mem_nil, false_imp_iff, implies_true, and_true, RowKeeps]
  refine ⟨?_, ?_, ?_, ?_, ?_, ?_, ?_, ?_, ?_, ?_, ?_, ?_, ?_, ?_, ?_, ?_, ?_, ?_, ?_, ?_, ?_, ?_, ?_, ?_⟩ <;> intro src s b d h <;> (try exact h) <;>
    simp +contextual only [wrN, wrR, answered, tapRespWrite_cyc, chainCorrWrite_cyc, calPointsWrite_cyc, darkCapture_cyc, entrySlewWrite_cyc, refitWindowWrite_cyc, sweepRequestWrite_cyc, sweepCancel_cyc, calColumnRequest_cyc, calRotationWrite_cyc,  h]

theorem dict5300b_keeps : ∀ r ∈ dict5300b, RowKeeps r := by
  simp only [dict5300b, List.forall_mem_cons, List.not_mem_nil, false_imp_iff, implies_true, and_true, RowKeeps]
  refine ⟨?_, ?_, ?_, ?_, ?_, ?_, ?_⟩ <;> intro src s b d h <;> (try exact h) <;>
    simp +contextual only [wrN, wrI, wrB, wrR, answered, refitA0MaxWrite_cyc, refitDeadbandWrite_cyc, refitSlopeTolWrite_cyc,  h, toLive_ite, cyc_ite, snd_ite, ite_self]

theorem dict6000_keeps : ∀ r ∈ dict6000, RowKeeps r := by
  simp only [dict6000, List.forall_mem_cons, List.not_mem_nil, false_imp_iff, implies_true, and_true, RowKeeps]
  refine ⟨?_, ?_, ?_, ?_, ?_, ?_, ?_, ?_, ?_, ?_, ?_, ?_, ?_, ?_, ?_, ?_⟩ <;> intro src s b d h <;> (try exact h) <;>
    simp +contextual only [wrN, wrR, answered, fabricBlockWrite_cyc, fabricLengthWrite_cyc, fabricApply_cyc,  h]

theorem dict6100_keeps : ∀ r ∈ dict6100, RowKeeps r := by
  simp only [dict6100, List.forall_mem_cons, List.not_mem_nil, false_imp_iff, implies_true, and_true, RowKeeps]
  refine ⟨?_, ?_, ?_, ?_, ?_, ?_, ?_, ?_, ?_, ?_, ?_, ?_, ?_, ?_, ?_⟩ <;> intro src s b d h <;> (try exact h) <;>
    simp +contextual only [wrN, wrR, answered, solveRequestWrite_cyc, rawTargetWrite_cyc,  h]

theorem dict6200_keeps : ∀ r ∈ dict6200, RowKeeps r := by
  simp only [dict6200, List.forall_mem_cons, List.not_mem_nil, false_imp_iff, implies_true, and_true, RowKeeps]
  refine ⟨?_, ?_, ?_, ?_, ?_, ?_, ?_, ?_, ?_, ?_, ?_, ?_, ?_, ?_, ?_, ?_, ?_, ?_, ?_, ?_⟩ <;> intro src s b d h <;> (try exact h) <;>
    simp +contextual only [wrN, wrR, answered, circuitNextWrite_cyc, circuitBatch_cyc, nextResetWrite_cyc, portAttenWrite_cyc, commitWrite_cyc, commitCancel_cyc,  h]

theorem dict6300_keeps : ∀ r ∈ dict6300, RowKeeps r := by
  simp only [dict6300, List.forall_mem_cons, List.not_mem_nil, false_imp_iff, implies_true, and_true, RowKeeps]
  refine ⟨?_, ?_, ?_, ?_, ?_, ?_, ?_, ?_, ?_⟩ <;> intro src s b d h <;> (try exact h) <;>
    simp +contextual only [wrN, answered, verifyTimeoutWrite_cyc,  h]

theorem dict7000_keeps : ∀ r ∈ dict7000, RowKeeps r := by
  simp only [dict7000, List.forall_mem_cons, List.not_mem_nil, false_imp_iff, implies_true, and_true, RowKeeps]
  refine ⟨?_, ?_, ?_, ?_, ?_, ?_, ?_, ?_, ?_, ?_, ?_, ?_, ?_, ?_⟩ <;> intro src s b d h <;> (try exact h) <;>
    simp +contextual only [wrN, wrB, answered, pairWrite_cyc, decoderControlWrite_cyc, learnModeWrite_cyc, learnRepostWrite_cyc,  h]

theorem dict7100_keeps : ∀ r ∈ dict7100, RowKeeps r := by
  simp only [dict7100, List.forall_mem_cons, List.not_mem_nil, false_imp_iff, implies_true, and_true, RowKeeps]
  refine ⟨?_, ?_, ?_, ?_, ?_, ?_, ?_, ?_, ?_, ?_, ?_, ?_, ?_⟩ <;> intro src s b d h <;> (try exact h) <;>
    simp +contextual only [wrN, answered, ageTimeWrite_cyc, labelItem_cyc,  h]

theorem dict7200_keeps : ∀ r ∈ dict7200, RowKeeps r := by
  simp only [dict7200, List.forall_mem_cons, List.not_mem_nil, false_imp_iff, implies_true, and_true, RowKeeps]
  refine ⟨?_, ?_, ?_, ?_, ?_⟩ <;> intro src s b d h <;> (try exact h) <;>
    simp +contextual only [wrN, answered, learnReadIndexWrite_cyc,  h]

theorem dict8000a_keeps : ∀ r ∈ dict8000a, RowKeeps r := by
  simp only [dict8000a, List.forall_mem_cons, List.not_mem_nil, false_imp_iff, implies_true, and_true, RowKeeps]
  refine ⟨?_, ?_, ?_, ?_, ?_, ?_, ?_, ?_, ?_, ?_, ?_, ?_, ?_, ?_, ?_, ?_, ?_, ?_, ?_, ?_, ?_, ?_, ?_, ?_⟩ <;> intro src s b d h <;> (try exact h) <;>
    simp +contextual only [wrN, wrR, answered, windowModeWrite_cyc, scrubControlWrite_cyc, scrubRangeWrite_cyc, compatLoad_cyc, ceLeakIntervalWrite_cyc, scrubRateWrite_cyc, repairThresholdWrite_cyc, repairRow_cyc,  h]

theorem dict8000b_keeps : ∀ r ∈ dict8000b, RowKeeps r := by
  simp only [dict8000b, List.forall_mem_cons, List.not_mem_nil, false_imp_iff, implies_true, and_true, RowKeeps]
  refine ⟨?_, ?_, ?_, ?_, ?_⟩ <;> intro src s b d h <;> (try exact h) <;>
    simp +contextual only [wrN, wrI, wrB, wrR, answered,  h, toLive_ite, cyc_ite, snd_ite, ite_self]

theorem dict9000a_keeps : ∀ r ∈ dict9000a, RowKeeps r := by
  simp only [dict9000a, List.forall_mem_cons, List.not_mem_nil, false_imp_iff, implies_true, and_true, RowKeeps]
  refine ⟨?_, ?_, ?_, ?_, ?_, ?_, ?_, ?_, ?_, ?_, ?_, ?_, ?_, ?_, ?_, ?_, ?_, ?_, ?_, ?_, ?_, ?_, ?_, ?_⟩ <;> intro src s b d h <;> (try exact h) <;>
    simp +contextual only [wrN, answered, claimLineClear_cyc, claimLineMaskWrite_cyc, intervalWrite_cyc, freshLimitWrite_cyc, yieldWrite_cyc, towerDutyWrite_cyc,  h]

theorem dict9000b_keeps : ∀ r ∈ dict9000b, RowKeeps r := by
  simp only [dict9000b, List.forall_mem_cons, List.not_mem_nil, false_imp_iff, implies_true, and_true, RowKeeps]
  refine ?_ <;> intro src s b d h <;> (try exact h) <;>
    simp +contextual only [wrN, wrI, wrB, wrR, answered,  h, toLive_ite, cyc_ite, snd_ite, ite_self]

theorem dictA000_keeps : ∀ r ∈ dictA000, RowKeeps r := by
  simp only [dictA000, List.forall_mem_cons, List.not_mem_nil, false_imp_iff, implies_true, and_true, RowKeeps]
  refine ⟨?_, ?_, ?_, ?_, ?_, ?_, ?_, ?_, ?_, ?_, ?_, ?_, ?_⟩ <;> intro src s b d h <;> (try exact h) <;>
    simp +contextual only [wrN, wrI, answered, thermalRestart_cyc, zoneWarnWrite_cyc, zoneHighWrite_cyc,  h]

theorem dictA100_keeps : ∀ r ∈ dictA100, RowKeeps r := by
  simp only [dictA100, List.forall_mem_cons, List.not_mem_nil, false_imp_iff, implies_true, and_true, RowKeeps]
  refine ⟨?_, ?_, ?_, ?_, ?_, ?_, ?_⟩ <;> intro src s b d h <;> (try exact h) <;>
    simp +contextual only [wrN, wrI, wrB, wrR, answered,  h, toLive_ite, cyc_ite, snd_ite, ite_self]

theorem dictB000_keeps : ∀ r ∈ dictB000, RowKeeps r := by
  simp only [dictB000, List.forall_mem_cons, List.not_mem_nil, false_imp_iff, implies_true, and_true, RowKeeps]
  refine ⟨?_, ?_, ?_, ?_, ?_, ?_, ?_, ?_, ?_, ?_, ?_, ?_, ?_, ?_, ?_, ?_, ?_, ?_, ?_⟩ <;> intro src s b d h <;> (try exact h) <;>
    simp +contextual only [wrN, answered, deviceRestart_cyc, eventReadIndexWrite_cyc, faultLogClear_cyc, faultAck_cyc, irqLevelWrite_cyc, suppressLimitWrite_cyc,  h]

theorem dictOf_keeps (idx : Nat) : ∀ r ∈ dictOf idx, RowKeeps r := by
  unfold dictOf
  split <;> first
    | (intro r hr; cases hr; done)
    | (intro r hr; rcases List.mem_append.1 hr with hr | hr <;> first | exact dict2000a_keeps r hr | exact dict2000b_keeps r hr | exact dict5100a_keeps r hr | exact dict5100b_keeps r hr | exact dict5300a_keeps r hr | exact dict5300b_keeps r hr | exact dict8000a_keeps r hr | exact dict8000b_keeps r hr | exact dict9000a_keeps r hr | exact dict9000b_keeps r hr)
    | exact dict1000_keeps | exact dict1100_keeps | exact dict1200_keeps | exact dictC000_keeps | exact dictC100_keeps | exact dict2100_keeps | exact dict3000_keeps | exact dict3100_keeps | exact dict3200_keeps | exact dict4000_keeps | exact dict4100_keeps | exact dict4200_keeps | exact dict5000_keeps | exact dict5200_keeps | exact dict6000_keeps | exact dict6100_keeps | exact dict6200_keeps | exact dict6300_keeps | exact dict7000_keeps | exact dict7100_keeps | exact dict7200_keeps | exact dictA000_keeps | exact dictA100_keeps | exact dictB000_keeps

theorem named_rowKeeps {d : Dev} {idx sub : Nat} {sel : Option Nat} {r : ObjRow} {s : Nat}
    (h : d.named idx sub sel = .ok (r, s)) : RowKeeps r := by
  unfold Dev.named rowOf at h
  split at h
  · cases h
  · rename_i x hx
    have hk := dictOf_keeps idx x (List.mem_of_find?_eq_some hx)
    split at h
    · cases h
    · split at h
      · cases h; exact hk
      · split at h <;> cases h; exact hk
      · cases h

theorem writeTarget_rowKeeps {d : Dev} {level : Nat} {link : Bool} {idx sub : Nat} {sel : Option Nat} {r : ObjRow} {s : Nat}
    (h : d.writeTarget level link idx sub sel = .ok (r, s)) : RowKeeps r := by
  unfold Dev.writeTarget at h
  split at h
  · cases h
  · rename_i x y hx
    split at h
    · cases h
    · split at h
      · cases h
      · cases h; exact named_rowKeeps hx

theorem describe_cyc (obj : ObjRef) (d : Dev) : (describe obj d).cyc = d.cyc := by
  simp only [describe, Dev.replyWith_cyc]

theorem ObjRow.put_cyc_q (r : ObjRow) (src s : Nat) (b : List Byte) (d : Dev) (hr : RowKeeps r) (h : d.cyc.legal = true) :
    (r.put src s b d).2.cyc.legal = true := by
  unfold ObjRow.put
  split
  · exact h
  · split
    · exact h
    · exact hr src s b d h

theorem Dev.dropParts_cyc (d : Dev) (src : Nat) : (Dev.dropParts d src).cyc = d.cyc := by
  simp only [Dev.dropParts, Dev.setReq_cyc]

theorem partItem_cyc_q (src : Nat) (r : ObjRow) (s : Nat) (obj : ObjRef) (off : Nat) (b : List Byte) (more : Bool) (d : Dev)
    (hr : RowKeeps r) (h : d.cyc.legal = true) : (partItem src r s obj off b more d).2.cyc.legal = true := by
  unfold partItem
  dsimp only
  split
  · rw [Dev.dropParts_cyc]; exact h
  · split
    · split
      · exact h
      · rw [Dev.setReq_cyc, Dev.dropParts_cyc]; exact h
    · exact ObjRow.put_cyc_q _ _ _ _ _ hr (by rw [Dev.dropParts_cyc]; exact h)

theorem putItem_cyc_q (src : Nat) (r : ObjRow) (s : Nat) (obj : ObjRef) (off : Nat) (b : List Byte) (more : Bool) (d : Dev)
    (hr : RowKeeps r) (h : d.cyc.legal = true) : (putItem src r s obj off b more d).2.cyc.legal = true := by
  unfold putItem
  split
  · exact partItem_cyc_q _ _ _ _ _ _ _ _ hr h
  · exact ObjRow.put_cyc_q _ _ _ _ _ hr h

theorem writeItem_cyc_q (src level : Nat) (link : Bool) (obj : ObjRef) (ty off : Nat) (b : List Byte) (more : Bool) (d : Dev)
    (h : d.cyc.legal = true) : (writeItem src level link obj ty off b more d).2.cyc.legal = true := by
  unfold writeItem
  split
  · exact h
  · rename_i r s hw
    split
    · exact h
    · exact putItem_cyc_q _ _ _ _ _ _ _ _ (writeTarget_rowKeeps hw) h

theorem domainPartWrite_cyc_q (src level : Nat) (obj : ObjRef) (off : Nat) (b : List Byte) (more : Bool) (d : Dev)
    (h : d.cyc.legal = true) : (domainPartWrite src level obj off b more d).cyc.legal = true := by
  unfold domainPartWrite
  have := writeItem_cyc_q src level (src ≠ 0) obj 13 off b more d h
  unfold Dev.answerNow
  split
  · rw [Dev.reply_cyc]; exact this
  · exact this

theorem assemblyTimeout_cyc (src : Nat) (d : Dev) : (assemblyTimeout src d).cyc = d.cyc := by
  simp only [assemblyTimeout, Dev.dropParts_cyc, toLive_ite, cyc_ite, ite_self]

theorem registerWrite_cyc_q (level : Nat) (obj : ObjRef) (v : ObjVal) (d : Dev) (h : d.cyc.legal = true) :
    (registerWrite level obj v d).cyc.legal = true := by
  unfold registerWrite
  split
  · rw [Dev.reply_cyc]; exact h
  · rename_i r s hw
    split
    · rw [Dev.reply_cyc]; exact h
    · rename_i b _
      have := ObjRow.put_cyc_q r 0 s b d (writeTarget_rowKeeps hw) h
      unfold Dev.answerNow
      dsimp only
      split
      · rw [Dev.reply_cyc]; exact this
      · exact this

/-! ## MateSync -/

theorem Dev.sendKept_cyc (d : Dev) (kind item : Nat) (poison : Bool) (body : List Byte) :
    (Dev.sendKept d kind item poison body).cyc = d.cyc := by
  simp only [Dev.sendKept, Dev.setTow_cyc, Dev.sendSync_cyc]

theorem calPointsForward_cyc (e : Nat) (d : Dev) : (calPointsForward e d).cyc = d.cyc := by
  simp only [calPointsForward, Dev.setCal_cyc, Dev.sendKept_cyc, toLive_ite, cyc_ite, ite_self]

theorem labelCommandForward_cyc (d : Dev) : (labelCommandForward d).cyc = d.cyc := by
  (simp only [labelCommandForward]; (repeat' split) <;> first | with_reducible rfl | simp only [Dev.setLab_cyc, Dev.sendKept_cyc])

theorem Dev.resend_cyc (d : Dev) (x : SyncOut) : (Dev.resend d x).cyc = d.cyc := by
  simp only [Dev.resend, Dev.toMate_cyc, toLive_ite, cyc_ite, ite_self]

theorem mateSyncResend_cyc (n : BitVec 32) (d : Dev) : (mateSyncResend n d).cyc = d.cyc := by
  (simp only [mateSyncResend]; (repeat' split) <;> first | with_reducible rfl | simp only [Dev.setTow_cyc, Dev.resend_cyc])

theorem mateSyncLost_cyc (n : BitVec 32) (d : Dev) : (mateSyncLost n d).cyc = d.cyc := by
  (simp only [mateSyncLost]; (repeat' split) <;> first | with_reducible rfl | simp only [Dev.raise_cyc, Dev.setTow_cyc])

theorem mateSyncAck_cyc (n : BitVec 32) (d : Dev) : (mateSyncAck n d).cyc = d.cyc := by
  simp only [mateSyncAck, Dev.takeAny_cyc, Dev.setTow_cyc]

theorem Dev.applySync_cyc (d : Dev) (n : BitVec 32) (poison : Bool) (f : Dev → Resp × Dev) (hf : ∀ d, (f d).2.cyc = d.cyc) :
    (Dev.applySync d n poison f).cyc = d.cyc := by
  simp only [Dev.applySync, Dev.takeAny_cyc, Dev.setTow_cyc, Dev.ack_cyc, toLive_ite, cyc_ite, ite_self, hf]

theorem mateSyncCalPoints_cyc (n : BitVec 32) (e : Nat) (b : List Byte) (poison : Bool) (d : Dev) :
    (mateSyncCalPoints n e b poison d).cyc = d.cyc := by
  simp only [mateSyncCalPoints, calPointsWrite_cyc, Dev.applySync_cyc, implies_true]

theorem applyMateLabel_cyc (c : LabelCmd) (d : Dev) : (applyMateLabel c d).2.cyc = d.cyc := by
  simp only [applyMateLabel, Dev.acceptLabel_cyc, toLive_ite, cyc_ite, snd_ite, ite_self]

theorem mateSyncLabelCommand_cyc (n : BitVec 32) (c : LabelCmd) (poison : Bool) (d : Dev) :
    (mateSyncLabelCommand n c poison d).cyc = d.cyc := by
  simp only [mateSyncLabelCommand, Dev.applySync_cyc, applyMateLabel_cyc, implies_true]

/-! ## Requests -/

theorem runItem_cyc_q (src level : Nat) (link : Bool) (i : ReqItem) (d : Dev) (h : d.cyc.legal = true) :
    (runItem src level link i d).2.2.cyc.legal = true := by
  unfold runItem
  split
  · simp only [readItem_cyc, h]
  · have := writeItem_cyc_q src level link i.obj i.ty i.off i.value i.more d h
    dsimp only
    split <;> exact this
  · exact h

theorem runItems_cyc_q (src level : Nat) (link : Bool) (l : List ReqItem) (x : ItemRun) (d : Dev) (h : d.cyc.legal = true) :
    (runItems src level link l x d).2.cyc.legal = true := by
  induction l generalizing x d with
  | nil => exact h
  | cons i l ih =>
    unfold runItems
    dsimp only
    split
    · exact runItem_cyc_q _ _ _ _ _ h
    · exact ih _ _ (runItem_cyc_q _ _ _ _ _ h)

theorem Dev.takeCounter_cyc (d : Dev) (b : ReqBody) : (Dev.takeCounter d b).cyc = d.cyc := by
  simp only [Dev.takeCounter]

theorem Dev.freeWindow_cyc (d : Dev) (src : Nat) : (Dev.freeWindow d src).cyc = d.cyc := by
  simp only [Dev.freeWindow, Dev.setReq_cyc]

theorem Dev.windowRoom_cyc (d : Dev) : ∀ d2, d.windowRoom = some d2 → d2.cyc = d.cyc := by
  intro d2 h
  unfold Dev.windowRoom at h
  split at h
  · cases h; rfl
  · dsimp only at h
    split at h
    · cases h
    · obtain ⟨w, _, rfl⟩ := Option.map_eq_some_iff.1 h
      exact Dev.freeWindow_cyc ..

theorem Dev.acceptRequest_cyc (d : Dev) (q : ReqFrame) : ∀ d2, d.acceptRequest q = some d2 → d2.cyc = d.cyc := by
  intro d2 h
  unfold Dev.acceptRequest at h
  split at h
  · cases h
  · split at h
    · cases h; rfl
    · split at h
      · cases h; exact Dev.putWindow_cyc ..
      · obtain ⟨x, hx, rfl⟩ := Option.map_eq_some_iff.1 h
        rw [Dev.putWindow_cyc, Dev.windowRoom_cyc d x hx]

theorem Dev.refuse_cyc (d : Dev) (q : ReqFrame) (code : Resp) : (Dev.refuse d q code).cyc = d.cyc := by
  simp only [Dev.refuse, Dev.sendResponse_cyc]

theorem Dev.conclude_cyc (d : Dev) (was o : Outstanding) : (Dev.conclude d was o).cyc = d.cyc := by
  simp only [Dev.conclude, Dev.finishRequest_cyc, Dev.setReq_cyc, toLive_ite, cyc_ite, snd_ite, ite_self, implies_true]

theorem Dev.execute_cyc_q (d d0 : Dev) (q : ReqFrame) (b : ReqBody) (o : Outstanding) (h : d.cyc.legal = true)
    (h0 : d0.cyc.legal = true) : (Dev.execute d d0 q b o).cyc.legal = true := by
  have h1 := runItems_cyc_q q.src.toNat o.level (!q.spi) b.items {} (d.setReq (fun r => { r with outstanding := r.outstanding ++ [o] })) h
  unfold Dev.execute
  dsimp only
  split
  · rw [Dev.refuse_cyc, Dev.countReq_cyc]; exact h0
  · split
    · exact h1
    · rw [Dev.conclude_cyc, Dev.countReq_cyc]; exact h1

theorem Dev.judge_cyc_q (d d0 : Dev) (q : ReqFrame) (b : ReqBody) (digest : List Byte) (h : d.cyc.legal = true)
    (h0 : d0.cyc.legal = true) : (Dev.judge d d0 q b digest).cyc.legal = true := by
  unfold Dev.judge
  dsimp only
  split
  · exact Dev.execute_cyc_q _ _ _ _ _ h h0
  · split
    · exact Dev.execute_cyc_q _ _ _ _ _ (by rw [Dev.takeCounter_cyc]; exact h) (by rw [Dev.takeCounter_cyc]; exact h0)
    · rw [Dev.finishRequest_cyc, Dev.countReq_cyc]; exact h

theorem Dev.take4_cyc_q (d : Dev) (q : ReqFrame) (b : ReqBody) (digest : List Byte) (h : d.cyc.legal = true) : (Dev.take4 d q b digest).cyc.legal = true := by
  unfold Dev.take4
  split
  · rw [Dev.refuse_cyc, Dev.countReq_cyc]; exact h
  · rename_i d' hd
    exact Dev.judge_cyc_q _ _ _ _ _ (by rw [Dev.acceptRequest_cyc d q d' hd]; exact h) h

theorem Dev.take3_cyc_q (d : Dev) (q : ReqFrame) (b : ReqBody) (h : d.cyc.legal = true) :
    (Dev.take3 d q b).cyc.legal = true := by
  (simp +contextual only [Dev.take3]; (repeat' split) <;> first | with_reducible rfl | (simp +contextual only [Dev.setReq_cyc, Dev.countReq_cyc, Dev.answerFromCache_cyc, Dev.refuse_cyc, Dev.take4_cyc_q, h]))

theorem Dev.touchWindow_cyc (d : Dev) (src : Nat) : (Dev.touchWindow d src).cyc = d.cyc := by
  simp only [Dev.touchWindow, Dev.setReq_cyc]

theorem Dev.serve_cyc_q (d : Dev) (q : ReqFrame) (h : d.cyc.legal = true) : (Dev.serve d q).cyc.legal = true := by
  (simp +contextual only [Dev.serve, Dev.refuse_cyc, toLive_ite, cyc_ite, legal_ite, h]; (repeat' split) <;> first | with_reducible rfl | (simp +contextual only [Dev.countReq_cyc, Dev.refuse_cyc, Dev.take4_cyc_q, Dev.take3_cyc_q, h]))

theorem requestReceive_cyc_q (q : ReqFrame) (d : Dev) (h : d.cyc.legal = true) : (requestReceive q d).cyc.legal = true := by
  (simp +contextual only [requestReceive]; (repeat' split) <;> first | with_reducible rfl | (simp +contextual only [Dev.serve_cyc_q, Dev.takeAny_cyc, Dev.touchWindow_cyc, implies_true, h]))

theorem windowFree_cyc (src : Nat) (d : Dev) : (windowFree src d).cyc = d.cyc := by
  (simp only [windowFree]; (repeat' split) <;> first | with_reducible rfl | simp only [Dev.freeWindow_cyc])

/-! ## Tick -/

end Sys2Proof.Machine
end

