-- ==== Sys2Proof/Laws/MemoryFrame.lean ====
section
/-! SUPPORT. Which meanings leave the SRAM alone, and that every other keeps it sound (R372, R375). -/

namespace Sys2Proof.Machine

theorem each_sram {α : Type} (l : List α) (f : α → Dev → Dev) (d : Dev) (h : ∀ a d, (f a d).sram = d.sram) :
    (each l f d).sram = d.sram := by
  unfold each
  induction l generalizing d with
  | nil => rfl
  | cons a l ih => simp only [List.foldl_cons, ih, h]

theorem iter_sram (f : Nat → Dev → Dev) (n i : Nat) (d : Dev) (h : ∀ a d, (f a d).sram = d.sram) :
    (iter f n i d).sram = d.sram := by
  induction n generalizing i d with
  | zero => rfl
  | succ n ih => simp only [iter, ih, h]

theorem foldl_sram {α : Type} (l : List α) (f : Dev → α → Dev) (d : Dev) (h : ∀ a d, (f d a).sram = d.sram) :
    (l.foldl f d).sram = d.sram := by
  induction l generalizing d with
  | nil => rfl
  | cons a l ih => simp only [List.foldl_cons, ih, h]

theorem sram_ite (c : Prop) [Decidable c] (a b : Live) : (if c then a else b).sram = if c then a.sram else b.sram :=
  apply_ite _ _ _ _

theorem sound_ite (c : Prop) [Decidable c] (a b : Mem) : (if c then a else b).sound = if c then a.sound else b.sound :=
  apply_ite _ _ _ _

theorem each_sram_q {α : Type} (l : List α) (f : α → Dev → Dev) (d : Dev)
    (hf : ∀ a d, d.sram.sound = true → (f a d).sram.sound = true) (h : d.sram.sound = true) : (each l f d).sram.sound = true :=
  each_keeps (fun d : Dev => d.sram.sound = true) l f d hf h

theorem iter_sram_q (f : Nat → Dev → Dev) (n i : Nat) (d : Dev)
    (hf : ∀ a d, d.sram.sound = true → (f a d).sram.sound = true) (h : d.sram.sound = true) : (iter f n i d).sram.sound = true := by
  induction n generalizing i d with
  | zero => exact h
  | succ n ih => exact ih _ _ (hf i d h)

/-! ## Ops -/

theorem Dev.mem_sram_q (d : Dev) (f : Mem → Mem) (hf : d.sram.sound = true → (f d.sram).sound = true) (h : d.sram.sound = true) :
    (d.mem f).sram.sound = true := mem_sound f hf h

theorem Dev.draw_sram (d : Dev) : (Dev.draw d).2.sram = d.sram := by
  simp only [Dev.draw]

theorem Dev.post_sram (d : Dev) (e : EventName) (args : List Nat) (summary : Bool) :
    (Dev.post d e args summary).sram = d.sram := by
  simp only [Dev.post, toLive_ite, sram_ite, ite_self]

/-! ## Flags -/

theorem Dev.setLane_sram (d : Dev) (l : Nat) (x : Lane) : (Dev.setLane d l x).sram = d.sram := by
  simp only [Dev.setLane]

theorem Dev.judgeGuarantee_sram (d : Dev) : (Dev.judgeGuarantee d).sram = d.sram := by
  simp only [Dev.judgeGuarantee, Dev.raiseIf_sram]

/-! ## Frames -/

theorem Dev.countLane_sram (d : Dev) (l i n : Nat) : (Dev.countLane d l i n).sram = d.sram := by
  simp only [Dev.countLane, Dev.setLane_sram]

theorem Dev.countQueue_sram (d : Dev) (x i n : Nat) : (Dev.countQueue d x i n).sram = d.sram := by
  simp only [Dev.countQueue]

theorem Dev.countMeter_sram (d : Dev) (x i : Nat) : (Dev.countMeter d x i).sram = d.sram := by
  simp only [Dev.countMeter]

theorem Dev.enqueue_sram (d : Dev) (l : Nat) (f : Frame) (cut : Bool) : (Dev.enqueue d l f cut).sram = d.sram := by
  simp only [Dev.enqueue, Dev.setLane_sram, toLive_ite, sram_ite, snd_ite, ite_self, implies_true]

theorem Dev.letIn_sram (d : Dev) (l : Nat) (f : Frame) (yellow : Bool) (cut : Bool) : (Dev.letIn d l f yellow cut).sram = d.sram := by
  simp only [Dev.letIn, Dev.countQueue_sram, Dev.enqueue_sram, toLive_ite, sram_ite, snd_ite, ite_self, implies_true]

theorem Dev.flushLane_sram (d : Dev) (l : Nat) : (Dev.flushLane d l).sram = d.sram := by
  simp only [Dev.flushLane, Dev.setLane_sram, Dev.countLane_sram]

theorem Dev.deliver_sram (d : Dev) (l : Nat) (f : Frame) : (Dev.deliver d l f).sram = d.sram := by
  simp only [Dev.deliver, toLive_ite, sram_ite, snd_ite, ite_self, implies_true]

theorem Dev.forward_sram (d : Dev) (i l : Nat) (f : Frame) (yellow : Bool) : (Dev.forward d i l f yellow).sram = d.sram := by
  simp only [Dev.forward, Dev.countLane_sram, Dev.letIn_sram, toLive_ite, sram_ite, snd_ite, ite_self, implies_true]

theorem Dev.drop_sram (d : Dev) (inLane : Option Nat) (i : Nat) : (Dev.drop d inLane i).sram = d.sram := by
  simp only [Dev.drop, Dev.countLane_sram]

theorem Dev.sendOn_sram (d : Dev) (inLane : Option Nat) (l : Nat) (f : Frame) (yellow : Bool) : (Dev.sendOn d inLane l f yellow).sram = d.sram := by
  (simp only [Dev.sendOn]; (repeat' split) <;> first | with_reducible rfl | simp only [Dev.drop_sram, Dev.forward_sram, Dev.letIn_sram, implies_true])

theorem Dev.broadcast_sram (d : Dev) (inLane : Option Nat) (f : Frame) (yellow : Bool) :
    (Dev.broadcast d inLane f yellow).sram = d.sram := by
  simp only [Dev.broadcast, Dev.deliver_sram, Dev.sendOn_sram, Dev.drop_sram, each_sram, toLive_ite, sram_ite, ite_self, implies_true]

theorem Dev.route_sram (d : Dev) (inLane : Option Nat) (f : Frame) (yellow : Bool) :
    (Dev.route d inLane f yellow).sram = d.sram := by
  (simp only [Dev.route]; (repeat' split) <;> first | with_reducible rfl | simp only [Dev.deliver_sram, Dev.sendOn_sram, Dev.drop_sram, Dev.broadcast_sram])

theorem Dev.nextSeq_sram (d : Dev) : (Dev.nextSeq d).sram = d.sram := by
  simp only [Dev.nextSeq]

theorem Dev.originate_sram (d : Dev) (cls typ dest : Nat) (plane : Option Bool) (poison : Bool) (payload : List Byte) :
    (Dev.originate d cls typ dest plane poison payload).sram = d.sram := by
  simp only [Dev.originate, Dev.route_sram, Dev.nextSeq_sram]

theorem Dev.sendLocal_sram (d : Dev) (l cls typ dest : Nat) (poison : Bool) (payload : List Byte) : (Dev.sendLocal d l cls typ dest poison payload).sram = d.sram := by
  simp only [Dev.sendLocal, Dev.letIn_sram, Dev.nextSeq_sram, toLive_ite, sram_ite, snd_ite, ite_self, implies_true]

theorem Dev.take_sram (d : Dev) (l typ : Nat) : (Dev.take d l typ).sram = d.sram := by
  simp only [Dev.take]

theorem Dev.takeAny_sram (d : Dev) (typ : Nat) : (Dev.takeAny d typ).sram = d.sram := by
  simp only [Dev.takeAny]

theorem Dev.meterFrame_sram (d : Dev) (f : Frame) : (Dev.meterFrame d f).2.sram = d.sram := by
  simp only [Dev.meterFrame, toLive_ite, sram_ite, snd_ite, ite_self]

/-! ## Events -/

theorem Dev.stopLoop_sram (d : Dev) (cause : Nat) : (Dev.stopLoop d cause).sram = d.sram := by
  simp only [Dev.stopLoop]

theorem Dev.holdOutputs_sram (d : Dev) : (Dev.holdOutputs d).sram = d.sram := by
  simp only [Dev.holdOutputs]

theorem Dev.declareFault_sram (d : Dev) (n : Nat) : (Dev.declareFault d n).sram = d.sram := by
  simp only [Dev.declareFault, Dev.raise_sram, Dev.stopLoop_sram, Dev.holdOutputs_sram]

theorem Dev.releaseHold_sram (d : Dev) (held : Bool) : (Dev.releaseHold d held).sram = d.sram := by
  simp only [Dev.releaseHold, toLive_ite, sram_ite, ite_self]

theorem deviceRestart_sram (v : Nat) (d : Dev) : (deviceRestart v d).2.sram = d.sram := by
  simp only [deviceRestart, Dev.releaseHold_sram, toLive_ite, sram_ite, snd_ite, ite_self]

theorem refclkLoss_sram (which : Bool) (d : Dev) : (refclkLoss which d).sram = d.sram := by
  simp only [refclkLoss, Dev.raiseIf_sram, Dev.declareFault_sram, toLive_ite, sram_ite, ite_self]

theorem timebasePllUnlock_sram (d : Dev) : (timebasePllUnlock d).sram = d.sram := by
  simp only [timebasePllUnlock, Dev.declareFault_sram]

theorem eventSummary_sram (d : Dev) : (eventSummary d).sram = d.sram := by
  simp only [eventSummary, Dev.post_sram, each_sram, implies_true]

theorem Dev.sendEvents_sram (d : Dev) (dest n : Nat) (l : List EventRec) : (d.sendEvents dest n l).sram = d.sram := by
  induction n generalizing d l with
  | zero => rfl
  | succ n ih => cases l with
    | nil => rfl
    | cons a l => simp only [Dev.sendEvents, ih, Dev.originate_sram]

theorem eventSend_sram (d : Dev) : (eventSend d).sram = d.sram := by
  unfold eventSend
  simp only [toLive_ite, sram_ite, Dev.sendEvents_sram, ite_self]

theorem Dev.setFlash_sram (d : Dev) (f : Flash → Flash) : (Dev.setFlash d f).sram = d.sram := by
  simp only [Dev.setFlash]

theorem faultLogCopy_sram (d : Dev) : (faultLogCopy d).sram = d.sram := by
  simp only [faultLogCopy, Dev.setFlash_sram]

theorem eventReadIndexWrite_sram (v : BitVec 16) (d : Dev) : (eventReadIndexWrite v d).2.sram = d.sram := by
  simp only [eventReadIndexWrite, toLive_ite, sram_ite, snd_ite, ite_self]

theorem faultLogClear_sram (v : Nat) (d : Dev) : (faultLogClear v d).2.sram = d.sram := by
  simp only [faultLogClear, Dev.setFlash_sram, toLive_ite, sram_ite, snd_ite, ite_self]

theorem faultAck_sram (v : Nat) (d : Dev) : (faultAck v d).2.sram = d.sram := by
  simp only [faultAck, toLive_ite, sram_ite, snd_ite, ite_self]

/-! ## Thermal -/

theorem Dev.judgeSensor_sram (d : Dev) (sample : List (Option Int)) (s : Nat) :
    (Dev.judgeSensor d sample s).sram = d.sram := by
  (simp only [Dev.judgeSensor]; (repeat' split) <;> first | with_reducible rfl | simp only [Dev.raise_sram, Dev.setTherm_sram])

theorem Dev.levelEvents_sram (d : Dev) (old new : Nat) : (Dev.levelEvents d old new).sram = d.sram := by
  simp only [Dev.levelEvents, Dev.raise_sram, Dev.raiseIf_sram, iter_sram, toLive_ite, sram_ite, ite_self, implies_true]

theorem Dev.shutDown_sram (d : Dev) : (Dev.shutDown d).sram = d.sram := by
  simp only [Dev.shutDown, Dev.stopLoop_sram, Dev.holdOutputs_sram]

theorem Dev.thermalJudge_sram (d : Dev) (sample : List (Option Int)) : (Dev.thermalJudge d sample).sram = d.sram := by
  simp only [Dev.thermalJudge, Dev.setTherm_sram, Dev.levelEvents_sram, Dev.shutDown_sram, toLive_ite, sram_ite, ite_self]

theorem dieSensorSample_sram (sample : List (Option Int)) (d : Dev) : (dieSensorSample sample d).sram = d.sram := by
  simp only [dieSensorSample, Dev.setTherm_sram, Dev.judgeSensor_sram, Dev.thermalJudge_sram, iter_sram, implies_true]

theorem Dev.throttleTick_sram (d : Dev) : (Dev.throttleTick d).sram = d.sram := by
  simp only [Dev.throttleTick, Dev.setTherm_sram]

theorem thermalRestart_sram (v : Nat) (d : Dev) : (thermalRestart v d).2.sram = d.sram := by
  simp only [thermalRestart, Dev.raise_sram, Dev.releaseHold_sram, Dev.setTherm_sram, toLive_ite, sram_ite, snd_ite, ite_self]

theorem Dev.judgeZone_sram (d : Dev) (z : Nat) : (Dev.judgeZone d z).sram = d.sram := by
  simp only [Dev.judgeZone, Dev.raiseIf_sram, Dev.setTherm_sram]

theorem zoneWarnWrite_sram (v : Int) (d : Dev) : (zoneWarnWrite v d).2.sram = d.sram := by
  simp only [zoneWarnWrite, toLive_ite, sram_ite, snd_ite, ite_self]

theorem zoneHighWrite_sram (v : Int) (d : Dev) : (zoneHighWrite v d).2.sram = d.sram := by
  simp only [zoneHighWrite, toLive_ite, sram_ite, snd_ite, ite_self]

/-! ## Supply -/

theorem Dev.setRail_sram (d : Dev) (r v : Nat) : (Dev.setRail d r v).sram = d.sram := by
  simp only [Dev.setRail, Dev.setTherm_sram]

theorem railOutOfRange_sram (r : Nat) (d : Dev) : (railOutOfRange r d).sram = d.sram := by
  simp only [railOutOfRange, Dev.raise_sram, Dev.setRail_sram, toLive_ite, sram_ite, ite_self]

theorem railFault_sram (r : Nat) (d : Dev) : (railFault r d).sram = d.sram := by
  simp only [railFault, Dev.raise_sram, Dev.declareFault_sram, Dev.setRail_sram, toLive_ite, sram_ite, ite_self]

theorem railRecovered_sram (r : Nat) (d : Dev) : (railRecovered r d).sram = d.sram := by
  simp only [railRecovered, Dev.setRail_sram]

theorem Dev.setPump_sram (d : Dev) (p v : Nat) : (Dev.setPump d p v).sram = d.sram := by
  simp only [Dev.setPump, Dev.setTherm_sram]

theorem pumpFault_sram (p : Nat) (d : Dev) : (pumpFault p d).sram = d.sram := by
  simp only [pumpFault, Dev.raise_sram, Dev.setPump_sram, toLive_ite, sram_ite, ite_self]

theorem pumpRestart_sram (p : Nat) (d : Dev) : (pumpRestart p d).sram = d.sram := by
  simp only [pumpRestart, Dev.setPump_sram, toLive_ite, sram_ite, ite_self]

theorem pumpRegulating_sram (p : Nat) (d : Dev) : (pumpRegulating p d).sram = d.sram := by
  simp only [pumpRegulating, Dev.setPump_sram, toLive_ite, sram_ite, ite_self]

theorem Dev.publishSupply_sram (d : Dev) (pos : Nat) : (Dev.publishSupply d pos).sram = d.sram := by
  (simp only [Dev.publishSupply]; (repeat' split) <;> first | with_reducible rfl | simp only [Dev.setTherm_sram])

theorem Dev.estimatePower_sram (d : Dev) : (Dev.estimatePower d).sram = d.sram := by
  simp only [Dev.estimatePower, Dev.setTherm_sram]

/-! ## ArrayIf -/

theorem Dev.putLoad_sram (d : Dev) (monitor : Bool) (c v : Nat) : (Dev.putLoad d monitor c v).sram = d.sram := by
  simp only [Dev.putLoad, Dev.raiseIf_sram, Dev.setArr_sram, toLive_ite, sram_ite, ite_self]

theorem Dev.putRatio_sram (d : Dev) (g : Nat) : (Dev.putRatio d g).sram = d.sram := by
  simp only [Dev.putRatio, Dev.raiseIf_sram, Dev.setArr_sram]

theorem loadMeasure_sram (v : Nat) (drive monitor : List Nat) (d : Dev) :
    (loadMeasure v drive monitor d).2.sram = d.sram := by
  simp only [loadMeasure, Dev.putLoad_sram, Dev.putRatio_sram, iter_sram, toLive_ite, sram_ite, snd_ite, ite_self, implies_true]

theorem towerWiredWrite_sram (v : Bool) (d : Dev) : (towerWiredWrite v d).2.sram = d.sram := by
  simp only [towerWiredWrite, Dev.setArrCfg_sram, toLive_ite, sram_ite, snd_ite, ite_self]

theorem Dev.markMate_sram (d : Dev) (b : Bool) : (Dev.markMate d b).sram = d.sram := by
  simp only [Dev.markMate, toLive_ite, sram_ite, snd_ite, ite_self, implies_true]

theorem Dev.wiredTick_sram (d : Dev) : (Dev.wiredTick d).sram = d.sram := by
  simp only [Dev.wiredTick, Dev.markMate_sram, Dev.setArr_sram, toLive_ite, sram_ite, snd_ite, ite_self, implies_true]

theorem mateMissing_sram (d : Dev) : (mateMissing d).sram = d.sram := by
  simp only [mateMissing, Dev.raise_sram, Dev.setArr_sram, toLive_ite, sram_ite, ite_self]

theorem dcolEnableWrite_sram (b : List Byte) (d : Dev) : (dcolEnableWrite b d).2.sram = d.sram := by
  simp only [dcolEnableWrite, Dev.setArrCfg_sram, toLive_ite, sram_ite, snd_ite, ite_self]

theorem mcolEnableWrite_sram (b : List Byte) (d : Dev) : (mcolEnableWrite b d).2.sram = d.sram := by
  simp only [mcolEnableWrite, Dev.setArrCfg_sram, toLive_ite, sram_ite, snd_ite, ite_self]

theorem zoneNomResWrite_sram (z v : Nat) (d : Dev) : (zoneNomResWrite z v d).2.sram = d.sram := by
  simp only [zoneNomResWrite, Dev.setArrCfg_sram, toLive_ite, sram_ite, snd_ite, ite_self]

theorem zoneBetaWrite_sram (z v : Nat) (d : Dev) : (zoneBetaWrite z v d).2.sram = d.sram := by
  simp only [zoneBetaWrite, Dev.setArrCfg_sram, toLive_ite, sram_ite, snd_ite, ite_self]

theorem zoneFallbackWrite_sram (z v : Nat) (d : Dev) : (zoneFallbackWrite z v d).2.sram = d.sram := by
  simp only [zoneFallbackWrite, Dev.setArrCfg_sram, toLive_ite, sram_ite, snd_ite, ite_self]

theorem Dev.zoneTemps_sram (d : Dev) : (Dev.zoneTemps d).sram = d.sram := by
  simp only [Dev.zoneTemps, Dev.judgeZone_sram, Dev.setArr_sram, iter_sram, toLive_ite, sram_ite, ite_self, implies_true]

theorem Dev.zoneSample_sram (d : Dev) (z code : Nat) : (Dev.zoneSample d z code).sram = d.sram := by
  simp only [Dev.zoneSample, Dev.raiseIf_sram, Dev.setArr_sram, Dev.zoneTemps_sram, toLive_ite, sram_ite, ite_self]

theorem Dev.auxReference_sram (d : Dev) (code : Nat) : (Dev.auxReference d code).sram = d.sram := by
  simp only [Dev.auxReference, iter_sram, Dev.judgeZone_sram, Dev.raise_sram, Dev.setArr_sram, toLive_ite, sram_ite, snd_ite, ite_self, implies_true]

theorem auxPosition_sram (code : Nat) (d : Dev) : (auxPosition code d).sram = d.sram := by
  simp only [auxPosition, Dev.publishSupply_sram, Dev.estimatePower_sram, Dev.zoneSample_sram, Dev.auxReference_sram, toLive_ite, sram_ite, ite_self]

/-! ## BoardSpi -/

theorem Dev.setBspi_sram (d : Dev) (f : BoardSpi → BoardSpi) : (Dev.setBspi d f).sram = d.sram := by
  simp only [Dev.setBspi]

theorem bspiWriteRequest_sram (length : Nat) (body : List Byte) (d : Dev) :
    (bspiWriteRequest length body d).sram = d.sram := by
  simp only [bspiWriteRequest, Dev.setBspi_sram, toLive_ite, sram_ite, ite_self]

theorem bspiReadStatus_sram (d : Dev) : (bspiReadStatus d).sram = d.sram := by
  simp only [bspiReadStatus, Dev.setBspi_sram, toLive_ite, sram_ite, ite_self]

theorem bspiReadResponse_sram (d : Dev) : (bspiReadResponse d).sram = d.sram := by
  simp only [bspiReadResponse, Dev.setBspi_sram, toLive_ite, sram_ite, ite_self]

theorem bspiCsAbort_sram (shortWrite : Bool) (d : Dev) : (bspiCsAbort shortWrite d).sram = d.sram := by
  simp only [bspiCsAbort, Dev.setBspi_sram, toLive_ite, sram_ite, ite_self]

/-! ## Record -/

theorem Dev.putRec_sram_q (d : Dev) (e : Nat) (r : Rec) (h : d.sram.sound = true) :
    (Dev.putRec d e r).sram.sound = true := by
  simp +contextual only [Dev.putRec, Dev.mem_sram_q, implies_true, putWords_sound, h]

theorem Dev.modRec_sram_q (d : Dev) (e : Nat) (f : Rec → Rec) (h : d.sram.sound = true) :
    (Dev.modRec d e f).sram.sound = true := by
  simp +contextual only [Dev.modRec, Dev.mem_sram_q, implies_true, putKeptWords_sound, h]

theorem Dev.setElemField_sram_q (d : Dev) (e lo n v : Nat) (who : Finder) (h : d.sram.sound = true) : (d.setElemField e lo n v who).sram.sound = true := by
  exact mem_sound _ (putField_sound _ _ _) h

theorem Dev.setJump_sram_q (d : Dev) (e : Nat) (b : Bool) (who : Finder) (h : d.sram.sound = true) : (Dev.setJump d e b who).sram.sound = true := by
  simp +contextual only [Dev.setJump, Dev.setElemField_sram_q, toLive_ite, sram_ite, snd_ite, ite_self, sound_ite, implies_true, h]

theorem Dev.setSoft_sram_q (d : Dev) (e : Nat) (b : Bool) (h : d.sram.sound = true) : (Dev.setSoft d e b).sram.sound = true := by
  simp +contextual only [Dev.setSoft, Dev.setElemField_sram_q, toLive_ite, sram_ite, snd_ite, ite_self, sound_ite, implies_true, h]

theorem Dev.setCause_sram_q (d : Dev) (e n : Nat) (who : Finder) (h : d.sram.sound = true) : (Dev.setCause d e n who).sram.sound = true := by
  simp +contextual only [Dev.setCause, Dev.setElemField_sram_q, toLive_ite, sram_ite, snd_ite, ite_self, sound_ite, implies_true, h]

theorem Dev.setLast_sram (d : Dev) (site v : Nat) : (Dev.setLast d site v).sram = d.sram := by
  simp only [Dev.setLast]

/-! ## Paths -/

theorem Dev.putNext_sram_q (d : Dev) (off w : Nat) (h : d.sram.sound = true) : (Dev.putNext d off w).sram.sound = true := by
  simp +contextual only [Dev.putNext, Dev.mem_sram_q, implies_true, putWord_sound, h]

/-! ## Solver -/

theorem Dev.startSolve_sram (d : Dev) (strict : Bool) : (Dev.startSolve d strict).sram = d.sram := by
  simp only [Dev.startSolve, Dev.setSolve_sram]

theorem solveRequest_sram (strict : Bool) (d : Dev) : (solveRequest strict d).2.sram = d.sram := by
  simp only [solveRequest, Dev.setSolve_sram, Dev.startSolve_sram, toLive_ite, sram_ite, snd_ite, ite_self]

theorem solveStrict_sram (d : Dev) : (solveStrict d).2.sram = d.sram := by
  simp only [solveStrict, solveRequest_sram]

theorem solvePermissive_sram (d : Dev) : (solvePermissive d).2.sram = d.sram := by
  simp only [solvePermissive, solveRequest_sram]

theorem solveRequestWrite_sram (v : Nat) (d : Dev) : (solveRequestWrite v d).2.sram = d.sram := by
  simp only [solveRequestWrite, solveStrict_sram, solvePermissive_sram, toLive_ite, sram_ite, snd_ite, ite_self]

theorem Dev.putNextIf_sram_q (d : Dev) (off w : Nat) (h : d.sram.sound = true) :
    (Dev.putNextIf d off w).sram.sound = true := by
  simp +contextual only [Dev.putNextIf, Dev.putNext_sram_q, toLive_ite, sram_ite, ite_self, sound_ite, h]

theorem Dev.writeSolve_sram_q (d : Dev) (r : SolveRun) (h : d.sram.sound = true) : (d.writeSolve r).sram.sound = true :=
  each_sram_q _ _ _ (fun _ _ hx => Dev.putNextIf_sram_q _ _ _ hx) (iter_sram_q _ _ _ _ (fun _ _ hx => Dev.putNextIf_sram_q _ _ _ hx) h)

theorem solveDone_sram_q (time : Nat) (d : Dev) (h : d.sram.sound = true) : (solveDone time d).sram.sound = true := by
  (simp +contextual only [solveDone]; (repeat' split) <;> first | with_reducible rfl | (simp +contextual only [Dev.raise_sram, Dev.setSolve_sram, Dev.startSolve_sram, Dev.writeSolve_sram_q, h]))

theorem rawTargetWrite_sram_q (e : Nat) (b : List Byte) (d : Dev) (h : d.sram.sound = true) :
    (rawTargetWrite e b d).2.sram.sound = true := by
  simp +contextual only [rawTargetWrite, Dev.putNext_sram_q, toLive_ite, sram_ite, snd_ite, ite_self, sound_ite, h]

/-! ## Respond -/

theorem Dev.putWindow_sram (d : Dev) (w : ReqWindow) : (Dev.putWindow d w).sram = d.sram := by
  simp only [Dev.putWindow, Dev.setReq_sram]

theorem Dev.recordEntry_sram (d : Dev) (o : Outstanding) (status : Resp) (body : List Byte) :
    (Dev.recordEntry d o status body).sram = d.sram := by
  (simp only [Dev.recordEntry]; (repeat' split) <;> first | with_reducible rfl | simp only [Dev.setReq_sram, Dev.putWindow_sram])

theorem Dev.sendResponse_sram (d : Dev) (spi : Bool) (src cls : Nat) (planeB poison : Bool) (body : List Byte) :
    (Dev.sendResponse d spi src cls planeB poison body).sram = d.sram := by
  simp only [Dev.sendResponse, Dev.originate_sram, Dev.setBspi_sram, Dev.setReq_sram, toLive_ite, sram_ite, ite_self]

theorem Dev.countReq_sram (d : Dev) (i : Nat) : (Dev.countReq d i).sram = d.sram := by
  simp only [Dev.countReq, Dev.setReq_sram]

theorem Dev.answerFromCache_sram (d : Dev) (src cls : Nat) (planeB : Bool) (e : WinEntry) :
    (Dev.answerFromCache d src cls planeB e).sram = d.sram := by
  simp only [Dev.answerFromCache, Dev.sendResponse_sram, Dev.countReq_sram]

theorem Dev.finishRequest_sram (d : Dev) (o : Outstanding) : (Dev.finishRequest d o).sram = d.sram := by
  simp only [Dev.finishRequest, each_sram, Dev.answerFromCache_sram, Dev.recordEntry_sram, Dev.sendResponse_sram, Dev.setBspi_sram, toLive_ite, sram_ite, snd_ite, ite_self, implies_true]

theorem Dev.answerWait_sram (d : Dev) (w : WaitFor) (code : Resp) : (Dev.answerWait d w code).sram = d.sram := by
  simp only [Dev.answerWait, Dev.setReq_sram, Dev.finishRequest_sram, each_sram, implies_true]

/-! ## LabelSample -/

theorem Dev.setChan_sram (d : Dev) (t j : Nat) (x : PairChan) : (Dev.setChan d t j x).sram = d.sram := by
  simp only [Dev.setChan, Dev.setDec_sram]

theorem Dev.labelPhases_sram (d : Dev) : (Dev.labelPhases d).sram = d.sram := by
  simp only [Dev.labelPhases, Dev.setDec_sram, iter_sram, toLive_ite, sram_ite, ite_self, implies_true]

theorem Dev.chanSample_sram (d : Dev) (t : Nat) (s : Int) (q back : Nat) : (Dev.chanSample d t s q back).sram = d.sram := by
  simp only [Dev.chanSample, Dev.setDec_sram, Dev.setChan_sram, iter_sram, toLive_ite, sram_ite, ite_self, implies_true]

theorem Dev.labelSample_sram (d : Dev) (site : Nat) (s : Int) (cycle tick : Nat) :
    (Dev.labelSample d site s cycle tick).sram = d.sram := by
  simp only [Dev.labelSample, Dev.chanSample_sram, iter_sram, toLive_ite, sram_ite, ite_self, implies_true]

/-! ## LabelTable -/

theorem Dev.putLabel_sram_q (d : Dev) (p : Nat) (e : LabelEntry) (h : d.sram.sound = true) :
    (Dev.putLabel d p e).sram.sound = true := by
  simp +contextual only [Dev.putLabel, Dev.mem_sram_q, implies_true, putWord_sound, h]

theorem Dev.clearLabel_sram_q (d : Dev) (p : Nat) (h : d.sram.sound = true) : (Dev.clearLabel d p).sram.sound = true := by
  simp +contextual only [Dev.clearLabel, Dev.putLabel_sram_q, h]

theorem Dev.pushLearn_sram (d : Dev) (b : List Byte) : (Dev.pushLearn d b).sram = d.sram := by
  simp only [Dev.pushLearn, Dev.raiseIf_sram, Dev.setDec_sram, toLive_ite, sram_ite, ite_self]

theorem learnReadIndexWrite_sram (v : BitVec 16) (d : Dev) : (learnReadIndexWrite v d).2.sram = d.sram := by
  simp only [learnReadIndexWrite, Dev.setDecCfg_sram, toLive_ite, sram_ite, snd_ite, ite_self]

theorem Dev.runInsert_sram_q (d : Dev) (c : LabelCmd) (h : d.sram.sound = true) :
    (Dev.runInsert d c).2.sram.sound = true := by
  (simp +contextual only [Dev.runInsert, toLive_ite, sram_ite, snd_ite, sound_ite, h]; (repeat' split) <;> first | with_reducible rfl | (simp +contextual only [Dev.putLabel_sram_q, h]))

theorem Dev.runDelete_sram_q (d : Dev) (c : LabelCmd) (h : d.sram.sound = true) :
    (Dev.runDelete d c).2.sram.sound = true := by
  (simp +contextual only [Dev.runDelete, toLive_ite, sram_ite, snd_ite, sound_ite, h]; (repeat' split) <;> first | with_reducible rfl | (simp +contextual only [Dev.clearLabel_sram_q, h]))

theorem Dev.runSearch_sram (d : Dev) (c : LabelCmd) : (Dev.runSearch d c).2.sram = d.sram := by
  (simp only [Dev.runSearch, toLive_ite, sram_ite, snd_ite]; (repeat' split) <;> with_reducible rfl)

theorem Dev.runNext_sram (d : Dev) (c : LabelCmd) : (Dev.runNext d c).2.sram = d.sram := by
  (simp only [Dev.runNext, toLive_ite, sram_ite, snd_ite]; (repeat' split) <;> with_reducible rfl)

theorem Dev.putResult80_sram (d : Dev) (c : LabelCmd) (o : LabelOut) : (Dev.putResult80 d c o).sram = d.sram := by
  simp only [Dev.putResult80, Dev.setLab_sram]

theorem Dev.completeLabel_sram (d : Dev) (c : LabelCmd) (origin : CmdOrigin) (o : LabelOut) :
    (Dev.completeLabel d c origin o).sram = d.sram := by
  (simp only [Dev.completeLabel, toLive_ite]; (repeat' split) <;> first | with_reducible rfl | simp only [Dev.reply_sram, Dev.answerWait_sram, Dev.setLab_sram, Dev.pushLearn_sram, Dev.putResult80_sram])

theorem Dev.flushStep_sram_q (d : Dev) (c : LabelCmd) (origin : CmdOrigin) (k n : Nat) (h : d.sram.sound = true) :
    (Dev.flushStep d c origin k n).sram.sound = true := by
  simp +contextual only [Dev.flushStep, Dev.setLab_sram, Dev.clearLabel_sram_q, each_sram_q, implies_true, h]

theorem Dev.labelStep_sram_q (d : Dev) (h : d.sram.sound = true) : (Dev.labelStep d).sram.sound = true := by
  (simp +contextual only [Dev.labelStep, toLive_ite, sram_ite, sound_ite, h]; (repeat' split) <;> first | with_reducible rfl | (simp +contextual only [Dev.setLab_sram, Dev.runSearch_sram, Dev.runNext_sram, Dev.completeLabel_sram, Dev.runInsert_sram_q, Dev.runDelete_sram_q, Dev.flushStep_sram_q, h]))

theorem Dev.queueLabel_sram (d : Dev) (c : LabelCmd) (o : CmdOrigin) : (Dev.queueLabel d c o).sram = d.sram := by
  simp only [Dev.queueLabel, Dev.setLab_sram, toLive_ite, sram_ite, snd_ite, ite_self, implies_true]

theorem Dev.acceptLabel_sram_q (d : Dev) (c : LabelCmd) (o : CmdOrigin) (h : d.sram.sound = true) : (Dev.acceptLabel d c o).sram.sound = true := by
  simp +contextual only [Dev.acceptLabel, Dev.labelStep_sram_q, Dev.queueLabel_sram, toLive_ite, sram_ite, snd_ite, ite_self, sound_ite, implies_true, h]

theorem Dev.submitLabel_sram_q (d : Dev) (c : LabelCmd) (ops : List Nat) (h : d.sram.sound = true) :
    (Dev.submitLabel d c ops).2.sram.sound = true := by
  simp +contextual only [Dev.submitLabel, Dev.setLab_sram, Dev.acceptLabel_sram_q, toLive_ite, sram_ite, snd_ite, ite_self, sound_ite, h]

theorem Dev.labelCommand_sram_q (d : Dev) (c : LabelCmd) (ops : List Nat) (h0 : d.sram.sound = true) : (d.labelCommand c ops).sram.sound = true := by
  have h := Dev.submitLabel_sram_q d c ops h0
  unfold Dev.labelCommand
  generalize d.submitLabel c ops = p at h ⊢
  rcases p with ⟨_ | _, x⟩ <;> simpa only [Dev.reply_sram] using h

theorem labelInsert_sram_q (c : LabelCmd) (d : Dev) (h : d.sram.sound = true) : (labelInsert c d).sram.sound = true := by
  simp +contextual only [labelInsert, Dev.labelCommand_sram_q, h]

theorem labelDelete_sram_q (c : LabelCmd) (d : Dev) (h : d.sram.sound = true) : (labelDelete c d).sram.sound = true := by
  simp +contextual only [labelDelete, Dev.labelCommand_sram_q, h]

theorem labelSearch_sram_q (c : LabelCmd) (d : Dev) (h : d.sram.sound = true) : (labelSearch c d).sram.sound = true := by
  simp +contextual only [labelSearch, Dev.labelCommand_sram_q, h]

theorem labelNext_sram_q (c : LabelCmd) (d : Dev) (h : d.sram.sound = true) : (labelNext c d).sram.sound = true := by
  simp +contextual only [labelNext, Dev.labelCommand_sram_q, h]

theorem flushByPort_sram_q (c : LabelCmd) (d : Dev) (h : d.sram.sound = true) : (flushByPort c d).sram.sound = true := by
  simp +contextual only [flushByPort, Dev.labelCommand_sram_q, h]

theorem flushByPortDone_sram (d : Dev) : (flushByPortDone d).sram = d.sram := by
  (simp only [flushByPortDone]; (repeat' split) <;> first | with_reducible rfl | simp only [Dev.setLab_sram, Dev.completeLabel_sram])

theorem Dev.refreshSeen_sram_q (d : Dev) (key level : Nat) (h : d.sram.sound = true) :
    (Dev.refreshSeen d key level).sram.sound = true := by
  (simp +contextual only [Dev.refreshSeen]; (repeat' split) <;> first | with_reducible rfl | (simp +contextual only [Dev.putLabel_sram_q, h]))

theorem Dev.ageOne_sram_q (d : Dev) (p : Nat) (h : d.sram.sound = true) : (Dev.ageOne d p).sram.sound = true := by
  simp +contextual only [Dev.ageOne, Dev.setLab_sram, Dev.putLabel_sram_q, Dev.clearLabel_sram_q, toLive_ite, sram_ite, ite_self, sound_ite, h]

theorem Dev.sweepStep_sram_q (d : Dev) (h : d.sram.sound = true) : (Dev.sweepStep d).sram.sound = true := by
  (simp +contextual only [Dev.sweepStep]; (repeat' split) <;> first | with_reducible rfl | (simp +contextual only [Dev.setLab_sram, Dev.ageOne_sram_q, each_sram_q, implies_true, h]))

theorem Dev.labelTick_sram_q (d : Dev) (h : d.sram.sound = true) : (Dev.labelTick d).sram.sound = true := by
  simp +contextual only [Dev.labelTick, Dev.setLab_sram, Dev.labelStep_sram_q, Dev.sweepStep_sram_q, h]

theorem agingPassStart_sram (d : Dev) : (agingPassStart d).sram = d.sram := by
  simp only [agingPassStart, Dev.setLab_sram, toLive_ite, sram_ite, ite_self]

theorem ageTimeWrite_sram (v : Nat) (d : Dev) : (ageTimeWrite v d).2.sram = d.sram := by
  simp only [ageTimeWrite, toLive_ite, sram_ite, snd_ite, ite_self]

theorem Dev.hitAll_sram_q (d : Dev) (h : d.sram.sound = true) : (Dev.hitAll d).sram.sound = true := by
  simp +contextual only [Dev.hitAll, Dev.putLabel_sram_q, each_sram_q, implies_true, h]

theorem Dev.dropPorts_sram_q (d : Dev) (n : Nat) (h : d.sram.sound = true) : (Dev.dropPorts d n).sram.sound = true := by
  simp +contextual only [Dev.dropPorts, Dev.clearLabel_sram_q, each_sram_q, implies_true, h]

/-! ## Circuit -/

theorem Dev.nextGen_sram (d : Dev) : (Dev.nextGen d).sram = d.sram := by
  simp only [Dev.nextGen, Dev.setCirc_sram]

theorem Dev.putEntry_sram_q (d : Dev) (k : Nat) (c : Circ) (h : d.sram.sound = true) :
    (Dev.putEntry d k c).sram.sound = true := by
  simp +contextual only [Dev.putEntry, Dev.putNextIf_sram_q, h]

theorem Dev.setVerState_sram (d : Dev) (k : Nat) (x : VerState) : (Dev.setVerState d k x).sram = d.sram := by
  simp only [Dev.setVerState, Dev.setVer_sram]

theorem Dev.verifyDone_sram (d : Dev) : (Dev.verifyDone d).sram = d.sram := by
  simp only [Dev.verifyDone, Dev.raise_sram, Dev.setVer_sram, each_sram, implies_true]

theorem Dev.verifySeen_sram (d : Dev) (k : Nat) (c : Circ) (key : BitVec 24) (start stop : Nat) :
    (Dev.verifySeen d k c key start stop).sram = d.sram := by
  simp only [Dev.verifySeen, Dev.raiseIf_sram, Dev.setVer_sram, Dev.setVerState_sram, Dev.verifyDone_sram, toLive_ite, sram_ite, ite_self]

theorem Dev.verifyDecode_sram (d : Dev) (p : Nat) (key : BitVec 24) (start stop : Nat) :
    (Dev.verifyDecode d p key start stop).sram = d.sram := by
  simp only [Dev.verifyDecode, Dev.verifySeen_sram, each_sram, implies_true]

theorem Dev.setBucket_sram (d : Dev) (x : Nat) (b : Int) : (Dev.setBucket d x b).sram = d.sram := by
  simp only [Dev.setBucket]

theorem Dev.noteDelayReq_sram (d : Dev) (l : Nat) (f : Frame) : (Dev.noteDelayReq d l f).sram = d.sram := by
  (simp only [Dev.noteDelayReq]; (repeat' split) <;> first | with_reducible rfl | simp only [implies_true])

theorem Dev.start_sram (d : Dev) (l c : Nat) (x : Lane) : (Dev.start d l c x).sram = d.sram := by
  (simp only [Dev.start]; (repeat' split) <;> first | with_reducible rfl | simp only [Dev.countLane_sram, Dev.countQueue_sram, Dev.noteDelayReq_sram, Dev.setBucket_sram, Dev.setLane_sram, implies_true])

theorem Dev.notify_sram_q (d : Dev) (kind pair port : Nat) (key : BitVec 24) (level other start : Nat) (h : d.sram.sound = true) : (Dev.notify d kind pair port key level other start).sram.sound = true := by
  unfold Dev.notify
  dsimp only
  (repeat' split) <;> first | exact h | (simp +contextual only [Dev.pushLearn_sram, Dev.queueLabel_sram, Dev.setDec_sram, Dev.start_sram, toLive_ite, sram_ite, snd_ite, ite_self, sound_ite, implies_true, h])

theorem Dev.sight_sram_q (d : Dev) (p j : Nat) (c : CurLabel) (h : d.sram.sound = true) :
    (Dev.sight d p j c).sram.sound = true := by
  simp +contextual only [Dev.sight, Dev.setChan_sram, Dev.refreshSeen_sram_q, Dev.notify_sram_q, toLive_ite, sram_ite, ite_self, sound_ite, h]

theorem Dev.goodDecode_sram_q (d : Dev) (t j : Nat) (key : BitVec 24) (level start stop : Nat) (h : d.sram.sound = true) :
    (Dev.goodDecode d t j key level start stop).sram.sound = true := by
  (simp +contextual only [Dev.goodDecode, Dev.setChan_sram, Dev.verifyDecode_sram, toLive_ite, sram_ite, sound_ite, h]; (repeat' split) <;> first | with_reducible rfl | (simp +contextual only [Dev.setChan_sram, Dev.sight_sram_q, h]))

theorem Dev.endDecode_sram_q (d : Dev) (t j : Nat) (x : Decode) (stop : Nat) (h : d.sram.sound = true) :
    (Dev.endDecode d t j x stop).sram.sound = true := by
  (simp +contextual only [Dev.endDecode]; (repeat' split) <;> first | with_reducible rfl | (simp +contextual only [Dev.setDec_sram, Dev.goodDecode_sram_q, h]))

theorem Dev.quarterOne_sram_q (d : Dev) (q t j : Nat) (h : d.sram.sound = true) :
    (Dev.quarterOne d q t j).sram.sound = true := by
  (simp +contextual only [Dev.quarterOne, toLive_ite, sram_ite, sound_ite]; (repeat' split) <;> first | with_reducible rfl | (simp +contextual only [Dev.setChan_sram, Dev.endDecode_sram_q, h]))

theorem quarterBit_sram_q (d : Dev) (h : d.sram.sound = true) : (quarterBit d).sram.sound = true := by
  have h1 : ∀ q t (x : Dev), x.sram.sound = true →
      (iter (fun j d => if d.pairActive j then d.quarterOne q t j else d) 8 0 x).sram.sound = true := by
    intro q t x hx
    refine iter_sram_q _ _ _ _ (fun i y hy => ?_) hx
    beta_reduce
    split
    · exact Dev.quarterOne_sram_q _ _ _ _ hy
    · exact hy
  have h2 : ∀ q n, (iter (fun t d => if (d.tapOf t).isSome then
      iter (fun j d => if d.pairActive j then d.quarterOne q t j else d) 8 0 d else d) n 0 d).sram.sound = true := by
    intro q n
    refine iter_sram_q _ _ _ _ (fun t x hx => ?_) h
    have h3 := h1 q t x hx
    generalize iter (fun j d => if d.pairActive j then d.quarterOne q t j else d) 8 0 x = y at h3 ⊢
    split
    · exact h3
    · exact hx
  unfold quarterBit
  dsimp only
  split
  · exact h
  · exact Dev.labelStep_sram_q _ (by rw [Dev.setDec_sram]; exact h2 _ _)

theorem Dev.beforeResolution_sram_q (d : Dev) (h : d.sram.sound = true) : (Dev.beforeResolution d).sram.sound = true := by
  simp +contextual only [Dev.beforeResolution, Dev.labelStep_sram_q, Dev.setLab_sram, quarterBit_sram_q, toLive_ite, sram_ite, snd_ite, ite_self, sound_ite, implies_true, h]

theorem circuitNextWrite_sram_q (k : Nat) (b : List Byte) (d : Dev) (h : d.sram.sound = true) : (circuitNextWrite k b d).2.sram.sound = true := by
  (simp +contextual only [circuitNextWrite]; (repeat' split) <;> first | with_reducible rfl | (simp +contextual only [Dev.beforeResolution_sram_q, Dev.nextGen_sram, Dev.putEntry_sram_q, implies_true, h]))

theorem circuitBatch_sram_q (b : List Byte) (d : Dev) (h : d.sram.sound = true) :
    (circuitBatch b d).2.sram.sound = true := by
  have h1 : ∀ c : Bool, (if c then d.beforeResolution else d).sram.sound = true := by
    intro c
    split
    · exact Dev.beforeResolution_sram_q d h
    · exact h
  unfold circuitBatch
  dsimp only
  split
  · exact h
  · have h2 := h1 ((batchItems (field b 0 1) (b.drop 1)).any (fun p => (circOf p.2).byLabel))
    generalize (if ((batchItems (field b 0 1) (b.drop 1)).any (fun p => (circOf p.2).byLabel)) = true then d.beforeResolution else d) = x at h2 ⊢
    split
    · simpa only [Dev.setCirc_sram] using h2
    · dsimp only
      split <;> simp +contextual only [Dev.nextGen_sram, Dev.putEntry_sram_q, each_sram_q, implies_true, h2]

theorem nextResetCopy_sram (d : Dev) : (nextResetCopy d).2.sram = d.sram := by
  simp only [nextResetCopy, Dev.setCirc_sram, Dev.nextGen_sram, toLive_ite, sram_ite, snd_ite, ite_self]

theorem nextResetClear_sram_q (d : Dev) (h : d.sram.sound = true) : (nextResetClear d).2.sram.sound = true := by
  simp +contextual only [nextResetClear, Dev.nextGen_sram, Dev.putEntry_sram_q, each_sram_q, toLive_ite, sram_ite, snd_ite, ite_self, implies_true, sound_ite, h]

theorem nextResetWrite_sram_q (v : Nat) (d : Dev) (h : d.sram.sound = true) : (nextResetWrite v d).2.sram.sound = true := by
  (simp +contextual only [nextResetWrite]; (repeat' split) <;> first | with_reducible rfl | (simp +contextual only [nextResetCopy_sram, nextResetClear_sram_q, h]))

theorem Dev.rawAtten_sram_q (d : Dev) (p : Nat) (h : d.sram.sound = true) : (Dev.rawAtten d p).sram.sound = true := by
  simp +contextual only [Dev.rawAtten, Dev.putNextIf_sram_q, toLive_ite, sram_ite, ite_self, sound_ite, h]

theorem portAttenWrite_sram_q (p : Nat) (b : List Byte) (d : Dev) (h : d.sram.sound = true) :
    (portAttenWrite p b d).2.sram.sound = true := by
  simp +contextual only [portAttenWrite, Dev.nextGen_sram, Dev.rawAtten_sram_q, toLive_ite, sram_ite, snd_ite, ite_self, sound_ite, h]

/-! ## Drive -/

theorem Dev.repeatCode_sram (d : Dev) (site c : Nat) (env : SlotEnv) : (Dev.repeatCode d site c env).2.sram = d.sram := by
  (simp only [Dev.repeatCode, Dev.raise_sram, Dev.setLast_sram, Dev.setDrv_sram, toLive_ite, sram_ite, snd_ite, ite_self]; (repeat' split) <;> first | with_reducible rfl | simp only [Dev.draw_sram])

theorem Dev.driveColumn_sram (d : Dev) (j row : Nat) (env : SlotEnv) (c : Nat) :
    (Dev.driveColumn d j row env c).sram = d.sram := by
  simp only [Dev.driveColumn, Dev.raise_sram, Dev.setLast_sram, Dev.setDrv_sram, Dev.repeatCode_sram, toLive_ite, sram_ite, ite_self]

theorem Dev.driveSlot_sram (d : Dev) (j : Nat) (env : SlotEnv) : (Dev.driveSlot d j env).sram = d.sram := by
  simp only [Dev.driveSlot, each_sram, Dev.driveColumn_sram, Dev.setDrv_sram, toLive_ite, sram_ite, snd_ite, ite_self, implies_true]

theorem Dev.lateWrites_sram (d : Dev) : (Dev.lateWrites d).sram = d.sram := by
  simp only [Dev.lateWrites, each_sram, Dev.raise_sram, Dev.setDrv_sram, toLive_ite, sram_ite, snd_ite, ite_self, implies_true]

theorem Dev.queueCode_sram (d : Dev) (c j code : Nat) (poison : Bool) : (Dev.queueCode d c j code poison).sram = d.sram := by
  simp only [Dev.queueCode, Dev.setDrv_sram]

theorem Dev.swapPages_sram (d : Dev) : (Dev.swapPages d).sram = d.sram := by
  simp only [Dev.swapPages, Dev.setDrv_sram]

theorem Dev.contentionSlot_sram (d : Dev) (env : SlotEnv) : (Dev.contentionSlot d env).sram = d.sram := by
  simp only [Dev.contentionSlot, Dev.raise_sram, Dev.setDrv_sram, each_sram, toLive_ite, sram_ite, ite_self, implies_true]

theorem Dev.addLineFault_sram (d : Dev) (cause line arg2 due : Nat) :
    (Dev.addLineFault d cause line arg2 due).sram = d.sram := by
  simp only [Dev.addLineFault, Dev.setLoop_sram]

theorem Dev.invalidColumn_sram (d : Dev) (c cycles : Nat) : (Dev.invalidColumn d c cycles).sram = d.sram := by
  simp only [Dev.invalidColumn]

theorem Dev.returnColumn_sram (d : Dev) (g : Nat) : (Dev.returnColumn d g).sram = d.sram := by
  (simp only [Dev.returnColumn]; (repeat' split) <;> first | with_reducible rfl | simp only [Dev.setDrv_sram, Dev.invalidColumn_sram])

theorem Dev.moveColumn_sram (d : Dev) (c : Nat) : (Dev.moveColumn d c).sram = d.sram := by
  simp only [Dev.moveColumn, Dev.setDrv_sram, Dev.invalidColumn_sram, Dev.returnColumn_sram]

theorem Dev.permanentSpare_sram (d : Dev) (c : Nat) : (Dev.permanentSpare d c).sram = d.sram := by
  simp only [Dev.permanentSpare, Dev.setDrv_sram, Dev.moveColumn_sram, toLive_ite, sram_ite, ite_self]

theorem Dev.actColumn_sram (d : Dev) (few : Bool) (c : Nat) : (Dev.actColumn d few c).sram = d.sram := by
  simp only [Dev.actColumn, Dev.addLineFault_sram, Dev.permanentSpare_sram, Dev.raise_sram, Dev.setDrv_sram, toLive_ite, sram_ite, snd_ite, ite_self, implies_true]

theorem Dev.actContention_sram (d : Dev) : (Dev.actContention d).sram = d.sram := by
  simp only [Dev.actContention, each_sram, Dev.actColumn_sram, Dev.declareFault_sram, Dev.raise_sram, Dev.setDrv_sram, toLive_ite, sram_ite, snd_ite, ite_self, implies_true]

theorem Dev.rowFail_sram (d : Dev) (n : Nat) : (Dev.rowFail d n).sram = d.sram := by
  simp only [Dev.rowFail, Dev.raise_sram, Dev.setDrv_sram, Dev.addLineFault_sram, toLive_ite, sram_ite, ite_self]

theorem Dev.rowSlot_sram (d : Dev) (j : Nat) (env : SlotEnv) : (Dev.rowSlot d j env).sram = d.sram := by
  simp only [Dev.rowSlot, Dev.setDrv_sram, Dev.rowFail_sram, each_sram, toLive_ite, sram_ite, ite_self, implies_true]

theorem Dev.rowTick_sram (d : Dev) : (Dev.rowTick d).sram = d.sram := by
  simp only [Dev.rowTick, Dev.setDrv_sram]

theorem rowFaultClear_sram (v : Nat) (d : Dev) : (rowFaultClear v d).2.sram = d.sram := by
  simp only [rowFaultClear, Dev.setDrv_sram, toLive_ite, sram_ite, snd_ite, ite_self]

theorem Dev.lineTick_sram (d : Dev) : (Dev.lineTick d).sram = d.sram := by
  simp only [Dev.lineTick, Dev.raiseIf_sram, Dev.setLoop_sram, each_sram, implies_true]

theorem Dev.groupWrite_sram (d : Dev) (g v : Nat) : (Dev.groupWrite d g v).sram = d.sram := by
  simp only [Dev.groupWrite, Dev.setDrv_sram, Dev.setDrvCfg_sram]

theorem groupStop_sram (g : Nat) (d : Dev) : (groupStop g d).2.sram = d.sram := by
  simp only [groupStop, Dev.groupWrite_sram, toLive_ite, sram_ite, snd_ite, ite_self]

theorem groupStopForced_sram (g : Nat) (d : Dev) : (groupStopForced g d).2.sram = d.sram := by
  simp only [groupStopForced, Dev.groupWrite_sram]

theorem groupEnable_sram (g : Nat) (d : Dev) : (groupEnable g d).2.sram = d.sram := by
  simp only [groupEnable, Dev.groupWrite_sram]

theorem groupControlWrite_sram (g v : Nat) (d : Dev) : (groupControlWrite g v d).2.sram = d.sram := by
  (simp only [groupControlWrite]; (repeat' split) <;> first | with_reducible rfl | simp only [groupStop_sram, groupStopForced_sram, groupEnable_sram])

theorem Dev.setGroup_sram (d : Dev) (g : Nat) (x : RunState) : (Dev.setGroup d g x).sram = d.sram := by
  simp only [Dev.setGroup, Dev.setDrv_sram]

theorem Dev.fromZero_sram_q (d : Dev) (e : Nat) (h : d.sram.sound = true) : (Dev.fromZero d e).sram.sound = true := by
  simp +contextual only [Dev.fromZero, Dev.modRec_sram_q, Dev.setLast_sram, toLive_ite, sram_ite, snd_ite, ite_self, sound_ite, implies_true, h]

theorem Dev.restartGroup_sram_q (d : Dev) (g : Nat) (h : d.sram.sound = true) : (Dev.restartGroup d g).sram.sound = true := by
  unfold Dev.restartGroup
  dsimp only
  rw [Dev.setLoop_sram, Dev.setGroup_sram]
  exact each_sram_q _ _ _ (fun e x hx => Dev.fromZero_sram_q x e hx) h

theorem Dev.groupOne_sram_q (d : Dev) (g : Nat) (h : d.sram.sound = true) : (Dev.groupOne d g).sram.sound = true := by
  (simp +contextual only [Dev.groupOne]; (repeat' split) <;> first | with_reducible rfl | (simp +contextual only [Dev.restartGroup_sram_q, Dev.setDrv_sram, Dev.setGroup_sram, implies_true, h]))

theorem Dev.groupTick_sram_q (d : Dev) (h : d.sram.sound = true) : (Dev.groupTick d).sram.sound = true := by
  unfold Dev.groupTick
  rw [Dev.setDrv_sram]
  exact iter_sram_q _ _ _ _ (fun g x hx => Dev.groupOne_sram_q x g hx) h

theorem Dev.monitorSlot_sram (d : Dev) (m : Nat) : (Dev.monitorSlot d m).sram = d.sram := by
  simp only [Dev.monitorSlot, Dev.setRd_sram, toLive_ite, sram_ite, ite_self]

theorem Dev.softTo_sram_q (d : Dev) (e : Nat) (b : Bool) (h : d.sram.sound = true) : (d.softTo e b).sram.sound = true := by
  unfold Dev.softTo
  split
  · exact h
  · exact Dev.setSoft_sram_q _ _ _ h

theorem Dev.causeTo_sram_q (d : Dev) (e : Nat) (c : Option Nat) (h : d.sram.sound = true) : (d.causeTo e c).sram.sound = true := by
  unfold Dev.causeTo
  split
  · split
    · exact h
    · exact Dev.setCause_sram_q _ _ _ _ h
  · exact h

theorem Dev.jumpTaken_sram_q (d : Dev) (e : Nat) (b : Bool) (h : d.sram.sound = true) : (d.jumpTaken e b).sram.sound = true := by
  unfold Dev.jumpTaken
  split
  · exact Dev.setJump_sram_q _ _ _ _ h
  · exact h

theorem Dev.putRateLimit_sram_q (d : Dev) (e : Nat) (l : List Staged) (h : d.sram.sound = true) : (d.putRateLimit e l).sram.sound = true := by
  unfold Dev.putRateLimit
  split
  · exact Dev.setElemField_sram_q _ _ _ _ _ _ h
  · exact h

theorem Dev.recordOnly_sram_q (d : Dev) (e : Nat) (h : d.sram.sound = true) : (d.recordOnly e).sram.sound = true := by
  unfold Dev.recordOnly
  dsimp only
  split
  · exact h
  · rw [Dev.setLoop_sram]
    exact Dev.putRateLimit_sram_q _ _ _ (Dev.softTo_sram_q _ _ _ (Dev.causeTo_sram_q _ _ _ (mem_sound _ (putChanged_sound _ _) h)))

theorem Dev.fenceLane_sram (d : Dev) (l : Nat) : (Dev.fenceLane d l).sram = d.sram := by
  simp only [Dev.fenceLane, Dev.declareFault_sram, Dev.setLoop_sram, toLive_ite, sram_ite, ite_self]

theorem Dev.mismatch_sram (d : Dev) (l e : Nat) : (Dev.mismatch d l e).sram = d.sram := by
  simp only [Dev.mismatch, Dev.raise_sram, Dev.setLoop_sram, Dev.fenceLane_sram, toLive_ite, sram_ite, ite_self]

theorem Dev.askRebuild_sram (d : Dev) (a : Nat) : (Dev.askRebuild d a).sram = d.sram := by
  simp only [Dev.askRebuild, toLive_ite, sram_ite, ite_self]

theorem Dev.traceEntry_sram_q (d : Dev) (e status slot : Nat) (nodes : List (Nat × Int)) (h : d.sram.sound = true) :
    (Dev.traceEntry d e status slot nodes).sram.sound = true := by
  (simp +contextual only [Dev.traceEntry, toLive_ite, sram_ite, sound_ite, h]; (repeat' split) <;> first | with_reducible rfl | (simp +contextual only [Dev.mem_sram_q, implies_true, setCells_sound, h]))

theorem Dev.retryJump_sram (d : Dev) (e : Nat) : (Dev.retryJump d e).sram = d.sram := by
  simp only [Dev.retryJump]

theorem Dev.discard_sram (d : Dev) : (Dev.discard d).sram = d.sram := by
  simp only [Dev.discard, Dev.setLoop_sram]

theorem Dev.lastError_sram (d : Dev) (a kind : Nat) (f : Finder) (syn : Nat) :
    (Dev.lastError d a kind f syn).sram = d.sram := by
  simp only [Dev.lastError]

theorem Dev.fireTrace_sram (d : Dev) (cause elem cycle : Nat) (inGroup : Bool) :
    (Dev.fireTrace d cause elem cycle inGroup).sram = d.sram := by
  simp only [Dev.fireTrace, Dev.setTrace_sram, toLive_ite, sram_ite, ite_self]

theorem Dev.traceSource_sram (d : Dev) (src elem cycle : Nat) (inGroup : Bool) :
    (Dev.traceSource d src elem cycle inGroup).sram = d.sram := by
  simp only [Dev.traceSource, Dev.fireTrace_sram, toLive_ite, sram_ite, ite_self]

theorem Dev.enterHold_sram_q (d : Dev) (n j e a : Nat) (h : d.sram.sound = true) : (Dev.enterHold d n j e a).sram.sound = true := by
  simp +contextual only [Dev.enterHold, Dev.discard_sram, Dev.lastError_sram, Dev.raise_sram, Dev.setLoop_sram, Dev.traceEntry_sram_q, Dev.traceSource_sram, toLive_ite, sram_ite, snd_ite, ite_self, sound_ite, implies_true, h]

theorem Dev.requestReverse_sram (d : Dev) (e c mode : Nat) : (Dev.requestReverse d e c mode).sram = d.sram := by
  simp only [Dev.requestReverse, Dev.setLoop_sram, toLive_ite, sram_ite, snd_ite, ite_self, implies_true]

theorem Dev.putElem_sram_q (d : Dev) (f : Fetch) (o : UpdOut) (e : Nat) (h : d.sram.sound = true) : (d.putElem f o e).sram.sound = true := by
  exact Dev.putRateLimit_sram_q _ _ _ (Dev.jumpTaken_sram_q _ _ _ (Dev.causeTo_sram_q _ _ _ (Dev.softTo_sram_q _ _ _ h)))

theorem Dev.settleLists_sram (d : Dev) (f : Fetch) (e : Nat) : (Dev.settleLists d f e).sram = d.sram := by
  simp only [Dev.settleLists, Dev.setLoop_sram]

theorem Dev.settleJump_sram (d : Dev) (f : Fetch) (o : UpdOut) (e : Nat) : (Dev.settleJump d f o e).sram = d.sram := by
  simp only [Dev.settleJump]

theorem Dev.sweepSample_sram (d : Dev) (f : Fetch) (e : Nat) : (Dev.sweepSample d f e).sram = d.sram := by
  simp only [Dev.sweepSample]

theorem Dev.takeSpare_sram (d : Dev) (n : Nat) : (Dev.takeSpare d n).sram = d.sram := by
  simp only [Dev.takeSpare, Dev.setLoop_sram, toLive_ite, sram_ite, snd_ite, ite_self, implies_true]

theorem Dev.refitAdd_sram (d : Dev) (f : Fetch) (o : UpdOut) (e : Nat) : (Dev.refitAdd d f o e).2.sram = d.sram := by
  (simp only [Dev.refitAdd]; (repeat' split) <;> first | with_reducible rfl | simp only [Dev.takeSpare_sram, implies_true])

theorem Dev.updateEvents_sram (d : Dev) (f : Fetch) (o : UpdOut) (n e : Nat) :
    (Dev.updateEvents d f o n e).sram = d.sram := by
  simp only [Dev.updateEvents, Dev.raise_sram, Dev.raiseIf_sram, Dev.setLoop_sram, Dev.traceSource_sram, toLive_ite, sram_ite, ite_self]

theorem Dev.captureWord_sram_q (d : Dev) (b e : Nat) (h : d.sram.sound = true) : (d.captureWord b e).sram.sound = true := by
  exact mem_sound _ (copyWord_sound _ _ _) h

theorem Dev.pushInject_sram (d : Dev) (b : List Byte) : (Dev.pushInject d b).sram = d.sram := by
  simp only [Dev.pushInject, Dev.setRd_sram]

theorem Dev.capture_sram (d : Dev) (e : InjectEntry) (n : Nat) (flags : BitVec 8) (raw slot : Nat) (s : Int) :
    (Dev.capture d e n flags raw slot s).sram = d.sram := by
  simp only [Dev.capture, Dev.answerWait_sram, Dev.setRd_sram, Dev.pushInject_sram, toLive_ite, sram_ite, ite_self]

theorem Dev.takeWord_sram_q (d : Dev) (e : Nat) (h : d.sram.sound = true) : (Dev.takeWord d e).sram.sound = true := by
  (simp +contextual only [Dev.takeWord]; (repeat' split) <;> first | with_reducible rfl | (simp +contextual only [Dev.capture_sram, Dev.captureWord_sram_q, Dev.setTow_sram, implies_true, h]))

theorem Dev.writeBack_sram_q (d : Dev) (f : Fetch) (n j lane clock e : Nat) (h : d.sram.sound = true) : (Dev.writeBack d f n j lane clock e).sram.sound = true := by
  unfold Dev.writeBack
  dsimp only
  rw [Dev.updateEvents_sram]
  apply Dev.takeWord_sram_q
  have h1 : ∀ (p : List (Nat × Int)) (x : Dev) (w : List Nat), x.sram.sound = true →
      ((x.traceEntry e 0 j p).mem (fun m => m.putChanged (recAddr e) w)).sram.sound = true := fun p x w hx =>
    mem_sound _ (putChanged_sound _ _) (Dev.traceEntry_sram_q _ _ _ _ _ hx)
  split
  · rw [Dev.requestReverse_sram, Dev.settleJump_sram, Dev.settleLists_sram, Dev.sweepSample_sram]
    apply Dev.putElem_sram_q
    rw [Dev.queueCode_sram]
    exact h1 _ _ _ (by rw [Dev.refitAdd_sram]; exact h)
  · rw [Dev.settleJump_sram, Dev.settleLists_sram, Dev.sweepSample_sram]
    apply Dev.putElem_sram_q
    rw [Dev.queueCode_sram]
    exact h1 _ _ _ (by rw [Dev.refitAdd_sram]; exact h)

theorem Dev.updateElem_sram_q (d : Dev) (env : SlotEnv) (n j lane clock e : Nat) (h : d.sram.sound = true) : (Dev.updateElem d env n j lane clock e).sram.sound = true := by
  (simp +contextual only [Dev.updateElem]; (repeat' split) <;> first | with_reducible rfl | (simp +contextual only [Dev.askRebuild_sram, Dev.discard_sram, Dev.enterHold_sram_q, Dev.mismatch_sram, Dev.queueCode_sram, Dev.retryJump_sram, Dev.setLoop_sram, Dev.traceEntry_sram_q, Dev.writeBack_sram_q, implies_true, h]))

theorem Dev.makeLate_sram (d : Dev) (j c : Nat) : (Dev.makeLate d j c).sram = d.sram := by
  simp only [Dev.makeLate, Dev.setDrv_sram, toLive_ite, sram_ite, snd_ite, ite_self, implies_true]

theorem Dev.takeover_sram (d : Dev) : (Dev.takeover d).sram = d.sram := by
  simp only [Dev.takeover, Dev.raise_sram, Dev.setTow_sram]

theorem Dev.updateSlot_sram_q (d : Dev) (env : SlotEnv) (j : Nat) (h : d.sram.sound = true) : (d.updateSlot env j).sram.sound = true := by
  have h1 : ∀ (l : List (Nat × Nat)) (n : Nat) (x : Dev), x.sram.sound = true → (each l (fun p d =>
      let y := d.laneFor n j p.2
      let d := d.updateElem env n j y.1 y.2 p.1
      if env.late.contains p.1 then d.makeLate j (siteCol (entryDrive (d.entry p.1))) else d) x).sram.sound = true := fun l n x hx =>
    each_sram_q _ _ _ (fun p y hy => by
      have := Dev.updateElem_sram_q y env n j (y.laneFor n j p.2).1 (y.laneFor n j p.2).2 p.1 hy
      dsimp only
      split
      · rw [Dev.makeLate_sram]; exact this
      · exact this) hx
  have h2 : ∀ (l : List Nat) (x : Dev), x.sram.sound = true → (each l (fun e d => d.recordOnly e) x).sram.sound = true := fun l x hx =>
    each_sram_q _ _ _ (fun e y hy => Dev.recordOnly_sram_q y e hy) hx
  (simp +contextual only [Dev.updateSlot]; (repeat' split) <;> first | exact h | (simp +contextual only [Dev.setLoop_sram, h1, h2, h]))

theorem Dev.toSlot_sram (d : Dev) (j : Nat) : (Dev.toSlot d j).sram = d.sram := by
  simp only [Dev.toSlot, toLive_ite, sram_ite, ite_self]

theorem slot_sram_q (env : SlotEnv) (d : Dev) (h : d.sram.sound = true) : (slot env d).sram.sound = true := by
  simp +contextual only [slot, Dev.contentionSlot_sram, Dev.driveSlot_sram, Dev.lateWrites_sram, Dev.monitorSlot_sram, Dev.rowSlot_sram, Dev.toSlot_sram, Dev.updateSlot_sram_q, toLive_ite, sram_ite, snd_ite, ite_self, sound_ite, implies_true, h]

theorem groupStopped_sram_q (g : Nat) (d : Dev) (h : d.sram.sound = true) : (groupStopped g d).sram.sound = true := by
  simp +contextual only [groupStopped, Dev.restartGroup_sram_q, Dev.setDrv_sram, Dev.setGroup_sram, slot_sram_q, toLive_ite, sram_ite, snd_ite, ite_self, sound_ite, implies_true, h]

theorem idleCodeWrite_sram (v : Nat) (d : Dev) : (idleCodeWrite v d).2.sram = d.sram := by
  simp only [idleCodeWrite, Dev.setDrv_sram, Dev.setDrvCfg_sram, toLive_ite, sram_ite, snd_ite, ite_self]

theorem Dev.toneStep_sram (d : Dev) (n t : Nat) : (Dev.toneStep d n t).sram = d.sram := by
  simp only [Dev.toneStep, Dev.setDrv_sram]

theorem Dev.toneTick_sram (d : Dev) (n : Nat) : (Dev.toneTick d n).sram = d.sram := by
  simp only [Dev.toneTick, Dev.setDrv_sram, Dev.toneStep_sram, iter_sram, implies_true]

theorem Dev.putTone_sram (d : Dev) (t : Nat) (f : Tone → Tone) : (Dev.putTone d t f).sram = d.sram := by
  simp only [Dev.putTone, Dev.setDrv_sram, Dev.setDrvCfg_sram]

theorem toneFtwWrite_sram (t v : Nat) (d : Dev) : (toneFtwWrite t v d).2.sram = d.sram := by
  simp only [toneFtwWrite, Dev.putTone_sram, toLive_ite, sram_ite, snd_ite, ite_self]

theorem tonePhaseWrite_sram (t v : Nat) (d : Dev) : (tonePhaseWrite t v d).2.sram = d.sram := by
  simp only [tonePhaseWrite, Dev.putTone_sram]

theorem toneAmplitudeWrite_sram (t v : Nat) (d : Dev) : (toneAmplitudeWrite t v d).2.sram = d.sram := by
  simp only [toneAmplitudeWrite, Dev.putTone_sram]

theorem toneEnableWrite_sram (t : Nat) (v : Bool) (d : Dev) : (toneEnableWrite t v d).2.sram = d.sram := by
  simp only [toneEnableWrite, Dev.putTone_sram]

theorem offsetTrimWrite_sram (c : Nat) (v : Int) (d : Dev) : (offsetTrimWrite c v d).2.sram = d.sram := by
  simp only [offsetTrimWrite, Dev.setDrvCfg_sram, toLive_ite, sram_ite, snd_ite, ite_self]

theorem gainTrimWrite_sram (c : Nat) (v : Int) (d : Dev) : (gainTrimWrite c v d).2.sram = d.sram := by
  simp only [gainTrimWrite, Dev.setDrvCfg_sram, toLive_ite, sram_ite, snd_ite, ite_self]

theorem contentionLimitWrite_sram (v : Nat) (d : Dev) : (contentionLimitWrite v d).2.sram = d.sram := by
  simp only [contentionLimitWrite, Dev.setDrvCfg_sram, toLive_ite, sram_ite, snd_ite, ite_self]

/-! ## Law -/

theorem Dev.putWorking_sram_q (d : Dev) (e : Nat) (k : Curve) (h : d.sram.sound = true) : (d.putWorking e k).sram.sound = true :=
  mem_sound _ (fun hm => putWord_sound _ _ (putWord_sound _ _ hm)) h

/-! ## RecordWrite -/

theorem Dev.stage_sram (d : Dev) (e : Nat) (f : RecField) (v : Int) : (Dev.stage d e f v).sram = d.sram := by
  simp only [Dev.stage, Dev.setLoop_sram]

theorem fieldWrite_sram (e : Nat) (f : RecField) (v : Int) (d : Dev) : (fieldWrite e f v d).2.sram = d.sram := by
  simp only [fieldWrite, Dev.stage_sram, toLive_ite, sram_ite, snd_ite, ite_self]

theorem modeField_sram (e : Nat) (v : Int) (d : Dev) : (modeField e v d).2.sram = d.sram := by
  simp only [modeField, fieldWrite_sram, toLive_ite, sram_ite, snd_ite, ite_self]

theorem anyFieldWrite_sram (e : Nat) (f : RecField) (v : Int) (d : Dev) : (anyFieldWrite e f v d).2.sram = d.sram := by
  (simp only [anyFieldWrite]; (repeat' split) <;> first | with_reducible rfl | simp only [fieldWrite_sram, modeField_sram])

theorem recordFieldWrite_sram (e : Nat) (f : RecField) (v : Int) (d : Dev) : (recordFieldWrite e f v d).2.sram = d.sram := by
  simp only [recordFieldWrite, anyFieldWrite_sram]

theorem modeWrite_sram (e v : Nat) (d : Dev) : (modeWrite e v d).2.sram = d.sram := by
  simp only [modeWrite, modeField_sram]

theorem setpointRequest_sram (e : Nat) (target : Nat) (rate : Option Nat) (d : Dev) :
    (setpointRequest e target rate d).2.sram = d.sram := by
  (simp only [setpointRequest]; (repeat' split) <;> first | with_reducible rfl | simp only [fieldWrite_sram])

theorem settleEntryWrite_sram (v : Nat) (d : Dev) : (settleEntryWrite v d).2.sram = d.sram := by
  simp only [settleEntryWrite, toLive_ite, sram_ite, snd_ite, ite_self]

/-! ## LoopCtl -/

theorem Dev.loopWrite_sram (d : Dev) (v : Nat) (f : Loop → Loop) : (Dev.loopWrite d v f).sram = d.sram := by
  simp only [Dev.loopWrite]

theorem loopStop_sram (d : Dev) : (loopStop d).2.sram = d.sram := by
  simp only [loopStop, Dev.loopWrite_sram]

theorem loopStart_sram (d : Dev) : (loopStart d).2.sram = d.sram := by
  simp only [loopStart, Dev.loopWrite_sram, toLive_ite, sram_ite, snd_ite, ite_self]

theorem loopControlWrite_sram (v : Nat) (d : Dev) : (loopControlWrite v d).2.sram = d.sram := by
  (simp only [loopControlWrite]; (repeat' split) <;> first | with_reducible rfl | simp only [loopStop_sram, loopStart_sram])

theorem Dev.startLoop_sram (d : Dev) : (Dev.startLoop d).sram = d.sram := by
  simp only [Dev.startLoop, Dev.setLoop_sram]

theorem Dev.loopTick_sram (d : Dev) : (Dev.loopTick d).sram = d.sram := by
  (simp only [Dev.loopTick]; (repeat' split) <;> first | with_reducible rfl | simp only [Dev.setLoop_sram, Dev.startLoop_sram])

theorem laneUnfence_sram (l : Nat) (d : Dev) : (laneUnfence l d).2.sram = d.sram := by
  simp only [laneUnfence, Dev.setLoop_sram, toLive_ite, sram_ite, snd_ite, ite_self]

theorem laneSelftestDone_sram (l : Nat) (pass : Bool) (d : Dev) : (laneSelftestDone l pass d).sram = d.sram := by
  simp only [laneSelftestDone, Dev.raise_sram, Dev.setLoop_sram, Dev.takeSpare_sram, toLive_ite, sram_ite, snd_ite, ite_self, implies_true]

theorem Dev.laneTick_sram (d : Dev) : (Dev.laneTick d).sram = d.sram := by
  simp only [Dev.laneTick, Dev.raise_sram, Dev.setLoop_sram, each_sram, implies_true]

theorem Dev.checkerTick_sram (d : Dev) (missed : Bool) : (Dev.checkerTick d missed).sram = d.sram := by
  simp only [Dev.checkerTick, Dev.fenceLane_sram, Dev.raise_sram, Dev.setLoop_sram, Dev.takeSpare_sram, toLive_ite, sram_ite, snd_ite, ite_self, implies_true]

theorem reverseLinearisation_sram_q (e : Nat) (bad : Option Nat) (d : Dev) (h : d.sram.sound = true) : (reverseLinearisation e bad d).sram.sound = true := by
  (simp +contextual only [reverseLinearisation]; (repeat' split) <;> first | with_reducible rfl | (simp +contextual only [Dev.mismatch_sram, Dev.modRec_sram_q, Dev.setLoop_sram, Dev.takeSpare_sram, implies_true, h]))

theorem Dev.darkEvents_sram (d : Dev) : (Dev.darkEvents d).sram = d.sram := by
  simp only [Dev.darkEvents, Dev.raise_sram, Dev.setLoop_sram, toLive_ite, sram_ite, ite_self]

theorem Dev.countTick_sram (d : Dev) : (Dev.countTick d).sram = d.sram := by
  simp only [Dev.countTick, Dev.setLoop_sram]

/-! ## MemUnit -/

theorem Dev.countCorrected_sram (d : Dev) (g : Nat) : (Dev.countCorrected d g).sram = d.sram := by
  simp only [Dev.countCorrected, Dev.raiseIf_sram]

theorem Dev.hardError_sram (d : Dev) (a : Nat) : (Dev.hardError d a).sram = d.sram := by
  simp only [Dev.hardError, Dev.raise_sram, Dev.raiseIf_sram, toLive_ite, sram_ite, ite_self]

theorem Dev.noteCorrected_sram (d : Dev) (a : Nat) (f : Finder) (syn : Nat) :
    (Dev.noteCorrected d a f syn).sram = d.sram := by
  simp only [Dev.noteCorrected, Dev.lastError_sram, Dev.countCorrected_sram, Dev.hardError_sram, toLive_ite, sram_ite, ite_self]

theorem Dev.noteBad_sram (d : Dev) (a : Nat) (f : Finder) (syn : Nat) : (Dev.noteBad d a f syn).sram = d.sram := by
  simp only [Dev.noteBad, Dev.raise_sram, Dev.lastError_sram, Dev.hardError_sram, Dev.askRebuild_sram, toLive_ite, sram_ite, ite_self]

theorem Dev.readNative_sram_q (d : Dev) (a : Nat) (f : Finder) (flips : List Nat) (h : d.sram.sound = true) :
    (d.readNative a f flips).sram.sound = true := by
  unfold Dev.readNative
  dsimp only
  repeat' split
  · exact h
  · exact mem_sound _ (setStored_sound _ _) h
  · rw [Dev.noteCorrected_sram]; exact mem_sound _ (fun hm => dueWriteback_sound _ _ (setStored_sound _ _ hm)) h
  · rw [Dev.noteBad_sram]; exact mem_sound _ (fun hm => mark_sound _ _ (setStored_sound _ _ hm)) h

theorem Dev.readByte_sram_q (d : Dev) (a : Nat) (f : Finder) (flips : List Nat) (h : d.sram.sound = true) :
    (d.readByte a f flips).sram.sound = true := by
  unfold Dev.readByte
  dsimp only
  repeat' split
  · exact h
  · exact mem_sound _ (setCell_sound _ _) h
  · rw [Dev.noteCorrected_sram]; exact mem_sound _ (fun hm => dueWriteback_sound _ _ (setCell_sound _ _ hm)) h
  · rw [Dev.noteBad_sram]
    refine mem_sound _ (fun hm => ?_) h
    have h1 := setCell_sound a (BitVec.ofNat 8 ((d.sram.cell a).toNat ^^^ flipMask 8 flips)) hm
    rw [sound_iff] at hm h1 ⊢
    exact ⟨h1.1, h1.2.1, wf_tset a true hm.2.2.1, h1.2.2.2⟩

theorem Dev.readWord_sram_q (d : Dev) (a : Nat) (f : Finder) (flips : List Nat) (h : d.sram.sound = true) :
    (Dev.readWord d a f flips).sram.sound = true := by
  simp +contextual only [Dev.readWord, Dev.readNative_sram_q, Dev.readByte_sram_q, iter_sram_q, toLive_ite, sram_ite, ite_self, implies_true, sound_ite, h]

theorem memoryUe_sram_q (addr : Nat) (f : Finder) (flips : List Nat) (d : Dev) (h : d.sram.sound = true) :
    ∀ d2, memoryUe addr f flips d = .ok d2 → d2.sram.sound = true := by
  intro d2 h2
  unfold memoryUe at h2
  split at h2
  · cases h2
  · cases h2; exact Dev.readWord_sram_q _ _ _ _ h

theorem correctiveWriteback_sram_q (a : Nat) (d : Dev) (h : d.sram.sound = true) :
    ∀ d2, correctiveWriteback a d = .ok d2 → d2.sram.sound = true := by
  intro d2 h2
  unfold correctiveWriteback at h2
  split at h2
  · cases h2
  · split at h2 <;> (cases h2; rw [sound_iff] at h ⊢; exact h)

theorem Dev.answerMerged_sram (d : Dev) : (Dev.answerMerged d).sram = d.sram := by
  simp only [Dev.answerMerged, each_sram, Dev.answerWait_sram, toLive_ite, sram_ite, snd_ite, ite_self, implies_true]

theorem mergeRetire_sram_q (flips : List Nat) (d : Dev) (h : d.sram.sound = true) : (mergeRetire flips d).sram.sound = true := by
  unfold mergeRetire
  split
  · exact h
  · rename_i e l _
    dsimp only
    have h1 : ((d.readNative e.word e.finder flips).mem (fun m =>
        { m.retire e with writebacks := m.writebacks.filter (fun x => x.1 ≠ e.word) })).sram.sound = true :=
      mem_sound _ (fun hm => by have := retire_sound e hm; rw [sound_iff] at this ⊢; exact this) (Dev.readNative_sram_q _ _ _ _ h)
    rw [Dev.answerMerged_sram]
    split
    · rw [Dev.reply_sram]; exact h1
    · exact h1

theorem hostPart_sram_q (a : Nat) (l : List Byte) (d : Dev) (h : d.sram.sound = true) :
    (hostPart a l d).2.sram.sound = true := by
  simp +contextual only [hostPart, Dev.mem_sram_q, toLive_ite, sram_ite, snd_ite, ite_self, implies_true, sound_ite, putBytes8_sound, putPart_sound, h]

theorem leakOne_sram (d : Dev) (g : Nat) : (leakOne d g).sram = d.sram := by
  simp only [leakOne]

theorem ceLeak_sram (d : Dev) : (ceLeak d).sram = d.sram := by
  simp only [ceLeak, leakOne_sram, iter_sram, implies_true]

theorem windowModeWrite_sram_q (v : Nat) (d : Dev) (h : d.sram.sound = true) :
    (windowModeWrite v d).2.sram.sound = true := by
  simp +contextual only [windowModeWrite, Dev.mem_sram_q, toLive_ite, sram_ite, snd_ite, ite_self, implies_true, sound_ite, clearWindow_sound, h]

theorem windowBlockWrite_sram_q (j : Nat) (l : List Byte) (d : Dev) (h : d.sram.sound = true) :
    (windowBlockWrite j l d).2.sram.sound = true := by
  simp +contextual only [windowBlockWrite, Dev.mem_sram_q, ite_self, implies_true, sound_ite, putBlock_sound, windowPut_sound, h]

theorem Dev.consumePoison_sram (d : Dev) (a : Nat) : (Dev.consumePoison d a).sram = d.sram := by
  simp only [Dev.consumePoison, Dev.lastError_sram, Dev.raise_sram, toLive_ite, sram_ite, snd_ite, ite_self, implies_true]

theorem coreDataAbort_sram (a : Nat) (inRequest : Bool) (d : Dev) : ∀ d2, coreDataAbort a inRequest d = .ok d2 → d2.sram = d.sram := by
  intro d2 h
  unfold coreDataAbort at h
  split at h
  · cases h
  · split at h
    · cases h
      dsimp only
      (repeat' split) <;> simp only [Dev.reply_sram, Dev.answerWait_sram, Dev.consumePoison_sram]
    · cases h; rfl

theorem heartbeatMissing_sram (halted : Bool) (d : Dev) : (heartbeatMissing halted d).sram = d.sram := by
  simp only [heartbeatMissing, Dev.raise_sram]

/-! ## Readout -/

theorem Dev.putAcc_sram_q (d : Dev) (i : Nat) (v : Int) (h : d.sram.sound = true) :
    (Dev.putAcc d i v).sram.sound = true := by
  (simp +contextual only [Dev.putAcc, Dev.mem_sram_q, toLive_ite, sram_ite, implies_true, sound_ite, putWord_sound, h]; (repeat' split) <;> first | with_reducible rfl | (simp +contextual only [Dev.setRd_sram, Dev.mem_sram_q, implies_true, putWord_sound, h]))

theorem Dev.enter_sram_q (d : Dev) (i : Nat) (s : Int) (h : d.sram.sound = true) :
    (Dev.enter d i s).2.sram.sound = true := by
  (simp +contextual only [Dev.enter]; (repeat' split) <;> first | with_reducible rfl | (simp +contextual only [Dev.setRd_sram, Dev.putAcc_sram_q, h]))

theorem Dev.store_sram (d : Dev) (i : Nat) (x : Sample) : (Dev.store d i x).sram = d.sram := by
  simp only [Dev.store, Dev.setRd_sram]

theorem Dev.countInvalid_sram (d : Dev) (c : Nat) (valid : Bool) : (Dev.countInvalid d c valid).sram = d.sram := by
  simp only [Dev.countInvalid, Dev.setRd_sram, toLive_ite, sram_ite, ite_self]

theorem Dev.countOver_sram (d : Dev) (c : Nat) : (Dev.countOver d c).sram = d.sram := by
  simp only [Dev.countOver, Dev.raiseIf_sram, Dev.setRd_sram]

theorem Dev.missedOf_sram (d : Dev) (bound : Nat) (e : InjectEntry) : (Dev.missedOf d bound e).sram = d.sram := by
  unfold Dev.missedOf
  refine iter_sram _ _ _ _ (fun n x => ?_)
  split
  · split
    · exact Dev.capture_sram ..
    · rfl
  · rfl

theorem Dev.captures_sram (d : Dev) (x : Conversion) (flags : BitVec 8) (raw : Nat) (s : Int) : (Dev.captures d x flags raw s).sram = d.sram := by
  simp only [Dev.captures, each_sram, Dev.capture_sram, Dev.missedOf_sram, toLive_ite, sram_ite, snd_ite, ite_self, implies_true]

theorem Dev.missedCaptures_sram (d : Dev) (ended : Nat) : (d.missedCaptures ended).sram = d.sram := by
  refine each_sram _ _ _ (fun e d => iter_sram _ _ _ _ (fun n d => ?_))
  split
  · split <;> first | rfl | exact Dev.capture_sram ..
  · rfl

theorem Dev.darkSum_sram (d : Dev) (x : Conversion) (v : Int) : (Dev.darkSum d x v).sram = d.sram := by
  (simp only [Dev.darkSum]; (repeat' split) <;> with_reducible rfl)

theorem conversionComplete_sram_q (c : Nat) (b : Bool) (raw : Nat) (d : Dev) (h : d.sram.sound = true) :
    (conversionComplete c b raw d).sram.sound = true := by
  (simp +contextual only [conversionComplete, snd_ite]; (repeat' split) <;> first | with_reducible rfl | (simp +contextual only [Dev.labelSample_sram, Dev.setRd_sram, Dev.store_sram, Dev.countInvalid_sram, Dev.countOver_sram, Dev.captures_sram, Dev.darkSum_sram, Dev.enter_sram_q, h]))

theorem converterTimeout_sram (c : Nat) (b : Bool) (d : Dev) : (converterTimeout c b d).sram = d.sram := by
  (simp only [converterTimeout]; (repeat' split) <;> first | with_reducible rfl | simp only [Dev.captures_sram, Dev.countInvalid_sram, Dev.raise_sram, Dev.setRd_sram, Dev.store_sram, implies_true])

theorem columnGainWrite_sram (c v : Nat) (d : Dev) : (columnGainWrite c v d).2.sram = d.sram := by
  simp only [columnGainWrite, Dev.setRd_sram, Dev.setRdCfg_sram, toLive_ite, sram_ite, snd_ite, ite_self]

theorem avgLog2Write_sram (i v : Nat) (d : Dev) : (avgLog2Write i v d).2.sram = d.sram := by
  simp only [avgLog2Write, Dev.setRd_sram, Dev.setRdCfg_sram, toLive_ite, sram_ite, snd_ite, ite_self]

theorem darkWrite_sram_q (i : Nat) (b : List Byte) (d : Dev) (h : d.sram.sound = true) :
    (darkWrite i b d).2.sram.sound = true := by
  simp +contextual only [darkWrite, Dev.setRd_sram, hostPart_sram_q, h]

theorem tapRespWrite_sram_q (i : Nat) (b : List Byte) (d : Dev) (h : d.sram.sound = true) :
    (tapRespWrite i b d).2.sram.sound = true := by
  simp +contextual only [tapRespWrite, hostPart_sram_q, h]

theorem Dev.putCorr_sram_q (d : Dev) (x g : Nat) (off : Int) (gain : Nat) (h : d.sram.sound = true) :
    (Dev.putCorr d x g off gain).sram.sound = true := by
  simp +contextual only [Dev.putCorr, Dev.mem_sram_q, implies_true, putPart_sound, h]

theorem Dev.setOffset_sram (d : Dev) (x : Nat) (v : Int) : (Dev.setOffset d x v).sram = d.sram := by
  simp only [Dev.setOffset, Dev.setRd_sram, Dev.setRdCfg_sram]

theorem Dev.setCGain_sram (d : Dev) (x v : Nat) : (Dev.setCGain d x v).sram = d.sram := by
  simp only [Dev.setCGain, Dev.setRd_sram, Dev.setRdCfg_sram]

theorem hostCorr_sram_q (x g : Nat) (off : Int) (gain : Nat) (d : Dev) (h : d.sram.sound = true) : (hostCorr x g off gain d).2.sram.sound = true := by
  simp +contextual only [hostCorr, hostPart_sram_q, toLive_ite, sram_ite, snd_ite, ite_self, sound_ite, implies_true, h]

theorem convOffsetWrite_sram_q (x : Nat) (v : Int) (d : Dev) (h : d.sram.sound = true) : (convOffsetWrite x v d).2.sram.sound = true := by
  simp +contextual only [convOffsetWrite, Dev.setOffset_sram, hostCorr_sram_q, toLive_ite, sram_ite, snd_ite, ite_self, sound_ite, implies_true, h]

theorem convGainWrite_sram_q (x v : Nat) (d : Dev) (h : d.sram.sound = true) : (convGainWrite x v d).2.sram.sound = true := by
  simp +contextual only [convGainWrite, Dev.setCGain_sram, hostCorr_sram_q, toLive_ite, sram_ite, snd_ite, ite_self, sound_ite, implies_true, h]

theorem skewTrimWrite_sram (x : Nat) (v : Int) (d : Dev) : (skewTrimWrite x v d).2.sram = d.sram := by
  simp only [skewTrimWrite, Dev.setRd_sram, Dev.setRdCfg_sram, toLive_ite, sram_ite, snd_ite, ite_self]

theorem hostSplit_sram_q (k a : Nat) (l : List Byte) (d : Dev) (h : d.sram.sound = true) : (hostSplit k a l d).2.sram.sound = true := by
  simp +contextual only [hostSplit, Dev.drop_sram, Dev.take_sram, hostPart_sram_q, toLive_ite, sram_ite, snd_ite, ite_self, sound_ite, implies_true, h]

theorem chainCorrWrite_sram_q (x : Nat) (b : List Byte) (d : Dev) (h : d.sram.sound = true) : (chainCorrWrite x b d).2.sram.sound = true := by
  simp +contextual only [chainCorrWrite, hostSplit_sram_q, toLive_ite, sram_ite, snd_ite, ite_self, sound_ite, implies_true, h]

theorem Dev.setTdac_sram (d : Dev) (f : ReadoutCfg → ReadoutCfg) : (Dev.setTdac d f).2.sram = d.sram := by
  simp only [Dev.setTdac, Dev.setRd_sram, Dev.setRdCfg_sram, toLive_ite, sram_ite, snd_ite, ite_self]

theorem tdacRouteWrite_sram (v : Nat) (d : Dev) : (tdacRouteWrite v d).2.sram = d.sram := by
  simp only [tdacRouteWrite, Dev.setTdac_sram, toLive_ite, sram_ite, snd_ite, ite_self]

theorem tdacGroupWrite_sram (v : Nat) (d : Dev) : (tdacGroupWrite v d).2.sram = d.sram := by
  simp only [tdacGroupWrite, Dev.setTdac_sram, toLive_ite, sram_ite, snd_ite, ite_self]

theorem tdacCodeWrite_sram (v : Nat) (d : Dev) : (tdacCodeWrite v d).2.sram = d.sram := by
  simp only [tdacCodeWrite, Dev.setTdac_sram]

theorem injectRequest_sram (site count : Nat) (tag : BitVec 8) (start : Nat) (d : Dev) :
    (injectRequest site count tag start d).2.sram = d.sram := by
  simp only [injectRequest, Dev.setRd_sram, toLive_ite, sram_ite, snd_ite, ite_self]

theorem injectWrite_sram (b : List Byte) (d : Dev) : (injectWrite b d).2.sram = d.sram := by
  simp only [injectWrite, injectRequest_sram]

theorem Dev.loadCorr_sram (d : Dev) (chain g : Nat) : (Dev.loadCorr d chain g).sram = d.sram := by
  simp only [Dev.loadCorr, Dev.setRdCfg_sram, iter_sram, implies_true]

theorem Dev.readoutTick_sram (d : Dev) : d.readoutTick.sram = d.sram := by
  have step : ∀ (p : Nat × Int) (x : Dev), (if tget 0 x.cfg.rd.skewTrim p.1 = p.2 then x else match x.servedBy (p.1 / 2) with
      | some c => x.invalidColumn c 1
      | none => x).sram = x.sram := by
    intro p x
    split
    · rfl
    · split
      · exact Dev.invalidColumn_sram ..
      · rfl
  unfold Dev.readoutTick
  refine (each_sram _ _ _ step).trans ((each_sram _ _ _ ?_).trans ((each_sram _ _ _ ?_).trans (Dev.setRd_sram ..)))
  · intro p x; dsimp only; split <;> first | rfl | exact Dev.setRd_sram ..
  · intro p x; dsimp only; split
    · rfl
    · rw [Dev.invalidColumn_sram, Dev.loadCorr_sram]

/-! ## Calib -/

theorem Dev.putPoints_sram_q (d : Dev) (e : Nat) (b : List Byte) (h : d.sram.sound = true) : (d.putPoints e b).sram.sound = true := by
  unfold Dev.putPoints
  rw [Dev.setCal_sram]
  refine mem_sound _ (fun hm => ?_) h
  have h1 := putWord_sound (calAddr e + 72) (tpWord ((List.range 8).map (fun p => field b (72 + p) 1)) (d.calWord e 9))
    (putBlock_sound (calAddr e) 9 (b.take 72) hm)
  dsimp only
  split
  · exact mark_sound _ _ h1
  · exact h1

theorem calPointsWrite_sram_q (e : Nat) (b : List Byte) (d : Dev) (h : d.sram.sound = true) :
    (calPointsWrite e b d).2.sram.sound = true := by
  simp +contextual only [calPointsWrite, Dev.putPoints_sram_q, toLive_ite, sram_ite, snd_ite, ite_self, sound_ite, h]

theorem Dev.endHold_sram (d : Dev) (e : Nat) : (Dev.endHold d e).sram = d.sram := by
  simp only [Dev.endHold, Dev.setLoop_sram, toLive_ite, sram_ite, snd_ite, ite_self, implies_true]

theorem Dev.enterCurve_sram_q (d : Dev) (e : Nat) (k : Curve) (h : d.sram.sound = true) : (Dev.enterCurve d e k).sram.sound = true := by
  simp +contextual only [Dev.enterCurve, Dev.endHold_sram, Dev.putWorking_sram_q, Dev.requestReverse_sram, Dev.setCal_sram, toLive_ite, sram_ite, snd_ite, ite_self, sound_ite, implies_true, h]

theorem Dev.checkCurve_sram_q (d : Dev) (e : Nat) (h : d.sram.sound = true) : (Dev.checkCurve d e).sram.sound = true := by
  simp +contextual only [Dev.checkCurve, Dev.enter_sram_q, Dev.enterCurve_sram_q, Dev.raise_sram, Dev.setCal_sram, toLive_ite, sram_ite, snd_ite, ite_self, sound_ite, implies_true, h]

theorem Dev.curveChecks_sram_q (d : Dev) (h : d.sram.sound = true) : (Dev.curveChecks d).sram.sound = true := by
  simp +contextual only [Dev.curveChecks, Dev.setCal_sram, Dev.checkCurve_sram_q, each_sram_q, implies_true, h]

theorem darkCapture_sram (v : Nat) (d : Dev) : (darkCapture v d).2.sram = d.sram := by
  simp only [darkCapture, Dev.setCal_sram, toLive_ite, sram_ite, snd_ite, ite_self]

theorem Dev.darkTick_sram (d : Dev) : (Dev.darkTick d).sram = d.sram := by
  simp only [Dev.darkTick, Dev.setCal_sram, toLive_ite, sram_ite, ite_self]

theorem Dev.darkSite_sram_q (d : Dev) (i : Nat) (h : d.sram.sound = true) : (Dev.darkSite d i).sram.sound = true := by
  simp +contextual only [Dev.darkSite, Dev.setRd_sram, Dev.setCal_sram, Dev.mem_sram_q, toLive_ite, sram_ite, ite_self, implies_true, sound_ite, putPart_sound, h]

theorem darkCaptureDone_sram_q (d : Dev) (h : d.sram.sound = true) : (darkCaptureDone d).sram.sound = true := by
  unfold darkCaptureDone
  split
  · exact h
  · split
    · exact h
    · rw [Dev.setCal_sram]
      refine iter_sram_q _ _ _ _ (fun m x hx => iter_sram_q _ _ _ _ (fun c y hy => ?_) hx) (by rw [Dev.setCal_sram]; exact h)
      split
      · exact Dev.darkSite_sram_q _ _ hy
      · exact hy

theorem entrySlewWrite_sram (v : Nat) (d : Dev) : (entrySlewWrite v d).2.sram = d.sram := by
  simp only [entrySlewWrite, Dev.setCalCfg_sram, toLive_ite, sram_ite, snd_ite, ite_self]

theorem driftOffsetWrite_sram (v : Nat) (d : Dev) : (driftOffsetWrite v d).2.sram = d.sram := by
  simp only [driftOffsetWrite, Dev.setCalCfg_sram]

theorem driftGainWrite_sram (v : Nat) (d : Dev) : (driftGainWrite v d).2.sram = d.sram := by
  simp only [driftGainWrite, Dev.setCalCfg_sram]

theorem refitEnableWrite_sram (v : BitVec 8) (d : Dev) : (refitEnableWrite v d).2.sram = d.sram := by
  simp only [refitEnableWrite, Dev.setCalCfg_sram]

theorem refitWindowWrite_sram (v : Nat) (d : Dev) : (refitWindowWrite v d).2.sram = d.sram := by
  simp only [refitWindowWrite, Dev.setCalCfg_sram, toLive_ite, sram_ite, snd_ite, ite_self]

theorem refitA0MaxWrite_sram (v : Nat) (d : Dev) : (refitA0MaxWrite v d).2.sram = d.sram := by
  simp only [refitA0MaxWrite, Dev.setCalCfg_sram]

theorem refitDeadbandWrite_sram (v : Nat) (d : Dev) : (refitDeadbandWrite v d).2.sram = d.sram := by
  simp only [refitDeadbandWrite, Dev.setCalCfg_sram]

theorem refitSlopeTolWrite_sram (v : Nat) (d : Dev) : (refitSlopeTolWrite v d).2.sram = d.sram := by
  simp only [refitSlopeTolWrite, Dev.setCalCfg_sram]

/-! ## Claim -/

theorem Dev.advanceTo_sram (d : Dev) (t : Nat) : (Dev.advanceTo d t).sram = d.sram := by
  simp only [Dev.advanceTo, Dev.setTime_sram, toLive_ite, sram_ite, ite_self]

theorem Dev.loadSlot_sram (d : Dev) (k : Nat) (passed : Option (Nat × Nat)) : (Dev.loadSlot d k passed).sram = d.sram := by
  simp only [Dev.loadSlot, Dev.setBoot_sram]

theorem boot_sram (d : Dev) : (boot d).sram = d.sram := by
  simp only [boot, Dev.setBoot_sram, Dev.loadSlot_sram, toLive_ite, sram_ite, ite_self]

theorem claimWindowStart_sram (d : Dev) : (claimWindowStart d).sram = d.sram := by
  simp only [claimWindowStart, Dev.advanceTo_sram, Dev.setTow_sram, boot_sram, toLive_ite, sram_ite, snd_ite, ite_self, implies_true]

theorem Dev.markAllJump_sram_q (d : Dev) (h : d.sram.sound = true) : (d.markAllJump).sram.sound = true := by
  exact each_sram_q _ _ _ (fun e x hx => Dev.setJump_sram_q x e true .other hx) h

theorem Dev.latchWin_sram_q (d : Dev) (h : d.sram.sound = true) : (Dev.latchWin d).sram.sound = true := by
  simp +contextual only [Dev.latchWin, Dev.setTow_sram, Dev.markAllJump_sram_q, toLive_ite, sram_ite, ite_self, sound_ite, h]

theorem Dev.endYield_sram (d : Dev) : (Dev.endYield d).sram = d.sram := by
  simp only [Dev.endYield, Dev.setTow_sram, toLive_ite, sram_ite, ite_self]

theorem claimWindowEnd_sram_q (va vb : Nat) (d : Dev) (h : d.sram.sound = true) : (claimWindowEnd va vb d).sram.sound = true := by
  simp +contextual only [claimWindowEnd, Dev.advanceTo_sram, Dev.endYield_sram, Dev.latchWin_sram_q, Dev.raiseIf_sram, Dev.setTow_sram, toLive_ite, sram_ite, snd_ite, ite_self, sound_ite, implies_true, h]

theorem Dev.dropOutputs_sram (d : Dev) : (Dev.dropOutputs d).sram = d.sram := by
  simp only [Dev.dropOutputs, toLive_ite, sram_ite, snd_ite, ite_self, implies_true]

theorem outputRelease_sram (d : Dev) : (outputRelease d).sram = d.sram := by
  simp only [outputRelease, Dev.advanceTo_sram, Dev.dropOutputs_sram, toLive_ite, sram_ite, snd_ite, ite_self, implies_true]

theorem Dev.readoutRun_sram (d : Dev) : (Dev.readoutRun d).sram = d.sram := by
  simp only [Dev.readoutRun, toLive_ite, sram_ite, ite_self]

theorem Dev.applyClaim_sram (d : Dev) : (Dev.applyClaim d).sram = d.sram := by
  (simp only [Dev.applyClaim]; (repeat' split) <;> first | with_reducible rfl | simp only [Dev.dropOutputs_sram, Dev.readoutRun_sram, Dev.setTow_sram, Dev.takeover_sram, implies_true])

theorem claimLineClear_sram (v : Nat) (d : Dev) : (claimLineClear v d).2.sram = d.sram := by
  simp only [claimLineClear, Dev.setTow_sram, toLive_ite, sram_ite, snd_ite, ite_self]

theorem claimLineMaskWrite_sram (v : BitVec 8) (d : Dev) : (claimLineMaskWrite v d).2.sram = d.sram := by
  simp only [claimLineMaskWrite, toLive_ite, sram_ite, snd_ite, ite_self]

/-! ## Checkpoint -/

theorem Dev.fillBuffer_sram_q (d : Dev) (b : Nat) (es : List Nat) (h : d.sram.sound = true) : (d.fillBuffer b es).sram.sound = true := by
  exact each_sram_q _ _ _ (fun e x hx => Dev.captureWord_sram_q x b e hx) (mem_sound _ (blank_sound _) h)

theorem Dev.countImage_sram (d : Dev) (i : Nat) : (Dev.countImage d i).sram = d.sram := by
  simp only [Dev.countImage, Dev.setTow_sram]

theorem Dev.finishCapture_sram_q (d : Dev) (h : d.sram.sound = true) : (Dev.finishCapture d).sram.sound = true := by
  (simp +contextual only [Dev.finishCapture]; (repeat' split) <;> first | with_reducible rfl | (simp +contextual only [Dev.capture_sram, Dev.fillBuffer_sram_q, Dev.setTow_sram, Dev.takeSpare_sram, implies_true, h]))

theorem Dev.beginCapture_sram (d : Dev) : (Dev.beginCapture d).sram = d.sram := by
  simp only [Dev.beginCapture, Dev.setTow_sram, Dev.countImage_sram, toLive_ite, sram_ite, ite_self]

theorem Dev.intervalTick_sram (d : Dev) : (Dev.intervalTick d).sram = d.sram := by
  simp only [Dev.intervalTick, Dev.setTow_sram, toLive_ite, sram_ite, ite_self]

theorem Dev.toMate_sram (d : Dev) (l cls typ : Nat) (poison : Bool) (payload : List Byte) :
    (Dev.toMate d l cls typ poison payload).sram = d.sram := by
  simp only [Dev.toMate, Dev.sendLocal_sram]

theorem Dev.toMateBoth_sram (d : Dev) (cls typ : Nat) (payload : List Byte) :
    (Dev.toMateBoth d cls typ payload).sram = d.sram := by
  simp only [Dev.toMateBoth, Dev.toMate_sram, each_sram, toLive_ite, sram_ite, ite_self, implies_true]

theorem checkpointSend_sram (d : Dev) : (checkpointSend d).sram = d.sram := by
  (simp only [checkpointSend]; (repeat' split) <;> first | with_reducible rfl | simp only [Dev.setTow_sram, Dev.countImage_sram, Dev.toMate_sram, Dev.toMateBoth_sram])

theorem Dev.openReception_sram (d : Dev) (m : ChunkMsg) : (Dev.openReception d m).sram = d.sram := by
  (simp only [Dev.openReception]; (repeat' split) <;> first | with_reducible rfl | simp only [Dev.setTow_sram, Dev.countImage_sram])

theorem checkpointReceive_sram_q (m : ChunkMsg) (poison : Bool) (d : Dev) (h : d.sram.sound = true) :
    (checkpointReceive m poison d).sram.sound = true := by
  (simp +contextual only [checkpointReceive, Dev.takeAny_sram, toLive_ite, sram_ite, sound_ite, h]; (repeat' split) <;> first | with_reducible rfl | (simp +contextual only [Dev.takeAny_sram, Dev.setTow_sram, Dev.openReception_sram, Dev.mem_sram_q, implies_true, putWords_sound, h]))

theorem checkpointSeal_sram (m : SealMsg) (d : Dev) : (checkpointSeal m d).sram = d.sram := by
  (simp only [checkpointSeal]; (repeat' split) <;> first | with_reducible rfl | simp only [Dev.raise_sram, Dev.takeAny_sram, Dev.setTow_sram, Dev.countImage_sram])

theorem Dev.fieldRec_sram_q (d : Dev) (e : Nat) (who : Finder) (f : Rec → Rec) (h : d.sram.sound = true) : (d.fieldRec e who f).sram.sound = true := by
  exact mem_sound _ (putFields_sound _ _ _) h

theorem Dev.restoreWord_sram_q (d : Dev) (e w : Nat) (bad : Bool) (h : d.sram.sound = true) : (d.restoreWord e w bad).sram.sound = true := by
  unfold Dev.restoreWord
  dsimp only
  have h2 : ∀ (c : Prop) [Decidable c] (n : Nat) (x : Dev), x.sram.sound = true →
      (if c then x.setCause e n .checkpointUnit else x).sram.sound = true := by
    intro c _ n x hx
    split
    · exact Dev.setCause_sram_q _ _ _ _ hx
    · exact hx
  have h3 := h2 (bitsOf w 33 3 = 4) (bitsOf w 0 32 % 8) _ (Dev.setJump_sram_q _ e (bit w 32) .checkpointUnit
    (Dev.fieldRec_sram_q d e .checkpointUnit (fun r => { r with
      codeOut := bitsOf w 50 14, codeND := bitsOf w 36 14, mode := bitsOf w 33 3
      integ := if bitsOf w 33 3 = 0 ∨ bitsOf w 33 3 = 3 then signed 32 (bitsOf w 0 32) else r.integ
      manualCode := if bitsOf w 33 3 = 1 then bitsOf w 0 32 % 2 ^ 14 else r.manualCode }) h))
  split
  · exact mem_sound _ (each_keeps (fun m : Mem => m.sound = true) _ _ _ (fun a m hm => mark_sound _ _ hm)) h3
  · exact h3

theorem Dev.ack_sram (d : Dev) (n : BitVec 32) (r : Resp) : (Dev.ack d n r).sram = d.sram := by
  simp only [Dev.ack, Dev.toMate_sram, toLive_ite, sram_ite, ite_self]

theorem Dev.lastFromImage_sram (d : Dev) (b : Nat) : (d.lastFromImage b).sram = d.sram :=
  each_sram _ _ _ (fun e x => Dev.setLast_sram _ _ _)

theorem Dev.restoreImage_sram_q (d : Dev) (b : Nat) (h : d.sram.sound = true) : (d.restoreImage b).sram.sound = true := by
  unfold Dev.restoreImage
  generalize List.range 32768 = l
  exact each_sram_q _ _ _ (fun e x hx => Dev.restoreWord_sram_q x e _ _ hx) h

theorem imageResident_sram_q (d : Dev) (h : d.sram.sound = true) : (imageResident d).sram.sound = true := by
  unfold imageResident
  split
  · exact h
  · split
    · exact h
    · dsimp only
      have h1 : ∀ (c : Prop) [Decidable c] (b : Nat) (x : Dev), x.sram = d.sram →
          (if c then (x.lastFromImage b).restoreImage b else x.lastFromImage b).sram.sound = true := by
        intro c _ b x hx
        have hy : (x.lastFromImage b).sram.sound = true := by rw [Dev.lastFromImage_sram, hx]; exact h
        split
        · exact Dev.restoreImage_sram_q _ b hy
        · exact hy
      split
      · rw [Dev.countImage_sram]; exact h
      · simp only [toLive_ite, sram_ite, Dev.setTow_sram, Dev.toMate_sram, Dev.countImage_sram, ite_self]
        split
        · exact Dev.restoreImage_sram_q _ _ (by rw [Dev.lastFromImage_sram]; exact h)
        · rw [Dev.lastFromImage_sram]; exact h

theorem imageAck_sram (cycle : Nat) (d : Dev) : (imageAck cycle d).sram = d.sram := by
  simp only [imageAck, Dev.takeAny_sram, Dev.setTow_sram, toLive_ite, sram_ite, ite_self]

theorem Dev.readinessTick_sram (d : Dev) : (Dev.readinessTick d).sram = d.sram := by
  simp only [Dev.readinessTick, Dev.raiseIf_sram, Dev.setTow_sram]

theorem intervalWrite_sram (v : Nat) (d : Dev) : (intervalWrite v d).2.sram = d.sram := by
  simp only [intervalWrite, toLive_ite, sram_ite, snd_ite, ite_self]

theorem freshLimitWrite_sram (v : Nat) (d : Dev) : (freshLimitWrite v d).2.sram = d.sram := by
  simp only [freshLimitWrite, toLive_ite, sram_ite, snd_ite, ite_self]

/-! ## Sweep -/

theorem sweepRequest_sram (e : Nat) (force : Bool) (d : Dev) : (sweepRequest e force d).2.sram = d.sram := by
  simp only [sweepRequest, Dev.setCal_sram, toLive_ite, sram_ite, snd_ite, ite_self]

theorem sweepRequestWrite_sram (b : List Byte) (d : Dev) : (sweepRequestWrite b d).2.sram = d.sram := by
  simp only [sweepRequestWrite, sweepRequest_sram]

theorem sweepStart_sram (d : Dev) : (sweepStart d).sram = d.sram := by
  (simp only [sweepStart]; (repeat' split) <;> first | with_reducible rfl | simp only [Dev.raiseIf_sram, Dev.setCal_sram])

theorem Dev.sweepTick_sram (d : Dev) : (Dev.sweepTick d).sram = d.sram := by
  simp only [Dev.sweepTick, Dev.setCal_sram]

theorem Dev.putResult_sram (d : Dev) (e : Nat) (r : SweepResult) : (Dev.putResult d e r).sram = d.sram := by
  simp only [Dev.putResult, Dev.setCal_sram]

theorem Dev.firmwarePoints_sram_q (d : Dev) (e : Nat) (pts : List (Nat × Curve)) (h : d.sram.sound = true) :
    (Dev.firmwarePoints d e pts).2.sram.sound = true := by
  simp +contextual only [Dev.firmwarePoints, Dev.setCal_sram, Dev.putPoints_sram_q, toLive_ite, sram_ite, snd_ite, ite_self, sound_ite, h]

theorem Dev.resumeSwept_sram_q (d : Dev) (e : Nat) (h : d.sram.sound = true) : (Dev.resumeSwept d e).sram.sound = true := by
  simp +contextual only [Dev.resumeSwept, Dev.enterCurve_sram_q, Dev.setCal_sram, Dev.setLoop_sram, toLive_ite, sram_ite, snd_ite, ite_self, sound_ite, implies_true, h]

theorem sweepEnd_sram_q (e : Nat) (d : Dev) (h : d.sram.sound = true) : (sweepEnd e d).sram.sound = true := by
  (simp +contextual only [sweepEnd, snd_ite]; (repeat' split) <;> first | with_reducible rfl | (simp +contextual only [Dev.setCal_sram, Dev.putResult_sram, Dev.firmwarePoints_sram_q, Dev.resumeSwept_sram_q, h]))

theorem sweepCancel_sram (e : Nat) (d : Dev) : (sweepCancel e d).2.sram = d.sram := by
  simp only [sweepCancel, Dev.setCal_sram, Dev.putResult_sram, toLive_ite, sram_ite, snd_ite, ite_self]

theorem Dev.abortSweep_sram (d : Dev) (e : Nat) : (Dev.abortSweep d e).sram = d.sram := by
  simp only [Dev.abortSweep, Dev.setCal_sram, Dev.putResult_sram, toLive_ite, sram_ite, ite_self]

theorem Dev.refitTick_sram (d : Dev) : (Dev.refitTick d).sram = d.sram := by
  simp only [Dev.refitTick, Dev.setCal_sram, toLive_ite, sram_ite, ite_self]

theorem Dev.noteLimited_sram (d : Dev) (k : Nat) (dir : Int) : (Dev.noteLimited d k dir).sram = d.sram := by
  simp only [Dev.noteLimited, Dev.raiseIf_sram, Dev.setCal_sram]

theorem Dev.refitA0_sram (d : Dev) (e : Nat) (pts : List (Nat × Curve)) : (d.refitA0 e pts).2.sram = d.sram := by
  simp only [Dev.refitA0, Dev.noteLimited_sram, toLive_ite, sram_ite, snd_ite, ite_self]

theorem Dev.refitA1_sram (d : Dev) (e : Nat) (w : Refit) (pts : List (Nat × Curve)) : (d.refitA1 e w pts).2.sram = d.sram := by
  simp only [Dev.refitA1, Dev.noteLimited_sram, toLive_ite, sram_ite, snd_ite, ite_self]

theorem Dev.refitStore_sram_q (d : Dev) (e : Nat) (pts : List (Nat × Curve)) (h : d.sram.sound = true) :
    (d.refitStore e pts).sram.sound = true := by
  unfold Dev.refitStore
  dsimp only
  split
  · exact h
  · split
    · rw [Dev.setCal_sram]; exact Dev.firmwarePoints_sram_q _ _ _ h
    · exact Dev.firmwarePoints_sram_q _ _ _ h

theorem refitWindowClose_sram_q (e : Nat) (d : Dev) (h : d.sram.sound = true) : (refitWindowClose e d).sram.sound = true := by
  unfold refitWindowClose
  split
  · exact h
  · split
    · exact h
    · dsimp only
      split
      · rw [Dev.setCal_sram]; exact h
      · exact Dev.refitStore_sram_q _ _ _ (by rw [Dev.refitA1_sram, Dev.refitA0_sram, Dev.takeSpare_sram, Dev.setCal_sram]; exact h)

/-! ## Fabric -/

theorem fabricBlockWrite_sram (j : Nat) (b : List Byte) (d : Dev) : (fabricBlockWrite j b d).2.sram = d.sram := by
  simp only [fabricBlockWrite, Dev.setFab_sram, toLive_ite, sram_ite, snd_ite, ite_self]

theorem fabricLengthWrite_sram (v : Nat) (d : Dev) : (fabricLengthWrite v d).2.sram = d.sram := by
  simp only [fabricLengthWrite, toLive_ite, sram_ite, snd_ite, ite_self]

theorem Dev.placeElem_sram_q (d : Dev) (old new : List Byte) (e : Nat) (h : d.sram.sound = true) : (Dev.placeElem d old new e).sram.sound = true := by
  simp +contextual only [Dev.placeElem, Dev.fieldRec_sram_q, Dev.setCause_sram_q, toLive_ite, sram_ite, snd_ite, ite_self, sound_ite, implies_true, h]

theorem Dev.putTables_sram_q (d : Dev) (img : List Byte) (h : d.sram.sound = true) :
    (Dev.putTables d img).sram.sound = true := by
  simp +contextual only [Dev.putTables, Dev.mem_sram_q, implies_true, putBlock_sound, h]

theorem fabricApply_sram_q (v : Nat) (d : Dev) (h : d.sram.sound = true) : (fabricApply v d).2.sram.sound = true := by
  unfold fabricApply
  dsimp only
  repeat' split
  all_goals first
    | exact h
    | (rw [Dev.setFab_sram]; exact h)
    | (rw [Dev.setFab_sram]; exact Dev.putTables_sram_q _ _ (each_sram_q _ _ _ (fun _ _ hx => Dev.placeElem_sram_q _ _ _ _ hx) h))

theorem Dev.reassignSites_sram (d : Dev) (old new : List (Nat × Nat × Nat)) :
    (Dev.reassignSites d old new).sram = d.sram := by
  simp only [Dev.reassignSites, each_sram, implies_true]

theorem Dev.missCommit_sram (d : Dev) (c : PendingCommit) (cause : Nat) : (Dev.missCommit d c cause).sram = d.sram := by
  simp only [Dev.missCommit, Dev.setCirc_sram]

theorem Dev.clearLabels_sram (d : Dev) : (Dev.clearLabels d).sram = d.sram := by
  simp only [Dev.clearLabels, Dev.setDec_sram]

theorem Dev.keepTaps_sram (d old : Dev) : (Dev.keepTaps d old).sram = d.sram := by
  simp only [Dev.keepTaps, Dev.setDec_sram, toLive_ite, sram_ite, snd_ite, ite_self, implies_true]

theorem Dev.missAhead_sram (d : Dev) : (Dev.missAhead d).sram = d.sram := by
  unfold Dev.missAhead
  split
  · exact Dev.missCommit_sram ..
  · rfl

theorem Dev.dropJumps_sram_q (d : Dev) (l : List Nat) (h : d.sram.sound = true) : (d.dropJumps l).sram.sound = true := by
  refine each_sram_q _ _ _ (fun e y hy => ?_) h
  split
  · exact Dev.setJump_sram_q _ _ _ _ hy
  · exact hy

theorem fabricInForce_sram_q (d : Dev) (h : d.sram.sound = true) : (fabricInForce d).sram.sound = true := by
  unfold fabricInForce
  split
  · exact h
  · rw [Dev.clearLabels_sram, Dev.keepTaps_sram]
    exact Dev.dropPorts_sram_q _ _ (Dev.dropJumps_sram_q _ _ (by rw [Dev.missAhead_sram, Dev.setFab_sram, Dev.reassignSites_sram]; exact h))

/-! ## Verify -/

theorem Dev.enterPending_sram (d : Dev) (k tick : Nat) : (Dev.enterPending d k tick).sram = d.sram := by
  simp only [Dev.enterPending, Dev.setVer_sram, Dev.setVerState_sram]

theorem Dev.pendAll_sram (d : Dev) : (Dev.pendAll d).sram = d.sram := by
  simp only [Dev.pendAll, Dev.enterPending_sram, each_sram, toLive_ite, sram_ite, ite_self, implies_true]

theorem Dev.verifyCommit_sram (d : Dev) (marked : List Nat) : (Dev.verifyCommit d marked).sram = d.sram := by
  simp only [Dev.verifyCommit, each_sram, Dev.enterPending_sram, Dev.setVer_sram, Dev.setVerState_sram, Dev.verifyDone_sram, toLive_ite, sram_ite, snd_ite, ite_self, implies_true]

theorem Dev.verifyTick_sram (d : Dev) : (Dev.verifyTick d).sram = d.sram := by
  simp only [Dev.verifyTick, Dev.setVer_sram, Dev.pendAll_sram, Dev.verifyDone_sram, toLive_ite, sram_ite, ite_self]

theorem verifyEnableWrite_sram (v : Bool) (d : Dev) : (verifyEnableWrite v d).2.sram = d.sram := by
  simp only [verifyEnableWrite]

theorem verifyTimeoutWrite_sram (v : Nat) (d : Dev) : (verifyTimeoutWrite v d).2.sram = d.sram := by
  simp only [verifyTimeoutWrite, toLive_ite, sram_ite, snd_ite, ite_self]

theorem verifyTimeout_sram (k : Nat) (d : Dev) : (verifyTimeout k d).sram = d.sram := by
  simp only [verifyTimeout, Dev.raise_sram, Dev.setVerState_sram, Dev.setVer_sram, Dev.verifyDone_sram, toLive_ite, sram_ite, ite_self]

/-! ## Trace -/

theorem traceArm_sram_q (d : Dev) (h : d.sram.sound = true) : (traceArm d).2.sram.sound = true := by
  unfold traceArm
  dsimp only
  repeat' split
  · exact h
  · exact h
  · rw [Dev.setTrace_sram]
    rw [sound_iff] at h ⊢
    exact ⟨wf_filter _ h.1, wf_filter _ h.2.1, h.2.2⟩

theorem traceForce_sram (d : Dev) : (traceForce d).2.sram = d.sram := by
  simp only [traceForce, Dev.fireTrace_sram, toLive_ite, sram_ite, snd_ite, ite_self]

theorem traceDisarm_sram (d : Dev) : (traceDisarm d).2.sram = d.sram := by
  simp only [traceDisarm, Dev.setTrace_sram]

theorem traceControlWrite_sram_q (v : Nat) (d : Dev) (h : d.sram.sound = true) :
    (traceControlWrite v d).2.sram.sound = true := by
  (simp +contextual only [traceControlWrite]; (repeat' split) <;> first | with_reducible rfl | (simp +contextual only [traceForce_sram, traceDisarm_sram, traceArm_sram_q, h]))

theorem Dev.openGroup_sram_q (d : Dev) (h : d.sram.sound = true) : (Dev.openGroup d).sram.sound = true := by
  simp +contextual only [Dev.openGroup, Dev.setTrace_sram, Dev.traceEntry_sram_q, each_sram_q, implies_true, h]

theorem Dev.traceTick_sram_q (d : Dev) (snap : Bool) (ended : Nat) (h : d.sram.sound = true) :
    (Dev.traceTick d snap ended).sram.sound = true := by
  (simp +contextual only [Dev.traceTick, Dev.setTrace_sram, Dev.traceSource_sram, toLive_ite, sram_ite, ite_self, sound_ite, h]; (repeat' split) <;> first | with_reducible rfl | (simp +contextual only [Dev.setTrace_sram, Dev.traceSource_sram, Dev.openGroup_sram_q, h]))

theorem Dev.traceSet_sram (d : Dev) (ok : Bool) (f : TraceCfg → TraceCfg) : (Dev.traceSet d ok f).2.sram = d.sram := by
  simp only [Dev.traceSet, Dev.setTraceCfg_sram, toLive_ite, sram_ite, snd_ite, ite_self]

theorem traceElementsWrite_sram (b : List Byte) (d : Dev) : (traceElementsWrite b d).2.sram = d.sram := by
  simp only [traceElementsWrite, Dev.traceSet_sram]

theorem traceNodesWrite_sram (v : Nat) (d : Dev) : (traceNodesWrite v d).2.sram = d.sram := by
  simp only [traceNodesWrite, Dev.traceSet_sram]

theorem traceModeWrite_sram (v : Nat) (d : Dev) : (traceModeWrite v d).2.sram = d.sram := by
  simp only [traceModeWrite, Dev.traceSet_sram]

theorem tracePostWrite_sram (v : Nat) (d : Dev) : (tracePostWrite v d).2.sram = d.sram := by
  simp only [tracePostWrite, Dev.traceSet_sram]

theorem traceDecimateWrite_sram (v : Nat) (d : Dev) : (traceDecimateWrite v d).2.sram = d.sram := by
  simp only [traceDecimateWrite, Dev.traceSet_sram]

theorem traceTriggerWrite_sram (v : Nat) (d : Dev) : (traceTriggerWrite v d).2.sram = d.sram := by
  simp only [traceTriggerWrite, Dev.traceSet_sram]

/-! ## Slot -/

/-! ## Commit -/

theorem commitRequest_sram (r : CommitReq) (d : Dev) : (commitRequest r d).2.sram = d.sram := by
  (simp only [commitRequest, toLive_ite, sram_ite, snd_ite]; (repeat' split) <;> first | with_reducible rfl | simp only [Dev.setCirc_sram])

theorem commitWrite_sram (b : List Byte) (d : Dev) : (commitWrite b d).2.sram = d.sram := by
  simp only [commitWrite, commitRequest_sram, toLive_ite, sram_ite, snd_ite, ite_self]

theorem commitCancel_sram (v : Nat) (d : Dev) : (commitCancel v d).2.sram = d.sram := by
  (simp only [commitCancel, toLive_ite, sram_ite, snd_ite]; (repeat' split) <;> first | with_reducible rfl | simp only [Dev.setCirc_sram])

theorem Dev.armCommit_sram (d : Dev) (c : PendingCommit) : (Dev.armCommit d c).sram = d.sram := by
  simp only [Dev.armCommit, Dev.setCirc_sram, Dev.abortSweep_sram, each_sram, implies_true]

theorem armingPoint_sram (d : Dev) : (armingPoint d).sram = d.sram := by
  (simp only [armingPoint]; (repeat' split) <;> first | with_reducible rfl | simp only [Dev.raise_sram, Dev.missCommit_sram, Dev.armCommit_sram])

theorem Dev.putCommitted_sram_q (d : Dev) (e : Nat) (h : d.sram.sound = true) : (Dev.putCommitted d e).sram.sound = true :=
  mem_sound _ (fun hx => putWord_sound _ _ (putWord_sound _ _ hx)) h

theorem Dev.fieldsLater_sram_q (d : Dev) (marked : List Nat) (h : d.sram.sound = true) : (d.fieldsLater marked).sram.sound = true := by
  unfold Dev.fieldsLater
  rw [Dev.setCirc_sram]
  exact each_sram_q _ _ _ (fun e x hx => Dev.setJump_sram_q _ _ _ _ (Dev.putCommitted_sram_q _ _ hx)) h

theorem Dev.swapBanks_sram (d : Dev) (a : Armed) : (Dev.swapBanks d a).sram = d.sram := by
  simp only [Dev.swapBanks, Dev.setCirc_sram]

theorem Dev.finishCopy_sram_q (d : Dev) (h : d.sram.sound = true) : (Dev.finishCopy d).sram.sound = true := by
  (simp +contextual only [Dev.finishCopy]; (repeat' split) <;> first | with_reducible rfl | (simp +contextual only [Dev.setCirc_sram, Dev.mem_sram_q, implies_true, copyBank_sound, h]))

theorem bankCopy_sram_q (d : Dev) (h : d.sram.sound = true) : (bankCopy d).sram.sound = true := by
  simp +contextual only [bankCopy, Dev.finishCopy_sram_q, h]

theorem Dev.commitTick_sram_q (d : Dev) (h : d.sram.sound = true) : (Dev.commitTick d).sram.sound = true := by
  (simp +contextual only [Dev.commitTick, Dev.swapBanks_sram]; (repeat' split) <;> first | with_reducible rfl | (simp +contextual only [Dev.verifyCommit_sram, Dev.fieldsLater_sram_q, Dev.finishCopy_sram_q, h]))

theorem Dev.digestTick_sram (d : Dev) : (Dev.digestTick d).sram = d.sram := by
  simp only [Dev.digestTick, Dev.setCirc_sram, toLive_ite, sram_ite, ite_self]

theorem Dev.markTakeover_sram (d : Dev) : (Dev.markTakeover d).sram = d.sram := by
  simp only [Dev.markTakeover, Dev.setCirc_sram]

theorem commitDone_sram (d : Dev) : (commitDone d).sram = d.sram := by
  (simp only [commitDone]; (repeat' split) <;> first | with_reducible rfl | simp only [Dev.raise_sram, Dev.setCirc_sram])

theorem ffErrorRecord_sram (d : Dev) : (ffErrorRecord d).sram = d.sram := by
  (simp only [ffErrorRecord]; (repeat' split) <;> first | with_reducible rfl | simp only [Dev.draw_sram, Dev.setCirc_sram])

/-! ## Decoder -/

theorem labelGone_sram_q (t j : Nat) (d : Dev) (h : d.sram.sound = true) : (labelGone t j d).sram.sound = true := by
  (simp +contextual only [labelGone]; (repeat' split) <;> first | with_reducible rfl | (simp +contextual only [Dev.setChan_sram, Dev.notify_sram_q, h]))

theorem Dev.pausePairs_sram (d : Dev) : (Dev.pausePairs d).sram = d.sram := by
  simp only [Dev.pausePairs, Dev.setDec_sram, toLive_ite, sram_ite, snd_ite, ite_self, implies_true]

theorem Dev.pairTick_sram (d : Dev) : (Dev.pairTick d).sram = d.sram := by
  simp only [Dev.pairTick, iter_sram, Dev.pausePairs_sram, Dev.raiseIf_sram, Dev.setDec_sram, toLive_ite, sram_ite, snd_ite, ite_self, implies_true]

theorem pairWrite_sram (j f0 f1 : Nat) (on : Bool) (d : Dev) : (pairWrite j f0 f1 on d).2.sram = d.sram := by
  simp only [pairWrite, Dev.setDec_sram, Dev.setDecCfg_sram, toLive_ite, sram_ite, snd_ite, ite_self]

theorem decoderStop_sram (d : Dev) : (decoderStop d).2.sram = d.sram := by
  simp only [decoderStop, Dev.setDec_sram, Dev.setDecCfg_sram]

theorem decoderStart_sram (d : Dev) : (decoderStart d).2.sram = d.sram := by
  simp only [decoderStart, Dev.setDec_sram, Dev.setDecCfg_sram]

theorem decoderControlWrite_sram (v : Nat) (d : Dev) : (decoderControlWrite v d).2.sram = d.sram := by
  (simp only [decoderControlWrite]; (repeat' split) <;> first | with_reducible rfl | simp only [decoderStop_sram, decoderStart_sram])

theorem Dev.repend_sram (d : Dev) : (Dev.repend d).sram = d.sram := by
  simp only [Dev.repend, Dev.pendAll_sram, Dev.setVer_sram, Dev.verifyDone_sram, toLive_ite, sram_ite, snd_ite, ite_self, implies_true]

theorem Dev.resumeDecoder_sram_q (d : Dev) (h : d.sram.sound = true) : (Dev.resumeDecoder d).sram.sound = true := by
  simp +contextual only [Dev.resumeDecoder, Dev.hitAll_sram_q, Dev.repend_sram, Dev.setDec_sram, toLive_ite, sram_ite, snd_ite, ite_self, sound_ite, implies_true, h]

theorem Dev.leaveDecoder_sram (d : Dev) (x : DecoderState) : (Dev.leaveDecoder d x).sram = d.sram := by
  simp only [Dev.leaveDecoder, Dev.setDec_sram, Dev.clearLabels_sram]

theorem Dev.decoderTick_sram_q (d : Dev) (h : d.sram.sound = true) : (Dev.decoderTick d).sram.sound = true := by
  (simp +contextual only [Dev.decoderTick, Dev.setDec_sram, toLive_ite, sram_ite, ite_self, sound_ite, h]; (repeat' split) <;> first | with_reducible rfl | (simp +contextual only [Dev.setDec_sram, Dev.leaveDecoder_sram, Dev.resumeDecoder_sram_q, h]))

theorem decoderStopped_sram_q (d : Dev) (h : d.sram.sound = true) : (decoderStopped d).sram.sound = true := by
  (simp +contextual only [decoderStopped, toLive_ite, sram_ite, sound_ite, h]; (repeat' split) <;> first | with_reducible rfl | (simp +contextual only [Dev.setDec_sram, Dev.resumeDecoder_sram_q, h]))

theorem minLevelWrite_sram (v : Nat) (d : Dev) : (minLevelWrite v d).2.sram = d.sram := by
  simp only [minLevelWrite, Dev.setDecCfg_sram]

theorem learnModeWrite_sram (v : Nat) (d : Dev) : (learnModeWrite v d).2.sram = d.sram := by
  simp only [learnModeWrite, Dev.setDecCfg_sram, toLive_ite, sram_ite, snd_ite, ite_self]

theorem learnRepostWrite_sram (v : Nat) (d : Dev) : (learnRepostWrite v d).2.sram = d.sram := by
  simp only [learnRepostWrite, Dev.setDecCfg_sram, toLive_ite, sram_ite, snd_ite, ite_self]

/-! ## Rotation -/

theorem Dev.setRotPos_sram (d : Dev) (g p : Nat) : (Dev.setRotPos d g p).sram = d.sram := by
  simp only [Dev.setRotPos, Dev.setCal_sram]

theorem Dev.requestMove_sram (d : Dev) (g c t : Nat) : (Dev.requestMove d g c t).sram = d.sram := by
  (simp only [Dev.requestMove]; (repeat' split) <;> first | with_reducible rfl | simp only [Dev.setCal_sram])

theorem Dev.enterStep_sram (d : Dev) (g : Nat) (col : Option Nat) : (Dev.enterStep d g col).sram = d.sram := by
  (simp only [Dev.enterStep]; (repeat' split) <;> first | with_reducible rfl | simp only [Dev.moveColumn_sram, Dev.loadCorr_sram, Dev.setCal_sram, Dev.setRotPos_sram])

theorem Dev.startStep_sram (d : Dev) (g : Nat) : (Dev.startStep d g).sram = d.sram := by
  (simp only [Dev.startStep, toLive_ite, sram_ite]; (repeat' split) <;> first | with_reducible rfl | simp only [Dev.setCal_sram, Dev.setRotPos_sram, Dev.requestMove_sram, Dev.enterStep_sram])

theorem Dev.settleRotation_sram (d : Dev) : (Dev.settleRotation d).sram = d.sram := by
  (simp only [Dev.settleRotation]; (repeat' split) <;> first | with_reducible rfl | simp only [Dev.setCal_sram, Dev.startStep_sram, iter_sram, implies_true])

theorem Dev.rotateGroup_sram (d : Dev) (g : Nat) : (Dev.rotateGroup d g).sram = d.sram := by
  (simp only [Dev.rotateGroup]; (repeat' split) <;> first | with_reducible rfl | simp only [Dev.setCal_sram, Dev.requestMove_sram, Dev.startStep_sram])

theorem Dev.rotationTick_sram (d : Dev) : (Dev.rotationTick d).sram = d.sram := by
  simp only [Dev.rotationTick, Dev.settleRotation_sram, Dev.rotateGroup_sram, iter_sram, toLive_ite, sram_ite, ite_self, implies_true]

theorem Dev.applyCorr_sram_q (d : Dev) (x g : Nat) (k : Int × Int) (h : d.sram.sound = true) :
    (Dev.applyCorr d x g k).sram.sound = true := by
  simp +contextual only [Dev.applyCorr, Dev.raiseIf_sram, Dev.putCorr_sram_q, h]

theorem Dev.driverDrift_sram (d : Dev) (c : Nat) (m : StepMeasure) : (Dev.driverDrift d c m).sram = d.sram := by
  simp only [Dev.driverDrift, Dev.raiseIf_sram, toLive_ite, sram_ite, snd_ite, ite_self, implies_true]

theorem Dev.applyStep_sram_q (d : Dev) (chain : Nat) (m : StepMeasure) (h : d.sram.sound = true) : (d.applyStep chain m).sram.sound = true := by
  unfold Dev.applyStep
  dsimp only
  rw [Dev.loadCorr_sram, Dev.setRdCfg_sram]
  refine iter_sram_q _ _ _ _ (fun b x hx => iter_sram_q _ _ _ _ (fun g y hy => Dev.applyCorr_sram_q y _ g _ hy) hx) ?_
  rw [Dev.setDrvCfg_sram, Dev.driverDrift_sram]
  exact h

theorem Dev.setColStatus_sram (d : Dev) (c v : Nat) : (Dev.setColStatus d c v).sram = d.sram := by
  simp only [Dev.setColStatus, Dev.setCal_sram]

theorem Dev.failStep_sram (d : Dev) (g : Nat) (col : Option Nat) (m : StepMeasure) :
    (Dev.failStep d g col m).sram = d.sram := by
  (simp only [Dev.failStep, Dev.raise_sram]; (repeat' split) <;> first | with_reducible rfl | simp only [Dev.setDrv_sram, Dev.permanentSpare_sram, Dev.setColStatus_sram])

theorem rotationStepEnd_sram_q (g : Nat) (m : StepMeasure) (d : Dev) (h : d.sram.sound = true) :
    (rotationStepEnd g m d).sram.sound = true := by
  (simp +contextual only [rotationStepEnd]; (repeat' split) <;> first | with_reducible rfl | (simp +contextual only [Dev.returnColumn_sram, Dev.setCal_sram, Dev.setRotPos_sram, Dev.startStep_sram, Dev.settleRotation_sram, Dev.setColStatus_sram, Dev.failStep_sram, Dev.applyStep_sram_q, h]))

theorem spareMoveDeferred_sram (g : Nat) (d : Dev) : (spareMoveDeferred g d).sram = d.sram := by
  (simp only [spareMoveDeferred]; (repeat' split) <;> first | with_reducible rfl | simp only [Dev.enterStep_sram])

theorem calColumnSkipped_sram (g : Nat) (d : Dev) : (calColumnSkipped g d).sram = d.sram := by
  (simp only [calColumnSkipped]; (repeat' split) <;> first | with_reducible rfl | simp only [Dev.raise_sram, Dev.setCal_sram, Dev.setRotPos_sram, Dev.startStep_sram, Dev.setColStatus_sram])

theorem calColumnRequest_sram (c : Nat) (d : Dev) : (calColumnRequest c d).2.sram = d.sram := by
  simp only [calColumnRequest, Dev.setCal_sram, toLive_ite, sram_ite, snd_ite, ite_self]

theorem Dev.rotationWrite_sram (d : Dev) (v : Nat) (f : RunState → RunState) : (Dev.rotationWrite d v f).sram = d.sram := by
  simp only [Dev.rotationWrite, Dev.setCal_sram, Dev.setCalCfg_sram]

theorem calRotationStop_sram (d : Dev) : (calRotationStop d).2.sram = d.sram := by
  simp only [calRotationStop, Dev.rotationWrite_sram]

theorem calRotationStart_sram (d : Dev) : (calRotationStart d).2.sram = d.sram := by
  simp only [calRotationStart, Dev.rotationWrite_sram]

theorem calRotationWrite_sram (v : Nat) (d : Dev) : (calRotationWrite v d).2.sram = d.sram := by
  (simp only [calRotationWrite]; (repeat' split) <;> first | with_reducible rfl | simp only [calRotationStop_sram, calRotationStart_sram])

/-! ## Links -/

theorem Dev.setRoutes_sram (d : Dev) (t : Tab (Option Route)) : (Dev.setRoutes d t).sram = d.sram := by
  simp only [Dev.setRoutes]

theorem Dev.addRoute_sram (d : Dev) (r : Route) : (Dev.addRoute d r).sram = d.sram := by
  (simp only [Dev.addRoute]; (repeat' split) <;> first | with_reducible rfl | simp only [Dev.setRoutes_sram])

theorem Dev.dropRoutes_sram (d : Dev) (p : Route → Bool) : (Dev.dropRoutes d p).sram = d.sram := by
  simp only [Dev.dropRoutes, Dev.setRoutes_sram]

theorem helloSend_sram (l : Nat) (d : Dev) : (helloSend l d).sram = d.sram := by
  (simp only [helloSend]; (repeat' split) <;> first | with_reducible rfl | simp only [Dev.sendLocal_sram])

theorem Dev.installB_sram (d : Dev) (r : Route) : (Dev.installB d r).sram = d.sram := by
  simp only [Dev.installB, Dev.addRoute_sram, toLive_ite, sram_ite, ite_self]

theorem Dev.childInstall_sram (d : Dev) (l : Nat) : (Dev.childInstall d l).sram = d.sram := by
  unfold Dev.childInstall
  split
  · rfl
  · rw [each_sram _ _ _ (fun r x => Dev.installB_sram x r)]

theorem Dev.planeBEntries_sram (d : Dev) (l : Nat) : (Dev.planeBEntries d l).sram = d.sram := by
  simp only [Dev.planeBEntries, each_sram, Dev.childInstall_sram, Dev.dropRoutes_sram, Dev.raiseIf_sram, toLive_ite, sram_ite, snd_ite, ite_self, implies_true]

theorem Dev.sendEnum_sram (d : Dev) (l op depth status : Nat) (value blockHigh : Nat) :
    (Dev.sendEnum d l op depth status value blockHigh).sram = d.sram := by
  simp only [Dev.sendEnum, Dev.sendLocal_sram]

theorem Dev.offerSpare_sram (d : Dev) (l : Nat) : (Dev.offerSpare d l).sram = d.sram := by
  simp only [Dev.offerSpare, Dev.raise_sram, Dev.setNet_sram, Dev.sendEnum_sram, toLive_ite, sram_ite, ite_self]

theorem Dev.keepFit_sram (d : Dev) (l : Nat) : (Dev.keepFit d l).sram = d.sram := by
  simp only [Dev.keepFit, Dev.countLane_sram, Dev.setLane_sram, toLive_ite, sram_ite, snd_ite, ite_self, implies_true]

theorem Dev.mateHello_sram (d : Dev) (l : Nat) : (Dev.mateHello d l).sram = d.sram := by
  simp only [Dev.mateHello, Dev.keepFit_sram, Dev.raiseIf_sram, Dev.setLane_sram, Dev.setNet_sram, toLive_ite, sram_ite, snd_ite, ite_self, implies_true]

theorem Dev.mateLinksJudge_sram (d : Dev) : (Dev.mateLinksJudge d).sram = d.sram := by
  simp only [Dev.mateLinksJudge, Dev.raise_sram, toLive_ite, sram_ite, ite_self]

theorem helloReceive_sram (l : Nat) (payload : List Byte) (d : Dev) : (helloReceive l payload d).sram = d.sram := by
  (simp only [helloReceive]; (repeat' split) <;> first | with_reducible rfl | simp only [Dev.keepFit_sram, Dev.mateHello_sram, Dev.mateLinksJudge_sram, Dev.offerSpare_sram, Dev.planeBEntries_sram, Dev.raiseIf_sram, Dev.setLane_sram, Dev.take_sram, implies_true])

theorem Dev.laneDown_sram (d : Dev) (l : Nat) (lock : Bool) : (Dev.laneDown d l lock).sram = d.sram := by
  simp only [Dev.laneDown, Dev.raiseIf_sram, Dev.setLane_sram, Dev.flushLane_sram, Dev.mateLinksJudge_sram, toLive_ite, sram_ite, ite_self]

theorem helloTimeout_sram (l : Nat) (d : Dev) : (helloTimeout l d).sram = d.sram := by
  (simp only [helloTimeout]; (repeat' split) <;> first | with_reducible rfl | simp only [Dev.laneDown_sram])

theorem Dev.countFec_sram (d : Dev) (l : Nat) (w : FecSeen) : (Dev.countFec d l w).sram = d.sram := by
  simp only [Dev.countFec, Dev.setLane_sram, toLive_ite, sram_ite, snd_ite, ite_self, implies_true]

theorem linkLockLoss_sram (l : Nat) (fec : FecSeen) (d : Dev) : (linkLockLoss l fec d).sram = d.sram := by
  (simp only [linkLockLoss]; (repeat' split) <;> first | with_reducible rfl | simp only [Dev.countFec_sram, Dev.laneDown_sram, implies_true])

theorem blockLockGained_sram (l : Nat) (d : Dev) : (blockLockGained l d).sram = d.sram := by
  simp only [blockLockGained, Dev.setLane_sram, toLive_ite, sram_ite, ite_self]

theorem Dev.setEnable_sram (d : Dev) (l : Nat) (b : Bool) : (Dev.setEnable d l b).sram = d.sram := by
  simp only [Dev.setEnable]

theorem Dev.setLaneState_sram (d : Dev) (l : Nat) (x : LaneState) : (Dev.setLaneState d l x).sram = d.sram := by
  simp only [Dev.setLaneState, Dev.setLane_sram]

theorem laneDisable_sram (l : Nat) (d : Dev) : (laneDisable l d).2.sram = d.sram := by
  (simp only [laneDisable]; (repeat' split) <;> first | with_reducible rfl | simp only [Dev.flushLane_sram, Dev.mateLinksJudge_sram, Dev.setEnable_sram, Dev.setLaneState_sram, implies_true])

theorem laneEnable_sram (l : Nat) (d : Dev) : (laneEnable l d).2.sram = d.sram := by
  (simp only [laneEnable]; (repeat' split) <;> first | with_reducible rfl | simp only [Dev.setEnable_sram, Dev.setLaneState_sram])

theorem laneDisabled_sram (l : Nat) (d : Dev) : (laneDisabled l d).sram = d.sram := by
  (simp only [laneDisabled]; (repeat' split) <;> first | with_reducible rfl | simp only [Dev.setLane_sram])

theorem laneRateWrite_sram (l v : Nat) (d : Dev) : (laneRateWrite l v d).2.sram = d.sram := by
  simp only [laneRateWrite, toLive_ite, sram_ite, snd_ite, ite_self]

theorem laneFecWrite_sram (l : Nat) (v : Bool) (d : Dev) : (laneFecWrite l v d).2.sram = d.sram := by
  simp only [laneFecWrite, toLive_ite, sram_ite, snd_ite, ite_self]

theorem helloPeriodWrite_sram (v : Nat) (d : Dev) : (helloPeriodWrite v d).2.sram = d.sram := by
  simp only [helloPeriodWrite, toLive_ite, sram_ite, snd_ite, ite_self]

/-! ## TimeXfer -/

theorem Dev.writeAddend_sram (d : Dev) (v : Nat) : (d.writeAddend v).sram = d.sram := by
  unfold Dev.writeAddend
  split
  · exact Dev.setTime_sram ..
  · rfl

theorem Dev.servo_sram (d : Dev) : (Dev.servo d).sram = d.sram := by
  simp only [Dev.servo, Dev.writeAddend_sram]

theorem Dev.holdOffset_sram (d : Dev) : (Dev.holdOffset d).sram = d.sram := by
  simp only [Dev.holdOffset, Dev.writeAddend_sram]

theorem Dev.chooseParent_sram (d : Dev) : (Dev.chooseParent d).sram = d.sram := by
  (simp only [Dev.chooseParent]; (repeat' split) <;> first | with_reducible rfl | simp only [Dev.setTime_sram])

theorem timeSyncSend_sram (d : Dev) : (timeSyncSend d).sram = d.sram := by
  simp only [timeSyncSend, Dev.sendLocal_sram, each_sram, implies_true]

theorem Dev.formOffset_sram (d : Dev) : (Dev.formOffset d).sram = d.sram := by
  (simp only [Dev.formOffset]; (repeat' split) <;> first | with_reducible rfl | simp only [Dev.setTime_sram])

theorem Dev.becomeLocked_sram (d : Dev) : (Dev.becomeLocked d).sram = d.sram := by
  simp only [Dev.becomeLocked, Dev.raise_sram, Dev.setTime_sram]

theorem Dev.countLock_sram (d : Dev) : (Dev.countLock d).sram = d.sram := by
  simp only [Dev.countLock, Dev.setTime_sram, Dev.becomeLocked_sram, toLive_ite, sram_ite, ite_self]

theorem Dev.syncState_sram (d : Dev) : (Dev.syncState d).sram = d.sram := by
  (simp only [Dev.syncState]; (repeat' split) <;> first | with_reducible rfl | simp only [Dev.setTime_sram, Dev.servo_sram, Dev.holdOffset_sram, Dev.formOffset_sram, Dev.countLock_sram])

theorem timeSyncReceive_sram (l : Nat) (t1 : Nat) (q : QueuedTime) (m : TimeSyncMsg) (d : Dev) : (timeSyncReceive l t1 q m d).sram = d.sram := by
  simp only [timeSyncReceive, Dev.chooseParent_sram, Dev.setTime_sram, Dev.syncState_sram, Dev.take_sram, toLive_ite, sram_ite, snd_ite, ite_self, implies_true]

theorem delayReqSend_sram (d : Dev) : (delayReqSend d).sram = d.sram := by
  (simp only [delayReqSend]; (repeat' split) <;> first | with_reducible rfl | simp only [Dev.sendLocal_sram, Dev.setTime_sram])

theorem delayReqReceive_sram (l seq : Nat) (d : Dev) : (delayReqReceive l seq d).sram = d.sram := by
  simp only [delayReqReceive, Dev.sendLocal_sram, Dev.take_sram, toLive_ite, sram_ite, snd_ite, ite_self, implies_true]

theorem Dev.qualify_sram (d : Dev) : (Dev.qualify d).sram = d.sram := by
  simp only [Dev.qualify, Dev.setTime_sram, toLive_ite, sram_ite, ite_self]

theorem delayRespReceive_sram (l : Nat) (m : DelayRespMsg) (d : Dev) : (delayRespReceive l m d).sram = d.sram := by
  (simp only [delayRespReceive]; (repeat' split) <;> first | with_reducible rfl | simp only [Dev.take_sram, Dev.setTime_sram, Dev.formOffset_sram, Dev.qualify_sram])

theorem timeStep_sram (d : Dev) : (timeStep d).sram = d.sram := by
  simp only [timeStep, Dev.setTime_sram, Dev.becomeLocked_sram, toLive_ite, sram_ite, ite_self]

theorem Dev.stepWaiting_sram (d : Dev) : (Dev.stepWaiting d).sram = d.sram := by
  simp only [Dev.stepWaiting, Dev.raise_sram, Dev.setTime_sram, toLive_ite, sram_ite, ite_self]

theorem Dev.loseBeforeLock_sram (d : Dev) : (Dev.loseBeforeLock d).sram = d.sram := by
  simp only [Dev.loseBeforeLock, Dev.setTime_sram, toLive_ite, sram_ite, ite_self]

theorem Dev.enterHoldover_sram (d : Dev) : (Dev.enterHoldover d).sram = d.sram := by
  simp only [Dev.enterHoldover, Dev.raise_sram, Dev.setTime_sram]

theorem parentLost_sram (d : Dev) : (parentLost d).sram = d.sram := by
  (simp only [parentLost, toLive_ite, sram_ite]; (repeat' split) <;> first | with_reducible rfl | simp only [Dev.setTime_sram, Dev.loseBeforeLock_sram, Dev.enterHoldover_sram])

theorem holdoverExpired_sram (d : Dev) : (holdoverExpired d).sram = d.sram := by
  simp only [holdoverExpired, Dev.raise_sram, Dev.setTime_sram, toLive_ite, sram_ite, ite_self]

theorem timeSet_sram (secs nanos : Nat) (d : Dev) : (timeSet secs nanos d).2.sram = d.sram := by
  simp only [timeSet, Dev.setTime_sram, toLive_ite, sram_ite, snd_ite, ite_self]

theorem timeSourceWrite_sram (v : Nat) (d : Dev) : (timeSourceWrite v d).2.sram = d.sram := by
  simp only [timeSourceWrite, toLive_ite, sram_ite, snd_ite, ite_self]

theorem Dev.ppsTrack_sram (d : Dev) : (Dev.ppsTrack d).sram = d.sram := by
  simp only [Dev.ppsTrack, Dev.setTime_sram, Dev.servo_sram, Dev.becomeLocked_sram, toLive_ite, sram_ite, ite_self]

theorem ppsInEdge_sram (d : Dev) : (ppsInEdge d).sram = d.sram := by
  (simp only [ppsInEdge]; (repeat' split) <;> first | with_reducible rfl | simp only [Dev.holdOffset_sram, Dev.ppsTrack_sram, Dev.setTime_sram, implies_true])

theorem ppsHoldover_sram (d : Dev) : (ppsHoldover d).sram = d.sram := by
  (simp only [ppsHoldover, toLive_ite, sram_ite]; (repeat' split) <;> first | with_reducible rfl | simp only [Dev.loseBeforeLock_sram, Dev.enterHoldover_sram])

theorem syncLog2Write_sram (v : Int) (d : Dev) : (syncLog2Write v d).2.sram = d.sram := by
  simp only [syncLog2Write, Dev.setTimeCfg_sram, toLive_ite, sram_ite, snd_ite, ite_self]

theorem delayReqLog2Write_sram (v : Int) (d : Dev) : (delayReqLog2Write v d).2.sram = d.sram := by
  simp only [delayReqLog2Write, Dev.setTimeCfg_sram, toLive_ite, sram_ite, snd_ite, ite_self]

theorem holdoverLimitWrite_sram (v : Nat) (d : Dev) : (holdoverLimitWrite v d).2.sram = d.sram := by
  simp only [holdoverLimitWrite, Dev.setTimeCfg_sram, toLive_ite, sram_ite, snd_ite, ite_self]

theorem asymTrimWrite_sram (l : Nat) (v : Int) (d : Dev) : (asymTrimWrite l v d).2.sram = d.sram := by
  simp only [asymTrimWrite, Dev.setTimeCfg_sram, toLive_ite, sram_ite, snd_ite, ite_self]

theorem Dev.tickOutEdge_sram (d : Dev) (mark : Bool) : (Dev.tickOutEdge d mark).sram = d.sram := by
  simp only [Dev.tickOutEdge, Dev.setTime_sram]

/-! ## Tower -/

theorem Dev.selfItem_sram (d : Dev) (fails i : Nat) : (Dev.selfItem d fails i).sram = d.sram := by
  simp only [Dev.selfItem, Dev.raise_sram, Dev.setTow_sram, toLive_ite, sram_ite, snd_ite, ite_self, implies_true]

theorem Dev.selftestTick_sram (d : Dev) (named : Nat) : (Dev.selftestTick d named).sram = d.sram := by
  simp only [Dev.selftestTick, iter_sram, Dev.selfItem_sram, Dev.setTow_sram, toLive_ite, sram_ite, snd_ite, ite_self, implies_true]

theorem mateHealthSend_sram (d : Dev) : (mateHealthSend d).sram = d.sram := by
  simp only [mateHealthSend, Dev.setTow_sram, Dev.toMateBoth_sram, toLive_ite, sram_ite, snd_ite, ite_self, implies_true]

theorem mateHealthReceive_sram (m : MateHealthMsg) (d : Dev) : (mateHealthReceive m d).sram = d.sram := by
  simp only [mateHealthReceive, Dev.takeAny_sram, Dev.setTow_sram]

theorem yieldReq_sram (d : Dev) : (yieldReq d).2.sram = d.sram := by
  simp only [yieldReq, Dev.setTow_sram, toLive_ite, sram_ite, snd_ite, ite_self]

theorem yieldForced_sram (d : Dev) : (yieldForced d).2.sram = d.sram := by
  simp only [yieldForced, Dev.setTow_sram, toLive_ite, sram_ite, snd_ite, ite_self]

theorem yieldWrite_sram (v : Nat) (d : Dev) : (yieldWrite v d).2.sram = d.sram := by
  simp only [yieldWrite, yieldReq_sram, yieldForced_sram, toLive_ite, sram_ite, snd_ite, ite_self]

theorem yieldTimeout_sram (d : Dev) : (yieldTimeout d).sram = d.sram := by
  simp only [yieldTimeout, Dev.raise_sram, Dev.setTow_sram, toLive_ite, sram_ite, ite_self]

theorem Dev.setDuty_sram (d : Dev) (v : Nat) (x : RunState) : (Dev.setDuty d v x).sram = d.sram := by
  simp only [Dev.setDuty, Dev.setTow_sram]

theorem towerDutyDisable_sram (d : Dev) : (towerDutyDisable d).2.sram = d.sram := by
  (simp only [towerDutyDisable, toLive_ite, sram_ite, snd_ite]; (repeat' split) <;> first | with_reducible rfl | simp only [Dev.setDuty_sram])

theorem towerDutyEnable_sram (d : Dev) : (towerDutyEnable d).2.sram = d.sram := by
  (simp only [towerDutyEnable]; (repeat' split) <;> first | with_reducible rfl | simp only [Dev.setDuty_sram])

theorem towerDutyWrite_sram (v : Nat) (d : Dev) : (towerDutyWrite v d).2.sram = d.sram := by
  simp only [towerDutyWrite, towerDutyDisable_sram, towerDutyEnable_sram, toLive_ite, sram_ite, snd_ite, ite_self]

theorem Dev.dutyTick_sram (d : Dev) : (Dev.dutyTick d).sram = d.sram := by
  (simp only [Dev.dutyTick, toLive_ite, sram_ite]; (repeat' split) <;> first | with_reducible rfl | simp only [Dev.setTow_sram])

theorem Dev.undrivenTick_sram (d : Dev) : (Dev.undrivenTick d).sram = d.sram := by
  simp only [Dev.undrivenTick, Dev.raise_sram, Dev.setTow_sram, toLive_ite, sram_ite, ite_self]

/-! ## Scrub -/

theorem startPass_sram (d : Dev) : (startPass d).sram = d.sram := by
  simp only [startPass]

theorem endPass_sram (status : Nat) (d : Dev) : (endPass status d).sram = d.sram := by
  simp only [endPass, Dev.raise_sram, startPass_sram, toLive_ite, sram_ite, ite_self]

theorem scrubRead_sram_q (flips : List Nat) (d : Dev) (h : d.sram.sound = true) : (scrubRead flips d).sram.sound = true := by
  simp +contextual only [scrubRead, endPass_sram, Dev.readWord_sram_q, toLive_ite, sram_ite, ite_self, sound_ite, h]

theorem bankStoreScrubRead_sram_q (flips : List Nat) (d : Dev) (h : d.sram.sound = true) :
    (bankStoreScrubRead flips d).sram.sound = true := by
  simp +contextual only [bankStoreScrubRead, Dev.readWord_sram_q, h]

theorem Dev.setScrubControl_sram (d : Dev) (v : Nat) : (Dev.setScrubControl d v).sram = d.sram := by
  simp only [Dev.setScrubControl]

theorem Dev.setScrubState_sram (d : Dev) (x : RunState) : (Dev.setScrubState d x).sram = d.sram := by
  simp only [Dev.setScrubState]

theorem scrubStart_sram (d : Dev) : (scrubStart d).2.sram = d.sram := by
  (simp only [scrubStart, toLive_ite, sram_ite, snd_ite]; (repeat' split) <;> first | with_reducible rfl | simp only [startPass_sram, Dev.setScrubControl_sram, Dev.setScrubState_sram])

theorem scrubStop_sram (d : Dev) : (scrubStop d).2.sram = d.sram := by
  (simp only [scrubStop, toLive_ite, sram_ite, snd_ite]; (repeat' split) <;> first | with_reducible rfl | simp only [Dev.setScrubControl_sram, Dev.setScrubState_sram])

theorem scrubControlWrite_sram (v : Nat) (d : Dev) : (scrubControlWrite v d).2.sram = d.sram := by
  simp only [scrubControlWrite, scrubStart_sram, scrubStop_sram, toLive_ite, sram_ite, snd_ite, ite_self]

theorem scrubAutoPass_sram (d : Dev) : (scrubAutoPass d).sram = d.sram := by
  simp only [scrubAutoPass, startPass_sram, toLive_ite, sram_ite, ite_self]

theorem scrubRangeWrite_sram (l : List Byte) (d : Dev) : (scrubRangeWrite l d).2.sram = d.sram := by
  simp only [scrubRangeWrite, toLive_ite, sram_ite, snd_ite, ite_self]

/-! ## Boot -/

theorem Dev.afterReset_sram_q (d : Dev) (h : d.sram.sound = true) : (d.afterReset).sram.sound = true := by
  have _ := h
  exact (by decide : ({} : Mem).sound = true)

theorem resetAssert_sram_q (d : Dev) (h : d.sram.sound = true) : (resetAssert d).sram.sound = true := by
  simp +contextual only [resetAssert, Dev.afterReset_sram_q, h]

theorem resetRelease_sram_q (straps : BitVec 16) (d : Dev) (h : d.sram.sound = true) : (resetRelease straps d).sram.sound = true := by
  unfold resetRelease
  split
  · exact h
  · dsimp only
    rw [Dev.setPump_sram, Dev.setPump_sram]
    exact (by decide : ({} : Mem).sound = true)

theorem Dev.restart_sram_q (d : Dev) (h : d.sram.sound = true) : (Dev.restart d).sram.sound = true := by
  simp +contextual only [Dev.restart, resetAssert_sram_q, resetRelease_sram_q, h]

theorem deviceReset_sram_q (v : Nat) (d : Dev) (h : d.sram.sound = true) : (deviceReset v d).2.sram.sound = true := by
  simp +contextual only [deviceReset, Dev.restart_sram_q, toLive_ite, sram_ite, snd_ite, ite_self, sound_ite, h]

theorem savedStateWrite_sram (d : Dev) : (savedStateWrite d).sram = d.sram := by
  simp only [savedStateWrite, Dev.setBoot_sram, Dev.setFlash_sram, boot_sram, toLive_ite, sram_ite, snd_ite, ite_self, implies_true]

theorem savedStateErase_sram (v : Nat) (d : Dev) : (savedStateErase v d).2.sram = d.sram := by
  simp only [savedStateErase, Dev.setBoot_sram, Dev.setFlash_sram, toLive_ite, sram_ite, snd_ite, ite_self, implies_true]

theorem startModeWrite_sram (v : Nat) (d : Dev) : (startModeWrite v d).2.sram = d.sram := by
  simp only [startModeWrite, Dev.setFlash_sram, toLive_ite, sram_ite, snd_ite, ite_self]

theorem Dev.wakeLanes_sram (d : Dev) : (Dev.wakeLanes d).sram = d.sram := by
  simp only [Dev.wakeLanes, Dev.setLane_sram, iter_sram, toLive_ite, sram_ite, ite_self, implies_true]

theorem Dev.reportSlot_sram (d : Dev) : (Dev.reportSlot d).sram = d.sram := by
  (simp only [Dev.reportSlot]; (repeat' split) <;> first | with_reducible rfl | simp only [Dev.raise_sram])

theorem Dev.beginStart_sram (d : Dev) : (Dev.beginStart d).sram = d.sram := by
  simp only [Dev.beginStart, Dev.setBoot_sram]

theorem firmwareStart_sram (d : Dev) : (firmwareStart d).sram = d.sram := by
  simp only [firmwareStart, Dev.raise_sram, towerDutyDisable_sram, Dev.setBoot_sram, Dev.wakeLanes_sram, Dev.reportSlot_sram, Dev.beginStart_sram, toLive_ite, sram_ite, ite_self]

theorem Dev.putBank_sram_q (d : Dev) (bank : List Host.Cell) (gen : BitVec 32) (h : d.sram.sound = true) : (d.putBank bank gen).sram.sound = true := by
  unfold Dev.putBank
  rw [Dev.setCirc_sram]
  exact mem_sound _ (fun hx => each_keeps (fun m : Mem => m.sound = true) _ _ _ (fun c x hy => setCell_sound _ _ hy) (blank_sound _ hx)) h

theorem Dev.replaySettings_sram (d : Dev) : (Dev.replaySettings d).sram = d.sram := by
  simp only [Dev.replaySettings, Dev.setLane_sram, Dev.setCirc_sram, Dev.groupWrite_sram, decoderControlWrite_sram, calRotationWrite_sram, scrubControlWrite_sram, each_sram, iter_sram, toLive_ite, sram_ite, ite_self, implies_true]

theorem Dev.restoreRest_sram_q (d : Dev) (a : Saved) (h : d.sram.sound = true) : (d.restoreRest a).sram.sound = true := by
  unfold Dev.restoreRest
  rw [Dev.replaySettings_sram]
  refine Dev.putBank_sram_q _ _ _ (mem_sound _ (fun hm => each_keeps (fun m : Mem => m.sound = true) _ _ _ (fun c x hx => setCell_sound _ _ hx) hm)
    (mem_sound _ (fun hm => each_keeps (fun m : Mem => m.sound = true) _ _ _ (fun p x hx => putWords_sound _ _ hx) hm) ?_))
  exact h

theorem Dev.restoreMap_sram_q (d : Dev) (img : List Byte) (h : d.sram.sound = true) :
    (Dev.restoreMap d img).2.sram.sound = true := by
  simp +contextual only [Dev.restoreMap, Dev.setFab_sram, fabricLengthWrite_sram, fabricApply_sram_q, toLive_ite, sram_ite, snd_ite, ite_self, sound_ite, h]

theorem startComplete_sram_q (d : Dev) (h : d.sram.sound = true) : (startComplete d).sram.sound = true := by
  unfold startComplete
  by_cases hp : d.boot.phase ≠ .firmware ∨ d.boot.startDone
  · rw [if_pos hp]; exact h
  · rw [if_neg hp]
    simp only [Dev.setBoot_sram, Dev.setLoop_sram]
    cases (if d.boot.startMode = 0 then d.boot.flash.newest else none) with
    | none => exact h
    | some a =>
      have h1 := Dev.restoreMap_sram_q d a.fabric h
      dsimp only
      generalize d.restoreMap a.fabric = p at h1 ⊢
      rcases p with ⟨r, x⟩
      cases r
      case ok => exact Dev.restoreRest_sram_q _ _ h1
      all_goals (show (Dev.setBoot _ _).sram.sound = true; rw [Dev.setBoot_sram]; exact h1)

theorem savedDutyRestore_sram (d : Dev) : (savedDutyRestore d).sram = d.sram := by
  (simp only [savedDutyRestore]; (repeat' split) <;> first | with_reducible rfl | simp only [towerDutyEnable_sram, Dev.setBoot_sram])

/-! ## Compat -/

theorem Dev.compatStatus_sram (d : Dev) (st check item : Nat) : (Dev.compatStatus d st check item).sram = d.sram := by
  simp only [Dev.compatStatus]

theorem Dev.stageImage_sram (d : Dev) (img : List Byte) : (Dev.stageImage d img).sram = d.sram := by
  simp only [Dev.stageImage, fabricBlockWrite_sram, fabricLengthWrite_sram, iter_sram, implies_true]

theorem Dev.stageSettings_sram (d : Dev) (l : List (Nat × Nat × Int)) : (Dev.stageSettings d l).2.sram = d.sram :=
  each_keeps (fun x : Option (Resp × Nat) × Dev => x.2.sram = d.sram) l _ _
    (fun p x hx => (anyFieldWrite_sram p.1 (fieldOf p.2.1) p.2.2 x.2).trans hx) rfl

theorem Dev.compatSet_sram (d : Dev) (l : List (Nat × Nat × Int)) : (Dev.compatSet d l).2.sram = d.sram := by
  unfold Dev.compatSet
  dsimp only
  split <;> simp only [Dev.compatStatus_sram, Dev.stageSettings_sram]

theorem compatLoad_sram_q (v : Nat) (d : Dev) (h : d.sram.sound = true) : (compatLoad v d).2.sram.sound = true := by
  have h2 : ∀ img, (fabricApply 1 (d.stageImage img)).2.sram.sound = true := fun img =>
    fabricApply_sram_q _ _ (by rw [Dev.stageImage_sram]; exact h)
  unfold compatLoad
  (repeat' (first | split | dsimp only)) <;> simp only [Dev.compatSet_sram, Dev.compatStatus_sram, each_sram, Dev.consumePoison_sram, implies_true, h, h2]

/-! ## Traffic -/

theorem schedulerSelect_sram (l : Nat) (d : Dev) : (schedulerSelect l d).sram = d.sram := by
  (simp only [schedulerSelect]; (repeat' split) <;> first | with_reducible rfl | simp only [Dev.setLane_sram, Dev.start_sram])

theorem quantumWrite_sram (x v : Nat) (d : Dev) : (quantumWrite x v d).2.sram = d.sram := by
  simp only [quantumWrite, Dev.setTraf_sram, toLive_ite, sram_ite, snd_ite, ite_self]

theorem queueLimitWrite_sram (x v : Nat) (d : Dev) : (queueLimitWrite x v d).2.sram = d.sram := by
  simp only [queueLimitWrite, Dev.setTraf_sram, toLive_ite, sram_ite, snd_ite, ite_self]

theorem yellowWrite_sram (x v : Nat) (d : Dev) : (yellowWrite x v d).2.sram = d.sram := by
  simp only [yellowWrite, Dev.setTraf_sram, toLive_ite, sram_ite, snd_ite, ite_self]

theorem shaperEnableWrite_sram (x : Nat) (v : Bool) (d : Dev) : (shaperEnableWrite x v d).2.sram = d.sram := by
  simp only [shaperEnableWrite, Dev.setTraf_sram, toLive_ite, sram_ite, snd_ite, ite_self]

theorem shaperRateWrite_sram (x v : Nat) (d : Dev) : (shaperRateWrite x v d).2.sram = d.sram := by
  simp only [shaperRateWrite, Dev.setBucket_sram, Dev.setTraf_sram, toLive_ite, sram_ite, snd_ite, ite_self]

theorem shaperBurstWrite_sram (x v : Nat) (d : Dev) : (shaperBurstWrite x v d).2.sram = d.sram := by
  simp only [shaperBurstWrite, Dev.setBucket_sram, Dev.setTraf_sram, toLive_ite, sram_ite, snd_ite, ite_self]

theorem meterProfileWrite_sram (c cir cbs pir pbs : Nat) (d : Dev) :
    (meterProfileWrite c cir cbs pir pbs d).2.sram = d.sram := by
  simp only [meterProfileWrite, Dev.setTraf_sram, toLive_ite, sram_ite, snd_ite, ite_self]

theorem meterInstanceFree_sram (src cls : Nat) (d : Dev) : (meterInstanceFree src cls d).sram = d.sram := by
  (simp only [meterInstanceFree]; (repeat' split) <;> with_reducible rfl)

theorem histClear_sram (v : Nat) (d : Dev) : (histClear v d).2.sram = d.sram := by
  simp only [histClear, toLive_ite, sram_ite, snd_ite, ite_self]

theorem Dev.sampleQueue_sram (d : Dev) (l c : Nat) : (Dev.sampleQueue d l c).sram = d.sram := by
  simp only [Dev.sampleQueue]

theorem Dev.sampleQueues_sram (d : Dev) : (Dev.sampleQueues d).sram = d.sram := by
  simp only [Dev.sampleQueues, Dev.sampleQueue_sram, iter_sram, toLive_ite, sram_ite, ite_self, implies_true]

theorem Dev.trafficTick_sram (d : Dev) : (Dev.trafficTick d).sram = d.sram := by
  simp only [Dev.trafficTick, Dev.sampleQueues_sram, toLive_ite, sram_ite, ite_self]

/-! ## Cycle -/

theorem Dev.stageCycle_sram (d : Dev) (f : CycleConf → CycleConf) : (Dev.stageCycle d f).2.sram = d.sram := by
  simp only [Dev.stageCycle, toLive_ite, sram_ite, snd_ite, ite_self]

theorem cyclePeriodWrite_sram (v : Nat) (d : Dev) : (cyclePeriodWrite v d).2.sram = d.sram := by
  simp only [cyclePeriodWrite, Dev.stageCycle_sram]

theorem rowsEnabledWrite_sram (v : Nat) (d : Dev) : (rowsEnabledWrite v d).2.sram = d.sram := by
  simp only [rowsEnabledWrite, Dev.stageCycle_sram, toLive_ite, sram_ite, snd_ite, ite_self]

theorem idleSlotsWrite_sram (v : Nat) (d : Dev) : (idleSlotsWrite v d).2.sram = d.sram := by
  simp only [idleSlotsWrite, Dev.stageCycle_sram]

theorem slotLengthWrite_sram (v : Nat) (d : Dev) : (slotLengthWrite v d).2.sram = d.sram := by
  simp only [slotLengthWrite, Dev.stageCycle_sram, toLive_ite, sram_ite, snd_ite, ite_self]

theorem tickWindowWrite_sram (v : Nat) (d : Dev) : (tickWindowWrite v d).2.sram = d.sram := by
  simp only [tickWindowWrite, toLive_ite, sram_ite, snd_ite, ite_self]

theorem cycleApply_sram (v : Nat) (d : Dev) : (cycleApply v d).2.sram = d.sram := by
  simp only [cycleApply, toLive_ite, sram_ite, snd_ite, ite_self]

theorem Dev.clipWindow_sram (d : Dev) (period : Nat) : (Dev.clipWindow d period).sram = d.sram := by
  simp only [Dev.clipWindow, Dev.raise_sram, toLive_ite, sram_ite, ite_self]

theorem Dev.deriveDelays_sram_q (d : Dev) (h : d.sram.sound = true) : (d.deriveDelays).sram.sound = true := by
  refine each_sram_q _ _ _ (fun e x hx => ?_) h
  dsimp only
  split
  · exact hx
  · exact Dev.fieldRec_sram_q _ _ _ _ hx

theorem cycleConfigEffect_sram_q (d : Dev) (h : d.sram.sound = true) : (cycleConfigEffect d).sram.sound = true := by
  simp +contextual only [cycleConfigEffect, Dev.clipWindow_sram, Dev.deriveDelays_sram_q, Dev.pairTick_sram, slot_sram_q, toLive_ite, sram_ite, snd_ite, ite_self, sound_ite, implies_true, h]

theorem tickWindowOpen_sram (d : Dev) : (tickWindowOpen d).sram = d.sram := by
  simp only [tickWindowOpen, Dev.advanceTo_sram]

/-! ## Enumeration -/

theorem Dev.takeAddress_sram (d : Dev) (a : Nat) : (Dev.takeAddress d a).sram = d.sram := by
  simp only [Dev.takeAddress, Dev.raiseIf_sram, Dev.setNet_sram]

theorem Dev.askCounts_sram (d : Dev) : (Dev.askCounts d).sram = d.sram := by
  simp only [Dev.askCounts, Dev.setNet_sram, Dev.sendEnum_sram, each_sram, implies_true]

theorem Dev.giveBlocks_sram (d : Dev) (top : Nat) (bs : List Block) : (Dev.giveBlocks d top bs).sram = d.sram := by
  simp only [Dev.giveBlocks, each_sram, Dev.addRoute_sram, Dev.raise_sram, Dev.sendEnum_sram, Dev.setNet_sram, toLive_ite, sram_ite, snd_ite, ite_self, implies_true]

theorem Dev.finishAssign_sram (d : Dev) (value : Nat) : (Dev.finishAssign d value).sram = d.sram := by
  (simp only [Dev.finishAssign]; (repeat' split) <;> first | with_reducible rfl | simp only [Dev.raise_sram, Dev.setNet_sram, Dev.sendEnum_sram])

theorem Dev.finishIfAssigned_sram (d : Dev) : (Dev.finishIfAssigned d).sram = d.sram := by
  simp only [Dev.finishIfAssigned, Dev.finishAssign_sram, toLive_ite, sram_ite, ite_self]

theorem Dev.offerNext_sram (d : Dev) : (Dev.offerNext d).sram = d.sram := by
  simp only [Dev.offerNext, each_sram, Dev.offerSpare_sram, toLive_ite, sram_ite, snd_ite, ite_self, implies_true]

theorem Dev.startAssign_sram (d : Dev) : (Dev.startAssign d).sram = d.sram := by
  simp only [Dev.startAssign, foldl_sram, Dev.dropRoutes_sram, Dev.finishIfAssigned_sram, Dev.giveBlocks_sram, Dev.offerNext_sram, Dev.setNet_sram, toLive_ite, sram_ite, snd_ite, ite_self, implies_true]

theorem Dev.finishCount_sram (d : Dev) : (Dev.finishCount d).sram = d.sram := by
  (simp only [Dev.finishCount]; (repeat' split) <;> first | with_reducible rfl | simp only [Dev.setNet_sram, Dev.sendEnum_sram, Dev.startAssign_sram])

theorem Dev.finishIfCounted_sram (d : Dev) : (Dev.finishIfCounted d).sram = d.sram := by
  simp only [Dev.finishIfCounted, Dev.finishCount_sram, toLive_ite, sram_ite, ite_self]

theorem Dev.exclude_sram (d : Dev) (l : Nat) : (Dev.exclude d l).sram = d.sram := by
  simp only [Dev.exclude, Dev.raise_sram, Dev.setNet_sram]

theorem enumStart_sram (v : Nat) (d : Dev) : (enumStart v d).2.sram = d.sram := by
  simp only [enumStart, Dev.setNet_sram, Dev.dropRoutes_sram, Dev.sendEnum_sram, Dev.takeAddress_sram, Dev.askCounts_sram, Dev.finishAssign_sram, Dev.finishIfCounted_sram, toLive_ite, sram_ite, snd_ite, ite_self]

theorem Dev.beginResult_sram (d : Dev) (status : Nat) : (Dev.beginResult d status).sram = d.sram := by
  simp only [Dev.beginResult, Dev.setNet_sram, toLive_ite, sram_ite, snd_ite, ite_self, implies_true]

theorem enumCount_sram (l : Nat) (m : EnumMsg) (d : Dev) : (enumCount l m d).sram = d.sram := by
  simp only [enumCount, Dev.askCounts_sram, Dev.beginResult_sram, Dev.finishIfCounted_sram, Dev.raise_sram, Dev.sendLocal_sram, Dev.setNet_sram, Dev.take_sram, toLive_ite, sram_ite, snd_ite, ite_self, implies_true]

theorem enumCountReply_sram (l : Nat) (m : EnumMsg) (d : Dev) : (enumCountReply l m d).sram = d.sram := by
  simp only [enumCountReply, Dev.raise_sram, Dev.setNet_sram, Dev.take_sram, Dev.finishIfCounted_sram, Dev.exclude_sram, toLive_ite, sram_ite, ite_self]

theorem enumChildTimeout_sram (l : Nat) (d : Dev) : (enumChildTimeout l d).sram = d.sram := by
  simp only [enumChildTimeout, Dev.finishIfCounted_sram, Dev.exclude_sram, toLive_ite, sram_ite, ite_self]

theorem Dev.chainAssign_sram (d : Dev) (m : EnumMsg) : (Dev.chainAssign d m).sram = d.sram := by
  simp only [Dev.chainAssign, Dev.beginResult_sram, Dev.dropRoutes_sram, Dev.finishAssign_sram, Dev.sendEnum_sram, Dev.sendLocal_sram, Dev.setNet_sram, Dev.takeAddress_sram, toLive_ite, sram_ite, snd_ite, ite_self, implies_true]

theorem enumAssign_sram (l : Nat) (m : EnumMsg) (d : Dev) : (enumAssign l m d).sram = d.sram := by
  simp only [enumAssign, Dev.chainAssign_sram, Dev.raise_sram, Dev.sendLocal_sram, Dev.setNet_sram, Dev.startAssign_sram, Dev.take_sram, Dev.takeAddress_sram, toLive_ite, sram_ite, snd_ite, ite_self, implies_true]

theorem enumAssignDone_sram (l : Nat) (m : EnumMsg) (d : Dev) : (enumAssignDone l m d).sram = d.sram := by
  (simp only [enumAssignDone]; (repeat' split) <;> first | with_reducible rfl | simp only [Dev.addRoute_sram, Dev.finishAssign_sram, Dev.finishIfAssigned_sram, Dev.offerNext_sram, Dev.raise_sram, Dev.setNet_sram, Dev.take_sram, implies_true])

theorem Dev.dropWaiting_sram (d : Dev) : (Dev.dropWaiting d).sram = d.sram := by
  simp only [Dev.dropWaiting, Dev.offerNext_sram, Dev.setNet_sram, toLive_ite, sram_ite, snd_ite, ite_self, implies_true]

theorem enumAssignTimeout_sram (d : Dev) : (enumAssignTimeout d).sram = d.sram := by
  simp only [enumAssignTimeout, Dev.dropWaiting_sram, Dev.finishAssign_sram, toLive_ite, sram_ite, snd_ite, ite_self, implies_true]

theorem hostBlockWrite_sram (b : List Byte) (d : Dev) : (hostBlockWrite b d).2.sram = d.sram := by
  simp only [hostBlockWrite, toLive_ite, sram_ite, snd_ite, ite_self]

/-! ## FrameRx -/

theorem Dev.accept_sram (d : Dev) (l : Nat) (f : Frame) : (Dev.accept d l f).sram = d.sram := by
  (simp only [Dev.accept, Dev.countLane_sram, Dev.route_sram, toLive_ite, sram_ite]; (repeat' split) <;> first | with_reducible rfl | simp only [Dev.countLane_sram, Dev.countMeter_sram, Dev.route_sram, Dev.meterFrame_sram])

theorem frameReceive_sram (l : Nat) (bytes : List Byte) (rx : RxInfo) (d : Dev) : (frameReceive l bytes rx d).sram = d.sram := by
  (simp only [frameReceive]; (repeat' split) <;> first | with_reducible rfl | simp only [Dev.accept_sram, Dev.countFec_sram, Dev.countLane_sram, Dev.drop_sram, implies_true])

/-! ## Settings -/

theorem keepIf_sram (ok : Bool) (f : Dev → Dev) (d : Dev) (hf : ∀ d, (f d).sram = d.sram) :
    (keepIf ok f d).2.sram = d.sram := by
  simp only [keepIf, toLive_ite, sram_ite, snd_ite, ite_self, hf]

theorem ceThresholdWrite_sram (g v : Nat) (d : Dev) : (ceThresholdWrite g v d).2.sram = d.sram := by
  simp only [ceThresholdWrite, Dev.setMemCfg_sram, keepIf_sram, implies_true]

theorem ceLeakIntervalWrite_sram (v : Nat) (d : Dev) : (ceLeakIntervalWrite v d).2.sram = d.sram := by
  simp only [ceLeakIntervalWrite, Dev.setMemCfg_sram, keepIf_sram, implies_true]

theorem scrubRateWrite_sram (v : Nat) (d : Dev) : (scrubRateWrite v d).2.sram = d.sram := by
  simp only [scrubRateWrite, Dev.setMemCfg_sram, keepIf_sram, implies_true]

theorem scrubAutoWrite_sram (v : Bool) (d : Dev) : (scrubAutoWrite v d).2.sram = d.sram := by
  simp only [scrubAutoWrite, Dev.setMemCfg_sram, keepIf_sram, implies_true]

theorem repairAutoWrite_sram (v : Bool) (d : Dev) : (repairAutoWrite v d).2.sram = d.sram := by
  simp only [repairAutoWrite, Dev.setMemCfg_sram, keepIf_sram, implies_true]

theorem repairThresholdWrite_sram (v : Nat) (d : Dev) : (repairThresholdWrite v d).2.sram = d.sram := by
  simp only [repairThresholdWrite, Dev.setMemCfg_sram, keepIf_sram, implies_true]

theorem eventDestWrite_sram (v : Nat) (d : Dev) : (eventDestWrite v d).2.sram = d.sram := by
  simp only [eventDestWrite, Dev.setEvCfg_sram, keepIf_sram, implies_true]

theorem irqLevelWrite_sram (v : Nat) (d : Dev) : (irqLevelWrite v d).2.sram = d.sram := by
  simp only [irqLevelWrite, Dev.setEvCfg_sram, keepIf_sram, implies_true]

theorem suppressLimitWrite_sram (v : Nat) (d : Dev) : (suppressLimitWrite v d).2.sram = d.sram := by
  simp only [suppressLimitWrite, Dev.setEvCfg_sram, keepIf_sram, implies_true]

theorem etherTypeWrite_sram (v : Nat) (d : Dev) : (etherTypeWrite v d).2.sram = d.sram := by
  simp only [etherTypeWrite, Dev.setNetCfg_sram, keepIf_sram, implies_true]

theorem domainBaseWrite_sram (v : Nat) (d : Dev) : (domainBaseWrite v d).2.sram = d.sram := by
  simp only [domainBaseWrite, Dev.setNetCfg_sram, keepIf_sram, implies_true]

theorem domainSizeWrite_sram (v : Nat) (d : Dev) : (domainSizeWrite v d).2.sram = d.sram := by
  simp only [domainSizeWrite, Dev.setNetCfg_sram, keepIf_sram, implies_true]

theorem spareAddressesWrite_sram (v : Nat) (d : Dev) : (spareAddressesWrite v d).2.sram = d.sram := by
  simp only [spareAddressesWrite, Dev.setNetCfg_sram, keepIf_sram, implies_true]

theorem meterEnableWrite_sram (c : Nat) (v : Bool) (d : Dev) : (meterEnableWrite c v d).2.sram = d.sram := by
  simp only [meterEnableWrite, Dev.setTraf_sram, toLive_ite, sram_ite, snd_ite, ite_self]

theorem tickOutDivWrite_sram (v : Nat) (d : Dev) : (tickOutDivWrite v d).2.sram = d.sram := by
  simp only [tickOutDivWrite, Dev.setTimeCfg_sram, keepIf_sram, implies_true]

theorem snapInEnableWrite_sram (v : Bool) (d : Dev) : (snapInEnableWrite v d).2.sram = d.sram := by
  simp only [snapInEnableWrite, Dev.setTimeCfg_sram, keepIf_sram, implies_true]

theorem snapLockWrite_sram (v : Bool) (d : Dev) : (snapLockWrite v d).2.sram = d.sram := by
  simp only [snapLockWrite, Dev.setTimeCfg_sram, keepIf_sram, implies_true]

theorem claimRankWrite_sram (v : Nat) (d : Dev) : (claimRankWrite v d).2.sram = d.sram := by
  simp only [claimRankWrite, Dev.setTowCfg_sram, keepIf_sram, implies_true]

theorem checkpointEnableWrite_sram (v : Bool) (d : Dev) : (checkpointEnableWrite v d).2.sram = d.sram := by
  simp only [checkpointEnableWrite, Dev.setTowCfg_sram, keepIf_sram, implies_true]

theorem rejectStaleWrite_sram (v : Bool) (d : Dev) : (rejectStaleWrite v d).2.sram = d.sram := by
  simp only [rejectStaleWrite, Dev.setCircCfg_sram, keepIf_sram, implies_true]

theorem deviceLabelWrite_sram (b : List Byte) (d : Dev) : (deviceLabelWrite b d).2.sram = d.sram := by
  simp only [deviceLabelWrite, Dev.setReqCfg_sram, keepIf_sram, implies_true]

theorem systemIdWrite_sram (v : Nat) (d : Dev) : (systemIdWrite v d).2.sram = d.sram := by
  simp only [systemIdWrite, Dev.setReqCfg_sram, keepIf_sram, implies_true]

theorem domainIdWrite_sram (v : Nat) (d : Dev) : (domainIdWrite v d).2.sram = d.sram := by
  simp only [domainIdWrite, Dev.setReqCfg_sram, keepIf_sram, implies_true]

theorem telemListWrite_sram (n : Nat) (b : List Byte) (d : Dev) : (telemListWrite n b d).2.sram = d.sram := by
  simp only [telemListWrite, Dev.setReqCfg_sram, keepIf_sram, implies_true]

theorem Dev.stageRights_sram (d : Dev) (f : Rights → Rights) : (Dev.stageRights d f).sram = d.sram := by
  simp only [Dev.stageRights, Dev.setReq_sram]

theorem rangeRightsWrite_sram (r rd wr : Nat) (d : Dev) : (rangeRightsWrite r rd wr d).2.sram = d.sram := by
  simp only [rangeRightsWrite, Dev.stageRights_sram, toLive_ite, sram_ite, snd_ite, ite_self]

theorem addrRuleWrite_sram (j lo hi level : Nat) (valid : Bool) (d : Dev) :
    (addrRuleWrite j lo hi level valid d).2.sram = d.sram := by
  simp only [addrRuleWrite, Dev.stageRights_sram, toLive_ite, sram_ite, snd_ite, ite_self]

theorem bspiLevelWrite_sram (v : Nat) (d : Dev) : (bspiLevelWrite v d).2.sram = d.sram := by
  simp only [bspiLevelWrite, Dev.stageRights_sram, toLive_ite, sram_ite, snd_ite, ite_self]

theorem rightsWrite_sram (w : RightsWrite) (d : Dev) : (rightsWrite w d).2.sram = d.sram := by
  (simp only [rightsWrite]; (repeat' split) <;> first | with_reducible rfl | simp only [rangeRightsWrite_sram, addrRuleWrite_sram, bspiLevelWrite_sram])

theorem Dev.rightsTick_sram (d : Dev) : (Dev.rightsTick d).sram = d.sram := by
  simp only [Dev.rightsTick, Dev.setReq_sram, toLive_ite, sram_ite, ite_self]

/-! ## Security -/

theorem firmwareTargetWrite_sram (v : Nat) (d : Dev) : (firmwareTargetWrite v d).2.sram = d.sram := by
  simp only [firmwareTargetWrite, Dev.setBoot_sram, toLive_ite, sram_ite, snd_ite, ite_self]

theorem firmwareBlock_sram (j : Nat) (b : List Byte) (d : Dev) : (firmwareBlock j b d).2.sram = d.sram := by
  simp only [firmwareBlock, Dev.setFlash_sram, toLive_ite, sram_ite, snd_ite, ite_self]

theorem firmwareApply_sram_q (v : Nat) (d : Dev) (h : d.sram.sound = true) : (firmwareApply v d).2.sram.sound = true := by
  simp +contextual only [firmwareApply, Dev.setFlash_sram, Dev.restart_sram_q, toLive_ite, sram_ite, snd_ite, ite_self, sound_ite, h]

theorem securityVersionCommit_sram (v : Nat) (d : Dev) : (securityVersionCommit v d).2.sram = d.sram := by
  simp only [securityVersionCommit, Dev.setBoot_sram, toLive_ite, sram_ite, snd_ite, ite_self]

theorem ownerKeyInstall_sram (key : List Byte) (d : Dev) : (ownerKeyInstall key d).2.sram = d.sram := by
  simp only [ownerKeyInstall, Dev.setFlash_sram, Dev.setBoot_sram, toLive_ite, sram_ite, snd_ite, ite_self]

theorem attestNonce_sram (nonce : List Byte) (d : Dev) : (attestNonce nonce d).2.sram = d.sram := by
  simp only [attestNonce, Dev.draw_sram, Dev.setBoot_sram, toLive_ite, sram_ite, snd_ite, ite_self]

theorem Dev.setRejoin_sram (d : Dev) (st code : Nat) : (Dev.setRejoin d st code).sram = d.sram := by
  simp only [Dev.setRejoin, Dev.setBoot_sram]

theorem rejoin_sram (v : Nat) (d : Dev) : (rejoin v d).2.sram = d.sram := by
  simp only [rejoin, Dev.setBoot_sram, Dev.setRejoin_sram, toLive_ite, sram_ite, snd_ite, ite_self]

theorem Dev.cellFrom_sram (d : Dev) (c : Nat) (phi : Int) : (Dev.cellFrom d c phi).2.sram = d.sram := by
  simp only [Dev.cellFrom, Dev.draw_sram, toLive_ite, sram_ite, snd_ite, ite_self]

theorem Dev.cellStates_sram (d : Dev) (targets : List (Nat × BitVec 64)) : (d.cellStates targets).2.sram = d.sram := by
  have key : ∀ (n i : Nat) (r : List Nat × Dev), (iter (fun c r =>
      match tfind targets c with
      | some w =>
        let x := Dev.cellFrom r.2 c (targetPhi w.toNat)
        (if x.1 then c :: r.1 else r.1, x.2)
      | none => r) n i r).2.sram = r.2.sram := by
    intro n
    induction n with
    | zero => intro i r; rfl
    | succ n ih =>
      intro i r
      simp only [iter, ih]
      split
      · exact Dev.cellFrom_sram ..
      · rfl
  exact key ..

theorem Dev.takeBank_sram_q (d : Dev) (x : RejoinData) (h : d.sram.sound = true) : (Dev.takeBank d x).sram.sound = true := by
  simp +contextual only [Dev.takeBank, Dev.draw_sram, Dev.raise_sram, Dev.setCirc_sram, Dev.digestTick_sram, Dev.setRejoin_sram, Dev.cellStates_sram, Dev.putBank_sram_q, toLive_ite, sram_ite, ite_self, h]

theorem rejoinComplete_sram_q (x : RejoinData) (d : Dev) (h : d.sram.sound = true) :
    (rejoinComplete x d).sram.sound = true := by
  simp +contextual only [rejoinComplete, Dev.draw_sram, Dev.setBoot_sram, Dev.setRejoin_sram, Dev.takeBank_sram_q, toLive_ite, sram_ite, ite_self, sound_ite, h]

/-! ## Rebuild -/

theorem Dev.sendSync_sram (d : Dev) (kind status item : Nat) (poison : Bool) (body : List Byte) :
    (Dev.sendSync d kind status item poison body).sram = d.sram := by
  simp only [Dev.sendSync, Dev.setTow_sram, Dev.toMate_sram, toLive_ite, sram_ite, ite_self]

theorem wordRequest_sram (e : Nat) (d : Dev) : (wordRequest e d).sram = d.sram := by
  (simp only [wordRequest, Dev.takeAny_sram]; (repeat' split) <;> first | with_reducible rfl | simp only [Dev.takeAny_sram, Dev.sendSync_sram])

theorem Dev.wordAskTick_sram (d : Dev) : (Dev.wordAskTick d).sram = d.sram := by
  simp only [Dev.wordAskTick, Dev.setTow_sram, Dev.sendSync_sram, each_sram, toLive_ite, sram_ite, ite_self, implies_true]

theorem wordReply_sram (e : Nat) (status : Resp) (w : BitVec 64) (poison : Bool) (d : Dev) : (wordReply e status w poison d).sram = d.sram := by
  simp only [wordReply, Dev.setTow_sram, Dev.takeAny_sram, toLive_ite, sram_ite, snd_ite, ite_self, implies_true]

theorem recordRebuild_sram_q (e : Nat) (ok : Bool) (d : Dev) (h : d.sram.sound = true) : (recordRebuild e ok d).sram.sound = true := by
  (simp +contextual only [recordRebuild]; (repeat' split) <;> first | with_reducible rfl | (simp +contextual only [Dev.endHold_sram, Dev.putRec_sram_q, Dev.raise_sram, Dev.requestReverse_sram, Dev.setLoop_sram, Dev.setTow_sram, boot_sram, implies_true, h]))

/-! ## Triggers -/

theorem Dev.setTrigger_sram (d : Dev) (j : Nat) (x : Trigger) : (Dev.setTrigger d j x).sram = d.sram := by
  simp only [Dev.setTrigger]

theorem triggerCancel_sram (j : Nat) (d : Dev) : (triggerCancel j d).2.sram = d.sram := by
  simp only [triggerCancel, Dev.setTrigger_sram, toLive_ite, sram_ite, snd_ite, ite_self]

theorem triggerSchedule_sram (j secs nanos action : Nat) (d : Dev) :
    (triggerSchedule j secs nanos action d).2.sram = d.sram := by
  simp only [triggerSchedule, Dev.setTrigger_sram, triggerCancel_sram, toLive_ite, sram_ite, snd_ite, ite_self]

theorem triggerWrite_sram (j : Nat) (b : List Byte) (d : Dev) : (triggerWrite j b d).2.sram = d.sram := by
  simp only [triggerWrite, triggerSchedule_sram]

theorem snapNow_sram (v : Nat) (d : Dev) : (snapNow v d).2.sram = d.sram := by
  simp only [snapNow, toLive_ite, sram_ite, snd_ite, ite_self]

theorem snapInEdge_sram (d : Dev) : (snapInEdge d).sram = d.sram := by
  simp only [snapInEdge, toLive_ite, sram_ite, ite_self]

theorem Dev.endTrigger_sram (d : Dev) (r : Resp) (j : Nat) : (Dev.endTrigger d r j).sram = d.sram := by
  simp only [Dev.endTrigger, Dev.raise_sram, Dev.setTrigger_sram, toLive_ite, sram_ite, ite_self]

theorem Dev.clearCauses_sram (d : Dev) (causes : Nat) : (Dev.clearCauses d causes).sram = d.sram := by
  simp only [Dev.clearCauses]

theorem Dev.snapshot_sram (d : Dev) (tick : Nat) : (Dev.snapshot d tick).2.sram = d.sram := by
  simp only [Dev.snapshot, Dev.raise_sram, Dev.endTrigger_sram, Dev.clearCauses_sram, each_sram, toLive_ite, sram_ite, snd_ite, ite_self, implies_true]

/-! ## DictArray -/

theorem loadMeasureOpen_sram (v : Nat) (d : Dev) : (loadMeasureOpen v d).2.sram = d.sram := by
  simp only [loadMeasureOpen, Dev.draw_sram, loadMeasure_sram, toLive_ite, sram_ite, snd_ite, ite_self]

theorem injectItem_sram (b : List Byte) (d : Dev) : (injectItem b d).2.sram = d.sram := by
  simp only [injectItem, injectWrite_sram, snd_ite, ite_self]

/-! ## DictLabel -/

theorem labelItem_sram_q (c : LabelCmd) (ops : List Nat) (d : Dev) (h0 : d.sram.sound = true) : (labelItem c ops d).2.sram.sound = true := by
  have h := Dev.submitLabel_sram_q d c ops h0
  unfold labelItem
  generalize d.submitLabel c ops = p at h ⊢
  rcases p with ⟨_ | _, x⟩ <;> exact h

/-! ## Repair -/

theorem repairMap_sram (mac row : Nat) (d : Dev) : (repairMap mac row d).2.sram = d.sram := by
  (simp only [repairMap]; (repeat' split) <;> first | with_reducible rfl | simp only [Dev.raise_sram])

theorem repairRow_sram (mac row : Nat) (d : Dev) : (repairRow mac row d).2.sram = d.sram := by
  simp only [repairRow, repairMap_sram, toLive_ite, sram_ite, snd_ite, ite_self]

theorem repairAuto_sram (mac row : Nat) (d : Dev) : (repairAuto mac row d).sram = d.sram := by
  simp only [repairAuto, repairMap_sram, toLive_ite, sram_ite, ite_self]

theorem repairFuseDone_sram (d : Dev) : (repairFuseDone d).sram = d.sram := by
  unfold repairFuseDone
  split
  · rfl
  · exact Dev.raise_sram ..

/-! ## Items -/

/-- What every row of the dictionary does when it is written keeps the SRAM sound. -/
def RowSound (r : ObjRow) : Prop := ∀ src s b d, d.sram.sound = true → (r.write src s b d).2.sram.sound = true

theorem dict1000_sound : ∀ r ∈ dict1000, RowSound r := by
  simp only [dict1000, List.forall_mem_cons, List.not_mem_nil, false_imp_iff, implies_true, and_true, RowSound]
  refine ⟨?_, ?_, ?_, ?_, ?_, ?_, ?_, ?_, ?_⟩ <;> intro src s b d h <;> (try exact h) <;>
    simp +contextual only [wrR, answered, deviceLabelWrite_sram,  h]

theorem dict1100_sound : ∀ r ∈ dict1100, RowSound r := by
  simp only [dict1100, List.forall_mem_cons, List.not_mem_nil, false_imp_iff, implies_true, and_true, RowSound]
  refine ⟨?_, ?_, ?_, ?_⟩ <;> intro src s b d h <;> (try exact h) <;>
    simp +contextual only [wrN, wrI, wrB, wrR, answered, boot_sram, systemIdWrite_sram, domainIdWrite_sram,  h, toLive_ite, sram_ite, snd_ite, ite_self]

theorem dict1200_sound : ∀ r ∈ dict1200, RowSound r := by
  simp only [dict1200, List.forall_mem_cons, List.not_mem_nil, false_imp_iff, implies_true, and_true, RowSound]
  refine ⟨?_, ?_, ?_, ?_, ?_, ?_, ?_, ?_, ?_, ?_⟩ <;> intro src s b d h <;> (try exact h) <;>
    simp +contextual only [wrR, answered, telemListWrite_sram,  h]

theorem dictC000_sound : ∀ r ∈ dictC000, RowSound r := by
  simp only [dictC000, List.forall_mem_cons, List.not_mem_nil, false_imp_iff, implies_true, and_true, RowSound]
  refine ⟨?_, ?_, ?_, ?_, ?_, ?_, ?_, ?_, ?_, ?_, ?_, ?_, ?_, ?_, ?_, ?_, ?_, ?_, ?_, ?_, ?_, ?_, ?_, ?_⟩ <;> intro src s b d h <;> (try exact h) <;>
    simp +contextual only [wrN, wrR, answered, savedStateErase_sram, startModeWrite_sram, firmwareTargetWrite_sram, firmwareBlock_sram, securityVersionCommit_sram, ownerKeyInstall_sram, attestNonce_sram, rejoin_sram, deviceReset_sram_q, firmwareApply_sram_q,  h]

theorem dictC100_sound : ∀ r ∈ dictC100, RowSound r := by
  simp only [dictC100, List.forall_mem_cons, List.not_mem_nil, false_imp_iff, implies_true, and_true, RowSound]
  refine ⟨?_, ?_, ?_, ?_, ?_, ?_⟩ <;> intro src s b d h <;> (try exact h) <;>
    simp +contextual only [wrN, wrR, answered, rangeRightsWrite_sram, addrRuleWrite_sram, bspiLevelWrite_sram,  h]

theorem dict2000a_sound : ∀ r ∈ dict2000a, RowSound r := by
  simp only [dict2000a, List.forall_mem_cons, List.not_mem_nil, false_imp_iff, implies_true, and_true, RowSound]
  refine ⟨?_, ?_, ?_, ?_, ?_, ?_, ?_, ?_, ?_, ?_, ?_, ?_, ?_, ?_, ?_, ?_, ?_, ?_, ?_, ?_, ?_, ?_, ?_, ?_⟩ <;> intro src s b d h <;> (try exact h) <;>
    simp +contextual only [wrN, wrI, wrR, answered, timeSet_sram, timeSourceWrite_sram, syncLog2Write_sram, cyclePeriodWrite_sram, rowsEnabledWrite_sram, idleSlotsWrite_sram, slotLengthWrite_sram, tickWindowWrite_sram, cycleApply_sram,  h]

theorem dict2000b_sound : ∀ r ∈ dict2000b, RowSound r := by
  simp only [dict2000b, List.forall_mem_cons, List.not_mem_nil, false_imp_iff, implies_true, and_true, RowSound]
  refine ⟨?_, ?_, ?_, ?_, ?_, ?_, ?_, ?_, ?_, ?_⟩ <;> intro src s b d h <;> (try exact h) <;>
    simp +contextual only [wrN, wrI, answered, delayReqLog2Write_sram, holdoverLimitWrite_sram, asymTrimWrite_sram,  h]

theorem dict2100_sound : ∀ r ∈ dict2100, RowSound r := by
  simp only [dict2100, List.forall_mem_cons, List.not_mem_nil, false_imp_iff, implies_true, and_true, RowSound]
  refine ⟨?_, ?_, ?_, ?_, ?_, ?_, ?_, ?_, ?_, ?_, ?_⟩ <;> intro src s b d h <;> (try exact h) <;>
    simp +contextual only [wrN, wrR, answered, triggerWrite_sram, snapNow_sram,  h]

theorem dict3000_sound : ∀ r ∈ dict3000, RowSound r := by
  simp only [dict3000, List.forall_mem_cons, List.not_mem_nil, false_imp_iff, implies_true, and_true, RowSound]
  refine ⟨?_, ?_, ?_, ?_, ?_, ?_, ?_, ?_, ?_, ?_, ?_, ?_, ?_⟩ <;> intro src s b d h <;> (try exact h) <;>
    simp +contextual only [wrN, wrB, answered, laneDisable_sram, laneEnable_sram, laneRateWrite_sram, laneFecWrite_sram, helloPeriodWrite_sram,  h, toLive_ite, sram_ite, snd_ite, ite_self]

theorem dict3100_sound : ∀ r ∈ dict3100, RowSound r := by
  simp only [dict3100, List.forall_mem_cons, List.not_mem_nil, false_imp_iff, implies_true, and_true, RowSound]
  refine ⟨?_, ?_, ?_, ?_, ?_, ?_, ?_, ?_, ?_, ?_, ?_, ?_, ?_, ?_, ?_, ?_, ?_⟩ <;> intro src s b d h <;> (try exact h) <;>
    simp +contextual only [wrN, wrR, answered, enumStart_sram, hostBlockWrite_sram,  h]

theorem dict3200_sound : ∀ r ∈ dict3200, RowSound r := by
  simp only [dict3200, List.forall_mem_cons, List.not_mem_nil, false_imp_iff, implies_true, and_true, RowSound]
  refine ⟨?_, ?_, ?_, ?_, ?_, ?_, ?_, ?_, ?_, ?_, ?_, ?_, ?_, ?_, ?_, ?_, ?_, ?_, ?_⟩ <;> intro src s b d h <;> (try exact h) <;>
    simp +contextual only [wrN, wrB, wrR, answered, quantumWrite_sram, queueLimitWrite_sram, yellowWrite_sram, shaperEnableWrite_sram, shaperRateWrite_sram, shaperBurstWrite_sram, meterProfileWrite_sram, histClear_sram, meterEnableWrite_sram,  h]

theorem dict4000_sound : ∀ r ∈ dict4000, RowSound r := by
  simp only [dict4000, List.forall_mem_cons, List.not_mem_nil, false_imp_iff, implies_true, and_true, RowSound]
  refine ⟨?_, ?_, ?_, ?_, ?_, ?_, ?_, ?_, ?_, ?_, ?_, ?_, ?_, ?_, ?_, ?_⟩ <;> intro src s b d h <;> (try exact h) <;>
    simp +contextual only [wrN, wrB, wrR, answered, towerWiredWrite_sram, dcolEnableWrite_sram, mcolEnableWrite_sram, zoneNomResWrite_sram, zoneBetaWrite_sram, zoneFallbackWrite_sram, loadMeasureOpen_sram,  h]

theorem dict4100_sound : ∀ r ∈ dict4100, RowSound r := by
  simp only [dict4100, List.forall_mem_cons, List.not_mem_nil, false_imp_iff, implies_true, and_true, RowSound]
  refine ⟨?_, ?_, ?_, ?_, ?_, ?_, ?_, ?_, ?_, ?_, ?_, ?_, ?_, ?_, ?_, ?_, ?_, ?_, ?_, ?_, ?_, ?_⟩ <;> intro src s b d h <;> (try exact h) <;>
    simp +contextual only [wrN, wrI, wrR, answered, columnGainWrite_sram, avgLog2Write_sram, skewTrimWrite_sram, tdacRouteWrite_sram, tdacGroupWrite_sram, tdacCodeWrite_sram, injectItem_sram, darkWrite_sram_q, convOffsetWrite_sram_q, convGainWrite_sram_q,  h]

theorem dict4200_sound : ∀ r ∈ dict4200, RowSound r := by
  simp only [dict4200, List.forall_mem_cons, List.not_mem_nil, false_imp_iff, implies_true, and_true, RowSound]
  refine ⟨?_, ?_, ?_, ?_, ?_, ?_, ?_, ?_, ?_, ?_, ?_, ?_, ?_, ?_, ?_, ?_, ?_, ?_, ?_, ?_, ?_, ?_⟩ <;> intro src s b d h <;> (try exact h) <;>
    simp +contextual only [wrN, wrI, answered, rowFaultClear_sram, groupControlWrite_sram, idleCodeWrite_sram, toneFtwWrite_sram, offsetTrimWrite_sram, gainTrimWrite_sram, contentionLimitWrite_sram,  h]

theorem dict5000_sound : ∀ r ∈ dict5000, RowSound r := by
  simp only [dict5000, List.forall_mem_cons, List.not_mem_nil, false_imp_iff, implies_true, and_true, RowSound]
  refine ⟨?_, ?_, ?_, ?_, ?_, ?_, ?_, ?_, ?_, ?_, ?_, ?_, ?_, ?_, ?_, ?_, ?_, ?_, ?_, ?_, ?_, ?_⟩ <;> intro src s b d h <;> (try exact h) <;>
    simp +contextual only [wrN, answered, settleEntryWrite_sram, loopControlWrite_sram, laneUnfence_sram,  h]

theorem dict5100a_sound : ∀ r ∈ dict5100a, RowSound r := by
  simp only [dict5100a, List.forall_mem_cons, List.not_mem_nil, false_imp_iff, implies_true, and_true, RowSound]
  refine ⟨?_, ?_, ?_, ?_, ?_, ?_, ?_, ?_, ?_, ?_, ?_, ?_, ?_, ?_, ?_, ?_, ?_, ?_, ?_, ?_, ?_, ?_, ?_, ?_⟩ <;> intro src s b d h <;> (try exact h) <;>
    simp +contextual only [wrN, wrI, answered, anyFieldWrite_sram,  h]

theorem dict5100b_sound : ∀ r ∈ dict5100b, RowSound r := by
  simp only [dict5100b, List.forall_mem_cons, List.not_mem_nil, false_imp_iff, implies_true, and_true, RowSound]
  refine ⟨?_, ?_, ?_, ?_, ?_, ?_, ?_, ?_, ?_, ?_, ?_, ?_, ?_, ?_, ?_, ?_, ?_, ?_, ?_, ?_, ?_, ?_⟩ <;> intro src s b d h <;> (try exact h) <;>
    simp +contextual only [wrN, answered, anyFieldWrite_sram,  h]

theorem dict5200_sound : ∀ r ∈ dict5200, RowSound r := by
  simp only [dict5200, List.forall_mem_cons, List.not_mem_nil, false_imp_iff, implies_true, and_true, RowSound]
  refine ⟨?_, ?_, ?_, ?_, ?_, ?_, ?_, ?_, ?_, ?_, ?_, ?_⟩ <;> intro src s b d h <;> (try exact h) <;>
    simp +contextual only [wrN, wrR, answered, traceElementsWrite_sram, traceNodesWrite_sram, traceModeWrite_sram, tracePostWrite_sram, traceDecimateWrite_sram, traceTriggerWrite_sram, traceControlWrite_sram_q,  h]

theorem dict5300a_sound : ∀ r ∈ dict5300a, RowSound r := by
  simp only [dict5300a, List.forall_mem_cons, List.not_mem_nil, false_imp_iff, implies_true, and_true, RowSound]
  refine ⟨?_, ?_, ?_, ?_, ?_, ?_, ?_, ?_, ?_, ?_, ?_, ?_, ?_, ?_, ?_, ?_, ?_, ?_, ?_, ?_, ?_, ?_, ?_, ?_⟩ <;> intro src s b d h <;> (try exact h) <;>
    simp +contextual only [wrN, wrR, answered, darkCapture_sram, entrySlewWrite_sram, refitWindowWrite_sram, sweepRequestWrite_sram, sweepCancel_sram, calColumnRequest_sram, calRotationWrite_sram, tapRespWrite_sram_q, chainCorrWrite_sram_q, calPointsWrite_sram_q,  h]

theorem dict5300b_sound : ∀ r ∈ dict5300b, RowSound r := by
  simp only [dict5300b, List.forall_mem_cons, List.not_mem_nil, false_imp_iff, implies_true, and_true, RowSound]
  refine ⟨?_, ?_, ?_, ?_, ?_, ?_, ?_⟩ <;> intro src s b d h <;> (try exact h) <;>
    simp +contextual only [wrN, wrI, wrB, wrR, answered, refitA0MaxWrite_sram, refitDeadbandWrite_sram, refitSlopeTolWrite_sram,  h, toLive_ite, sram_ite, snd_ite, ite_self]

theorem dict6000_sound : ∀ r ∈ dict6000, RowSound r := by
  simp only [dict6000, List.forall_mem_cons, List.not_mem_nil, false_imp_iff, implies_true, and_true, RowSound]
  refine ⟨?_, ?_, ?_, ?_, ?_, ?_, ?_, ?_, ?_, ?_, ?_, ?_, ?_, ?_, ?_, ?_⟩ <;> intro src s b d h <;> (try exact h) <;>
    simp +contextual only [wrN, wrR, answered, fabricBlockWrite_sram, fabricLengthWrite_sram, fabricApply_sram_q,  h]

theorem dict6100_sound : ∀ r ∈ dict6100, RowSound r := by
  simp only [dict6100, List.forall_mem_cons, List.not_mem_nil, false_imp_iff, implies_true, and_true, RowSound]
  refine ⟨?_, ?_, ?_, ?_, ?_, ?_, ?_, ?_, ?_, ?_, ?_, ?_, ?_, ?_, ?_⟩ <;> intro src s b d h <;> (try exact h) <;>
    simp +contextual only [wrN, wrR, answered, solveRequestWrite_sram, rawTargetWrite_sram_q,  h]

theorem dict6200_sound : ∀ r ∈ dict6200, RowSound r := by
  simp only [dict6200, List.forall_mem_cons, List.not_mem_nil, false_imp_iff, implies_true, and_true, RowSound]
  refine ⟨?_, ?_, ?_, ?_, ?_, ?_, ?_, ?_, ?_, ?_, ?_, ?_, ?_, ?_, ?_, ?_, ?_, ?_, ?_, ?_⟩ <;> intro src s b d h <;> (try exact h) <;>
    simp +contextual only [wrN, wrR, answered, commitWrite_sram, commitCancel_sram, circuitNextWrite_sram_q, circuitBatch_sram_q, nextResetWrite_sram_q, portAttenWrite_sram_q,  h]

theorem dict6300_sound : ∀ r ∈ dict6300, RowSound r := by
  simp only [dict6300, List.forall_mem_cons, List.not_mem_nil, false_imp_iff, implies_true, and_true, RowSound]
  refine ⟨?_, ?_, ?_, ?_, ?_, ?_, ?_, ?_, ?_⟩ <;> intro src s b d h <;> (try exact h) <;>
    simp +contextual only [wrN, answered, verifyTimeoutWrite_sram,  h]

theorem dict7000_sound : ∀ r ∈ dict7000, RowSound r := by
  simp only [dict7000, List.forall_mem_cons, List.not_mem_nil, false_imp_iff, implies_true, and_true, RowSound]
  refine ⟨?_, ?_, ?_, ?_, ?_, ?_, ?_, ?_, ?_, ?_, ?_, ?_, ?_, ?_⟩ <;> intro src s b d h <;> (try exact h) <;>
    simp +contextual only [wrN, wrB, answered, pairWrite_sram, decoderControlWrite_sram, learnModeWrite_sram, learnRepostWrite_sram,  h]

theorem dict7100_sound : ∀ r ∈ dict7100, RowSound r := by
  simp only [dict7100, List.forall_mem_cons, List.not_mem_nil, false_imp_iff, implies_true, and_true, RowSound]
  refine ⟨?_, ?_, ?_, ?_, ?_, ?_, ?_, ?_, ?_, ?_, ?_, ?_, ?_⟩ <;> intro src s b d h <;> (try exact h) <;>
    simp +contextual only [wrN, answered, ageTimeWrite_sram, labelItem_sram_q,  h]

theorem dict7200_sound : ∀ r ∈ dict7200, RowSound r := by
  simp only [dict7200, List.forall_mem_cons, List.not_mem_nil, false_imp_iff, implies_true, and_true, RowSound]
  refine ⟨?_, ?_, ?_, ?_, ?_⟩ <;> intro src s b d h <;> (try exact h) <;>
    simp +contextual only [wrN, answered, learnReadIndexWrite_sram,  h]

theorem dict8000a_sound : ∀ r ∈ dict8000a, RowSound r := by
  simp only [dict8000a, List.forall_mem_cons, List.not_mem_nil, false_imp_iff, implies_true, and_true, RowSound]
  refine ⟨?_, ?_, ?_, ?_, ?_, ?_, ?_, ?_, ?_, ?_, ?_, ?_, ?_, ?_, ?_, ?_, ?_, ?_, ?_, ?_, ?_, ?_, ?_, ?_⟩ <;> intro src s b d h <;> (try exact h) <;>
    simp +contextual only [wrN, wrR, answered, scrubControlWrite_sram, scrubRangeWrite_sram, ceLeakIntervalWrite_sram, scrubRateWrite_sram, repairThresholdWrite_sram, repairRow_sram, windowModeWrite_sram_q, windowBlockWrite_sram_q, compatLoad_sram_q,  h]

theorem dict8000b_sound : ∀ r ∈ dict8000b, RowSound r := by
  simp only [dict8000b, List.forall_mem_cons, List.not_mem_nil, false_imp_iff, implies_true, and_true, RowSound]
  refine ⟨?_, ?_, ?_, ?_, ?_⟩ <;> intro src s b d h <;> (try exact h) <;>
    simp +contextual only [wrN, wrI, wrB, wrR, answered,  h, toLive_ite, sram_ite, snd_ite, ite_self]

theorem dict9000a_sound : ∀ r ∈ dict9000a, RowSound r := by
  simp only [dict9000a, List.forall_mem_cons, List.not_mem_nil, false_imp_iff, implies_true, and_true, RowSound]
  refine ⟨?_, ?_, ?_, ?_, ?_, ?_, ?_, ?_, ?_, ?_, ?_, ?_, ?_, ?_, ?_, ?_, ?_, ?_, ?_, ?_, ?_, ?_, ?_, ?_⟩ <;> intro src s b d h <;> (try exact h) <;>
    simp +contextual only [wrN, answered, claimLineClear_sram, claimLineMaskWrite_sram, intervalWrite_sram, freshLimitWrite_sram, yieldWrite_sram, towerDutyWrite_sram,  h]

theorem dict9000b_sound : ∀ r ∈ dict9000b, RowSound r := by
  simp only [dict9000b, List.forall_mem_cons, List.not_mem_nil, false_imp_iff, implies_true, and_true, RowSound]
  refine ?_ <;> intro src s b d h <;> (try exact h) <;>
    simp +contextual only [wrN, wrI, wrB, wrR, answered,  h, toLive_ite, sram_ite, snd_ite, ite_self]

theorem dictA000_sound : ∀ r ∈ dictA000, RowSound r := by
  simp only [dictA000, List.forall_mem_cons, List.not_mem_nil, false_imp_iff, implies_true, and_true, RowSound]
  refine ⟨?_, ?_, ?_, ?_, ?_, ?_, ?_, ?_, ?_, ?_, ?_, ?_, ?_⟩ <;> intro src s b d h <;> (try exact h) <;>
    simp +contextual only [wrN, wrI, answered, thermalRestart_sram, zoneWarnWrite_sram, zoneHighWrite_sram,  h]

theorem dictA100_sound : ∀ r ∈ dictA100, RowSound r := by
  simp only [dictA100, List.forall_mem_cons, List.not_mem_nil, false_imp_iff, implies_true, and_true, RowSound]
  refine ⟨?_, ?_, ?_, ?_, ?_, ?_, ?_⟩ <;> intro src s b d h <;> (try exact h) <;>
    simp +contextual only [wrN, wrI, wrB, wrR, answered,  h, toLive_ite, sram_ite, snd_ite, ite_self]

theorem dictB000_sound : ∀ r ∈ dictB000, RowSound r := by
  simp only [dictB000, List.forall_mem_cons, List.not_mem_nil, false_imp_iff, implies_true, and_true, RowSound]
  refine ⟨?_, ?_, ?_, ?_, ?_, ?_, ?_, ?_, ?_, ?_, ?_, ?_, ?_, ?_, ?_, ?_, ?_, ?_, ?_⟩ <;> intro src s b d h <;> (try exact h) <;>
    simp +contextual only [wrN, answered, deviceRestart_sram, eventReadIndexWrite_sram, faultLogClear_sram, faultAck_sram, irqLevelWrite_sram, suppressLimitWrite_sram,  h]

theorem dictOf_sound (idx : Nat) : ∀ r ∈ dictOf idx, RowSound r := by
  unfold dictOf
  split <;> first
    | (intro r hr; cases hr; done)
    | (intro r hr; rcases List.mem_append.1 hr with hr | hr <;> first | exact dict2000a_sound r hr | exact dict2000b_sound r hr | exact dict5100a_sound r hr | exact dict5100b_sound r hr | exact dict5300a_sound r hr | exact dict5300b_sound r hr | exact dict8000a_sound r hr | exact dict8000b_sound r hr | exact dict9000a_sound r hr | exact dict9000b_sound r hr)
    | exact dict1000_sound | exact dict1100_sound | exact dict1200_sound | exact dictC000_sound | exact dictC100_sound | exact dict2100_sound | exact dict3000_sound | exact dict3100_sound | exact dict3200_sound | exact dict4000_sound | exact dict4100_sound | exact dict4200_sound | exact dict5000_sound | exact dict5200_sound | exact dict6000_sound | exact dict6100_sound | exact dict6200_sound | exact dict6300_sound | exact dict7000_sound | exact dict7100_sound | exact dict7200_sound | exact dictA000_sound | exact dictA100_sound | exact dictB000_sound

theorem named_rowSound {d : Dev} {idx sub : Nat} {sel : Option Nat} {r : ObjRow} {s : Nat}
    (h : d.named idx sub sel = .ok (r, s)) : RowSound r := by
  unfold Dev.named rowOf at h
  split at h
  · cases h
  · rename_i x hx
    have hk := dictOf_sound idx x (List.mem_of_find?_eq_some hx)
    split at h
    · cases h
    · split at h
      · cases h; exact hk
      · split at h <;> cases h; exact hk
      · cases h

theorem writeTarget_rowSound {d : Dev} {level : Nat} {link : Bool} {idx sub : Nat} {sel : Option Nat} {r : ObjRow} {s : Nat}
    (h : d.writeTarget level link idx sub sel = .ok (r, s)) : RowSound r := by
  unfold Dev.writeTarget at h
  split at h
  · cases h
  · rename_i x y hx
    split at h
    · cases h
    · split at h
      · cases h
      · cases h; exact named_rowSound hx

theorem readItem_sram (level idx sub : Nat) (sel : Option Nat) (off len : Nat) (d : Dev) :
    (readItem level idx sub sel off len d).2.sram = d.sram := by
  (simp only [readItem]; (repeat' split) <;> first | with_reducible rfl | simp only [Dev.lastError_sram])

theorem describe_sram (obj : ObjRef) (d : Dev) : (describe obj d).sram = d.sram := by
  simp only [describe, Dev.replyWith_sram]

theorem ObjRow.put_sram_q (r : ObjRow) (src s : Nat) (b : List Byte) (d : Dev) (hr : RowSound r) (h : d.sram.sound = true) :
    (r.put src s b d).2.sram.sound = true := by
  unfold ObjRow.put
  split
  · exact h
  · split
    · exact h
    · exact hr src s b d h

theorem Dev.dropParts_sram (d : Dev) (src : Nat) : (Dev.dropParts d src).sram = d.sram := by
  simp only [Dev.dropParts, Dev.setReq_sram]

theorem partItem_sram_q (src : Nat) (r : ObjRow) (s : Nat) (obj : ObjRef) (off : Nat) (b : List Byte) (more : Bool) (d : Dev)
    (hr : RowSound r) (h : d.sram.sound = true) : (partItem src r s obj off b more d).2.sram.sound = true := by
  unfold partItem
  dsimp only
  split
  · rw [Dev.dropParts_sram]; exact h
  · split
    · split
      · exact h
      · rw [Dev.setReq_sram, Dev.dropParts_sram]; exact h
    · exact ObjRow.put_sram_q _ _ _ _ _ hr (by rw [Dev.dropParts_sram]; exact h)

theorem putItem_sram_q (src : Nat) (r : ObjRow) (s : Nat) (obj : ObjRef) (off : Nat) (b : List Byte) (more : Bool) (d : Dev)
    (hr : RowSound r) (h : d.sram.sound = true) : (putItem src r s obj off b more d).2.sram.sound = true := by
  unfold putItem
  split
  · exact partItem_sram_q _ _ _ _ _ _ _ _ hr h
  · exact ObjRow.put_sram_q _ _ _ _ _ hr h

theorem writeItem_sram_q (src level : Nat) (link : Bool) (obj : ObjRef) (ty off : Nat) (b : List Byte) (more : Bool) (d : Dev)
    (h : d.sram.sound = true) : (writeItem src level link obj ty off b more d).2.sram.sound = true := by
  unfold writeItem
  split
  · exact h
  · rename_i r s hw
    split
    · exact h
    · exact putItem_sram_q _ _ _ _ _ _ _ _ (writeTarget_rowSound hw) h

theorem domainPartWrite_sram_q (src level : Nat) (obj : ObjRef) (off : Nat) (b : List Byte) (more : Bool) (d : Dev)
    (h : d.sram.sound = true) : (domainPartWrite src level obj off b more d).sram.sound = true := by
  unfold domainPartWrite
  have := writeItem_sram_q src level (src ≠ 0) obj 13 off b more d h
  unfold Dev.answerNow
  split
  · rw [Dev.reply_sram]; exact this
  · exact this

theorem assemblyTimeout_sram (src : Nat) (d : Dev) : (assemblyTimeout src d).sram = d.sram := by
  simp only [assemblyTimeout, Dev.dropParts_sram, toLive_ite, sram_ite, ite_self]

theorem registerWrite_sram_q (level : Nat) (obj : ObjRef) (v : ObjVal) (d : Dev) (h : d.sram.sound = true) :
    (registerWrite level obj v d).sram.sound = true := by
  unfold registerWrite
  split
  · rw [Dev.reply_sram]; exact h
  · rename_i r s hw
    split
    · rw [Dev.reply_sram]; exact h
    · rename_i b _
      have := ObjRow.put_sram_q r 0 s b d (writeTarget_rowSound hw) h
      unfold Dev.answerNow
      dsimp only
      split
      · rw [Dev.reply_sram]; exact this
      · exact this

/-! ## MateSync -/

theorem Dev.sendKept_sram (d : Dev) (kind item : Nat) (poison : Bool) (body : List Byte) :
    (Dev.sendKept d kind item poison body).sram = d.sram := by
  simp only [Dev.sendKept, Dev.setTow_sram, Dev.sendSync_sram]

theorem calPointsForward_sram (e : Nat) (d : Dev) : (calPointsForward e d).sram = d.sram := by
  simp only [calPointsForward, Dev.setCal_sram, Dev.sendKept_sram, toLive_ite, sram_ite, ite_self]

theorem labelCommandForward_sram (d : Dev) : (labelCommandForward d).sram = d.sram := by
  (simp only [labelCommandForward]; (repeat' split) <;> first | with_reducible rfl | simp only [Dev.setLab_sram, Dev.sendKept_sram])

theorem Dev.resend_sram (d : Dev) (x : SyncOut) : (Dev.resend d x).sram = d.sram := by
  simp only [Dev.resend, Dev.toMate_sram, toLive_ite, sram_ite, ite_self]

theorem mateSyncResend_sram (n : BitVec 32) (d : Dev) : (mateSyncResend n d).sram = d.sram := by
  (simp only [mateSyncResend]; (repeat' split) <;> first | with_reducible rfl | simp only [Dev.setTow_sram, Dev.resend_sram])

theorem mateSyncLost_sram (n : BitVec 32) (d : Dev) : (mateSyncLost n d).sram = d.sram := by
  (simp only [mateSyncLost]; (repeat' split) <;> first | with_reducible rfl | simp only [Dev.raise_sram, Dev.setTow_sram])

theorem mateSyncAck_sram (n : BitVec 32) (d : Dev) : (mateSyncAck n d).sram = d.sram := by
  simp only [mateSyncAck, Dev.takeAny_sram, Dev.setTow_sram]

theorem Dev.applySync_sram_q (d : Dev) (n : BitVec 32) (poison : Bool) (f : Dev → Resp × Dev) (hf : ∀ d, d.sram.sound = true → (f d).2.sram.sound = true) (h : d.sram.sound = true) :
    (Dev.applySync d n poison f).sram.sound = true := by
  simp +contextual only [Dev.applySync, Dev.takeAny_sram, Dev.setTow_sram, Dev.ack_sram, toLive_ite, sram_ite, ite_self, sound_ite, h, hf]

theorem mateSyncCalPoints_sram_q (n : BitVec 32) (e : Nat) (b : List Byte) (poison : Bool) (d : Dev) (h : d.sram.sound = true) :
    (mateSyncCalPoints n e b poison d).sram.sound = true :=
  Dev.applySync_sram_q _ _ _ _ (fun _ hx => calPointsWrite_sram_q _ _ _ hx) h

theorem applyMateLabel_sram_q (c : LabelCmd) (d : Dev) (h : d.sram.sound = true) :
    (applyMateLabel c d).2.sram.sound = true := by
  simp +contextual only [applyMateLabel, Dev.acceptLabel_sram_q, toLive_ite, sram_ite, snd_ite, ite_self, sound_ite, h]

theorem mateSyncLabelCommand_sram_q (n : BitVec 32) (c : LabelCmd) (poison : Bool) (d : Dev) (h : d.sram.sound = true) :
    (mateSyncLabelCommand n c poison d).sram.sound = true :=
  Dev.applySync_sram_q _ _ _ _ (fun _ hx => applyMateLabel_sram_q _ _ hx) h

/-! ## Requests -/

theorem runItem_sram_q (src level : Nat) (link : Bool) (i : ReqItem) (d : Dev) (h : d.sram.sound = true) :
    (runItem src level link i d).2.2.sram.sound = true := by
  unfold runItem
  split
  · simp only [readItem_sram, h]
  · have := writeItem_sram_q src level link i.obj i.ty i.off i.value i.more d h
    dsimp only
    split <;> exact this
  · exact h

theorem runItems_sram_q (src level : Nat) (link : Bool) (l : List ReqItem) (x : ItemRun) (d : Dev) (h : d.sram.sound = true) :
    (runItems src level link l x d).2.sram.sound = true := by
  induction l generalizing x d with
  | nil => exact h
  | cons i l ih =>
    unfold runItems
    dsimp only
    split
    · exact runItem_sram_q _ _ _ _ _ h
    · exact ih _ _ (runItem_sram_q _ _ _ _ _ h)

theorem Dev.takeCounter_sram (d : Dev) (b : ReqBody) : (Dev.takeCounter d b).sram = d.sram := by
  simp only [Dev.takeCounter]

theorem Dev.freeWindow_sram (d : Dev) (src : Nat) : (Dev.freeWindow d src).sram = d.sram := by
  simp only [Dev.freeWindow, Dev.setReq_sram]

theorem Dev.windowRoom_sram (d : Dev) : ∀ d2, d.windowRoom = some d2 → d2.sram = d.sram := by
  intro d2 h
  unfold Dev.windowRoom at h
  split at h
  · cases h; rfl
  · dsimp only at h
    split at h
    · cases h
    · obtain ⟨w, _, rfl⟩ := Option.map_eq_some_iff.1 h
      exact Dev.freeWindow_sram ..

theorem Dev.acceptRequest_sram (d : Dev) (q : ReqFrame) : ∀ d2, d.acceptRequest q = some d2 → d2.sram = d.sram := by
  intro d2 h
  unfold Dev.acceptRequest at h
  split at h
  · cases h
  · split at h
    · cases h; rfl
    · split at h
      · cases h; exact Dev.putWindow_sram ..
      · obtain ⟨x, hx, rfl⟩ := Option.map_eq_some_iff.1 h
        rw [Dev.putWindow_sram, Dev.windowRoom_sram d x hx]

theorem Dev.refuse_sram (d : Dev) (q : ReqFrame) (code : Resp) : (Dev.refuse d q code).sram = d.sram := by
  simp only [Dev.refuse, Dev.sendResponse_sram]

theorem Dev.conclude_sram (d : Dev) (was o : Outstanding) : (Dev.conclude d was o).sram = d.sram := by
  simp only [Dev.conclude, Dev.finishRequest_sram, Dev.setReq_sram, toLive_ite, sram_ite, snd_ite, ite_self, implies_true]

theorem Dev.execute_sram_q (d : Dev) (d0 : Dev) (q : ReqFrame) (b : ReqBody) (o : Outstanding) (h : d.sram.sound = true) (h0 : d0.sram.sound = true) : (Dev.execute d d0 q b o).sram.sound = true := by
  have h1 := runItems_sram_q q.src.toNat o.level (!q.spi) b.items {} (d.setReq (fun r => { r with outstanding := r.outstanding ++ [o] })) h
  unfold Dev.execute
  dsimp only
  split
  · rw [Dev.refuse_sram, Dev.countReq_sram]; exact h0
  · split
    · exact h1
    · rw [Dev.conclude_sram, Dev.countReq_sram]; exact h1

theorem Dev.judge_sram_q (d : Dev) (d0 : Dev) (q : ReqFrame) (b : ReqBody) (digest : List Byte) (h : d.sram.sound = true) (h0 : d0.sram.sound = true) : (Dev.judge d d0 q b digest).sram.sound = true := by
  unfold Dev.judge
  dsimp only
  split
  · exact Dev.execute_sram_q _ _ _ _ _ h h0
  · split
    · exact Dev.execute_sram_q _ _ _ _ _ (by rw [Dev.takeCounter_sram]; exact h) (by rw [Dev.takeCounter_sram]; exact h0)
    · rw [Dev.finishRequest_sram, Dev.countReq_sram]; exact h

theorem Dev.take4_sram_q (d : Dev) (q : ReqFrame) (b : ReqBody) (digest : List Byte) (h : d.sram.sound = true) : (Dev.take4 d q b digest).sram.sound = true := by
  unfold Dev.take4
  split
  · rw [Dev.refuse_sram, Dev.countReq_sram]; exact h
  · rename_i d' hd
    exact Dev.judge_sram_q _ _ _ _ _ (by rw [Dev.acceptRequest_sram d q d' hd]; exact h) h

theorem Dev.take3_sram_q (d : Dev) (q : ReqFrame) (b : ReqBody) (h : d.sram.sound = true) :
    (Dev.take3 d q b).sram.sound = true := by
  (simp +contextual only [Dev.take3]; (repeat' split) <;> first | with_reducible rfl | (simp +contextual only [Dev.setReq_sram, Dev.countReq_sram, Dev.answerFromCache_sram, Dev.refuse_sram, Dev.take4_sram_q, h]))

theorem Dev.touchWindow_sram (d : Dev) (src : Nat) : (Dev.touchWindow d src).sram = d.sram := by
  simp only [Dev.touchWindow, Dev.setReq_sram]

theorem Dev.serve_sram_q (d : Dev) (q : ReqFrame) (h : d.sram.sound = true) : (Dev.serve d q).sram.sound = true := by
  (simp +contextual only [Dev.serve, Dev.refuse_sram, toLive_ite, sram_ite, sound_ite, h]; (repeat' split) <;> first | with_reducible rfl | (simp +contextual only [Dev.countReq_sram, Dev.refuse_sram, Dev.take4_sram_q, Dev.take3_sram_q, h]))

theorem requestReceive_sram_q (q : ReqFrame) (d : Dev) (h : d.sram.sound = true) : (requestReceive q d).sram.sound = true := by
  (simp +contextual only [requestReceive]; (repeat' split) <;> first | with_reducible rfl | (simp +contextual only [Dev.serve_sram_q, Dev.takeAny_sram, Dev.touchWindow_sram, implies_true, h]))

theorem windowFree_sram (src : Nat) (d : Dev) : (windowFree src d).sram = d.sram := by
  (simp only [windowFree]; (repeat' split) <;> first | with_reducible rfl | simp only [Dev.freeWindow_sram])

theorem telemList_sram (n : Nat) (b : List Byte) (d : Dev) : (telemList n b d).sram = d.sram := by
  have key : ∀ (level room : Nat) (l : List TelemObj) (r : List (List Byte × Bool) × Dev), (l.foldl (fun (x : List (List Byte × Bool) × Dev) o =>
    let p := readItem level o.idx o.sub o.sel 0 0 x.2
    let a := telemAnswer room p.1
    (x.1 ++ [(o.name ++ a.bytes, a.poison)], p.2)) r).2.sram = r.2.sram := by
    intro level room l
    induction l with
    | nil => intro r; rfl
    | cons o l ih => intro r; simp only [List.foldl_cons, ih, readItem_sram]
  unfold telemList
  simp only [Dev.setReq_sram, foldl_sram _ _ _ (fun (f : (List Byte × Nat × Bool) × Nat) (x : Dev) => Dev.originate_sram x ..), key]

theorem Dev.telemTick_sram (d : Dev) : (Dev.telemTick d).sram = d.sram := by
  simp only [Dev.telemTick, telemList_sram, each_sram, toLive_ite, sram_ite, ite_self, implies_true]

/-! ## Tick -/

theorem Dev.endCycle_sram_q (d : Dev) (ended : Nat) (h : d.sram.sound = true) :
    (Dev.endCycle d ended).sram.sound = true := by
  simp +contextual only [Dev.endCycle, Dev.darkEvents_sram, Dev.missedCaptures_sram, Dev.digestTick_sram, Dev.labelTick_sram_q, Dev.curveChecks_sram_q, h]

theorem Dev.takeConf_sram (d : Dev) (t : Nat) : (d.takeConf t).sram = d.sram := by
  (simp only [Dev.takeConf]; (repeat' split) <;> rfl)

theorem Dev.openCycle_sram (d : Dev) (t : Nat) : (Dev.openCycle d t).sram = d.sram := by
  simp only [Dev.openCycle, Dev.setTime_sram, Dev.takeConf_sram]

theorem Dev.standBy_sram (d : Dev) : (Dev.standBy d).sram = d.sram := by
  simp only [Dev.standBy, Dev.stopLoop_sram, toLive_ite, sram_ite, ite_self]

theorem Dev.applyStaged_sram_q (d : Dev) (h : d.sram.sound = true) : (d.applyStaged).sram.sound = true := by
  exact each_sram_q _ _ _ (fun e x hx => Dev.recordOnly_sram_q x e hx) h

theorem Dev.roleTick_sram_q (d : Dev) (lost : Bool) (h : d.sram.sound = true) : (Dev.roleTick d lost).sram.sound = true := by
  simp +contextual only [Dev.roleTick, Dev.setTow_sram, Dev.standBy_sram, Dev.applyStaged_sram_q, toLive_ite, sram_ite, ite_self, sound_ite, h]

theorem Dev.claimTick_sram_q (d : Dev) (h : d.sram.sound = true) : (Dev.claimTick d).sram.sound = true := by
  simp +contextual only [Dev.claimTick, Dev.applyClaim_sram, Dev.markTakeover_sram, Dev.roleTick_sram_q, toLive_ite, sram_ite, ite_self, h]

theorem Dev.fireAction_sram (d : Dev) (t action : Nat) (f : Dev → Resp × Dev) (hf : ∀ d, (f d).2.sram = d.sram) :
    (Dev.fireAction d t action f).sram = d.sram := by
  (simp only [Dev.fireAction]; (repeat' split) <;> first | with_reducible rfl | simp only [Dev.endTrigger_sram, each_sram, implies_true, hf])

theorem Dev.fireTriggers_sram (d : Dev) (t : Nat) : (Dev.fireTriggers d t).sram = d.sram := by
  simp only [Dev.fireTriggers, darkCapture_sram, traceForce_sram, Dev.tickOutEdge_sram, Dev.fireAction_sram, implies_true]

theorem Dev.halfRateTick_sram (d : Dev) : (Dev.halfRateTick d).sram = d.sram := by
  simp only [Dev.halfRateTick]

theorem Dev.loadSpares_sram (d : Dev) (before : List (Nat × Nat)) : (Dev.loadSpares d before).sram = d.sram := by
  simp only [Dev.loadSpares, Dev.loadCorr_sram, each_sram, implies_true]

theorem Dev.driveTick_sram_q (d : Dev) (h : d.sram.sound = true) : (Dev.driveTick d).sram.sound = true := by
  simp +contextual only [Dev.driveTick, Dev.actContention_sram, Dev.groupTick_sram_q, Dev.lateWrites_sram, Dev.lineTick_sram, Dev.loadSpares_sram, Dev.rowTick_sram, Dev.swapPages_sram, toLive_ite, sram_ite, snd_ite, ite_self, sound_ite, implies_true, h]

theorem Dev.engineTick_sram (d : Dev) (missed : Bool) : (Dev.engineTick d missed).sram = d.sram := by
  simp only [Dev.engineTick, Dev.throttleTick_sram, Dev.loopTick_sram, Dev.laneTick_sram, Dev.checkerTick_sram, Dev.countTick_sram, Dev.halfRateTick_sram]

theorem Dev.countQuarter_sram (d : Dev) : (Dev.countQuarter d).sram = d.sram := by
  simp only [Dev.countQuarter, Dev.setDec_sram, toLive_ite, sram_ite, snd_ite, ite_self, implies_true]

theorem Dev.sampleTick_sram_q (d : Dev) (h : d.sram.sound = true) : (Dev.sampleTick d).sram.sound = true := by
  simp +contextual only [Dev.sampleTick, Dev.countQuarter_sram, Dev.decoderTick_sram_q, Dev.labelPhases_sram, Dev.pairTick_sram, Dev.readoutTick_sram, Dev.refitTick_sram, Dev.sweepTick_sram, toLive_ite, sram_ite, snd_ite, ite_self, sound_ite, implies_true, h]

theorem Dev.rejoinTick_sram (d : Dev) : (Dev.rejoinTick d).sram = d.sram := by
  (simp only [Dev.rejoinTick]; (repeat' split) <;> first | with_reducible rfl | simp only [Dev.originate_sram, Dev.setBoot_sram, boot_sram, implies_true])

theorem Dev.savedTick_sram (d : Dev) : (Dev.savedTick d).sram = d.sram := by
  (simp only [Dev.savedTick]; (repeat' split) <;> first | with_reducible rfl | simp only [Dev.setBoot_sram, Dev.setFlash_sram, boot_sram, implies_true])

theorem Dev.towerTick_sram (d : Dev) (selftest : Nat) : (Dev.towerTick d selftest).sram = d.sram := by
  simp only [Dev.towerTick, Dev.dutyTick_sram, Dev.readinessTick_sram, Dev.rejoinTick_sram, Dev.savedTick_sram, Dev.selftestTick_sram, Dev.undrivenTick_sram, Dev.wordAskTick_sram, toLive_ite, sram_ite, snd_ite, ite_self, implies_true]

theorem Dev.readoutRestart_sram (d : Dev) : (Dev.readoutRestart d).sram = d.sram := by
  simp only [Dev.readoutRestart, Dev.setRd_sram, toLive_ite, sram_ite, snd_ite, ite_self, implies_true]

theorem Dev.tickActions_sram_q (d : Dev) (t : Nat) (h : d.sram.sound = true) : (Dev.tickActions d t).sram.sound = true := by
  simp +contextual only [Dev.tickActions, Dev.beginCapture_sram, Dev.claimTick_sram_q, Dev.commitTick_sram_q, Dev.darkTick_sram, Dev.fireTriggers_sram, Dev.intervalTick_sram, Dev.readoutRestart_sram, Dev.rightsTick_sram, Dev.rotationTick_sram, Dev.toneTick_sram, Dev.verifyTick_sram, Dev.wiredTick_sram, toLive_ite, sram_ite, snd_ite, ite_self, sound_ite, implies_true, h]

theorem Dev.runTick_sram (d : Dev) : (Dev.runTick d).sram = d.sram := by
  simp only [Dev.runTick, toLive_ite, sram_ite, snd_ite, ite_self, implies_true]

theorem tick_sram_q (env : TickEnv) (d : Dev) (h : d.sram.sound = true) : (tick env d).sram.sound = true := by
  unfold tick
  split
  · exact h
  · simp only [Dev.telemTick_sram, Dev.judgeGuarantee_sram, Dev.trafficTick_sram, Dev.stepWaiting_sram, Dev.towerTick_sram]
    apply Dev.sampleTick_sram_q
    rw [Dev.engineTick_sram]
    apply Dev.driveTick_sram_q
    apply Dev.tickActions_sram_q
    apply Dev.traceTick_sram_q
    apply Dev.finishCapture_sram_q
    rw [Dev.runTick_sram, Dev.openCycle_sram, Dev.snapshot_sram]
    apply Dev.endCycle_sram_q
    rw [Dev.advanceTo_sram]
    exact h

end Sys2Proof.Machine
end

