-- ==== Sys2Proof/Machine/Package.lean ====
section
/-! DEFINITION. The ball field: which signal each of the 2,916 balls carries, and the names of balls (R442 to R448). -/

namespace Sys2Proof.Machine

/-- The single balls of the control regions (R443, R448). -/
inductive ControlSignal where
  | clma | clmb | resetN | faultN | irqN | testMode
  | refclkAP | refclkAN | refclkBP | refclkBN | ppsIn | ppsOut | tickOut | snapIn | vsenseP | vsenseN
  | strapDomeEn | strapChainEn | strapLinkRate | strapLinkFec | strapUnit0 | strapUnit1 | strapUnit2 | strapUnit3
  | strapFlashQuad | strapRecovery | strapStartCal
  | bspiSck | bspiCsN | bspiMosi | bspiMiso | fspiSck | fspiCsN | fspiIo0 | fspiIo1 | fspiIo2 | fspiIo3
  | tck | tms | tdi | tdo | trstN
deriving DecidableEq, Repr

/-- The signals of R443, numbered where the group has more than one. -/
inductive Signal where
  | dcol (n : Nat) | mcol (n : Nat) | drow (k : Nat) | msel (k : Nat)
  | arrCom | aux (n : Nat) | auxRet | vrhCap | vrlCap
  | txP (lane : Nat) | txN (lane : Nat) | rxP (lane : Nat) | rxN (lane : Nat)
  | control (c : ControlSignal)
  | vddCore | vddSram | vdda1p2 | vdd1p8 | vdd3p3 | vdrv | vss
deriving DecidableEq, Repr

/-- Name of a row of balls (R442): 19 letters, then the same after A, then after B. -/
def rowLetter (i : Nat) : String :=
  ["A", "B", "C", "D", "E", "F", "G", "H", "J", "K", "L", "M", "N", "P", "T", "U", "V", "W", "Y"].getD i ""

def rowName (i : Nat) : String :=
  if i < 19 then rowLetter i else if i < 38 then "A" ++ rowLetter (i - 19) else "B" ++ rowLetter (i - 38)

/-- Name of a ball: its row and its column from 1. -/
def ballName (i j : Nat) : String := rowName i ++ toString j

/-- f(k) of R445. -/
def fieldColumn (k : Nat) : Nat := 7 + k + k / 4

/-- The array field (R445). -/
def arraySignal (i j : Nat) : Signal :=
  match firstWhere (fun k => fieldColumn k = j) 33 0 with
  | none => .vss
  | some k =>
    if i < 8 then .dcol (if k = 32 then 256 + i else 32 * i + k)
    else if i < 16 then .mcol (if k = 32 then 256 + (i - 8) else 32 * (i - 8) + k)
    else if k = 32 then .vss
    else if i < 20 then .drow (32 * (i - 16) + k) else .msel (32 * (i - 20) + k)

/-- Rows A to AE outside the array field (R444). -/
def flankSignal (i j : Nat) : Signal :=
  if j = 6 ∨ j = 48 then .arrCom
  else if j = 5 then .vdd1p8
  else if j = 3 then (if i < 16 then .aux i else if i < 20 then .auxRet else .vss)
  else if j = 50 ∨ j = 52 then .vdrv
  else if j = 54 then (if i < 4 then .vrhCap else if i < 8 then .vrlCap else .vss)
  else .vss

/-- The core (R446). -/
def coreSignal (i j : Nat) : Signal :=
  if (i + j) % 2 = 0 then .vss else if j = 6 ∨ j = 7 ∨ j = 48 ∨ j = 49 then .vddSram else .vddCore

/-- Control balls by row index and column; every other ball of the control regions is VSS (R448). -/
def controlBalls : List (Nat × Nat × ControlSignal) := [
  (24, 1, .clma), (24, 3, .resetN), (24, 4, .faultN), (24, 54, .clmb), (25, 3, .irqN), (25, 4, .testMode),
  (26, 1, .refclkAP), (26, 2, .refclkAN), (26, 4, .ppsIn), (26, 53, .refclkBP), (26, 54, .refclkBN),
  (27, 3, .ppsOut), (27, 4, .tickOut), (28, 1, .snapIn), (28, 3, .vsenseP), (28, 4, .vsenseN),
  (28, 51, .strapDomeEn), (28, 52, .strapChainEn), (28, 53, .strapLinkRate), (28, 54, .strapLinkFec),
  (29, 1, .bspiSck), (29, 2, .bspiCsN), (29, 3, .bspiMosi), (29, 4, .bspiMiso),
  (29, 51, .strapUnit0), (29, 52, .strapUnit1), (29, 53, .strapUnit2), (29, 54, .strapUnit3),
  (30, 51, .strapFlashQuad), (30, 52, .strapRecovery), (30, 53, .strapStartCal),
  (31, 1, .fspiSck), (31, 2, .fspiCsN), (31, 3, .fspiIo0), (31, 4, .fspiIo1), (32, 1, .fspiIo2), (32, 2, .fspiIo3),
  (33, 1, .tck), (33, 2, .tms), (33, 3, .tdi), (33, 4, .tdo), (34, 1, .trstN)]

def controlSignal (i j : Nat) : Signal :=
  match controlBalls.find? (fun c => c.1 = i && c.2.1 = j) with
  | some c => .control c.2.2
  | none => .vss

/-- The lane field (R447): six bands of a transmit, a receive and a shield row. -/
def laneSignal (i j : Nat) : Signal :=
  if j ≤ 2 ∨ 53 ≤ j then .vdda1p2
  else
    let n := 16 * ((i - 36) / 3) + (j - 3) / 3
    match (i - 36) % 3, (j - 3) % 3 with
    | 0, 0 => if (j - 3) / 3 < 16 then .txP n else .vss
    | 0, 1 => if (j - 3) / 3 < 16 then .txN n else .vss
    | 1, 0 => if (j - 3) / 3 < 16 then .rxP n else .vss
    | 1, 1 => if (j - 3) / 3 < 16 then .rxN n else .vss
    | _, _ => .vss

/-- The signal of the ball at row index i, from 0, and column j, from 1 (R444). -/
def signalAt (i j : Nat) : Signal :=
  if i < 24 then (if 7 ≤ j ∧ j ≤ 47 then arraySignal i j else flankSignal i j)
  else if i < 36 then
    (if j ≤ 4 ∨ 51 ≤ j then controlSignal i j
     else if j = 5 ∨ j = 50 then .vdd3p3 else coreSignal i j)
  else laneSignal i j

/-! ## Pins around reset, and boundary scan (R423, R443) -/

/-- Who drives FSPI_CS_N: nobody, and it is high, while RESET_N is low; the boot ROM till firmware start; then firmware (R423). -/
inductive FlashSelect where
  | high | bootRom | firmware
deriving DecidableEq, Repr

def Dev.flashSelect (d : Dev) : FlashSelect :=
  match d.boot.phase with
  | .held => .high
  | .rom | .recovery | .loaded => .bootRom
  | .firmware | .stopped => .firmware

/-- A signal of the array, whose boundary cells only observe (R423). -/
def Signal.ofArray (x : Signal) : Bool :=
  match x with
  | .dcol _ | .drow _ | .mcol _ | .msel _ => true
  | _ => false

/-- Boundary scan drives a signal: under EXTEST, the port out of reset, never an array signal (R423, R443). -/
def Dev.scanDrives (d : Dev) (x : Signal) : Bool := !d.boot.scan.inReset && d.boot.scan.instr = .extest && !x.ofArray

/-- The balls that carry a signal, by row index and column. -/
def ballsOf (x : Signal) : List (Nat × Nat) :=
  (List.range 54).flatMap (fun i => ((List.range 54).filter (fun j => signalAt i (j + 1) = x)).map (fun j => (i, j + 1)))

end Sys2Proof.Machine
end

