-- ==== Sys2Proof/Tests/Slice0.lean ====
section
/-! SUPPORT. Witnesses of every statement's hypotheses, ill-formed terms that WellFormed refuses, and the figures of the
spec's worked examples. -/

namespace Sys2Proof.Tests

open Sys2Proof.Machine

set_option Elab.async false

/-- A device whose firmware runs. -/
def up : Dev := { boot := { phase := .firmware } }

/-- A state over a device, with an empty queue. -/
def st (d : Dev) : State := { dev := d }

/-- A device with a map in force whose one element, number 0, is an ATTEN element in use. -/
def mapped : Dev :=
  { up with fab := { image := List.replicate 8 0 ++ [0, 1] ++ List.replicate 54 0 ++ [0x80, 0, 0, 0, 0, 0, 4, 0] } }

/-- A commit named for 4,000 ns. -/
def com : PendingCommit := { at_ := ⟨0, 4000⟩, expectGen := 0xFFFFFFFF, group := 0 }

/-- A Dome by its straps. -/
def dome : Dev := { up with boot := { up.boot with straps := 1 } }

/-- Lane 4 as the downlink of plane A. -/
def downlink : Dev := { up with net := { lanes := [(4, { state := .up, lock := true, heard := true })] } }

/-- A device in lock at 1 s. -/
def locked : Dev := { up with time := { secs := 1, lastTick := 1000000000, nextTick := 1000004000, state := .locked } }

/-- A label command of an opcode on key 5, port 0. -/
def cmd (op : BitVec 8) : LabelCmd :=
  { opcode := op, flags := 0, tag := 0, key := 5, port := 0, cursor := 0, count := 1, requester := 0 }

/-- A map of one port. -/
def onePort : Dev := { mapped with fab := { image := [0, 0, 1, 0, 0, 1] ++ mapped.fab.image.drop 6 } }

/-- A merge buffer of one host write of byte 0x11, over a word poisoned or not. -/
def merging (p : Bool) : Dev :=
  { up with sram := { poison := if p then [(0x10, true)] else [], merge := [⟨0x10, [(0x11, 7)], .requestService, true⟩] } }

/-- An incumbent whose mate's report, just received, shows readiness 2 and no cause. -/
def incumbent : Dev :=
  { up with
    time := { up.time with state := .locked }
    tow := { up.tow with role := 0, reportAt := some 0, mateReport := [0, 0, 0, 2] ++ List.replicate 12 0 ++ List.replicate 16 0 } }

/-- A Turret with a downlink on lane 4 and its uplink UP. -/
def turret : Dev :=
  { up with net := { role := .turret, address := 1, lanes := [(0, { state := .up, lock := true }), (4, { state := .up, lock := true, heard := true })] } }

/-- A mate lane that is up, an image to send of one chunk, one under reception and one verified before the present tick. -/
def mated (k : Nat) (drives : Bool) : Dev :=
  { up with
    arr := { up.arr with outputState := if drives then .driving else .highZ, wiredOn := true }
    cyc := { up.cyc with ticks := 1 }
    net := { lanes := [(2, { state := .up, lock := true, heard := true })] }
    tow := { up.tow with
      stream := some ⟨⟨0, 0, 1, 0, [], []⟩, k⟩, reception := some ⟨0, 0, 0, 0, [], false⟩, verified := some ⟨0, 0, 1, 0, [], []⟩ } }

/-! ## Witnesses -/

theorem wit_front :
    (match exec (.faultAck 1) (st up) with | .next t => t.pending.isEmpty | _ => false) = true ∧ (State.reset).dev.boot.phase = .held ∧ (st up).dev.boot.phase ≠ .held := by
  decide +kernel

theorem wit_cycle_legal :
    (st up).dev.cyc.legal = true
      ∧ (match step { st up with pending := [.faultAck 1] } with | .next t => t.dev.cyc.legal | _ => false) = true := by
  decide +kernel

theorem wit_memory_sound :
    (st (merging true)).dev.sram.sound = true
      ∧ (match step { st (merging true) with pending := [.mergeRetire []] } with | .next t => t.dev.sram.sound | _ => false) = true := by
  decide +kernel

theorem wit_record : (Rec.fits {}) = true ∧ (st up).dev.sram.sound = true ∧ ({} : Rec).codeSlew ≠ 0
    ∧ Rec.fits { kp := -32768, ki := 32767, phiMin := -8388608, eLast := -65536, flags := 4095, meas := 1048575 } = true := by
  decide +kernel

theorem wit_withdrawn :
    (st { up with ev := { up.ev with deviceFault := 3 } }).dev.health = 0 ∧ (st up).dev.boot.phase ≠ .held
      ∧ (st up).dev.tow.window = 0 := by decide +kernel

theorem wit_reset : (st incumbent).dev.tow.role = 0 ∧ (st up).dev.tow.role ≠ 0 := by decide

/-- A device at whose tick a snapshot, staged rights, a loss and a trigger act. -/
def eventful : Dev :=
  { up with
    time := { up.time with snapNow := true, triggers := [(3, { state := .pending, action := 4 })] }
    req := { up.req with rightsPending := true }, tow := { up.tow with latched := some false }
    traf := { up.traf with histClearDue := true }, lab := { up.lab with pass := some 2175 }, dec := { up.dec with state := .running } }

theorem wit_tick : (st up).dev.boot.phase ≠ .held ∧ State.reset.dev.boot.phase = .held
    ∧ (st eventful).dev.time.snapNow = true ∧ (st eventful).dev.cfg.time.snapLock = false
    ∧ ((st eventful).dev.trigger 3).state = .pending ∧ ((st eventful).dev.trigger 3).at_.total ≤ (st eventful).dev.time.nextTick
    ∧ ((st eventful).dev.trigger 3).action = 4 ∧ (st eventful).dev.tow.latched = some false ∧ (st up).dev.tow.latched = none
    ∧ (st eventful).dev.lab.pass = some 2175 ∧ (st eventful).dev.dec.state = .running ∧ (st eventful).dev.lab.queue = []
    ∧ (st eventful).dev.lab.flush = none ∧ (st eventful).dev.traf.histClearDue = true ∧ (st up).dev.cfg.req.telem = []
    ∧ (st up).dev.circ.armed = none := by decide

/-- An incumbent at whose next tick a capture begins. -/
def capturing : Dev :=
  { incumbent with
    arr := { incumbent.arr with outputState := .driving, wiredOn := true }
    tow := { incumbent.tow with intervalOn := 1 }
    cfg := { incumbent.cfg with arr := { towerWired := true }, tow := { enable := true, interval := 1 } } }

theorem wit_tick_capture :
    (tick {} capturing).arr.outputState = .driving ∧ (tick {} capturing).arr.wiredOn = true
      ∧ (tick {} capturing).cycleNo % (tick {} capturing).tow.intervalOn = 0 ∧ (tick {} capturing).tow.capture.isSome = true := by
  decide +kernel

/-- A device whose engine runs and whose outputs drive, with the map of one element. -/
def engineOn : Dev :=
  { mapped with loop := { state := .running }, rd := { state := .run }, arr := { outputState := .driving } }

theorem wit_slot :
    (st { up with cyc := { slot := 127 } }).dev.cyc.slot < (st { up with cyc := { slot := 127 } }).dev.cyc.conf.rows + 0
      ∧ (st { up with cyc := { slot := 128 } }).dev.cyc.conf.rows + 0 ≤ 128
      ∧ (st engineOn).dev.rd.state = .run ∧ (st engineOn).dev.arr.outputState = .driving ∧ (st up).dev.loop.state = .stopped
      ∧ (st engineOn).dev.columnState 0 = 1 ∧ ({} : SlotEnv).parityOne = [] ∧ ({} : SlotEnv).parityBoth = [] := by decide +kernel

theorem wit_slot_update :
    (st engineOn).dev.loop.state ≠ .stopped ∧ (st engineOn).dev.rowElems ((st engineOn).dev.rowNext 0) = [0]
      ∧ (st engineOn).dev.parked 0 = false ∧ (st engineOn).dev.computes 0 0 = true ∧ (st engineOn).dev.recPoisoned 0 = false
      ∧ (st engineOn).dev.curvePoisoned 0 = false ∧ tget false (st engineOn).dev.loop.holdLate 0 = false
      ∧ ({} : SlotEnv).rowLow = [] ∧ (st engineOn).dev.sram.merge = [] := by decide +kernel

/-- What an ATTEN element's update is handed: it rests, in a mode. -/
def quiet (m : Nat) : UpdIn := ((st engineOn).dev.fetch 0 0 0).inp |> fun x => { x with r := { x.r with mode := m } }

/-- The same with a valid sample of charge v. -/
def lit (v : Int) : UpdIn := { quiet 0 with sa := { value := v, flags := 1 }, r := { (quiet 0).r with kind := 2 } }

theorem wit_element_update :
    ({ quiet 0 with line := some 2 } : UpdIn).line = some 2 ∧ (quiet 2).line = none ∧ (quiet 2).group = false ∧ (quiet 2).sweep = none
      ∧ (quiet 2).hold = false ∧ (quiet 2).commit = none ∧ (quiet 2).soft = none ∧ (quiet 2).fromHold = false ∧ (quiet 2).mode = none
      ∧ (quiet 2).r.mode = 2 ∧ (quiet 1).r.mode = 1
      ∧ (lit 0).r.mode = 0 ∧ (lit 0).measured = true ∧ (lit 0).isDark = true := by decide +kernel

theorem wit_loop :
    (st { up with loop := { state := .restartPending } }).dev.loop.state = .restartPending
      ∧ (st { up with therm := { state := 3 } }).dev.therm.state = 3
      ∧ (st up).dev.therm.state ≠ 3 ∧ (st up).dev.ev.deviceFault = 0 ∧ (st up).dev.tow.standing = false
      ∧ (st up).dev.loop.state ≠ .stopping
      ∧ (st { up with loop := { state := .stopping } }).dev.loop.state = .stopping := by decide

theorem wit_claim :
    (st up).dev.boot.phase ≠ .held ∧ (st up).dev.tow.window = 0 ∧ State.reset.dev.boot.phase = .held
      ∧ (st { up with tow := { claim := 0xE000, window := 1 } }).dev.tow.window = 1
      ∧ (st { up with tow := { claim := 0xE000, window := 1 } }).dev.lineUsable false = true
      ∧ (st { up with tow := { claim := 0xE000, window := 1 } }).dev.lineUsable true = true
      ∧ judgeLine (0xE000 : BitVec 16).toNat (0xE000 : BitVec 16).toNat ≠ .faulty
      ∧ judgeLine (0xE000 : BitVec 16).toNat (0xF000 : BitVec 16).toNat ≠ .faulty
      ∧ (st { up with tow := { latched := some false }, arr := { outputState := .driving } }).dev.tow.latched = some false
      ∧ (st { up with arr := { outputState := .driving } }).dev.arr.outputState = .driving
      ∧ (st up).dev.tow.latched ≠ some false := by decide

/-- A conversion of column 3 under way. -/
def conv : Conversion := ⟨3, false, 3, 3, 0, 0, 0, 0, 0, 4, 0, false, false, 256, 16384, 0⟩

theorem wit_conversion :
    takeConversion (3 : Fin 256) false (st { up with rd := { conversions := [conv] } }).dev.rd.conversions = (some conv, [])
      ∧ (st { up with rd := { conversions := [conv] } }).dev.rd.injects = [] ∧ conv.invalid = false
      ∧ tfind (st { up with rd := { conversions := [conv] } }).dev.rd.fill conv.site = none := by decide

theorem wit_cycle :
    (st { up with cyc := { next := some {} } }).dev.cyc.next ≠ none ∧ (st up).dev.cyc.next = none
      ∧ (2 : BitVec 8) ≠ 1 ∧ (st up).dev.cfg.cyc.staged.good = true
      ∧ (st { up with cfg := { cyc := { staged := ⟨3000, 96, 0, 0⟩ } } }).dev.cfg.cyc.staged.good = false
      ∧ (∀ r ∈ (st up).dev.mapRows, r < (st up).dev.cfg.cyc.staged.rows)
      ∧ (st { up with cyc := { changed := true } }).dev.cyc.changed = true
      ∧ (st { up with cyc := { changed := true } }).dev.cyc.slot = 0
      ∧ (st up).dev.cyc.changed = false ∧ (st up).dev.time.nextTick < timeWrap := by decide

/-- A commit that waits, over a RAW map. -/
def pendingCom : Dev := { mapped with circ := { pending := some com }, time := { nextTick := 4000 } }

theorem wit_commit_course :
    com.tick = 4000 ∧ (st pendingCom).dev.circ.pending = some com ∧ com.tick ≤ (st pendingCom).dev.time.nextTick
      ∧ (st pendingCom).dev.missCause com = 0 ∧ (st pendingCom).dev.missCause { com with expectGen := 5 } ≠ 0
      ∧ (st { up with circ := { committing := [(0, ⟨com, [], [], false, false, 0, 0, 0⟩)] }, cyc := { ticks := 3 } }).dev.circ.committing = [(0, ⟨com, [], [], false, false, 0, 0, 0⟩)]
      ∧ (st { up with circ := { ffDue := [(0, ⟨0, 4000⟩, [])] } }).dev.circ.ffDue = [(0, ⟨0, 4000⟩, [])]
      ∧ (st { up with circ := { written := some [] } }).dev.circ.written = some [] := by decide

theorem wit_array :
    (2 : BitVec 8) ≠ 1 ∧ (st { up with arr := { outputState := .driving } }).dev.arr.outputState = .driving
      ∧ (st up).dev.arr.outputState ≠ .driving ∧ (st up).dev.mateClaims = false ∧ (st up).dev.boot.phase ≠ .held
      ∧ State.reset.dev.boot.phase = .held
      ∧ (st { up with tow := { accepted := 0x2000 } }).dev.mateClaims = true
      ∧ (st { up with arr := { wiredOn := true }, time := { up := 1000000000 } }).dev.arr.wiredOn = true
      ∧ (0 : Nat) + 1000000000 ≤ (st { up with time := { up := 1000000000 } }).dev.time.up
      ∧ (st { up with arr := { wiredOn := false } }).dev.arr.wiredOn = false
      ∧ (runCount (st up).dev.ev.counts .mateMissing).1 < (st up).dev.cfg.ev.suppressLimit
      ∧ (st { up with rd := { auxPos := 30 } }).dev.rd.auxPos = 30 := by decide

theorem wit_inject :
    siteRow (0x0000 : BitVec 16).toNat < (st up).dev.cyc.conf.rows
      ∧ (st { up with cfg := { arr := { mcolEnable := 1 } } }).dev.monitorOn (siteCol (0x0000 : BitVec 16).toNat) = true
      ∧ (1 : BitVec 8) ≠ 0 ∧ (16 : BitVec 8).toNat ≤ 16 ∧ 16 < (17 : BitVec 8).toNat
      ∧ (1 : BitVec 64) ≠ 0 ∧ (1 : BitVec 64).toNat ≤ (st { up with time := { lastTick := 4000 } }).dev.cycleNo
      ∧ (st up).dev.cycleNo < (1 : BitVec 64).toNat ∧ (st up).dev.rd.injects.length < 16
      ∧ 16 ≤ (List.replicate 16 (⟨0, 1, 0, 0, 0, 0, 0⟩ : InjectEntry)).length
      ∧ 16383 < (0x4000 : BitVec 16).toNat ∧ (0x3FFF : BitVec 16).toNat ≤ 16383 := by decide

theorem wit_group :
    (st up).dev.groupState (3 : Fin 8) = .running ∧ (st up).dev.groupCarries (3 : Fin 8) = false
      ∧ (st { up with drv := { groupState := [(3, .stopping)], groupTicks := [(3, 1)] } }).dev.groupState (3 : Fin 8) = .stopping
      ∧ (st up).dev.cyc.slot = 0 ∧ 1 ≤ tget 0 (st { up with drv := { groupTicks := [(3, 1)] } }).dev.drv.groupTicks (3 : Fin 8)
      ∧ (∀ e ∈ (st up).dev.groupElems (3 : Fin 8), (st up).dev.lastCode (entryDrive ((st up).dev.entry e)) = 0)
      ∧ (st { up with drv := { groupState := [(3, .restartPending)] } }).dev.groupState (3 : Fin 8) = .restartPending := by decide

theorem wit_loop_service :
    tfind (st { up with loop := { reverse := [(5, 100, true)] } }).dev.loop.reverse (5 : BitVec 15).toNat = some (100, true)
      ∧ (tfind (st { up with loop := { reverse := [(5, 100, true)] } }).dev.loop.reverse (5 : BitVec 15).toNat).isSome = true
      ∧ tfind (st up).dev.loop.reverse (5 : BitVec 15).toNat = none
      ∧ 15 < (16 : BitVec 8).toNat ∧ (15 : BitVec 8).toNat ≤ 15
      ∧ (st up).dev.loop.fenced.getLsbD (15 : BitVec 8).toNat = false
      ∧ (st { up with loop := { fenced := 0x8000 } }).dev.loop.fenced.getLsbD (15 : BitVec 8).toNat = true
      ∧ (15 : BitVec 8).toNat ∉ (st { up with loop := { fenced := 0x8000 } }).dev.loop.selftests
      ∧ (15 : BitVec 8).toNat ∈ (st { up with loop := { fenced := 0x8000, selftests := [15] } }).dev.loop.selftests
      ∧ ((15 : Fin 16) : Nat) ∈ (st { up with loop := { selftests := [15] } }).dev.loop.selftests
      ∧ ((15 : Fin 16) : Nat) ∉ (st up).dev.loop.selftests := by decide

/-- A device whose element 3 is an ATTEN element: its fields may be written. -/
def kind2 : Dev := up.putRec 3 { (up.record 3) with kind := 2 }

/-- A device whose element 3 is swept. -/
def swept3 : Dev := { up with cal := { sweeps := [{ elem := 3, start := 0 }] } }

theorem wit_record_writes :
    32767 < (0x8000 : BitVec 16).toNat ∧ (3 : BitVec 16).toNat ≤ 32767 ∧ 2 < (3 : BitVec 8).toNat ∧ (2 : BitVec 8).toNat ≤ 2
      ∧ (st swept3).dev.swept (3 : BitVec 16).toNat = true ∧ (st up).dev.swept (3 : BitVec 16).toNat = false
      ∧ (st up).dev.fieldOk (3 : BitVec 16).toNat .feTimer 0 = false := by decide

theorem wit_record_write_ok :
    (st kind2).dev.fieldOk (3 : BitVec 16).toNat .tone 15 = true
      ∧ (st kind2).dev.stagingFull = false
      ∧ (st kind2).dev.fieldOk (3 : BitVec 16).toNat .mode (2 : BitVec 8).toNat = true
      ∧ (st kind2).dev.stagingFull = false
      ∧ (st kind2).dev.fieldOk (3 : BitVec 16).toNat .spTarget (524287 : BitVec 32).toNat = true
      ∧ (st kind2).dev.stagingFull = false
      ∧ ¬((st kind2).dev.record 3).mode = 4
      ∧ (st { kind2 with loop := { staged := List.replicate 1024 ⟨4, .tone, 1, 1⟩ } }).dev.stagingFull = true := by
  decide +kernel

theorem wit_trace :
    (st { up with trace := { state := .armed } }).dev.trace.state = .armed ∧ (st up).dev.trace.state ≠ .armed
      ∧ (st up).dev.trace.state ≠ .triggered
      ∧ elementList 256 (st { up with cfg := { trace := { elements := [0, 7, 255, 255] } } }).dev.cfg.trace.elements = [7]
      ∧ [7].Nodup ∧ (∀ e ∈ [7], e ≤ 32767) ∧ (1 : BitVec 64) ≠ 0 ∧ 0 < traceDepth 1 (entrySize 1)
      ∧ elementList 256 (st { up with cfg := { trace := { elements := [255, 255] } } }).dev.cfg.trace.elements = [] := by decide

theorem wit_cal :
    (3 : BitVec 16).toNat ≤ 32767 ∧ (List.replicate 80 (0 : Byte)).length = 80
      ∧ (st up).dev.circuits false = [] ∧ (st up).dev.cal.darkDue = false ∧ (st up).dev.cal.darkRun = none
      ∧ (st { up with cal := { darkRun := some 4 }, cyc := { ticks := 260 } }).dev.cal.darkRun = some 4
      ∧ (∀ x ∈ (st up).dev.rd.conversions, 4 + 256 ≤ x.tick) ∧ (st up).dev.sram.merge = [] ∧ 0 < (st up).dev.cyc.conf.rows
      ∧ (st { up with cfg := { arr := { mcolEnable := 1 } } }).dev.monitorOn 0 = true
      ∧ 128 ≤ (tget (0, 0) (st { up with cal := { darkSums := [(0, (1000, 200))] } }).dev.cal.darkSums (256 * 0 + 0)).2 := by decide +kernel

theorem wit_cal_set :
    (st up).dev.pointSetOk 3 (List.replicate 72 0 ++ List.replicate 8 127) = true
      ∧ (st up).dev.pointSetOk 3 (List.replicate 72 0 ++ List.replicate 8 128) = false := by decide +kernel

/-- What a step in range measures. -/
def inRange : StepMeasure where
  converged := true
  low := 6717
  high := 64061
  n := 256
  zeroA := (16384, 16384, 16384)
  fullA := (3162112, 3162112, 3162112)
  zeroB := (16384, 16384, 16384)
  fullB := (3162112, 3162112, 3162112)
  skewA := 0
  skewB := 0

/-- A rotation that measures column 3, and one that waits for column 3. -/
def stepping : Dev := { up with cal := { rotState := .running, rotStep := [(0, ⟨256, some 3⟩)] } }
def waiting : Dev :=
  { up with cal := { rotState := .running, rotWait := [(0, ⟨3, 0, [9]⟩)] }, cyc := { ticks := 4096 } }

theorem gain_in_range : (st stepping).dev.gainTrimOf 3 inRange = 0 := by decide +kernel

theorem wit_trims : (st stepping).dev.stepDriverOk 3 inRange = true := by
  have h1 : tget 0 (st stepping).dev.cfg.drv.gainTrim 3 = 0 := by decide +kernel
  have h2 : tget 0 (st stepping).dev.cfg.drv.offsetTrim 3 = 0 := by decide +kernel
  have h3 : (2 * (4198400 - 625 * (inRange.low.toNat : Int)) : Int) = 550 := by decide +kernel
  have h4 : inRange.converged = true ∧ inRange.low.toNat < inRange.high.toNat := by decide +kernel
  have h : (st stepping).dev.offsetTrimOf 3 inRange = openQuot 550 2048 := by
    unfold Dev.offsetTrimOf
    rw [gain_in_range, h1, h2, h3]
    simp
  have h5 : openQuot 550 2048 = 0 ∨ openQuot 550 2048 = 1 := by
    unfold openQuot
    rw [if_neg (by decide)]
    split
    · exact Or.inr rfl
    · exact Or.inl rfl
  unfold Dev.stepDriverOk
  rw [gain_in_range, h]
  rcases h5 with h5 | h5 <;> simp [h5, h4.1, h4.2]

theorem wit_rotation :
    255 < (256 : BitVec 16).toNat ∧ (255 : BitVec 16).toNat ≤ 255 ∧ (st { up with cfg := { arr := { mcolEnable := 0 } } }).dev.columnFit (3 : BitVec 16).toNat = false
      ∧ (st up).dev.columnFit (3 : BitVec 16).toNat = true
      ∧ (st up).dev.inRotation ((3 : BitVec 16).toNat / 32) = true
      ∧ (st stepping).dev.stepOf (0 : Fin 8) = some ⟨256, some 3⟩ ∧ (st stepping).dev.cyc.slot = 0
      ∧ (st stepping).dev.rd.state = .run ∧ (st stepping).dev.commitDefers = false ∧ stepChainOk inRange = true
      ∧ (st up).dev.stepOf (0 : Fin 8) = none ∧ (st up).dev.waitOf (0 : Fin 8) = none
      ∧ (st waiting).dev.waitOf (0 : Fin 8) = some ⟨3, 0, [9]⟩ ∧ (st waiting).dev.cal.rotState = .running
      ∧ (st waiting).dev.stillPending ⟨3, 0, [9]⟩ = false ∧ (st waiting).dev.columnFit 3 = true
      ∧ (st { waiting with rd := { injects := [⟨3, 1, 0, 0, 0, 0, 9⟩] } }).dev.stillPending ⟨3, 0, [9]⟩ = true := by
  decide +kernel

theorem wit_sweep_request :
    (st up).dev.inUse (0 : BitVec 16).toNat = false ∧ (st mapped).dev.inUse (0 : BitVec 16).toNat = true
      ∧ entryKind ((st mapped).dev.entry (0 : BitVec 16).toNat) ≠ 3
      ∧ (st { mapped with cal := { sweepQueue := [(0, false)] } }).dev.isQueued (0 : BitVec 16).toNat = true
      ∧ (st { mapped with cal := { sweeps := [{ elem := 0, start := 0 }] } }).dev.isSwept (0 : BitVec 16).toNat = true
      ∧ (st mapped).dev.anyLineCause ((st mapped).dev.record (0 : BitVec 16).toNat) = false
      ∧ (st mapped).dev.isQueued (0 : BitVec 16).toNat = false ∧ (st mapped).dev.isSwept (0 : BitVec 16).toNat = false
      ∧ (st mapped).dev.carries false (0 : BitVec 16).toNat = false ∧ (st mapped).dev.carries true (0 : BitVec 16).toNat = false
      ∧ (st mapped).dev.cal.sweepQueue.length < 256 ∧ 256 ≤ (List.replicate 256 (1, false)).length := by
  decide +kernel

theorem wit_sweeps :
    (st { up with cal := { sweepQueue := [(0, false)] } }).dev.cal.sweepQueue = (0, false) :: []
      ∧ (st { up with cal := { sweepQueue := [(0, false)] } }).dev.cal.sweeps.length < 64
      ∧ (st { up with cal := { sweeps := [{ elem := 5, start := 0, phase := .returning }] } }).dev.cal.sweeps.find?
          (fun x => x.elem = (5 : BitVec 15).toNat) = some { elem := 5, start := 0, phase := .returning }
      ∧ 0 + 64 ≤ (st { up with cyc := { ticks := 64 } }).dev.cyc.ticks
      ∧ (st { up with cal := { refits := [{ elem := 5, start := 0 }] } }).dev.cal.refits.find?
          (fun x => x.elem = (5 : BitVec 15).toNat) = some { elem := 5, start := 0 }
      ∧ 0 + up.cfg.cal.refitWindow ≤ (st { up with cyc := { ticks := up.cfg.cal.refitWindow } }).dev.cyc.ticks
      ∧ (5 : BitVec 15).toNat ∈ (st { up with cal := { forward := [5] } }).dev.cal.forward
      ∧ (st up).dev.net.mateAddress = 0 ∧ (st up).dev.arr.wiredOn = false := by decide

/-- A unit whose lane 2 to its mate is UP, with a point set to forward. -/
def forwarding : Dev :=
  { up with net := { mateAddress := 2, lanes := [(2, { state := .up })] }, arr := { wiredOn := true }, cal := { forward := [5] } }

theorem wit_forward :
    (5 : BitVec 15).toNat ∈ (st forwarding).dev.cal.forward ∧ (st forwarding).dev.net.mateAddress ≠ 0
      ∧ (st forwarding).dev.arr.wiredOn = true ∧ (st forwarding).dev.laneUp 2 = true ∧ ((st forwarding).dev.lane 2).unused = false
      ∧ (st forwarding).dev.pointsPoisoned (5 : BitVec 15).toNat = false
      ∧ ((st forwarding).dev.lane 2).depth 4 + ((st forwarding).dev.ownFrame 4 17 (st forwarding).dev.net.mateAddress
          (syncBytes 1 0 5 0 ((st forwarding).dev.calPoints 5))).size ≤ (st forwarding).dev.queueLimit (8 * 2 + 4) := by decide +kernel

theorem wit_fabric :
    511 < (512 : BitVec 16).toNat ∧ (511 : BitVec 16).toNat ≤ 511 ∧ (List.replicate 1024 (0 : Byte)).length = 1024
      ∧ (st { up with fab := { state := .pending } }).dev.fab.state = .pending ∧ (st up).dev.fab.state ≠ .pending
      ∧ (st up).dev.loop.state = .stopped ∧ (st up).dev.circuits false = [] ∧ (st up).dev.circuits true = []
      ∧ (st up).dev.solve.running = none ∧ (st up).dev.solve.queued = none
      ∧ (st { up with loop := { state := .running } }).dev.loop.state ≠ .stopped
      ∧ ((st up).dev.checkImage (st up).dev.stagedImage).1 ≠ 0
      ∧ (st { up with circ := { pending := some com } }).dev.circ.pending = some com := by decide +kernel

/-- A solve under way, of the next bank as it stands. -/
def running : SolveRun := { strict := true, gen := 0, status := .ok }

theorem wit_solves :
    (st { up with solve := { running := some running, queued := some true } }).dev.solve.running ≠ none
      ∧ (st { up with solve := { running := some running, queued := some true } }).dev.solve.queued ≠ none
      ∧ (st { mapped with fab := { image := [0, 0, 1, 0] ++ mapped.fab.image.drop 4 } }).dev.finishedSolve = false
      ∧ (st { mapped with fab := { image := [0, 0, 1, 0] ++ mapped.fab.image.drop 4 } }).dev.topology ≠ 0
      ∧ (st mapped).dev.solve.running = none ∧ (st mapped).dev.finishedSolve = true ∧ (st mapped).dev.topology = 0
      ∧ (st { up with solve := { running := some running } }).dev.solve.running = some running
      ∧ (3 : BitVec 16).toNat ≤ 32767 ∧ (st up).dev.inUse (3 : BitVec 16).toNat = false
      ∧ 2 * (st mapped).dev.mapCells ≤ (0 : BitVec 16).toNat ∧ (st mapped).dev.portOf (0 : BitVec 16).toNat = none
      ∧ (st mapped).dev.inUse (0 : BitVec 16).toNat = true ∧ (st mapped).dev.circ.armed = none := by decide +kernel

/-- One batch item: entry 5, not in use. -/
def item : List Byte := [0, 5] ++ List.replicate 16 0

theorem wit_circuit_writes :
    1023 < (1024 : BitVec 16).toNat ∧ (1023 : BitVec 16).toNat ≤ 1023 ∧ (List.replicate 16 (0 : Byte)).length = 16
      ∧ (circOf (List.replicate 16 0)).byLabel = false
      ∧ (st up).dev.checkEntry (5 : BitVec 16).toNat (List.replicate 16 0) ((st up).dev.circuits true) = .error .invalid
      ∧ field (1 :: item) 0 1 = 1 ∧ (1 :: item).length = 1 + 18 * field (1 :: item) 0 1
      ∧ (∀ p ∈ batchItems (field (1 :: item) 0 1) ((1 :: item).drop 1), (circOf p.2).byLabel = false)
      ∧ field ([0] : List Byte) 0 1 = 0
      ∧ (st up).dev.circ.armed = none
      ∧ (st { up with circ := { armed := some ⟨com, [], [], false, false, 0, 0, 0⟩ } }).dev.circ.armed ≠ none
      ∧ (1 ≤ field ([0, 0, 0, 0, 0, 0, 0, 0, 1] : List Byte) 6 3 % 2 ^ 20) := by decide +kernel

/-- A device whose map is a Benes network of two ports. -/
def network : Dev := { mapped with fab := { image := [0, 0, 1, 0, 0, 2] ++ mapped.fab.image.drop 6 } }

theorem wit_circuit_ok :
    (st network).dev.checkEntry (5 : BitVec 16).toNat (List.replicate 16 0) ((st network).dev.circuits true) = .ok {}
      ∧ (st network).dev.entryBytes true (5 : BitVec 16).toNat = Circ.bytes {}
      ∧ (st network).dev.checkBatch 0 (batchItems 1 item) ((st network).dev.circuits true) = .ok [(5, {})]
      ∧ (st up).dev.checkBatch 0 (batchItems 1 item) ((st up).dev.circuits true) = .error (0, .invalid) := by
  decide +kernel

/-- A commit request for 1 s and 4,000 ns. -/
def reqAt : CommitReq := ⟨1, 4000, 0xFFFFFFFF, 0⟩

theorem wit_commit_requests :
    1000000000 * reqAt.secs.toNat + reqAt.nanos.toNat = 1000004000 ∧ reqAt.nanos.toNat < 1000000000
      ∧ 1000004000 % (st locked).dev.cyc.conf.period = 0 ∧ 1000004000 ≤ 86400 * 1000000000 + (st locked).dev.now
      ∧ (st locked).dev.time.state = .locked ∧ (st up).dev.time.state ≠ .locked ∧ (st up).dev.time.state ≠ .holdover
      ∧ 1000004000 ≤ (st locked).dev.time.nextTick
      ∧ (st { locked with time := { locked.time with nextTick := 1000000000 } }).dev.time.nextTick < 1000004000
      ∧ (st locked).dev.now + (st locked).dev.cyc.conf.period ≤ 1000004000
      ∧ (st locked).dev.fab.state ≠ .pending ∧ reqAt.expectGen = 0xFFFFFFFF
      ∧ com.tick ≠ 1000004000 ∧ (st locked).dev.circ.pending = none ∧ (st locked).dev.circ.armed = none
      ∧ (st { locked with circ := { pending := some com } }).dev.circ.pending = some com
      ∧ 4001 % (st locked).dev.cyc.conf.period ≠ 0 := by decide

theorem wit_verification :
    (st { up with dec := { state := .running } }).dev.dec.state = .running
      ∧ (st { up with ver := { state := [(7, .pending)] } }).dev.verState (7 : BitVec 10).toNat = .pending
      ∧ tget 0 (st up).dev.ver.since (7 : BitVec 10).toNat + 1000000 * (st up).dev.cfg.ver.timeout
          ≤ (st { up with time := { secs := 3600 } }).dev.now
      ∧ (st up).dev.verState (7 : BitVec 10).toNat ≠ .pending ∧ (st up).dev.verState (7 : BitVec 10).toNat ≠ .verified := by decide

/-- A label on channel 1 of pair 0. -/
def heard : CurLabel := ⟨5, 0, 0, 0, none, 0⟩

theorem wit_decoder :
    (st { up with dec := { state := .restartPending } }).dev.dec.state = .restartPending
      ∧ (st { up with dec := { state := .stopping } }).dev.dec.state = .stopping ∧ (st up).dev.cyc.slot = 0
      ∧ (∀ x ∈ (st up).dev.dec.chans, x.2.decode = none)
      ∧ ((st up).dev.chan (1 : BitVec 11).toNat (0 : Fin 8)).current = none
      ∧ (3 : Nat) ∉ activePairs (st up).dev.cyc.conf.period (splice (st up).dev.pairs (3 : Fin 8) [⟨0, 0, true⟩])
      ∧ (∀ k ∈ activePairs (st up).dev.cyc.conf.period (st up).dev.pairs, k ≠ 3 →
        k ∈ activePairs (st up).dev.cyc.conf.period (splice (st up).dev.pairs (3 : Fin 8) [⟨0, 0, false⟩]))
      ∧ ((0 : BitVec 16) - (st up).dev.cfg.dec.learnRead).toNat ≤ ((st up).dev.dec.learnWrite - (st up).dev.cfg.dec.learnRead).toNat
      ∧ ((st up).dev.dec.learnWrite - (st up).dev.cfg.dec.learnRead).toNat < ((1 : BitVec 16) - (st up).dev.cfg.dec.learnRead).toNat
      ∧ (st { up with dec := { state := .running }, time := { lastTick := 500000 } }).dev.decoding = true
      ∧ (st { up with time := { lastTick := 500000 } }).dev.time.lastTick / 500000 ≠ (st up).dev.dec.quarter
      ∧ (∀ x ∈ (st up).dev.rd.conversions, 500000 * ((st up).dev.dec.quarter + 1) ≤ x.start) ∧ (st up).dev.lab.busy = false
      ∧ (st { up with lab := { busy := true } }).dev.lab.busy = true
      ∧ ((st { up with dec := { state := .running, chans := [(8, { current := some heard })] } }).dev.chan (1 : BitVec 11).toNat (0 : Fin 8)).current = some heard
      ∧ 240000000 + heard.lastEnd ≤ (st { up with time := { secs := 1 } }).dev.now := by decide +kernel

theorem wit_label_commands :
    labelCmdOk (cmd 1) [1] = true ∧ labelCmdOk (cmd 2) [2] = true ∧ labelCmdOk (cmd 3) [3] = true
      ∧ labelCmdOk (cmd 4) [4] = true ∧ labelCmdOk (cmd 9) [1] = false ∧ labelCmdOk (cmd 9) [2] = false
      ∧ labelCmdOk (cmd 9) [3] = false ∧ labelCmdOk { cmd 4 with count := 9 } [4] = false
      ∧ (st onePort).dev.lab.queue = [] ∧ (st onePort).dev.lab.flush = none ∧ (st onePort).dev.lab.busy = false
      ∧ (st onePort).dev.sightingsDue = false ∧ (st onePort).dev.commandsPending < 32
      ∧ (st onePort).dev.req.outstanding = [] ∧ (st onePort).dev.fab.image ≠ [] ∧ (st up).dev.fab.image = []
      ∧ (cmd 1).port.toNat < (st onePort).dev.mapPorts ∧ (st onePort).dev.mapPorts ≤ ({ cmd 1 with port := 1 } : LabelCmd).port.toNat
      ∧ (st { up with lab := { busy := true } }).dev.lab.busy = true
      ∧ 32 ≤ (st { up with lab := { queue := List.replicate 32 (cmd 1, .mate) } }).dev.commandsPending := by decide +kernel

theorem wit_label_lookup :
    (st onePort).dev.lookupPoison (cmd 1).key.toNat = false ∧ (st onePort).dev.findLabel (cmd 1).key.toNat = none
      ∧ (st onePort).dev.freeLabel (cmd 1).key.toNat = some 20 := by decide +kernel

/-- The same device with a word of the key's bucket poisoned. -/
def poisonedBucket : Dev := { onePort with sram := { poison := [(labelAddr 20, true)] } }

theorem wit_label_poison : (st poisonedBucket).dev.lookupPoison (cmd 1).key.toNat = true := by decide +kernel

/-- The same device with key 5 entered on port 3, marked STALE. -/
def entered : Dev := onePort.putLabel 20 { key := 5, port := 3, valid := true, stale := true }

theorem wit_label_present :
    (st entered).dev.findLabel (cmd 1).key.toNat = some 20 ∧ (st entered).dev.lookupPoison (cmd 1).key.toNat = false
      ∧ ((st entered).dev.labelEntry 20).port ≠ (cmd 1).port.toNat ∧ (cmd 1).flags.getLsbD 1 = false
      ∧ ({ cmd 1 with flags := 2 } : LabelCmd).flags.getLsbD 1 = true ∧ ({ cmd 1 with port := 3 } : LabelCmd).port.toNat = 3
      ∧ ((st entered).dev.labelEntry 20).stale = true := by decide +kernel

theorem wit_label_next :
    (((st entered).dev.labelsRising.filter (fun p => (cmd 4).cursor.toNat ≤ p)).take (cmd 4).count.toNat).getLast? = some 20
      ∧ ((st onePort).dev.labelsRising.filter (fun p => (cmd 4).cursor.toNat ≤ p)).take (cmd 4).count.toNat = [] := by decide +kernel

/-- A unit whose lane 2 to its mate is UP, with a table command to forward. -/
def labelling : Dev :=
  { up with net := { mateAddress := 2, lanes := [(2, { state := .up })] }, arr := { wiredOn := true }, lab := { forward := [cmd 1] } }

theorem wit_label_upkeep :
    labelCmdOk (cmd 5) [5] = true ∧ labelCmdOk (cmd 9) [5] = false
      ∧ (cmd 5).port.toNat < (st onePort).dev.mapPorts
      ∧ (st onePort).dev.mapPorts ≤ ({ cmd 5 with port := 1 } : LabelCmd).port.toNat
      ∧ (st onePort).dev.sightingsDue = false ∧ (st { onePort with lab := { busy := true } }).dev.lab.busy = true
      ∧ (st { up with lab := { flush := some (cmd 5, .host 0, 2176, 4) } }).dev.lab.flush = some (cmd 5, .host 0, 2176, 4)
      ∧ (st { up with lab := { flush := some (cmd 5, .host 0, 2175, 4) } }).dev.lab.flush = some (cmd 5, .host 0, 2175, 4)
      ∧ (cmd 5).opcode = 5 ∧ (st up).dev.req.outstanding = [] ∧ (st up).dev.lab.flush = none ∧ (st up).dev.lab.pass = none
      ∧ (st { up with dec := { state := .running } }).dev.dec.state = .running ∧ (st up).dev.cyc.slot = 0
      ∧ 500000 * (st up).dev.ageNow ≠ 0
      ∧ (st { up with time := { lastTick := 500000 * up.ageNow } }).dev.time.prevTick / (500000 * up.ageNow)
          < (st { up with time := { lastTick := 500000 * up.ageNow } }).dev.time.lastTick / (500000 * up.ageNow)
      ∧ (st { up with lab := { pass := some 3 } }).dev.lab.pass ≠ none := by decide +kernel

theorem wit_label_forward :
    (st labelling).dev.lab.forward = cmd 1 :: [] ∧ (st labelling).dev.net.mateAddress ≠ 0
      ∧ (st labelling).dev.arr.wiredOn = true ∧ (st labelling).dev.laneUp 2 = true ∧ ((st labelling).dev.lane 2).unused = false
      ∧ (st up).dev.net.mateAddress = 0
      ∧ ((st labelling).dev.lane 2).depth 4 + ((st labelling).dev.ownFrame 4 17 (st labelling).dev.net.mateAddress
          (syncBytes 2 0 0 0 (LabelCmd.bytes16 (cmd 1)))).size ≤ (st labelling).dev.queueLimit (8 * 2 + 4) := by decide +kernel

/-- A device whose lane 4 is in a state, with a frame to itself waiting in class 0. -/
def onLane (x : LaneState) : Dev :=
  { up with net := { lanes := [(4, { state := x, lock := true, queues := [(0, [⟨mkFrame 0 3 0 0 0 false false [], 0, false⟩])] })] } }

/-- The PCS's report of a clean frame. -/
def clean : RxInfo := ⟨0, ⟨0, 0⟩⟩

theorem wit_lanes :
    (st up).dev.lane (4 : Fin 96) = {} ∧ (Lane.receives {}) = false
      ∧ ((st (onLane .up)).dev.lane (4 : Fin 96)).receives = true ∧ (st (onLane .up)).dev.laneFec (4 : Fin 96) = false
      ∧ (st { onLane .up with cfg := { net := { laneFec := [(4, true)], laneRate := [(4, 1)] } } }).dev.laneFec (4 : Fin 96) = true
      ∧ (st (onLane .up)).dev.parse (4 : Fin 96) [] = .drop 4
      ∧ tget [] ((st (onLane .up)).dev.lane (4 : Fin 96)).queues 0 = ⟨mkFrame 0 3 0 0 0 false false [], 0, false⟩ :: []
      ∧ (mkFrame 0 3 0 0 0 false false []).hdr.length = 20 ∧ (mkFrame 0 3 0 0 0 false false []).typ = 3
      ∧ ((st (onLane .disabled)).dev.lane (4 : Fin 96)).state = .disabled
      ∧ ((st (onLane .stopping)).dev.lane (4 : Fin 96)).state = .stopping
      ∧ ((st (onLane .restartPending)).dev.lane (4 : Fin 96)).state = .restartPending
      ∧ ((st (onLane .down)).dev.lane (4 : Fin 96)).state = .down := by decide +kernel

/-- A class 0 frame of type 3 to this controller, and one to address 5. -/
def syncFrame : Frame := mkFrame 0 3 0 1 0 false false []
def onward : Frame := mkFrame 0 3 5 1 0 false false []

theorem wit_frame :
    (st downlink).dev.parse (4 : Fin 96) (downlink.wireBytes 4 syncFrame) = .frame syncFrame
      ∧ (st downlink).dev.mayTravel (4 : Fin 96) syncFrame = true ∧ syncFrame.cls = 0 ∧ syncFrame.dest = 0
      ∧ syncFrame.bad = false ∧ (st (onLane .up)).dev.mayTravel (4 : Fin 96) syncFrame = false := by decide +kernel

/-- The last byte of the FCS of a frame is wrong. -/
def badBytes : List Byte := (downlink.wireBytes 4 syncFrame).dropLast ++ [0]

theorem wit_bad_frame :
    (st downlink).dev.parse (4 : Fin 96) badBytes = .frame { syncFrame with bad := true }
      ∧ (downlink.countFec (4 : Fin 96) clean.fec).cutsThrough (4 : Fin 96) { syncFrame with bad := true } = false := by decide +kernel

theorem wit_onward :
    (st turret).dev.parse (4 : Fin 96) (turret.wireBytes 4 onward) = .frame onward
      ∧ (st turret).dev.way (some ((4 : Fin 96) : Nat)) onward.planeB false onward.dest = .out 0 ∧ (st turret).dev.laneUp 0 = true
      ∧ (st turret).dev.mayTravel 0 onward = true ∧ (st turret).dev.mayTravel (4 : Fin 96) onward = true
      ∧ onward.size ≤ (st turret).dev.mtu 0 ∧ onward.hops < 63 ∧ onward.cls = 0
      ∧ ((st turret).dev.lane 0).depth 0 + onward.size ≤ (st turret).dev.queueLimit (8 * 0 + 0) := by decide +kernel

theorem wit_hello :
    ((st (onLane .locked)).dev.lane (4 : Fin 96)).receives = true ∧ ((st up).dev.lane (4 : Fin 96)).receives = false
      ∧ ((st (onLane .locked)).dev.lane (4 : Fin 96)).depth 2 + ((st (onLane .locked)).dev.ownFrame 2 0 0 ((st (onLane .locked)).dev.helloPayload (4 : Fin 96))).size
          ≤ (st (onLane .locked)).dev.queueLimit (8 * (4 : Fin 96) + 2)
      ∧ ((st (onLane .locked)).dev.lane (4 : Fin 96)).state = .locked
      ∧ ((st (onLane .locked)).dev.lane (4 : Fin 96)).helloPeriod + 4
          ≤ (st { onLane .locked with time := { up := 4000000000 } }).dev.time.up / (up.cfg.net.helloPeriod * 1000)
      ∧ (st (onLane .locked)).dev.time.up / (up.cfg.net.helloPeriod * 1000)
          < ((st (onLane .locked)).dev.lane (4 : Fin 96)).helloPeriod + 4
      ∧ ((st (onLane .locked)).dev.lane (4 : Fin 96)).helloRun = 0 := by decide +kernel

/-- A lane that had HELLO in two periods in a row, 0 and 1. -/
def heardTwice : Dev := { up with net := { lanes := [(0, { state := .locked, lock := true, helloRun := 2, helloPeriod := 1 })] } }

theorem wit_hello_run :
    0 < ((st heardTwice).dev.lane (0 : Fin 96)).helloRun
      ∧ (st { heardTwice with time := { up := 2000 * up.cfg.net.helloPeriod } }).dev.time.up / (up.cfg.net.helloPeriod * 1000)
          = (heardTwice.lane (0 : Fin 96)).helloPeriod + 1
      ∧ (st { heardTwice with time := { up := 1000 * up.cfg.net.helloPeriod } }).dev.time.up / (up.cfg.net.helloPeriod * 1000)
          = (heardTwice.lane (0 : Fin 96)).helloPeriod := by decide +kernel

/-- Children that have not answered. -/
def counting : Dev := { up with net := { enumState := .counting, children := [{ lane := 4 }, { lane := 5 }] } }
def assigning : Dev := { up with net := { enumState := .assigning, enumParent := some 0 } }

/-- A Dome with a child on lane 4. -/
def parent : Dev := { dome with net := { lanes := [(4, { state := .locked, heard := true })] } }

theorem wit_enum :
    (2 : BitVec 8) ≠ 1 ∧ (st up).dev.domeEn = false ∧ (st dome).dev.domeEn = true
      ∧ (st { dome with net := { enumState := .counting } }).dev.net.enumState = .counting
      ∧ (st dome).dev.net.enumState ≠ .counting ∧ (st dome).dev.net.enumState ≠ .assigning
      ∧ (8 : BitVec 8).toNat ≤ 8 ∧ 8 < (9 : BitVec 8).toNat ∧ 2 ≤ ((4 : Fin 96) : Nat)
      ∧ (∃ c ∈ (st counting).dev.net.children, c.lane = ((4 : Fin 96) : Nat) ∧ c.count = none ∧ c.excluded = false)
      ∧ (∃ c ∈ (st counting).dev.net.children, c.lane ≠ ((4 : Fin 96) : Nat) ∧ c.count = none ∧ c.excluded = false)
      ∧ (st counting).dev.net.chain = false
      ∧ (st counting).dev.net.children.find? (fun c => c.lane = ((4 : Fin 96) : Nat) && !c.assigned && !c.excluded) = some { lane := 4 }
      ∧ (∃ x ∈ (st counting).dev.net.children, x.lane ≠ ((4 : Fin 96) : Nat) ∧ x.assigned = false ∧ x.excluded = false)
      ∧ (st assigning).dev.net.enumState = .assigning ∧ (st assigning).dev.net.enumParent = some 0
      ∧ (st assigning).dev.net.late = false := by decide +kernel

/-- A message of a COUNT or an ASSIGN to a controller at depth 2. -/
def enumMsg : EnumMsg := { op := 0, depth := 2, status := 0, chain := false, gen := 1, value := 7, blockHigh := 9, dome := 1 }

theorem wit_enum_pass :
    (st parent).dev.chainEn = false ∧ (st parent).dev.childLanes = [4]
      ∧ ((st parent).dev.lane 4).depth 2 + 64 ≤ (st parent).dev.queueLimit (8 * 4 + 2)
      ∧ ((st parent).dev.lane 4).receives = true ∧ ((st turret).dev.lane 0).receives = true
      ∧ (st downlink).dev.mayTravel (4 : Fin 96)
          ((st downlink).dev.ownFrame 2 1 0 (enumPayload 1 1 3 false 1 0 0 1)) = true
      ∧ (st up).dev.childLanes = [] ∧ (st counting).dev.unserved enumMsg = false
      ∧ (st up).dev.net.enumAt + (8 - (st up).dev.net.depth) * 25000000 ≤ (st { up with time := { up := 200000000 } }).dev.time.up
      ∧ ((st up).dev.lane 0).depth 2 + ((st up).dev.ownFrame 2 1 0 (enumPayload 1 1 3 false 1 0 0 1)).size
          ≤ (st up).dev.queueLimit (8 * 0 + 2) ∧ 64 ≤ (st up).dev.queueLimit (8 * 1 + 2) := by decide +kernel

theorem wit_bspi :
    State.reset.dev.boot.phase = .held ∧ (st up).dev.boot.phase ≠ .held ∧ (st up).dev.boot.phase ≠ .rom
      ∧ (st { up with net := { bspi := { request := some [] } } }).dev.net.bspi.request ≠ none
      ∧ (st up).dev.net.bspi.request = none ∧ (st up).dev.net.bspi.response = none ∧ 2010 < (2011 : BitVec 16).toNat
      ∧ (2010 : BitVec 16).toNat ≤ 2010 ∧ (2010 : BitVec 16).toNat ≤ (List.replicate 2010 (0 : Byte)).length
      ∧ (st { up with net := { bspi := { response := some [1] } } }).dev.net.bspi.response = some [1] := by decide +kernel

/-- An instance of source 7, class 3, with empty buckets. -/
def spent : Meter := { src := 7, cls := 3, c := 0, p := 0, at_ := 0 }

theorem wit_shapers :
    767 < (768 : BitVec 16).toNat ∧ (767 : BitVec 16).toNat ≤ 767 ∧ (767 : BitVec 16).toNat % 8 ≠ 0
      ∧ (760 : BitVec 16).toNat % 8 = 0 ∧ (999 : BitVec 32).toNat < 1000 ∧ 1000 ≤ (25000000 : BitVec 32).toNat
      ∧ (25000000 : BitVec 32).toNat ≤ 25000000 ∧ 2068 ≤ (1048576 : BitVec 32).toNat ∧ (1048576 : BitVec 32).toNat ≤ 1048576
      ∧ (st { up with traf := { meters := [spent] } }).dev.traf.meters.find? (meterIs (7 : BitVec 16).toNat (3 : Fin 8)) = some spent
      ∧ 1000000000 + (0 + max (fillTime (((st up).dev.profile (3 : Fin 8)).cbs * meterUnit - 0) ((st up).dev.profile (3 : Fin 8)).cir)
          (fillTime (((st up).dev.profile (3 : Fin 8)).pbs * meterUnit - 0) ((st up).dev.profile (3 : Fin 8)).pir))
          ≤ (st { up with time := { up := 2000000000 } }).dev.time.up
      ∧ (st up).dev.traf.meters.find? (meterIs (7 : BitVec 16).toNat (3 : Fin 8)) = none ∧ (2 : BitVec 8) ≠ 1 := by decide +kernel

/-- A class 3 REQUEST from source 7 to the controller of address 1, and that controller with its meter of class 3 on. -/
def metered : Frame := mkFrame 3 12 1 7 0 false false []
def meterOf (b : Bool) : Dev :=
  { turret with traf := { meters := [spent] }, cfg := { traf := { meterOn := [(3, b)] } } }

theorem wit_metered :
    ((st (meterOf true)).dev.lane (4 : Fin 96)).receives = true
      ∧ (st (meterOf true)).dev.parse (4 : Fin 96) (turret.wireBytes 4 metered) = .frame metered ∧ metered.bad = false
      ∧ (st (meterOf true)).dev.mayTravel (4 : Fin 96) metered = true ∧ metered.cls ≠ 0 ∧ metered.dest = (st (meterOf true)).dev.net.address
      ∧ tget false (st (meterOf true)).dev.cfg.traf.meterOn metered.cls = true
      ∧ tget false (st (meterOf false)).dev.cfg.traf.meterOn metered.cls = false
      ∧ (st (meterOf true)).dev.traf.meters.find? (meterIs metered.src metered.cls) = some spent
      ∧ (spent.upTo ((st (meterOf true)).dev.profile metered.cls) 0).p < max 64 (38 + metered.length) * meterUnit := by decide +kernel

theorem wit_meter_profile :
    1 ≤ (7 : BitVec 16).toNat ∧ (7 : BitVec 16).toNat ≤ 7 ∧ (999 : BitVec 32).toNat < 1000
      ∧ (1000 : BitVec 32).toNat ≤ (25000000 : BitVec 32).toNat ∧ 1000 ≤ (1000 : BitVec 32).toNat
      ∧ (25000000 : BitVec 32).toNat ≤ 25000000 ∧ 64 ≤ (64 : BitVec 32).toNat ∧ (1048576 : BitVec 32).toNat ≤ 1048576 := by decide

/-- A parent in lock, as heard. -/
def heardSync : TimeSyncMsg := ⟨3, 1, 1, 0⟩

/-- A Turret whose parent on SL0 was heard, with a DELAY_REQ sent at 5. -/
def asking : Dev :=
  { turret with time := { parentLane := some 0, delayReq := some (9, 5)
                          syncA := some { state := 3, steps := 0, root := 1, syncLog2 := 0, at_ := 0, goodAt := some 0, stamped := true
                                          t1 := 1, t2 := 2 } } }

theorem wit_time_exchange :
    (st up).dev.follows = true ∧ (st { dome with cfg := { time := { source := 2 } } }).dev.follows = false
      ∧ heardSync.state = 3 ∧ -7 ≤ heardSync.syncLog2 ∧ (st up).dev.time.state = .free ∧ (st up).dev.time.parentLane = none
      ∧ (st asking).dev.time.parentLane = some ((0 : Fin 96) : Nat) ∧ (st asking).dev.laneUp 0 = true
      ∧ (st asking).dev.time.delayReq = some ((⟨0, 0, 9⟩ : DelayRespMsg).reqSeq, 5)
      ∧ ((st asking).dev.parentSync.map (fun h => h.stamped)) = some true
      ∧ (st up).dev.net.role = .unassigned ∧ (st asking).dev.net.role ≠ .unassigned
      ∧ (st asking).dev.laneUp (4 : Fin 96) = true ∧ (st asking).dev.laneDuty (4 : Fin 96) = 3
      ∧ (st asking).dev.downlinks false = [4] ∧ (st { up with net := { chain := true } }).dev.net.chain = true
      ∧ ((st asking).dev.lane 0).depth 0 + ((st asking).dev.ownFrame 0 4 0 (List.replicate 16 0)).size
          ≤ (st asking).dev.queueLimit (8 * 0 + 0)
      ∧ ((st asking).dev.lane 4).depth 0 + ((st asking).dev.ownFrame 0 5 0 (List.replicate 16 0)).size
          ≤ (st asking).dev.queueLimit (8 * 4 + 0) := by decide +kernel

/-- A Dome by its straps, by PPS, in lock for an hour. -/
def ppsDome : Dev := { dome with time := { state := .locked, up := 3600000000000 }, cfg := { time := { source := 2 } } }

theorem wit_time_keeping :
    (st { up with time := { state := .lockPending } }).dev.time.state = .lockPending ∧ (st up).dev.time.stepped = false
      ∧ (st up).dev.loop.state = .stopped ∧ (st up).dev.now = (st up).dev.time.lastTick ∧ (st up).dev.follows = true
      ∧ (st up).dev.stepTarget < 2 ^ 48 * 1000000000
      ∧ (st up).dev.parentRecent = false ∧ (st { up with time := { state := .locked } }).dev.time.state = .locked
      ∧ (st { up with time := { state := .acquiring, stepped := true } }).dev.time.state = .acquiring
      ∧ (st { up with time := { state := .acquiring, stepped := true } }).dev.time.stepped = true
      ∧ (st { up with time := { state := .holdover } }).dev.time.state = .holdover
      ∧ (0 : Nat) + 1000000 * (st up).dev.cfg.time.holdoverLimit ≤ (st { up with time := { up := 1000000 * up.cfg.time.holdoverLimit } }).dev.time.up
      ∧ (st up).dev.time.up < 0 + 1000000 * (st up).dev.cfg.time.holdoverLimit
      ∧ 1000000000 ≤ (1000000000 : BitVec 32).toNat ∧ (999999999 : BitVec 32).toNat < 1000000000
      ∧ (st up).dev.domeEn = false ∧ (st dome).dev.domeEn = true ∧ (st dome).dev.time.state = .free
      ∧ (st dome).dev.cfg.time.source ≠ 1 ∧ (st { dome with cfg := { time := { source := 0 } } }).dev.cfg.time.source = 0
      ∧ (st ppsDome).dev.cfg.time.source ≠ 0 ∧ 2 < (3 : BitVec 8).toNat ∧ (2 : BitVec 8).toNat ≤ 2
      ∧ (st ppsDome).dev.cfg.time.source = 2 ∧ (st ppsDome).dev.time.state = .locked
      ∧ (st { ppsDome with time := { state := .acquiring, ppsSeconds := some 7 } }).dev.time.ppsSeconds = some 7
      ∧ (st { ppsDome with time := { state := .lockPending, stepBy := some 5 } }).dev.time.stepBy = some 5
      ∧ (st ppsDome).dev.time.ppsLast = none ∧ 3000000000 ≤ (st ppsDome).dev.time.up := by decide +kernel

theorem wit_parent_recent : (st asking).dev.parentRecent = true := by decide +kernel

/-- A trigger for 1 s and 4,000 ns. -/
def trig : TriggerReq := ⟨1, 4000, 1⟩

theorem wit_triggers :
    15 < (16 : BitVec 16).toNat ∧ (15 : BitVec 16).toNat ≤ 15 ∧ 1 ≤ trig.action.toNat ∧ trig.action.toNat ≤ 4
      ∧ trig.nanos.toNat < 1000000000 ∧ (1000000000 * trig.secs.toNat + trig.nanos.toNat) % (st locked).dev.cyc.conf.period = 0
      ∧ 1000004000 ≤ 86400 * 1000000000 + (st locked).dev.now ∧ (st up).dev.locked = false ∧ (st locked).dev.locked = true
      ∧ (st locked).dev.now < 1000004000 ∧ (st locked).dev.triggersPending < 16
      ∧ 16 ≤ (st { up with time := { triggers := (List.range 16).map (fun i => (i, { state := .pending })) } }).dev.triggersPending
      ∧ ((st { up with time := { triggers := [(3, { state := .pending })] } }).dev.trigger (3 : BitVec 16).toNat).state ≠ .empty
      ∧ ((st up).dev.trigger (15 : BitVec 16).toNat).state = .empty
      ∧ (st { up with cfg := { time := { snapInEnable := true } } }).dev.cfg.time.snapInEnable = true
      ∧ (st up).dev.time.snapIn = none ∧ (st { up with time := { snapIn := some 5 } }).dev.time.snapIn ≠ none ∧ (⟨1, 4000, 0⟩ : TriggerReq).action = 0 ∧ (st { up with cfg := { time := { snapInEnable := false } } }).dev.cfg.time.snapInEnable = false := by
  decide +kernel

/-- The body of an unsigned request that reads one object, the model's name. -/
def readBody : List Byte := [1, 0, 1, 0, 1, 0, 0x10, 0x00, 1, 0, 0, 0, 0, 0, 0, 0]

/-- A device whose board SPI port is enabled by its strap, with a request held. -/
def ported (b : List Byte) : Dev :=
  { up with boot := { up.boot with straps := 2 }, net := { bspi := { request := some b } } }

/-- A request. -/
def reqOf (spi poison : Bool) (b : List Byte) : ReqFrame :=
  { src := 3, dest := 0, seq := 1, cls := 4, planeB := false, poison := poison, spi := spi, body := b }

theorem wit_request :
    (reqOf true false []).spi = true ∧ (st (ported [])).dev.bspiOn = true ∧ (st (ported [])).dev.net.bspi.request = some []
      ∧ (st (ported [])).dev.net.bspi.response = none ∧ (st up).dev.net.bspi.request = none
      ∧ (st (ported [])).dev.req.outstanding.any (fun o => o.spi) = false ∧ parseBody [] = none
      ∧ (st (ported readBody)).dev.net.bspi.request = some readBody
      ∧ (parseBody readBody).map (fun b => (b.signed, b.quiet, b.items.map (fun i => i.op))) = some (false, false, [1])
      ∧ (parseBody ([1, 2] ++ readBody.drop 2)).map (fun b => (b.signed, b.quiet)) = some (false, true)
      ∧ (st (ported readBody)).dev.reqWindow 0 = none ∧ (st (ported readBody)).dev.req.outstanding.length < 1024
      ∧ ((st (ported readBody)).dev.req.outstanding.filter (fun o => o.src = 0)).length < 64
      ∧ (readItem 1 0x1000 1 none 0 0 (st (ported readBody)).dev).1.code = .ok
      ∧ 8 + (readItem 1 0x1000 1 none 0 0 (st (ported readBody)).dev).1.bytes.length ≤ 2010 := by decide +kernel

/-- A Dome with a window of requester 3 at a sequence number, with one entry, of sequence number 1. -/
def windowed (high : BitVec 16) (digest : List Byte) : Dev :=
  { up with
    net := { role := .dome }
    req := { windows := [{ src := 3, high := high, entries := [{ seq := 1, digest := digest, level := 1, status := .ok, codes := [.ok]
                                                                 full := some [], poison := false, stamp := 0 }] }] } }

theorem wit_request_network :
    (reqOf false true []).spi = false ∧ (st {}).dev.boot.phase ≠ .firmware ∧ (st up).dev.boot.phase = .firmware
      ∧ (reqOf false true []).poison = true ∧ (st up).dev.net.role = .unassigned
      ∧ (st (windowed 1 [])).dev.boot.phase = .firmware ∧ (st (windowed 1 [])).dev.net.role ≠ .unassigned
      ∧ (reqOf false false readBody).src ≠ 0 ∧ (parseBody (reqOf false false readBody).body).isSome = true
      ∧ ((st (windowed 65 [])).dev.reqWindow 3).map (fun w => (w.high - 1).toNat) = some 64
      ∧ ((st (windowed 1 [])).dev.reqWindow 3).map (fun w => (w.high - 1).toNat) = some 0
      ∧ ((st (windowed 1 [])).dev.reqWindow 3).map (fun w => (w.entries.find? (fun e => e.seq = 1)).map (fun e => e.full)) = some (some (some []))
      ∧ ([] : List Byte) ≠ (sha384 readBody).take 8 := by decide +kernel

/-- A device with the first half of ADDR_RULE 0 held for requester 3. -/
def halfRule : Dev := { up with req := { assembly := [⟨3, ⟨0xC100, 2, some 0⟩, [0, 1, 0], 0⟩] } }

/-- A Scrubber at work, and a part of SCRUB_RANGE held for requester 3. -/
def halfScrub : Dev := { up with
  memory := { up.memory with scrubState := .running }, req := { assembly := [⟨3, ⟨0x8000, 0x10, none⟩, [0, 0, 0, 0], 0⟩] } }

theorem wit_parts_busy :
    ((st halfScrub).dev.writeTarget 0 true 0x8000 0x10 none).toOption.map (fun r => (r.1.ty.code, r.1.isIdle (st halfScrub).dev r.2)) = some (13, false)
      ∧ (st halfScrub).dev.heldParts 3 = some ⟨3, ⟨0x8000, 0x10, none⟩, [0, 0, 0, 0], 0⟩
      ∧ (st halfScrub).dev.heldParts 4 = none := by decide +kernel

theorem wit_parts :
    ((st up).dev.writeTarget 0 true 0xC100 2 (some 0)).toOption.map (fun r => (r.1.ty.code, r.1.isIdle (st up).dev r.2)) = some (13, true)
      ∧ (st up).dev.heldParts 3 = none
      ∧ (st halfRule).dev.heldParts 3 = some ⟨3, ⟨0xC100, 2, some 0⟩, [0, 1, 0], 0⟩
      ∧ ((st up).dev.writeTarget 0 true 0xFFFF 0 none).toOption.isNone = true
      ∧ ((st up).dev.writeTarget 0 true 0x3000 0x0A none).toOption.map (fun r => decide (r.1.ty.code ≠ 13)) = some true := by decide +kernel

theorem wit_setting :
    (⟨0x3000, 0x0A, 100, 10000, fun _ v c => { c with net := { c.net with helloPeriod := v.toNat } }⟩ : Setting) ∈ plainSettings
      ∧ ((st up).dev.writeTarget 0 false 0x3000 0x0A none).toOption.map (fun r => (r.1.isIdle (st up).dev r.2, r.2)) = some (true, 0)
      ∧ ((st up).dev.writeTarget 0 false 0x3000 0x0A none).toOption.map (fun r => valueBytes (.num 100) r.1.ty) = some (some [0, 100])
      ∧ ((st up).dev.writeTarget 0 false 0x3000 0x0A none).toOption.map (fun r => r.1.ty.takes [0, 100]) = some true
      ∧ ((st up).dev.writeTarget 0 false 0x3000 0x0A none).toOption.map (fun r => (r.1.write 0 r.2 [0, 100] (st up).dev).1)
        = some (.now .ok) := by
  refine ⟨?_, by decide +kernel, by decide +kernel, by decide +kernel, by decide +kernel⟩
  simp only [plainSettings, List.mem_append]
  exact .inl (.inl (.inr (.tail _ (.tail _ (.head _)))))

theorem wit_later :
    ((st mapped).dev.writeTarget 0 false 0x4100 0x03 (some 0)).toOption.map (fun r => match r.1.write 0 r.2 [0, 100] (st mapped).dev with
      | (.later y, e) => e.awaits y
      | (.now _, _) => false) = some true := by decide +kernel

theorem wit_object :
    ((st up).dev.writeTarget 0 false 0xFFFF 0 none).toOption.isNone = true
      ∧ ((st up).dev.writeTarget 0 false 0x3000 0x0A none).toOption.map (fun r => (r.1.name, valueBytes (.num (-1)) r.1.ty)) = some ("HELLO_PERIOD", none)
      ∧ 0 ≤ min 1 ((st up).dev.req.rights.range (rangeOf 0x3000)).2 ∧ (st up).dev.boot.phase ≠ .recovery
      ∧ ((st up).dev.named 0x3000 0x0A none).toOption.map (fun r => r.1.name) = some "HELLO_PERIOD" := by decide +kernel

/-- A device that holds a part and an idle window of requester 3. -/
def held : Dev :=
  { up with req := { up.req with assembly := [⟨3, ⟨0x5000, 1, none⟩, [], 0⟩], windows := [{ src := 3, high := 1 }] } }

theorem wit_no_window : (st up).dev.reqWindow (3 : BitVec 16).toNat = none ∧ (st { held with req := { held.req with outstanding :=
    [{ src := 3, seq := 0, cls := 3, planeB := false, spi := false, quiet := false, level := 1, digest := [], answers := [], waits := [] }] } }).dev.req.outstanding.any (fun o => !o.spi && o.src.toNat = 3) = true := by decide +kernel

theorem wit_upkeep :
    (st up).dev.heldParts (3 : BitVec 16).toNat = none ∧ (st held).dev.heldParts (3 : BitVec 16).toNat ≠ none
      ∧ (st held).dev.reqWindow (3 : BitVec 16).toNat = some { src := 3, high := 1 }
      ∧ (st held).dev.mono < 10000000000 + (0 : Nat)
      ∧ 10000000000 + (0 : Nat) ≤ (st { held with time := { up := 10000000000 } }).dev.mono := by decide +kernel

/-- A unit whose outputs stand undriven. -/
def idleUnit : Dev := { up with arr := { up.arr with outputState := .highZ } }

theorem wit_checkpoint_send :
    (st (mated 0 false)).dev.tow.stream = some ⟨⟨0, 0, 1, 0, [], []⟩, 0⟩ ∧ (st (mated 0 false)).dev.mateUp = true
      ∧ (st (mated 0 false)).dev.arr.wiredOn = true ∧ ((st (mated 0 false)).dev.lane 2).unused = false
      ∧ (st (mated 0 false)).dev.laneUp 2 = true
      ∧ (0 : Nat) < 1 ∧ (List.range 120).any (fun w => (st (mated 0 false)).dev.sram.poisoned (0x6C0000 + 8 * w)) = false
      ∧ (st (mated 0 false)).dev.chunkLane 0 = 2
      ∧ (st (mated 1 false)).dev.tow.stream = some ⟨⟨0, 0, 1, 0, [], []⟩, 1⟩ ∧ (st up).dev.mateUp = false := by decide +kernel

theorem wit_checkpoint_room :
    ((st (mated 0 false)).dev.lane 2).depth 4 + ((st (mated 0 false)).dev.ownFrame 4 16 0
      (checkHead 0 1 0 120 0 0 ++ (st (mated 0 false)).dev.sram.bytes 0x6C0000 960)).size
      ≤ (st (mated 0 false)).dev.queueLimit 20
    ∧ ((st (mated 0 false)).dev.ownFrame 4 16 0 (checkHead 0 1 0 120 0 0 ++ (st (mated 0 false)).dev.sram.bytes 0x6C0000 960)).size
      ≤ (st (mated 0 false)).dev.mtu 2 := by decide +kernel

theorem wit_seal_room (b : List Byte) (h : b.length = 48) :
    ((st (mated 1 false)).dev.ownFrame 4 16 0 (checkHead 0xFFFF 1 0 0 0 0 ++ [] ++ b ++ [])).size ≤ (st (mated 1 false)).dev.mtu 2
      ∧ (st (mated 1 false)).dev.hasRoom 2 4 ((st (mated 1 false)).dev.ownFrame 4 16 0 (checkHead 0xFFFF 1 0 0 0 0 ++ [] ++ b ++ [])) := by
  have h1 : (checkHead 0xFFFF 1 0 0 0 0).length = 24 := by decide +kernel
  have h2 : (st (mated 1 false)).dev.mtu 2 = 1024 := by decide +kernel
  have h3 : ((st (mated 1 false)).dev.lane 2).depth 4 = 0 := by decide +kernel
  have h4 : (st (mated 1 false)).dev.queueLimit (8 * 2 + 4) = 4096 := by decide +kernel
  simp [Dev.hasRoom, Dev.ownFrame, mkFrame, Frame.size, h, h1, h2, h3, h4]

theorem wit_checkpoint_receive :
    (st (mated 0 true)).dev.driving = true ∧ (st (mated 0 false)).dev.driving = false ∧ (st (mated 0 false)).dev.tow.won = false
      ∧ (st (mated 0 false)).dev.tow.reception = some ⟨0, 0, 0, 0, [], false⟩ ∧ (0 : Nat) = (0 : BitVec 64).toNat
      ∧ (0 : Nat) ≠ (1 : BitVec 64).toNat ∧ (st up).dev.tow.reception = none
      ∧ (32767 : BitVec 16).toNat + [(5 : BitVec 64)].length ≤ 32768 ∧ 32768 < (32768 : BitVec 16).toNat + [(5 : BitVec 64)].length
      ∧ (st (mated 0 false)).dev.tow.verified = some ⟨0, 0, 1, 0, [], []⟩ ∧ (st (mated 0 false)).dev.cyc.slot = 0
      ∧ (st (mated 0 false)).dev.tow.verifiedAt < (st (mated 0 false)).dev.cyc.ticks
      ∧ ((1 : BitVec 32) ≠ (st (mated 0 false)).dev.circ.committedGen)
      ∧ (st up).dev.cyc.ticks ≤ (st up).dev.tow.verifiedAt ∧ (st up).dev.tow.verified = none := by decide

theorem wit_resident_records :
    ((0 : BitVec 32) = (st (mated 0 false)).dev.circ.committedGen)
      ∧ ((st (mated 0 false)).dev.sram.merge.map (fun x => x.word)).Nodup
      ∧ (∀ x ∈ (st (mated 0 false)).dev.sram.merge, ∀ c ∈ x.bytes, wordOf c.1 = x.word)
      ∧ 0 < ((st (mated 0 false)).dev.record 32767).codeSlew
      ∧ (st mapped).dev.used = [0] ∧ (∀ x ∈ (st mapped).dev.used, entryDrive ((st mapped).dev.entry x) = entryDrive ((st mapped).dev.entry 0) → x = 0) := by
  decide +kernel

theorem wit_resident_ack :
    (st (mated 0 false)).dev.mateLane = 2
      ∧ ((st (mated 0 false)).dev.lane 2).depth 4 + ((st (mated 0 false)).dev.ownFrame 4 17 0 (be 1 4 ++ [0, 0, 0] ++ be 4 0 ++ be 8 0)).size
        ≤ (st (mated 0 false)).dev.queueLimit (8 * 2 + 4) := by decide +kernel

/-- A seal of an image of no chunk. -/
def zseal (bank : List Byte) : SealMsg :=
  { chunkCount := 0, imageCycle := 0, generation := 0, bankDigest := bank, imageDigest := sha384 ((mated 0 false).bufferBytes 0)
    fabricDigest := [] }

theorem wit_seal_good (bank : List Byte) : (st (mated 0 false)).dev.sealGood ⟨0, 0, 0, 0, [], false⟩ (zseal bank) = true := by
  simp [Dev.sealGood, zseal, st]

theorem wit_seal_not : (st (mated 0 false)).dev.sealGood ⟨0, 0, 1, 0, [], false⟩ (zseal []) = false := by decide

/-- A unit with a resident image, yielding, that has asked for element 0. -/
def paired : Dev :=
  { mated 0 false with tow := { (mated 0 false).tow with
      resident := some ⟨0, 0, 1, 0, [], []⟩, yieldState := 1, yieldCycle := some 0, wordAsked := [(0, 0, some 0)] } }

theorem wit_mate_health :
    (st paired).dev.laneUp 2 = true ∧ ((st paired).dev.lane 2).unused = false
      ∧ ((st paired).dev.lane 2).depth 3 + ((st paired).dev.ownFrame 3 18 0 (st paired).dev.healthPayload).size
        ≤ (st paired).dev.queueLimit 19
      ∧ (st paired).dev.tow.yieldState = 1 ∧ (st paired).dev.tow.yieldCycle = some 0 ∧ (st up).dev.tow.yieldState ≠ 1 := by decide +kernel

/-- The same unit when it has just sent its report. -/
def reported : Dev :=
  { paired with tow := { paired.tow with healthSent := watched paired.healthPayload, healthAt := some 1 } }

theorem wit_health_due :
    (st paired).dev.cycleNo % 1024 = 0 ∧ (st paired).dev.tow.healthAt ≠ some (st paired).dev.cyc.ticks
      ∧ (st reported).dev.tow.healthAt = some (st reported).dev.cyc.ticks
      ∧ watched (st reported).dev.healthPayload = (st reported).dev.tow.healthSent
      ∧ (st reported).dev.healthDue = false := by decide +kernel

theorem wit_words :
    (st paired).dev.freshImage = some ⟨0, 0, 1, 0, [], []⟩ ∧ (0 : BitVec 16).toNat < 32768 ∧ (st paired).dev.mateUp = true
      ∧ (st (mated 0 false)).dev.freshImage = none ∧ 32768 ≤ (32768 : BitVec 16).toNat
      ∧ (st paired).dev.sram.poisoned 0x6C0000 = false
      ∧ ((st paired).dev.lane 2).depth 4 + ((st paired).dev.ownFrame 4 17 0
          (syncBytes 6 0 0 0 (be 8 0 ++ be 8 ((st paired).dev.sram.word 0x6C0000)))).size ≤ (st paired).dev.queueLimit 20
      ∧ (st paired).dev.mateLane = 2
      ∧ (st paired).dev.tow.wordAsked.any (fun p => p.2.1 = (0 : BitVec 16).toNat && p.2.2.any (fun t => (st paired).dev.time.up < t + 2000000)) = true
      ∧ (st up).dev.tow.wordAsked.any (fun p => p.2.1 = (0 : BitVec 16).toNat && p.2.2.any (fun t => (st up).dev.time.up < t + 2000000)) = false := by
  decide +kernel

/-- A unit of one port with lane 2 up, at a time, that has a frame not acknowledged and has applied SYNC_SEQ 9. -/
def syncing (t : Nat) : Dev :=
  { onePort with
    net := (mated 0 false).net, time := { up := t }
    tow := { up.tow with syncOut := [{ seq := 0, kind := 1, item := 0, body := [], since := 0, sends := 2 }], syncApplied := [9] } }

/-- Points of every working point, spaced as the rules ask, of lengths 0. -/
def zeroPoints : List Byte := List.replicate 72 0 ++ [0x7F, 0x7F, 0x7F, 0x7F, 0x7F, 0x7F, 0x7F, 0x7F]

theorem wit_sync_in :
    (st (syncing 0)).dev.laneUp 2 = true ∧ ((st (syncing 0)).dev.lane 2).unused = false
      ∧ ((st (syncing 0)).dev.lane 2).depth 4 + ((st (syncing 0)).dev.ownFrame 4 17 0 (syncBytes 3 (respCode .ok) 0 0 [])).size
        ≤ (st (syncing 0)).dev.queueLimit 20
      ∧ (st (syncing 0)).dev.tow.syncApplied.contains 0 = false ∧ (st (syncing 0)).dev.tow.syncApplied.contains 9 = true
      ∧ (5 : BitVec 16).toNat ≤ 32767 ∧ zeroPoints.length = 80 ∧ (st (syncing 0)).dev.pointSetOk 5 zeroPoints = true
      ∧ (st (syncing 0)).dev.pointSetOk 5 (List.replicate 80 0) = false
      ∧ (st (syncing 0)).dev.lab.queue = [] ∧ (st (syncing 0)).dev.lab.flush = none ∧ (st (syncing 0)).dev.lab.busy = false
      ∧ (st (syncing 0)).dev.sightingsDue = false ∧ (st (syncing 0)).dev.commandsPending < 32
      ∧ (st { syncing 0 with lab := { busy := true } }).dev.lab.busy = true
      ∧ labelCmdOk (cmd 5) [1, 2, 5] = true ∧ labelCmdOk (cmd 1) [1, 2, 5] = true ∧ labelCmdOk (cmd 3) [1, 2, 5] = false
      ∧ 32 ≤ (st { syncing 0 with lab := { queue := List.replicate 32 (cmd 1, .mate) } }).dev.commandsPending
      ∧ (cmd 5).opcode = 5 ∧ (cmd 1).opcode = 1 ∧ (st (syncing 0)).dev.fab.image ≠ []
      ∧ (cmd 5).port.toNat < (st (syncing 0)).dev.mapPorts := by decide +kernel

theorem wit_sync_lookup :
    (st (syncing 0)).dev.lookupPoison (cmd 1).key.toNat = false ∧ (st (syncing 0)).dev.findLabel (cmd 1).key.toNat = none
      ∧ (st (syncing 0)).dev.freeLabel (cmd 1).key.toNat = some 20 := by decide +kernel

theorem wit_sync_out :
    ((st (syncing 0)).dev.tow.syncOut.find? (fun x => x.seq = 0)).map (fun x => (x.since, x.sends, x.poison)) = some (0, 2, false)
      ∧ (st up).dev.tow.syncOut.find? (fun x => x.seq = 0) = none
      ∧ (st (syncing 0)).dev.mono < 0 + 10000000 * 2 ∧ 0 + 10000000 * 2 ≤ (st (syncing 20000000)).dev.mono
      ∧ (st (syncing 20000000)).dev.laneUp 2 = true
      ∧ ((st (syncing 20000000)).dev.lane 2).depth 4 + ((st (syncing 20000000)).dev.ownFrame 4 17 0 (syncBytes 1 0 0 0 [])).size
        ≤ (st (syncing 20000000)).dev.queueLimit 20
      ∧ ((st (syncing 20000000)).dev.ownFrame 4 17 0 (syncBytes 1 0 0 0 [])).size ≤ (st (syncing 20000000)).dev.mtu 2
      ∧ (st (syncing 0)).dev.mono < 1000000000 + 0 ∧ 1000000000 + 0 ≤ (st (syncing 1000000000)).dev.mono := by decide +kernel

/-- A unit that yields, in a state, in cycle tick n. -/
def yielding (y n : Nat) : Dev := { up with tow := { up.tow with yieldState := y }, cyc := { ticks := n } }

theorem wit_yield :
    (st up).dev.tow.role ≠ 0 ∧ (st incumbent).dev.tow.role = 0 ∧ (st incumbent).dev.commitBusy = false
      ∧ (st incumbent).dev.mateFit = true
      ∧ (st (yielding 1 64)).dev.tow.yieldState = 1 ∧ 0 + 64 ≤ (st (yielding 1 64)).dev.ticks
      ∧ (st (yielding 2 4)).dev.tow.yieldState = 2 ∧ 0 + 4 ≤ (st (yielding 2 4)).dev.ticks
      ∧ (st (yielding 2 3)).dev.ticks < 0 + 4 ∧ (st (yielding 2 3)).dev.tow.yieldState ≠ 1
      ∧ (0xFF : BitVec 8) &&& 3 = 3 ∧ (2 : BitVec 8) &&& 3 ≠ 3 ∧ (4 : BitVec 8) &&& 3 ≠ 3 := by decide +kernel

/-- A device whose window is coded per byte. -/
def byteWise : Dev := { up with cfg := { up.cfg with mem := { up.cfg.mem with windowMode := 1 } } }

theorem wit_bytewise :
    (st byteWise).dev.perByte (wordOf (0x940000 : BitVec 24).toNat) = true ∧ regionOf (0x940000 : BitVec 24).toNat = some 7
      ∧ (st byteWise).dev.sram.sound = true ∧ (103 : Nat) < 104 ∧ tget false (st byteWise).dev.sram.bytePoison (0x940000 + 103 / 13) = false
      ∧ (91 : Nat) / 13 = 103 / 13 ∧ (91 : Nat) ≠ 103 ∧ (st up).dev.perByte (wordOf (0x10 : BitVec 24).toNat) = false
      ∧ (st (merging true)).dev.sram.poisoned (wordOf (0x10 : BitVec 24).toNat) = true
      ∧ (st (merging true)).dev.perByte (wordOf (0x10 : BitVec 24).toNat) = false
      ∧ mergeEntry (st up).dev.sram.merge (wordOf (0x10 : BitVec 24).toNat) = none := by decide +kernel

theorem wit_coded :
    (st up).dev.sram.sound = true ∧ regionOf (0x10 : BitVec 24).toNat = some 0
      ∧ (st up).dev.perByte (wordOf (0x10 : BitVec 24).toNat) = false
      ∧ (st up).dev.sram.poisoned (wordOf (0x10 : BitVec 24).toNat) = false
      ∧ regionOf (0x980000 : BitVec 24).toNat = none ∧ regionOf (0xA90000 : BitVec 24).toNat = none
      ∧ regionOf (0xA8FFFF : BitVec 24).toNat = some 8 ∧ regionOf (0x97FFFF : BitVec 24).toNat = some 7
      ∧ tfind (st up).dev.sram.writebacks (0x10 : BitVec 24).toNat = none
      ∧ tfind (st { up with sram := { writebacks := [(0x10, 7)] } }).dev.sram.writebacks (0x10 : BitVec 24).toNat = some 7 := by
  decide +kernel

theorem wit_merge :
    (st up).dev.sram.merge = [] ∧ (st (merging false)).dev.sram.sound = true ∧ (st (merging true)).dev.sram.sound = true
      ∧ (st (merging false)).dev.sram.merge = ⟨0x10, [(0x11, 7)], .requestService, true⟩ :: []
      ∧ (st (merging true)).dev.sram.merge = ⟨0x10, [(0x11, 7)], .requestService, true⟩ :: []
      ∧ (0x10 : Nat) % 8 = 0 ∧ wordOf 0x11 = 0x10
      ∧ (st (merging false)).dev.sram.poisoned 0x10 = false ∧ (st (merging true)).dev.sram.poisoned 0x10 = true
      ∧ (st (merging true)).dev.sram.poisoned (0x10 : BitVec 24).toNat = true
      ∧ (st up).dev.sram.poisoned (0x10 : BitVec 24).toNat = false := by decide +kernel

/-- A request whose one item waits for the word of the merge buffer. -/
def awaited : Outstanding :=
  { src := 1, seq := 1, cls := 0, planeB := false, spi := false, quiet := false, level := 1, digest := []
    answers := [{ code := .ok }], waits := [(0, .merge [0x10])] }

theorem wit_merge_waits :
    (st (merging true)).dev.mergeWaits = [] ∧ (st (merging false)).dev.sram.merge = [⟨0x10, [(0x11, 7)], .requestService, true⟩]
      ∧ (st { merging false with req := { outstanding := [awaited] } }).dev.req.outstanding = [awaited]
      ∧ awaited.waits = [(0, .merge [0x10])]
      ∧ (st (merging true)).dev.itemAtWork = none
      ∧ (st { merging true with req := { outstanding := [awaited] } }).dev.itemAtWork = some (.merge [0x10]) := by decide +kernel

/-- A scrubber in a state, automatic or not, with a pass of two words under way at an address. -/
def scrubbing (x : RunState) (auto : Bool) (a : Nat) : Dev :=
  { up with
    cfg := { up.cfg with mem := { up.cfg.mem with scrubAuto := auto } }
    memory := { up.memory with scrubState := x, scrubNext := a, scrub := { start := 0, stop := 8 } } }

theorem wit_scrub :
    (st (scrubbing .stopped true 0)).dev.cfg.mem.scrubAuto = true ∧ (st (scrubbing .stopped false 0)).dev.cfg.mem.scrubAuto = false
      ∧ (st (scrubbing .stopped false 0)).dev.memory.scrubState = .stopped
      ∧ (st (scrubbing .running false 0)).dev.memory.scrubState = .running
      ∧ (st (scrubbing .stopping false 0)).dev.memory.scrubState = .stopping
      ∧ (st (scrubbing .restartPending false 0)).dev.memory.scrubState = .restartPending
      ∧ (st (scrubbing .running false 0)).dev.sram.sound = true
      ∧ (st (scrubbing .running false 0)).dev.perByte 0 = false ∧ (st (scrubbing .running false 0)).dev.sram.poisoned 0 = false
      ∧ (st { scrubbing .running false 0 with sram := { poison := [(0, true)] } }).dev.sram.poisoned 0 = true
      ∧ (st { scrubbing .running false 0 with sram := { poison := [(0, true)] } }).dev.sram.sound = true
      ∧ (st (scrubbing .running false 0)).dev.memory.scrubNext < 8 ∧ 8 ≤ (st (scrubbing .running false 8)).dev.memory.scrubNext
      ∧ (st up).dev.perByte (st up).dev.memory.bankNext = false
      ∧ (st up).dev.sram.poisoned (st up).dev.memory.bankNext = false := by decide +kernel

/-- A device that has settings of every element, one of which waits for its rebuild. -/
def rebuilding (has : Bool) : Dev :=
  { up with
    memory := { up.memory with rebuild := [(1, none)] }
    boot := { up.boot with flash := { up.boot.flash with copy0 := if has then some { seq := 1, at_ := ⟨0, 0⟩, cfg := {}, rights := {}, records := [], tables := {}, bank := [], fabric := [], gen := 0, bankDigest := [] } else none } } }

/-- A driving unit with its mate up, an element of which waits for the mate's word. -/
def rebuildingMated : Dev :=
  { mated 0 true with memory := { (mated 0 true).memory with rebuild := [(1, none)] } }

theorem wit_rebuild :
    tfind (st up).dev.memory.rebuild (1 : BitVec 15).toNat = none
      ∧ tfind (st (rebuilding true)).dev.memory.rebuild (1 : BitVec 15).toNat = some none
      ∧ (st (rebuilding true)).dev.wordOpen (1 : BitVec 15).toNat = false
      ∧ (st (rebuilding false)).dev.wordOpen (1 : BitVec 15).toNat = false
      ∧ (st (rebuilding false)).dev.boot.flash.settingsOf (1 : BitVec 15).toNat = none
      ∧ (st (rebuilding true)).dev.boot.flash.settingsOf (1 : BitVec 15).toNat = some {}
      ∧ tfind (st rebuildingMated).dev.memory.rebuild (1 : BitVec 15).toNat = some none
      ∧ (st rebuildingMated).dev.wordOpen (1 : BitVec 15).toNat = true := by decide +kernel

theorem wit_rebuilt : (∀ k, (fun _ => false) k = up.sram.poisoned (64 * 1 + 8 * k)) := fun k => rfl

/-- An element with poison in word 6 of its record, or in its working curve. -/
theorem wit_rebuild_holds :
    (st { rebuilding true with sram := { poison := [(112, true)] } }).dev.sram.poisoned (64 * (1 : BitVec 15).toNat + 48) = true
      ∧ (st (rebuilding true)).dev.sram.poisoned (64 * (1 : BitVec 15).toNat + 48) = false
      ∧ (st (rebuilding true)).dev.curvePoisoned (1 : BitVec 15).toNat = false
      ∧ (st { rebuilding true with sram := { poison := [(calAddr 1 + 72, true)] } }).dev.curvePoisoned (1 : BitVec 15).toNat = true := by
  decide +kernel

/-- A device whose window is PER_BYTE, a COMPAT_LOAD running or not, with a poisoned window byte or none. -/
def imageWindow (run poison : Bool) : Dev :=
  { up with
    cfg := { up.cfg with mem := { up.cfg.mem with windowMode := 1 } }
    memory := { up.memory with compat := (if run then 1 else 0, 0, 0) }
    sram := { bytePoison := if poison then [(0x940000, true)] else [] } }

theorem wit_window :
    (st (imageWindow true false)).dev.compatRunning = true ∧ (st (imageWindow false false)).dev.compatRunning = false
      ∧ (1 : BitVec 8).toNat = (st (imageWindow false false)).dev.cfg.mem.windowMode
      ∧ (0 : BitVec 8).toNat ≠ (st (imageWindow false false)).dev.cfg.mem.windowMode
      ∧ (st up).dev.cfg.mem.windowMode = 0 ∧ (st (imageWindow false false)).dev.cfg.mem.windowMode ≠ 0
      ∧ (st (imageWindow false true)).dev.windowMarks = (0x940000, true) :: [] ∧ (st (imageWindow false false)).dev.windowPoisoned = false := by
  decide +kernel

/-- A device that repairs by itself, with one candidate row, barred by a rail or not, and one fuse to write. -/
def repairing (barred : Bool) : Dev :=
  { up with
    cfg := { up.cfg with mem := { up.cfg.mem with repairAuto := true } }
    memory := { up.memory with hardRows := [(5, 6, 3, true)], repairs := [⟨1, 2, 3, 0⟩] }
    therm := { up.therm with railState := if barred then [(0, 2)] else [] } }

/-- The same device when every spare row of macro 5 is taken. -/
def spareless : Dev :=
  { repairing false with memory := { (repairing false).memory with softMap := [(5, 0, 0), (5, 1, 1), (5, 2, 2), (5, 3, 3)] } }

theorem wit_repair :
    (st (repairing true)).dev.repairBarred = true ∧ (st (repairing false)).dev.repairBarred = false
      ∧ (5 : BitVec 8).toNat ≤ 151 ∧ (6 : BitVec 16).toNat ≤ 1023 ∧ (st (repairing false)).dev.cfg.mem.repairAuto = true
      ∧ rowCandidate (5 : Fin 152) (6 : Fin 1024) (st (repairing false)).dev.memory.hardRows = true
      ∧ rowCandidate (5 : Fin 152) (6 : Fin 1024) (st up).dev.memory.hardRows = false
      ∧ (st up).dev.memory.repairs = [] ∧ (st (repairing false)).dev.memory.repairs = ⟨1, 2, 3, 0⟩ :: [] := by decide +kernel

theorem wit_spare_none : (st spareless).dev.freeSpare 5 = none ∧ (st spareless).dev.repairBarred = false :=
  ⟨by simp [Dev.freeSpare, firstWhere, Dev.spareTaken, spareless, st], by decide +kernel⟩

/-- A macro the factory took no spare of has spare 0 free; the first fuse entry not promised is entry 1. -/
theorem wit_spare_some (h : Config.factorySpares 5 = []) : (st (repairing false)).dev.freeSpare 5 = some 0 := by
  have ht : (st (repairing false)).dev.spareTaken 5 0 = false := by unfold Dev.spareTaken; rw [h]; rfl
  unfold Dev.freeSpare firstWhere
  rw [ht]; rfl

theorem wit_fuse : (st (repairing false)).dev.freeFuse = some 1 := by decide +kernel

/-- A device by its two reference clocks, with device fault 3 declared or not. -/
def clocks (a b f : Bool) : Dev :=
  { up with ev := { up.ev with refA := a, refB := b, declared := if f then [3] else [] } }

theorem wit_clocks :
    (st (clocks false true false)).dev.ev.refA = false ∧ (st (clocks true false false)).dev.ev.refB = false
      ∧ (st (clocks true true false)).dev.ev.refA = true ∧ (st (clocks true true false)).dev.ev.refB = true
      ∧ (st (clocks true false false)).dev.ev.refA = true ∧ (st (clocks false true false)).dev.ev.refB = true
      ∧ (st (clocks false false true)).dev.causePersists = true ∧ (st (clocks true true true)).dev.causePersists = false := by
  decide

theorem wit_restart :
    (st { up with arr := { up.arr with outputState := .highZFault } }).dev.arr.outputState = .highZFault
      ∧ (st { up with arr := { up.arr with outputState := .highZFault } }).dev.causePersists = false
      ∧ (st up).dev.therm.state ≠ 3 ∧ (st up).dev.arr.outputState ≠ .highZFault
      ∧ (st up).dev.causePersists = false := by decide

/-- A device with a code suppressed in the run that ended, `n` events to send and one to log, and a destination or none. -/
def eventsDue (n : Nat) (dest : BitVec 16) : Dev :=
  { up with
    ev := { up.ev with
      ended := [(.scrubDone, 16)], toSend := List.replicate n ⟨0, ⟨0, 0⟩, .scrubDone, false, false, false, 0, []⟩
      toLog := [⟨0, ⟨0, 0⟩, .scrubDone, false, false, false, 0, []⟩], writeIndex := 5 }
    cfg := { up.cfg with ev := { up.cfg.ev with dest := dest } } }

theorem wit_events :
    (st up).dev.ev.ended = [] ∧ (st (eventsDue 1 0)).dev.ev.ended = [(.scrubDone, 16)]
      ∧ (st (eventsDue 1 0)).dev.cfg.ev.dest = 0 ∧ (st (eventsDue 1 7)).dev.cfg.ev.dest ≠ 0
      ∧ (st (eventsDue 0 7)).dev.ev.toSend = []
      ∧ (st (eventsDue 1 7)).dev.ev.toSend ≠ []
      ∧ (st (eventsDue 1 7)).dev.ev.toLog[0]? = some ⟨0, ⟨0, 0⟩, .scrubDone, false, false, false, 0, []⟩
      ∧ (st (eventsDue 1 7)).dev.ev.toLog.length ≤ 0 + 4096
      ∧ (∀ i, i < (st (eventsDue 1 7)).dev.ev.toLog.length → ((st (eventsDue 1 7)).dev.boot.flash.logIndex.toNat + i) % 4096 ≠ 1)
      ∧ ((st (eventsDue 1 0)).dev.ev.writeIndex - (st (eventsDue 1 0)).dev.cfg.ev.readIndex).toNat
        < (6 - (st (eventsDue 1 0)).dev.cfg.ev.readIndex).toNat
      ∧ (5 - (st (eventsDue 1 0)).dev.cfg.ev.readIndex).toNat
        ≤ ((st (eventsDue 1 0)).dev.ev.writeIndex - (st (eventsDue 1 0)).dev.cfg.ev.readIndex).toNat := by decide

/-- A device at a thermal level, its pumps in a state, its rails in a state. -/
def thermal (level pump rail : Nat) : Dev :=
  { up with therm := { up.therm with
      state := level, pumpH := pump, pumpL := pump, railState := [(0, rail), (1, rail), (2, rail), (3, rail), (4, rail), (5, rail)]
      dieTemp := if level = 2 then [(0, 10000)] else [] } }

theorem wit_thermal :
    (∀ i, i < 16 → Thermal.breaks { (st up).dev.therm with history := [(List.replicate 16 (9499 : Int)).map some] } ((List.replicate 16 (9499 : Int)).map some) i = none)
      ∧ (∀ i, i < 16 → Thermal.breaks { (st up).dev.therm with history := [(List.replicate 16 (12500 : Int)).map some] } ((List.replicate 16 (12500 : Int)).map some) i = none)
      ∧ stateFrom (st up).dev.therm.state 9499 false false = 0 ∧ stateFrom (st up).dev.therm.state 12500 false false = 3
      ∧ (st up).dev.therm.state ≠ 3 ∧ (st up).dev.therm.sensorState = []
      ∧ tget 0 (st up).dev.therm.sensorState 3 = 0 ∧ plausible (reading [] 3) = false
      ∧ (st (thermal 2 0 0)).dev.stillHot = true ∧ (st (thermal 3 0 0)).dev.therm.state = 3
      ∧ (st (thermal 3 0 0)).dev.stillHot = false
      ∧ (∀ r : Fin 6, (st up).dev.railState r = 0 ∧ (st (thermal 0 0 1)).dev.railState r ≠ 0
        ∧ (st (thermal 0 0 2)).dev.railState r = 2)
      ∧ (∀ p : Fin 2, (st (thermal 0 0 0)).dev.pump p = 0 ∧ (st (thermal 0 1 0)).dev.pump p = 1
        ∧ (st (thermal 0 2 0)).dev.pump p = 2 ∧ (st (thermal 0 3 0)).dev.pump p = 3) := by decide +kernel

theorem wit_sample :
    (List.replicate 16 (9499 : Int)).length = 16 ∧ (9499 : Int) ∈ List.replicate 16 (9499 : Int)
      ∧ (∀ y ∈ List.replicate 16 (9499 : Int), y ≤ 9499) ∧ (∀ y ∈ List.replicate 16 (12500 : Int), y ≤ 12500)
      ∧ (12500 : Int) ∈ List.replicate 16 (12500 : Int) := by decide

theorem wit_thermal_held :
    (st { thermal 3 0 0 with arr := { up.arr with outputState := .highZFault } }).dev.arr.outputState = .highZFault
      ∧ (st { thermal 3 0 0 with arr := { up.arr with outputState := .highZFault } }).dev.ev.deviceFault = 0
      ∧ (st { thermal 3 0 0 with arr := { up.arr with outputState := .highZFault } }).dev.stillHot = false
      ∧ (st (thermal 3 0 0)).dev.arr.outputState ≠ .highZFault := by decide +kernel

/-- A device in a phase, of a revision, with straps and a start mode. -/
def booting (p : Phase) (r straps : BitVec 16) (m : Nat) : Dev :=
  { up with boot := { up.boot with phase := p, revision := r, straps := straps, flash := { up.boot.flash with startMode := m } } }

theorem wit_boot :
    (st up).dev.boot.phase ≠ .held ∧ (st up).dev.boot.phase ≠ .rom ∧ (st up).dev.boot.phase ≠ .loaded
      ∧ (st (booting .held 0xA1 0 0)).dev.boot.phase = .held ∧ (st (booting .rom 0xA1 0x200 0)).dev.boot.phase = .rom
      ∧ bit (st (booting .rom 0xA1 0x200 0)).dev.boot.straps.toNat 9 = true
      ∧ (st (booting .rom 0xA1 0 0)).dev.boot.phase = .rom ∧ (st (booting .rom 0xA1 0 0)).dev.boot.flash.sfdp = true
      ∧ bit (st (booting .rom 0xA1 0 0)).dev.boot.straps.toNat 9 = false
      ∧ (st (booting .loaded 0xA2 0 0)).dev.boot.phase = .loaded ∧ (st (booting .loaded 0xA2 0 0)).dev.boot.revision ≠ 0x00A1
      ∧ (st (booting .loaded 0xA1 0 0)).dev.boot.revision = 0x00A1
      ∧ bit (st (booting .loaded 0xA1 0x400 0)).dev.boot.straps.toNat 10 = true
      ∧ bit (st (booting .loaded 0xA1 0 1)).dev.boot.straps.toNat 10 = false
      ∧ (st (booting .loaded 0xA1 0 1)).dev.boot.flash.startMode = 1 ∧ (st (booting .loaded 0xA1 0 0)).dev.boot.flash.startMode = 0
      ∧ (st (booting .loaded 0xA1 0 0)).dev.boot.flash.newest = none := by decide

/-- A device whose start is done or not, in a start mode, with a saved duty. -/
def starting (done : Bool) (m : Nat) (duty : Option Nat) : Dev :=
  { up with
    boot := { up.boot with startDone := done, startMode := m, savedDuty := duty }
    time := { up.time with state := .locked } }

/-- A saved copy with a map or none. -/
def savedCopy (map : List Byte) : Saved :=
  { seq := 1, at_ := ⟨0, 0⟩, cfg := {}, rights := {}, records := [], tables := [], bank := [], fabric := map, gen := 0, bankDigest := [] }

/-- A device that restores a saved copy. -/
def restoring (map : List Byte) : Dev :=
  { starting false 0 none with boot := { (starting false 0 none).boot with flash := { up.boot.flash with copy0 := some (savedCopy map) } } }

theorem wit_start :
    (st (starting true 1 none)).dev.boot.startDone = true ∧ (st (starting false 1 none)).dev.boot.startDone = false
      ∧ (st (starting false 1 none)).dev.boot.phase = .firmware ∧ (st (starting false 1 none)).dev.boot.startMode ≠ 0
      ∧ (st (restoring [])).dev.boot.startMode = 0 ∧ (st (restoring [])).dev.boot.flash.newest = some (savedCopy [])
      ∧ (st (restoring [])).dev.boot.startDone = false
      ∧ (savedCopy []).fabric = [] ∧ ((st (restoring [])).dev.restoreMap (savedCopy []).fabric).1 = .ok
      ∧ (st (starting true 1 none)).dev.boot.savedDuty = none ∧ (st (starting true 1 (some 1))).dev.boot.savedDuty = some 1
      ∧ (st (starting true 1 (some 0))).dev.boot.savedDuty = some 0 ∧ (st (starting true 1 none)).dev.time.state = .locked
      ∧ (st (starting true 1 none)).dev.cyc.slot = 0 ∧ (st incumbent).dev.tow.role = 0 ∧ (st up).dev.tow.role ≠ 0 := by
  decide +kernel

/-- A saved map that is no image is refused. -/
theorem wit_map_refused : ((st (restoring [1])).dev.restoreMap (savedCopy [1]).fabric).1 ≠ .ok := by decide +kernel

/-- A public key of 97 bytes. -/
def someKey : List Byte := 4 :: List.replicate 96 1

theorem wit_update :
    (1025 : BitVec 16).toNat > 1024 ∧ (1024 : BitVec 16).toNat ≤ 1024 ∧ (List.replicate 1024 (7 : Byte)).length = 1024
      ∧ (st up).dev.boot.phase ≠ .recovery ∧ (st (booting .recovery 0xA1 0 0)).dev.boot.phase = .recovery
      ∧ (st up).dev.ev.guarantee ≠ 0
      ∧ (st { up with ev := { up.ev with guarantee := 0 } }).dev.ev.guarantee = 0
      ∧ someKey.length = 97 ∧ someKey.head? = some 4 ∧ (st up).dev.slotShutOut someKey 0 = false
      ∧ (st up).dev.slotShutOut someKey 1 = false
      ∧ (st up).dev.boot.ownerSlots.length < 4
      ∧ 4 ≤ (st { up with boot := { up.boot with ownerSlots := [[], [], [], []] } }).dev.boot.ownerSlots.length
      ∧ (List.replicate 32 (0 : Byte)).length = 32 := by decide +kernel

/-- A unit with a mate's address, a rejoin in a state, some tries spent. -/
def rejoining (n tries : Nat) (mate : Option (List Byte)) : Dev :=
  { up with
    net := { mateAddress := 9 }, boot := { up.boot with rejoinState := n, rejoinTries := tries }
    tow := { up.tow with mateFabric := mate } }

/-- A reading of the mate's bank. -/
def readBank (r : Resp) (g : BitVec 32) : RejoinData :=
  { status := r, genBefore := 0, genAfter := g, entries := [(5, [1])], targets := [(7, 9)], bankDigest := [] }

theorem wit_rejoin :
    (st (rejoining 0 0 none)).dev.tow.role ≠ 0 ∧ (st (rejoining 0 0 none)).dev.net.mateAddress ≠ 0
      ∧ (st (rejoining 0 0 none)).dev.tow.mateFabric = none ∧ (st up).dev.net.mateAddress = 0
      ∧ (st (rejoining 0 0 none)).dev.boot.rejoinState ≠ 1 ∧ (st (rejoining 1 0 none)).dev.boot.rejoinState = 1
      ∧ (readBank .busy 0).status ≠ .ok ∧ (readBank .ok 1).genBefore ≠ (readBank .ok 1).genAfter
      ∧ (st (rejoining 1 0 none)).dev.boot.rejoinTries < 3 ∧ 3 ≤ (st (rejoining 1 3 none)).dev.boot.rejoinTries
      ∧ (readBank .ok 0).genBefore = (readBank .ok 0).genAfter := by decide +kernel

theorem wit_bank :
    (5, [1]) ∈ (readBank .ok 0).entries ∧ (∀ b, (6, b) ∉ (readBank .ok 0).entries)
      ∧ ((7, 9) : Nat × BitVec 64) ∈ (readBank .ok 0).targets ∧ (∀ w, (8, w) ∉ (readBank .ok 0).targets) := by
  simp [readBank]

/-! ## Ill-formed terms: one for each check of WellFormed -/

/-- A good measurement of a rotation step. -/
def step0 : StepMeasure :=
  { converged := true, low := 0, high := 0, n := 1, zeroA := (0, 0, 0), fullA := (0, 0, 0)
    zeroB := (0, 0, 0), fullB := (0, 0, 0), skewA := 0, skewB := 0 }

/-- A good reading of the mate's bank. -/
def rejoin0 : RejoinData :=
  { status := .ok, genBefore := 0, genAfter := 0, entries := [], targets := [], bankDigest := List.replicate 48 0 }

/-- A good seal. -/
def seal0 : SealMsg :=
  { chunkCount := 0, imageCycle := 0, generation := 0, bankDigest := List.replicate 48 0, imageDigest := List.replicate 48 0
    fabricDigest := List.replicate 48 0 }

/-- An object. -/
def obj0 : ObjRef := ⟨0x3000, 0x0A, none⟩

/-- A good TIME_SYNC payload. -/
def sync0 : TimeSyncMsg := { state := 0, steps := 0, root := 0, syncLog2 := 0 }

theorem test_wf_good :
    (Instr.slot {}).wellFormed = true ∧ (Instr.rotationStepEnd 0 step0).wellFormed = true
      ∧ (Instr.rejoinComplete rejoin0).wellFormed = true ∧ (Instr.checkpointSeal seal0).wellFormed = true
      ∧ (Instr.timeSyncReceive 0 0 ⟨0, 0⟩ sync0).wellFormed = true ∧ (Instr.faultAck 1).wellFormed = true
      ∧ (Instr.memoryUe 0 .core [0, 71, 103]).wellFormed = true := by decide +kernel

theorem test_wf_slot :
    (Instr.slot { residue := [32768] }).wellFormed = false ∧ (Instr.slot { residue := [1, 1] }).wellFormed = false
      ∧ (Instr.slot { latePoison := [(32768, 0)] }).wellFormed = false ∧ (Instr.slot { pads := [⟨256, 0, 0⟩] }).wellFormed = false
      ∧ (Instr.slot { rowLow := [256] }).wellFormed = false ∧ (Instr.slot { rowHigh := [256] }).wellFormed = false
      ∧ (Instr.slot { late := [32768] }).wellFormed = false ∧ (Instr.slot { parityOne := [256] }).wellFormed = false
      ∧ (Instr.slot { parityBoth := [256] }).wellFormed = false := by decide +kernel

theorem test_wf_rotation :
    (Instr.rotationStepEnd 0 { step0 with n := 257 }).wellFormed = false
      ∧ (Instr.rotationStepEnd 0 { step0 with zeroA := (16384, 0, 0) }).wellFormed = false
      ∧ (Instr.rotationStepEnd 0 { step0 with zeroA := (0, 16384, 0) }).wellFormed = false
      ∧ (Instr.rotationStepEnd 0 { step0 with zeroA := (0, 0, 16384) }).wellFormed = false
      ∧ (Instr.rotationStepEnd 0 { step0 with fullA := (16384, 0, 0) }).wellFormed = false
      ∧ (Instr.rotationStepEnd 0 { step0 with fullA := (0, 16384, 0) }).wellFormed = false
      ∧ (Instr.rotationStepEnd 0 { step0 with fullA := (0, 0, 16384) }).wellFormed = false
      ∧ (Instr.rotationStepEnd 0 { step0 with zeroB := (16384, 0, 0) }).wellFormed = false
      ∧ (Instr.rotationStepEnd 0 { step0 with zeroB := (0, 16384, 0) }).wellFormed = false
      ∧ (Instr.rotationStepEnd 0 { step0 with zeroB := (0, 0, 16384) }).wellFormed = false
      ∧ (Instr.rotationStepEnd 0 { step0 with fullB := (16384, 0, 0) }).wellFormed = false
      ∧ (Instr.rotationStepEnd 0 { step0 with fullB := (0, 16384, 0) }).wellFormed = false
      ∧ (Instr.rotationStepEnd 0 { step0 with fullB := (0, 0, 16384) }).wellFormed = false := by decide +kernel

theorem test_wf_numbers :
    (Instr.loadMeasure 1 [] (List.replicate 264 0)).wellFormed = false
      ∧ (Instr.loadMeasure 1 (List.replicate 264 0) []).wellFormed = false
      ∧ (Instr.recordFieldWrite 0 .kp 0x100000000).wellFormed = false
      ∧ (Instr.recordFieldWrite 0 .kp (-0x80000001)).wellFormed = false
      ∧ (Instr.solveDone 0x100000000).wellFormed = false
      ∧ (Instr.timeSyncReceive 0 0 ⟨0, 0⟩ { sync0 with syncLog2 := 128 }).wellFormed = false
      ∧ (Instr.timeSyncReceive 0 0 ⟨0, 0⟩ { sync0 with syncLog2 := -129 }).wellFormed = false
      ∧ (Instr.timeSyncReceive 0 0 ⟨0, 1000000000⟩ sync0).wellFormed = false
      ∧ (Instr.delayRespReceive 0 { secs := 0, nanos := 1000000000, reqSeq := 0 }).wellFormed = false
      ∧ (Instr.imageAck 0x10000000000000000).wellFormed = false
      ∧ (Instr.delayReqReceive 0 0 ⟨0, 1000000000⟩).wellFormed = false
      ∧ (Instr.wordReply 0 .ok 0x10000000000000000 ⟨0, false⟩).wellFormed = false := by decide +kernel

theorem test_wf_values :
    (Instr.registerWrite 0 obj0 (.num 0x10000000000000000)).wellFormed = false
      ∧ (Instr.registerWrite 0 obj0 (.num (-0x8000000000000001))).wellFormed = false
      ∧ (Instr.registerWrite 0 obj0 (.time 0x1000000000000 0)).wellFormed = false
      ∧ (Instr.registerWrite 0 obj0 (.time 0 0x100000000)).wellFormed = false
      ∧ (Instr.registerWrite 0 obj0 (.bytes (List.replicate 2049 0))).wellFormed = false
      ∧ (Instr.domainPartWrite 0 0 obj0 0x10000 [] true).wellFormed = false
      ∧ (Instr.domainPartWrite 0 0 obj0 0 (List.replicate 2049 0) true).wellFormed = false := by decide +kernel

theorem test_wf_domains :
    (Instr.calPointsWrite 0 (List.replicate 2049 0)).wellFormed = false
      ∧ (Instr.fabricBlockWrite 0 (List.replicate 2049 0)).wellFormed = false
      ∧ (Instr.rawTargetWrite 0 (List.replicate 2049 0)).wellFormed = false
      ∧ (Instr.circuitNextWrite 0 (List.replicate 2049 0)).wellFormed = false
      ∧ (Instr.circuitBatch (List.replicate 2049 0)).wellFormed = false
      ∧ (Instr.portAttenWrite 0 (List.replicate 2049 0)).wellFormed = false
      ∧ (Instr.firmwareBlock 0 (List.replicate 2049 0)).wellFormed = false
      ∧ (Instr.ownerKeyInstall (List.replicate 2049 0)).wellFormed = false
      ∧ (Instr.attestNonce (List.replicate 2049 0)).wellFormed = false := by decide +kernel

theorem test_wf_frames :
    (Instr.frameReceive 0 ⟨[], { align := 2049, fec := ⟨0, 0⟩ }⟩).wellFormed = false
      ∧ (Instr.helloReceive 0 []).wellFormed = false ∧ (Instr.mateSyncCalPoints 0 0 [] false).wellFormed = false
      ∧ (Instr.bspiWriteRequest 0 (List.replicate 65536 0)).wellFormed = false
      ∧ (Instr.requestReceive (reqOf false false (List.replicate 2011 0))).wellFormed = false
      ∧ (Instr.checkpointReceive ⟨0, 0, 0, 0, 0, List.replicate 241 0⟩ false).wellFormed = false
      ∧ (Instr.checkpointSeal { seal0 with bankDigest := [] }).wellFormed = false
      ∧ (Instr.checkpointSeal { seal0 with imageDigest := [] }).wellFormed = false
      ∧ (Instr.checkpointSeal { seal0 with fabricDigest := [] }).wellFormed = false
      ∧ (Instr.rejoinComplete { rejoin0 with entries := [(1024, List.replicate 16 0)] }).wellFormed = false
      ∧ (Instr.rejoinComplete { rejoin0 with entries := [(0, [])] }).wellFormed = false
      ∧ (Instr.rejoinComplete { rejoin0 with targets := [(32768, 0)] }).wellFormed = false
      ∧ (Instr.rejoinComplete { rejoin0 with bankDigest := [] }).wellFormed = false := by decide +kernel

theorem test_wf_memory :
    (Instr.memoryUe 0 .core [104]).wellFormed = false ∧ (Instr.memoryUe 0 .core [1, 1]).wellFormed = false
      ∧ (Instr.mergeRetire [104]).wellFormed = false ∧ (Instr.scrubRead [104]).wellFormed = false
      ∧ (Instr.bankStoreScrubRead [104]).wellFormed = false ∧ (Instr.dieSensorSample []).wellFormed = false := by decide +kernel

/-! ## The spec's own figures -/

/-- R47 to R49, the worked example of 03: periods of 3,000 and 3,125 ns with 96 rows. -/
theorem test_cycle_example :
    CycleConf.good ⟨3000, 96, 0, 0⟩ = false ∧ CycleConf.good ⟨3125, 96, 0, 0⟩ = true ∧ CycleConf.good ⟨3125, 96, 4, 31⟩ = true := by
  decide +kernel

/-- R99, the worked example of 05: S[96] and S[352]. -/
theorem test_sine : sine 96 = 18204 ∧ sine 352 = 27245 ∧ sine 608 = -18204 := by decide +kernel

/-- R112, the worked example of 06: the linearisation of 26,066 and of 25,856. -/
theorem test_lin : Curve.lin ⟨307200, 314573, 1099512⟩ 26066 = 9699 ∧ Curve.lin ⟨307200, 314573, 1099512⟩ 25856 = 9625 := by
  decide +kernel

/-- R111 to R116, the ATTEN example of 06: errors, proportional parts, the slewed code and its reverse linearisation. -/
theorem test_atten :
    errorOf 2 40000 38800 = 1966 ∧ errorOf 2 40000 39600 = 655 ∧ propOf { kp := 64 } 1966 = 491 ∧ propOf { kp := 64 } 655 = 163
      ∧ (codeOf 5214 5315 32).nd = 5283 ∧ (codeOf 5214 5315 32).slewed = true
      ∧ Curve.reverse ⟨230400, 367002, 0⟩ 5283 12326 0 40000 true = 12523 := by decide +kernel

/-- R161, the worked example of 08: interpolation at 43.70 C, and the entry of a refit of R162. -/
theorem test_curve :
    Curve.between ⟨306000, 316000, 1100000⟩ ⟨309243, 312143, 1098681⟩ 4000 5000 4370 = ⟨307200, 314573, 1099512⟩
      ∧ (Curve.step ⟨307200, 0, 0⟩ ⟨302080, 0, 0⟩ 22937).a0 = 305408 := by decide +kernel

/-- R343, the worked example of 16: claim numbers, and what the lines carry when A has fallen to HEALTH 6. -/
theorem test_claim :
    claimNumber 7 true 0x90 1 = 0xF901 ∧ claimNumber 7 false 0x80 2 = 0xE802 ∧ claimNumber 6 true 0x90 1 = 0xD901
      ∧ judgeLine 0xE802 0xE802 = .won ∧ judgeLine 0xD901 0xE802 = .lost ∧ judgeLine 0xD901 0xFFFF = .faulty := by decide +kernel

/-- R373: the columns of data bits 0 to 7, and R389's example of a fuse word. -/
theorem test_columns :
    (List.range 8).map (column 64 8) = [0x07, 0x0B, 0x0D, 0x0E, 0x13, 0x15, 0x16, 0x19] ∧ fuseWord 5 21 2 = 0x8282B000 := by
  decide +kernel

/-- R299, the worked example of 14: t1 and t2 extended. -/
theorem test_stamps : extendAfter 12884901700 112 = 12884902000 ∧ extendBefore 12 167 = 12884902055 := by decide +kernel

/-- R373: a single flipped bit is corrected, two poison the word. -/
theorem test_coded_read :
    ((st up).dev.readWord 0x10 .core [5]).sram.cells = [] ∧ ((st up).dev.readWord 0x10 .core [5]).sram.poison = []
      ∧ ((st up).dev.readWord 0x10 .core [5, 64]).sram.poison = [(0x10, true)] := by decide +kernel

/-- R107: a record's first word, packed from the table of R107. -/
theorem test_record_word :
    (Rec.words { kind := 1, mode := 2, delay2 := true, tone := 5, zone := 3, monA := 7, monB := 9, drive := 11 }).head?
      = some 0x554600070012002C := by decide +kernel

/-- R372: memory at reset, and R318: a step carries out a command that waits. -/
theorem test_step :
    (match step { st up with pending := [.faultAck 1, .faultAck 2] } with
      | .next t => (t.pending.length, t.dev.req.answer.map (fun a => a.code))
      | _ => (0, none)) = (1, some .ok) := by decide +kernel

/-- The balls of R447's worked example. -/
theorem test_balls :
    ballName 4 23 = "E23" ∧ signalAt 4 23 = .dcol 141 ∧ ballName 13 47 = "P47" ∧ signalAt 13 47 = .mcol 261
      ∧ ballName 19 12 = "AA12" ∧ signalAt 19 12 = .drow 100 ∧ ballName 22 23 = "AD23" ∧ signalAt 22 23 = .msel 77
      ∧ ballName 45 18 = "BH18" ∧ signalAt 45 18 = .txP 53 ∧ signalAt 45 19 = .txN 53 ∧ signalAt 46 18 = .rxP 53
      ∧ signalAt 46 19 = .rxN 53 ∧ signalAt 45 20 = .vss ∧ ballName 28 30 = "AK30" ∧ signalAt 28 30 = .vss
      ∧ signalAt 28 31 = .vddCore := by decide +kernel

/-- Balls of a few groups as R443 counts them. -/
theorem test_ball_counts :
    (ballsOf .vss).length = 1198 ∧ (ballsOf .vddCore).length = 240 ∧ (ballsOf .vddSram).length = 24
      ∧ (ballsOf .vdda1p2).length = 72 ∧ (ballsOf .vdd1p8).length = 24 ∧ (ballsOf .arrCom).length = 48 := by decide +kernel
end Sys2Proof.Tests
end

section
/-! Rules shared by the proofs: how a command that is carried out is shown to give, complete or answer, what an event
leaves alone and shows, what a lane reads after a write, and a memory word after its own. -/

namespace Sys2Proof.Machine

/-! ## Commands carried out -/

theorem gives_of_upd {c : Instr} {s : State} {d : Dev} (f : Dev → Dev) (hc : exec c s = s.upd f) (hd : f s.dev = d) :
    Gives c s d := by
  rw [Gives, hc, State.upd_next, hd]

theorem answers_of_ask {c : Instr} {s : State} {r : Resp} {d : Dev} (f : Dev → Resp × Dev) (hc : exec c s = s.ask f)
    (hd : f s.dev = (r, d)) : Answers c s r d := by
  rw [Answers, Gives, hc, State.ask_next, hd]

/-! ## Iteration -/

theorem iter_keeps {α : Type} (p : α → Prop) (f : Nat → α → α) (n i : Nat) (a : α)
    (hf : ∀ i a, p a → p (f i a)) (h : p a) :
    p (iter f n i a) := by
  induction n generalizing i a with
  | zero => exact h
  | succ n ih => exact ih _ _ (hf i a h)

/-! ## Events (R398 to R400) -/

/-- What an event leaves: the Event Unit apart, the device it found. -/
theorem Dev.raise_eq (d : Dev) (e : EventName) (a : List Nat) : d.raise e a = { d with ev := (d.raise e a).ev } := by
  obtain ⟨v, h⟩ := Dev.raise_ev d e a
  rw [h]

/-- An event's record shows the Event Unit, its settings, the clock and the address, and nothing else of the device. -/
theorem Dev.raise_ev_congr {x y : Dev} (e : EventName) (a : List Nat) (hev : x.ev = y.ev) (hcfg : x.cfg.ev = y.cfg.ev)
    (htime : x.time = y.time) (haddr : x.net.address = y.net.address) : (x.raise e a).ev = (y.raise e a).ev := by
  simp only [Dev.raise, Dev.post, Dev.unread, Dev.locked, hev, hcfg, htime, haddr, apply_ite Dev.toLive, apply_ite Live.ev]

theorem Dev.raiseIf_ev_congr {x y : Dev} (b : Bool) (e : EventName) (a : List Nat) (hev : x.ev = y.ev)
    (hcfg : x.cfg.ev = y.cfg.ev) (htime : x.time = y.time) (haddr : x.net.address = y.net.address) :
    (x.raiseIf b e a).ev = (y.raiseIf b e a).ev := by
  unfold Dev.raiseIf
  split
  · exact Dev.raise_ev_congr e a hev hcfg htime haddr
  · exact hev

/-- What an event leaves and shows, read off a device y that shows the same. -/
theorem Dev.raiseIf_eq_of {x y : Dev} (b : Bool) (e : EventName) (a : List Nat) (hev : x.ev = y.ev)
    (hcfg : x.cfg.ev = y.cfg.ev) (htime : x.time = y.time) (haddr : x.net.address = y.net.address) :
    x.raiseIf b e a = { x with ev := (y.raiseIf b e a).ev } := by
  obtain ⟨v, h⟩ := Dev.raiseIf_ev x b e a
  rw [← Dev.raiseIf_ev_congr b e a hev hcfg htime haddr, h]

/-! ## Lanes -/

theorem Dev.lane_setLane (d : Dev) (l k : Nat) (x : Lane) : (d.setLane l x).lane k = if k = l then x else d.lane k :=
  tget_tset _ _ _ _ _

/-! ## A word written and read back (R5, R376) -/

theorem foldl_be (n a v : Nat) : (be n v).foldl (fun a b => a * 256 + b.toNat) a = a * 256 ^ n + v % 256 ^ n := by
  induction n generalizing a v with
  | zero => simp [be, Nat.mod_one]
  | succ n ih =>
    rw [be, List.foldl_cons, ih, BitVec.toNat_ofNat, Nat.mod_mod, Nat.mod_pow_succ (x := v) (b := 256) (k := n),
      show 2 ^ 8 = 256 from rfl, pow_succ]
    ring

/-- Bytes spell the number that they were taken from, as far as there is room. -/
theorem ofBe_be (n v : Nat) : ofBe (be n v) = v % 256 ^ n := by
  rw [ofBe, foldl_be, Nat.zero_mul, Nat.zero_add]

theorem be_length (n v : Nat) : (be n v).length = n := by
  induction n generalizing v with
  | zero => rfl
  | succ n ih => rw [be, List.length_cons, ih]

theorem Mem.bytes_eq_map (m : Mem) (a n : Nat) : m.bytes a n = (List.range n).map (fun i => m.byte (a + i)) := by
  induction n generalizing a with
  | zero => rfl
  | succ n ih =>
    rw [Mem.bytes, ih, List.range_succ_eq_map, List.map_cons, List.map_map]
    refine congrArg _ (List.map_congr_left fun i _ => ?_)
    simp only [Function.comp_apply, Nat.add_assoc, Nat.add_comm 1]

theorem Mem.word_putWord (m : Mem) {a w : Nat} (ha : a % 8 = 0) (hw : w < 2 ^ 64) : (m.putWord a w).word a = w := by
  have hbytes : (m.putWord a w).bytes a 8 = be 8 w := by
    rw [Mem.bytes_eq_map]
    refine List.ext_getElem (by rw [List.length_map, List.length_range, be_length]) fun i hi hi' => ?_
    have hi8 : i < 8 := by rwa [be_length] at hi'
    have hfit : fit 8 (be 8 w) = be 8 w := List.take_left' (be_length 8 w)
    rw [List.getElem_map, List.getElem_range, Mem.putWord, putBytes8_byte _ _ _ ha hi8, hfit, List.getD_eq_getElem]
  rw [Mem.word, hbytes, ofBe_be]
  exact Nat.mod_eq_of_lt hw

end Sys2Proof.Machine
end

section
/-! The cycle configuration and the tick window (R47 to R51, R56): what CYCLE_APPLY, CYCLE_CONFIG_EFFECT and
TICK_WINDOW_OPEN do. -/

namespace Sys2Proof.Machine

/-! ## The clock -/

/-- The clock that moves on shows the instant it moved on to, short of the wrap of SECONDS (R292, R295). -/
theorem Dev.now_advanceTo {d : Dev} {t : Nat} (ht : t < timeWrap) : (d.advanceTo t).now = max d.now t := by
  unfold Dev.advanceTo
  split
  · rename_i hlt
    have hset : ∀ b : Belfry, (b.setNow t).now = t := by
      intro b
      simp only [Belfry.setNow, Belfry.now]
      rw [timeWrap] at ht
      omega
    rw [max_eq_right hlt.le]
    exact hset d.time
  · rename_i hge
    rw [max_eq_left (not_lt.1 hge)]

theorem Dev.advanceTo_eq (d : Dev) (t : Nat) : d.advanceTo t = { d with time := (d.advanceTo t).time } := by
  unfold Dev.advanceTo
  split <;> rfl

theorem tickWindowOpen_eq (d : Dev) : tickWindowOpen d = { d with
    cyc := { d.cyc with windowOpen := true }, time := (d.advanceTo (d.time.nextTick - d.cyc.windowOn)).time } := by
  rw [tickWindowOpen, Dev.windowOpens, Dev.advanceTo_eq]

/-! ## CYCLE_APPLY -/

theorem cycleApply_not_one {v : Nat} {d : Dev} (h : v ≠ 1) : cycleApply v d = (.invalid, d) := if_pos h

theorem cycleApply_busy {d : Dev} (h : d.cyc.next ≠ none) : cycleApply 1 d = (.busy, d) := by
  rw [cycleApply, if_neg (by decide), if_pos (Option.isSome_iff_ne_none.2 h)]

theorem cycleApply_idle {d : Dev} (h : d.cyc.next = none) : cycleApply 1 d =
    if d.cfg.cyc.staged.good = false ∨ d.mapRows.any (fun r => d.cfg.cyc.staged.rows ≤ r) then (.invalid, d)
    else (.ok, { d with cyc := { d.cyc with next := some d.cfg.cyc.staged } }) := by
  rw [cycleApply, if_neg (by decide), if_neg (by simp [h])]

/-! ## CYCLE_CONFIG_EFFECT -/

theorem Dev.clipWindow_eq (d : Dev) (period : Nat) : ∃ v, d.clipWindow period = { d with
    cyc := { d.cyc with windowOn := min d.cyc.windowOn (period / 2) }
    cfg := { d.cfg with cyc := { d.cfg.cyc with tickWindow := min d.cfg.cyc.tickWindow (period / 2) } }
    ev := v } := by
  unfold Dev.clipWindow
  dsimp only
  split
  · rename_i h
    rw [min_eq_right h.le, Dev.raise_eq]
    exact ⟨_, rfl⟩
  · rename_i h
    rw [min_eq_left (not_lt.1 h)]
    exact ⟨_, rfl⟩

/-- New loop delays are written into records: memory alone changes. -/
theorem Dev.deriveDelays_eq (d : Dev) : ∃ m v, d.deriveDelays = { d with sram := m, memory := v } := by
  refine each_keeps (fun x : Dev => ∃ m v, x = { d with sram := m, memory := v }) _ _ _ (fun e x hx => ?_) ⟨_, _, rfl⟩
  obtain ⟨m, v, rfl⟩ := hx
  dsimp only
  split
  · exact ⟨_, _, rfl⟩
  · exact ⟨_, _, rfl⟩

/-- What a tick does with one frequency pair (R232): its state, and LABEL_PAIR_SUSPENDED where it ceased to be usable. -/
def Dev.settlePair (active : List Nat) (j : Nat) (d : Dev) : Dev :=
  let new : PairState := if !(d.pair j).on then .off else if active.contains j then .active else .suspended
  let fell : Bool := new = .suspended && tget .off d.dec.pairState j ≠ .suspended
  (d.setDec (fun c => { c with pairState := tset .off c.pairState j new })).raiseIf fell .labelPairSuspended

theorem Dev.pairTick_eq_iter (d x : Dev) (hx : x = d.setDec (fun c => { c with oldEnable := [] })) :
    d.pairTick = (iter (Dev.settlePair (activePairs x.period x.pairs)) 8 0 x).pausePairs := by
  rw [hx]
  rfl

theorem Dev.settlePair_eq (active : List Nat) (j : Nat) (d : Dev) :
    ∃ c v, d.settlePair active j = { d with dec := c, ev := v } := by
  unfold Dev.settlePair
  dsimp only
  obtain ⟨v, h⟩ := Dev.raiseIf_ev (d.setDec _) _ .labelPairSuspended []
  exact ⟨_, v, h⟩

theorem iter_settlePair_eq (active : List Nat) (n i : Nat) (d : Dev) :
    ∃ c v, iter (Dev.settlePair active) n i d = { d with dec := c, ev := v } := by
  refine iter_keeps (fun x : Dev => ∃ c v, x = { d with dec := c, ev := v }) _ _ _ _ (fun j x hx => ?_) ⟨_, _, rfl⟩
  obtain ⟨c, v, rfl⟩ := hx
  exact Dev.settlePair_eq ..

/-- Frequency pairs take their states: the decoder and the Event Unit alone change. -/
theorem Dev.pairTick_eq (d : Dev) : ∃ c v, d.pairTick = { d with dec := c, ev := v } := by
  rw [Dev.pairTick_eq_iter d _ rfl]
  obtain ⟨c, v, h⟩ := iter_settlePair_eq _ 8 0 _
  rw [h]
  exact ⟨_, _, rfl⟩

/-- What a new configuration makes of records and pairs (R55, R232). -/
theorem Dev.deriveDelays_pairTick_eq (d : Dev) :
    ∃ m v c e, d.deriveDelays.pairTick = { d with sram := m, memory := v, dec := c, ev := e } := by
  obtain ⟨m, v, hderive⟩ := d.deriveDelays_eq
  obtain ⟨c, e, hpair⟩ := d.deriveDelays.pairTick_eq
  rw [hpair, hderive]
  exact ⟨m, v, c, e, rfl⟩

/-- CYCLE_CONFIG_EFFECT in slot 0 after the tick of a change: the tick window is clipped, records and pairs take what follows from
the new configuration, and nothing else changes (R51, R55, R56, R232). -/
theorem cycleConfigEffect_effect {d : Dev} (hc : d.cyc.changed = true) (hs : d.cyc.slot = 0) :
    ∃ m v c e, cycleConfigEffect d = { d with
      cyc := { d.cyc with changed := false, windowOn := min d.cyc.windowOn (d.cyc.conf.period / 2) }
      cfg := { d.cfg with cyc := { d.cfg.cyc with tickWindow := min d.cfg.cyc.tickWindow (d.cyc.conf.period / 2) } }
      sram := m, memory := v, dec := c, ev := e } := by
  rw [cycleConfigEffect, if_neg (by simp [hc, hs])]
  obtain ⟨e, hclip⟩ := Dev.clipWindow_eq { d with cyc := { d.cyc with changed := false } } d.cyc.conf.period
  dsimp only
  rw [hclip]
  exact Dev.deriveDelays_pairTick_eq _

/-- Settles O13, by one equation of each command's meaning per case. -/
theorem cycleConfiguration : Obligations.CycleConfiguration := by
  intro v s
  refine ⟨?_, fun hv => ?_, fun hn => ?_, fun hn hbad => ?_, fun hn hgood hrows => ?_, fun hc hs => ?_, fun h => ?_⟩
  · refine ⟨_, gives_of_upd tickWindowOpen rfl (tickWindowOpen_eq s.dev), rfl, rfl, rfl, fun ht => ?_⟩
    exact Dev.now_advanceTo (lt_of_le_of_lt (Nat.sub_le _ _) ht)
  · exact answers_of_ask (cycleApply v.toNat) rfl (cycleApply_not_one fun h => hv (BitVec.eq_of_toNat_eq h))
  · exact answers_of_ask (cycleApply 1) rfl (cycleApply_busy hn)
  · refine answers_of_ask (cycleApply 1) rfl ((cycleApply_idle hn).trans (if_pos (hbad.imp_right ?_)))
    rintro ⟨r, hr, hle⟩
    exact List.any_eq_true.2 ⟨r, hr, decide_eq_true hle⟩
  · refine answers_of_ask (cycleApply 1) rfl ((cycleApply_idle hn).trans (if_neg ?_))
    simp only [hgood, List.any_eq_true, decide_eq_true_eq, Bool.true_eq_false, false_or, not_exists, not_and, not_le]
    exact hrows
  · obtain ⟨m, w, c, e, heff⟩ := cycleConfigEffect_effect hc hs
    exact ⟨_, gives_of_upd cycleConfigEffect rfl heff, rfl, rfl, rfl, rfl, rfl, rfl⟩
  · exact gives_of_upd cycleConfigEffect rfl (if_pos h)

end Sys2Proof.Machine
end

section
/-! HELLO and the lanes it brings up and lets go down (R254, R261, R265, R267, R274, R276). -/

namespace Sys2Proof.Machine

theorem Lane.receives_iff (x : Lane) : x.receives = true ↔ x.state = .down ∨ x.state = .locked ∨ x.state = .up := by
  simp [Lane.receives, or_assoc]

theorem Lane.receives_eq_false_iff (x : Lane) :
    x.receives = false ↔ x.state = .disabled ∨ x.state = .stopping ∨ x.state = .restartPending := by
  cases h : x.state <;> simp [Lane.receives, h]

/-! ## Sending HELLO -/

theorem helloPayload_length (d : Dev) (l : Nat) : (d.helloPayload l).length = 24 := by
  simp [Dev.helloPayload, be]

/-- A HELLO frame is class 2, type 0, address 0 (R258, R261). -/
theorem hello_header (d : Dev) (p : List Byte) :
    (d.ownFrame 2 0 0 p).cls = 2 ∧ (d.ownFrame 2 0 0 p).typ = 0 ∧ (d.ownFrame 2 0 0 p).dest = 0 := by
  simp [Frame.cls, Frame.typ, Frame.dest, Dev.ownFrame, mkFrame, field, be, ofBe]

theorem Dev.letIn_of_hasRoom {d : Dev} {l : Nat} {f : Frame} (cut : Bool) (h : d.hasRoom l f.cls f) :
    d.letIn l f false cut = d.enqueue l f cut := by
  rw [Dev.letIn, if_neg (by simp), if_neg (not_lt.2 h)]

theorem Dev.enqueue_nextSeq_eq (d : Dev) (l : Nat) (f : Frame) (cut : Bool) :
    ∃ n, (d.enqueue l f cut).nextSeq = { d with net := n } := ⟨_, rfl⟩

/-- A frame put in a queue and numbered is the queue's last (R258, R279). -/
theorem queued_enqueue (d : Dev) (l : Nat) (f : Frame) : Queued d (d.enqueue l f false).nextSeq l f.cls f := by
  refine ⟨?_, rfl⟩
  have hlane : (d.enqueue l f false).nextSeq.lane l = (d.enqueue l f false).lane l := rfl
  rw [hlane, Dev.enqueue, Dev.lane_setLane, if_pos rfl]
  exact tget_tset_same ..

/-- An enabled lane carries HELLO, which is within any lane's MTU. -/
theorem helloSend_of_hasRoom {d : Dev} {l : Nat} (hl : (d.lane l).receives = true)
    (hroom : d.hasRoom l 2 (d.ownFrame 2 0 0 (d.helloPayload l))) :
    helloSend l d = (d.enqueue l (d.ownFrame 2 0 0 (d.helloPayload l)) false).nextSeq := by
  obtain ⟨hcls, htyp, hdest⟩ := hello_header d (d.helloPayload l)
  have hsend : helloSend l d = d.sendLocal l 2 0 0 false (d.helloPayload l) := by
    unfold helloSend
    rcases (Lane.receives_iff _).1 hl with h | h | h <;> rw [h]
  have htravel : d.mayTravel l (d.ownFrame 2 0 0 (d.helloPayload l)) = true := by
    simp [Dev.mayTravel, hl, htyp, hdest]
  have hsize : (d.ownFrame 2 0 0 (d.helloPayload l)).size = 64 := by
    simp [Frame.size, Dev.ownFrame, mkFrame, helloPayload_length]
  have hmtu : (d.ownFrame 2 0 0 (d.helloPayload l)).size ≤ d.mtu l := by
    rw [hsize, Dev.mtu]
    split <;> decide
  rw [hsend, Dev.sendLocal]
  change (if (_ && _) = true then ((d.letIn l (d.ownFrame 2 0 0 (d.helloPayload l)) false).nextSeq) else d) = _
  rw [if_pos (by rw [Bool.and_eq_true, decide_eq_true_eq]; exact ⟨htravel, hmtu⟩),
    Dev.letIn_of_hasRoom false (hcls.symm ▸ hroom)]

theorem helloSend_disabled {d : Dev} {l : Nat} (hl : (d.lane l).receives = false) : helloSend l d = d := by
  unfold helloSend
  rcases (Lane.receives_eq_false_iff _).1 hl with h | h | h <;> rw [h]

/-! ## Going down -/

/-- A lane that goes down (R261, R274): nothing queued, in transmission or heard. -/
def Lane.fallen (x : Lane) (lock : Bool) : Lane := { x with
  state := .down, lock := lock, queues := [], sending := none, cut := false, heard := false, helloRun := 0
  counters := tset 0 x.counters 7 (tget 0 x.counters 7 + BitVec.ofNat 64 (x.queues.map (fun q => q.2.length)).sum) }

theorem Dev.mateLinksJudge_net (d : Dev) : d.mateLinksJudge.net = d.net := by
  unfold Dev.mateLinksJudge
  split
  · rfl
  · split
    · rfl
    · dsimp only
      split <;> simp only [Dev.raise_net]

theorem Dev.lane_flushLane (d : Dev) (l : Nat) : (d.flushLane l).lane l = { d.lane l with
    queues := []
    counters := tset 0 (d.lane l).counters 7
      (tget 0 (d.lane l).counters 7 + BitVec.ofNat 64 ((d.lane l).queues.map (fun q => q.2.length)).sum) } := by
  simp only [Dev.flushLane, Dev.countLane, Dev.lane_setLane, if_true]

/-- The first part of a lane's way down: its own record, and nothing else of the device. -/
theorem Dev.flushLane_setLane_eq (d : Dev) (l : Nat) (x : Lane) :
    ∃ t, (d.flushLane l).setLane l x = { d with net := { d.net with lanes := t } } ∧ tget {} t l = x :=
  ⟨_, rfl, tget_tset_same ..⟩

/-- A lane that goes down: its own record, LINK_DOWN where it was UP, and what the mate links make of it. -/
theorem Dev.laneDown_stages (d : Dev) (l : Nat) (lock : Bool) : ∃ t, tget {} t l = (d.lane l).fallen lock
    ∧ d.laneDown l lock = (fun x : Dev => if (d.lane l).state = .up ∧ (l = 2 ∨ l = 3) then x.mateLinksJudge else x)
      (Dev.raiseIf { d with net := { d.net with lanes := t } } ((d.lane l).state = .up) .linkDown [l]) := by
  obtain ⟨t, hset, hlane⟩ := d.flushLane_setLane_eq l ((d.lane l).fallen lock)
  refine ⟨t, hlane, ?_⟩
  rw [← hset, Dev.laneDown, Dev.lane_flushLane]
  rfl

theorem Dev.lane_laneDown (d : Dev) (l : Nat) (lock : Bool) : (d.laneDown l lock).lane l = (d.lane l).fallen lock := by
  obtain ⟨t, hlane, hdown⟩ := d.laneDown_stages l lock
  rw [hdown, ← hlane]
  dsimp only
  split
  · rw [Dev.lane, Dev.mateLinksJudge_net, Dev.raiseIf_net]
  · rw [Dev.lane, Dev.raiseIf_net]

/-- On a lane that is no mate lane only the lanes and the Event Unit change. -/
theorem Dev.laneDown_eq (d : Dev) {l : Nat} (lock : Bool) (h2 : l ≠ 2) (h3 : l ≠ 3) : ∃ t, d.laneDown l lock = { d with
    net := { d.net with lanes := t }, ev := (d.raiseIf ((d.lane l).state = .up) .linkDown [l]).ev } := by
  obtain ⟨t, -, hdown⟩ := d.laneDown_stages l lock
  refine ⟨t, ?_⟩
  rw [hdown]
  dsimp only
  rw [if_neg (by omega)]
  exact Dev.raiseIf_eq_of _ _ _ rfl rfl rfl rfl

/-- Counting codewords changes no more of a lane than its FEC counters, and nothing else of the device (R276). -/
theorem Dev.countFec_eq (d : Dev) (l : Nat) (w : FecSeen) :
    ∃ t, d.countFec l w = { d with net := { d.net with lanes := t } } := by
  unfold Dev.countFec
  split
  · exact ⟨_, rfl⟩
  · exact ⟨_, rfl⟩

theorem Dev.lane_countFec (d : Dev) (l : Nat) (w : FecSeen) :
    (d.countFec l w).lane l = { d.lane l with fec := ((d.countFec l w).lane l).fec } := by
  unfold Dev.countFec
  split
  · rfl
  · dsimp only
    rw [Dev.lane_setLane, if_pos rfl]

theorem Dev.lockLoss_eq (d : Dev) {l : Nat} (fec : FecSeen) (h2 : l ≠ 2) (h3 : l ≠ 3) :
    ∃ t, (d.countFec l fec).laneDown l false = { d with
      net := { d.net with lanes := t }, ev := (d.raiseIf ((d.lane l).state = .up) .linkDown [l]).ev } := by
  obtain ⟨t, hdown⟩ := (d.countFec l fec).laneDown_eq false h2 h3
  obtain ⟨u, hcount⟩ := d.countFec_eq l fec
  have hstate : ((d.countFec l fec).lane l).state = (d.lane l).state := by rw [Dev.lane_countFec]
  have hev : ((d.countFec l fec).raiseIf ((d.lane l).state = .up) .linkDown [l]).ev
      = (d.raiseIf ((d.lane l).state = .up) .linkDown [l]).ev := by
    rw [hcount]
    exact Dev.raiseIf_ev_congr _ _ _ rfl rfl rfl rfl
  rw [hdown, hstate, hev, hcount]
  exact ⟨t, rfl⟩

theorem helloTimeout_silent {d : Dev} {l : Nat} (hs : d.silent l = true)
    (hl : (d.lane l).state = .locked ∨ (d.lane l).state = .up) : helloTimeout l d = d.laneDown l (d.lane l).lock := by
  rw [helloTimeout, if_neg (by simp [hs])]
  rcases hl with h | h <;> rw [h]

theorem helloTimeout_heard {d : Dev} {l : Nat}
    (h : d.silent l = false ∨ ((d.lane l).state ≠ .locked ∧ (d.lane l).state ≠ .up)) : helloTimeout l d = d := by
  unfold helloTimeout
  rcases h with h | ⟨hlocked, hup⟩
  · rw [if_pos (by simp [h])]
  · split
    · rfl
    · split
      · rename_i h
        exact absurd h hlocked
      · rename_i h
        exact absurd h hup
      · rfl

theorem linkLockLoss_receives {d : Dev} {l : Nat} (fec : FecSeen) (hl : (d.lane l).receives = true) :
    linkLockLoss l fec d = (d.countFec l fec).laneDown l false := by
  unfold linkLockLoss
  rcases (Lane.receives_iff _).1 hl with h | h | h <;> rw [h]

theorem linkLockLoss_disabled {d : Dev} {l : Nat} (fec : FecSeen) (hl : (d.lane l).receives = false) :
    linkLockLoss l fec d = d := by
  unfold linkLockLoss
  rcases (Lane.receives_eq_false_iff _).1 hl with h | h | h <;> rw [h]

/-! ## Receiving HELLO -/

/-- What HELLO and the PCS make of a lane (R261): PEER, whether it was heard, its run and period, block lock and state. -/
def Lane.link (x : Lane) : List Byte × Bool × Nat × Nat × Bool × LaneState :=
  (x.peer, x.heard, x.helloRun, x.helloPeriod, x.lock, x.state)

theorem Dev.link_setLane {d : Dev} {l : Nat} {x : Lane} (h : x.link = (d.lane l).link) (k : Nat) :
    ((d.setLane l x).lane k).link = (d.lane k).link := by
  rw [Dev.lane_setLane]
  split
  · rename_i hk
    rw [h, hk]
  · rfl

theorem Dev.link_countLane (d : Dev) (l i n k : Nat) : ((d.countLane l i n).lane k).link = (d.lane k).link :=
  Dev.link_setLane (by rfl) k

theorem Dev.link_keepFit (d : Dev) (l k : Nat) : ((d.keepFit l).lane k).link = (d.lane k).link := by
  unfold Dev.keepFit
  dsimp only
  split
  · rfl
  · rw [Dev.link_countLane]
    exact Dev.link_setLane (by rfl) k

theorem Dev.link_letIn (d : Dev) (l : Nat) (f : Frame) (yellow cut : Bool) (k : Nat) :
    ((d.letIn l f yellow cut).lane k).link = (d.lane k).link := by
  unfold Dev.letIn
  dsimp only
  split
  · rfl
  · split
    · rfl
    · exact Dev.link_setLane (by rfl) k

theorem Dev.link_sendLocal (d : Dev) (l cls typ dest : Nat) (poison : Bool) (p : List Byte) (k : Nat) :
    ((d.sendLocal l cls typ dest poison p).lane k).link = (d.lane k).link := by
  unfold Dev.sendLocal
  dsimp only
  split
  · exact Dev.link_letIn ..
  · rfl

theorem Dev.lane_raiseIf (d : Dev) (b : Bool) (e : EventName) (a : List Nat) (k : Nat) :
    (d.raiseIf b e a).lane k = d.lane k := by
  rw [Dev.lane, Dev.raiseIf_net, Dev.lane]

theorem Dev.lane_mateLinksJudge (d : Dev) (k : Nat) : d.mateLinksJudge.lane k = d.lane k := by
  rw [Dev.lane, Dev.mateLinksJudge_net, Dev.lane]

theorem Dev.link_ite {c : Prop} [Decidable c] {x y d : Dev} {k : Nat} (hx : (x.lane k).link = (d.lane k).link)
    (hy : (y.lane k).link = (d.lane k).link) : ((if c then x else y).lane k).link = (d.lane k).link := by
  split
  · exact hx
  · exact hy

theorem Dev.link_offerSpare (d : Dev) (l k : Nat) : ((d.offerSpare l).lane k).link = (d.lane k).link := by
  unfold Dev.offerSpare
  dsimp only
  generalize (if d.net.enumState = .assigning then d.net.blockHigh - d.cfg.net.spareAddresses else d.net.blockHigh) = top
  generalize (d.net.children.any fun c => c.lane ≠ l && c.waits) = busy
  split
  · rw [Dev.lane, Dev.raise_net]
    rfl
  · cases busy with
    | true => rfl
    | false =>
      rw [if_neg (by decide), Dev.sendEnum, Dev.link_sendLocal]
      rfl

theorem Dev.link_mateHello (d : Dev) (l k : Nat) : ((d.mateHello l).lane k).link = (d.lane k).link := by
  unfold Dev.mateHello
  dsimp only
  split
  · rw [Dev.link_keepFit, Dev.link_keepFit, Dev.link_setLane, Dev.link_setLane, Dev.lane_raiseIf]
    · rfl
    · rfl
  · exact Dev.link_setLane (by rfl) k

theorem Dev.lanes_childInstall (d : Dev) (l : Nat) : (d.childInstall l).net.lanes = d.net.lanes := by
  unfold Dev.childInstall
  split
  · rfl
  · refine each_keeps (fun x : Dev => x.net.lanes = d.net.lanes) _ _ _ (fun r x hx => ?_) rfl
    rw [← hx]
    unfold Dev.installB Dev.addRoute
    split
    · rfl
    · split <;> rfl

theorem lanes_each_childInstall (ls : List Nat) (d : Dev) :
    (each ls (fun k d => d.childInstall k) d).net.lanes = d.net.lanes :=
  each_keeps (fun x : Dev => x.net.lanes = d.net.lanes) ls _ d (fun j x hx => (Dev.lanes_childInstall x j).trans hx) rfl

theorem Dev.lane_planeBEntries (d : Dev) (l k : Nat) : (d.planeBEntries l).lane k = d.lane k := by
  have h : (d.planeBEntries l).net.lanes = d.net.lanes := by
    unfold Dev.planeBEntries
    dsimp only
    rw [lanes_each_childInstall, Dev.raiseIf_net, Dev.lanes_childInstall]
    rfl
  rw [Dev.lane, h, Dev.lane]

/-- A lane's record after a HELLO in the given period (R261). -/
def Lane.afterHello (x : Lane) (period now : Nat) (payload : List Byte) : Lane := { x with
  helloRun := Machine.helloRun x period, helloPeriod := period, helloAt := now
  peer := (fit 24 payload).take 18 ++ List.replicate 6 0, heard := true
  state := if x.lock && (x.state = .up || 3 ≤ Machine.helloRun x period) then .up else x.state }

/-- What follows from a HELLO once the lane's record and LINK_UP stand: the mate links (R271, R354), the plane-B entries (R265)
and a child that comes up late (R267); x is the lane's record before, up whether it is UP now. -/
def Dev.helloFollows (d : Dev) (l : Nat) (x : Lane) (up wasB : Bool) (p : List Byte) : Dev :=
  let d := if l = 2 ∨ l = 3 then d.mateHello l else d
  let d := if (up ∧ x.state ≠ .up) ∧ (l = 2 ∨ l = 3) then d.mateLinksJudge else d
  let d := if (wasB ∨ d.laneDuty l = 4) ∧ (x.peer ≠ p ∨ (up ∧ x.state ≠ .up)) then d.planeBEntries l else d
  if up && x.state ≠ .up && d.lateChild l then d.offerSpare l else d

/-- The lane comes UP with a HELLO of the given period. -/
def Lane.isUpAfter (x : Lane) (period : Nat) : Bool := x.lock && (x.state = .up || 3 ≤ Machine.helloRun x period)

theorem helloReceive_receives {d y : Dev} {l : Nat} (payload : List Byte) (hl : (d.lane l).receives = true) {period : Nat}
    (hp : period = d.time.up / (d.cfg.net.helloPeriod * 1000)) (hy : y = (((d.take l 0).setLane l
      ((d.lane l).afterHello period d.time.up payload)).keepFit l)) :
    helloReceive l payload d
      = (y.raiseIf ((d.lane l).isUpAfter period && (d.lane l).state ≠ .up) .linkUp [l]).helloFollows l (d.lane l)
        ((d.lane l).isUpAfter period) ((d.take l 0).laneDuty l = 4) ((fit 24 payload).take 18 ++ List.replicate 6 0) := by
  subst hp hy
  have hlane : (d.take l 0).lane l = d.lane l := rfl
  have hoff : ∀ st, st = .disabled ∨ st = .stopping ∨ st = .restartPending → (d.lane l).state ≠ st := by
    rintro st hst rfl
    rw [(Lane.receives_eq_false_iff _).2 hst] at hl
    contradiction
  unfold helloReceive
  dsimp only
  rw [hlane]
  split
  · rename_i h
    exact absurd h (hoff _ (.inl rfl))
  · rename_i h
    exact absurd h (hoff _ (.inr (.inl rfl)))
  · rename_i h
    exact absurd h (hoff _ (.inr (.inr rfl)))
  · rfl
  · rfl
  · rfl

theorem Dev.link_helloFollows (d : Dev) (l : Nat) (x : Lane) (up wasB : Bool) (p : List Byte) (k : Nat) :
    ((d.helloFollows l x up wasB p).lane k).link = (d.lane k).link := by
  unfold Dev.helloFollows
  extract_lets d1 d2 d3
  have h1 : (d1.lane k).link = (d.lane k).link := Dev.link_ite (Dev.link_mateHello ..) rfl
  have h2 : (d2.lane k).link = (d1.lane k).link := Dev.link_ite (congrArg Lane.link (Dev.lane_mateLinksJudge ..)) rfl
  have h3 : (d3.lane k).link = (d2.lane k).link := Dev.link_ite (congrArg Lane.link (Dev.lane_planeBEntries ..)) rfl
  exact Dev.link_ite ((Dev.link_offerSpare ..).trans (h3.trans (h2.trans h1))) (h3.trans (h2.trans h1))

/-- An uplink serves no child (R255). -/
theorem Dev.laneDuty_uplink (d : Dev) {l : Nat} (h : l < 2) : d.laneDuty l ≠ 3 ∧ d.laneDuty l ≠ 4 := by
  unfold Dev.laneDuty
  dsimp only
  split
  · decide
  · omega

theorem Dev.helloFollows_uplink (d : Dev) {l : Nat} (x : Lane) (up : Bool) (p : List Byte) (h : l < 2) :
    d.helloFollows l x up false p = d := by
  obtain ⟨h3, h4⟩ := d.laneDuty_uplink h
  have hmate : ¬(l = 2 ∨ l = 3) := by omega
  simp [Dev.helloFollows, Dev.lateChild, hmate, h3, h4]

theorem Dev.keepFit_eq (d : Dev) (l : Nat) : ∃ t, d.keepFit l = { d with net := { d.net with lanes := t } } := by
  unfold Dev.keepFit
  dsimp only
  split
  · exact ⟨_, rfl⟩
  · exact ⟨_, rfl⟩

/-- A HELLO taken, and what its lane does not carry any more discarded: the network alone changes, and not the own address. -/
theorem hello_taken_eq (d : Dev) (l : Nat) (x : Lane) : ∃ n, ((d.take l 0).setLane l x).keepFit l = { d with net := n }
    ∧ n.address = d.net.address := by
  obtain ⟨t, h⟩ := ((d.take l 0).setLane l x).keepFit_eq l
  exact ⟨_, h, rfl⟩

theorem link_helloReceive {d : Dev} {l : Nat} (payload : List Byte) (hl : (d.lane l).receives = true) {period : Nat}
    (hp : period = d.time.up / (d.cfg.net.helloPeriod * 1000)) :
    ((helloReceive l payload d).lane l).link = ((d.lane l).afterHello period d.time.up payload).link := by
  rw [helloReceive_receives payload hl hp rfl, Dev.link_helloFollows, Dev.lane_raiseIf, Dev.link_keepFit, Dev.lane_setLane,
    if_pos rfl]

/-- On an uplink HELLO changes the network, and raises LINK_UP where the lane comes UP. -/
theorem helloReceive_uplink {d : Dev} {l : Nat} (payload : List Byte) (hl : (d.lane l).receives = true) {period : Nat}
    (hp : period = d.time.up / (d.cfg.net.helloPeriod * 1000)) (h2 : l < 2) :
    ∃ n, helloReceive l payload d = { d with
      net := n
      ev := (d.raiseIf ((d.lane l).lock && (d.lane l).state ≠ .up && 3 ≤ helloRun (d.lane l) period) .linkUp [l]).ev } := by
  obtain ⟨n, hy, haddr⟩ := hello_taken_eq d l ((d.lane l).afterHello period d.time.up payload)
  have hup : ((d.lane l).isUpAfter period && decide ((d.lane l).state ≠ .up))
      = ((d.lane l).lock && (d.lane l).state ≠ .up && 3 ≤ helloRun (d.lane l) period) := by
    unfold Lane.isUpAfter
    by_cases h : (d.lane l).state = .up <;> simp [h]
  have hduty : decide ((d.take l 0).laneDuty l = 4) = false := decide_eq_false (Dev.laneDuty_uplink _ h2).2
  rw [helloReceive_receives payload hl hp rfl, hduty, Dev.helloFollows_uplink _ _ _ _ h2, hy, hup]
  exact ⟨n, Dev.raiseIf_eq_of _ _ _ rfl rfl rfl haddr⟩

/-- Settles O33, from what each command leaves of its lane and of the rest. -/
theorem helloAndLinks : Obligations.HelloAndLinks := by
  intro l payload fec s
  refine ⟨?disabled, ?send, ?receive, ?timeout, ?heard, ?lockLoss⟩
  case disabled =>
    intro hl
    exact ⟨gives_of_upd (helloSend l) rfl (helloSend_disabled hl),
      gives_of_upd (linkLockLoss l fec) rfl (linkLockLoss_disabled fec hl)⟩
  case send =>
    intro hl hroom
    refine ⟨_, gives_of_upd (helloSend l) rfl (helloSend_of_hasRoom hl hroom), ?_, ?_⟩
    · have hq := queued_enqueue s.dev l (s.dev.ownFrame 2 0 0 (s.dev.helloPayload l))
      rwa [(hello_header s.dev _).1] at hq
    · obtain ⟨n, h⟩ := s.dev.enqueue_nextSeq_eq l (s.dev.ownFrame 2 0 0 (s.dev.helloPayload l)) false
      rw [h]
  case receive =>
    intro now run hnow hrun
    refine ⟨fun h => ?_, fun h h' => ?_, fun h h' => ?_, fun hl => ?_⟩
    · rw [hrun, helloRun, if_pos h]
    · rw [hrun, helloRun, if_neg (by omega), if_neg (by omega), if_pos h']
    · rw [hrun, helloRun, if_neg (by omega), if_pos h']
    · refine ⟨_, gives_of_upd (helloReceive l payload) rfl rfl, ?_⟩
      have hlink := link_helloReceive payload hl hnow
      simp only [Lane.link, Lane.afterHello, Prod.mk.injEq] at hlink
      obtain ⟨hpeer, hheard, hrun', hperiod, hlock, hstate⟩ := hlink
      refine ⟨hpeer, hheard, hrun'.trans hrun.symm, hperiod, hlock, ?_, helloReceive_cyc l payload s.dev, fun h2 => ?_⟩
      · rw [hstate, hrun]
        simp only [Bool.and_eq_true, Bool.or_eq_true, decide_eq_true_eq]
      · obtain ⟨n, h⟩ := helloReceive_uplink payload hl hnow h2
        rw [h, hrun]
        exact ⟨rfl, rfl⟩
  case timeout =>
    intro hs hl
    refine ⟨_, gives_of_upd (helloTimeout l) rfl (helloTimeout_silent (decide_eq_true hs) hl), ?_⟩
    simp only [Dev.lane_laneDown]
    refine ⟨rfl, tget_tset_same .., fun h2 h3 => ?_⟩
    obtain ⟨t, h⟩ := s.dev.laneDown_eq (s.dev.lane l).lock h2 h3
    rw [h]
  case heard =>
    intro h
    refine gives_of_upd (helloTimeout l) rfl (helloTimeout_heard (h.imp_left fun hlt => ?_))
    exact decide_eq_false (not_le.2 hlt)
  case lockLoss =>
    intro hl
    refine ⟨_, gives_of_upd (linkLockLoss l fec) rfl (linkLockLoss_receives fec hl), ?_⟩
    have hfec := s.dev.lane_countFec l fec
    simp only [Dev.lane_laneDown]
    refine ⟨rfl, ?_, fun h2 h3 => ?_⟩
    · rw [hfec]
      exact tget_tset_same ..
    · obtain ⟨t, h⟩ := s.dev.lockLoss_eq fec h2 h3
      rw [h]

end Sys2Proof.Machine
end

section
/-! INSERT, DELETE, SEARCH and NEXT on the Label Table (R242 to R249). -/

namespace Sys2Proof.Machine

/-! ## Entries (R241, R242) -/

theorem LabelEntry.word_lt (e : LabelEntry) : e.word < 2 ^ 64 := by
  have hbit : ∀ b : Bool, ofBool b ≤ 1 := by decide
  have hv := hbit e.valid
  have hs := hbit e.static
  have hst := hbit e.stale
  have hh := hbit e.hit
  unfold LabelEntry.word
  omega

/-- A label entry written reads back, and no byte outside its word changes (R241, R376). -/
theorem Dev.putLabel_memory (d : Dev) (p : Nat) (e : LabelEntry) :
    (d.putLabel p e).sram.word (labelAddr p) = e.word
      ∧ ∀ a, a < labelAddr p ∨ labelAddr p + 8 ≤ a → (d.putLabel p e).sram.byte a = d.sram.byte a := by
  have ha : labelAddr p % 8 = 0 := by
    unfold labelAddr
    omega
  exact ⟨Mem.word_putWord d.sram ha e.word_lt, fun a h => putBytes8_byte_other d.sram _ _ ha h⟩

/-! ## What each command makes of the table (R246) -/

section
variable {d : Dev} {c : LabelCmd}

theorem runInsert_invalid (h : d.fab.image = [] ∨ d.mapPorts ≤ c.port.toNat) : d.runInsert c = (outInvalid, d) :=
  if_pos h

theorem runDelete_invalid (h : d.fab.image = []) : d.runDelete c = (outInvalid, d) := if_pos h
theorem runSearch_invalid (h : d.fab.image = []) : d.runSearch c = (outInvalid, d) := if_pos h
theorem runNext_invalid (h : d.fab.image = []) : d.runNext c = (outInvalid, d) := if_pos h

variable (himg : d.fab.image ≠ [])
include himg

theorem runInsert_poisoned (hport : c.port.toNat < d.mapPorts) (hp : d.lookupPoison c.key.toNat = true) :
    d.runInsert c = (outPoisoned, d) := by
  rw [Dev.runInsert, if_neg (not_or.2 ⟨himg, not_le.2 hport⟩), if_pos hp]

theorem runDelete_poisoned (hp : d.lookupPoison c.key.toNat = true) : d.runDelete c = (outPoisoned, d) := by
  rw [Dev.runDelete, if_neg himg, if_pos hp]

theorem runSearch_poisoned (hp : d.lookupPoison c.key.toNat = true) : d.runSearch c = (outPoisoned, d) := by
  rw [Dev.runSearch, if_neg himg, if_pos hp]

theorem runNext_found {got : List Nat} (hgot : got = (d.labelsRising.filter (fun p => c.cursor.toNat ≤ p)).take c.count.toNat)
    {p : Nat} (hlast : got.getLast? = some p) : d.runNext c =
      ({ resp := .ok, result := 0, count := got.length, cursor := if p + 1 < 8704 then p + 1 else 0xFFFF
         words := got.map (fun q => (d.labelEntry q).word) }, d) := by
  rw [Dev.runNext, if_neg himg]
  dsimp only
  rw [← hgot, hlast]

theorem runNext_beyond {got : List Nat} (hgot : got = (d.labelsRising.filter (fun p => c.cursor.toNat ≤ p)).take c.count.toNat)
    (hnil : got = []) : d.runNext c = (outNoent, d) := by
  rw [Dev.runNext, if_neg himg]
  dsimp only
  rw [← hgot, hnil]
  rfl

variable (hp : d.lookupPoison c.key.toNat = false)
include hp

theorem runDelete_absent (hf : d.findLabel c.key.toNat = none) : d.runDelete c = (outNoent, d) := by
  rw [Dev.runDelete, if_neg himg, if_neg (by simp [hp]), hf]

theorem runDelete_found {p : Nat} (hf : d.findLabel c.key.toNat = some p) : d.runDelete c = (outOk, d.putLabel p {}) := by
  rw [Dev.runDelete, if_neg himg, if_neg (by simp [hp]), hf]
  rfl

theorem runSearch_absent (hf : d.findLabel c.key.toNat = none) : d.runSearch c = (outNoent, d) := by
  rw [Dev.runSearch, if_neg himg, if_neg (by simp [hp]), hf]

theorem runSearch_found {p : Nat} (hf : d.findLabel c.key.toNat = some p) : d.runSearch c =
    ({ resp := if (d.labelEntry p).stale then .stale else .ok, result := if (d.labelEntry p).stale then 1 else 0
       count := 1, words := [(d.labelEntry p).word] }, d) := by
  rw [Dev.runSearch, if_neg himg, if_neg (by simp [hp]), hf]

variable (hport : c.port.toNat < d.mapPorts)
include hport

theorem runInsert_full (hf : d.findLabel c.key.toNat = none) (hfree : d.freeLabel c.key.toNat = none) :
    d.runInsert c = ({ resp := .conflict, result := 4 }, d) := by
  rw [Dev.runInsert, if_neg (not_or.2 ⟨himg, not_le.2 hport⟩), if_neg (by simp [hp]), hf, hfree]

theorem runInsert_new {p : Nat} (hf : d.findLabel c.key.toNat = none) (hfree : d.freeLabel c.key.toNat = some p) :
    d.runInsert c = (outOk, d.putLabel p { key := c.key.toNat, port := c.port.toNat, valid := true, hit := true,
                                           static := c.flags.getLsbD 0 }) := by
  rw [Dev.runInsert, if_neg (not_or.2 ⟨himg, not_le.2 hport⟩), if_neg (by simp [hp]), hf, hfree]

/-- INSERT of a key the table holds at position p (R246). -/
theorem runInsert_present {p : Nat} (hf : d.findLabel c.key.toNat = some p) : d.runInsert c =
    if (d.labelEntry p).port = c.port.toNat then
      (outOk, d.putLabel p { d.labelEntry p with hit := true, stale := false, static := c.flags.getLsbD 0 })
    else if c.flags.getLsbD 1 then
      (outOk, d.putLabel p { d.labelEntry p with hit := true, stale := false, port := c.port.toNat })
    else ({ resp := .existsOtherPort, result := 3, port := (d.labelEntry p).port }, d) := by
  rw [Dev.runInsert, if_neg (not_or.2 ⟨himg, not_le.2 hport⟩), if_neg (by simp [hp]), hf]
  rfl

end

/-! ## A command's acceptance and its end (R244, R245, R247, R249) -/

theorem labelCmdOk_opcode {c : LabelCmd} {k : Nat} (h : labelCmdOk c [k] = true) : c.opcode.toNat = k := by
  simp only [labelCmdOk, Bool.and_eq_true, List.contains_iff_mem, List.mem_singleton] at h
  exact h.1

theorem labelCommand_refused {d : Dev} {c : LabelCmd} {ops : List Nat} (h : labelCmdOk c ops = false) :
    d.labelCommand c ops = d.reply .invalid := by
  rw [Dev.labelCommand, Dev.submitLabel, if_pos (by rw [h]; rfl)]

theorem labelCommand_busy {d : Dev} {c : LabelCmd} {ops : List Nat} (h : labelCmdOk c ops = true) (hb : 32 ≤ d.commandsPending) :
    d.labelCommand c ops = d.reply .busy := by
  rw [Dev.labelCommand, Dev.submitLabel, if_neg (by rw [h]; decide), if_pos hb]

/-- The device with a command queued last under the next number, its answer to come. -/
def Dev.labelQueued (d : Dev) (c : LabelCmd) : Dev := { d with lab := { d.lab with
  nextId := d.lab.nextId + 1, queue := d.lab.queue ++ [(c, .host d.lab.nextId)] } }

/-- A command accepted is queued, and the table takes its step where its turn has come. -/
theorem labelCommand_accepted {d : Dev} {c : LabelCmd} {ops : List Nat} (h : labelCmdOk c ops = true)
    (hb : d.commandsPending < 32) :
    d.labelCommand c ops = if d.sightingsDue then d.labelQueued c else (d.labelQueued c).labelStep := by
  rw [Dev.labelCommand, Dev.submitLabel, if_neg (by rw [h]; decide), if_neg (not_le.2 hb)]
  rfl

theorem labelCommand_queued {d : Dev} {c : LabelCmd} {ops : List Nat} (h : labelCmdOk c ops = true)
    (hb : d.commandsPending < 32) (hbusy : d.sightingsDue = true ∨ d.lab.busy = true) :
    d.labelCommand c ops = d.labelQueued c := by
  rw [labelCommand_accepted h hb]
  split
  · rfl
  · rename_i hs
    exact if_pos (hbusy.resolve_left hs)

/-- The table and the answers are idle: a command executes at once, and its answer is its own. -/
structure Dev.LabelIdle (d : Dev) : Prop where
  queue : d.lab.queue = []
  flush : d.lab.flush = none
  busy : d.lab.busy = false
  sightings : d.sightingsDue = false
  outstanding : d.req.outstanding = []

/-- The device whose table has taken its command of the cycle. -/
def Dev.labelTaken (d : Dev) : Dev := { d with lab := { d.lab with
  nextId := d.lab.nextId + 1, queue := [], busy := true } }

/-- A command's run by its opcode (R245). -/
def Dev.runLabel (d : Dev) (c : LabelCmd) (k : Nat) : LabelOut × Dev :=
  if k = 1 then d.runInsert c else if k = 2 then d.runDelete c else if k = 3 then d.runSearch c else d.runNext c

/-- The command at the head of the queue executes where no flush is under way and the cycle has not had its command (R244). -/
theorem labelStep_command {d x : Dev} {c : LabelCmd} {o : CmdOrigin} {l : List (LabelCmd × CmdOrigin)} {k : Nat}
    (hb : d.lab.busy = false) (hf : d.lab.flush = none) (hq : d.lab.queue = (c, o) :: l) (hc : labelCmdOk c [k] = true)
    (hk : 1 ≤ k ∧ k ≤ 4) (hx : x = d.setLab (fun t => { t with queue := l, busy := true })) :
    d.labelStep = (x.runLabel c k).2.completeLabel c o (x.runLabel c k).1 := by
  rw [Dev.labelStep, if_neg (by simp [hb]), hf, hq]
  dsimp only
  rw [← hx, labelCmdOk_opcode hc]
  obtain ⟨h1, h4⟩ := hk
  interval_cases k <;> rfl

theorem labelCommand_idle {d : Dev} {c : LabelCmd} {k : Nat} (hi : d.LabelIdle) (hc : labelCmdOk c [k] = true)
    (hk : 1 ≤ k ∧ k ≤ 4) : d.labelCommand c [k]
      = (d.labelTaken.runLabel c k).2.completeLabel c (.host d.lab.nextId) (d.labelTaken.runLabel c k).1 := by
  have hpend : d.commandsPending = 0 := by
    rw [Dev.commandsPending, hi.queue, hi.flush]
    rfl
  have hqueue : (d.labelQueued c).lab.queue = [(c, .host d.lab.nextId)] := by
    rw [Dev.labelQueued, hi.queue]
    rfl
  rw [labelCommand_accepted hc (by omega), hi.sightings, if_neg (by decide),
    labelStep_command (d := d.labelQueued c) hi.busy hi.flush hqueue hc hk rfl]
  rfl

/-- Of the four commands INSERT and DELETE change the table for the mate (R249). -/
theorem opcode_changes {c : LabelCmd} {k : Nat} (hc : labelCmdOk c [k] = true) (hk : 1 ≤ k ∧ k ≤ 4) :
    (decide (c.opcode = 1) || decide (c.opcode = 2) || decide (c.opcode = 5)) = decide (k ≤ 2) := by
  have hop : c.opcode = BitVec.ofNat 8 k := by
    rw [← labelCmdOk_opcode hc, BitVec.ofNat_toNat, BitVec.setWidth_eq]
  obtain ⟨h1, h4⟩ := hk
  rw [hop]
  interval_cases k <;> rfl

/-- A command of the host's own ends with its record and its answer; one that changed the table on a unit that drives is put in
line for the mate. -/
theorem completeLabel_host {d : Dev} {c : LabelCmd} {id : Nat} {o : LabelOut} (hout : d.req.outstanding = []) :
    d.completeLabel c (.host id) o
      = (if (o.resp = .ok && (c.opcode = 1 || c.opcode = 2 || c.opcode = 5)) && d.driving then
          (d.putResult80 c o).setLab (fun t => { t with forward := t.forward ++ [c] })
        else d.putResult80 c o).reply o.resp := by
  unfold Dev.completeLabel
  dsimp only
  rw [if_neg]
  · rfl
  · split <;> simp [Dev.putResult80, hout]

/-- The table's change goes to the mate while this unit drives (R249). -/
def Dev.lineForMate (d : Dev) (c : LabelCmd) (driving : Bool) : Dev :=
  d.setLab (fun t => { t with forward := if driving then t.forward ++ [c] else t.forward })

section
variable {s : State} {i : Instr} {c : LabelCmd} {k : Nat} (hexec : exec i s = s.upd (fun d => d.labelCommand c [k]))
  (hi : s.dev.LabelIdle) (hc : labelCmdOk c [k] = true) (hk : 1 ≤ k ∧ k ≤ 4)
include hexec hi hc hk

/-- A command that ends otherwise than OK, or reads alone, leaves the device its run left and the record. -/
theorem answers_unchanged {x : Dev} {o : LabelOut} (hrun : s.dev.labelTaken.runLabel c k = (o, x))
    (hx : x.req.outstanding = s.dev.req.outstanding) (hno : o.resp ≠ .ok ∨ 3 ≤ k) :
    Answers i s o.resp (x.putResult80 c o) := by
  refine gives_of_upd _ hexec ?_
  rw [labelCommand_idle hi hc hk, hrun, completeLabel_host (hx.trans hi.outstanding), if_neg]
  rw [opcode_changes hc hk]
  rcases hno with h | h
  · simp [h]
  · simp [show ¬ k ≤ 2 by omega]

/-- An INSERT or DELETE answered OK is put in line for the mate on a unit that drives. -/
theorem answers_changed {x : Dev} (hrun : s.dev.labelTaken.runLabel c k = (outOk, x))
    (hx : x.req.outstanding = s.dev.req.outstanding) (hdrive : x.driving = s.dev.driving) (h2 : k ≤ 2) :
    Answers i s .ok ((x.putResult80 c outOk).lineForMate c s.dev.driving) := by
  refine gives_of_upd _ hexec ?_
  rw [labelCommand_idle hi hc hk, hrun, completeLabel_host (hx.trans hi.outstanding), hdrive]
  rw [opcode_changes hc hk, decide_eq_true h2]
  cases s.dev.driving <;> rfl

end

/-- Settles O30: a refusal or a queueing is labelCommand's own, an outcome on an idle table that of the command's run. -/
theorem labelCommands : Obligations.LabelCommands := by
  intro c s
  have hrefuse : ∀ i k, exec i s = s.upd (fun d => d.labelCommand c [k]) → labelCmdOk c [k] = false → Refuses i s .invalid :=
    fun i k hexec hc => gives_of_upd _ hexec (labelCommand_refused hc)
  have hbusy : ∀ i k, exec i s = s.upd (fun d => d.labelCommand c [k]) → labelCmdOk c [k] = true →
      32 ≤ s.dev.commandsPending → Refuses i s .busy :=
    fun i k hexec hc hb => gives_of_upd _ hexec (labelCommand_busy hc hb)
  refine ⟨hrefuse _ 1 rfl, hrefuse _ 2 rfl, hrefuse _ 3 rfl, hrefuse _ 4 rfl, hbusy _ 1 rfl, hbusy _ 2 rfl, hbusy _ 3 rfl,
    hbusy _ 4 rfl, fun hpend hwait q hq => ?_, fun hqueue hflush hfree hsight hout n hn ready hready => ?_⟩
  · have hqueued : ∀ i k, exec i s = s.upd (fun d => d.labelCommand c [k]) → labelCmdOk c [k] = true → Gives i s q :=
      fun i k hexec hc => gives_of_upd _ hexec ((labelCommand_queued hc hpend hwait).trans hq.symm)
    exact ⟨hqueued _ 1 rfl, hqueued _ 2 rfl, hqueued _ 3 rfl, hqueued _ 4 rfl⟩
  have hi : s.dev.LabelIdle := ⟨hqueue, hflush, hfree, hsight, hout⟩
  have hn' : n = s.dev.labelTaken := by rw [hn, Dev.labelTaken, ← hqueue]
  clear hn
  subst hn' hready
  refine ⟨?noMap, ?poisoned, ?noPort, ?searched, ?next⟩
  case noMap =>
    intro himg
    refine ⟨fun hc => ?_, fun hc => ?_, fun hc => ?_, fun hc => ?_⟩
    · exact answers_unchanged (k := 1) rfl hi hc (by decide) (runInsert_invalid (.inl himg)) rfl (.inl (by decide))
    · exact answers_unchanged (k := 2) rfl hi hc (by decide) (runDelete_invalid himg) rfl (.inl (by decide))
    · exact answers_unchanged (k := 3) rfl hi hc (by decide) (runSearch_invalid himg) rfl (.inl (by decide))
    · exact answers_unchanged (k := 4) rfl hi hc (by decide) (runNext_invalid himg) rfl (.inl (by decide))
  case poisoned =>
    intro himg hp
    refine ⟨fun hc hport => ?_, fun hc => ?_, fun hc => ?_⟩
    · exact answers_unchanged (k := 1) rfl hi hc (by decide) (runInsert_poisoned himg hport hp) rfl (.inl (by decide))
    · exact answers_unchanged (k := 2) rfl hi hc (by decide) (runDelete_poisoned himg hp) rfl (.inl (by decide))
    · exact answers_unchanged (k := 3) rfl hi hc (by decide) (runSearch_poisoned himg hp) rfl (.inl (by decide))
  case noPort =>
    intro _ hc hport
    exact answers_unchanged (k := 1) rfl hi hc (by decide) (runInsert_invalid (.inr hport)) rfl (.inl (by decide))
  case next =>
    intro himg hc got hgot
    refine ⟨fun p hlast => ?_, fun hnil => ?_⟩
    · exact answers_unchanged (k := 4) rfl hi hc (by decide) (runNext_found (d := s.dev.labelTaken) himg hgot hlast) rfl
        (.inr (by decide))
    · exact answers_unchanged (k := 4) rfl hi hc (by decide) (runNext_beyond himg hgot hnil) rfl (.inl (by decide))
  case searched =>
    intro himg hp
    refine ⟨fun hc hport => ⟨fun hf => ⟨fun hfull => ?_, ?_⟩, ?_⟩, fun hc => ⟨fun p hf => ?_, fun hf => ?_⟩,
      fun hc => ⟨?_, fun hf => ?_⟩⟩
    · exact answers_unchanged (k := 1) rfl hi hc (by decide) (runInsert_full himg hp hport hf hfull) rfl (.inl (by decide))
    · rintro p e hnew rfl
      exact ⟨answers_changed (k := 1) rfl hi hc (by decide)
        (runInsert_new (d := s.dev.labelTaken) himg hp hport hf hnew) rfl rfl (by decide), s.dev.putLabel_memory p _⟩
    · rintro p e hf rfl
      have hrun := runInsert_present (d := s.dev.labelTaken) himg hp hport hf
      refine ⟨fun hsame => ?_, fun hother hreplace => ?_, fun hother hkeep => ?_⟩
      · exact answers_changed (k := 1) rfl hi hc (by decide) (hrun.trans (if_pos hsame)) rfl rfl (by decide)
      · exact answers_changed (k := 1) rfl hi hc (by decide) (hrun.trans ((if_neg hother).trans (if_pos hreplace))) rfl rfl
          (by decide)
      · exact answers_unchanged (k := 1) rfl hi hc (by decide)
          (hrun.trans ((if_neg hother).trans (if_neg (by rw [hkeep]; decide)))) rfl (.inl Resp.noConfusion)
    · exact ⟨answers_changed (k := 2) rfl hi hc (by decide) (runDelete_found (d := s.dev.labelTaken) himg hp hf) rfl rfl
        (by decide), s.dev.putLabel_memory p {}⟩
    · exact answers_unchanged (k := 2) rfl hi hc (by decide) (runDelete_absent himg hp hf) rfl (.inl (by decide))
    · rintro p e hf rfl
      exact answers_unchanged (k := 3) rfl hi hc (by decide) (runSearch_found (d := s.dev.labelTaken) himg hp hf) rfl
        (.inr (by decide))
    · exact answers_unchanged (k := 3) rfl hi hc (by decide) (runSearch_absent himg hp hf) rfl (.inl (by decide))

end Sys2Proof.Machine
end

section
/-! RESET_N, the firmware slots, the boot ROM and the firmware's start (R416, R423 to R433). -/

namespace Sys2Proof.Machine

/-- FIRMWARE_START on one lane: an enabled one looks for block lock (R261). -/
def Dev.wakeLane (d : Dev) (l : Nat) : Dev :=
  if d.laneEnabled l then d.setLane l { d.lane l with state := .down } else d

theorem Dev.wakeLanes_eq_iter (d : Dev) : d.wakeLanes = iter (fun l d => d.wakeLane l) 96 0 d := rfl

theorem Dev.wakeLane_eq (d : Dev) (l : Nat) :
    d.wakeLane l = { d with net := { d.net with lanes := (d.wakeLane l).net.lanes } } := by
  unfold Dev.wakeLane
  split <;> rfl

theorem Dev.lane_wakeLane (d : Dev) (l k : Nat) :
    (d.wakeLane l).lane k = if k = l ∧ d.laneEnabled l = true then { d.lane k with state := .down } else d.lane k := by
  unfold Dev.wakeLane
  split
  · rename_i h
    rw [Dev.lane_setLane]
    by_cases hk : k = l
    · simp [hk, h]
    · simp [hk]
  · rename_i h
    simp [h]

theorem iter_wakeLane (n i : Nat) (d : Dev) :
    ∃ t, iter (fun l d => d.wakeLane l) n i d = { d with net := { d.net with lanes := t } }
      ∧ ∀ k, tget {} t k
        = if (i ≤ k ∧ k < i + n) ∧ d.laneEnabled k = true then { d.lane k with state := .down } else d.lane k := by
  induction n generalizing i d with
  | zero => exact ⟨d.net.lanes, rfl, fun k => (if_neg (by omega)).symm⟩
  | succ n ih =>
    obtain ⟨t, hiter, hlanes⟩ := ih (i + 1) (d.wakeLane i)
    refine ⟨t, by rw [iter, hiter, Dev.wakeLane_eq], fun k => ?_⟩
    have hen : (d.wakeLane i).laneEnabled k = d.laneEnabled k := by rw [Dev.wakeLane_eq]; rfl
    rw [hlanes, hen, Dev.lane_wakeLane]
    by_cases hk : k = i
    · subst hk
      simp
    · have hrange : (i + 1 ≤ k ∧ k < i + 1 + n) ↔ (i ≤ k ∧ k < i + (n + 1)) := by omega
      simp only [hk, hrange, false_and, if_false]

/-- Firmware start changes the records of the lanes alone, and of them the state of each enabled lane (R261). -/
theorem Dev.wakeLanes_lanes (d : Dev) : ∃ t, d.wakeLanes = { d with net := { d.net with lanes := t } }
    ∧ ∀ l, l < 96 → tget {} t l = if d.laneEnabled l = true then { d.lane l with state := .down } else d.lane l := by
  obtain ⟨t, hiter, hlanes⟩ := iter_wakeLane 96 0 d
  refine ⟨t, d.wakeLanes_eq_iter.trans hiter, fun l hl => (hlanes l).trans ?_⟩
  simp only [Nat.zero_le, Nat.zero_add, hl, true_and]

/-! ## Reset and release -/

theorem Dev.railOrder_iff (d : Dev) :
    d.railOrder = true ↔ ∀ i j, i < j → j < 6 → d.railState j = 0 → d.railState i = 0 := by
  simp only [Dev.railOrder, List.all_eq_true, List.mem_range, Bool.or_eq_true, decide_eq_true_eq]
  constructor
  · intro h i j hij hj hz
    rcases h i (by omega) with hi | hi
    · exact hi
    · rcases hi j hj with hle | hne
      · omega
      · exact absurd hz hne
  · intro h i _
    by_cases hi : d.railState i = 0
    · exact .inl hi
    · refine .inr fun j hj => ?_
      by_cases hij : j ≤ i
      · exact .inl hij
      · exact .inr fun hz => hi (h i j (by omega) hj hz)

theorem resetRelease_refused {straps : BitVec 16} {d : Dev} (h : d.boot.phase ≠ .held ∨ d.railOrder = false) :
    resetRelease straps d = d := if_pos h

theorem resetRelease_released {straps : BitVec 16} {d : Dev} (hp : d.boot.phase = .held) (hr : d.railOrder = true) :
    resetRelease straps d = { d with
      boot := { d.boot with
        phase := .rom, straps := straps &&& 0x07FF, flash := { d.boot.flash with bootCount := d.boot.flash.bootCount + 1 } }
      ev := { d.ev with bootCount := d.boot.flash.bootCount + 1 }
      sram := {}, therm := { d.therm with pumpH := 1, pumpL := 1 } } := by
  rw [resetRelease, if_neg (by simp [hp, hr])]
  rfl

/-! ## Firmware slots -/

/-- The owner's condition (R428): no owner slot is blown, or the owner record's key fits the slot in force and signs. -/
theorem Dev.ownerPasses_iff (d : Dev) (x : FwImage) :
    d.ownerPasses x = true ↔ d.boot.ownerSlots = [] ∨ ∃ h, d.boot.ownerSlots.getLast? = some h
      ∧ sha384 d.boot.flash.ownerKey = h ∧ ecdsaVerify d.boot.flash.ownerKey x.digest x.ownerSig = true := by
  have hslot : d.ownerSlot.isNone = true ↔ d.boot.ownerSlots = [] := by
    unfold Dev.ownerSlot
    split <;> simp [*]
  rw [Dev.ownerPasses, Bool.or_eq_true, hslot]
  refine or_congr_right ?_
  unfold Dev.ownerKey
  cases d.boot.ownerSlots.getLast? with
  | none => simp
  | some h =>
    by_cases hk : sha384 d.boot.flash.ownerKey = h
    · simp [hk]
    · simp [hk, Ne.symm hk]

theorem Dev.slotCheck_eq_one_iff (d : Dev) (k : Nat) (x : FwImage) (hx : x = imageOf (d.boot.flash.slot k)) :
    d.slotCheck k = 1 ↔
      x.header ≠ List.replicate 256 0xFF ∧ x.format = 0x0301 ∧ bodyFits (field x.header 12 4) = true
        ∧ ecdsaVerify Config.vendorKey x.digest x.vendorSig = true ∧ d.ownerPasses x = true
        ∧ d.boot.securityVersion ≤ x.security := by
  have hcheck : d.slotCheck k
      = if x.header = List.replicate 256 0xFF then 0
        else if x.format ≠ 0x0301 ∨ bodyFits (field x.header 12 4) = false then 3
        else if ecdsaVerify Config.vendorKey x.digest x.vendorSig = false ∨ d.ownerPasses x = false then 2
        else if x.security < d.boot.securityVersion then 4 else 1 := hx ▸ rfl
  rw [hcheck]
  by_cases hblank : x.header = List.replicate 256 0xFF
  · simp only [hblank, if_true, ne_eq, not_true, false_and, Nat.zero_ne_one]
  by_cases hfmt : x.format ≠ 0x0301 ∨ bodyFits (field x.header 12 4) = false
  · rw [if_neg hblank, if_pos hfmt]
    grind
  by_cases hsig : ecdsaVerify Config.vendorKey x.digest x.vendorSig = false ∨ d.ownerPasses x = false
  · rw [if_neg hblank, if_neg hfmt, if_pos hsig]
    grind
  · rw [if_neg hblank, if_neg hfmt, if_neg hsig]
    grind

/-! ## Firmware start -/

theorem Dev.reportSlot_eq (d : Dev) : d.reportSlot = { d with ev := d.reportSlot.ev } := by
  unfold Dev.reportSlot
  split
  · exact Dev.raise_eq ..
  · rfl

theorem Dev.reportSlot_ev_congr {x y : Dev} (hev : x.ev = y.ev) (hcfg : x.cfg.ev = y.cfg.ev) (htime : x.time = y.time)
    (haddr : x.net.address = y.net.address) (hpassed : x.boot.passedOver = y.boot.passedOver) :
    x.reportSlot.ev = y.reportSlot.ev := by
  unfold Dev.reportSlot
  rw [hpassed]
  split
  · exact Dev.raise_ev_congr _ _ hev hcfg htime haddr
  · exact hev

/-- TOWER_DUTY 0 of firmware's own: the ACTIVE unit keeps its duty, another is STOPPING unless it was STOPPED. -/
theorem towerDutyDisable_snd (d : Dev) : (towerDutyDisable d).2 = { d with
    tow := { d.tow with
      dutyState := if d.tow.role = 0 ∨ d.tow.dutyState = .stopped then d.tow.dutyState else .stopping }
    cfg := { d.cfg with tow := { d.cfg.tow with duty := if d.tow.role = 0 then d.cfg.tow.duty else 0 } }
    boot := { d.boot with savedDuty := if d.tow.role = 0 then d.boot.savedDuty else none } } := by
  unfold towerDutyDisable
  by_cases hrole : d.tow.role = 0
  · simp only [if_pos hrole, if_pos (Or.inl hrole)]
  · simp only [hrole, false_or]
    cases h : d.tow.dutyState <;> rfl

theorem Dev.beginStart_eq (d : Dev) : d.beginStart = { d with boot := { d.boot with
    startDone := false, startMode := d.beginStart.boot.startMode, startWhy := d.beginStart.boot.startWhy
    savedDuty := d.beginStart.boot.savedDuty } } := rfl

/-- The start mode of R433: what strap 10, START_MODE and the newest saved copy make of it. -/
theorem Dev.beginStart_strapped {d : Dev} (hs : bit d.boot.straps.toNat 10 = true) :
    d.beginStart.boot.startMode = 1 ∧ d.beginStart.boot.startWhy = 2 ∧ d.beginStart.boot.savedDuty = none := by
  simp [Dev.beginStart, Dev.setBoot, hs]

theorem Dev.beginStart_calibration {d : Dev} (hs : bit d.boot.straps.toNat 10 = false) (hm : d.boot.flash.startMode = 1) :
    d.beginStart.boot.startMode = 1 ∧ d.beginStart.boot.startWhy = 0 ∧ d.beginStart.boot.savedDuty = none := by
  simp [Dev.beginStart, Dev.setBoot, hs, hm]

theorem Dev.beginStart_unsaved {d : Dev} (hs : bit d.boot.straps.toNat 10 = false) (hm : d.boot.flash.startMode = 0)
    (hn : d.boot.flash.newest = none) :
    d.beginStart.boot.startMode = 1 ∧ d.beginStart.boot.startWhy = 1 ∧ d.beginStart.boot.savedDuty = none := by
  simp [Dev.beginStart, Dev.setBoot, hs, hm, hn]

theorem Dev.beginStart_saved {d : Dev} {a : Saved} (hs : bit d.boot.straps.toNat 10 = false)
    (hm : d.boot.flash.startMode = 0) (hn : d.boot.flash.newest = some a) :
    d.beginStart.boot.startMode = 0 ∧ d.beginStart.boot.startWhy = 0 ∧ d.beginStart.boot.savedDuty = some a.cfg.tow.duty := by
  simp [Dev.beginStart, Dev.setBoot, hs, hm, hn]

theorem firmwareStart_unsupported {d : Dev} (hp : d.boot.phase = .loaded) (hr : d.boot.revision ≠ 0x00A1) :
    firmwareStart d = Dev.raise (d.setBoot (fun b => { b with phase := .stopped })).reportSlot
      .unsupportedRevision [d.boot.revision.toNat] := by
  rw [firmwareStart, if_neg (not_not.2 hp), if_pos hr]

theorem firmwareStart_runs {d : Dev} (hp : d.boot.phase = .loaded) (hr : d.boot.revision = 0x00A1) :
    firmwareStart d
      = (towerDutyDisable (d.setBoot (fun b => { b with phase := .firmware })).wakeLanes.reportSlot).2.beginStart := by
  rw [firmwareStart, if_neg (not_not.2 hp), if_neg (not_not.2 hr)]

/-- Firmware that runs: its lanes look for block lock, the slot passed over is reported, TOWER_DUTY 0 is written and the start
mode begins. -/
theorem firmwareStart_firmware {d : Dev} (hp : d.boot.phase = .loaded) (hr : d.boot.revision = 0x00A1) :
    ∃ t, (∀ l, l < 96 → tget {} t l = if d.laneEnabled l = true then { d.lane l with state := .down } else d.lane l)
      ∧ firmwareStart d = { d with
          boot := { d.boot with
            phase := .firmware, startDone := false, startMode := d.beginStart.boot.startMode
            startWhy := d.beginStart.boot.startWhy, savedDuty := d.beginStart.boot.savedDuty }
          ev := d.reportSlot.ev
          net := { d.net with lanes := t }
          tow := { d.tow with
            dutyState := if d.tow.role = 0 ∨ d.tow.dutyState = .stopped then d.tow.dutyState else .stopping }
          cfg := { d.cfg with tow := { d.cfg.tow with duty := if d.tow.role = 0 then d.cfg.tow.duty else 0 } } } := by
  obtain ⟨t, hwake, hlanes⟩ := (d.setBoot (fun b => { b with phase := .firmware })).wakeLanes_lanes
  refine ⟨t, hlanes, ?_⟩
  have hev : (Dev.reportSlot { d with
      boot := { d.boot with phase := .firmware }, net := { d.net with lanes := t } }).ev = d.reportSlot.ev :=
    Dev.reportSlot_ev_congr rfl rfl rfl rfl rfl
  rw [firmwareStart_runs hp hr, hwake, towerDutyDisable_snd, Dev.reportSlot_eq]
  simp only [Dev.setBoot, hev]
  rfl

/-! ## Boot -/

theorem boot_recovery {d : Dev} (hp : d.boot.phase = .rom)
    (h : d.boot.flash.sfdp = false ∨ bit d.boot.straps.toNat 9 = true) :
    boot d = d.setBoot (fun b => { b with phase := .recovery }) := by
  rw [boot, if_neg (not_not.2 hp), if_pos h]

theorem boot_slots {d : Dev} (hp : d.boot.phase = .rom) (hf : d.boot.flash.sfdp = true)
    (hs : bit d.boot.straps.toNat 9 = false) :
    boot d = if d.slotCheck d.preferred = 1 then d.loadSlot d.preferred none
      else if d.slotCheck (1 - d.preferred) = 1 then
        d.loadSlot (1 - d.preferred) (some (d.preferred, d.slotCheck d.preferred))
      else d.setBoot (fun b => { b with phase := .recovery }) := by
  rw [boot, if_neg (not_not.2 hp), if_neg (by simp [hf, hs])]

/-- Settles O57, by one equation of each command's meaning per case. -/
theorem resetAndBoot : Obligations.ResetAndBoot := by
  intro straps s
  refine ⟨gives_of_upd resetAssert rfl rfl, rfl, ?notReleased, ?released, fun hp => gives_of_upd boot rfl (if_pos hp),
    fun hp h => gives_of_upd boot rfl (boot_recovery hp h), ?slots, ?slotCheck,
    fun hp => gives_of_upd firmwareStart rfl (if_pos hp), ?start⟩
  case notReleased =>
    intro h
    refine gives_of_upd (resetRelease straps) rfl (resetRelease_refused (h.imp_right ?_))
    rintro ⟨i, j, hij, hj, hi, hz⟩
    exact Bool.eq_false_iff.2 fun ho => hi (s.dev.railOrder_iff.1 ho i j hij hj hz)
  case released =>
    intro hp hr
    exact gives_of_upd (resetRelease straps) rfl (resetRelease_released hp (s.dev.railOrder_iff.2 hr))
  case slots =>
    intro hp hf h9 p load hpref hload
    have hboot := boot_slots hp hf h9
    have hp' : s.dev.preferred = p := hpref.symm
    have hl : s.dev.loadSlot = load := hload.symm
    rw [hp', hl] at hboot
    refine ⟨fun h => ?_, fun h h' => ?_, fun h h' => ?_⟩
    · exact gives_of_upd boot rfl (hboot.trans (if_pos h))
    · exact gives_of_upd boot rfl (by rw [hboot, if_neg h, if_pos h'])
    · exact gives_of_upd boot rfl (by rw [hboot, if_neg h, if_neg h']; rfl)
  case slotCheck =>
    intro k x hx
    rw [Dev.slotCheck_eq_one_iff _ k x hx, Dev.ownerPasses_iff, bodyFits, decide_eq_true_eq]
  case start =>
    rintro report rfl
    refine ⟨fun hp hr => gives_of_upd firmwareStart rfl (firmwareStart_unsupported hp hr), fun hp hr => ?_⟩
    obtain ⟨t, hlanes, hstart⟩ := firmwareStart_firmware hp hr
    refine ⟨_, gives_of_upd firmwareStart rfl hstart, ?_⟩
    exact ⟨rfl, rfl, Dev.beginStart_strapped, Dev.beginStart_calibration,
      fun h10 hm => ⟨Dev.beginStart_unsaved h10 hm, fun a => Dev.beginStart_saved h10 hm⟩, hlanes, rfl, rfl⟩

end Sys2Proof.Machine
end

section
/-! What a TICK makes of the outputs (R17, R95, R96). -/

namespace Sys2Proof.Machine

/-- The device that a TICK gives is the one its meaning says. -/
theorem eq_tick_of_gives {env : TickEnv} {s : State} {d : Dev} (h : Gives (.tick env) s d) : d = tick env s.dev :=
  (congrArg State.dev (Host.Outcome.next.inj h)).symm

/-- A driving unit under firmware whose present claim, of before its win, has INCUMBENT clear, with contention on 8 row lines in
the cycle that ends, and with no claim result latched. -/
def contendedUnit : State := { dev := {
  arr := { outputState := .driving }, drv := { rowContention := true }, boot := { phase := .firmware } } }

/-- The contention is device fault 2 at the tick (R95): the fault holds the outputs. -/
theorem outputState_tick_contendedUnit : (tick {} contendedUnit.dev).arr.outputState = .highZFault := by
  decide +kernel

/-- Refutes O8: no claim result is latched, and yet the tick takes the outputs from DRIVING to the fault's high impedance, since
device fault 2 (R95, R96) is declared in the same tick after the claim result is applied. -/
theorem not_tickStartsNewCycle : ¬ Obligations.TickStartsNewCycle := by
  intro h
  obtain ⟨d, hgives, -, -, -, -, -, -, hkept, -⟩ := (h {} contendedUnit).1 (by decide)
  have hdriving : d.arr.outputState = .driving := hkept rfl
  rw [eq_tick_of_gives hgives, outputState_tick_contendedUnit] at hdriving
  contradiction

end Sys2Proof.Machine
end

section
/-! The claim window and the release of the outputs (R16, R42, R93, R343 to R348, R365). -/

namespace Sys2Proof.Machine

/-! ## CLAIM_WINDOW_START -/

/-- The claim number is formed from what the clock leaves alone, the time state included (R343, R344). -/
theorem Dev.claimNumber_advanceTo (d : Dev) (t : Nat) : (d.advanceTo t).claimNumber = d.claimNumber := by
  unfold Dev.advanceTo
  split
  · rfl
  · rfl

theorem claimWindowStart_opens {d : Dev} (hp : d.boot.phase ≠ .held) (hw : d.tow.window = 0) :
    claimWindowStart d = { d with
      time := (d.advanceTo (d.time.nextTick - 1500)).time
      tow := { d.tow with
        claim := d.claimNumber
        window := 1
        lineA := if d.tow.clearDue ∧ d.tow.lineA = 2 then 0 else d.tow.lineA
        lineB := if d.tow.clearDue ∧ d.tow.lineB = 2 then 0 else d.tow.lineB
        clearDue := false
        dutyWindow := d.tow.dutyWindow || d.tow.dutyState = .stopping || d.tow.dutyState = .restartPending } } := by
  rw [claimWindowStart, if_neg (by simp [hp, hw])]
  dsimp only
  rw [Dev.claimNumber_advanceTo, Dev.advanceTo_eq]
  rfl

/-! ## CLAIM_WINDOW_END -/

theorem Dev.lineUsable_advanceTo (d : Dev) (t : Nat) (b : Bool) : (d.advanceTo t).lineUsable b = d.lineUsable b := by
  unfold Dev.advanceTo
  split
  · rfl
  · rfl

theorem Dev.advanceTo_tow (d : Dev) (t : Nat) : (d.advanceTo t).tow = d.tow := by rw [Dev.advanceTo_eq]

/-- On a line that is not FAULTY the unit wins exactly where the line carries its own number (R347). -/
theorem judgeLine_of_ne_faulty {c v : Nat} (h : judgeLine c v ≠ .faulty) : judgeLine c v = if v = c then .won else .lost := by
  unfold judgeLine at h ⊢
  split at h
  · exact absurd rfl h
  · rw [if_neg ‹_›]

/-- What a window on two lines that both carry v makes of the device (R347, R348): its result, before the Tower follows it up. -/
def Dev.windowResult (d : Dev) (v : Nat) (win : Bool) : Dev :=
  (d.advanceTo (d.time.nextTick - 500)).setTow (fun t => { t with
    window := 2, va := BitVec.ofNat 16 v, vb := BitVec.ofNat 16 v, accepted := BitVec.ofNat 16 v
    result := if d.tow.claim.toNat / 2 ^ 13 = 0 then 2 else ofBool win
    latched := some win, winIncumbent := bit v 12
    lineA := lineAfter t.lineA (judgeLine d.tow.claim.toNat v) false
    lineB := lineAfter t.lineB (judgeLine d.tow.claim.toNat v) false
    lineBad := false })

/-- The follow-up of a window: a win of a unit whose outputs are at high impedance is latched (R92, R362). -/
def Dev.followWindow (d : Dev) (win : Bool) : Dev := if win && d.arr.outputState = .highZ then d.latchWin else d

theorem claimWindowEnd_agreed {d : Dev} {v : Nat} (hw : d.tow.window = 1) (ha : d.lineUsable false = true)
    (hb : d.lineUsable true = true) (hj : judgeLine d.tow.claim.toNat v ≠ .faulty) {win : Bool}
    (hwin : win = decide (1 ≤ d.tow.claim.toNat / 2 ^ 13 ∧ v = d.tow.claim.toNat)) :
    claimWindowEnd v v d = (d.windowResult v win).endYield.followWindow win := by
  rw [claimWindowEnd, if_neg (by simp [hw])]
  have hjudge := judgeLine_of_ne_faulty hj
  simp only [Dev.advanceTo_tow, Dev.lineUsable_advanceTo, ha, hb, hjudge, Dev.windowResult, Dev.followWindow, hwin]
  by_cases hv : v = d.tow.claim.toNat
  · simp [hv, Dev.raiseIf]
  · simp [hv, Dev.raiseIf]

theorem claimWindowEnd_shut {d : Dev} (va vb : Nat) (h : d.tow.window ≠ 1) : claimWindowEnd va vb d = d := if_pos h

/-- What a window leaves of the lines' values and of its result. -/
def Tower.latch (t : Tower) : BitVec 16 × BitVec 16 × BitVec 16 × Nat × Option Bool :=
  (t.va, t.vb, t.accepted, t.window, t.latched)

/-- YIELD's withdrawal may end: nothing else changes (R366). -/
theorem Dev.endYield_eq (d : Dev) : ∃ y, d.endYield = d.setTow (fun t => { t with yieldState := y }) := by
  unfold Dev.endYield
  split
  · exact ⟨_, rfl⟩
  · exact ⟨d.tow.yieldState, rfl⟩

/-- Elements are marked in memory alone (R219). -/
theorem Dev.markAllJump_eq (d : Dev) : ∃ m v, d.markAllJump = { d with sram := m, memory := v } := by
  refine each_keeps (fun x : Dev => ∃ m v, x = { d with sram := m, memory := v }) _ _ _ (fun e x hx => ?_) ⟨_, _, rfl⟩
  obtain ⟨m, v, rfl⟩ := hx
  exact ⟨_, _, rfl⟩

theorem Dev.latchWin_kept (d : Dev) : d.latchWin.tow.latch = d.tow.latch ∧ d.latchWin.time = d.time := by
  obtain ⟨m, v, h⟩ := d.markAllJump_eq
  unfold Dev.latchWin
  dsimp only
  split
  · rw [h]
    exact ⟨rfl, rfl⟩
  · exact ⟨rfl, rfl⟩

theorem Dev.followWindow_kept (d : Dev) (win : Bool) :
    (d.followWindow win).tow.latch = d.tow.latch ∧ (d.followWindow win).time = d.time := by
  unfold Dev.followWindow
  split
  · exact d.latchWin_kept
  · exact ⟨rfl, rfl⟩

theorem Dev.windowResult_endYield (d : Dev) (v : BitVec 16) (win : Bool) :
    (d.windowResult v.toNat win).endYield.tow.latch = (v, v, v, 2, some win)
      ∧ (d.windowResult v.toNat win).endYield.time = (d.advanceTo (d.time.nextTick - 500)).time := by
  obtain ⟨y, hy⟩ := (d.windowResult v.toNat win).endYield_eq
  rw [hy]
  simp [Dev.windowResult, Tower.latch]

/-- A loss leaves everything but the Claim Arbiter and the clock. -/
theorem Dev.followWindow_lost (d : Dev) (v : Nat) : ∃ time tow,
    (d.windowResult v false).endYield.followWindow false = { d with time := time, tow := tow } := by
  obtain ⟨y, hy⟩ := (d.windowResult v false).endYield_eq
  obtain ⟨t, ht⟩ : ∃ t, d.advanceTo (d.time.nextTick - 500) = { d with time := t } := ⟨_, d.advanceTo_eq _⟩
  rw [hy, Dev.windowResult, ht]
  exact ⟨t, _, if_neg Bool.false_ne_true⟩

/-! ## OUTPUT_RELEASE -/

theorem outputRelease_lost {d : Dev} (hl : d.tow.latched = some false) (ho : d.arr.outputState = .driving) :
    outputRelease d = { d with
      time := (d.advanceTo (d.time.nextTick - 1)).time
      arr := { d.arr with outputState := .highZ }, tow := { d.tow with driversAwake := false } } := by
  rw [outputRelease, if_pos ⟨hl, decide_eq_true ho⟩, Dev.advanceTo_eq]
  rfl

theorem outputRelease_kept {d : Dev} (h : d.tow.latched ≠ some false ∨ d.arr.outputState ≠ .driving) :
    outputRelease d = d := by
  refine if_neg ?_
  rintro ⟨hl, hdrive⟩
  exact h.elim (fun hn => hn hl) fun hn => hn (of_decide_eq_true hdrive)

/-- Settles O11, by one equation of each command's meaning per case. -/
theorem claimWindow : Obligations.ClaimWindow := by
  intro v w s
  refine ⟨fun hp hw => gives_of_upd claimWindowStart rfl (claimWindowStart_opens hp hw),
    fun h => gives_of_upd claimWindowStart rfl (if_pos h), ?agreed,
    fun hw => gives_of_upd (claimWindowEnd v.toNat w.toNat) rfl (claimWindowEnd_shut _ _ hw),
    fun hl ho => gives_of_upd outputRelease rfl (outputRelease_lost hl ho),
    fun h => gives_of_upd outputRelease rfl (outputRelease_kept h)⟩
  case agreed =>
    intro hw ha hb hj
    have hwin : decide (1 ≤ s.dev.tow.claim.toNat / 2 ^ 13 ∧ v = s.dev.tow.claim)
        = decide (1 ≤ s.dev.tow.claim.toNat / 2 ^ 13 ∧ v.toNat = s.dev.tow.claim.toNat) := by
      simp only [BitVec.toNat_inj]
    refine ⟨_, gives_of_upd (claimWindowEnd v.toNat v.toNat) rfl (claimWindowEnd_agreed hw ha hb hj hwin), ?_⟩
    generalize decide (1 ≤ s.dev.tow.claim.toNat / 2 ^ 13 ∧ v = s.dev.tow.claim) = win
    obtain ⟨hlatch, htime⟩ := (s.dev.windowResult v.toNat win).endYield.followWindow_kept win
    obtain ⟨hlatch', htime'⟩ := s.dev.windowResult_endYield v win
    have hall := hlatch.trans hlatch'
    simp only [Tower.latch, Prod.mk.injEq] at hall
    obtain ⟨hva, hvb, hacc, hwindow, hlatched⟩ := hall
    refine ⟨hva, hvb, hacc, hwindow, hlatched, htime.trans htime', fun hlost => ?_⟩
    obtain rfl : win = false := Option.some.inj (hlatched.symm.trans hlost)
    obtain ⟨time, tow, h⟩ := s.dev.followWindow_lost v.toNat
    rw [h]

end Sys2Proof.Machine
end

section
/-! What a finished conversion, or one that timed out, leaves (R14, R53, R69 to R73). -/

namespace Sys2Proof.Machine

/-! ## The average (R71) -/

/-- An accumulator stored: memory and the sites preset after poison alone change. -/
theorem Dev.putAcc_eq (d : Dev) (i : Nat) (v : Int) :
    ∃ m w p, d.putAcc i v = { d with sram := m, memory := w, rd := { d.rd with preset := p } } := by
  unfold Dev.putAcc
  dsimp only
  split
  · split
    · exact ⟨_, _, _, rfl⟩
    · exact ⟨_, _, _, rfl⟩
  · exact ⟨_, _, d.rd.preset, rfl⟩

/-- A sample of a site that is not filling its average is entered without FILL. -/
theorem Dev.enter_eq {d : Dev} {i : Nat} (s : Int) (h : tfind d.rd.fill i = none) :
    ∃ m w p, d.enter i s = (false, { d with sram := m, memory := w, rd := { d.rd with preset := p } }) := by
  unfold Dev.enter
  rw [h]
  dsimp only
  split
  · obtain ⟨m, w, p, hput⟩ := d.putAcc_eq i (s * 256)
    exact ⟨m, w, p, by rw [hput]⟩
  · obtain ⟨m, w, p, hput⟩ := d.putAcc_eq i (average (d.avgOf i) (d.accNow i) s)
    exact ⟨m, w, p, by rw [hput]⟩

/-! ## What follows the store -/

/-- A sample's readers beside its store: the OVER counts, the events, the dark capture and the Label Decoder. -/
def Dev.SampleRead (d y : Dev) : Prop :=
  ∃ o r v c k, y = { d with rd := { d.rd with overCount := o, overRun := r }, ev := v, cal := c, dec := k }

theorem Dev.SampleRead.refl (d : Dev) : d.SampleRead d := ⟨d.rd.overCount, d.rd.overRun, d.ev, d.cal, d.dec, rfl⟩

section
variable {d y : Dev} (h : d.SampleRead y)
include h

theorem Dev.SampleRead.countOver (c : Nat) : d.SampleRead (y.countOver c) := by
  obtain ⟨o, r, v, k, n, rfl⟩ := h
  unfold Dev.countOver
  dsimp only
  obtain ⟨w, hraise⟩ := Dev.raiseIf_ev (Dev.setRd _ _) _ .monitorOverrange [c]
  rw [hraise]
  exact ⟨_, _, w, k, n, rfl⟩

theorem Dev.SampleRead.darkSum (x : Conversion) (q : Int) : d.SampleRead (y.darkSum x q) := by
  obtain ⟨o, r, v, k, n, rfl⟩ := h
  unfold Dev.darkSum
  split
  · dsimp only
    split
    · exact ⟨o, r, v, _, n, rfl⟩
    · exact ⟨o, r, v, k, n, rfl⟩
  · exact ⟨o, r, v, k, n, rfl⟩

theorem Dev.SampleRead.setDec (f : Decoder → Decoder) : d.SampleRead (y.setDec f) := by
  obtain ⟨o, r, v, k, n, rfl⟩ := h
  exact ⟨o, r, v, k, f n, rfl⟩

theorem Dev.SampleRead.chanSample (t : Nat) (s : Int) (q back : Nat) : d.SampleRead (y.chanSample t s q back) := by
  refine iter_keeps d.SampleRead _ _ _ _ (fun j z hz => ?_) (h.setDec _)
  dsimp only
  split
  · split
    · exact hz.setDec _
    · split
      · exact hz.setDec _
      · exact hz
  · exact hz

theorem Dev.SampleRead.labelSample (i : Nat) (s : Int) (start tick : Nat) : d.SampleRead (y.labelSample i s start tick) := by
  unfold Dev.labelSample
  split
  · exact h
  · refine iter_keeps d.SampleRead _ _ _ _ (fun t z hz => ?_) h
    split
    · exact hz.chanSample ..
    · exact hz

end

theorem Dev.captures_nil {d : Dev} (h : d.rd.injects = []) (x : Conversion) (flags : BitVec 8) (raw : Nat) (s : Int) :
    d.captures x flags raw s = d := by
  rw [Dev.captures, h]
  rfl

/-- What reads a VALID sample once it is stored. -/
def Dev.readSample (d : Dev) (c : Nat) (x : Conversion) (raw : Nat) : Dev :=
  let ovr : Bool := raw = 16383
  let d := (if ovr then d.countOver c else d).darkSum x (x.charge raw)
  if !ovr then d.labelSample x.site (x.sample raw) x.start x.tick else d

theorem Dev.readSample_reads (d : Dev) (c : Nat) (x : Conversion) (raw : Nat) : d.SampleRead (d.readSample c x raw) := by
  have h := Dev.SampleRead.refl d
  unfold Dev.readSample
  dsimp only
  generalize decide (raw = 16383) = ovr
  cases ovr with
  | true => exact (h.countOver c).darkSum ..
  | false => exact (h.darkSum ..).labelSample ..

/-! ## CONVERSION_COMPLETE and CONVERTER_TIMEOUT -/

/-- The sample that a conversion leaves in its site's place (R69, R84). -/
def Dev.sampleOf (d : Dev) (x : Conversion) (valid ovr : Bool) : Sample := {
  value := avgOut (d.accNow x.site), flags := sampleFlags valid ovr x.spare false x.gain x.convB
  fromTick := x.fromTick, fromSlot := x.fromSlot }

section
variable {d : Dev} {c : Nat} {b : Bool} {x : Conversion} {l : List Conversion}
  (htake : takeConversion c b d.rd.conversions = (some x, l)) (hinj : d.rd.injects = [])
include htake hinj

/-- A VALID sample is entered in its site's average, which leaves the device e, stored, and read. -/
theorem conversionComplete_valid (raw : Nat) (hvalid : x.invalid = false) {e : Dev}
    (he : Dev.enter { d with rd := { d.rd with conversions := l } } x.site (x.sample raw) = (false, e))
    (hkeep : e.rd.injects = d.rd.injects) : conversionComplete c b raw d
      = (e.store x.site (e.sampleOf x true (decide (raw = 16383)))).readSample c x raw := by
  have hread : ∀ (y : Dev), y.rd.injects = [] → ∀ flags s,
      (y.readSample c x raw).captures x flags raw s = y.readSample c x raw := by
    intro y hy flags s
    obtain ⟨o, r, v, k, n, h⟩ := y.readSample_reads c x raw
    exact Dev.captures_nil (by rw [h]; exact hy) ..
  have hset : (d.setRd (fun r => { r with conversions := l })).enter x.site (x.sample raw) = (false, e) := he
  unfold conversionComplete
  rw [htake]
  simp only [hvalid, hset, Bool.false_eq_true, if_false, Bool.not_false, Bool.and_true, if_true, Bool.true_and]
  exact hread (e.store x.site (e.sampleOf x true (decide (raw = 16383)))) (hkeep.trans hinj) ..

/-- A conversion that timed out leaves a sample that is not VALID, and its count (R73). -/
theorem converterTimeout_stored : converterTimeout c b d = Dev.raise { d with rd := { d.rd with
      conversions := l
      before := tset {} d.rd.before x.site (tget {} d.rd.samples x.site)
      samples := tset {} d.rd.samples x.site (d.sampleOf x false false)
      invalidCount := tset 0 d.rd.invalidCount c (tget 0 d.rd.invalidCount c + 1) } }
    .converterTimeout [x.chain, ofBool b] := by
  unfold converterTimeout
  rw [htake]
  dsimp only
  rw [Dev.captures_nil]
  · rfl
  · exact hinj

end

/-- Settles O12: the sample is entered and stored, and what reads it then leaves the store and the other blocks alone. -/
theorem conversionStored : Obligations.ConversionStored := by
  intro col b raw s x l htake hinj
  refine ⟨fun hvalid hfill => ?complete, ?timeout⟩
  case complete =>
    obtain ⟨m, w, p, he⟩ := Dev.enter_eq (d := { s.dev with rd := { s.dev.rd with conversions := l } })
      (x.sample raw.toNat) hfill
    refine ⟨_, gives_of_upd (conversionComplete col b raw.toNat) rfl
      (conversionComplete_valid htake hinj raw.toNat hvalid he rfl), ?_⟩
    have hover : decide (raw = 16383) = decide (raw.toNat = 16383) := decide_eq_decide.2 (by
      rw [← BitVec.toNat_inj]
      rfl)
    obtain ⟨o, r, v, k, n, hread⟩ := Dev.readSample_reads (Dev.store _ x.site _) col x raw.toNat
    rw [hread, he, hover]
    exact ⟨rfl, rfl, rfl, rfl, rfl, rfl, rfl, rfl, rfl⟩
  case timeout =>
    refine ⟨_, gives_of_upd (converterTimeout col b) rfl (converterTimeout_stored htake hinj), ?_⟩
    rw [Dev.raise_eq]
    exact ⟨rfl, rfl⟩

end Sys2Proof.Machine
end

section
/-! COMMIT and COMMIT_CANCEL (R18, R20, R214, R215): the checks in their order and what they leave. -/

namespace Sys2Proof.Machine

/-- The time is locked for R20 in LOCKED and in HOLDOVER (R303). -/
theorem Dev.locked_iff (d : Dev) : d.locked = true ↔ d.time.state = .locked ∨ d.time.state = .holdover := by
  simp [Dev.locked]

theorem Dev.armingPassed_iff (d : Dev) (t : Nat) :
    d.armingPassed t = true ↔ t ≤ d.time.nextTick ∨ t < d.now + d.cyc.conf.period := by
  rw [Dev.armingPassed, Bool.or_eq_true, decide_eq_true_eq, decide_eq_true_eq]
  rfl

/-! ## COMMIT -/

/-- The commit that a request asks for. -/
def commitOf (r : CommitReq) : PendingCommit := ⟨⟨r.secs.toNat, r.nanos.toNat⟩, r.expectGen, r.group⟩

/-- A request whose generation stands meets the commit that is pending or armed, if any. -/
def bookCommit (r : CommitReq) (d : Dev) : Resp × Dev :=
  match d.commitAhead with
  | some p =>
    if p.tick = (commitOf r).tick ∧ d.circ.pending.isSome then
      (.ok, d.setCirc (fun x => { x with pending := some (commitOf r) }))
    else (.busy, d)
  | none => (.ok, d.setCirc (fun x => { x with pending := some (commitOf r) }))

section
variable {r : CommitReq} {d : Dev} {t : Nat} (ht : t = (commitOf r).tick)
include ht

theorem commitRequest_invalid
    (h : 1000000000 ≤ r.nanos.toNat ∨ t % d.cyc.conf.period ≠ 0 ∨ 86400 * 1000000000 + d.now < t) :
    commitRequest r d = (.invalid, d) := by
  subst ht
  exact if_pos h

/-- A time of the grid within a day: lock, arming point and generation are checked in this order. -/
theorem commitRequest_valid (hnanos : r.nanos.toNat < 1000000000) (hgrid : t % d.cyc.conf.period = 0)
    (hday : t ≤ 86400 * 1000000000 + d.now) : commitRequest r d =
      if d.locked = false then (.stale, d)
      else if d.armingPassed t then (.late, d)
      else if d.fab.state = .pending ∨ (r.expectGen ≠ 0xFFFFFFFF ∧ r.expectGen ≠ d.circ.gen) then (.conflict, d)
      else bookCommit r d := by
  subst ht
  refine if_neg ?_
  rintro (h | h | h)
  · exact absurd hnanos (not_lt.2 h)
  · exact h hgrid
  · exact absurd hday (not_le.2 h)

end

theorem bookCommit_other_tick {r : CommitReq} {d : Dev} {p : PendingCommit} (hp : d.circ.pending = some p)
    (ht : p.tick ≠ (commitOf r).tick) : bookCommit r d = (.busy, d) := by
  simp [bookCommit, Dev.commitAhead, hp, ht]

theorem bookCommit_same_tick {r : CommitReq} {d : Dev} {p : PendingCommit} (hp : d.circ.pending = some p)
    (ht : p.tick = (commitOf r).tick) :
    bookCommit r d = (.ok, d.setCirc (fun x => { x with pending := some (commitOf r) })) := by
  simp [bookCommit, Dev.commitAhead, hp, ht]

theorem bookCommit_armed {r : CommitReq} {d : Dev} (hp : d.circ.pending = none) (ha : d.circ.armed ≠ none) :
    bookCommit r d = (.busy, d) := by
  obtain ⟨a, ha⟩ := Option.ne_none_iff_exists'.1 ha
  simp [bookCommit, Dev.commitAhead, hp, ha]

theorem bookCommit_free {r : CommitReq} {d : Dev} (hp : d.circ.pending = none) (ha : d.circ.armed = none) :
    bookCommit r d = (.ok, d.setCirc (fun x => { x with pending := some (commitOf r) })) := by
  simp [bookCommit, Dev.commitAhead, hp, ha]

/-! ## COMMIT_CANCEL -/

theorem commitCancel_not_one {v : Nat} {d : Dev} (h : v ≠ 1) : commitCancel v d = (.invalid, d) := if_pos h

theorem commitCancel_armed {d : Dev} (h : d.circ.armed ≠ none) : commitCancel 1 d = (.late, d) := by
  rw [commitCancel, if_neg (by decide), if_pos (Option.isSome_iff_ne_none.2 h)]

theorem commitCancel_none {d : Dev} (ha : d.circ.armed = none) (hp : d.circ.pending = none) :
    commitCancel 1 d = (.noent, d) := by
  simp [commitCancel, ha, hp]

theorem commitCancel_pending {d : Dev} {c : PendingCommit} (ha : d.circ.armed = none) (hp : d.circ.pending = some c) :
    commitCancel 1 d = (.ok, d.setCirc (fun x => { x with
      pending := none
      report := { at_ := c.at_, group := c.group, result := 3, gen := x.gen, ffError := 0xFFFF
                  circuits := (d.circuits false).length } })) := by
  simp [commitCancel, ha, hp]

/-- Settles O27, by the checks of COMMIT and COMMIT_CANCEL in their order. -/
theorem commitRequests : Obligations.CommitRequests := by
  intro r v s t ht
  refine ⟨fun h => ?invalid, fun hnanos hgrid hday => ?valid, fun hv => ?notOne, fun ha => ?armed, fun ha hp => ?noent,
    fun c ha hp => ?cancelled⟩
  case invalid => exact answers_of_ask (commitRequest r) rfl (commitRequest_invalid ht h)
  case valid =>
    have hcommit := commitRequest_valid (d := s.dev) ht hnanos hgrid hday
    refine ⟨fun hl hh => ?stale, fun hlock => ?_⟩
    case stale =>
      have hl' : s.dev.locked = false := Bool.eq_false_iff.2 fun h => (s.dev.locked_iff.1 h).elim hl hh
      exact answers_of_ask (commitRequest r) rfl (by rw [hcommit, if_pos hl'])
    rw [if_neg (by simp [s.dev.locked_iff.2 hlock])] at hcommit
    refine ⟨fun h => ?late, fun htick hahead => ?_⟩
    case late => exact answers_of_ask (commitRequest r) rfl (by rw [hcommit, if_pos ((s.dev.armingPassed_iff t).2 h)])
    have harm : ¬ s.dev.armingPassed t = true := by
      rw [Dev.armingPassed_iff]
      omega
    rw [if_neg harm] at hcommit
    refine ⟨fun h => answers_of_ask (commitRequest r) rfl (by rw [hcommit, if_pos h]), fun hfab hgen => ?_⟩
    rw [if_neg (by tauto)] at hcommit
    refine ⟨fun p hp hpt => ?_, fun hp ha => ?_, ?_⟩
    · exact answers_of_ask (commitRequest r) rfl (hcommit.trans (bookCommit_other_tick hp fun h => hpt (h.trans ht.symm)))
    · exact answers_of_ask (commitRequest r) rfl (hcommit.trans (bookCommit_armed hp ha))
    · rintro (⟨p, hp, hpt⟩ | ⟨hp, ha⟩)
      · exact answers_of_ask (commitRequest r) rfl (hcommit.trans (bookCommit_same_tick hp (hpt.trans ht)))
      · exact answers_of_ask (commitRequest r) rfl (hcommit.trans (bookCommit_free hp ha))
  case notOne => exact answers_of_ask (commitCancel v.toNat) rfl (commitCancel_not_one fun h => hv (BitVec.eq_of_toNat_eq h))
  case armed => exact answers_of_ask (commitCancel 1) rfl (commitCancel_armed ha)
  case noent => exact answers_of_ask (commitCancel 1) rfl (commitCancel_none ha hp)
  case cancelled => exact answers_of_ask (commitCancel 1) rfl (commitCancel_pending ha hp)

end Sys2Proof.Machine
end

section
/-! TRIGGER entries and the causes of a snapshot (R20, R309, R312): the checks in their order and what they leave. -/

namespace Sys2Proof.Machine

/-! ## TRIGGER_SCHEDULE and TRIGGER_CANCEL -/

theorem triggerCancel_above {j : Nat} {d : Dev} (h : 15 < j) : triggerCancel j d = (.noent, d) := if_pos h

theorem triggerSchedule_above {j secs nanos action : Nat} {d : Dev} (h : 15 < j) :
    triggerSchedule j secs nanos action d = (.noent, d) := if_pos h

section
variable {j : Nat} {d : Dev} (hj : j ≤ 15)
include hj

theorem triggerCancel_empty (h : (d.trigger j).state = .empty) : triggerCancel j d = (.noent, d) := by
  rw [triggerCancel, if_neg (not_lt.2 hj), if_pos h]

theorem triggerCancel_set (h : (d.trigger j).state ≠ .empty) : triggerCancel j d = (.ok, d.setTrigger j {}) := by
  rw [triggerCancel, if_neg (not_lt.2 hj), if_neg h]

/-- Action 0 is the cancel (R309). -/
theorem triggerSchedule_zero (secs nanos : Nat) : triggerSchedule j secs nanos 0 d = triggerCancel j d := by
  rw [triggerSchedule, if_neg (not_lt.2 hj), if_pos rfl]

variable {secs nanos action t : Nat} (ht : t = 1000000000 * secs + nanos) (haction : 1 ≤ action)
include ht haction

theorem triggerSchedule_invalid
    (h : 1000000000 ≤ nanos ∨ t % d.cyc.conf.period ≠ 0 ∨ 86400 * 1000000000 + d.now < t ∨ 4 < action) :
    triggerSchedule j secs nanos action d = (.invalid, d) := by
  subst ht
  rw [triggerSchedule, if_neg (not_lt.2 hj), if_neg (Nat.one_le_iff_ne_zero.1 haction)]
  exact if_pos h

/-- A time of the grid within a day and an action: lock, time and room are checked in this order. -/
theorem triggerSchedule_valid (hnanos : nanos < 1000000000) (hgrid : t % d.cyc.conf.period = 0)
    (hday : t ≤ 86400 * 1000000000 + d.now) (hlast : action ≤ 4) : triggerSchedule j secs nanos action d =
      if action = 1 ∧ d.locked = false then (.stale, d)
      else if t ≤ d.now then (.late, d)
      else if 16 ≤ d.triggersPending ∧ (d.trigger j).state ≠ .pending then (.busy, d)
      else (.ok, d.setTrigger j { at_ := ⟨secs, nanos⟩, action := action, state := .pending }) := by
  subst ht
  rw [triggerSchedule, if_neg (not_lt.2 hj), if_neg (Nat.one_le_iff_ne_zero.1 haction)]
  refine if_neg ?_
  rintro (h | h | h | h)
  · exact absurd hnanos (not_lt.2 h)
  · exact h hgrid
  · exact absurd hday (not_le.2 h)
  · exact absurd hlast (not_le.2 h)

end

/-! ## SNAP_NOW and SNAP_IN -/

theorem snapNow_not_one {v : Nat} {d : Dev} (h : v ≠ 1) : snapNow v d = (.invalid, d) := if_pos h

theorem snapInEdge_noted {d : Dev} (hon : d.cfg.time.snapInEnable = true) (hfree : d.time.snapIn = none) :
    snapInEdge d = { d with time := { d.time with snapIn := some d.time.up } } := by
  rw [snapInEdge, if_pos (by simp [hon, hfree])]
  rfl

theorem snapInEdge_ignored {d : Dev} (h : d.cfg.time.snapInEnable = false ∨ d.time.snapIn ≠ none) :
    snapInEdge d = d := by
  rw [snapInEdge, if_neg]
  rw [Bool.and_eq_true, Option.isNone_iff_eq_none]
  rintro ⟨hon, hfree⟩
  exact h.elim (fun hoff => absurd hon (by simp [hoff])) fun hnote => hnote hfree

/-- Settles O40, by the checks of a TRIGGER entry in their order and one equation of each snapshot cause. -/
theorem triggersAndSnapshots : Obligations.TriggersAndSnapshots := by
  intro j r v s t ht
  have hexec : exec (.triggerSchedule j r) s
      = s.ask (triggerSchedule j.toNat r.secs.toNat r.nanos.toNat r.action.toNat) := rfl
  refine ⟨fun hj => ⟨answers_of_ask _ hexec (triggerSchedule_above hj),
      answers_of_ask (triggerCancel j.toNat) rfl (triggerCancel_above hj)⟩, fun hj => ⟨?_, ?_, ?_, ?_⟩,
    fun hv => answers_of_ask (snapNow v.toNat) rfl (snapNow_not_one fun h => hv (BitVec.eq_of_toNat_eq h)),
    answers_of_ask (snapNow 1) rfl rfl, fun hon hfree => gives_of_upd snapInEdge rfl (snapInEdge_noted hon hfree),
    fun h => gives_of_upd snapInEdge rfl (snapInEdge_ignored h)⟩
  · exact fun ha h => answers_of_ask _ hexec (triggerSchedule_invalid hj ht ha h)
  · intro ha hlast hnanos hgrid hday
    have hset := triggerSchedule_valid (d := s.dev) hj ht ha hnanos hgrid hday hlast
    have hone : r.action.toNat = 1 ↔ r.action = 1 := by
      rw [← BitVec.toNat_inj]
      rfl
    refine ⟨fun h1 hl => answers_of_ask _ hexec (by rw [hset, if_pos ⟨hone.2 h1, hl⟩]), fun hlock => ?_⟩
    rw [if_neg (by rw [hone]; simpa [imp_iff_not_or] using hlock)] at hset
    refine ⟨fun hpast => answers_of_ask _ hexec (by rw [hset, if_pos hpast]), fun hnow hfull hstate => ?_,
      fun hnow hroom => ?_⟩
    · exact answers_of_ask _ hexec (by rw [hset, if_neg (not_le.2 hnow), if_pos ⟨hfull, hstate⟩])
    · refine answers_of_ask _ hexec (hset.trans ((if_neg (not_le.2 hnow)).trans (if_neg ?_)))
      rintro ⟨hfull, hstate⟩
      exact hroom.elim (not_lt.2 hfull) hstate
  · intro hempty
    refine ⟨answers_of_ask (triggerCancel j.toNat) rfl (triggerCancel_empty hj hempty), fun h0 => ?_⟩
    refine answers_of_ask _ hexec ?_
    rw [h0]
    exact (triggerSchedule_zero hj _ _).trans (triggerCancel_empty hj hempty)
  · rintro d hstate rfl
    refine ⟨answers_of_ask (triggerCancel j.toNat) rfl (triggerCancel_set hj hstate), fun h0 => ?_⟩
    refine answers_of_ask _ hexec ?_
    rw [h0]
    exact (triggerSchedule_zero hj _ _).trans (triggerCancel_set hj hstate)

end Sys2Proof.Machine
end

section
/-! Heartbeat, reference clocks, timebase PLL and DEVICE_RESTART (R11, R92, R344, R396, R397). -/

namespace Sys2Proof.Machine

/-! ## Device faults declared -/

/-- What a device fault leaves (R92, R128, R396): outputs held, engine stopped, the first cause shown. -/
theorem Dev.declareFault_eq (d : Dev) (n : Nat) : d.declareFault n = Dev.raise { d with
    arr := { d.arr with outputState := .highZFault }
    tow := { d.tow with driversAwake := false }
    loop := { d.loop with state := .stopped, stopCause := 3, due := none }
    ev := { d.ev with
      deviceFault := if d.ev.deviceFault = 0 then n else d.ev.deviceFault
      declared := if n ∈ d.ev.declared then d.ev.declared else d.ev.declared ++ [n] } } .deviceFaultDeclared [n] := by
  simp only [Dev.declareFault, List.contains_iff_mem]
  rfl

/-! ## REFCLK_LOSS -/

section
variable {d : Dev}

theorem refclkLoss_lost_A (h : d.ev.refA = false) : refclkLoss false d = d := if_pos h

theorem refclkLoss_lost_B (h : d.ev.refB = false) : refclkLoss true d = d := if_pos h

/-- The loss of one of two good clocks: the device is on B after A's loss, on A after B's. -/
theorem refclkLoss_A_first (ha : d.ev.refA = true) (hb : d.ev.refB = true) :
    refclkLoss false d = Dev.raise { d with ev := { d.ev with refA := false, onRefB := true } } .refclkFail := by
  simp [refclkLoss, Dev.raiseIf, ha, hb]

theorem refclkLoss_B_first (ha : d.ev.refA = true) (hb : d.ev.refB = true) :
    refclkLoss true d = { d with ev := { d.ev with refB := false, onRefB := false } } := by
  simp [refclkLoss, Dev.raiseIf, ha, hb]

/-- The loss of the second clock is device fault 3. -/
theorem refclkLoss_A_last (ha : d.ev.refA = true) (hb : d.ev.refB = false) : refclkLoss false d
    = (Dev.raise { d with ev := { d.ev with refA := false, onRefB := false } } .refclkFail).declareFault 3 := by
  simp [refclkLoss, Dev.raiseIf, ha, hb]

theorem refclkLoss_B_last (ha : d.ev.refA = false) (hb : d.ev.refB = true) : refclkLoss true d
    = (Dev.raise { d with ev := { d.ev with refB := false } } .refclkFail).declareFault 3 := by
  simp [refclkLoss, Dev.raiseIf, ha, hb]

/-! ## DEVICE_RESTART -/

theorem Dev.causePersists_iff : d.causePersists = true ↔
    (3 ∈ d.ev.declared ∧ ((d.ev.refA = false ∧ d.ev.refB = false) ∨ d.ev.pllLocked = false))
      ∨ (4 ∈ d.ev.declared ∧ d.therm.railState ≠ []) := by
  simp [Dev.causePersists, Dev.clockBad, Dev.railBad]

theorem deviceRestart_not_one {v : Nat} (h : v ≠ 1) : deviceRestart v d = (.invalid, d) := if_pos h

theorem deviceRestart_persists (h : d.causePersists = true) : deviceRestart 1 d = (.conflict, d) := by
  rw [deviceRestart, if_neg (by decide), if_pos h]

theorem deviceRestart_ok (h : d.causePersists = false) : deviceRestart 1 d
    = (.ok, Dev.releaseHold { d with ev := { d.ev with deviceFault := 0, declared := [] } } (d.therm.state = 3)) := by
  rw [deviceRestart, if_neg (by decide), if_neg (by simp [h])]

/-- Outputs held by a fault, and by no shutdown, are at high impedance until the unit next wins (R397). -/
theorem Dev.releaseHold_held {held : Bool} (hout : d.arr.outputState = .highZFault) (hheld : held = false) :
    d.releaseHold held = { d with
      arr := { d.arr with outputState := .highZ }
      tow := { d.tow with won := false, latched := d.tow.latched.map (fun _ => false) } } := if_pos ⟨hout, hheld⟩

theorem Dev.releaseHold_kept {held : Bool} (h : d.arr.outputState ≠ .highZFault ∨ held = true) : d.releaseHold held = d := by
  refine if_neg ?_
  rintro ⟨hout, hheld⟩
  exact h.elim (fun hn => hn hout) fun ht => absurd ht (by simp [hheld])

end

/-- Settles O54, by one equation of each command's meaning per case. -/
theorem faultsAndClocks : Obligations.FaultsAndClocks := by
  intro v b s
  refine ⟨gives_of_upd (heartbeatMissing b) rfl rfl, fun ha => gives_of_upd (refclkLoss false) rfl (refclkLoss_lost_A ha),
    fun hb => gives_of_upd (refclkLoss true) rfl (refclkLoss_lost_B hb), fun ha hb =>
      ⟨gives_of_upd (refclkLoss false) rfl (refclkLoss_A_first ha hb),
        gives_of_upd (refclkLoss true) rfl (refclkLoss_B_first ha hb)⟩, ?faults, ?notOne, ?persists, ?restart,
    s.dev.causePersists_iff⟩
  case faults =>
    rintro fault rfl
    refine ⟨fun ha hb => gives_of_upd (refclkLoss false) rfl ?_, fun ha hb => gives_of_upd (refclkLoss true) rfl ?_,
      gives_of_upd timebasePllUnlock rfl (Dev.declareFault_eq _ 3)⟩
    · exact (refclkLoss_A_last ha hb).trans (Dev.declareFault_eq _ 3)
    · exact (refclkLoss_B_last ha hb).trans (Dev.declareFault_eq _ 3)
  case notOne =>
    intro hv
    exact answers_of_ask (deviceRestart v.toNat) rfl (deviceRestart_not_one fun h => hv (BitVec.eq_of_toNat_eq h))
  case persists => exact fun h => answers_of_ask (deviceRestart 1) rfl (deviceRestart_persists h)
  case restart =>
    rintro hgone x rfl
    refine ⟨fun hout hth => answers_of_ask (deviceRestart 1) rfl ?_, fun h => answers_of_ask (deviceRestart 1) rfl ?_⟩
    · exact (deviceRestart_ok hgone).trans (congrArg (Prod.mk Resp.ok) (Dev.releaseHold_held hout (decide_eq_false hth)))
    · exact (deviceRestart_ok hgone).trans
        (congrArg (Prod.mk Resp.ok) (Dev.releaseHold_kept (h.imp_right fun hth => decide_eq_true hth)))

end Sys2Proof.Machine
end

section
/-! The machine at reset (R33, R49, R372, R423). -/

namespace Sys2Proof.Machine

/-- Settles O2, by the reset state's fields. -/
theorem resetIsLegalAndSound : Obligations.ResetIsLegalAndSound :=
  ⟨rfl, rfl, rfl, rfl, rfl, rfl, rfl, fun _ => ⟨rfl, rfl⟩, rfl, rfl⟩

end Sys2Proof.Machine
end

section
/-! The Array Interface (R44, R46, R80, R82): column loads, the declared mate, the auxiliary converter's sequence. -/

namespace Sys2Proof.Machine

/-! ## LOAD_MEASURE -/

/-- The loads of the monitor or of the drive columns (R46). -/
def Dev.loads (d : Dev) (monitor : Bool) : Tab Nat := if monitor then d.arr.mcolumnLoad else d.arr.columnLoad

theorem Dev.load_putLoad (d : Dev) (k m : Bool) (c v j : Nat) :
    tget 0 ((d.putLoad m c v).loads k) j = if k = m ∧ j = c then v else tget 0 (d.loads k) j := by
  cases m <;> cases k <;> simp [Dev.putLoad, Dev.loads, Dev.setArr, tget_tset]

/-- Columns i to i + n - 1 of one kind read as measured, every other load as before. -/
theorem load_iter_putLoad (k m : Bool) (f : Nat → Nat) (n i : Nat) (d : Dev) (j : Nat) :
    tget 0 ((iter (fun c d => d.putLoad m c (f c)) n i d).loads k) j
      = if k = m ∧ i ≤ j ∧ j < i + n then f j else tget 0 (d.loads k) j := by
  induction n generalizing i d with
  | zero => rw [iter, if_neg (fun h => absurd h.2 (by omega))]
  | succ n ih =>
    rw [iter, ih, Dev.load_putLoad]
    by_cases hj : k = m ∧ j = i
    · obtain ⟨rfl, rfl⟩ := hj
      rw [if_neg (fun h => absurd h.2.1 (by omega)), if_pos ⟨rfl, rfl⟩, if_pos ⟨rfl, by omega⟩]
    · rw [if_neg hj]
      refine if_congr ?_ rfl rfl
      constructor
      · rintro ⟨hk, hi, hn⟩
        exact ⟨hk, by omega, by omega⟩
      · rintro ⟨hk, hi, hn⟩
        have hne : j ≠ i := fun h => hj ⟨hk, h⟩
        exact ⟨hk, by omega, by omega⟩

theorem Dev.loads_putRatio (d : Dev) (g : Nat) (k : Bool) : (d.putRatio g).loads k = d.loads k := by
  unfold Dev.putRatio Dev.loads
  dsimp only
  rw [Dev.raiseIf_arr, Dev.setArr_arr]

/-- The array registers and the Event Unit apart, y is d. -/
def Dev.Measured (d y : Dev) : Prop := ∃ a v, y = { d with arr := a, ev := v }

theorem Dev.Measured.putLoad {d y : Dev} (h : d.Measured y) (m : Bool) (c v : Nat) : d.Measured (y.putLoad m c v) := by
  obtain ⟨a, w, rfl⟩ := h
  cases m with
  | true =>
    obtain ⟨x, hraise⟩ := Dev.raiseIf_ev (Dev.setArr _ _) (decide (600 < v)) .columnLoadHigh []
    exact ⟨_, x, hraise⟩
  | false =>
    obtain ⟨x, hraise⟩ := Dev.raiseIf_ev (Dev.setArr _ _) (decide (800 < v)) .columnLoadHigh []
    exact ⟨_, x, hraise⟩

theorem Dev.Measured.putRatio {d y : Dev} (h : d.Measured y) (g : Nat) : d.Measured (y.putRatio g) := by
  obtain ⟨a, w, rfl⟩ := h
  unfold Dev.putRatio
  dsimp only
  obtain ⟨x, hraise⟩ := Dev.raiseIf_ev (Dev.setArr _ _) _ .spareLoadRatio []
  exact ⟨_, x, hraise⟩

/-- Every column's load, and each group's ratio from them. -/
def Dev.measureLoads (d : Dev) (drive monitor : List Nat) : Dev :=
  iter (fun g d => d.putRatio g) 8 0 (iter (fun c d => d.putLoad true c (monitor.getD c 0)) 264 0
    (iter (fun c d => d.putLoad false c (drive.getD c 0)) 264 0 d))

theorem Dev.measureLoads_measured (d : Dev) (drive monitor : List Nat) : d.Measured (d.measureLoads drive monitor) :=
  iter_keeps d.Measured _ _ _ _ (fun _ _ h => h.putRatio _) (iter_keeps d.Measured _ _ _ _ (fun _ _ h => h.putLoad ..)
    (iter_keeps d.Measured _ _ _ _ (fun _ _ h => h.putLoad ..) ⟨_, _, rfl⟩))

theorem Dev.load_measureLoads (d : Dev) (drive monitor : List Nat) {c : Nat} (hc : c < 264) :
    tget 0 (d.measureLoads drive monitor).arr.columnLoad c = drive.getD c 0
      ∧ tget 0 (d.measureLoads drive monitor).arr.mcolumnLoad c = monitor.getD c 0 := by
  have hratio : ∀ (k : Bool) (y : Dev), (iter (fun g d => d.putRatio g) 8 0 y).loads k = y.loads k := fun k y =>
    iter_keeps (fun x : Dev => x.loads k = y.loads k) _ _ _ _ (fun g x hx => (x.loads_putRatio g k).trans hx) rfl
  have hload : ∀ k, tget 0 ((d.measureLoads drive monitor).loads k) c = if k then monitor.getD c 0 else drive.getD c 0 := by
    intro k
    rw [Dev.measureLoads, hratio, load_iter_putLoad, load_iter_putLoad]
    cases k <;> simp [hc]
  exact ⟨hload false, hload true⟩

section
variable {d : Dev} (drive monitor : List Nat)

theorem loadMeasure_not_one {v : Nat} (h : v ≠ 1) : loadMeasure v drive monitor d = (.invalid, d) := if_pos h

theorem loadMeasure_barred (h : d.driving = true ∨ d.mateClaims = true) : loadMeasure 1 drive monitor d = (.conflict, d) := by
  rw [loadMeasure, if_neg (by decide), if_pos h]

theorem loadMeasure_measures (ho : d.driving = false) (hm : d.mateClaims = false) :
    loadMeasure 1 drive monitor d = (.ok, d.measureLoads drive monitor) := by
  rw [loadMeasure, if_neg (by decide), if_neg (by simp [ho, hm])]
  rfl

end

/-! ## TOWER_WIRED and MATE_MISSING -/

section
variable {d : Dev}

theorem towerWiredWrite_driving (b : Bool) (h : d.driving = true) : towerWiredWrite b d = (.conflict, d) := if_pos h

theorem towerWiredWrite_off (b : Bool) (h : d.driving = false) :
    towerWiredWrite b d = (.ok, d.setArrCfg (fun c => { c with towerWired := b })) := if_neg (by simp [h])

theorem mateMissing_due (hw : d.arr.wiredOn = true) (ht : d.arr.mateHeard + 1000000000 ≤ d.time.up) :
    mateMissing d = (d.setArr (fun a => { a with mateHeard := d.time.up })).raise .mateMissing := by
  refine if_pos ⟨hw, ?_⟩
  rw [Dev.mono]
  omega

theorem mateMissing_not_due (h : d.arr.wiredOn = false ∨ d.time.up < d.arr.mateHeard + 1000000000) : mateMissing d = d := by
  refine if_neg ?_
  rintro ⟨hw, ht⟩
  rw [Dev.mono] at ht
  rcases h with h | h
  · simp [h] at hw
  · omega

end

theorem runCount_setRun (l : List (EventName × Nat × Nat)) (e : EventName) (c : Nat × Nat) : runCount (setRun l e c) e = c := by
  unfold setRun
  induction l with
  | nil => simp [runCount]
  | cons x l ih =>
    by_cases hx : x.1 = e
    · simpa [List.filter_cons, hx] using ih
    · simpa [List.filter_cons, hx, runCount] using ih

/-- An event below SUPPRESS_LIMIT counts as posted in the present run (R400). -/
theorem runCount_raise {d : Dev} {e : EventName} (a : List Nat) (h : (runCount d.ev.counts e).1 < d.cfg.ev.suppressLimit) :
    (runCount (d.raise e a).ev.counts e).1 = (runCount d.ev.counts e).1 + 1 := by
  have hpost : ∀ (x : Dev) b, (x.post e a b).ev.counts = x.ev.counts := by
    intro x b
    unfold Dev.post
    dsimp only
    split <;> rfl
  rw [Dev.raise, if_pos h, hpost, runCount_setRun]

/-! ## AUX_POSITION -/

/-- What the converter's readings change beside its own registers: array, thermal and event registers. -/
def Dev.ZonesJudged (d y : Dev) : Prop := ∃ a t v, y = { d with arr := a, therm := t, ev := v }

theorem Dev.ZonesJudged.refl (d : Dev) : d.ZonesJudged d := ⟨d.arr, d.therm, d.ev, rfl⟩

section
variable {d y : Dev} (h : d.ZonesJudged y)
include h

theorem Dev.ZonesJudged.setArr (f : ArrayIf → ArrayIf) : d.ZonesJudged (y.setArr f) := by
  obtain ⟨a, t, v, rfl⟩ := h
  exact ⟨f a, t, v, rfl⟩

theorem Dev.ZonesJudged.setTherm (f : Thermal → Thermal) : d.ZonesJudged (y.setTherm f) := by
  obtain ⟨a, t, v, rfl⟩ := h
  exact ⟨a, f t, v, rfl⟩

theorem Dev.ZonesJudged.raiseIf (b : Bool) (e : EventName) (l : List Nat) : d.ZonesJudged (y.raiseIf b e l) := by
  obtain ⟨a, t, v, rfl⟩ := h
  obtain ⟨w, hraise⟩ := Dev.raiseIf_ev { d with arr := a, therm := t, ev := v } b e l
  exact ⟨a, t, w, hraise⟩

theorem Dev.ZonesJudged.raise (e : EventName) (l : List Nat) : d.ZonesJudged (y.raise e l) := h.raiseIf true e l

theorem Dev.ZonesJudged.judgeZone (z : Nat) : d.ZonesJudged (y.judgeZone z) := (h.setTherm _).raiseIf ..

theorem Dev.ZonesJudged.zoneTemps : d.ZonesJudged y.zoneTemps := by
  unfold Dev.zoneTemps
  split
  · exact h
  · exact iter_keeps d.ZonesJudged _ _ _ _ (fun z x hx => (hx.setArr _).judgeZone z) h

theorem Dev.ZonesJudged.zoneSample (z code : Nat) : d.ZonesJudged (y.zoneSample z code) := by
  have hite : ∀ (c : Prop) [Decidable c] (x w : Dev), d.ZonesJudged x → d.ZonesJudged w → d.ZonesJudged (if c then x else w) := by
    intro c _ x w hx hw
    split
    · exact hx
    · exact hw
  have hown : ∀ (c : Prop) [Decidable c] (x : Dev) f, d.ZonesJudged x → d.ZonesJudged (if c then x.setArr f else x) :=
    fun c _ x f hx => hite c _ _ (hx.setArr f) hx
  exact (hown _ _ _ (hite _ _ _ ((h.setArr _).raiseIf ..) (h.setArr _))).zoneTemps

theorem Dev.ZonesJudged.publishSupply (pos : Nat) : d.ZonesJudged (y.publishSupply pos) := by
  unfold Dev.publishSupply
  dsimp only
  split <;> simp only [h, h.setTherm]

theorem Dev.ZonesJudged.estimatePower : d.ZonesJudged y.estimatePower := by
  unfold Dev.estimatePower
  exact h.setTherm _

end

/-- Position 31 changes the reference's own registers, which hold neither the position nor the codes. -/
theorem Dev.auxReference_eq (d : Dev) (code : Nat) : ∃ r, Dev.ZonesJudged { d with rd := r } (d.auxReference code)
    ∧ r.auxPos = d.rd.auxPos ∧ r.auxRaw = d.rd.auxRaw := by
  unfold Dev.auxReference
  split
  · exact ⟨_, .refl _, rfl, rfl⟩
  · dsimp only
    split
    · exact ⟨_, (iter_keeps (Dev.ZonesJudged _) _ _ _ _ (fun z x hx => hx.judgeZone z)
        ((Dev.ZonesJudged.refl _).setArr _)).raise _ [], rfl, rfl⟩
    · exact ⟨_, .refl _, rfl, rfl⟩

/-- What the controller makes of the code kept for a position: zones, supplies, reference (R39, R82, R419). -/
def Dev.auxConvert (d : Dev) (p code : Nat) : Dev :=
  if p < 16 then d.zoneSample p code
  else if p < 30 then (if p = 29 then (d.publishSupply p).estimatePower else d.publishSupply p)
  else if p = 31 then d.auxReference code else d

theorem Dev.auxConvert_eq (d : Dev) (p code : Nat) : ∃ r, Dev.ZonesJudged { d with rd := r } (d.auxConvert p code)
    ∧ r.auxPos = d.rd.auxPos ∧ r.auxRaw = d.rd.auxRaw := by
  have hself := Dev.ZonesJudged.refl d
  unfold Dev.auxConvert
  split
  · exact ⟨d.rd, hself.zoneSample _ _, rfl, rfl⟩
  · split
    · split
      · exact ⟨d.rd, (hself.publishSupply _).estimatePower, rfl, rfl⟩
      · exact ⟨d.rd, hself.publishSupply _, rfl, rfl⟩
    · split
      · exact d.auxReference_eq code
      · exact ⟨d.rd, hself, rfl, rfl⟩

/-- AUX_POSITION outside reset: the sequence moves on, the code is kept, and the controller takes it up. -/
theorem auxPosition_runs {d : Dev} {c : Nat} (code : Nat) (h : d.boot.phase ≠ .held)
    (hc : c = if d.rd.auxPos = 30 then d.auxTdac code else code) : auxPosition code d
      = Dev.auxConvert { d with rd := { d.rd with auxPos := (d.rd.auxPos + 1) % 32, auxRaw := tset 0 d.rd.auxRaw d.rd.auxPos c } }
        d.rd.auxPos c := by
  rw [auxPosition, if_neg h, hc]
  rfl

/-- Settles O15, by one equation of each command's meaning per case. -/
theorem arrayInterface : Obligations.ArrayInterface := by
  intro v b code drive monitor s
  have hdrive : s.dev.arr.outputState = .driving → s.dev.driving = true := fun h => decide_eq_true h
  have hoff : s.dev.arr.outputState ≠ .driving → s.dev.driving = false := fun h => decide_eq_false h
  refine ⟨fun hv => ?notOne, fun h => ?barred, fun ho hm => ?measured, fun h => ?wiredBarred, fun h => ?wired,
    fun hw ht => ?missing, fun h => gives_of_upd mateMissing rfl (mateMissing_not_due h), fun h => ?aux,
    fun h => gives_of_upd (auxPosition code.toNat) rfl (if_pos h)⟩
  case notOne =>
    exact answers_of_ask (loadMeasure v.toNat drive monitor) rfl
      (loadMeasure_not_one _ _ fun h => hv (BitVec.eq_of_toNat_eq h))
  case barred => exact answers_of_ask (loadMeasure 1 drive monitor) rfl (loadMeasure_barred _ _ (h.imp_left hdrive))
  case measured =>
    refine ⟨_, answers_of_ask (loadMeasure 1 drive monitor) rfl (loadMeasure_measures _ _ (hoff ho) hm),
      fun c hc => s.dev.load_measureLoads drive monitor hc, ?_⟩
    obtain ⟨a, w, h⟩ := s.dev.measureLoads_measured drive monitor
    rw [h]
  case wiredBarred => exact answers_of_ask (towerWiredWrite b) rfl (towerWiredWrite_driving b (hdrive h))
  case wired => exact answers_of_ask (towerWiredWrite b) rfl (towerWiredWrite_off b (hoff h))
  case missing =>
    have hev : (mateMissing s.dev).ev = (s.dev.raise .mateMissing).ev := by
      rw [mateMissing_due hw ht]
      exact Dev.raise_ev_congr _ _ rfl rfl rfl rfl
    have heq : mateMissing s.dev = { s.dev with
        arr := { s.dev.arr with mateHeard := s.dev.time.up }, ev := (mateMissing s.dev).ev } := by
      rw [mateMissing_due hw ht, Dev.raise_eq]
      rfl
    have harr : (mateMissing s.dev).arr = { s.dev.arr with mateHeard := s.dev.time.up } := by rw [heq]
    refine ⟨_, gives_of_upd mateMissing rfl rfl, harr, ?_, hev, fun hlim => ?_, fun up _ hup => ?_, fun up hup => ?_⟩
    · rw [harr, ← heq]
    · rw [hev]
      exact runCount_raise [] hlim
    · refine gives_of_upd mateMissing rfl (mateMissing_not_due (.inr ?_))
      rw [harr]
      exact hup
    · refine ⟨_, gives_of_upd mateMissing rfl (mateMissing_due ?_ ?_), ?_⟩
      · rw [harr]
        exact hw
      · rw [harr]
        exact hup
      · exact congrArg ArrayIf.mateHeard (Dev.raise_arr ..)
  case aux =>
    obtain ⟨r, ⟨a, t, w, hrun⟩, hpos, hraw⟩ := Dev.auxConvert_eq _ _ _
    exact ⟨_, gives_of_upd (auxPosition code.toNat) rfl ((auxPosition_runs code.toNat h rfl).trans hrun), hpos, hraw, rfl⟩

end Sys2Proof.Machine
end

section
/-! Frames of MATE_SYNC that are kept until they are acknowledged (R182, R249, R368). -/

namespace Sys2Proof.Machine

/-- A MATE_SYNC frame is class 4, type 17 (R260, R368). -/
theorem syncFrame_header (d : Dev) (a : Nat) (p : List Byte) : (d.ownFrame 4 17 a p).cls = 4 ∧ (d.ownFrame 4 17 a p).typ = 17 := by
  simp [Frame.cls, Frame.typ, Dev.ownFrame, mkFrame, field, be, ofBe]

/-- SL2, UP and in use, carries MATE_SYNC to the mate, payloads of at most 88 bytes within any MTU (R254, R271). -/
theorem Dev.toMate_of_hasRoom {d : Dev} {p : List Byte} (hup : d.laneUp 2 = true) (hused : (d.lane 2).unused = false)
    (hp : p.length ≤ 88) (hroom : d.hasRoom 2 4 (d.ownFrame 4 17 d.net.mateAddress p)) :
    d.toMate 2 4 17 false p = (d.enqueue 2 (d.ownFrame 4 17 d.net.mateAddress p) false).nextSeq := by
  obtain ⟨hcls, htyp⟩ := syncFrame_header d d.net.mateAddress p
  have hreceives : (d.lane 2).receives = true := (Lane.receives_iff _).2 (.inr (.inr (of_decide_eq_true hup)))
  have htravel : d.mayTravel 2 (d.ownFrame 4 17 d.net.mateAddress p) = true := by
    simp [Dev.mayTravel, hreceives, hused, hup, htyp]
  have hsize : (d.ownFrame 4 17 d.net.mateAddress p).size ≤ d.mtu 2 := by
    have hframe : (d.ownFrame 4 17 d.net.mateAddress p).size ≤ 126 := by
      simp [Frame.size, Dev.ownFrame, mkFrame]
      omega
    refine hframe.trans ?_
    rw [Dev.mtu]
    split <;> decide
  rw [Dev.toMate, Dev.sendLocal]
  change (if (_ && _) = true then ((d.letIn 2 (d.ownFrame 4 17 d.net.mateAddress p) false).nextSeq) else d) = _
  rw [if_pos (by rw [Bool.and_eq_true, decide_eq_true_eq]; exact ⟨htravel, hsize⟩),
    Dev.letIn_of_hasRoom false (hcls.symm ▸ hroom)]

theorem syncBytes_length (kind status item sync : Nat) (body : List Byte) :
    (syncBytes kind status item sync body).length = 8 + body.length := by
  simp [syncBytes, be_length]
  omega

/-- What is kept of a MATE_SYNC frame sent at the present instant (R368). -/
def Dev.keptSync (d : Dev) (kind item : Nat) (body : List Byte) : Tower := { d.tow with
  syncSeq := d.tow.syncSeq + 1
  syncOut := d.tow.syncOut ++ [{ seq := d.tow.syncSeq, kind := kind, item := item, body := body, since := d.time.up, sends := 1 }] }

/-- The frame is queued under the next SYNC_SEQ and kept; the network apart, nothing else changes. -/
theorem Dev.sendKept_sent {d : Dev} {kind item : Nat} {body : List Byte} {f : Frame} (hup : d.laneUp 2 = true)
    (hused : (d.lane 2).unused = false) (hbody : body.length ≤ 80)
    (hf : f = d.ownFrame 4 17 d.net.mateAddress (syncBytes kind 0 item d.tow.syncSeq.toNat body)) (hroom : d.hasRoom 2 4 f) :
    ∃ n, d.sendKept kind item false body = { d with net := n, tow := d.keptSync kind item body }
      ∧ Queued d (d.sendKept kind item false body) 2 4 f := by
  have hsync : d.sendSync kind 0 item false body = (({ d with tow := { d.tow with syncSeq := d.tow.syncSeq + 1 } } : Dev).enqueue 2
      f false).nextSeq := by
    have hmate : d.mateUp = true := by rw [Dev.mateUp, hup, Bool.true_or]
    have hlane : d.mateLane = 2 := if_pos hup
    subst hf
    rw [Dev.sendSync]
    refine (if_pos hmate).trans ?_
    change Dev.toMate _ d.mateLane 4 17 false _ = _
    rw [hlane]
    refine Dev.toMate_of_hasRoom (d := { d with tow := { d.tow with syncSeq := d.tow.syncSeq + 1 } }) hup hused ?_ hroom
    rw [syncBytes_length]
    omega
  have hqueued := queued_enqueue { d with tow := { d.tow with syncSeq := d.tow.syncSeq + 1 } } 2 f
  rw [show f.cls = 4 by rw [hf]; exact (syncFrame_header ..).1] at hqueued
  rw [Dev.sendKept, hsync]
  exact ⟨_, rfl, hqueued⟩

end Sys2Proof.Machine
end

section
/-! FLUSH_BY_PORT, the aging pass and the commands forwarded to the mate (R243 to R249, R368). -/

namespace Sys2Proof.Machine

/-! ## FLUSH_BY_PORT -/

/-- A flush on an idle table is refused, or begins with the first bucket. -/
theorem labelCommand_flush {d : Dev} {c : LabelCmd} (hq : d.lab.queue = []) (hf : d.lab.flush = none) (hb : d.lab.busy = false)
    (hs : d.sightingsDue = false) (hc : labelCmdOk c [5] = true) : d.labelCommand c [5]
      = if d.fab.image = [] ∨ d.mapPorts ≤ c.port.toNat then d.labelTaken.completeLabel c (.host d.lab.nextId) outInvalid
        else d.labelTaken.flushStep c (.host d.lab.nextId) 0 0 := by
  have hpend : d.commandsPending = 0 := by
    rw [Dev.commandsPending, hq, hf]
    rfl
  have hstep : (d.labelQueued c).labelStep
      = if d.fab.image = [] ∨ d.mapPorts ≤ c.port.toNat then d.labelTaken.completeLabel c (.host d.lab.nextId) outInvalid
        else d.labelTaken.flushStep c (.host d.lab.nextId) 0 0 := by
    have hqueue : (d.labelQueued c).lab.queue = [(c, .host d.lab.nextId)] := by
      rw [Dev.labelQueued, hq]
      rfl
    have hflush : (d.labelQueued c).lab.flush = none := hf
    rw [Dev.labelStep, if_neg (by simp [Dev.labelQueued, hb]), hflush, hqueue]
    dsimp only
    rw [labelCmdOk_opcode hc]
    rfl
  rw [labelCommand_accepted hc (by omega), hs, if_neg (by decide), hstep]

/-- A flush that came to its end answers with the entries it removed, and goes to the mate while this unit drives. -/
theorem flushByPortDone_last {d : Dev} {c : LabelCmd} {id k n : Nat} (hf : d.lab.flush = some (c, .host id, k, n))
    (hc : c.opcode = 5) (hk : 2176 ≤ k) (hout : d.req.outstanding = []) : flushByPortDone d
      = (({ d with lab := { d.lab with
            flush := none, forward := if d.driving then d.lab.forward ++ [c] else d.lab.forward } }).putResult80
          c { resp := .ok, result := 0, count := n }).reply .ok := by
  have hdone : flushByPortDone d
      = (d.setLab (fun t => { t with flush := none })).completeLabel c (.host id) { outOk with count := n } := by
    rw [flushByPortDone, hf]
    exact if_neg (not_lt.2 hk)
  rw [hdone]
  refine (completeLabel_host (d := d.setLab (fun t => { t with flush := none })) hout).trans ?_
  rw [hc]
  change Dev.reply (if d.driving = true then _ else _) _ = _
  cases d.driving <;> rfl

theorem flushByPortDone_waits {d : Dev} {c : LabelCmd}
    (h : d.lab.flush = none ∨ ∃ o k n, d.lab.flush = some (c, o, k, n) ∧ k < 2176) : flushByPortDone d = d := by
  rcases h with h | ⟨o, k, n, h, hk⟩
  · rw [flushByPortDone, h]
  · rw [flushByPortDone, h]
    exact if_pos hk

/-! ## AGING_PASS_START -/

section
variable {d : Dev} {h : Nat} (hh : h = 500000 * d.ageNow)
include hh

theorem agingPassStart_starts (hp : d.lab.pass = none) (hr : d.dec.state = .running) (hs : d.cyc.slot = 0) (h0 : h ≠ 0)
    (ht : d.time.prevTick / h < d.time.lastTick / h) : agingPassStart d
      = { d with lab := { d.lab with
            ageOn := d.cfg.lab.ageTime, pass := if d.cfg.lab.ageTime = 0 then none else some 0 } } := by
  refine if_neg ?_
  rw [← hh]
  simp [hp, hr, hs, h0, ht]

theorem agingPassStart_not_due (hno : d.lab.pass ≠ none ∨ d.dec.state ≠ .running ∨ d.cyc.slot ≠ 0 ∨ h = 0
    ∨ d.time.lastTick / h ≤ d.time.prevTick / h) : agingPassStart d = d := by
  refine if_pos ?_
  rw [← hh, Option.isSome_iff_ne_none]
  tauto

end

/-! ## LABEL_COMMAND_FORWARD -/

theorem labelCommandForward_cons {d : Dev} {x : LabelCmd} {l : List LabelCmd} (hl : d.lab.forward = x :: l) :
    labelCommandForward d = if d.net.mateAddress = 0 ∨ d.arr.wiredOn = false then d.setLab (fun t => { t with forward := l })
      else (d.setLab (fun t => { t with forward := l })).sendKept 2 0 false (LabelCmd.bytes16 x) := by
  rw [labelCommandForward, hl]
  simp only [Bool.not_eq_true', Dev.setLab_net, Dev.setLab_arr]

theorem LabelCmd.bytes16_length (c : LabelCmd) : (LabelCmd.bytes16 c).length = 16 := by
  simp [LabelCmd.bytes16, be_length]

/-- Settles O31, by one equation of each command's meaning per case. -/
theorem labelUpkeep : Obligations.LabelUpkeep := by
  intro c s
  refine ⟨fun hc => gives_of_upd (flushByPort c) rfl (labelCommand_refused hc),
    fun hc hb => gives_of_upd (flushByPort c) rfl (labelCommand_busy hc hb),
    fun hc hp hw => gives_of_upd (flushByPort c) rfl (labelCommand_queued hc hp hw),
    fun hq hf hb hs hc n hn => ?flush,
    fun id k n hf hop hk hout => gives_of_upd flushByPortDone rfl (flushByPortDone_last hf hop hk hout),
    fun h => gives_of_upd flushByPortDone rfl (flushByPortDone_waits h), fun h hh => ⟨?_, ?_⟩, fun x l hl => ⟨?_, ?_⟩⟩
  case flush =>
    have hn' : n = s.dev.labelTaken := by rw [hn, Dev.labelTaken, ← hq]
    have hflush := labelCommand_flush hq hf hb hs hc
    clear hn
    subst hn'
    refine ⟨fun hbad hout => gives_of_upd (flushByPort c) rfl ?_, fun himg hport hit hhit => gives_of_upd (flushByPort c) rfl ?_⟩
    · exact hflush.trans ((if_pos hbad).trans (completeLabel_host hout))
    · subst hhit
      exact hflush.trans ((if_neg (by simp [himg, hport])).trans (by simp only [Dev.flushStep, Nat.zero_add]; rfl))
  · exact fun hp hr hs h0 ht => gives_of_upd agingPassStart rfl (agingPassStart_starts hh hp hr hs h0 ht)
  · exact fun hno => gives_of_upd agingPassStart rfl (agingPassStart_not_due hh hno)
  · exact fun h => gives_of_upd labelCommandForward rfl ((labelCommandForward_cons hl).trans (if_pos h))
  · intro hm hw hup hused f hf hroom
    obtain ⟨n, hsent, hqueued⟩ := Dev.sendKept_sent (d := s.dev.setLab (fun t => { t with forward := l })) hup hused
      ((LabelCmd.bytes16_length x).trans_le (by decide)) hf hroom
    refine ⟨_, gives_of_upd labelCommandForward rfl ((labelCommandForward_cons hl).trans (if_neg (by simp [hm, hw]))), ?_, hqueued,
      ?_, ?_⟩
    · rw [hsent]
      rfl
    · rw [hsent]
      rfl
    · rw [hsent]
      rfl

end Sys2Proof.Machine
end

section
/-! Calibration sweeps, refit windows and the point sets forwarded to the mate (R174 to R182, R368). -/

namespace Sys2Proof.Machine

/-! ## SWEEP_REQUEST, SWEEP_START and SWEEP_CANCEL -/

section
variable {d : Dev} {e : Nat} {force : Bool}

theorem sweepRequest_invalid (h : d.inUse e = false ∨ entryKind (d.entry e) = 3) : sweepRequest e force d = (.invalid, d) :=
  if_pos (h.imp_left fun hu => by rw [hu]; rfl)

section
variable (hu : d.inUse e = true) (hk : entryKind (d.entry e) ≠ 3)
include hu hk

theorem sweepRequest_conflict (h : d.anyLineCause (d.record e) = true ∨ d.isQueued e = true ∨ d.isSwept e = true
    ∨ (force = false ∧ (d.carries false e = true ∨ d.carries true e = true))) : sweepRequest e force d = (.conflict, d) := by
  rw [sweepRequest, if_neg (by simp [hu, hk])]
  have hbar : ∀ p q : Prop, [Decidable p] → [Decidable q] → ∀ x : Resp × Dev, p ∨ q →
      (if p then (Resp.conflict, d) else if q then (.conflict, d) else x) = (.conflict, d) := by
    intro p q _ _ x h
    by_cases hp : p
    · exact if_pos hp
    · exact (if_neg hp).trans (if_pos (h.resolve_left hp))
  refine hbar _ _ _ ?_
  rw [Bool.not_eq_true', or_assoc, or_assoc]
  exact h

theorem sweepRequest_free (hl : d.anyLineCause (d.record e) = false) (hq : d.isQueued e = false) (hs : d.isSwept e = false)
    (hc : force = true ∨ (d.carries false e = false ∧ d.carries true e = false)) : sweepRequest e force d
      = if 256 ≤ d.cal.sweepQueue.length then (.busy, d)
        else (.ok, d.setCal (fun c => { c with sweepQueue := c.sweepQueue ++ [(e, force)] })) := by
  rw [sweepRequest, if_neg (by simp [hu, hk]), if_neg (by simp [hl, hq, hs]), if_neg]
  rcases hc with hf | ⟨h1, h2⟩
  · simp [hf]
  · simp [h1, h2]

end

theorem sweepStart_cons {a : Nat} {f : Bool} {l : List (Nat × Bool)} (hq : d.cal.sweepQueue = (a, f) :: l)
    (hn : d.cal.sweeps.length < 64) (hs : d.cyc.slot = 0) : sweepStart d = Dev.raiseIf (d.setCal (fun c => { c with
      sweepQueue := l, sweeps := c.sweeps ++ [{ elem := a, start := d.cyc.ticks, code0 := (d.record a).codeND }] }))
      (f && (d.carries false a || d.carries true a)) .sweepForcedOnCircuit := by
  rw [sweepStart, hq]
  exact if_neg (by simp [hs, hn])

theorem sweepCancel_queued (h : d.isQueued e = true) : sweepCancel e d =
    (.ok, (d.setCal (fun c => { c with sweepQueue := c.sweepQueue.filter (fun p => p.1 ≠ e) })).putResult e
      { elem := e, status := 2, tempCode := tempCode (tget 0 d.arr.zoneTemp (d.record e).zone), index := 0xFF }) := if_pos h

theorem sweepCancel_swept (hq : d.isQueued e = false) (hs : d.isSwept e = true) : sweepCancel e d =
    (.ok, d.setCal (fun c => { c with
      sweeps := c.sweeps.map (fun s => if s.elem = e then { s with cancelled := true } else s) })) := by
  rw [sweepCancel, if_neg (by simp [hq]), if_pos hs]

theorem sweepCancel_none (hq : d.isQueued e = false) (hs : d.isSwept e = false) : sweepCancel e d = (.noent, d) := by
  rw [sweepCancel, if_neg (by simp [hq]), if_neg (by simp [hs])]

end

/-! ## What a sweep's end and a refit leave of the sweeps and windows -/

/-- Sweeps under way, results and refit windows. -/
def Dev.runs (d : Dev) : List Sweep × Tab SweepResult × List Refit := (d.cal.sweeps, d.cal.sweepResult, d.cal.refits)

theorem Dev.runs_ite {c : Prop} [Decidable c] {x y d : Dev} (hx : x.runs = d.runs) (hy : y.runs = d.runs) :
    (if c then x else y).runs = d.runs := by
  split
  · exact hx
  · exact hy

theorem Dev.runs_firmwarePoints (d : Dev) (e : Nat) (pts : List (Nat × Curve)) : (d.firmwarePoints e pts).2.runs = d.runs := by
  unfold Dev.firmwarePoints
  dsimp only
  split
  · rfl
  · exact Dev.runs_ite rfl rfl

theorem Dev.runs_enterCurve (d : Dev) (e : Nat) (k : Curve) : (d.enterCurve e k).runs = d.runs := by
  have hend : ∀ x : Dev, (x.endHold e).runs = x.runs := by
    intro x
    unfold Dev.endHold
    exact Dev.runs_ite rfl rfl
  exact Dev.runs_ite (hend _) (hend _)

theorem Dev.runs_resumeSwept (d : Dev) (e : Nat) : (d.resumeSwept e).runs = d.runs := by
  have hcurve := Dev.runs_ite (d := d) (c := d.pointsPoisoned e ∨ (d.curvePoisoned e ∧ !d.cal.renew.contains e)
    ∨ (!d.curvePoisoned e ∧ d.workingCurve e = d.targetCurve e)) rfl (Dev.runs_enterCurve (d.setCal (fun c => { c with
      oldPoints := c.oldPoints.filter (fun p => p.1 ≠ e), overMark := c.overMark.filter (fun x => x ≠ e) })) e (d.targetCurve e))
  exact Dev.runs_ite hcurve hcurve

theorem Dev.runs_noteLimited (d : Dev) (k : Nat) (dir : Int) : (d.noteLimited k dir).runs = d.runs := by
  unfold Dev.noteLimited Dev.runs
  dsimp only
  rw [Dev.raiseIf_cal]
  rfl

theorem Dev.runs_refitA0 (d : Dev) (e : Nat) (pts : List (Nat × Curve)) : (d.refitA0 e pts).2.runs = d.runs := by
  unfold Dev.refitA0
  split
  · exact Dev.runs_noteLimited ..
  · rfl

theorem Dev.runs_refitA1 (d : Dev) (e : Nat) (w : Refit) (pts : List (Nat × Curve)) : (d.refitA1 e w pts).2.runs = d.runs := by
  unfold Dev.refitA1
  dsimp only
  split
  · exact Dev.runs_noteLimited ..
  · rfl

theorem Dev.runs_refitStore (d : Dev) (e : Nat) (pts : List (Nat × Curve)) : (d.refitStore e pts).runs = d.runs := by
  have hpoints := d.runs_firmwarePoints e pts
  exact Dev.runs_ite rfl (Dev.runs_ite hpoints hpoints)

/-! ## SWEEP_END -/

/-- What SWEEP_END reports of sweep w of element e (R176 to R178). -/
structure SweepResult.Reports (r : SweepResult) (d : Dev) (e : Nat) (w : Sweep) : Prop where
  elem : r.elem = e
  cancelled : w.cancelled = true → r.status = 2
  status : w.cancelled = false → r.status = d.sweepJudge w ∨ (d.sweepJudge w = 0 ∧ r.status = 5)
  used : w.cancelled = false → r.used = sampledPoints w
  curve : w.cancelled = false → (⟨r.a0, r.a1, r.a2⟩ : Curve) = sweepCurve w

/-- The sweep is over 64 cycles after its return move began: its result is put, and its element goes on. -/
theorem sweepEnd_ends {d : Dev} {e : Nat} {w : Sweep} (hw : d.cal.sweeps.find? (fun x => x.elem = e) = some w)
    (hr : w.phase = .returning) (hb : w.back + 64 ≤ d.cyc.ticks) (hs : d.cyc.slot = 0) :
    ∃ (y : Dev) (r : SweepResult), sweepEnd e d = (y.putResult e r).resumeSwept e
      ∧ y.cal.sweeps = d.cal.sweeps.filter (fun s => s.elem ≠ e) ∧ r.Reports d e w := by
  have hstored : ∀ (b : Prop) [Decidable b] (y : Dev) (pts : List (Nat × Curve)),
      (if b then y.firmwarePoints e pts else (false, y)).2.cal.sweeps = y.cal.sweeps := by
    intro b _ y pts
    split
    · exact congrArg Prod.fst (y.runs_firmwarePoints e pts)
    · rfl
  have hstatus : ∀ (v : Nat) (b : Bool), (if v = 0 ∧ b = false then 5 else v) = v
      ∨ (v = 0 ∧ (if v = 0 ∧ b = false then 5 else v) = 5) := by
    intro v b
    by_cases h : v = 0 ∧ b = false
    · exact .inr ⟨h.1, if_pos h⟩
    · exact .inl (if_neg h)
  rw [sweepEnd, hw]
  dsimp only
  rw [if_pos ⟨hr, hb, hs⟩]
  cases hc : w.cancelled with
  | true => exact ⟨_, _, rfl, rfl, rfl, fun _ => rfl, by simp [hc], by simp [hc], by simp [hc]⟩
  | false =>
    rw [if_neg (by decide)]
    exact ⟨_, _, rfl, hstored _ _ _, rfl, by simp [hc], fun _ => hstatus _ _, fun _ => rfl, fun _ => rfl⟩

/-! ## REFIT_WINDOW_CLOSE and CAL_POINTS_FORWARD -/

/-- Both refits of a window of element e. -/
def Dev.applyRefits (d : Dev) (e : Nat) (w : Refit) : Dev :=
  let a := (d.takeSpare 1).refitA0 e (d.points e)
  let b := a.2.refitA1 e w a.1
  b.2.refitStore e b.1

theorem Dev.runs_applyRefits (d : Dev) (e : Nat) (w : Refit) : (d.applyRefits e w).runs = d.runs := by
  rw [Dev.applyRefits, Dev.runs_refitStore, Dev.runs_refitA1, Dev.runs_refitA0]
  rfl

/-- A window that is over ends; one that no longer holds leaves nothing else. -/
theorem refitWindowClose_over {d : Dev} {e : Nat} {w : Refit} (hw : d.cal.refits.find? (fun x => x.elem = e) = some w)
    (ht : w.start + d.cfg.cal.refitWindow ≤ d.cyc.ticks) :
    (refitWindowClose e d).cal.refits = d.cal.refits.filter (fun x => x.elem ≠ e)
      ∧ (d.refitHolds e = false → refitWindowClose e d = d.setCal (fun c => { c with
        refits := c.refits.filter (fun x => x.elem ≠ e) })) := by
  have hclose : refitWindowClose e d
      = if (!d.refitHolds e) = true then d.setCal (fun c => { c with refits := c.refits.filter (fun x => x.elem ≠ e) })
        else (d.setCal (fun c => { c with refits := c.refits.filter (fun x => x.elem ≠ e) })).applyRefits e w := by
    rw [refitWindowClose, hw]
    exact if_neg (not_lt.2 ht)
  rw [hclose]
  refine ⟨?_, fun h => if_pos (by rw [h]; rfl)⟩
  split
  · rfl
  · exact congrArg (fun p => p.2.2) (Dev.runs_applyRefits _ e w)

theorem calPointsForward_mem {d : Dev} {e : Nat} (he : e ∈ d.cal.forward) : calPointsForward e d
      = if d.net.mateAddress = 0 ∨ d.arr.wiredOn = false then
          d.setCal (fun c => { c with forward := c.forward.filter (fun x => x ≠ e) })
        else (d.setCal (fun c => { c with forward := c.forward.filter (fun x => x ≠ e) })).sendKept 1 e (d.pointsPoisoned e)
          (d.calPoints e) := by
  rw [calPointsForward, if_pos (List.contains_iff_mem.2 he)]
  simp only [Bool.not_eq_true', Dev.setCal_net, Dev.setCal_arr]
  rfl

theorem Dev.calPoints_length (d : Dev) (e : Nat) : (d.calPoints e).length = 80 := by
  rw [Dev.calPoints, List.length_append, Dev.pointBytes, Mem.bytes_eq_map, List.length_map, List.length_range]
  rfl

/-- Settles O23, by one equation of each command's meaning per case. -/
theorem sweeps : Obligations.Sweeps := by
  intro elem e force s
  refine ⟨fun h => answers_of_ask (sweepRequest elem.toNat force) rfl (sweepRequest_invalid h), fun hu hk => ⟨fun h => ?_, ?free⟩,
    fun a f l hq hn hs => ?start, fun h => ⟨_, answers_of_ask (sweepCancel elem.toNat) rfl (sweepCancel_queued h), rfl, ?_, rfl⟩,
    fun hq hs => answers_of_ask (sweepCancel elem.toNat) rfl (sweepCancel_swept hq hs),
    fun hq hs => answers_of_ask (sweepCancel elem.toNat) rfl (sweepCancel_none hq hs),
    fun w hw hr hb hs => ?sweepEnd, fun w hw ht => ?refit, fun he h => ?forwardDropped,
    fun he hm hw hup hused hpoison f hf hroom => ?forward⟩
  · exact answers_of_ask (sweepRequest elem.toNat force) rfl (sweepRequest_conflict hu hk h)
  case free =>
    intro hl hq hs hc
    have hfree := sweepRequest_free hu hk hl hq hs hc
    exact ⟨fun hn => answers_of_ask (sweepRequest elem.toNat force) rfl (hfree.trans (if_pos hn)),
      fun hn => answers_of_ask (sweepRequest elem.toNat force) rfl (hfree.trans (if_neg (not_le.2 hn)))⟩
  case start =>
    refine ⟨_, gives_of_upd sweepStart rfl (sweepStart_cons hq hn hs), ?_, ?_⟩
    · rw [Dev.raiseIf_cal]
      rfl
    · obtain ⟨v, hv⟩ := Dev.raiseIf_ev (s.dev.setCal _) _ .sweepForcedOnCircuit []
      rw [hv]
      rfl
  · exact congrArg SweepResult.status (tget_tset_same ..)
  case sweepEnd =>
    obtain ⟨y, r, hend, hsweeps, hreport⟩ := sweepEnd_ends hw hr hb hs
    have hruns := Dev.runs_resumeSwept (y.putResult e.toNat r) e.toNat
    have hresult : tget {} ((y.putResult e.toNat r).resumeSwept e.toNat).cal.sweepResult e.toNat = r := by
      rw [show ((y.putResult e.toNat r).resumeSwept e.toNat).cal.sweepResult = _ from congrArg (fun p => p.2.1) hruns]
      exact tget_tset_same ..
    refine ⟨_, gives_of_upd (sweepEnd e.toNat) rfl hend, fun x hx => ?_, ?_⟩
    · rw [show ((y.putResult e.toNat r).resumeSwept e.toNat).cal.sweeps = y.cal.sweeps from congrArg Prod.fst hruns, hsweeps] at hx
      exact of_decide_eq_true (List.mem_filter.1 hx).2
    · rw [hresult, ← hend]
      exact ⟨hreport.elem, hreport.cancelled, fun hc => ⟨hreport.status hc, hreport.used hc, hreport.curve hc⟩,
        sweepEnd_cyc e.toNat s.dev⟩
  case refit =>
    obtain ⟨hrefits, hlost⟩ := refitWindowClose_over hw ht
    refine ⟨_, gives_of_upd (refitWindowClose e.toNat) rfl rfl, hrefits, refitWindowClose_cyc e.toNat s.dev, fun h => ?_⟩
    rw [hrefits, hlost h]
    rfl
  case forwardDropped =>
    exact gives_of_upd (calPointsForward e.toNat) rfl ((calPointsForward_mem he).trans (if_pos h))
  case forward =>
    have hforward := (calPointsForward_mem he).trans (if_neg (by simp [hm, hw]))
    rw [hpoison] at hforward
    obtain ⟨n, hsent, hqueued⟩ := Dev.sendKept_sent
      (d := s.dev.setCal (fun c => { c with forward := c.forward.filter (fun x => x ≠ e.toNat) })) hup hused
      (s.dev.calPoints_length e.toNat).le hf hroom
    refine ⟨_, gives_of_upd (calPointsForward e.toNat) rfl hforward, ?_, hqueued, ?_, ?_⟩
    · rw [hsent]
      rfl
    · rw [hsent]
      rfl
    · rw [hsent]
      rfl

end Sys2Proof.Machine
end

section
/-! Checkpoint images (R360, R375): a merge-buffer entry that lists a byte twice reads otherwise once it has retired. -/

namespace Sys2Proof.Machine

/-! ## A stored byte outside the words that are written -/

/-- Memory holds byte b at address x itself: no merge-buffer entry is of x's word, and every entry's bytes lie in its own. -/
structure Mem.Holds (m : Mem) (x : Nat) (b : Byte) : Prop where
  cell : m.cell x = b
  apart : ∀ e ∈ m.merge, e.word ≠ wordOf x
  inside : ∀ e ∈ m.merge, ∀ c ∈ e.bytes, wordOf c.1 = e.word

theorem mergeEntry_eq_none {l : List MergeEntry} {a : Nat} (h : ∀ e ∈ l, e.word ≠ a) : mergeEntry l a = none := by
  induction l with
  | nil => rfl
  | cons e l ih =>
    rw [mergeEntry, if_neg (h e (List.mem_cons_self ..))]
    exact ih fun y hy => h y (List.mem_cons_of_mem _ hy)

theorem mergeEntry_mem {l : List MergeEntry} {a : Nat} {e : MergeEntry} (h : mergeEntry l a = some e) : e ∈ l ∧ e.word = a := by
  induction l with
  | nil => cases h
  | cons y l ih =>
    rw [mergeEntry] at h
    split at h
    · rename_i hy
      cases h
      exact ⟨List.mem_cons_self .., hy⟩
    · exact (ih h).imp_left (List.mem_cons_of_mem _)

theorem mem_each_tins {l : List Host.Cell} {t : Tab Byte} {c : Host.Cell} (h : c ∈ each l (fun c t => tins t c.1 c.2) t) :
    c ∈ l ∨ c ∈ t := by
  induction l generalizing t with
  | nil => exact .inr h
  | cons a l ih =>
    rcases ih h with hl | ht
    · exact .inl (List.mem_cons_of_mem _ hl)
    · rcases mem_tins ht with rfl | ht
      · exact .inl (List.mem_cons_self ..)
      · exact .inr ht

theorem cell_each_setCell {l : List Host.Cell} {x : Nat} (h : ∀ c ∈ l, c.1 ≠ x) (m : Mem) :
    (each l (fun c m => m.setCell c.1 c.2) m).cell x = m.cell x := by
  induction l generalizing m with
  | nil => rfl
  | cons a l ih =>
    refine (ih (fun c hc => h c (List.mem_cons_of_mem _ hc)) (m.setCell a.1 a.2)).trans ?_
    exact tget_tset_other _ _ _ (h a (List.mem_cons_self ..)).symm

theorem mem_cellsFrom {a : Nat} {l : List Byte} {c : Host.Cell} (h : c ∈ cellsFrom a l) : a ≤ c.1 ∧ c.1 < a + l.length := by
  induction l generalizing a with
  | nil => cases h
  | cons b l ih =>
    rw [List.length_cons]
    rcases List.mem_cons.1 h with rfl | h
    · exact ⟨le_rfl, by omega⟩
    · have := ih h
      omega

section
variable {m : Mem} {x : Nat} {b : Byte} (h : m.Holds x b)
include h

theorem Mem.Holds.byte : m.byte x = b := by
  rw [Mem.byte, mergeEntry_eq_none h.apart]
  exact h.cell

theorem Mem.Holds.retire {e : MergeEntry} (he : e ∈ m.merge) : (m.retire e).Holds x b := by
  refine ⟨?_, fun y hy => h.apart y (List.mem_filter.1 hy).1, fun y hy => h.inside y (List.mem_filter.1 hy).1⟩
  refine (cell_each_setCell (fun c hc hx => h.apart e he ?_) m).trans h.cell
  rw [← h.inside e he c hc, hx]

theorem Mem.Holds.makeRoom : m.makeRoom.Holds x b := by
  unfold Mem.makeRoom
  split
  · rename_i e l he
    split
    · exact h
    · exact h.retire (he ▸ List.mem_cons_self ..)
  · exact h

/-- A narrow write into another word. -/
theorem Mem.Holds.narrow {l : List Host.Cell} {a : Nat} (hl : ∀ c ∈ l, wordOf c.1 = a) (ha : a ≠ wordOf x) (f : Finder)
    (host : Bool) : (m.narrow l f host).Holds x b := by
  unfold Mem.narrow
  split
  · exact h
  · rename_i c l
    have hc : wordOf c.1 = a := hl c (List.mem_cons_self ..)
    have hm : ({ m with writebacks := m.writebacks.filter (fun e => e.1 ≠ a) } : Mem).Holds x b := ⟨h.cell, h.apart, h.inside⟩
    rw [hc]
    dsimp only
    split
    · rename_i e he
      obtain ⟨hmem, hword⟩ := mergeEntry_mem he
      refine ⟨h.cell, fun y hy => ?_, fun y hy z hz => ?_⟩
      · obtain ⟨w, hw, rfl⟩ := List.mem_map.1 hy
        split
        · exact h.apart e hmem
        · exact h.apart w hw
      · obtain ⟨w, hw, rfl⟩ := List.mem_map.1 hy
        split at hz
        · rename_i hwa
          rw [if_pos hwa]
          rcases mem_each_tins hz with hz | hz
          · exact (hl z hz).trans hword.symm
          · exact h.inside e hmem z hz
        · rename_i hwa
          rw [if_neg hwa]
          exact h.inside w hw z hz
    · have hroom := hm.makeRoom
      refine ⟨hroom.cell, fun y hy => ?_, fun y hy z hz => ?_⟩
      · rcases List.mem_append.1 hy with hy | hy
        · exact hroom.apart y hy
        · rw [List.mem_singleton.1 hy]
          exact ha
      · rcases List.mem_append.1 hy with hy | hy
        · exact hroom.inside y hy z hz
        · rw [List.mem_singleton.1 hy] at hz ⊢
          rcases mem_each_tins hz with hz | hz
          · exact hl z hz
          · cases hz

theorem Mem.Holds.putField {a : Nat} (ha : a % 8 = 0) (hx : a ≠ wordOf x) (w : Nat) (f : Finder) :
    (m.putField a w f).Holds x b := by
  refine h.narrow (fun c hc => ?_) hx f false
  have hin := mem_cellsFrom (List.mem_filter.1 hc).1
  rw [be_length] at hin
  unfold wordOf
  omega

theorem Mem.Holds.putFields {a : Nat} (ha : a % 8 = 0) (hx : wordOf x < a) (l : List Nat) (f : Finder) :
    (m.putFields f a l).Holds x b := by
  induction l generalizing m a with
  | nil => exact h
  | cons w l ih => exact ih (h.putField ha hx.ne' w f) (by omega) (by omega)

end

theorem Mem.Holds.mem {d : Dev} {f : Mem → Mem} {x : Nat} {b : Byte} (h : (f d.sram).Holds x b) : (d.mem f).sram.Holds x b :=
  ⟨h.cell, h.apart, h.inside⟩

theorem Mem.Holds.setElemField {d : Dev} {x : Nat} {b : Byte} (h : d.sram.Holds x b) {e : Nat} (hx : x < 0x571000)
    (lo n v : Nat) (who : Finder) : (d.setElemField e lo n v who).sram.Holds x b := by
  unfold Dev.setElemField
  exact .mem (h.putField (by unfold wordOf; omega) (by unfold wordOf elemAddr; omega) _ _)

/-- An image word restored leaves a byte below the element's record as it is stored. -/
theorem Mem.Holds.restoreWord {d : Dev} {x : Nat} {b : Byte} (h : d.sram.Holds x b) {e : Nat} (hx : wordOf x < recAddr e)
    (hlow : x < 0x571000) (w : Nat) (bad : Bool) : (d.restoreWord e w bad).sram.Holds x b := by
  have hrec : ∀ f, (d.fieldRec e .checkpointUnit f).sram.Holds x b := fun f =>
    .mem (h.putFields (by unfold recAddr; omega) hx _ _)
  have hmark : ∀ y : Dev, y.sram.Holds x b → (y.mem fun m => each (restoredWords e) (fun a m => m.mark a true) m).sram.Holds x b :=
    fun y hy => .mem (each_keeps (fun m : Mem => m.Holds x b) _ _ _ (fun a m hm => ⟨hm.cell, hm.apart, hm.inside⟩) hy)
  have hite : ∀ (p : Prop) [Decidable p] (y z : Dev), y.sram.Holds x b → z.sram.Holds x b →
      (if p then y else z).sram.Holds x b := by
    intro p _ y z hy hz
    split
    · exact hy
    · exact hz
  have hjump := fun f => (hrec f).setElemField (e := e) hlow 0 1 (ofBool (bit w 32)) .checkpointUnit
  have hcause := fun f => hite (bitsOf w 33 3 = 4) _ _
    ((hjump f).setElemField (e := e) hlow 2 3 (bitsOf w 0 32 % 8) .checkpointUnit) (hjump f)
  exact hite _ _ _ (hmark _ (hcause _)) (hcause _)

/-- The word of element e in a buffer is restored. -/
def Dev.restoreFrom (buf e : Nat) (d : Dev) : Dev :=
  d.restoreWord e (d.bufferWord buf e) (d.sram.poisoned (bufferAddr buf + 8 * e))

theorem Dev.restoreImage_eq (d : Dev) (buf : Nat) : d.restoreImage buf = each (List.range 32768) (Dev.restoreFrom buf) d := rfl

theorem each_cons {α β : Type} (a : α) (l : List α) (f : α → β → β) (b : β) : each (a :: l) f b = each l f (f a b) := rfl

theorem Mem.Holds.each_restoreFrom {x : Nat} {b : Byte} (hlow : x < 0x571000) (buf : Nat) {l : List Nat}
    (hl : ∀ e ∈ l, wordOf x < recAddr e) {d : Dev} (h : d.sram.Holds x b) :
    (each l (Dev.restoreFrom buf) d).sram.Holds x b := by
  induction l generalizing d with
  | nil => exact h
  | cons e l ih => exact ih (fun y hy => hl y (List.mem_cons_of_mem _ hy)) (h.restoreWord (hl e (List.mem_cons_self ..)) hlow _ _)

/-! ## The record's FE_TIMER -/

theorem Mem.word_mod (m : Mem) (a : Nat) : m.word a % 256 = (m.byte (a + 7)).toNat := by
  have hlt := (m.byte (a + 7)).isLt
  simp only [Mem.word, Mem.bytes, ofBe, List.foldl_cons, List.foldl_nil, Nat.add_assoc, Nat.reduceAdd]
  omega

/-- FE_TIMER is the last byte of a record's second word, or 64 in a record that nothing has formed (R107, R130). -/
theorem Dev.record_feTimer (d : Dev) (e : Nat) :
    (d.record e).feTimer = if d.formed e then (d.sram.byte (recAddr e + 15)).toNat else 64 := by
  have hword := d.sram.word_mod (recAddr e + 8)
  rw [Dev.record]
  split
  · rw [← hword]
    simp [recOf, Dev.recWord, bitsOf]
  · rfl

/-! ## IMAGE_RESIDENT -/

/-- The image becomes resident, and the last codes are taken from it (R90, R360). -/
def Dev.takeImage (d : Dev) (i : Image) : Dev :=
  ((d.setTow (fun t => { t with verified := none })).setTow (fun t => { t with
    resident := some i
    awaitImage := t.awaitImage && !(d.setTow (fun t => { t with verified := none })).mateUp })).lastFromImage i.buffer

/-- Under an equal generation memory is as the image's words restored leave it. -/
theorem imageResident_sram {d : Dev} {i : Image} (hv : d.tow.verified = some i) (hs : d.cyc.slot = 0)
    (ht : d.tow.verifiedAt < d.cyc.ticks) (hd : d.driving = false) (hw : d.tow.won = false) (hg : i.gen = d.circ.committedGen) :
    (imageResident d).sram = ((d.takeImage i).restoreImage i.buffer).sram := by
  have hcirc : (d.takeImage i).circ = d.circ := each_keeps (fun x : Dev => x.circ = d.circ) _ _ _ (fun e x hx => hx) rfl
  have hready : ¬(d.cyc.slot ≠ 0 ∨ d.ticks ≤ d.tow.verifiedAt) := by
    rw [Dev.ticks]
    omega
  have hstandby : ¬((d.setTow (fun t => { t with verified := none })).driving = true
      ∨ (d.setTow (fun t => { t with verified := none })).tow.won = true) := by
    rintro (h | h)
    · exact Bool.false_ne_true (hd.symm.trans h)
    · exact Bool.false_ne_true (hw.symm.trans h)
  have hstages : ∀ (p : Prop) [Decidable p] (x y : Dev), x.sram = y.sram → (if p then x else y).sram = y.sram := by
    intro p _ x y h
    split
    · exact h
    · rfl
  rw [imageResident, hv]
  dsimp only
  rw [if_neg hready, if_neg hstandby, ← Dev.takeImage, hcirc, if_pos hg, hstages, Dev.countImage_sram]
  rw [Dev.setTow_sram, Dev.toMate_sram]

theorem eq_imageResident_of_gives {s : State} {d : Dev} (h : Gives .imageResident s d) : d = imageResident s.dev :=
  (congrArg State.dev (Host.Outcome.next.inj h)).symm

/-! ## The unit that refutes the statement -/

/-- A verified image in buffer 0. -/
def restoredImage : Image := { cycle := 0, gen := 0, chunks := 137, buffer := 0, bankDigest := [], fabricDigest := [] }

/-- A sound memory: element 0's CODE_SLEW is 1; its image word sets JUMP_PENDING and is else 0; and the merge buffer is full, its
oldest entry holding FE_TIMER of element 0 twice, of which a reader sees 1 and a retirement stores 2 last. -/
def twiceListed : Mem := {
  cells := [(14, 1), (0x6C0003, 1)]
  merge := ⟨8, [(15, 1), (15, 2)], .other, false⟩ :: (List.range 7).map (fun k => ⟨0x560000 + 8 * k, [], .other, false⟩) }

/-- A unit that does not drive, a tick after the image was verified. -/
def restoringUnit : State := { dev := { cyc := { ticks := 1 }, tow := { verified := some restoredImage }, sram := twiceListed } }

/-- The memory is sound and meets the statement's conditions on the merge buffer. -/
theorem twiceListed_conditions : twiceListed.sound = true ∧ (twiceListed.merge.map (fun x => x.word)).Nodup
    ∧ ∀ x ∈ twiceListed.merge, ∀ c ∈ x.bytes, wordOf c.1 = x.word := by decide

/-- Element 0's record as the unit reads it. -/
theorem record_restoringUnit : (restoringUnit.dev.record 0).feTimer = 1 ∧ (restoringUnit.dev.record 0).codeSlew = 1 := by
  decide

/-- Element 0 keeps its record, but the write of its JUMP_PENDING retires the oldest entry. -/
theorem holds_restoreFrom_restoringUnit :
    ((restoringUnit.dev.takeImage restoredImage).restoreFrom restoredImage.buffer 0).sram.Holds 15 2 :=
  ⟨by decide, by decide, by decide⟩

/-- Element 0's record comes first, and the others' words lie above it. -/
theorem Mem.Holds.restoreImage {d : Dev} {x buf : Nat} {b : Byte} (h : (d.restoreFrom buf 0).sram.Holds x b) (hx : x < 64) :
    (d.restoreImage buf).sram.Holds x b := by
  have hrest : ∀ e ∈ (List.range 32767).map Nat.succ, wordOf x < recAddr e := by
    intro e he
    obtain ⟨k, -, rfl⟩ := List.mem_map.1 he
    unfold recAddr wordOf
    omega
  rw [Dev.restoreImage_eq, List.range_succ_eq_map, each_cons]
  exact h.each_restoreFrom (by omega) buf hrest

theorem holds_imageResident_restoringUnit : (imageResident restoringUnit.dev).sram.Holds 15 2 := by
  rw [imageResident_sram (i := restoredImage) rfl rfl (by decide) rfl rfl rfl]
  exact holds_restoreFrom_restoringUnit.restoreImage (by decide)

/-- Refutes O44: the conditions on the merge buffer admit an entry that lists a byte twice; the first narrow write retires it, and
element 0's FE_TIMER, which the image does not hold, then reads 2 where it read 1. -/
theorem not_checkpointImages : ¬ Obligations.CheckpointImages := by
  intro h
  obtain ⟨-, hwords, hinside⟩ := twiceListed_conditions
  obtain ⟨htimer, hslew⟩ := record_restoringUnit
  obtain ⟨-, -, -, -, -, -, -, hresident⟩ := h ⟨0, 0, 0, 0, 0, []⟩ ⟨0, 0, 0, [], [], []⟩ false restoringUnit
  obtain ⟨d, hgives, -, -, -, -, -, -, hrestored, -⟩ := (hresident restoredImage rfl rfl (by decide)).2 rfl rfl
  obtain ⟨hrecord, -⟩ := hrestored rfl hwords hinside 0 _ (by decide) rfl (by rw [hslew]; decide)
  have hkept : (d.record 0).feTimer = 1 := (congrArg Rec.feTimer hrecord).trans htimer
  have hbyte : d.sram.byte (recAddr 0 + 15) = 2 := eq_imageResident_of_gives hgives ▸ holds_imageResident_restoringUnit.byte
  rw [Dev.record_feTimer, hbyte] at hkept
  split at hkept
  · exact absurd hkept (by decide)
  · exact absurd hkept (by decide)

end Sys2Proof.Machine
end

section
/-! The cycle's rules along every step (R47 to R51): the meanings that work on the cycle unit keep its configuration legal, and
every other leaves it alone. -/

namespace Sys2Proof.Machine

/-! ## What a command may answer -/

/-- Whatever next state m answers on a state whose cycle is legal has a legal cycle. -/
def KeepsCycleLegal (m : State → Host.Outcome State Fault Refusal) : Prop :=
  ∀ s t : State, s.dev.cyc.legal = true → m s = .next t → t.dev.cyc.legal = true

namespace KeepsCycleLegal

theorem upd_of_legal {f : Dev → Dev} (hf : ∀ d : Dev, d.cyc.legal = true → (f d).cyc.legal = true) :
    KeepsCycleLegal (State.upd f) := by
  rintro s t hs ⟨⟩
  exact hf s.dev hs

theorem ask_of_legal {f : Dev → Resp × Dev} (hf : ∀ d : Dev, d.cyc.legal = true → (f d).2.cyc.legal = true) :
    KeepsCycleLegal (State.ask f) := by
  rintro s t hs ⟨⟩
  exact hf s.dev hs

theorem upd {f : Dev → Dev} (hf : ∀ d, (f d).cyc = d.cyc) : KeepsCycleLegal (State.upd f) :=
  upd_of_legal fun d hd => (congrArg Cycle.legal (hf d)).trans hd

theorem ask {f : Dev → Resp × Dev} (hf : ∀ d, (f d).2.cyc = d.cyc) : KeepsCycleLegal (State.ask f) :=
  ask_of_legal fun d hd => (congrArg Cycle.legal (hf d)).trans hd

theorem updM {f : Dev → Except Fault Dev} (hf : ∀ d d', f d = .ok d' → d'.cyc = d.cyc) :
    KeepsCycleLegal (State.updM f) := by
  intro s t hs h
  unfold State.updM at h
  split at h
  case h_1 d hd =>
    cases h
    exact (congrArg Cycle.legal (hf s.dev d hd)).trans hs
  case h_2 => cases h

end KeepsCycleLegal

/-! ## Every command -/

/-- First the commands that work on the cycle unit, among them the writes of objects, which may apply a configuration or reset
the device; then those that leave it alone. -/
theorem exec_keepsCycleLegal : ∀ c : Instr, KeepsCycleLegal (exec c)
  | .tick .. => .upd_of_legal (tick_cyc_q _)
  | .slot .. => .upd_of_legal (slot_cyc_q _)
  | .tickWindowOpen => .upd_of_legal tickWindowOpen_cyc_q
  | .armingPoint => .upd_of_legal armingPoint_cyc_q
  | .cycleApply .. => .ask_of_legal (cycleApply_cyc_q _)
  | .cycleConfigEffect => .upd_of_legal cycleConfigEffect_cyc_q
  | .fabricInForce => .upd_of_legal fabricInForce_cyc_q
  | .requestReceive .. => .upd_of_legal (requestReceive_cyc_q _)
  | .registerWrite .. => .upd_of_legal (registerWrite_cyc_q _ _ _)
  | .domainPartWrite .. => .upd_of_legal (domainPartWrite_cyc_q _ _ _ _ _ _)
  | .resetAssert => .upd_of_legal resetAssert_cyc_q
  | .firmwareApply .. => .ask_of_legal (firmwareApply_cyc_q _)
  | .deviceReset .. => .ask_of_legal (deviceReset_cyc_q _)
  | .conversionComplete .. => .upd (conversionComplete_cyc _ _ _)
  | .converterTimeout .. => .upd (converterTimeout_cyc _ _)
  | .claimWindowStart => .upd claimWindowStart_cyc
  | .claimWindowEnd .. => .upd (claimWindowEnd_cyc _ _)
  | .outputRelease => .upd outputRelease_cyc
  | .commitDone => .upd commitDone_cyc
  | .ffErrorRecord => .upd ffErrorRecord_cyc
  | .bankCopy => .upd bankCopy_cyc
  | .loadMeasure .. => .ask (loadMeasure_cyc _ _ _)
  | .towerWiredWrite .. => .ask (towerWiredWrite_cyc _)
  | .mateMissing => .upd mateMissing_cyc
  | .auxPosition .. => .upd (auxPosition_cyc _)
  | .injectRequest .. => .ask (injectRequest_cyc _ _ _ _)
  | .idleCodeWrite .. => .ask (idleCodeWrite_cyc _)
  | .rowFaultClear .. => .ask (rowFaultClear_cyc _)
  | .groupStop .. => .ask (groupStop_cyc _)
  | .groupStopForced .. => .ask (groupStopForced_cyc _)
  | .groupEnable .. => .ask (groupEnable_cyc _)
  | .groupStopped .. => .upd (groupStopped_cyc _)
  | .reverseLinearisation .. => .upd (reverseLinearisation_cyc _ _)
  | .laneUnfence .. => .ask (laneUnfence_cyc _)
  | .laneSelftestDone .. => .upd (laneSelftestDone_cyc _ _)
  | .loopStop => .ask loopStop_cyc
  | .loopStart => .ask loopStart_cyc
  | .recordFieldWrite .. => .ask (recordFieldWrite_cyc _ _ _)
  | .modeWrite .. => .ask (modeWrite_cyc _ _)
  | .setpointRequest .. => .ask (setpointRequest_cyc _ _ _)
  | .traceArm => .ask traceArm_cyc
  | .traceForce => .ask traceForce_cyc
  | .traceDisarm => .ask traceDisarm_cyc
  | .calPointsWrite .. => .ask (calPointsWrite_cyc _ _)
  | .darkCapture .. => .ask (darkCapture_cyc _)
  | .darkCaptureDone => .upd darkCaptureDone_cyc
  | .rotationStepEnd .. => .upd (rotationStepEnd_cyc _ _)
  | .spareMoveDeferred .. => .upd (spareMoveDeferred_cyc _)
  | .calColumnSkipped .. => .upd (calColumnSkipped_cyc _)
  | .calColumnRequest .. => .ask (calColumnRequest_cyc _)
  | .calRotationStop => .ask calRotationStop_cyc
  | .calRotationStart => .ask calRotationStart_cyc
  | .sweepRequest .. => .ask (sweepRequest_cyc _ _)
  | .sweepStart => .upd sweepStart_cyc
  | .sweepEnd .. => .upd (sweepEnd_cyc _)
  | .sweepCancel .. => .ask (sweepCancel_cyc _)
  | .refitWindowClose .. => .upd (refitWindowClose_cyc _)
  | .calPointsForward .. => .upd (calPointsForward_cyc _)
  | .fabricBlockWrite .. => .ask (fabricBlockWrite_cyc _ _)
  | .fabricApply .. => .ask (fabricApply_cyc _)
  | .solveStrict => .ask solveStrict_cyc
  | .solvePermissive => .ask solvePermissive_cyc
  | .solveDone .. => .upd (solveDone_cyc _)
  | .rawTargetWrite .. => .ask (rawTargetWrite_cyc _ _)
  | .circuitNextWrite .. => .ask (circuitNextWrite_cyc _ _)
  | .circuitBatch .. => .ask (circuitBatch_cyc _)
  | .nextResetCopy => .ask nextResetCopy_cyc
  | .nextResetClear => .ask nextResetClear_cyc
  | .portAttenWrite .. => .ask (portAttenWrite_cyc _ _)
  | .commit .. => .ask (commitRequest_cyc _)
  | .commitCancel .. => .ask (commitCancel_cyc _)
  | .verifyEnableWrite .. => .ask (verifyEnableWrite_cyc _)
  | .verifyTimeout .. => .upd (verifyTimeout_cyc _)
  | .quarterBit => .upd quarterBit_cyc
  | .labelGone .. => .upd (labelGone_cyc _ _)
  | .learnReadIndexWrite .. => .ask (learnReadIndexWrite_cyc _)
  | .labelInsert .. => .upd (labelInsert_cyc _)
  | .labelDelete .. => .upd (labelDelete_cyc _)
  | .labelSearch .. => .upd (labelSearch_cyc _)
  | .labelNext .. => .upd (labelNext_cyc _)
  | .flushByPort .. => .upd (flushByPort_cyc _)
  | .flushByPortDone => .upd flushByPortDone_cyc
  | .agingPassStart => .upd agingPassStart_cyc
  | .decoderStop => .ask decoderStop_cyc
  | .decoderStart => .ask decoderStart_cyc
  | .decoderStopped => .upd decoderStopped_cyc
  | .pairWrite .. => .ask (pairWrite_cyc _ _ _ _)
  | .labelCommandForward => .upd labelCommandForward_cyc
  | .frameReceive .. => .upd (frameReceive_cyc _ _ _)
  | .helloSend .. => .upd (helloSend_cyc _)
  | .helloReceive .. => .upd (helloReceive_cyc _ _)
  | .helloTimeout .. => .upd (helloTimeout_cyc _)
  | .linkLockLoss .. => .upd (linkLockLoss_cyc _ _)
  | .enumStart .. => .ask (enumStart_cyc _)
  | .enumCount .. => .upd (enumCount_cyc _ _)
  | .enumCountReply .. => .upd (enumCountReply_cyc _ _)
  | .enumAssign .. => .upd (enumAssign_cyc _ _)
  | .enumAssignDone .. => .upd (enumAssignDone_cyc _ _)
  | .enumChildTimeout .. => .upd (enumChildTimeout_cyc _)
  | .laneDisable .. => .ask (laneDisable_cyc _)
  | .laneEnable .. => .ask (laneEnable_cyc _)
  | .laneDisabled .. => .upd (laneDisabled_cyc _)
  | .bspiWriteRequest .. => .upd (bspiWriteRequest_cyc _ _)
  | .bspiReadStatus => .upd bspiReadStatus_cyc
  | .bspiReadResponse => .upd bspiReadResponse_cyc
  | .bspiCsAbort .. => .upd (bspiCsAbort_cyc _)
  | .schedulerSelect .. => .upd (schedulerSelect_cyc _)
  | .shaperRateWrite .. => .ask (shaperRateWrite_cyc _ _)
  | .shaperBurstWrite .. => .ask (shaperBurstWrite_cyc _ _)
  | .meterProfileWrite .. => .ask (meterProfileWrite_cyc _ _ _ _ _)
  | .meterInstanceFree .. => .upd (meterInstanceFree_cyc _ _)
  | .histClear .. => .ask (histClear_cyc _)
  | .timeSyncSend => .upd timeSyncSend_cyc
  | .timeSyncReceive .. => .upd (timeSyncReceive_cyc _ _ _ _)
  | .delayReqSend => .upd delayReqSend_cyc
  | .delayReqReceive .. => .upd (delayReqReceive_cyc _ _)
  | .delayRespReceive .. => .upd (delayRespReceive_cyc _ _)
  | .timeStep => .upd timeStep_cyc
  | .parentLost => .upd parentLost_cyc
  | .holdoverExpired => .upd holdoverExpired_cyc
  | .timeSet .. => .ask (timeSet_cyc _ _)
  | .timeSourceWrite .. => .ask (timeSourceWrite_cyc _)
  | .ppsInEdge => .upd ppsInEdge_cyc
  | .ppsHoldover => .upd ppsHoldover_cyc
  | .triggerSchedule .. => .ask (triggerSchedule_cyc _ _ _ _)
  | .triggerCancel .. => .ask (triggerCancel_cyc _)
  | .snapNow .. => .ask (snapNow_cyc _)
  | .snapInEdge => .upd snapInEdge_cyc
  | .describe .. => .upd (describe_cyc _)
  | .assemblyTimeout .. => .upd (assemblyTimeout_cyc _)
  | .windowFree .. => .upd (windowFree_cyc _)
  | .rightsWrite .. => .ask (rightsWrite_cyc _)
  | .checkpointSend => .upd checkpointSend_cyc
  | .checkpointReceive .. => .upd (checkpointReceive_cyc _ _)
  | .checkpointSeal .. => .upd (checkpointSeal_cyc _)
  | .imageResident => .upd imageResident_cyc
  | .imageAck .. => .upd (imageAck_cyc _)
  | .wordRequest .. => .upd (wordRequest_cyc _)
  | .wordReply .. => .upd (wordReply_cyc _ _ _ _)
  | .mateHealthSend => .upd mateHealthSend_cyc
  | .mateHealthReceive .. => .upd (mateHealthReceive_cyc _)
  | .mateSyncCalPoints .. => .upd (mateSyncCalPoints_cyc _ _ _ _)
  | .mateSyncLabelCommand .. => .upd (mateSyncLabelCommand_cyc _ _ _)
  | .mateSyncAck .. => .upd (mateSyncAck_cyc _)
  | .mateSyncResend .. => .upd (mateSyncResend_cyc _)
  | .mateSyncLost .. => .upd (mateSyncLost_cyc _)
  | .yieldReq => .ask yieldReq_cyc
  | .yieldForced => .ask yieldForced_cyc
  | .yieldTimeout => .upd yieldTimeout_cyc
  | .towerDutyDisable => .ask towerDutyDisable_cyc
  | .towerDutyEnable => .ask towerDutyEnable_cyc
  | .claimLineClear .. => .ask (claimLineClear_cyc _)
  | .claimLineMaskWrite .. => .ask (claimLineMaskWrite_cyc _)
  | .memoryUe .. => .updM (memoryUe_cyc _ _ _)
  | .correctiveWriteback .. => .updM (correctiveWriteback_cyc _)
  | .mergeRetire .. => .upd (mergeRetire_cyc _)
  | .ceLeak => .upd ceLeak_cyc
  | .scrubRead .. => .upd (scrubRead_cyc _)
  | .bankStoreScrubRead .. => .upd (bankStoreScrubRead_cyc _)
  | .scrubStart => .ask scrubStart_cyc
  | .scrubStop => .ask scrubStop_cyc
  | .scrubAutoPass => .upd scrubAutoPass_cyc
  | .recordRebuild .. => .upd (recordRebuild_cyc _ _)
  | .windowModeWrite .. => .ask (windowModeWrite_cyc _)
  | .compatLoad .. => .ask (compatLoad_cyc _)
  | .repairRow .. => .ask (repairRow_cyc _ _)
  | .repairAuto .. => .upd (repairAuto_cyc _ _)
  | .repairFuseDone => .upd repairFuseDone_cyc
  | .coreDataAbort .. => .updM (coreDataAbort_cyc _ _)
  | .heartbeatMissing .. => .upd (heartbeatMissing_cyc _)
  | .deviceRestart .. => .ask (deviceRestart_cyc _)
  | .refclkLoss .. => .upd (refclkLoss_cyc _)
  | .eventSummary => .upd eventSummary_cyc
  | .eventSend => .upd eventSend_cyc
  | .faultLogCopy => .upd faultLogCopy_cyc
  | .eventReadIndexWrite .. => .ask (eventReadIndexWrite_cyc _)
  | .faultLogClear .. => .ask (faultLogClear_cyc _)
  | .faultAck .. => .ask (faultAck_cyc _)
  | .dieSensorSample .. => .upd (dieSensorSample_cyc _)
  | .thermalRestart .. => .ask (thermalRestart_cyc _)
  | .railOutOfRange .. => .upd (railOutOfRange_cyc _)
  | .railFault .. => .upd (railFault_cyc _)
  | .railRecovered .. => .upd (railRecovered_cyc _)
  | .pumpFault .. => .upd (pumpFault_cyc _)
  | .pumpRestart .. => .upd (pumpRestart_cyc _)
  | .resetRelease .. => .upd (resetRelease_cyc _)
  | .boot => .upd boot_cyc
  | .firmwareStart => .upd firmwareStart_cyc
  | .startComplete => .upd startComplete_cyc
  | .savedDutyRestore => .upd savedDutyRestore_cyc
  | .savedStateWrite => .upd savedStateWrite_cyc
  | .firmwareBlock .. => .ask (firmwareBlock_cyc _ _)
  | .securityVersionCommit .. => .ask (securityVersionCommit_cyc _)
  | .ownerKeyInstall .. => .ask (ownerKeyInstall_cyc _)
  | .attestNonce .. => .ask (attestNonce_cyc _)
  | .savedStateErase .. => .ask (savedStateErase_cyc _)
  | .rejoin .. => .ask (rejoin_cyc _)
  | .rejoinComplete .. => .upd (rejoinComplete_cyc _)
  | .blockLockGained .. => .upd (blockLockGained_cyc _)
  | .pumpRegulating .. => .upd (pumpRegulating_cyc _)
  | .timebasePllUnlock => .upd timebasePllUnlock_cyc
  | .enumAssignTimeout => .upd enumAssignTimeout_cyc

/-- On an empty queue the clock alone moves on (R292). -/
theorem State.idle_cyc (s : State) : s.idle.dev.cyc = s.dev.cyc := by
  unfold State.idle
  split <;> rfl

/-- Settles O3, by what each command's meaning makes of the cycle unit. -/
theorem stepKeepsTheCycleLegal : Obligations.StepKeepsTheCycleLegal := by
  intro s t hs h
  unfold step at h
  split at h
  case h_1 =>
    cases h
    rwa [State.idle_cyc]
  case h_2 c q _ => exact exec_keepsCycleLegal c (s.rest q) t hs h

end Sys2Proof.Machine
end

section
/-! The writes of INJECT_REQUEST, IDLE_CODE and ROW_FAULT_CLEAR (R76, R90, R103): the checks in their order and what they
leave. -/

namespace Sys2Proof.Machine

/-! ## INJECT_REQUEST -/

/-- The first check of INJECT_REQUEST: a count out of range, or a site on a row or column that is not enabled. -/
theorem injectRequest_invalid {site count : Nat} {d : Dev} (tag : BitVec 8) (start : Nat)
    (h : d.cyc.conf.rows ≤ siteRow site ∨ d.monitorOn (siteCol site) = false ∨ count = 0 ∨ 16 < count) :
    injectRequest site count tag start d = (.invalid, d) := if_pos h

section
variable {site count : Nat} {d : Dev} (hrow : siteRow site < d.cyc.conf.rows)
  (hcol : d.monitorOn (siteCol site) = true) (hcount : count ≠ 0) (hmax : count ≤ 16)
include hrow hcol hcount hmax

theorem injectRequest_late (tag : BitVec 8) {start : Nat} (h0 : start ≠ 0) (hpast : start ≤ d.cycleNo) :
    injectRequest site count tag start d = (.late, d) := by
  rw [injectRequest, if_neg (by simp [hrow, hcol, hcount, hmax]), if_pos ⟨h0, hpast⟩]

/-- An enabled site, a count in range and a start still ahead: only the room for a 17th entry is left to check. -/
theorem injectRequest_ahead (tag : BitVec 8) {start n : Nat} (hstart : start = 0 ∨ d.cycleNo < start)
    (hn : n = if start = 0 then d.nextCycleNo else start) : injectRequest site count tag start d =
      if 16 ≤ d.rd.injects.length then (.busy, d)
      else (.ok, { d with rd := { d.rd with
        injects := InjectEntry.insert
          { site := site, count := count, tag := tag, start := n, stored := 0, nextCycle := n, id := d.rd.injectNext }
          d.rd.injects
        injectNext := d.rd.injectNext + 1 } }) := by
  subst hn
  have hahead : ¬(start ≠ 0 ∧ start ≤ d.cycleNo) := fun ⟨h0, hpast⟩ => hstart.elim h0 (not_lt.2 hpast)
  rw [injectRequest, if_neg (by simp [hrow, hcol, hcount, hmax]), if_neg hahead]
  rfl

end

/-! ## IDLE_CODE and ROW_FAULT_CLEAR -/

theorem idleCodeWrite_driving (v : Nat) {d : Dev} (h : d.driving = true) : idleCodeWrite v d = (.conflict, d) := if_pos h

theorem idleCodeWrite_off (v : Nat) {d : Dev} (h : d.driving = false) : idleCodeWrite v d =
    if 16383 < v then (.invalid, d)
    else (.ok, { d with drv := { d.drv with lastCode := [], lastFill := v }
                        cfg := { d.cfg with drv := { d.cfg.drv with idleCode := v } } }) :=
  if_neg (by simp [h])

theorem rowFaultClear_not_one {v : Nat} {d : Dev} (h : v ≠ 1) : rowFaultClear v d = (.invalid, d) := if_pos h

theorem rowFaultClear_driving {d : Dev} (h : d.driving = true) : rowFaultClear 1 d = (.conflict, d) := if_pos h

theorem rowFaultClear_off {d : Dev} (h : d.driving = false) :
    rowFaultClear 1 d = (.ok, { d with drv := { d.drv with rowFault := 0 } }) := by
  rw [rowFaultClear, if_neg (by decide), if_neg (by simp [h])]
  rfl

/-- Settles O16, by the checks of each write in their order. -/
theorem injectionAndDriveWrites : Obligations.InjectionAndDriveWrites := by
  intro r c v s
  have hinject : exec (.injectRequest r) s = s.ask (injectRequest r.site.toNat r.count.toNat r.tag r.start.toNat) := rfl
  have hdrive : s.dev.arr.outputState = .driving → s.dev.driving = true := fun h => decide_eq_true h
  have hoff : s.dev.arr.outputState ≠ .driving → s.dev.driving = false := fun h => decide_eq_false h
  have hcount : r.count = 0 ↔ r.count.toNat = 0 := BitVec.toNat_inj.symm
  have hstart : r.start = 0 ↔ r.start.toNat = 0 := BitVec.toNat_inj.symm
  refine ⟨fun h => ?invalid, fun hrow hcol hne hmax => ?valid, fun h => ?idleBarred, fun h hv => ?idleInvalid,
    fun h hv => ?idleOk, fun hv => ?clearNotOne, fun h => ?clearBarred, fun h => ?clearOk⟩
  case invalid =>
    rw [hcount] at h
    exact answers_of_ask _ hinject (injectRequest_invalid _ _ (by tauto))
  case valid =>
    rw [ne_eq, hcount] at hne
    simp only [ne_eq, hstart]
    have hahead := fun h => injectRequest_ahead (start := r.start.toNat) hrow hcol hne hmax r.tag h rfl
    exact ⟨fun h0 hpast => answers_of_ask _ hinject (injectRequest_late hrow hcol hne hmax r.tag h0 hpast),
      fun h hfull => answers_of_ask _ hinject ((hahead h).trans (if_pos hfull)),
      fun h hroom => answers_of_ask _ hinject ((hahead h).trans (if_neg (not_le.2 hroom)))⟩
  case idleBarred => exact answers_of_ask (idleCodeWrite c.toNat) rfl (idleCodeWrite_driving _ (hdrive h))
  case idleInvalid => exact answers_of_ask (idleCodeWrite c.toNat) rfl ((idleCodeWrite_off _ (hoff h)).trans (if_pos hv))
  case idleOk =>
    exact answers_of_ask (idleCodeWrite c.toNat) rfl ((idleCodeWrite_off _ (hoff h)).trans (if_neg (not_lt.2 hv)))
  case clearNotOne =>
    exact answers_of_ask (rowFaultClear v.toNat) rfl (rowFaultClear_not_one fun h => hv (BitVec.eq_of_toNat_eq h))
  case clearBarred => exact answers_of_ask (rowFaultClear 1) rfl (rowFaultClear_driving (hdrive h))
  case clearOk => exact answers_of_ask (rowFaultClear 1) rfl (rowFaultClear_off (hoff h))

end Sys2Proof.Machine
end

section
/-! Column groups (R97, R98, R337): GROUP_CONTROL's writes, and what GROUP_STOPPED makes of a group that stops or restarts. -/

namespace Sys2Proof.Machine

/-! ## Tables that tell an absent key from every value -/

theorem tfind_tins {α : Type} (t : Tab α) (j k : Nat) (v : α) : tfind (tins t k v) j = if j = k then some v else tfind t j := by
  induction t with
  | nil => simp only [tins, tfind, eq_comm]
  | cons e t ih =>
    obtain ⟨i, w⟩ := e
    simp only [tins]
    split
    · simp only [tfind, eq_comm]
    · split
      next hik =>
        subst hik
        by_cases hj : j = i
        · rw [tfind, if_pos hj.symm, if_pos hj]
        · rw [tfind, tfind, if_neg (Ne.symm hj), if_neg (Ne.symm hj), if_neg hj]
      next hik =>
        by_cases hj : i = j
        · have hjk : j ≠ k := fun h => hik (hj.trans h)
          rw [tfind, tfind, if_pos hj, if_pos hj, if_neg hjk]
        · rw [tfind, tfind, if_neg hj, if_neg hj, ih]

/-- One value written at every key of a list is found at those keys, and every other key keeps its own. -/
theorem tfind_each_tins {α : Type} (l : List Nat) (t : Tab α) (v : α) (j : Nat) :
    tfind (each l (fun k t => tins t k v) t) j = if j ∈ l then some v else tfind t j := by
  induction l generalizing t with
  | nil => simp [each]
  | cons k l ih =>
    rw [each_cons, ih, tfind_tins]
    by_cases hl : j ∈ l <;> simp [hl]

/-! ## GROUP_CONTROL -/

section
variable {g : Nat} {d : Dev}

theorem groupStop_carrying (hr : d.groupState g = .running) (hc : d.groupCarries g = true) :
    groupStop g d = (.conflict, d) := if_pos ⟨hr, hc⟩

theorem groupStop_free (h : d.groupState g ≠ .running ∨ d.groupCarries g = false) :
    groupStop g d = (.ok, d.groupWrite g 0) :=
  if_neg fun ⟨hr, hc⟩ => h.elim (fun hn => hn hr) fun hf => absurd hc (by simp [hf])

/-! ## GROUP_STOPPED -/

/-- The conditions of GROUP_STOPPED (R97): at a tick, one tick on, every drive code 0 or 4,096 ticks past. -/
structure Dev.GroupDrained (d : Dev) (g : Nat) : Prop where
  slot : d.cyc.slot = 0
  ticks : 1 ≤ tget 0 d.drv.groupTicks g
  drained : (∀ e ∈ d.groupElems g, d.lastCode (entryDrive (d.entry e)) = 0) ∨ 4096 ≤ tget 0 d.drv.groupTicks g

theorem groupStopped_stopping (hd : d.GroupDrained g) (hs : d.groupState g = .stopping) : groupStopped g d =
    (d.setDrv (fun v => { v with groupTicks := tset 0 v.groupTicks g 0 })).setGroup g .stopped :=
  (if_pos ⟨.inl hs, hd.slot, hd.ticks, by simpa using hd.drained⟩).trans (if_pos hs)

theorem groupStopped_restartPending (hd : d.GroupDrained g) (hs : d.groupState g = .restartPending) : groupStopped g d =
    (d.setDrv (fun v => { v with groupTicks := tset 0 v.groupTicks g 0 })).restartGroup g :=
  (if_pos ⟨.inr hs, hd.slot, hd.ticks, by simpa using hd.drained⟩).trans (if_neg (by simp [hs]))

end

/-! ## A group runs again -/

/-- The last codes with 0 at the drive sites of some elements. -/
def Dev.zeroCodes (d : Dev) (es : List Nat) : Tab Nat :=
  each (es.map fun e => entryDrive (d.entry e)) (fun site t => tins t site 0) d.drv.lastCode

theorem Dev.fromZero_eq (d : Dev) (e : Nat) : ∃ m v, d.fromZero e = { d with
    drv := { d.drv with lastCode := tins d.drv.lastCode (entryDrive (d.entry e)) 0 }, sram := m, memory := v } := by
  rw [Dev.fromZero, Dev.modRec, Dev.mem]
  exact ⟨_, _, rfl⟩

theorem Dev.each_fromZero_eq (es : List Nat) (d : Dev) : ∃ m v, each es (fun e d => d.fromZero e) d
    = { d with drv := { d.drv with lastCode := d.zeroCodes es }, sram := m, memory := v } := by
  induction es generalizing d with
  | nil => exact ⟨d.sram, d.memory, rfl⟩
  | cons e es ih =>
    obtain ⟨m₁, v₁, hzero⟩ := d.fromZero_eq e
    rw [each_cons, hzero]
    obtain ⟨m, v, h⟩ := ih { d with
      drv := { d.drv with lastCode := tins d.drv.lastCode (entryDrive (d.entry e)) 0 }, sram := m₁, memory := v₁ }
    exact ⟨m, v, h⟩

/-- What a group's restart leaves (R97, R142): its elements start from code 0, each by soft start. -/
theorem Dev.restartGroup_eq (d : Dev) (g : Nat) : ∃ m v, d.restartGroup g = { d with
    drv := { d.drv with
      groupState := tset .running d.drv.groupState g .running, lastCode := d.zeroCodes (d.groupElems g) }
    loop := { d.loop with
      softStart := d.loop.softStart.filter (fun p => !(d.groupElems g).contains p.1) ++ (d.groupElems g).map (fun e => (e, 0)) }
    sram := m, memory := v } := by
  obtain ⟨m, v, h⟩ := Dev.each_fromZero_eq (d.groupElems g) d
  refine ⟨m, v, ?_⟩
  rw [Dev.restartGroup, h]
  rfl

/-- Settles O17, by one equation of each write and of GROUP_STOPPED per state of the group. -/
theorem groupControl : Obligations.GroupControl := by
  intro g s
  refine ⟨fun hr hc => answers_of_ask (groupStop g) rfl (groupStop_carrying hr hc),
    fun h => answers_of_ask (groupStop g) rfl (groupStop_free h), answers_of_ask (groupStopForced g) rfl rfl,
    answers_of_ask (groupEnable g) rfl rfl, fun hslot hticks hdrained => ⟨fun hs => ?stopped, fun hs => ?restarts⟩⟩
  case stopped => exact gives_of_upd (groupStopped g) rfl (groupStopped_stopping ⟨hslot, hticks, hdrained⟩ hs)
  case restarts =>
    have hgroup := groupStopped_restartPending ⟨hslot, hticks, hdrained⟩ hs
    obtain ⟨m, v, hrestart⟩ := Dev.restartGroup_eq
      (s.dev.setDrv fun v => { v with groupTicks := tset 0 v.groupTicks g 0 }) g
    refine ⟨_, gives_of_upd (groupStopped g) rfl (hgroup.trans hrestart), rfl, fun e he => ?_, rfl, rfl⟩
    have hzero : tfind (s.dev.zeroCodes (s.dev.groupElems g)) (entryDrive (s.dev.entry e)) = some 0 := by
      rw [Dev.zeroCodes, tfind_each_tins, if_pos (List.mem_map_of_mem he)]
    exact congrArg (Option.getD · s.dev.drv.lastFill) hzero

end Sys2Proof.Machine
end

section
/-! Die sensors, thermal levels, THERMAL_RESTART, supply rails and pumps (R406 to R418). -/

namespace Sys2Proof.Machine

/-! ## Thermal levels (R409) -/

/-- The table of R409, with every sensor plausible. -/
theorem stateFrom_plausible (old : Nat) (t : Int) : stateFrom old t false false = if old = 3 ∨ 12500 ≤ t then 3
    else if 11000 ≤ t ∨ (old = 2 ∧ 10500 ≤ t) then 2
    else if 10000 ≤ t ∨ (1 ≤ old ∧ 9500 ≤ t) then 1 else 0 := by
  simp only [stateFrom, Bool.not_false, Bool.and_true, Bool.or_false, Bool.and_eq_true, Bool.not_eq_true', decide_eq_true_eq,
    decide_eq_false_iff_not, not_lt]
  split_ifs <;> omega

/-- A broken sensor brings the level to THROTTLE at least (R407). -/
theorem two_le_stateFrom_broken (old : Nat) (t : Int) (b : Bool) : 2 ≤ stateFrom old t true b := by
  simp only [stateFrom, Bool.or_true, if_true]
  split_ifs <;> decide

/-- The level after a restart: THROTTLE at most (R412). -/
theorem min_stateFrom_restart (t : Int) (b : Bool) : min 2 (stateFrom 0 t b true)
    = if b = true ∨ 11000 ≤ t then 2 else if 10000 ≤ t then 1 else 0 := by
  unfold stateFrom
  cases b
  · by_cases h2 : 11000 ≤ t
    · simp [h2]
    · by_cases h1 : 10000 ≤ t <;> simp [h1, h2]
  · simp

theorem Dev.levelEvents_ev (d : Dev) (old new : Nat) : ∃ v, d.levelEvents old new = { d with ev := v } := by
  unfold Dev.levelEvents
  split
  · refine iter_keeps (fun x => ∃ v, x = { d with ev := v }) _ _ _ d ?_ ⟨d.ev, rfl⟩
    rintro n x ⟨v, rfl⟩
    exact Dev.raise_ev _ (levelEvent n) []
  · exact d.raiseIf_ev _ _ []

/-- A reading that sets the fast sampling rate, from a on (R406). -/
def atLeast (a : Int) (r : Option Int) : Bool :=
  match r with
  | some v => a ≤ v
  | none => false

/-- A reading that lets the slow sampling rate return, below a or missing (R406). -/
def below (a : Int) (r : Option Int) : Bool :=
  match r with
  | some v => v < a
  | none => true

/-- What a sample's highest reading and level leave, before a shutdown takes effect. -/
def Dev.judged (d : Dev) (top : Int) (n : Nat) (hot cool : Bool) : Dev :=
  Dev.levelEvents { d with therm := { d.therm with
    dieTempMax := top, peak := max d.therm.peak top, state := n
    fast := d.therm.fastNext, fastNext := if hot then true else if cool then false else d.therm.fastNext
    throttleCount := if d.therm.state < 2 ∧ 2 ≤ n then d.therm.throttleCount + 1 else d.therm.throttleCount } }
    d.therm.state n

theorem Dev.judged_eq (d : Dev) (top : Int) (n : Nat) (hot cool : Bool) : ∃ v, d.judged top n hot cool = { d with
    ev := v
    therm := { d.therm with
      dieTempMax := top, peak := max d.therm.peak top, state := n
      fast := d.therm.fastNext, fastNext := if hot then true else if cool then false else d.therm.fastNext
      throttleCount := if d.therm.state < 2 ∧ 2 ≤ n then d.therm.throttleCount + 1 else d.therm.throttleCount } } :=
  Dev.levelEvents_ev _ _ n

/-- What a shutdown leaves (R411). -/
theorem Dev.shutDown_eq (d : Dev) : d.shutDown = { d with
    arr := { d.arr with outputState := .highZFault }, tow := { d.tow with driversAwake := false }
    loop := { d.loop with state := .stopped, stopCause := 1, due := none }
    rd := { d.rd with state := .off, leftOff := true, restartDue := false, conversions := [] }
    dec := { d.dec with state := .idle, chans := [] }
    therm := { d.therm with pumpH := 0, pumpL := 0 } } := rfl

theorem Dev.thermalJudge_eq (d : Dev) (sample : List (Option Int)) {top : Int} {n : Nat} {hot cool : Bool}
    (htop : d.therm.maxNow sample = top)
    (hn : stateFrom d.therm.state top (d.therm.sensorState ≠ []) ((List.range 16).all d.therm.broken) = n)
    (hhot : (decide (d.therm.sensorState ≠ []) || (List.range 16).any fun s => atLeast 10000 (reading sample s)) = hot)
    (hcool : ((List.range 16).all fun s => below 9500 (reading sample s)) = cool) :
    d.thermalJudge sample
      = if d.therm.state ≠ 3 ∧ n = 3 then (d.judged top n hot cool).shutDown else d.judged top n hot cool := by
  subst htop hn hhot hcool
  rfl

/-! ## A sample in which every sensor is plausible (R406, R408) -/

theorem map_reading (sample : List (Option Int)) : (List.range sample.length).map (reading sample) = sample := by
  refine List.ext_getElem (by simp) fun i _ hi => ?_
  rw [List.getElem_map, List.getElem_range, reading, List.getD_eq_getElem]

theorem reading_map_some {l : List Int} {i : Nat} (h : i < l.length) : reading (l.map some) i = some (l.getD i 0) := by
  simp [reading, h]

theorem Thermal.broken_eq_false {t : Thermal} (h : t.sensorState = []) (s : Nat) : t.broken s = false := by
  simp [Thermal.broken, h, tget]

section
variable {l : List Int} {top : Int} (hlen : l.length = 16)
include hlen

theorem map_reading_whole : (List.range 16).map (reading (l.map some)) = l.map some := by
  simpa [hlen] using map_reading (l.map some)

theorem any_reading_whole (f : Option Int → Bool) :
    ((List.range 16).any fun s => f (reading (l.map some) s)) = l.any fun v => f (some v) := by
  rw [← Function.comp_def f, ← List.any_map, map_reading_whole hlen, List.any_map]
  rfl

theorem all_reading_whole (f : Option Int → Bool) :
    ((List.range 16).all fun s => f (reading (l.map some) s)) = l.all fun v => f (some v) := by
  rw [← Function.comp_def f, ← List.all_map, map_reading_whole hlen, List.all_map]
  rfl

theorem filterMap_reading_whole : (List.range 16).filterMap (reading (l.map some)) = l := by
  rw [← Function.id_comp (reading _), ← List.filterMap_map, map_reading_whole hlen, List.filterMap_map, Function.id_comp,
    List.filterMap_some]

variable (htop : top ∈ l) (hmax : ∀ y ∈ l, y ≤ top)
include htop hmax

theorem Thermal.maxNow_whole {t : Thermal} (hs : t.sensorState = []) : t.maxNow (l.map some) = top := by
  have hunbroken : (List.range 16).filter (fun s => !t.broken s) = List.range 16 :=
    List.filter_eq_self.2 fun s _ => by rw [Thermal.broken_eq_false hs]; rfl
  have hmax? : l.max? = some top := List.max?_eq_some_iff.2 ⟨htop, hmax⟩
  unfold Thermal.maxNow
  dsimp only
  rw [hunbroken, filterMap_reading_whole hlen]
  cases l with
  | nil => exact absurd htop List.not_mem_nil
  | cons v l => exact Option.some.inj hmax?

theorem any_atLeast_whole (a : Int) :
    ((List.range 16).any fun s => atLeast a (reading (l.map some) s)) = decide (a ≤ top) := by
  rw [any_reading_whole hlen, Bool.eq_iff_iff, List.any_eq_true, decide_eq_true_iff]
  exact ⟨fun ⟨v, hv, ha⟩ => (of_decide_eq_true ha).trans (hmax v hv), fun ha => ⟨top, htop, decide_eq_true ha⟩⟩

theorem all_below_whole (a : Int) :
    ((List.range 16).all fun s => below a (reading (l.map some) s)) = decide (top < a) := by
  rw [all_reading_whole hlen, Bool.eq_iff_iff, List.all_eq_true, decide_eq_true_iff]
  exact ⟨fun h => of_decide_eq_true (h top htop), fun ha v hv => decide_eq_true ((hmax v hv).trans_lt ha)⟩

theorem Dev.thermalJudge_whole {d : Dev} {n : Nat} (hs : d.therm.sensorState = [])
    (hn : n = stateFrom d.therm.state top false false) :
    d.thermalJudge (l.map some) = if d.therm.state ≠ 3 ∧ n = 3 then
      (d.judged top n (10000 ≤ top) (top < 9500)).shutDown else d.judged top n (10000 ≤ top) (top < 9500) := by
  have hone : (List.range 16).all d.therm.broken = false :=
    List.all_eq_false.2 ⟨0, by simp, by simp [Thermal.broken_eq_false hs]⟩
  refine d.thermalJudge_eq _ (Thermal.maxNow_whole hlen htop hmax hs) ?_ ?_ (all_below_whole hlen htop hmax 9500)
  · rw [hone, hn, hs]
    rfl
  · rw [any_atLeast_whole hlen htop hmax, hs]
    rfl

end

/-- A sensor that stays plausible is read, and nothing else changes. -/
theorem Dev.judgeSensor_whole {d : Dev} {sample : List (Option Int)} {s : Nat} {v : Int} (hr : reading sample s = some v)
    (hs : d.therm.sensorState = []) (hb : d.therm.breaks sample s = none) :
    d.judgeSensor sample s = { d with therm := { d.therm with dieTemp := tset 0 d.therm.dieTemp s v } } := by
  have hbreaks : Thermal.breaks { d.therm with dieTemp := tset 0 d.therm.dieTemp s v } sample s = none := hb
  simp [Dev.judgeSensor, Dev.setTherm, hr, hb, Thermal.broken_eq_false hs]

/-- Every reading at its sensor's place. -/
def readTemps (l : List Int) (n i : Nat) (t : Tab Int) : Tab Int := iter (fun s t => tset 0 t s (l.getD s 0)) n i t

theorem tget_readTemps (l : List Int) (n i : Nat) (t : Tab Int) (j : Nat) :
    tget 0 (readTemps l n i t) j = if i ≤ j ∧ j < i + n then l.getD j 0 else tget 0 t j := by
  induction n generalizing i t with
  | zero => rw [if_neg (by omega)]; rfl
  | succ n ih =>
    rw [readTemps, iter, ← readTemps, ih, tget_tset]
    by_cases hij : j = i
    · rw [if_neg (by omega), if_pos hij, if_pos (by omega), hij]
    · by_cases hj : i ≤ j ∧ j < i + (n + 1)
      · rw [if_pos (by omega), if_pos hj]
      · rw [if_neg (by omega), if_neg hij, if_neg hj]

theorem iter_judgeSensor_whole {l : List Int} (n i : Nat) {d : Dev} (hs : d.therm.sensorState = [])
    (hb : ∀ s, i ≤ s → s < i + n → d.therm.breaks (l.map some) s = none) (hl : i + n ≤ l.length) :
    iter (fun s d => d.judgeSensor (l.map some) s) n i d
      = { d with therm := { d.therm with dieTemp := readTemps l n i d.therm.dieTemp } } := by
  induction n generalizing i d with
  | zero => rfl
  | succ n ih =>
    rw [iter, Dev.judgeSensor_whole (reading_map_some (by omega)) hs (hb i le_rfl (by omega))]
    exact ih (i + 1) hs (fun s h1 h2 => hb s (by omega) (by omega)) (by omega)

/-- A sample in which no sensor is or becomes broken (R406, R408). -/
theorem dieSensorSample_whole {d : Dev} {l : List Int} {top : Int} {n : Nat} (hlen : l.length = 16) (htop : top ∈ l)
    (hmax : ∀ y ∈ l, y ≤ top) (hs : d.therm.sensorState = [])
    (hb : ∀ i, i < 16 → Thermal.breaks
      { d.therm with history := (l.map some :: d.therm.history).take 1024 } (l.map some) i = none)
    (hn : n = stateFrom d.therm.state top false false) {x : Dev}
    (hx : x = Dev.judged { d with therm := { d.therm with
      history := (l.map some :: d.therm.history).take 1024, dieTemp := readTemps l 16 0 d.therm.dieTemp } }
      top n (10000 ≤ top) (top < 9500)) :
    dieSensorSample (l.map some) d = if d.therm.state ≠ 3 ∧ n = 3 then x.shutDown else x := by
  have hjudge := iter_judgeSensor_whole (l := l) 16 0
    (d := d.setTherm fun t => { t with history := (l.map some :: t.history).take 1024 }) hs
    (fun s _ h => hb s (by omega)) (by omega)
  rw [dieSensorSample, hjudge, hx]
  exact Dev.thermalJudge_whole hlen htop hmax hs hn

/-! ## A sensor that breaks (R407) -/

section
variable {d : Dev} {sample : List (Option Int)}

theorem Dev.cfg_judgeSensor (d : Dev) (sample : List (Option Int)) (s : Nat) : (d.judgeSensor sample s).cfg = d.cfg := by
  unfold Dev.judgeSensor
  dsimp only
  split
  · rw [Dev.raise_cfg]; rfl
  · split <;> rfl

theorem Dev.sensorState_judgeSensor_other {s i : Nat} (h : i ≠ s) :
    tget 0 (d.judgeSensor sample s).therm.sensorState i = tget 0 d.therm.sensorState i := by
  unfold Dev.judgeSensor
  dsimp only
  split
  · rw [Dev.raise_therm]
    exact tget_tset_other _ _ _ h
  · split
    · rw [Dev.setTherm_therm, apply_ite (tget 0 · i), tget_tset_other _ _ _ h, ite_self]
      rfl
    · rfl

theorem Dev.sensorState_judgeSensor_implausible {i : Nat} (hok : tget 0 d.therm.sensorState i = 0)
    (hbad : plausible (reading sample i) = false) : tget 0 (d.judgeSensor sample i).therm.sensorState i = 1 := by
  have hbreaks : ∀ t : Tab Int, Thermal.breaks { d.therm with dieTemp := t } sample i = some 1 := fun t => by
    simp [Thermal.breaks, Thermal.broken, hok, hbad]
  unfold Dev.judgeSensor
  dsimp only
  split
  next c hc =>
    obtain rfl : 1 = c := Option.some.inj ((hbreaks _).symm.trans hc)
    simp only [Dev.raise_therm, Dev.setTherm_therm, tget_tset_same]
  next hc => exact absurd ((hbreaks _).symm.trans hc) (by simp)

theorem sensorState_iter_judgeSensor_other (n k : Nat) {i : Nat} (h : i < k ∨ k + n ≤ i) :
    tget 0 (iter (fun s d => d.judgeSensor sample s) n k d).therm.sensorState i = tget 0 d.therm.sensorState i := by
  induction n generalizing k d with
  | zero => rfl
  | succ n ih => rw [iter, ih (k + 1) (by omega), Dev.sensorState_judgeSensor_other (by omega)]

theorem sensorState_iter_judgeSensor_implausible (n k : Nat) {i : Nat} (hk : k ≤ i) (hi : i < k + n)
    (hok : tget 0 d.therm.sensorState i = 0) (hbad : plausible (reading sample i) = false) :
    tget 0 (iter (fun s d => d.judgeSensor sample s) n k d).therm.sensorState i = 1 := by
  induction n generalizing k d with
  | zero => omega
  | succ n ih =>
    rw [iter]
    by_cases hki : i = k
    · subst hki
      rw [sensorState_iter_judgeSensor_other n (i + 1) (by omega), Dev.sensorState_judgeSensor_implausible hok hbad]
    · exact ih (k + 1) (by omega) (by omega) (by rwa [Dev.sensorState_judgeSensor_other hki])

/-- While a sensor is broken the level is THROTTLE at least, and the sensor stays as it was judged (R407, R408). -/
theorem Dev.thermalJudge_broken {i : Nat} (h : tget 0 d.therm.sensorState i = 1) :
    tget 0 (d.thermalJudge sample).therm.sensorState i = 1 ∧ 2 ≤ (d.thermalJudge sample).therm.state
      ∧ (d.thermalJudge sample).cfg = d.cfg := by
  have hany : d.therm.sensorState ≠ [] := fun hnil => by simp [hnil, tget] at h
  have hlevel := two_le_stateFrom_broken d.therm.state (d.therm.maxNow sample) ((List.range 16).all d.therm.broken)
  rw [← decide_eq_true hany] at hlevel
  rw [d.thermalJudge_eq sample rfl rfl rfl rfl, Dev.shutDown_eq]
  obtain ⟨v, hjudged⟩ := Dev.judged_eq d _ _ _ _
  rw [hjudged]
  split <;> exact ⟨h, hlevel, rfl⟩

theorem dieSensorSample_implausible {i : Nat} (hi : i < 16) (hok : tget 0 d.therm.sensorState i = 0)
    (hbad : plausible (reading sample i) = false) :
    tget 0 (dieSensorSample sample d).therm.sensorState i = 1 ∧ 2 ≤ (dieSensorSample sample d).therm.state
      ∧ (dieSensorSample sample d).cfg = d.cfg ∧ (dieSensorSample sample d).sram = d.sram := by
  have hbroken := sensorState_iter_judgeSensor_implausible 16 0
    (d := d.setTherm fun t => { t with history := (sample :: t.history).take 1024 }) (by omega) (by omega) hok hbad
  have hcfg := iter_keeps (fun x => x.cfg = d.cfg) (fun s d => Dev.judgeSensor d sample s) 16 0
    (d.setTherm fun t => { t with history := (sample :: t.history).take 1024 })
    (fun s x hx => (x.cfg_judgeSensor sample s).trans hx) rfl
  obtain ⟨hstays, hlevel, hkept⟩ := Dev.thermalJudge_broken (sample := sample) hbroken
  have hsram := dieSensorSample_sram sample d
  rw [dieSensorSample] at hsram ⊢
  exact ⟨hstays, hlevel, hkept.trans hcfg, hsram⟩

end

/-! ## THERMAL_RESTART (R412) -/

section
variable {d : Dev}

theorem thermalRestart_not_one {v : Nat} (h : v ≠ 1) : thermalRestart v d = (.invalid, d) := if_pos h

theorem thermalRestart_barred (h : d.therm.state ≠ 3 ∨ d.stillHot = true) : thermalRestart 1 d = (.conflict, d) := by
  rw [thermalRestart, if_neg (by decide), if_pos h]

theorem thermalRestart_cool (hs : d.therm.state = 3) (hc : d.stillHot = false) {n : Nat}
    (hn : n = if d.therm.sensorState ≠ [] ∨ 11000 ≤ d.therm.dieTempMax then 2
      else if 10000 ≤ d.therm.dieTempMax then 1 else 0) {x : Dev}
    (hx : x = { d with
      therm := { d.therm with
        state := n, pumpH := 1, pumpL := 1
        throttleCount := if n = 2 then d.therm.throttleCount + 1 else d.therm.throttleCount }
      rd := { d.rd with restartDue := true } }) :
    thermalRestart 1 d = (.ok, (x.releaseHold (d.ev.deviceFault ≠ 0)).raise (levelEvent n)) := by
  have hlevel : min 2 (stateFrom 0 d.therm.dieTempMax (d.therm.sensorState ≠ []) true) = n := by
    simp only [min_stateFrom_restart, decide_eq_true_eq, hn]
  rw [thermalRestart, if_neg (by decide), if_neg (by simp [hs, hc])]
  dsimp only
  rw [hlevel, hx]
  rfl

end

/-! ## Rails and pumps (R415, R418) -/

section
variable {d : Dev} {r p : Nat}

theorem railOutOfRange_good (h : d.railState r = 0) : railOutOfRange r d = (d.setRail r 1).raise .railOutOfRange [r] :=
  if_pos h

theorem railOutOfRange_shown (h : d.railState r ≠ 0) : railOutOfRange r d = d := if_neg h

theorem railFault_shown (h : d.railState r = 2) : railFault r d = d := if_pos h

theorem railFault_new (h : d.railState r ≠ 2) : railFault r d = ((d.setRail r 2).declareFault 4).raise .railFault [r] :=
  if_neg h

theorem pumpFault_used (h : d.pump p = 1 ∨ d.pump p = 2) : pumpFault p d = (d.setPump p 3).raise .pumpFault [p] := if_pos h

theorem pumpFault_unused (h : d.pump p = 0 ∨ d.pump p = 3) : pumpFault p d = d := if_neg (by omega)

theorem pumpRestart_faulted (h : d.pump p = 3) : pumpRestart p d = d.setPump p 1 := if_pos h

theorem pumpRestart_other (h : d.pump p ≠ 3) : pumpRestart p d = d := if_neg h

theorem pumpRegulating_starting (h : d.pump p = 1) : pumpRegulating p d = d.setPump p 2 := if_pos h

theorem pumpRegulating_other (h : d.pump p ≠ 1) : pumpRegulating p d = d := if_neg h

end

theorem Dev.setPump_eq (d : Dev) (p n : Nat) : d.setPump p n = { d with therm := { d.therm with
    pumpH := (d.setPump p n).therm.pumpH, pumpL := (d.setPump p n).therm.pumpL } } := by
  unfold Dev.setPump
  split <;> rfl

theorem Dev.pump_setPump (d : Dev) (p q : Fin 2) (n : Nat) : (d.setPump p n).pump q = if q = p then n else d.pump q := by
  match p, q with
  | 0, 0 => rfl
  | 0, 1 => rfl
  | 1, 0 => rfl
  | 1, 1 => rfl

/-- Settles O56, by one equation of each command's meaning per case. -/
theorem thermalAndSupply : Obligations.ThermalAndSupply := by
  intro v l top r p s
  refine ⟨?sample, stateFrom_plausible, fun i sample hi hok hbad => ?broken, ?notOne, ?barred, ?restart,
    fun h => gives_of_upd (railOutOfRange r) rfl (railOutOfRange_good h),
    fun h => gives_of_upd (railOutOfRange r) rfl (railOutOfRange_shown h),
    fun h => gives_of_upd (railFault r) rfl (railFault_shown h), fun h => gives_of_upd (railFault r) rfl ?fault,
    gives_of_upd (railRecovered r) rfl rfl, fun h => gives_of_upd (pumpFault p) rfl (pumpFault_used h),
    fun h => gives_of_upd (pumpFault p) rfl (pumpFault_unused h),
    fun h => gives_of_upd (pumpRestart p) rfl (pumpRestart_faulted h),
    fun h => gives_of_upd (pumpRestart p) rfl (pumpRestart_other h),
    fun h => gives_of_upd (pumpRegulating p) rfl (pumpRegulating_starting h),
    fun h => gives_of_upd (pumpRegulating p) rfl (pumpRegulating_other h),
    fun q n => ⟨s.dev.pump_setPump p q n, s.dev.setPump_eq p n⟩⟩
  case sample =>
    intro hlen htop hmax hs hb n hn
    obtain ⟨x, hx⟩ : ∃ x, x = Dev.judged { s.dev with therm := { s.dev.therm with
      history := (l.map some :: s.dev.therm.history).take 1024, dieTemp := readTemps l 16 0 s.dev.therm.dieTemp } }
      top n (10000 ≤ top) (top < 9500) := ⟨_, rfl⟩
    have hgives := gives_of_upd (c := .dieSensorSample (l.map some)) (dieSensorSample (l.map some)) rfl
      (dieSensorSample_whole hlen htop hmax hs hb hn hx)
    have htemp : x.therm.dieTemp = readTemps l 16 0 s.dev.therm.dieTemp := by
      obtain ⟨w, hjudged⟩ := Dev.judged_eq _ top n (10000 ≤ top) (top < 9500)
      rw [hx, hjudged]
    refine ⟨_, hgives, x, fun i hi => ?_, ?_, fun h => if_neg (by tauto), fun h hn => (if_pos ⟨h, hn⟩).trans x.shutDown_eq⟩
    · rw [htemp, tget_readTemps, if_pos (by omega)]
    · rw [htemp, hx, Dev.judged]
      simp only [decide_eq_true_eq]
  case broken =>
    exact ⟨_, gives_of_upd (dieSensorSample sample) rfl rfl, dieSensorSample_implausible hi hok hbad⟩
  case notOne =>
    exact fun hv => answers_of_ask (thermalRestart v.toNat) rfl (thermalRestart_not_one fun h => hv (BitVec.eq_of_toNat_eq h))
  case barred => exact fun h => answers_of_ask (thermalRestart 1) rfl (thermalRestart_barred h)
  case restart =>
    intro hs hc n hn x hx
    have hrestart := thermalRestart_cool hs hc hn hx
    refine ⟨fun hout hfault => answers_of_ask (thermalRestart 1) rfl ?_, fun h => answers_of_ask (thermalRestart 1) rfl ?_⟩
    · rw [hrestart, Dev.releaseHold_held (by rw [hx]; exact hout) (by simp [hfault]), hx]
    · rw [hrestart, Dev.releaseHold_kept (by rw [hx]; simpa using h)]
  case fault => rw [railFault_new h, Dev.declareFault_eq]; rfl

end Sys2Proof.Machine
end

section
/-! The element record in its eight words (R107, R121): what the words spell, and what is read after the record is written whole. -/

namespace Sys2Proof.Machine

/-! ## Fields packed and read back -/

theorem pack_lt (l : List (Nat × Nat)) : pack l < 2 ^ (l.map Prod.fst).sum := by
  induction l with
  | nil => simp [pack]
  | cons x l ih =>
    obtain ⟨n, v⟩ := x
    have hv : v % 2 ^ n < 2 ^ n := Nat.mod_lt _ (Nat.two_pow_pos n)
    have hl : 2 ^ n * (pack l + 1) ≤ 2 ^ n * 2 ^ (l.map Prod.fst).sum := Nat.mul_le_mul_left _ ih
    rw [pack, List.map_cons, List.sum_cons, pow_add]
    linarith [Nat.mul_succ (2 ^ n) (pack l)]

/-- The lowest field. -/
theorem bitsOf_pack_zero (n v : Nat) (l : List (Nat × Nat)) : bitsOf (pack ((n, v) :: l)) 0 n = v % 2 ^ n := by
  rw [bitsOf, pack, pow_zero, Nat.div_one, Nat.add_mul_mod_self_left, Nat.mod_mod]

/-- The fields above the lowest. -/
theorem bitsOf_pack_skip (n v m : Nat) (l : List (Nat × Nat)) {lo : Nat} (h : n ≤ lo) :
    bitsOf (pack ((n, v) :: l)) lo m = bitsOf (pack l) (lo - n) m := by
  have hv : v % 2 ^ n / 2 ^ n = 0 := Nat.div_eq_of_lt (Nat.mod_lt _ (Nat.two_pow_pos n))
  rw [bitsOf, bitsOf, pack, ← Nat.add_sub_cancel' h, pow_add, ← Nat.div_div_eq_div_mul,
    Nat.add_mul_div_left _ _ (Nat.two_pow_pos n), hv, Nat.zero_add, Nat.add_sub_cancel_left]

theorem bit_eq_bitsOf (w n : Nat) : bit w n = decide (bitsOf w n 1 = 1) := by rw [bit, bitsOf, pow_one]

theorem ofBool_mod_two (b : Bool) : decide (ofBool b % 2 ^ 1 = 1) = b := by cases b <;> rfl

/-- A number within n-bit two's complement is what its code reads. -/
theorem signed_code {n : Nat} {v : Int} (hn : 0 < n) (hlo : -(2 ^ (n - 1) : Int) ≤ v) (hhi : v < 2 ^ (n - 1)) :
    signed n (code n v % 2 ^ n) = v := by
  obtain ⟨k, rfl⟩ : ∃ k, n = k + 1 := ⟨n - 1, by omega⟩
  rw [Nat.add_sub_cancel] at hlo hhi
  have hpos : (0 : Int) < 2 ^ k := by positivity
  have hcode : ((code (k + 1) v : Nat) : Int) = v % 2 ^ (k + 1) := Int.toNat_of_nonneg (Int.emod_nonneg _ (by positivity))
  have hlt : code (k + 1) v < 2 ^ (k + 1) := by
    have := Int.emod_lt_of_pos v (show (0 : Int) < 2 ^ (k + 1) by positivity)
    zify
    rwa [hcode]
  have hcast : (code (k + 1) v < 2 ^ k) ↔ v % 2 ^ (k + 1) < 2 ^ k := by
    rw [← hcode]
    norm_cast
  rw [Nat.mod_eq_of_lt hlt, signed, Nat.add_sub_cancel, hcode]
  simp only [hcast]
  rw [pow_succ] at *
  by_cases hv : 0 ≤ v
  · rw [Int.emod_eq_of_lt hv (by linarith), if_pos hhi]
  · rw [← Int.add_emod_right, Int.emod_eq_of_lt (by linarith) (by linarith), if_neg (by linarith)]
    ring

/-- The record that the words of a record spell is the record (R107). -/
theorem recOf_words {r : Rec} (h : r.fits = true) : recOf (fun i => r.words.getD i 0) = r := by
  simp only [Rec.fits, Bool.and_eq_true, decide_eq_true_eq, Nat.reduceSub] at h
  simp only [recOf, Rec.words, List.getD_cons_zero, List.getD_cons_succ, sbitsOf, bit_eq_bitsOf, bitsOf_pack_skip,
    bitsOf_pack_zero, Nat.reduceLeDiff, Nat.reduceSub, ofBool_mod_two]
  simp only [Nat.mod_eq_of_lt, signed_code, Nat.ofNat_pos, Nat.reduceSub, h]

theorem pack_lt_word {l : List (Nat × Nat)} (h : (l.map Prod.fst).sum = 64) : pack l < 2 ^ 64 := h ▸ pack_lt l

theorem Rec.words_lt (r : Rec) : ∀ w ∈ r.words, w < 2 ^ 64 := by
  simp only [Rec.words, List.forall_mem_cons]
  refine ⟨pack_lt_word ?_, pack_lt_word ?_, pack_lt_word ?_, pack_lt_word ?_, pack_lt_word ?_, pack_lt_word ?_, pack_lt_word ?_,
    pack_lt_word ?_, ?_⟩
  all_goals simp

/-! ## A record written whole -/

section
variable (m : Mem)

theorem Mem.word_congr {m m' : Mem} {a b : Nat} (h : ∀ i, i < 8 → m'.byte (a + i) = m.byte (b + i)) : m'.word a = m.word b := by
  rw [Mem.word, Mem.word, Mem.bytes_eq_map, Mem.bytes_eq_map]
  exact congrArg ofBe (List.map_congr_left fun i hi => h i (List.mem_range.1 hi))

/-- Words written in a row read back, each in its place (R376). -/
theorem Mem.word_putWords {a k : Nat} {l : List Nat} (ha : a % 8 = 0) (hk : k < l.length) (hl : ∀ w ∈ l, w < 2 ^ 64) :
    (m.putWords a l).word (a + 8 * k) = l.getD k 0 := by
  induction l generalizing m a k with
  | nil => exact absurd hk (Nat.not_lt_zero _)
  | cons w l ih =>
    cases k with
    | zero =>
      have hfirst : ((m.putWord a w).putWords (a + 8) l).word (a + 8 * 0) = (m.putWord a w).word a :=
        Mem.word_congr fun i hi => putWords_byte_other _ _ _ (by omega) (.inl (by omega))
      rw [Mem.putWords, hfirst, Mem.word_putWord m ha (hl w (List.mem_cons_self ..)), List.getD_cons_zero]
    | succ k =>
      rw [Mem.putWords, show a + 8 * (k + 1) = a + 8 + 8 * k by omega, List.getD_cons_succ]
      exact ih _ (by omega) (Nat.lt_of_succ_lt_succ hk) fun x hx => hl x (List.mem_cons_of_mem _ hx)

/-- A full-word write clears the word's mark and no other. -/
theorem Mem.poison_putWord (a w x : Nat) :
    tget false (m.putWord a w).poison x = if x = wordOf a then false else tget false m.poison x := by
  have hpoison : (m.putWord a w).poison = tset false m.poison (wordOf a) false := by
    have hcells : ∀ (n : Mem) (b : Nat) (l : List Byte), (n.setCells b l).poison = n.poison := by
      intro n b l
      induction l generalizing n b with
      | nil => rfl
      | cons c l ih => exact ih _ _
    unfold Mem.putWord Mem.putBytes8
    dsimp only
    split <;> exact congrArg (fun p => tset false p (wordOf a) false) (hcells _ _ _)
  rw [hpoison, tget_tset]

theorem Mem.poison_putWords {a x : Nat} {l : List Nat} (h : tget false m.poison x = false ∨ a ≤ x ∧ x < a + 8 * l.length)
    (ha : a % 8 = 0) (hx : x % 8 = 0) : tget false (m.putWords a l).poison x = false := by
  induction l generalizing m a with
  | nil => exact h.resolve_right fun ⟨h1, h2⟩ => absurd h2 (not_lt.2 h1)
  | cons w l ih =>
    refine ih (m.putWord a w) ?_ (by omega)
    rw [Mem.poison_putWord, show wordOf a = a by unfold wordOf; omega]
    by_cases hxa : x = a
    · exact .inl (if_pos hxa)
    · rw [if_neg hxa]
      rw [List.length_cons] at h
      exact h.imp_right fun ⟨h1, h2⟩ => ⟨by omega, by omega⟩

end

theorem Dev.word_mem (d : Dev) (f : Mem → Mem) (a : Nat) : (d.mem f).sram.word a = (f d.sram).word a :=
  Mem.word_congr fun _ _ => mem_byte ..

theorem Dev.poison_mem (d : Dev) (f : Mem → Mem) : (d.mem f).sram.poison = (f d.sram).poison := rfl

theorem Dev.recWord_putRec (d : Dev) (e : Nat) (r : Rec) {k : Nat} (hk : k < 8) : (d.putRec e r).recWord e k = r.words.getD k 0 := by
  rw [Dev.recWord, Dev.putRec, Dev.word_mem]
  exact d.sram.word_putWords (by unfold recAddr; omega) (by rwa [words_length]) r.words_lt

theorem recOf_congr {v w : Nat → Nat} (h : ∀ k, k < 8 → v k = w k) : recOf v = recOf w := by
  simp [recOf, h]

/-- A record written whole reads back; that CODE_SLEW is not 0 tells it from one that nothing has formed (R130). -/
theorem Dev.record_putRec (d : Dev) (e : Nat) {r : Rec} (h : r.fits = true) (hslew : r.codeSlew ≠ 0) :
    (d.putRec e r).record e = r := by
  have hread : recOf ((d.putRec e r).recWord e) = r :=
    (recOf_congr fun k hk => d.recWord_putRec e r hk).trans (recOf_words h)
  have hformed : (d.putRec e r).formed e = true := by
    refine List.any_eq_true.2 ⟨1, by decide, decide_eq_true fun hzero => hslew ?_⟩
    rw [← hread]
    simp [recOf, hzero, bitsOf]
  rw [Dev.record, if_pos hformed, hread]

/-- Settles O5: each field lies at its place among the words, and each word reads back what was written. -/
theorem recordRoundTrip : Obligations.RecordRoundTrip := by
  intro r e d h
  have haddr : recAddr e % 8 = 0 := by unfold recAddr; omega
  have hsize : recAddr e + 8 * r.words.length = 64 * (e + 1) := by rw [words_length]; unfold recAddr; omega
  refine ⟨recOf_words h, fun _ hslew => ⟨d.record_putRec e h hslew, fun w hw => ?_, fun a ha => ?_⟩⟩
  · rw [Dev.putRec, Dev.poison_mem]
    exact d.sram.poison_putWords (.inr ⟨Nat.le_add_right .., by rw [hsize]; omega⟩) haddr (by omega)
  · rw [Dev.putRec, mem_byte]
    exact putWords_byte_other _ _ _ haddr (by rwa [hsize])

end Sys2Proof.Machine
end

section
/-! The works in spare issue slots: reverse linearisations, and the self-test of a fenced lane (R106, R122, R126, R127). -/

namespace Sys2Proof.Machine

/-! ## REVERSE_LINEARISATION -/

/-- The reverse linearisations that wait, and the spare issue slots taken in this cycle. -/
def Dev.spareWork (d : Dev) : List (Nat × Nat × Bool) × Nat := (d.loop.reverse, d.loop.spareNow)

/-- The fence of a lane, or the device fault in its place, leaves the works in spare slots alone. -/
theorem Dev.spareWork_fenceLane (d : Dev) (l : Nat) : (d.fenceLane l).spareWork = d.spareWork := by
  unfold Dev.fenceLane
  split
  · rfl
  · split
    · rw [Dev.declareFault_eq, Dev.spareWork, Dev.raise_loop]
      rfl
    · rfl

theorem Dev.spareWork_mismatch (d : Dev) (l e : Nat) : (d.mismatch l e).spareWork = d.spareWork := by
  unfold Dev.mismatch
  dsimp only
  split
  · rw [Dev.spareWork_fenceLane, Dev.spareWork, Dev.raise_loop]
    rfl
  · rw [Dev.spareWork, Dev.raise_loop]
    rfl

section
variable {d : Dev} {e : Nat}

theorem reverseLinearisation_none (bad : Option Nat) (h : tfind d.loop.reverse e = none) :
    reverseLinearisation e bad d = d := by
  rw [reverseLinearisation, h]

theorem reverseLinearisation_mismatch (l : Nat) (h : (tfind d.loop.reverse e).isSome = true) :
    reverseLinearisation e (some l) d = (d.takeSpare 1).mismatch l e := by
  obtain ⟨⟨c, limit⟩, hp⟩ := Option.isSome_iff_exists.1 h
  rw [reverseLinearisation, hp]

/-- Without a mismatch the request is taken from the waiting list, and PHI_OUT is written. -/
theorem reverseLinearisation_runs {c : Nat} {limit : Bool} (h : tfind d.loop.reverse e = some (c, limit)) :
    reverseLinearisation e none d = Dev.modRec { d with loop := { d.loop with
      spareNow := d.loop.spareNow + 1, reverse := d.loop.reverse.filter (fun p => p.1 ≠ e) } } e
      (fun r => { r with phiOut := (d.workingCurve e).reverse c (d.record e).phiOut (d.record e).phiMin (d.record e).phiMax limit }) := by
  rw [reverseLinearisation, h]
  rfl

end

/-! ## LANE_UNFENCE and LANE_SELFTEST_DONE -/

section
variable {d : Dev} {l : Nat}

theorem laneUnfence_invalid (h : 15 < l) : laneUnfence l d = (.invalid, d) := if_pos h

section
variable (hl : l ≤ 15)
include hl

theorem laneUnfence_conflict (h : d.loop.fenced.getLsbD l = false) : laneUnfence l d = (.conflict, d) := by
  rw [laneUnfence, if_neg (not_lt.2 hl), if_pos h]

/-- The self-test of a fenced lane runs once. -/
theorem laneUnfence_fenced (h : d.loop.fenced.getLsbD l = true) : laneUnfence l d = (.ok, { d with loop := { d.loop with
    selftests := if l ∈ d.loop.selftests then d.loop.selftests else d.loop.selftests ++ [l] } }) := by
  rw [laneUnfence, if_neg (not_lt.2 hl), if_neg (by simp [h])]
  simp only [List.contains_iff_mem]
  rfl

end

theorem laneSelftestDone_none (pass : Bool) (h : l ∉ d.loop.selftests) : laneSelftestDone l pass d = d :=
  if_neg fun hc => h (List.contains_iff_mem.1 hc)

/-- The lane is no longer under self-test, and the test's spare slots are counted. -/
def Dev.endSelftest (d : Dev) (l : Nat) : Dev := { d with loop := { d.loop with
  selftests := d.loop.selftests.filter (fun k => k ≠ l), spareNow := d.loop.spareNow + 4096 } }

theorem laneSelftestDone_passed (h : l ∈ d.loop.selftests) : laneSelftestDone l true d =
    { d.endSelftest l with loop := { (d.endSelftest l).loop with rejoinDue := d.loop.rejoinDue ++ [l] } } :=
  if_pos (List.contains_iff_mem.2 h)

theorem laneSelftestDone_failed (h : l ∈ d.loop.selftests) :
    laneSelftestDone l false d = (d.endSelftest l).raise .laneSelftestFail [l] := if_pos (List.contains_iff_mem.2 h)

end

/-- Settles O18, by one equation of each command's meaning per case. -/
theorem loopService : Obligations.LoopService := by
  intro elem v lane s
  refine ⟨fun c limit h => ?runs, fun l h => ?mismatch,
    fun m h => gives_of_upd (reverseLinearisation elem.toNat (m.map (fun l => l.val))) rfl (reverseLinearisation_none _ h),
    fun h => answers_of_ask (laneUnfence v.toNat) rfl (laneUnfence_invalid h),
    fun hv h => answers_of_ask (laneUnfence v.toNat) rfl (laneUnfence_conflict hv h), fun hv h hno => ?starts, fun hv h hin => ?goesOn,
    fun h => ⟨gives_of_upd (laneSelftestDone lane true) rfl (laneSelftestDone_passed h), ?failed⟩,
    fun b h => gives_of_upd (laneSelftestDone lane b) rfl (laneSelftestDone_none b h)⟩
  case runs =>
    refine ⟨_, gives_of_upd (reverseLinearisation elem.toNat none) rfl (reverseLinearisation_runs h), rfl, rfl, fun a ha => ?_, rfl⟩
    exact modRec_byte_other _ _ _ ha
  case mismatch =>
    have hwork := (s.dev.takeSpare 1).spareWork_mismatch l elem.toNat
    refine ⟨_, gives_of_upd (reverseLinearisation elem.toNat (some l.val)) rfl (reverseLinearisation_mismatch l h),
      congrArg Prod.fst hwork, congrArg Prod.snd hwork, ?_⟩
    rw [Dev.mismatch_sram]
    rfl
  case starts =>
    refine answers_of_ask (laneUnfence v.toNat) rfl ?_
    rw [laneUnfence_fenced hv h, if_neg hno]
  case goesOn =>
    refine answers_of_ask (laneUnfence v.toNat) rfl ?_
    rw [laneUnfence_fenced hv h, if_pos hin]
  case failed =>
    refine ⟨_, gives_of_upd (laneSelftestDone lane false) rfl (laneSelftestDone_failed h), ?_⟩
    obtain ⟨w, hraise⟩ := (s.dev.endSelftest lane).raise_ev .laneSelftestFail [lane]
    rw [hraise]
    exact ⟨rfl, rfl⟩

end Sys2Proof.Machine
end

section
/-! Host writes to the element record (R108, R130, R131, R144): the checks in their order and what is staged. -/

namespace Sys2Proof.Machine

/-! ## A field's write -/

section
variable {e : Nat} {f : RecField} {v : Int} {d : Dev}

theorem fieldWrite_noent (h : 32767 < e) : fieldWrite e f v d = (.noent, d) := if_pos h

section
variable (he : e ≤ 32767)
include he

theorem fieldWrite_invalid (hv : d.fieldOk e f v = false) : fieldWrite e f v d = (.invalid, d) := by
  rw [fieldWrite, if_neg (not_lt.2 he), if_pos (by rw [hv]; rfl)]

theorem fieldWrite_busy (hv : d.fieldOk e f v = true) (hfull : d.stagingFull = true) : fieldWrite e f v d = (.busy, d) := by
  rw [fieldWrite, if_neg (not_lt.2 he), if_neg (by simp [hv]), if_pos hfull]

theorem fieldWrite_staged (hv : d.fieldOk e f v = true) (hfull : d.stagingFull = false) :
    fieldWrite e f v d = (.ok, d.stage e f (d.acceptedRate e f v)) := by
  rw [fieldWrite, if_neg (not_lt.2 he), if_neg (by simp [hv]), if_neg (by simp [hfull])]

end

/-- A field other than SP_RATE is staged as it was written. -/
theorem Dev.acceptedRate_other (h : f ≠ .spRate) : d.acceptedRate e f v = v := if_neg fun hf => h hf.1

/-- RECORD_FIELD_WRITE of a field other than MODE is the field's own write. -/
theorem recordFieldWrite_eq_fieldWrite (h : f ≠ .mode) : recordFieldWrite e f v d = fieldWrite e f v d := by
  unfold recordFieldWrite anyFieldWrite
  split
  · contradiction
  · rfl

end

/-! ## MODE -/

section
variable {e v : Nat} {d : Dev}

theorem modeWrite_noent (h : 32767 < e) : modeWrite e v d = (.noent, d) := if_pos h

theorem recordFieldWrite_noent {f : RecField} {w : Int} (h : 32767 < e) : recordFieldWrite e f w d = (.noent, d) := by
  by_cases hf : f = .mode
  · subst hf
    exact if_pos h
  · rw [recordFieldWrite_eq_fieldWrite hf, fieldWrite_noent h]

section
variable (he : e ≤ 32767)
include he

theorem modeWrite_invalid (hv : 2 < v) : modeWrite e v d = (.invalid, d) := by
  rw [modeWrite, modeField, if_neg (not_lt.2 he), if_pos (.inr (by omega))]

theorem modeWrite_conflict (hv : v ≤ 2)
    (h : ((d.record e).mode = 4 ∧ d.anyLineCause (d.record e) = true) ∨ d.swept e = true) :
    modeWrite e v d = (.conflict, d) := by
  rw [modeWrite, modeField, if_neg (not_lt.2 he), if_neg (by omega)]
  exact if_pos h

theorem modeWrite_eq_fieldWrite (hv : v ≤ 2) (hfault : ¬((d.record e).mode = 4 ∧ d.anyLineCause (d.record e) = true))
    (hswept : d.swept e = false) : modeWrite e v d = fieldWrite e .mode v d := by
  rw [modeWrite, modeField, if_neg (not_lt.2 he), if_neg (by omega)]
  exact if_neg (not_or.2 ⟨hfault, by simp [hswept]⟩)

end
end

/-- Settles O19, by the checks of each write in their order. -/
theorem recordWrites : Obligations.RecordWrites := by
  intro elem f w v target rate s
  refine ⟨fun he => ⟨answers_of_ask (recordFieldWrite elem.toNat f w) rfl (recordFieldWrite_noent he),
    answers_of_ask (modeWrite elem.toNat v.toNat) rfl (modeWrite_noent he)⟩, fun he => ?_, fun r1 d1 r2 d2 h1 h2 => ?rate⟩
  case rate =>
    refine answers_of_ask (setpointRequest elem.toNat target.toNat (some rate.toNat)) rfl ?_
    simp only [setpointRequest, h1, h2]
  have hfield : ∀ {x : Resp × Dev}, f ≠ .mode → fieldWrite elem.toNat f w s.dev = x →
      Answers (.recordFieldWrite elem f w) s x.1 x.2 := fun hf h =>
    answers_of_ask (recordFieldWrite elem.toNat f w) rfl ((recordFieldWrite_eq_fieldWrite hf).trans h)
  have hmode : ∀ {x : Resp × Dev}, modeWrite elem.toNat v.toNat s.dev = x → Answers (.modeWrite elem v) s x.1 x.2 :=
    answers_of_ask (modeWrite elem.toNat v.toNat) rfl
  refine ⟨fun hv => hmode (modeWrite_invalid he hv), fun hv h => hmode (modeWrite_conflict he hv h),
    fun hf hok => hfield hf (fieldWrite_invalid he hok), fun hf hok hfull => hfield hf (fieldWrite_busy he hok hfull),
    fun hf hok hroom => hfield hf (fieldWrite_staged he hok hroom), fun hv hfault hswept hok hfull => ?busy,
    fun hv hfault hswept hok hroom => ?staged, fun hok hroom => ?setpoint⟩
  case busy => exact hmode ((modeWrite_eq_fieldWrite he hv hfault hswept).trans (fieldWrite_busy he hok hfull))
  case staged =>
    have hstage := fieldWrite_staged he hok hroom
    rw [Dev.acceptedRate_other (by decide)] at hstage
    exact hmode ((modeWrite_eq_fieldWrite he hv hfault hswept).trans hstage)
  case setpoint =>
    have hstage := fieldWrite_staged he hok hroom
    rw [Dev.acceptedRate_other (by decide)] at hstage
    exact answers_of_ask (setpointRequest elem.toNat target.toNat none) rfl hstage

end Sys2Proof.Machine
end

section
/-! RECORD_REBUILD and the record hold of the element (R110, R386). -/

namespace Sys2Proof.Machine

/-- A unit that does not drive. Element 0 is on record hold and waits for its rebuild, the flash holds settings of every element, and
the one mark of memory is a byte's, at the first byte of element 0's record, outside the PER_BYTE window. -/
def byteMarkedUnit : State := { dev := {
  sram := { bytePoison := [(0, true)] }
  loop := { recordHold := [(0, true)] }
  memory := { rebuild := [(0, none)] }
  boot := { flash := { copy0 := some {
    seq := 1, at_ := ⟨0, 0⟩, cfg := {}, rights := {}, records := [], tables := {}, bank := [], fabric := [], gen := 0
    bankDigest := [] } } } } }

/-- Its memory is sound, and no mark lies on element 0's curve. -/
theorem byteMarkedUnit_conditions : byteMarkedUnit.dev.sram.sound = true ∧ byteMarkedUnit.dev.curvePoisoned 0 = false := by decide

/-- The rebuild's full-word writes clear the words' own marks only, and the hold goes on under the byte's. -/
theorem recordHold_recordRebuild_byteMarkedUnit :
    tget false (recordRebuild 0 true byteMarkedUnit.dev).loop.recordHold 0 = true := by
  decide

/-- The device that a RECORD_REBUILD gives is the one its meaning says. -/
theorem eq_recordRebuild_of_gives {elem : BitVec 15} {b : Bool} {s : State} {d : Dev} (h : Gives (.recordRebuild elem b) s d) :
    d = recordRebuild elem.toNat b s.dev :=
  (congrArg State.dev (Host.Outcome.next.inj h)).symm

/-- Refutes O51: the mark of a byte of the record outlasts the rebuild, and the record hold with it, though no word of the curve is
poisoned. -/
theorem not_recordRebuild : ¬ Obligations.RecordRebuild := by
  intro h
  obtain ⟨-, -, hwaits, -⟩ := h 0 none true byteMarkedUnit
  obtain ⟨-, hrebuilt⟩ := hwaits rfl (.inr rfl)
  obtain ⟨d, hgives, x, rfl, -, -, -, hended, -⟩ := hrebuilt {} _ rfl rfl
  obtain ⟨-, hcurve⟩ := byteMarkedUnit_conditions
  have hend : tget false x.loop.recordHold 0 = false := (hended hcurve).1
  have hheld := recordHold_recordRebuild_byteMarkedUnit
  rw [show (0 : Nat) = (0 : BitVec 15).toNat from rfl, ← eq_recordRebuild_of_gives hgives, Dev.raise_loop] at hheld
  exact Bool.false_ne_true (hend.symm.trans hheld)

end Sys2Proof.Machine
end

section
/-! LOOP_STOP and LOOP_START, and what a tick makes of a unit's duty (R128, R337, R352): all that a tick does but the setting of
TOWER_ROLE leaves the role, and whether the unit stands by, alone. -/

namespace Sys2Proof.Machine

/-! ## LOOP_STOP and LOOP_START -/

section
variable {d : Dev}

theorem loopStop_pending (h : d.loop.state = .restartPending) : loopStop d = (.ok, { d with
    loop := { d.loop with state := .stopping }, cfg := { d.cfg with loop := { d.cfg.loop with control := 0 } } }) := by
  rw [loopStop, Dev.loopWrite, if_pos h]

theorem loopStop_due (h : d.loop.state ≠ .restartPending) : loopStop d = (.ok, { d with
    loop := { d.loop with due := some 0 }, cfg := { d.cfg with loop := { d.cfg.loop with control := 0 } } }) := by
  rw [loopStop, Dev.loopWrite, if_neg h]

theorem Dev.loopBarred_iff : d.loopBarred = true ↔ d.therm.state = 3 ∨ d.ev.deviceFault ≠ 0 ∨ d.tow.standing = true := by
  simp only [Dev.loopBarred, Bool.or_eq_true, decide_eq_true_eq, or_assoc]

theorem loopStart_barred (h : d.loopBarred = true) : loopStart d = (.conflict, d) := if_pos h

section
variable (hfree : ¬d.loopBarred = true)
include hfree

theorem loopStart_stopping (h : d.loop.state = .stopping) : loopStart d = (.ok, { d with
    loop := { d.loop with state := .restartPending }, cfg := { d.cfg with loop := { d.cfg.loop with control := 1 } } }) := by
  rw [loopStart, if_neg hfree, Dev.loopWrite, if_pos h]

theorem loopStart_due (h : d.loop.state ≠ .stopping) : loopStart d = (.ok, { d with
    loop := { d.loop with due := some 1 }, cfg := { d.cfg with loop := { d.cfg.loop with control := 1 } } }) := by
  rw [loopStart, if_neg hfree, Dev.loopWrite, if_neg h]

end
end

/-! ## What of a tick leaves the Tower alone -/

section
variable (d : Dev)

@[simp] theorem Dev.tow_ite (c : Prop) [Decidable c] (x y : Dev) : (if c then x else y).tow = if c then x.tow else y.tow :=
  apply_ite (fun d : Dev => d.tow) c x y

@[simp] theorem Dev.tow_snd_ite {α : Type} (c : Prop) [Decidable c] (x y : α × Dev) :
    (if c then x else y).2.tow = if c then x.2.tow else y.2.tow :=
  apply_ite (fun p : α × Dev => p.2.tow) c x y

@[simp] theorem each_tow {α : Type} (l : List α) (f : α → Dev → Dev) (h : ∀ (a : α) (x : Dev), (f a x).tow = x.tow) :
    (each l f d).tow = d.tow :=
  each_keeps (fun x : Dev => x.tow = d.tow) l f d (fun a x hx => (h a x).trans hx) rfl

@[simp] theorem iter_tow (f : Nat → Dev → Dev) (n i : Nat) (h : ∀ (i : Nat) (x : Dev), (f i x).tow = x.tow) :
    (iter f n i d).tow = d.tow :=
  iter_keeps (fun x : Dev => x.tow = d.tow) f n i d (fun i x hx => (h i x).trans hx) rfl

/-! ### The Loop Engine, the trace and the traffic -/

@[simp] theorem Dev.countTick_tow : d.countTick.tow = d.tow := (rfl)
@[simp] theorem Dev.throttleTick_tow : d.throttleTick.tow = d.tow := (rfl)
@[simp] theorem Dev.halfRateTick_tow : d.halfRateTick.tow = d.tow := (rfl)

@[simp] theorem Dev.loopTick_tow : d.loopTick.tow = d.tow := by
  unfold Dev.loopTick
  dsimp only
  split <;> simp [Dev.startLoop]

@[simp] theorem Dev.laneTick_tow : d.laneTick.tow = d.tow := by simp [Dev.laneTick]
@[simp] theorem Dev.takeSpare_tow (n : Nat) : (d.takeSpare n).tow = d.tow := (rfl)
@[simp] theorem Dev.stopLoop_tow (cause : Nat) : (d.stopLoop cause).tow = d.tow := (rfl)
@[simp] theorem Dev.stepWaiting_tow : d.stepWaiting.tow = d.tow := by simp [Dev.stepWaiting]

@[simp] theorem Dev.traceEntry_tow (e status slot : Nat) (nodes : List (Nat × Int)) :
    (d.traceEntry e status slot nodes).tow = d.tow := by
  unfold Dev.traceEntry
  dsimp only
  (repeat' split) <;> simp

@[simp] theorem Dev.fireTrace_tow (cause elem cycle : Nat) (inGroup : Bool) :
    (d.fireTrace cause elem cycle inGroup).tow = d.tow := by
  simp [Dev.fireTrace]

@[simp] theorem Dev.traceTick_tow (snap : Bool) (ended : Nat) : (d.traceTick snap ended).tow = d.tow := by
  unfold Dev.traceTick
  dsimp only
  (repeat' split) <;> simp [Dev.openGroup, Dev.traceSource]

@[simp] theorem Dev.trafficTick_tow : d.trafficTick.tow = d.tow := by simp [Dev.trafficTick, Dev.sampleQueues, Dev.sampleQueue]
@[simp] theorem Dev.judgeGuarantee_tow : d.judgeGuarantee.tow = d.tow := by simp [Dev.judgeGuarantee]

/-! ### Labels and requests -/

@[simp] theorem Dev.putLabel_tow (p : Nat) (e : LabelEntry) : (d.putLabel p e).tow = d.tow := (rfl)
@[simp] theorem Dev.clearLabel_tow (p : Nat) : (d.clearLabel p).tow = d.tow := (rfl)

@[simp] theorem Dev.sweepStep_tow : d.sweepStep.tow = d.tow := by
  unfold Dev.sweepStep
  split <;> simp [Dev.ageOne]

@[simp] theorem Dev.runDelete_tow (c : LabelCmd) : (d.runDelete c).2.tow = d.tow := by
  unfold Dev.runDelete
  (repeat' split) <;> simp

@[simp] theorem Dev.runInsert_tow (c : LabelCmd) : (d.runInsert c).2.tow = d.tow := by
  unfold Dev.runInsert
  dsimp only
  (repeat' split) <;> simp

@[simp] theorem Dev.runNext_tow (c : LabelCmd) : (d.runNext c).2.tow = d.tow := by
  unfold Dev.runNext
  dsimp only
  (repeat' split) <;> simp

@[simp] theorem Dev.runSearch_tow (c : LabelCmd) : (d.runSearch c).2.tow = d.tow := by
  unfold Dev.runSearch
  (repeat' split) <;> simp

@[simp] theorem Dev.pushLearn_tow (b : List Byte) : (d.pushLearn b).tow = d.tow := by simp [Dev.pushLearn]
@[simp] theorem Dev.putResult80_tow (c : LabelCmd) (o : LabelOut) : (d.putResult80 c o).tow = d.tow := (rfl)

@[simp] theorem Dev.recordEntry_tow (o : Outstanding) (status : Resp) (body : List Byte) :
    (d.recordEntry o status body).tow = d.tow := by
  unfold Dev.recordEntry
  split <;> simp [Dev.putWindow]

@[simp] theorem Dev.deliver_tow (l : Nat) (f : Frame) : (d.deliver l f).tow = d.tow := by simp [Dev.deliver]
@[simp] theorem Dev.setLane_tow (l : Nat) (x : Lane) : (d.setLane l x).tow = d.tow := (rfl)

@[simp] theorem Dev.letIn_tow (l : Nat) (f : Frame) (yellow cut : Bool) : (d.letIn l f yellow cut).tow = d.tow := by
  simp [Dev.letIn, Dev.countQueue, Dev.enqueue]

@[simp] theorem Dev.countLane_tow (l i n : Nat) : (d.countLane l i n).tow = d.tow := (rfl)
@[simp] theorem Dev.drop_tow (inLane : Option Nat) (i : Nat) : (d.drop inLane i).tow = d.tow := (rfl)

@[simp] theorem Dev.sendOn_tow (inLane : Option Nat) (l : Nat) (f : Frame) (yellow : Bool) :
    (d.sendOn inLane l f yellow).tow = d.tow := by
  unfold Dev.sendOn
  (repeat' split) <;> simp [Dev.forward]

@[simp] theorem Dev.route_tow (inLane : Option Nat) (f : Frame) (yellow : Bool) : (d.route inLane f yellow).tow = d.tow := by
  unfold Dev.route
  dsimp only
  (repeat' split) <;> simp [Dev.broadcast]

@[simp] theorem Dev.nextSeq_tow : d.nextSeq.tow = d.tow := (rfl)

@[simp] theorem Dev.originate_tow (cls typ dest : Nat) (plane : Option Bool) (poison : Bool) (payload : List Byte) :
    (d.originate cls typ dest plane poison payload).tow = d.tow := by
  simp [Dev.originate]

@[simp] theorem Dev.setBspi_tow (f : BoardSpi → BoardSpi) : (d.setBspi f).tow = d.tow := (rfl)

@[simp] theorem Dev.sendResponse_tow (spi : Bool) (src cls : Nat) (planeB poison : Bool) (body : List Byte) :
    (d.sendResponse spi src cls planeB poison body).tow = d.tow := by
  simp [Dev.sendResponse]

@[simp] theorem Dev.answerWait_tow (w : WaitFor) (code : Resp) : (d.answerWait w code).tow = d.tow := by
  simp [Dev.answerWait, Dev.finishRequest, Dev.answerFromCache, Dev.countReq]

@[simp] theorem Dev.completeLabel_tow (c : LabelCmd) (origin : CmdOrigin) (o : LabelOut) :
    (d.completeLabel c origin o).tow = d.tow := by
  unfold Dev.completeLabel
  split <;> simp

@[simp] theorem Dev.labelStep_tow : d.labelStep.tow = d.tow := by
  unfold Dev.labelStep
  (repeat' split) <;> simp [Dev.flushStep]

/-! ### The end of a cycle and telemetry -/

@[simp] theorem Dev.capture_tow (e : InjectEntry) (n : Nat) (flags : BitVec 8) (raw slot : Nat) (s : Int) :
    (d.capture e n flags raw slot s).tow = d.tow := by
  simp [Dev.capture, Dev.pushInject]

@[simp] theorem Dev.missedOf_tow (bound : Nat) (e : InjectEntry) : (d.missedOf bound e).tow = d.tow := by
  refine iter_tow d _ _ _ fun n x => ?_
  split
  · split <;> simp
  · rfl

@[simp] theorem Dev.endCycle_tow (ended : Nat) : (d.endCycle ended).tow = d.tow := by
  simp [Dev.endCycle, Dev.darkEvents, Dev.labelTick, Dev.missedCaptures, Dev.digestTick, Dev.curveChecks,
    Dev.checkCurve, Dev.enterCurve, Dev.endHold, Dev.putWorking, Dev.requestReverse]

@[simp] theorem Dev.takeConf_tow (t : Nat) : (d.takeConf t).tow = d.tow := by
  unfold Dev.takeConf
  split <;> simp

@[simp] theorem Dev.openCycle_tow (t : Nat) : (d.openCycle t).tow = d.tow := by simp [Dev.openCycle]

@[simp] theorem readItem_tow (level idx sub : Nat) (sel : Option Nat) (off len : Nat) :
    (readItem level idx sub sel off len d).2.tow = d.tow := by
  unfold readItem
  (repeat' split) <;> simp [Dev.lastError]

@[simp] theorem telemList_tow (n : Nat) (b : List Byte) : (telemList n b d).tow = d.tow := by
  have hread : ∀ (level room : Nat) (l : List TelemObj) (x : List (List Byte × Bool) × Dev),
      (l.foldl (fun x o =>
        let p := readItem level o.idx o.sub o.sel 0 0 x.2
        let a := telemAnswer room p.1
        (x.1 ++ [(o.name ++ a.bytes, a.poison)], p.2)) x).2.tow = x.2.tow := by
    intro level room l
    induction l with
    | nil => exact fun x => rfl
    | cons o l ih => exact fun x => (ih _).trans (readItem_tow ..)
  have hsend : ∀ (l : List ((List Byte × Nat × Bool) × Nat)) (f : Dev → (List Byte × Nat × Bool) × Nat → Dev)
      (x : Dev), (∀ a x, (f x a).tow = x.tow) → (l.foldl f x).tow = x.tow := fun l f x h => each_tow x l (fun a x => f x a) h
  rw [telemList, Dev.setReq_tow, hsend _ _ _ fun _ _ => Dev.originate_tow .., hread]

@[simp] theorem Dev.telemTick_tow : d.telemTick.tow = d.tow := by simp [Dev.telemTick]
@[simp] theorem Dev.runTick_tow : d.runTick.tow = d.tow := by simp [Dev.runTick]

/-! ### Rotation, scheduled actions and staged writes -/

@[simp] theorem Dev.invalidColumn_tow (c cycles : Nat) : (d.invalidColumn c cycles).tow = d.tow := (rfl)

@[simp] theorem Dev.returnColumn_tow (g : Nat) : (d.returnColumn g).tow = d.tow := by
  unfold Dev.returnColumn
  split <;> rfl

@[simp] theorem Dev.moveColumn_tow (c : Nat) : (d.moveColumn c).tow = d.tow := by simp [Dev.moveColumn]
@[simp] theorem Dev.loadCorr_tow (chain g : Nat) : (d.loadCorr chain g).tow = d.tow := (rfl)
@[simp] theorem Dev.setRotPos_tow (g p : Nat) : (d.setRotPos g p).tow = d.tow := (rfl)

@[simp] theorem Dev.enterStep_tow (g : Nat) (col : Option Nat) : (d.enterStep g col).tow = d.tow := by
  unfold Dev.enterStep
  split <;> simp

@[simp] theorem Dev.requestMove_tow (g c t : Nat) : (d.requestMove g c t).tow = d.tow := by
  unfold Dev.requestMove
  split <;> simp

@[simp] theorem Dev.startStep_tow (g : Nat) : (d.startStep g).tow = d.tow := by
  unfold Dev.startStep
  dsimp only
  (repeat' split) <;> simp

@[simp] theorem Dev.rotateGroup_tow (g : Nat) : (d.rotateGroup g).tow = d.tow := by
  unfold Dev.rotateGroup
  dsimp only
  (repeat' split) <;> simp

@[simp] theorem Dev.settleRotation_tow : d.settleRotation.tow = d.tow := by
  unfold Dev.settleRotation
  split <;> simp

@[simp] theorem Dev.rotationTick_tow : d.rotationTick.tow = d.tow := by simp [Dev.rotationTick]
@[simp] theorem Dev.darkTick_tow : d.darkTick.tow = d.tow := by simp [Dev.darkTick]
@[simp] theorem Dev.rightsTick_tow : d.rightsTick.tow = d.tow := by simp [Dev.rightsTick]

@[simp] theorem Dev.endTrigger_tow (r : Resp) (j : Nat) : (d.endTrigger r j).tow = d.tow := by
  simp [Dev.endTrigger, Dev.setTrigger]

@[simp] theorem Dev.fireAction_tow (t action : Nat) (f : Dev → Resp × Dev) (hf : ∀ x : Dev, (f x).2.tow = x.tow) :
    (d.fireAction t action f).tow = d.tow := by
  unfold Dev.fireAction
  split <;> simp [hf]

@[simp] theorem Dev.fireTriggers_tow (t : Nat) : (d.fireTriggers t).tow = d.tow := by
  simp [Dev.fireTriggers, traceForce, Dev.tickOutEdge, darkCapture]

@[simp] theorem Dev.markTakeover_tow : d.markTakeover.tow = d.tow := (rfl)
@[simp] theorem Dev.standBy_tow : d.standBy.tow = d.tow := by simp [Dev.standBy]
@[simp] theorem Dev.setElemField_tow (e lo n v : Nat) (who : Finder) : (d.setElemField e lo n v who).tow = d.tow := (rfl)

@[simp] theorem Dev.causeTo_tow (e : Nat) (c : Option Nat) : (d.causeTo e c).tow = d.tow := by
  unfold Dev.causeTo
  split <;> simp [Dev.setCause]

@[simp] theorem Dev.putRateLimit_tow (e : Nat) (writes : List Staged) : (d.putRateLimit e writes).tow = d.tow := by
  unfold Dev.putRateLimit
  split <;> rfl

@[simp] theorem Dev.applyStaged_tow : d.applyStaged.tow = d.tow := by
  simp [Dev.applyStaged, Dev.recordOnly, Dev.softTo, Dev.setSoft]

@[simp] theorem Dev.readoutRun_tow : d.readoutRun.tow = d.tow := by simp [Dev.readoutRun]
@[simp] theorem Dev.markMate_tow (b : Bool) : (d.markMate b).tow = d.tow := (rfl)
@[simp] theorem Dev.readoutRestart_tow : d.readoutRestart.tow = d.tow := by simp [Dev.readoutRestart]

/-! ### Commits and verification -/

@[simp] theorem Dev.verifyDone_tow : d.verifyDone.tow = d.tow := by simp [Dev.verifyDone]
@[simp] theorem Dev.setVerState_tow (k : Nat) (x : VerState) : (d.setVerState k x).tow = d.tow := (rfl)
@[simp] theorem Dev.enterPending_tow (k tick : Nat) : (d.enterPending k tick).tow = d.tow := (rfl)
@[simp] theorem Dev.pendAll_tow : d.pendAll.tow = d.tow := by simp [Dev.pendAll]
@[simp] theorem Dev.verifyTick_tow : d.verifyTick.tow = d.tow := by simp [Dev.verifyTick]

@[simp] theorem Dev.finishCopy_tow : d.finishCopy.tow = d.tow := by
  unfold Dev.finishCopy
  split <;> rfl

@[simp] theorem Dev.commitTick_tow : d.commitTick.tow = d.tow := by
  unfold Dev.commitTick
  split <;> simp [Dev.verifyCommit, Dev.fieldsLater, Dev.setJump, Dev.putCommitted, Dev.swapBanks]

@[simp] theorem Dev.toneTick_tow (n : Nat) : (d.toneTick n).tow = d.tow := by simp [Dev.toneTick, Dev.toneStep]

@[simp] theorem Dev.readoutTick_tow : d.readoutTick.tow = d.tow := by
  refine (each_tow _ _ _ fun p x => ?_).trans (by simp)
  split
  · rfl
  · split <;> rfl

@[simp] theorem Dev.decoderTick_tow : d.decoderTick.tow = d.tow := by
  unfold Dev.decoderTick
  dsimp only
  (repeat' split) <;> simp [Dev.leaveDecoder, Dev.clearLabels, Dev.resumeDecoder, Dev.repend, Dev.hitAll]

@[simp] theorem Dev.sampleTick_tow : d.sampleTick.tow = d.tow := by
  simp [Dev.sampleTick, Dev.refitTick, Dev.pairTick, Dev.pausePairs, Dev.countQuarter, Dev.sweepTick, Dev.labelPhases]

@[simp] theorem Dev.fillBuffer_tow (b : Nat) (es : List Nat) : (d.fillBuffer b es).tow = d.tow := by
  simp [Dev.fillBuffer, Dev.captureWord]

@[simp] theorem Dev.toMate_tow (l cls typ : Nat) (poison : Bool) (payload : List Byte) :
    (d.toMate l cls typ poison payload).tow = d.tow := by
  simp [Dev.toMate, Dev.sendLocal]

@[simp] theorem Dev.savedTick_tow : d.savedTick.tow = d.tow := by
  unfold Dev.savedTick
  split <;> rfl

@[simp] theorem Dev.rejoinTick_tow : d.rejoinTick.tow = d.tow := by
  unfold Dev.rejoinTick
  (repeat' split) <;> simp

/-! ### The Column Drive -/

@[simp] theorem Dev.swapPages_tow : d.swapPages.tow = d.tow := (rfl)

@[simp] theorem Dev.actColumn_tow (few : Bool) (c : Nat) : (d.actColumn few c).tow = d.tow := by
  simp [Dev.actColumn, Dev.addLineFault, Dev.permanentSpare]

@[simp] theorem Dev.setGroup_tow (g : Nat) (x : RunState) : (d.setGroup g x).tow = d.tow := (rfl)

@[simp] theorem Dev.groupOne_tow (g : Nat) : (d.groupOne g).tow = d.tow := by
  unfold Dev.groupOne
  dsimp only
  (repeat' split) <;> simp [Dev.restartGroup, Dev.fromZero, Dev.setLast, Dev.modRec]

@[simp] theorem Dev.groupTick_tow : d.groupTick.tow = d.tow := by simp [Dev.groupTick]
@[simp] theorem Dev.lateWrites_tow : d.lateWrites.tow = d.tow := by simp [Dev.lateWrites]
@[simp] theorem Dev.rowTick_tow : d.rowTick.tow = d.tow := (rfl)
@[simp] theorem Dev.loadSpares_tow (before : List (Nat × Nat)) : (d.loadSpares before).tow = d.tow := by simp [Dev.loadSpares]
@[simp] theorem Dev.lineTick_tow : d.lineTick.tow = d.tow := by simp [Dev.lineTick]
@[simp] theorem Dev.snapshot_tow (tick : Nat) : (d.snapshot tick).2.tow = d.tow := by simp [Dev.snapshot, Dev.clearCauses]

end

/-! ## What of a tick leaves the unit's duty alone -/

/-- TOWER_ROLE, and whether the unit stands by, are in x as in d. -/
abbrev Dev.SameDuty (x d : Dev) : Prop := x.tow.role = d.tow.role ∧ x.tow.standing = d.tow.standing

section
variable (d : Dev)

@[simp] theorem Tower.role_ite (c : Prop) [Decidable c] (x y : Tower) :
    (if c then x else y).role = if c then x.role else y.role := apply_ite _ c x y

@[simp] theorem Tower.standing_ite (c : Prop) [Decidable c] (x y : Tower) :
    (if c then x else y).standing = if c then x.standing else y.standing := apply_ite _ c x y

theorem each_sameDuty {α : Type} (l : List α) (f : α → Dev → Dev) (h : ∀ (a : α) (x : Dev), (f a x).SameDuty x) :
    (each l f d).SameDuty d :=
  each_keeps (fun x : Dev => x.SameDuty d) l f d
    (fun a x hx => ⟨(h a x).1.trans hx.1, (h a x).2.trans hx.2⟩) ⟨rfl, rfl⟩

theorem iter_sameDuty (f : Nat → Dev → Dev) (n i : Nat) (h : ∀ (i : Nat) (x : Dev), (f i x).SameDuty x) :
    (iter f n i d).SameDuty d :=
  iter_keeps (fun x : Dev => x.SameDuty d) f n i d
    (fun i x hx => ⟨(h i x).1.trans hx.1, (h i x).2.trans hx.2⟩) ⟨rfl, rfl⟩

@[simp] theorem Dev.wiredTick_duty : d.wiredTick.SameDuty d := by simp [Dev.SameDuty, Dev.wiredTick]

@[simp] theorem Dev.declareFault_duty (n : Nat) : (d.declareFault n).SameDuty d := by
  simp [Dev.SameDuty, Dev.declareFault, Dev.holdOutputs]

@[simp] theorem Dev.fenceLane_duty (l : Nat) : (d.fenceLane l).SameDuty d := by simp [Dev.SameDuty, Dev.fenceLane]

@[simp] theorem Dev.checkerTick_duty (missed : Bool) : (d.checkerTick missed).SameDuty d := by
  simp [Dev.SameDuty, Dev.checkerTick]

@[simp] theorem Dev.engineTick_duty (missed : Bool) : (d.engineTick missed).SameDuty d := by simp [Dev.SameDuty, Dev.engineTick]
@[simp] theorem Dev.takeover_duty : d.takeover.SameDuty d := by simp [Dev.SameDuty, Dev.takeover]

@[simp] theorem Dev.applyClaim_duty : d.applyClaim.SameDuty d := by
  unfold Dev.applyClaim
  dsimp only
  split <;> simp [Dev.SameDuty, Dev.dropOutputs]

@[simp] theorem Dev.beginCapture_duty : d.beginCapture.SameDuty d := by simp [Dev.SameDuty, Dev.beginCapture, Dev.countImage]
@[simp] theorem Dev.intervalTick_duty : d.intervalTick.SameDuty d := by simp [Dev.SameDuty, Dev.intervalTick]

@[simp] theorem Dev.finishCapture_duty : d.finishCapture.SameDuty d := by
  unfold Dev.finishCapture
  split <;> simp [Dev.SameDuty]

@[simp] theorem Dev.returned_duty (env : TickEnv) : (d.returned env).SameDuty d := ⟨rfl, rfl⟩

@[simp] theorem Dev.sendSync_duty (kind status item : Nat) (poison : Bool) (body : List Byte) :
    (d.sendSync kind status item poison body).SameDuty d := by
  simp [Dev.SameDuty, Dev.sendSync]

@[simp] theorem Dev.wordAskTick_duty : d.wordAskTick.SameDuty d := by
  unfold Dev.wordAskTick
  split
  · exact each_sameDuty _ _ _ fun e x => by simp [Dev.SameDuty]
  · exact ⟨rfl, rfl⟩

@[simp] theorem Dev.readinessTick_duty : d.readinessTick.SameDuty d := by simp [Dev.SameDuty, Dev.readinessTick]
@[simp] theorem Dev.undrivenTick_duty : d.undrivenTick.SameDuty d := by simp [Dev.SameDuty, Dev.undrivenTick]
@[simp] theorem Dev.selfItem_duty (fails i : Nat) : (d.selfItem fails i).SameDuty d := by simp [Dev.SameDuty, Dev.selfItem]

@[simp] theorem Dev.selftestTick_duty (named : Nat) : (d.selftestTick named).SameDuty d := by
  unfold Dev.selftestTick
  split
  · exact iter_sameDuty d (fun i x => x.selfItem (x.selfFails named) i) 8 0 fun i x => x.selfItem_duty ..
  · exact ⟨rfl, rfl⟩

@[simp] theorem Dev.dutyTick_duty : d.dutyTick.SameDuty d := by
  unfold Dev.dutyTick
  (repeat' split) <;> exact ⟨rfl, rfl⟩

@[simp] theorem Dev.towerTick_duty (selftest : Nat) : (d.towerTick selftest).SameDuty d := by simp [Dev.SameDuty, Dev.towerTick]
@[simp] theorem Dev.actContention_duty : d.actContention.SameDuty d := by simp [Dev.SameDuty, Dev.actContention]
@[simp] theorem Dev.driveTick_duty : d.driveTick.SameDuty d := by simp [Dev.SameDuty, Dev.driveTick]

end

/-! ## Standing by -/

/-- From s to d standing by is kept, or ended, with the role (R352). -/
def Dev.StandsByRole (s d : Dev) : Prop :=
  (d.tow.role = 1 → d.tow.standing = true) ∧ (d.tow.role = 0 → d.tow.standing = false)
    ∧ (s.tow.standing = true → d.tow.role ≠ 0 → d.tow.standing = true)

theorem Dev.StandsByRole.congr {s s' d d' : Dev} (h : s.StandsByRole d) (hs : s.tow.standing = s'.tow.standing)
    (hd : d'.SameDuty d) : s'.StandsByRole d' := by
  unfold Dev.StandsByRole at *
  rwa [hd.1, hd.2, ← hs]

theorem Dev.standsByRole_roleTick (d : Dev) (lost : Bool) : d.StandsByRole (d.roleTick lost) := by
  have htow : (d.roleTick lost).tow = { d.tow with
      role := d.roleAfter lost
      standing := decide (d.roleAfter lost = 1) || (d.tow.standing && decide (d.roleAfter lost ≠ 0)) } := by
    simp [Dev.roleTick]
  unfold Dev.StandsByRole
  rw [htow]
  simp +contextual

theorem Dev.standsByRole_claimTick (d : Dev) : d.StandsByRole d.claimTick :=
  (Dev.standsByRole_roleTick _ _).congr (by simp) ⟨rfl, rfl⟩

theorem Dev.standsByRole_tickActions (d : Dev) (t : Nat) : d.StandsByRole (d.tickActions t) :=
  (d.rightsTick.wiredTick.readoutRestart.standsByRole_claimTick).congr (by simp) (by simp [Dev.SameDuty, Dev.tickActions])

theorem Dev.sameDuty_afterActions (d : Dev) (missed : Bool) (selftest : Nat) :
    Dev.SameDuty (((((d.driveTick.engineTick missed).sampleTick).towerTick selftest).stepWaiting.trafficTick).judgeGuarantee).telemTick
      d := by
  simp [Dev.SameDuty]

/-- A tick's actions set the role, and what comes before and after them leaves the unit's duty alone. -/
theorem standsByRole_tick (env : TickEnv) {d : Dev} (h : d.boot.phase ≠ .held) : d.StandsByRole (tick env d) := by
  rw [tick, if_neg h]
  exact (Dev.standsByRole_tickActions _ _).congr (by simp [Dev.advanceTo_tow]) (Dev.sameDuty_afterActions ..)

/-- Settles O10, by one equation of each write per case, and the role that a tick sets. -/
theorem loopStopAndStart : Obligations.LoopStopAndStart := by
  intro s
  have hfree (hcool : s.dev.therm.state ≠ 3) (hsound : s.dev.ev.deviceFault = 0) (hactive : s.dev.tow.standing = false) :
      ¬s.dev.loopBarred = true := by
    intro hbar
    rw [Dev.loopBarred_iff, hactive] at hbar
    simp [hcool, hsound] at hbar
  exact ⟨fun h => answers_of_ask loopStop rfl (loopStop_pending h), fun h => answers_of_ask loopStop rfl (loopStop_due h),
    fun h => answers_of_ask loopStart rfl (loopStart_barred (Dev.loopBarred_iff.2 h)),
    fun hcool hsound hactive => ⟨
      fun h => answers_of_ask loopStart rfl (loopStart_stopping (hfree hcool hsound hactive) h),
      fun h => answers_of_ask loopStart rfl (loopStart_due (hfree hcool hsound hactive) h)⟩,
    fun env h => ⟨_, gives_of_upd (tick env) rfl rfl, standsByRole_tick env h⟩⟩

end Sys2Proof.Machine
end

section
/-! The trace unit's control (R152, R153): what TRACE_ARM, TRACE_FORCE and TRACE_DISARM do. -/

namespace Sys2Proof.Machine

/-! ## The set (R152) -/

/-- A list that names each element once holds no repetition to erase. -/
theorem eraseDups_of_nodup {es : List Nat} (h : es.Nodup) : es.eraseDups = es := by
  induction es with
  | nil => rfl
  | cons e es ih =>
    obtain ⟨hnew, hrest⟩ := List.nodup_cons.1 h
    have hkept : es.filter (fun b => !b == e) = es :=
      List.filter_eq_self.2 fun b hb => by simpa using fun hbe : b = e => hnew (hbe ▸ hb)
    rw [List.eraseDups_cons, hkept, ih hrest]

/-- The trace settings name a set that obeys R152. -/
structure Dev.TraceSetOk (d : Dev) (es : List Nat) : Prop where
  read : elementList 256 d.cfg.trace.elements = es
  named : es ≠ []
  once : es.Nodup
  real : ∀ e ∈ es, e ≤ 32767
  chosen : d.cfg.trace.nodes ≠ 0
  fits : d.cfg.trace.mode = 0 →
    d.cfg.trace.post < traceDepth es.length (entrySize (nodeList d.cfg.trace.nodes).length)

/-! ## TRACE_ARM -/

section
variable {d : Dev}

theorem traceArm_busy (h : d.trace.state = .armed ∨ d.trace.state = .triggered) : traceArm d = (.busy, d) := if_pos h

theorem traceArm_empty_set (hrun : ¬(d.trace.state = .armed ∨ d.trace.state = .triggered))
    (h : elementList 256 d.cfg.trace.elements = [] ∨ d.cfg.trace.nodes = 0) : traceArm d = (.invalid, d) :=
  (if_neg hrun).trans (if_pos (by tauto))

/-- Memory with the trace buffer's region emptied. -/
def Mem.withoutTrace (m : Mem) : Mem := { m with
  cells := m.cells.filter (fun x => regionOf x.1 ≠ some 4)
  poison := m.poison.filter (fun x => regionOf x.1 ≠ some 4) }

/-- The trace unit with the settings c taken for the elements es, to be armed at the next tick. -/
def Trace.take (t : Trace) (c : TraceCfg) (es : List Nat) : Trace := { t with
  elems := es, nodes := c.nodes, mode := c.mode, post := c.post, decimate := c.decimate, sources := c.trigger
  depth := traceDepth es.length (entrySize (nodeList c.nodes).length)
  armDue := true, disarmDue := false, written := 0, capturing := false, left := 0
  cause := 0xFF, triggerGroup := 0xFFFF, triggerElem := 0xFFFF, triggerCycle := 0 }

theorem traceArm_taken {es : List Nat} (hrun : ¬(d.trace.state = .armed ∨ d.trace.state = .triggered))
    (h : d.TraceSetOk es) :
    traceArm d = (.ok, { d with trace := d.trace.take d.cfg.trace es, sram := d.sram.withoutTrace }) := by
  obtain ⟨rfl, hnamed, honce, hreal, hchosen, hfits⟩ := h
  refine (if_neg hrun).trans (if_neg ?_)
  rintro (hempty | htwice | hhigh | hnone | ⟨hmode, hlong⟩)
  · exact hnamed hempty
  · exact htwice (congrArg _ (eraseDups_of_nodup honce))
  · obtain ⟨e, he, hlt⟩ := List.any_eq_true.1 hhigh
    exact absurd (hreal e he) (not_le.2 (of_decide_eq_true hlt))
  · exact hchosen hnone
  · exact absurd (hfits hmode) (not_lt.2 hlong)

theorem Mem.mem_withoutTrace_cells {m : Mem} {c : Nat × Byte} :
    c ∈ m.withoutTrace.cells ↔ c ∈ m.cells ∧ regionOf c.1 ≠ some 4 := by
  simp [Mem.withoutTrace]

/-! ## TRACE_FORCE -/

theorem Dev.fireTrace_armed (cause elem cycle : Nat) (inGroup : Bool) (h : d.trace.state = .armed) :
    d.fireTrace cause elem cycle inGroup = { d with trace := { d.trace with
      state := .triggered, cause := cause, triggerElem := elem, triggerCycle := cycle
      triggerGroup := if d.trace.mode = 0 ∧ inGroup then (d.trace.written - 1) % d.trace.depth else 0xFFFF
      left := if d.trace.mode = 0 then d.trace.post else d.trace.depth } } := if_pos h

theorem traceForce_armed (h : d.trace.state = .armed) :
    traceForce d = (.ok, d.fireTrace 6 0xFFFF d.cycleNo d.trace.capturing) := if_pos h

theorem traceForce_not_armed (h : d.trace.state ≠ .armed) : traceForce d = (.conflict, d) := if_neg h

end

/-- Settles O20, by one equation of each write per case. -/
theorem traceControl : Obligations.TraceControl := by
  intro s
  refine ⟨fun h => answers_of_ask traceArm rfl (traceArm_busy h), fun harmed htriggered => ?arm, fun h => ?force,
    fun h => answers_of_ask traceForce rfl (traceForce_not_armed h), answers_of_ask traceDisarm rfl rfl⟩
  case arm =>
    have hrun : ¬(s.dev.trace.state = .armed ∨ s.dev.trace.state = .triggered) := not_or.2 ⟨harmed, htriggered⟩
    refine ⟨fun h => answers_of_ask traceArm rfl (traceArm_empty_set hrun h),
      fun es hread hnamed honce hreal hchosen hfits => ?_⟩
    have htaken := traceArm_taken hrun ⟨hread, hnamed, honce, hreal, hchosen, hfits⟩
    exact ⟨_, answers_of_ask traceArm rfl htaken, rfl, rfl, rfl, rfl, rfl, rfl, rfl, rfl, rfl,
      fun _ hc => (Mem.mem_withoutTrace_cells.1 hc).2, fun _ hc hout => Mem.mem_withoutTrace_cells.2 ⟨hc, hout⟩, rfl⟩
  case force =>
    have hfired := Dev.fireTrace_armed 6 0xFFFF s.dev.cycleNo s.dev.trace.capturing h
    exact ⟨_, answers_of_ask traceForce rfl ((traceForce_armed h).trans (congrArg _ hfired)), rfl, rfl, rfl, rfl, rfl, rfl⟩

end Sys2Proof.Machine
end

section
/-! The rotation's control (R167 to R173, R337): its start and stop, the host's requests, and what the end of a step, a deferred
move and a skip leave of the steps, the statuses and the trims. -/

namespace Sys2Proof.Machine

/-! ## Lists that keep one entry of each key -/

theorem tfind_append {α : Type} (l k : List (Nat × α)) (j : Nat) : tfind (l ++ k) j = (tfind l j).or (tfind k j) := by
  induction l with
  | nil => rfl
  | cons e l ih =>
    obtain ⟨i, v⟩ := e
    rw [List.cons_append, tfind, tfind]
    split
    · rfl
    · exact ih

theorem tfind_filter_ne {α : Type} (l : List (Nat × α)) (g j : Nat) :
    tfind (l.filter (fun p => p.1 ≠ g)) j = if j = g then none else tfind l j := by
  induction l with
  | nil => simp [tfind]
  | cons e l ih =>
    obtain ⟨i, v⟩ := e
    by_cases hi : i = g
    · rw [List.filter_cons, if_neg (by simp [hi]), ih, tfind]
      split
      · rfl
      · rename_i hj
        exact (if_neg fun hij => hj (hij.symm.trans hi)).symm
    · rw [List.filter_cons, if_pos (by simp [hi]), tfind, tfind, ih]
      by_cases hij : i = j
      · rw [if_pos hij, if_pos hij, if_neg (hij ▸ hi)]
      · rw [if_neg hij, if_neg hij]

/-- The entry put in the place of all others of its key is the one found. -/
theorem tfind_replace {α : Type} (l : List (Nat × α)) (g j : Nat) (v : α) :
    tfind (l.filter (fun p => p.1 ≠ g) ++ [(g, v)]) j = if j = g then some v else tfind l j := by
  rw [tfind_append, tfind_filter_ne]
  by_cases hj : j = g
  · simp [hj, tfind]
  · simp [hj, tfind, Ne.symm hj]

/-! ## A column's move to the spare and back (R38, R171) -/

theorem Dev.returnColumn_kept (d : Dev) (g : Nat) : (d.returnColumn g).cal = d.cal ∧ (d.returnColumn g).cfg = d.cfg := by
  unfold Dev.returnColumn
  split <;> exact ⟨rfl, rfl⟩

theorem Dev.moveColumn_kept (d : Dev) (c : Nat) : (d.moveColumn c).cal = d.cal ∧ (d.moveColumn c).cfg = d.cfg :=
  d.returnColumn_kept (c / 32)

theorem Dev.loadCorr_kept (d : Dev) (chain g : Nat) :
    (d.loadCorr chain g).cal = d.cal ∧ (d.loadCorr chain g).cfg.drv = d.cfg.drv := ⟨rfl, rfl⟩

/-! ## A step that begins (R168, R169) -/

/-- What a step's beginning leaves: the group's step alone is new, its wait is over, and statuses and trims stay. -/
theorem Dev.enterStep_shows (d : Dev) (g : Nat) (col : Option Nat) :
    (d.enterStep g col).cal.rotStep = d.cal.rotStep.filter (fun p => p.1 ≠ g) ++ [(g, { count := 0, col := col })]
      ∧ (d.enterStep g col).cal.rotWait = d.cal.rotWait.filter (fun p => p.1 ≠ g)
      ∧ (d.enterStep g col).cal.colStatus = d.cal.colStatus ∧ (d.enterStep g col).cfg.drv = d.cfg.drv := by
  cases col with
  | none => exact ⟨rfl, rfl, rfl, rfl⟩
  | some c =>
    rw [Dev.enterStep, (Dev.loadCorr_kept _ _ _).1, (Dev.loadCorr_kept _ _ _).2, (Dev.moveColumn_kept _ _).1,
      (Dev.moveColumn_kept _ _).2]
    exact ⟨rfl, rfl, rfl, rfl⟩

theorem Dev.stepOf_enterStep (d : Dev) (g : Nat) (col : Option Nat) (j : Nat) :
    (d.enterStep g col).stepOf j = if j = g then some { count := 0, col := col } else d.stepOf j := by
  rw [Dev.stepOf, (d.enterStep_shows g col).1]
  exact tfind_replace _ _ _ _

theorem Dev.waitOf_enterStep (d : Dev) (g : Nat) (col : Option Nat) : (d.enterStep g col).waitOf g = none := by
  rw [Dev.waitOf, (d.enterStep_shows g col).2.1, tfind_filter_ne]
  exact if_pos rfl

/-! ## The steps that follow (R167, R173) -/

/-- y shows statuses and trims as d does, and every step of y is one of d's or has just begun. -/
structure Dev.StepsOn (d y : Dev) : Prop where
  status : y.cal.colStatus = d.cal.colStatus
  trims : y.cfg.drv = d.cfg.drv
  steps : ∀ j st, y.stepOf j = some st → d.stepOf j = some st ∨ st.count = 0

theorem Dev.StepsOn.refl (d : Dev) : d.StepsOn d := ⟨rfl, rfl, fun _ _ h => .inl h⟩

section
variable {d y : Dev} (h : d.StepsOn y)
include h

theorem Dev.StepsOn.setCal {f : Calib → Calib} (hs : (f y.cal).colStatus = y.cal.colStatus)
    (hr : (f y.cal).rotStep = y.cal.rotStep) : d.StepsOn (y.setCal f) :=
  ⟨hs.trans h.status, h.trims, fun j st hj => h.steps j st (by rwa [Dev.stepOf, Dev.setCal_cal, hr] at hj)⟩

theorem Dev.StepsOn.enterStep (g : Nat) (col : Option Nat) : d.StepsOn (y.enterStep g col) := by
  obtain ⟨-, -, hstatus, htrims⟩ := y.enterStep_shows g col
  refine ⟨hstatus.trans h.status, htrims.trans h.trims, fun j st hj => ?_⟩
  rw [Dev.stepOf_enterStep] at hj
  split at hj
  · cases hj
    exact .inr rfl
  · exact h.steps j st hj

theorem Dev.StepsOn.requestMove (g c t : Nat) : d.StepsOn (y.requestMove g c t) := by
  unfold Dev.requestMove
  split
  · split
    · exact h
    · exact h.setCal rfl rfl
  · exact h.setCal rfl rfl

theorem Dev.StepsOn.startStep (g : Nat) : d.StepsOn (y.startStep g) := by
  unfold Dev.startStep
  split
  · split
    · exact (h.setCal (f := fun x => { x with rotWait := x.rotWait.filter (fun p => p.1 ≠ g) }) rfl rfl).enterStep g none
    · rename_i c _
      have hmove := ((h.setCal (f := fun x => { x with
        rotRequest := x.rotRequest.filter (fun p => p.1 ≠ g || y.columnFit p.2) }) rfl rfl).requestMove g c
          (y.ticks + 1)).setCal (f := fun x => { x with rotPos := tset 0 x.rotPos g (c % 32) }) rfl rfl
      dsimp only
      split
      · split
        · exact hmove.enterStep g (some c)
        · exact hmove
      · exact hmove
  · exact h

theorem Dev.StepsOn.settleRotation : d.StepsOn y.settleRotation := by
  unfold Dev.settleRotation
  dsimp only
  split
  · split
    · exact h.setCal rfl rfl
    · exact h
  · split
    · exact iter_keeps (fun x : Dev => d.StepsOn x) _ _ _ _ (fun g x hx => hx.startStep g) (h.setCal rfl rfl)
    · exact h
  · exact h

end

/-! ## ROTATION_STEP_END (R169, R170) -/

theorem Dev.applyCorr_kept (d : Dev) (x g : Nat) (k : Int × Int) :
    (d.applyCorr x g k).cal = d.cal ∧ (d.applyCorr x g k).cfg = d.cfg := by
  simp [Dev.applyCorr, Dev.putCorr]

/-- The corrections of both converters of a chain, at every gain, in effect. -/
def Dev.applyCorrs (d : Dev) (c : Nat) (m : StepMeasure) : Dev :=
  iter (fun b d => iter (fun g d => d.applyCorr (2 * c + b) g (stepCorr m (b = 1) g)) 3 0 d) 2 0 d

theorem Dev.applyCorrs_kept (d : Dev) (c : Nat) (m : StepMeasure) :
    (d.applyCorrs c m).cal = d.cal ∧ (d.applyCorrs c m).cfg = d.cfg := by
  have hone : ∀ x g k (y : Dev), y.cal = d.cal ∧ y.cfg = d.cfg →
      (y.applyCorr x g k).cal = d.cal ∧ (y.applyCorr x g k).cfg = d.cfg :=
    fun x g k y hy => ⟨(y.applyCorr_kept x g k).1.trans hy.1, (y.applyCorr_kept x g k).2.trans hy.2⟩
  exact iter_keeps (fun y : Dev => y.cal = d.cal ∧ y.cfg = d.cfg) _ _ _ _
    (fun b y hy => iter_keeps (fun y : Dev => y.cal = d.cal ∧ y.cfg = d.cfg) _ _ _ _ (fun g y hy => hone _ g _ y hy) hy) ⟨rfl, rfl⟩

/-- The new values of a driver and its chain: the trims are the measured ones, and the Calibration Unit keeps its state. -/
theorem Dev.applyStep_shows (d : Dev) (c : Nat) (m : StepMeasure) : (d.applyStep c m).cal = d.cal
    ∧ (d.applyStep c m).cfg.drv = { d.cfg.drv with
        offsetTrim := tset 0 d.cfg.drv.offsetTrim c (d.offsetTrimOf c m)
        gainTrim := tset 0 d.cfg.drv.gainTrim c (d.gainTrimOf c m) } := by
  have hdrift : (d.driverDrift c m).cal = d.cal ∧ (d.driverDrift c m).cfg = d.cfg := by simp [Dev.driverDrift]
  have hoffset : (d.driverDrift c m).offsetTrimOf c m = d.offsetTrimOf c m := by
    simp only [Dev.offsetTrimOf, Dev.gainTrimOf, hdrift.2]
  have hgain : (d.driverDrift c m).gainTrimOf c m = d.gainTrimOf c m := by simp only [Dev.gainTrimOf, hdrift.2]
  obtain ⟨f, k, hstep⟩ : ∃ f k, d.applyStep c m = ((((d.driverDrift c m).setDrvCfg (fun v => { v with
      offsetTrim := tset 0 v.offsetTrim c ((d.driverDrift c m).offsetTrimOf c m)
      gainTrim := tset 0 v.gainTrim c ((d.driverDrift c m).gainTrimOf c m) })).applyCorrs c m).setRdCfg f).loadCorr c k :=
    ⟨_, _, rfl⟩
  rw [hstep, (Dev.loadCorr_kept _ _ _).1, (Dev.loadCorr_kept _ _ _).2, Dev.setRdCfg_cal, Dev.setRdCfg_cfg,
    (Dev.applyCorrs_kept _ c m).1, (Dev.applyCorrs_kept _ c m).2, Dev.setDrvCfg_cal, Dev.setDrvCfg_cfg, hoffset, hgain, hdrift.1,
    hdrift.2]
  exact ⟨rfl, rfl⟩

/-- The device whose group g has calibrated column c with the values of m, the column back on its own driver. -/
def Dev.calibrated (d : Dev) (g c : Nat) (m : StepMeasure) : Dev :=
  (((d.setCal (fun x => { x with rotStep := x.rotStep.filter (fun p => p.1 ≠ g) })).returnColumn g).applyStep c m).setColStatus c 0

theorem Dev.calibrated_shows (d : Dev) (g c : Nat) (m : StepMeasure) : (d.calibrated g c m).stepOf g = none
    ∧ tget 0 (d.calibrated g c m).cal.colStatus c = 0
    ∧ tget 0 (d.calibrated g c m).cfg.drv.offsetTrim c = d.offsetTrimOf c m
    ∧ tget 0 (d.calibrated g c m).cfg.drv.gainTrim c = d.gainTrimOf c m := by
  obtain ⟨hcal, hcfg⟩ := (d.setCal (fun x => { x with rotStep := x.rotStep.filter (fun p => p.1 ≠ g) })).returnColumn_kept g
  rw [Dev.calibrated]
  generalize (d.setCal (fun x => { x with rotStep := x.rotStep.filter (fun p => p.1 ≠ g) })).returnColumn g = x at hcal hcfg ⊢
  obtain ⟨hkept, hdrv⟩ := x.applyStep_shows c m
  have hoffset : x.offsetTrimOf c m = d.offsetTrimOf c m := by
    simp only [Dev.offsetTrimOf, Dev.gainTrimOf, hcfg, Dev.setCal_cfg]
  have hgain : x.gainTrimOf c m = d.gainTrimOf c m := by simp only [Dev.gainTrimOf, hcfg, Dev.setCal_cfg]
  rw [Dev.stepOf, Dev.setColStatus, Dev.setCal_cal, Dev.setCal_cfg, hkept, hdrv, hcal, Dev.setCal_cal, hoffset, hgain]
  exact ⟨(tfind_filter_ne ..).trans (if_pos rfl), tget_tset_same 0 d.cal.colStatus c 0, tget_tset_same .., tget_tset_same ..⟩

section
variable {d : Dev} {g : Nat}

theorem rotationStepEnd_none (m : StepMeasure) (h : d.stepOf g = none) : rotationStepEnd g m d = d := by
  rw [rotationStepEnd, h]

/-- A column's step that is over, with values in range, calibrates the column; the group's next step follows. -/
theorem rotationStepEnd_calibrates {c n : Nat} {m : StepMeasure} (hs : d.stepOf g = some ⟨n, some c⟩) (hn : 256 ≤ n)
    (hslot : d.cyc.slot = 0) (hrun : d.rd.state = .run) (hdefer : d.commitDefers = false) (hdriver : d.stepDriverOk c m = true)
    (hchain : stepChainOk m = true) : rotationStepEnd g m d = (((d.calibrated g c m).setRotPos g
      (((d.calibrated g c m).rotPos g + 1) % 33)).startStep g).settleRotation := by
  have hok : (d.stepDriverOk ((some c).getD (256 + g)) m && stepChainOk m) = true := Bool.and_eq_true_iff.2 ⟨hdriver, hchain⟩
  rw [rotationStepEnd, hs]
  refine (if_neg ?_).trans ?_
  · rintro (h | h | h | ⟨-, h⟩)
    · exact absurd hn (not_le.2 h)
    · exact h hslot
    · exact h hrun
    · rw [hdefer] at h
      cases h
  · dsimp only
    rw [if_pos hok]
    rfl

/-! ## SPARE_MOVE_DEFERRED and CAL_COLUMN_SKIPPED (R172) -/

theorem spareMoveDeferred_none (h : d.waitOf g = none) : spareMoveDeferred g d = d := by rw [spareMoveDeferred, h]
theorem calColumnSkipped_none (h : d.waitOf g = none) : calColumnSkipped g d = d := by rw [calColumnSkipped, h]

section
variable {w : RotWait} (hw : d.waitOf g = some w) (hstate : d.cal.rotState = .running) (hrun : d.rd.state = .run)
  (hstep : d.stepOf g = none) (hslot : d.cyc.slot = 0)
include hw hstate hrun hstep hslot

theorem spareMoveDeferred_begins (hin : d.inRotation g = true) (hsince : w.since ≤ d.ticks) (hfit : d.columnFit w.col = true)
    (hpend : d.stillPending w = false) (hdefer : d.commitDefers = false) : spareMoveDeferred g d = d.enterStep g (some w.col) := by
  rw [spareMoveDeferred, hw]
  exact if_pos ⟨hstate, hrun, hstep, hin, hslot, hsince, hfit, hpend, hdefer⟩

theorem calColumnSkipped_status (hpend : d.stillPending w = true) (hlong : w.since + 4096 ≤ d.ticks) :
    tget 0 (calColumnSkipped g d).cal.colStatus w.col = 3 := by
  rw [calColumnSkipped, hw]
  dsimp only
  rw [if_pos ⟨hstate, hrun, hstep, hslot, hpend, hlong⟩, ((Dev.StepsOn.refl _).startStep g).status, Dev.setRotPos, Dev.setCal_cal,
    Dev.setCal_cal, Dev.raise_cal]
  exact tget_tset_same 0 d.cal.colStatus w.col 3

end

/-! ## CAL_COLUMN_REQUEST (R172) -/

theorem calColumnRequest_invalid {c : Nat} (h : 255 < c) : calColumnRequest c d = (.invalid, d) := if_pos h

theorem calColumnRequest_conflict {c : Nat} (hc : c ≤ 255) (h : d.columnFit c = false ∨ d.inRotation (c / 32) = false) :
    calColumnRequest c d = (.conflict, d) := (if_neg (not_lt.2 hc)).trans (if_pos h)

theorem calColumnRequest_taken {c : Nat} (hc : c ≤ 255) (hfit : d.columnFit c = true) (hin : d.inRotation (c / 32) = true) :
    calColumnRequest c d = (.ok, { d with cal := { d.cal with
      rotRequest := d.cal.rotRequest.filter (fun p => p.1 ≠ c / 32) ++ [(c / 32, c)] } }) :=
  (if_neg (not_lt.2 hc)).trans (if_neg (by simp [hfit, hin]))

end

/-- Settles O22: a step that ends, a deferred move and a skip are each one equation, and the steps that follow keep what it
shows. -/
theorem rotationControl : Obligations.RotationControl := by
  intro col g m s
  refine ⟨answers_of_ask calRotationStop rfl rfl, answers_of_ask calRotationStart rfl rfl,
    fun h => answers_of_ask (calColumnRequest col.toNat) rfl (calColumnRequest_invalid h),
    fun hc h => answers_of_ask (calColumnRequest col.toNat) rfl (calColumnRequest_conflict hc h),
    fun hc hfit hin => answers_of_ask (calColumnRequest col.toNat) rfl (calColumnRequest_taken hc hfit hin),
    fun c n hs hn hslot hrun hdefer hdriver hchain => ?stepEnd,
    fun h => gives_of_upd (rotationStepEnd g m) rfl (rotationStepEnd_none m h),
    fun w hw hstate hrun hstep hslot => ⟨fun hin hsince hfit hpend hdefer => ?deferred, fun hpend hlong => ?skipped⟩,
    fun h => ⟨gives_of_upd (spareMoveDeferred g) rfl (spareMoveDeferred_none h),
      gives_of_upd (calColumnSkipped g) rfl (calColumnSkipped_none h)⟩⟩
  case stepEnd =>
    have hends := rotationStepEnd_calibrates hs hn hslot hrun hdefer hdriver hchain
    obtain ⟨hnone, hstatus, hoffset, hgain⟩ := s.dev.calibrated_shows g c m
    have hfollow := ((((Dev.StepsOn.refl (s.dev.calibrated g c m)).setCal (f := fun x => { x with
      rotPos := tset 0 x.rotPos g (((s.dev.calibrated g c m).rotPos g + 1) % 33) }) rfl rfl).startStep g).settleRotation)
    refine ⟨_, gives_of_upd (rotationStepEnd g m) rfl hends, ?_, fun hstill => ?_, ?_, ?_, ?_⟩
    · exact (congrArg (fun t => tget 0 t c) hfollow.status).trans hstatus
    · rcases hfollow.steps g _ hstill with h | h
      · rw [hnone] at h
        cases h
      · exact absurd (hn.trans_eq h) (by decide)
    · rw [← hends, rotationStepEnd_cyc]
    · exact (congrArg (fun v => tget 0 v.offsetTrim c) hfollow.trims).trans hoffset
    · exact (congrArg (fun v => tget 0 v.gainTrim c) hfollow.trims).trans hgain
  case deferred =>
    have hbegins := spareMoveDeferred_begins hw hstate hrun hstep hslot hin hsince hfit hpend hdefer
    refine ⟨_, gives_of_upd (spareMoveDeferred g) rfl hbegins, ?_, Dev.waitOf_enterStep .., ?_⟩
    · exact (Dev.stepOf_enterStep ..).trans (if_pos rfl)
    · rw [← hbegins, spareMoveDeferred_cyc]
  case skipped =>
    exact ⟨_, gives_of_upd (calColumnSkipped g) rfl rfl, calColumnSkipped_status hw hstate hrun hstep hslot hpend hlong,
      calColumnSkipped_cyc ..⟩

end Sys2Proof.Machine
end

section
/-! Narrow writes read back through the merge buffer (R375, R376): what a byte reads once some bytes of a word are written, and
once the oldest entry has made room. -/

namespace Sys2Proof.Machine

/-! ## Bytes of an entry -/

theorem tfind_eq_none {α : Type} {t : Tab α} {x : Nat} (h : ∀ c ∈ t, c.1 ≠ x) : tfind t x = none := by
  induction t with
  | nil => rfl
  | cons c t ih =>
    rw [tfind, if_neg (h c (List.mem_cons_self ..))]
    exact ih fun y hy => h y (List.mem_cons_of_mem _ hy)

/-- Bytes paired with their addresses and put in a table are found there, and every other address keeps what it had. -/
theorem tfind_each_cellsFrom (a : Nat) (l : List Byte) (t : Tab Byte) (x : Nat) :
    tfind (each (cellsFrom a l) (fun c t => tins t c.1 c.2) t) x
      = if a ≤ x ∧ x < a + l.length then some (l.getD (x - a) 0) else tfind t x := by
  induction l generalizing a t with
  | nil => exact (if_neg (by simp)).symm
  | cons b l ih =>
    rw [cellsFrom, each_cons, ih, tfind_tins, List.length_cons]
    by_cases hx : x = a
    · rw [if_neg (by omega), if_pos hx, if_pos (by omega), hx, Nat.sub_self]
      rfl
    · rw [if_neg hx]
      by_cases hin : a + 1 ≤ x ∧ x < a + 1 + l.length
      · rw [if_pos hin, if_pos (by omega), show x - a = x - (a + 1) + 1 by omega]
        rfl
      · rw [if_neg hin, if_neg (by omega)]

theorem each_tins_rising {l : List Host.Cell} {t : Tab Byte} (h : t.Pairwise (fun a b => a.1 < b.1)) :
    (each l (fun c t => tins t c.1 c.2) t).Pairwise (fun a b => a.1 < b.1) :=
  each_keeps (fun t : Tab Byte => t.Pairwise (fun a b => a.1 < b.1)) l _ t (fun _ _ ht => tins_rising ht) h

/-- Bytes listed once each, stored one by one, are the cells. -/
theorem cell_each_setCell_rising {t : Tab Byte} (h : t.Pairwise (fun a b => a.1 < b.1)) (m : Mem) (x : Nat) :
    (each t (fun c m => m.setCell c.1 c.2) m).cell x = (tfind t x).getD (m.cell x) := by
  induction t generalizing m with
  | nil => rfl
  | cons c t ih =>
    obtain ⟨hlow, hrest⟩ := List.pairwise_cons.1 h
    rw [each_cons, ih hrest, tfind, Mem.setCell, Mem.cell, tget_tset]
    by_cases hx : c.1 = x
    · rw [if_pos hx, if_pos hx.symm, tfind_eq_none fun y hy => (hx ▸ hlow y hy).ne']
      rfl
    · rw [if_neg hx, if_neg (Ne.symm hx)]
      rfl

/-! ## The merge buffer's entries -/

/-- Every entry of the merge buffer lists bytes of its own word, each once. -/
def Mem.Merges (m : Mem) : Prop :=
  ∀ e ∈ m.merge, e.bytes.Pairwise (fun a b => a.1 < b.1) ∧ ∀ c ∈ e.bytes, wordOf c.1 = e.word

theorem mergeEntry_append (l : List MergeEntry) (e : MergeEntry) (y : Nat) :
    mergeEntry (l ++ [e]) y = (mergeEntry l y).or (if e.word = y then some e else none) := by
  induction l with
  | nil => rfl
  | cons x l ih =>
    rw [List.cons_append, mergeEntry, mergeEntry]
    split
    · rfl
    · exact ih

/-- One word's entry is replaced, and every other word keeps its own. -/
theorem mergeEntry_map (l : List MergeEntry) {a : Nat} {e : MergeEntry} (he : e.word = a) (y : Nat) :
    mergeEntry (l.map (fun x => if x.word = a then e else x)) y
      = if y = a then (mergeEntry l y).map (fun _ => e) else mergeEntry l y := by
  induction l with
  | nil => simp [mergeEntry]
  | cons x l ih =>
    rw [List.map_cons, mergeEntry, mergeEntry, ih]
    by_cases hx : x.word = a
    · rw [if_pos hx, he, hx]
      by_cases hy : a = y
      · rw [if_pos hy, if_pos hy.symm, if_pos hy]
        rfl
      · rw [if_neg hy, if_neg (Ne.symm hy), if_neg hy, if_neg (Ne.symm hy)]
    · rw [if_neg hx]
      by_cases hy : x.word = y
      · rw [if_pos hy, if_neg (hy ▸ hx), if_pos hy]
      · rw [if_neg hy, if_neg hy]

/-! ## The oldest entry retires -/

section
variable {m : Mem} (h : m.Merges)
include h

theorem Mem.Merges.retire (e : MergeEntry) : (m.retire e).Merges := fun y hy => h y (List.mem_filter.1 hy).1

theorem Mem.Merges.byte_retire {e : MergeEntry} {l : List MergeEntry} (he : m.merge = e :: l) (x : Nat) :
    (m.retire e).byte x = m.byte x := by
  obtain ⟨hrising, hword⟩ := h e (he ▸ List.mem_cons_self ..)
  have hcell : (m.retire e).cell x = (tfind e.bytes x).getD (m.cell x) := cell_each_setCell_rising hrising m x
  have hmerge : (m.retire e).merge = m.merge.filter (fun y => y.word ≠ e.word) := rfl
  rw [Mem.byte, Mem.byte, hmerge, hcell]
  by_cases hx : wordOf x = e.word
  · rw [hx, mergeEntry_settle_same, he, mergeEntry, if_pos rfl]
  · rw [mergeEntry_settle _ hx, tfind_eq_none fun c hc (hcx : c.1 = x) => hx (hcx ▸ hword c hc)]
    rfl

theorem Mem.Merges.makeRoom : m.makeRoom.Merges := by
  unfold Mem.makeRoom
  split
  · split
    · exact h
    · exact h.retire _
  · exact h

theorem Mem.Merges.byte_makeRoom (x : Nat) : m.makeRoom.byte x = m.byte x := by
  unfold Mem.makeRoom
  split
  · rename_i e l he
    split
    · rfl
    · exact h.byte_retire he x
  · rfl

end

/-- Room is made for a word without an entry: it has none still. -/
theorem Mem.mergeEntry_makeRoom {m : Mem} {a : Nat} (h : mergeEntry m.merge a = none) : mergeEntry m.makeRoom.merge a = none := by
  unfold Mem.makeRoom
  split
  · rename_i e l he
    split
    · exact h
    · by_cases ha : a = e.word
      · rw [ha]
        exact mergeEntry_settle_same ..
      · exact (mergeEntry_settle _ ha).trans h
  · exact h

/-! ## What a byte reads -/

theorem Mem.byte_of_entry {m : Mem} {x : Nat} {e : MergeEntry} (h : mergeEntry m.merge (wordOf x) = some e) :
    m.byte x = (tfind e.bytes x).getD (m.cell x) := by
  rw [Mem.byte, h]

theorem Mem.byte_of_none {m : Mem} {x : Nat} (h : mergeEntry m.merge (wordOf x) = none) : m.byte x = m.cell x := by
  rw [Mem.byte, h]

theorem Mem.byte_congr {m y : Mem} {x : Nat} (hc : m.cell x = y.cell x)
    (hm : mergeEntry m.merge (wordOf x) = mergeEntry y.merge (wordOf x)) : m.byte x = y.byte x := by
  rw [Mem.byte, Mem.byte, hm, hc]

/-- What is read depends on the bytes alone. -/
theorem Mem.bytes_congr {m y : Mem} {a n : Nat} (h : ∀ x, a ≤ x → x < a + n → y.byte x = m.byte x) :
    y.bytes a n = m.bytes a n := by
  rw [Mem.bytes_eq_map, Mem.bytes_eq_map]
  exact List.map_congr_left fun i hi => h _ (by omega) (by have := List.mem_range.1 hi; omega)

/-! ## A narrow write -/

section
variable (m : Mem) (c : Host.Cell) (l : List Host.Cell) (f : Finder) (host : Bool)

/-- The memory in which the word of byte c waits for no write-back. -/
def Mem.cancelled (m : Mem) (c : Host.Cell) : Mem := { m with writebacks := m.writebacks.filter (fun e => e.1 ≠ wordOf c.1) }

/-- The entry that bytes of its word have joined. -/
def MergeEntry.join (e : MergeEntry) (l : List Host.Cell) (host : Bool) : MergeEntry := { e with
  bytes := each l (fun c t => tins t c.1 c.2) e.bytes, host := e.host || host }

/-- Bytes of a word that has an entry join it. -/
theorem Mem.narrow_merged {e : MergeEntry} (he : mergeEntry m.merge (wordOf c.1) = some e) : m.narrow (c :: l) f host
    = { m.cancelled c with merge := m.merge.map (fun x => if x.word = wordOf c.1 then e.join (c :: l) host else x) } := by
  unfold Mem.narrow
  dsimp only
  rw [he]
  rfl

/-- Bytes of a word without an entry begin one, for which room is made. -/
theorem Mem.narrow_new (hn : mergeEntry m.merge (wordOf c.1) = none) : m.narrow (c :: l) f host
    = { (m.cancelled c).makeRoom with merge := (m.cancelled c).makeRoom.merge
          ++ [⟨wordOf c.1, each (c :: l) (fun c t => tins t c.1 c.2) [], f, host⟩] } := by
  unfold Mem.narrow
  dsimp only
  rw [hn]
  rfl

end

section
variable {m : Mem} (h : m.Merges) {a : Nat} {b : Byte} {l : List Byte}
  (hword : ∀ x, a ≤ x → x < a + (b :: l).length → wordOf x = wordOf a)
include h hword

theorem Mem.Merges.narrow (f : Finder) (host : Bool) : (m.narrow (cellsFrom a (b :: l)) f host).Merges := by
  have hjoins : ∀ t : Tab Byte, t.Pairwise (fun a b => a.1 < b.1) → (∀ c ∈ t, wordOf c.1 = wordOf a) →
      (each (cellsFrom a (b :: l)) (fun c t => tins t c.1 c.2) t).Pairwise (fun a b => a.1 < b.1)
        ∧ ∀ c ∈ each (cellsFrom a (b :: l)) (fun c t => tins t c.1 c.2) t, wordOf c.1 = wordOf a :=
    fun t hrising ht => ⟨each_tins_rising hrising, fun c hc =>
      (mem_each_tins hc).elim (fun hc => hword c.1 (mem_cellsFrom hc).1 (mem_cellsFrom hc).2) (ht c)⟩
  rcases he : mergeEntry m.merge (wordOf a) with _ | e
  · rw [cellsFrom, m.narrow_new (a, b) (cellsFrom (a + 1) l) f host he]
    intro y hy
    rcases List.mem_append.1 hy with hy | hy
    · exact Mem.Merges.makeRoom (m := m.cancelled (a, b)) h y hy
    · rw [List.mem_singleton.1 hy]
      exact hjoins [] .nil (by simp)
  · rw [cellsFrom, m.narrow_merged (a, b) (cellsFrom (a + 1) l) f host he]
    obtain ⟨hmem, hew⟩ := mergeEntry_mem he
    obtain ⟨hrising, hbytes⟩ := h e hmem
    intro y hy
    obtain ⟨z, hz, rfl⟩ := List.mem_map.1 hy
    split
    · have hjoined := hjoins e.bytes hrising fun c hc => (hbytes c hc).trans hew
      exact ⟨hjoined.1, fun c hc => (hjoined.2 c hc).trans hew.symm⟩
    · exact h z hz

/-- The bytes written read back, and every other byte reads as before (R376). -/
theorem Mem.Merges.byte_narrow (f : Finder) (host : Bool) (x : Nat) : (m.narrow (cellsFrom a (b :: l)) f host).byte x
    = if a ≤ x ∧ x < a + (b :: l).length then (b :: l).getD (x - a) 0 else m.byte x := by
  have hfound := fun t => tfind_each_cellsFrom a (b :: l) t x
  have hout : wordOf x ≠ wordOf a → ¬(a ≤ x ∧ x < a + (b :: l).length) := fun hx hin => hx (hword x hin.1 hin.2)
  rcases he : mergeEntry m.merge (wordOf a) with _ | e
  · set y := (m.cancelled (a, b)).makeRoom with hy
    have hroom : y.byte x = m.byte x := Mem.Merges.byte_makeRoom (m := m.cancelled (a, b)) h x
    have hnone : mergeEntry y.merge (wordOf a) = none := Mem.mergeEntry_makeRoom (m := m.cancelled (a, b)) he
    rw [cellsFrom, m.narrow_new (a, b) (cellsFrom (a + 1) l) f host he, ← hroom, ← hy]
    by_cases hx : wordOf x = wordOf a
    · rw [← hx] at hnone
      rw [Mem.byte_of_none hnone, Mem.byte_of_entry ((mergeEntry_append _ _ _).trans (by rw [hnone, if_pos hx.symm]; rfl))]
      exact (congrArg (fun o => Option.getD o (y.cell x)) (hfound [])).trans (by split <;> rfl)
    · rw [if_neg (hout hx)]
      exact Mem.byte_congr rfl ((mergeEntry_append _ _ _).trans (by rw [if_neg (Ne.symm hx), Option.or_none]))
  · rw [cellsFrom, m.narrow_merged (a, b) (cellsFrom (a + 1) l) f host he]
    have hentries := mergeEntry_map m.merge (e := e.join (cellsFrom a (b :: l)) host) (mergeEntry_mem he).2 (wordOf x)
    by_cases hx : wordOf x = wordOf a
    · have hheld : mergeEntry m.merge (wordOf x) = some e := hx ▸ he
      have hjoined := hentries.trans ((if_pos hx).trans (congrArg _ hheld))
      rw [Mem.byte_of_entry hheld]
      refine (Mem.byte_of_entry (e := e.join (cellsFrom a (b :: l)) host) hjoined).trans ?_
      exact (congrArg (fun o => Option.getD o (m.cell x)) (hfound e.bytes)).trans (by split <;> rfl)
    · rw [if_neg hx] at hentries
      rw [if_neg (hout hx)]
      exact Mem.byte_congr rfl hentries

theorem Mem.Merges.bytes_narrow (f : Finder) (host : Bool) :
    (m.narrow (cellsFrom a (b :: l)) f host).bytes a (b :: l).length = b :: l := by
  rw [Mem.bytes_eq_map]
  refine List.ext_getElem (by simp) fun i hi hi' => ?_
  rw [List.getElem_map, List.getElem_range, h.byte_narrow hword, if_pos (by omega), Nat.add_sub_cancel_left,
    List.getD_eq_getElem _ _ hi']

theorem Mem.Merges.bytes_narrow_other (f : Finder) (host : Bool) {x n : Nat} (hx : x + n ≤ a ∨ a + (b :: l).length ≤ x) :
    (m.narrow (cellsFrom a (b :: l)) f host).bytes x n = m.bytes x n :=
  Mem.bytes_congr fun y _ _ => (h.byte_narrow hword f host y).trans (if_neg (by omega))

end

end Sys2Proof.Machine
end

section
/-! Calibration point sets and the dark capture (R158 to R166): what a set reads as once it is written, and what the capture's end
leaves of DARK. -/

namespace Sys2Proof.Machine

/-! ## A step of an iteration -/

/-- A property that every step keeps and step k brings about from p holds in the end. -/
theorem iter_reaches {α : Type} (p q : α → Prop) (f : Nat → α → α) {k : Nat} (hp : ∀ i a, p a → p (f i a))
    (hq : ∀ i a, q a → q (f i a)) (hk : ∀ a, p a → q (f k a)) (n i : Nat) (a : α) (hlow : i ≤ k) (hhigh : k < i + n)
    (h : p a) : q (iter f n i a) := by
  induction n generalizing i a with
  | zero => exact absurd hhigh (by omega)
  | succ n ih =>
    by_cases hi : i = k
    · exact iter_keeps q f n (i + 1) (f i a) hq (hi ▸ hk a h)
    · exact ih (i + 1) (f i a) (by omega) (by omega) (hp i a h)

/-! ## Whole words written and read back (R371, R376) -/

theorem fit_of_length {n : Nat} {l : List Byte} (h : l.length = n) : fit n l = l := List.take_left' h

theorem Mem.byte_putBlock (m : Mem) {a n : Nat} {l : List Byte} (ha : a % 8 = 0) (hl : l.length = 8 * n) {i : Nat}
    (hi : i < 8 * n) : (m.putBlock a n l).byte (a + i) = l.getD i 0 := by
  induction n generalizing m a l i with
  | zero => exact absurd hi (by omega)
  | succ n ih =>
    rw [Mem.putBlock]
    by_cases hin : i < 8
    · have hword : (l.take 8).length = 8 := by rw [List.length_take]; omega
      rw [putBlock_byte_other _ _ _ _ (by omega) (by omega), putBytes8_byte _ _ _ ha hin, fit_of_length hword]
      simp [List.getD_eq_getElem?_getD, hin]
    · have hnext := ih (m.putBytes8 a (l.take 8)) (a := a + 8) (l := l.drop 8) (i := i - 8) (by omega)
        (by rw [List.length_drop]; omega) (by omega)
      rw [show a + 8 + (i - 8) = a + i by omega] at hnext
      rw [hnext]
      simp [List.getD_eq_getElem?_getD, show 8 + (i - 8) = i by omega]

theorem Mem.bytes_putBlock (m : Mem) {a n : Nat} {l : List Byte} (ha : a % 8 = 0) (hl : l.length = 8 * n) :
    (m.putBlock a n l).bytes a (8 * n) = l := by
  rw [Mem.bytes_eq_map]
  refine List.ext_getElem (by simp [hl]) fun i hi hi' => ?_
  rw [List.getElem_map, List.getElem_range, m.byte_putBlock ha hl (hl ▸ hi'), List.getD_eq_getElem]

/-- The numbers of single bytes, spelled again, are the bytes. -/
theorem flatMap_be_field (b : List Byte) (o n : Nat) (h : o + n ≤ b.length) :
    ((List.range n).map (fun p => field b (o + p) 1)).flatMap (be 1) = (b.drop o).take n := by
  induction n with
  | zero => rfl
  | succ n ih =>
    have hb : be 1 (field b (o + n) 1) = [b[o + n]] := by
      rw [field, List.drop_eq_getElem_cons (by omega), List.take_succ_cons, List.take_zero]
      simp [ofBe, be]
    rw [List.range_succ, List.map_append, List.flatMap_append, ih (by omega), List.map_singleton, List.flatMap_singleton, hb,
      List.take_add_one, List.getElem?_drop, List.getElem?_eq_getElem (by omega)]
    rfl

/-! ## The temperatures of a set (R158 to R160) -/

/-- The TPs of a set's bytes. -/
def setTps (b : List Byte) : List Nat := (List.range 8).map (fun p => field b (72 + p) 1)

theorem tpWord_lt {tps : List Nat} (h : tps.length = 8) (wa : Nat) : tpWord tps wa < 2 ^ 64 := by
  match tps, h with
  | [a, b, c, d, e, f, g, k], _ =>
    simp only [tpWord, List.foldl_cons, List.foldl_nil]
    omega

/-- TP p of the word in which eight of them are packed, from the top (R159). -/
theorem bitsOf_tpWord {tps : List Nat} (h : tps.length = 8) (hlow : ∀ t ∈ tps, t ≤ 127) (wa : Nat) {p : Nat} (hp : p < 8) :
    bitsOf (tpWord tps wa) (57 - 7 * p) 7 = tps.getD p 0 := by
  match tps, h with
  | [a, b, c, d, e, f, g, k], _ =>
    simp only [List.forall_mem_cons] at hlow
    simp only [tpWord, List.foldl_cons, List.foldl_nil, bitsOf]
    interval_cases p <;> simp <;> omega

/-- Ascending temperatures are not all 0. -/
theorem ascending_nonzero {a b : Nat} {l : List Nat} (h : ascending (a :: b :: l) = true) : a ≠ 0 ∨ b ≠ 0 := by
  rw [ascending, Bool.and_eq_true] at h
  obtain ⟨h, -⟩ := h
  by_contra hzero
  push Not at hzero
  rw [hzero.1, hzero.2] at h
  exact absurd h (by decide)

/-! ## CAL_POINTS_WRITE (R160, R165) -/

section
variable (d : Dev) (e : Nat) (b : List Byte)

/-- A set that is written changes memory and the Calibration Unit's notes of the element. -/
theorem Dev.putPoints_eq : d.putPoints e b = { d with
    sram := (d.putPoints e b).sram, memory := (d.putPoints e b).memory
    cal := { d.cal with
      calPoisoned := tset false d.cal.calPoisoned e false, oldPoints := (d.putPoints e b).cal.oldPoints
      overMark := (d.putPoints e b).cal.overMark, renew := (d.putPoints e b).cal.renew } } := rfl

/-- The set's bytes and its word of TPs: a mark changes no byte. -/
theorem Dev.byte_putPoints (x : Nat) : (d.putPoints e b).sram.byte x = ((d.sram.putBlock (calAddr e) 9 (b.take 72)).putWord
    (calAddr e + 72) (tpWord (setTps b) (d.calWord e 9))).byte x := by
  have hmark : ∀ (bad : Bool) (m : Mem) (a : Nat), (if bad then m.mark a true else m).byte x = m.byte x := fun bad m a => by
    cases bad <;> rfl
  exact hmark _ _ _

theorem calAddr_mod : calAddr e % 8 = 0 := by
  unfold calAddr
  omega

theorem Dev.byte_putPoints_other {x : Nat} (hx : x < calAddr e ∨ calAddr e + 80 ≤ x) :
    (d.putPoints e b).sram.byte x = d.sram.byte x := by
  have ha := calAddr_mod e
  rw [Dev.byte_putPoints, Mem.putWord, putBytes8_byte_other _ _ _ (by omega) (by omega),
    putBlock_byte_other _ _ _ _ ha (by omega)]

theorem Dev.pointBytes_putPoints (hb : b.length = 80) : (d.putPoints e b).pointBytes e = b.take 72 := by
  have ha := calAddr_mod e
  refine Eq.trans (Mem.bytes_congr fun x hlow hhigh => ?_) (d.sram.bytes_putBlock (n := 9) ha (by rw [List.length_take]; omega))
  rw [Dev.byte_putPoints, Mem.putWord, putBytes8_byte_other _ _ _ (by omega) (by omega)]

theorem Dev.calWord_putPoints : (d.putPoints e b).calWord e 9 = tpWord (setTps b) (d.calWord e 9) := by
  have ha := calAddr_mod e
  refine Eq.trans (congrArg ofBe (Mem.bytes_congr fun x _ _ => d.byte_putPoints e b x)) ?_
  exact Mem.word_putWord _ (by omega) (tpWord_lt (by simp [setTps]) _)

variable {b}

theorem Dev.pointSetOk_tps (hok : d.pointSetOk e b = true) : (∀ t ∈ setTps b, t ≤ 127) ∧ ascending (setTps b) = true := by
  simp only [Dev.pointSetOk, Bool.and_eq_true] at hok
  obtain ⟨⟨⟨hlow, hasc⟩, -⟩, -⟩ := hok
  exact ⟨fun t ht => of_decide_eq_true (List.all_eq_true.1 hlow t ht), hasc⟩

/-- The TPs of a set that obeys R160 read back. -/
theorem Dev.tp_putPoints (hok : d.pointSetOk e b = true) {p : Nat} (hp : p < 8) :
    (d.putPoints e b).tp e p = field b (72 + p) 1 := by
  obtain ⟨hlow, hasc⟩ := d.pointSetOk_tps e hok
  have hraw : ∀ q < 8, (d.putPoints e b).tpRaw e q = field b (72 + q) 1 := fun q hq => by
    rw [Dev.tpRaw, Dev.calWord_putPoints, bitsOf_tpWord (by simp [setTps]) hlow _ hq]
    simp [setTps, List.getD_eq_getElem?_getD, hq]
  have hformed : (d.putPoints e b).pointsFormed e = true := by
    refine List.any_eq_true.2 ?_
    rcases ascending_nonzero hasc with h0 | h1
    · exact ⟨0, by simp, decide_eq_true (by rwa [hraw 0 (by decide)])⟩
    · exact ⟨1, by simp, decide_eq_true (by rwa [hraw 1 (by decide)])⟩
  rw [Dev.tp, if_pos hformed, hraw p hp]

/-- CAL_POINTS reads as it was written (R160, R183). -/
theorem Dev.calPoints_putPoints (hb : b.length = 80) (hok : d.pointSetOk e b = true) : (d.putPoints e b).calPoints e = b := by
  have htps : (List.range 8).map (fun p => (d.putPoints e b).tp e p) = (List.range 8).map (fun p => field b (72 + p) 1) :=
    List.map_congr_left fun p hp => d.tp_putPoints e hok (List.mem_range.1 hp)
  rw [Dev.calPoints, d.pointBytes_putPoints e b hb, htps, flatMap_be_field b 72 8 (by omega),
    List.take_of_length_le (l := b.drop 72) (by rw [List.length_drop]; omega), List.take_append_drop]

end

section
variable {d : Dev} {e : Nat} {b : List Byte}

theorem calPointsWrite_noent (h : 32767 < e) : calPointsWrite e b d = (.noent, d) := if_pos h

theorem calPointsWrite_invalid (he : e ≤ 32767) (h : b.length ≠ 80 ∨ d.pointSetOk e b = false) :
    calPointsWrite e b d = (.invalid, d) := (if_neg (not_lt.2 he)).trans (if_pos h)

theorem calPointsWrite_stored (he : e ≤ 32767) (hb : b.length = 80) (hok : d.pointSetOk e b = true) :
    calPointsWrite e b d = (.ok, d.putPoints e b) := (if_neg (not_lt.2 he)).trans (if_neg (by simp [hb, hok]))

end

/-! ## DARK_CAPTURE (R166) -/

section
variable {d : Dev}

theorem Dev.darkBusy_iff : d.darkBusy = true ↔ d.cal.darkDue = true ∨ d.cal.darkRun ≠ none := by
  rw [Dev.darkBusy, Bool.or_eq_true, Option.isSome_iff_ne_none]

theorem darkCapture_not_one {v : Nat} (h : v ≠ 1) : darkCapture v d = (.invalid, d) := if_pos h

theorem darkCapture_barred (h : d.circuits false ≠ [] ∨ d.darkBusy = true) : darkCapture 1 d = (.conflict, d) := by
  rw [darkCapture, if_neg (by decide), if_pos h]

theorem darkCapture_due (hc : d.circuits false = []) (hb : ¬d.darkBusy = true) :
    darkCapture 1 d = (.ok, { d with cal := { d.cal with darkDue := true } }) := by
  rw [darkCapture, if_neg (by decide), if_neg (not_or.2 ⟨not_not.2 hc, hb⟩)]
  rfl

/-! ## DARK_CAPTURE_DONE (R166) -/

/-- The mean of a site's samples, rounded half away from zero and limited to 16 bits. -/
def Dev.darkMean (d : Dev) (i : Nat) : Int := satI 16 (divAway (tget (0, 0) d.cal.darkSums i).1 (tget (0, 0) d.cal.darkSums i).2)

theorem signed_ofBe_code_satI (v : Int) : signed 16 (ofBe (be 2 (code 16 (satI 16 v)))) = satI 16 v := by
  rw [ofBe_be]
  refine signed_code (n := 16) (by decide) ?_ ?_ <;>
  · rw [satI, clampI]
    split
    · decide
    · split <;> omega

theorem wordOf_darkAddr {i x : Nat} (hlow : darkAddr i ≤ x) (hhigh : x < darkAddr i + 2) : wordOf x = wordOf (darkAddr i) := by
  unfold darkAddr wordOf at *
  omega

/-- The two bytes of a site's DARK in memory, written narrow: they read back, and another site's read as before. -/
theorem Mem.Merges.narrow_dark {m : Mem} (h : m.Merges) (i v : Nat) :
    (m.narrow (cellsFrom (darkAddr i) (be 2 v)) .other false).Merges
      ∧ (m.narrow (cellsFrom (darkAddr i) (be 2 v)) .other false).bytes (darkAddr i) 2 = be 2 v
      ∧ ∀ j, j ≠ i →
        (m.narrow (cellsFrom (darkAddr i) (be 2 v)) .other false).bytes (darkAddr j) 2 = m.bytes (darkAddr j) 2 := by
  have hword : ∀ x, darkAddr i ≤ x → x < darkAddr i + (be 2 v).length → wordOf x = wordOf (darkAddr i) :=
    fun x => wordOf_darkAddr
  refine ⟨h.narrow hword .other false, h.bytes_narrow hword .other false,
    fun j hj => h.bytes_narrow_other hword .other false ?_⟩
  change darkAddr j + 2 ≤ darkAddr i ∨ darkAddr i + 2 ≤ darkAddr j
  unfold darkAddr
  omega

theorem Dev.darkSite_few {i : Nat} (h : (tget (0, 0) d.cal.darkSums i).2 < 128) :
    d.darkSite i = d.setCal (fun c => { c with darkShort := c.darkShort + 1 }) := if_pos h

/-- DARK of a site is written. -/
theorem Dev.darkSite_enough {i : Nat} (h : 128 ≤ (tget (0, 0) d.cal.darkSums i).2) : ∃ r, d.darkSite i
    = { d.mem (fun m => m.narrow (cellsFrom (darkAddr i) (be 2 (code 16 (d.darkMean i)))) .other false) with rd := r } :=
  ⟨_, if_neg (not_lt.2 h)⟩

section
variable (hm : d.sram.Merges)
include hm

theorem Dev.darkWritten_darkSite_same {i : Nat} (h : 128 ≤ (tget (0, 0) d.cal.darkSums i).2) :
    (d.darkSite i).darkWritten i = d.darkMean i := by
  obtain ⟨r, hr⟩ := Dev.darkSite_enough h
  rw [hr]
  exact (congrArg (fun l => signed 16 (ofBe l)) (hm.narrow_dark i _).2.1).trans (signed_ofBe_code_satI _)

theorem Dev.darkWritten_darkSite_other {i j : Nat} (hj : j ≠ i) : (d.darkSite i).darkWritten j = d.darkWritten j := by
  by_cases h : (tget (0, 0) d.cal.darkSums i).2 < 128
  · rw [Dev.darkSite_few h]
    rfl
  · obtain ⟨r, hr⟩ := Dev.darkSite_enough (not_lt.1 h)
    rw [hr]
    exact congrArg (fun l => signed 16 (ofBe l)) ((hm.narrow_dark i _).2.2 j hj)

theorem Dev.merges_darkSite (i : Nat) : (d.darkSite i).sram.Merges := by
  by_cases h : (tget (0, 0) d.cal.darkSums i).2 < 128
  · rw [Dev.darkSite_few h]
    exact hm
  · obtain ⟨r, hr⟩ := Dev.darkSite_enough (not_lt.1 h)
    rw [hr]
    exact (hm.narrow_dark i _).1

end

/-- y is d but for what sites' DARK and the count of the others change. -/
def Dev.DarkWrites (d y : Dev) : Prop :=
  ∃ r n m v, y = { d with rd := r, cal := { d.cal with darkShort := n }, sram := m, memory := v }

theorem Dev.DarkWrites.refl (d : Dev) : d.DarkWrites d := ⟨d.rd, d.cal.darkShort, d.sram, d.memory, rfl⟩

theorem Dev.DarkWrites.darkSite {y : Dev} (h : d.DarkWrites y) (i : Nat) : d.DarkWrites (y.darkSite i) := by
  obtain ⟨r, n, m, v, rfl⟩ := h
  by_cases hi : (tget (0, 0) d.cal.darkSums i).2 < 128
  · exact ⟨r, n + 1, m, v, if_pos hi⟩
  · exact ⟨_, _, _, _, if_neg hi⟩

/-- Every enabled site of the rows in use is judged. -/
def Dev.darkSites (d : Dev) : Dev :=
  iter (fun m d => iter (fun c d => if d.monitorOn c then d.darkSite (256 * m + c) else d) 256 0 d) d.cyc.conf.rows 0 d

theorem Dev.DarkWrites.darkSites (d : Dev) : d.DarkWrites d.darkSites := by
  refine iter_keeps (fun y => d.DarkWrites y) _ _ _ _ (fun m y hy => ?_) (.refl d)
  refine iter_keeps (fun y => d.DarkWrites y) _ _ _ _ (fun c y hy => ?_) hy
  split
  · exact hy.darkSite _
  · exact hy

/-- While sites are judged, memory's entries stay in order. -/
structure Dev.DarkJudging (d y : Dev) : Prop where
  kept : d.DarkWrites y
  merges : y.sram.Merges

/-- DARK of site k has been written. -/
structure Dev.DarkJudged (d : Dev) (k : Nat) (y : Dev) : Prop extends d.DarkJudging y where
  dark : y.darkWritten k = d.darkMean k

section
variable {y : Dev} {k : Nat}

theorem Dev.DarkJudging.darkSite (h : d.DarkJudging y) (i : Nat) : d.DarkJudging (y.darkSite i) :=
  ⟨h.kept.darkSite i, Dev.merges_darkSite h.merges i⟩

theorem Dev.DarkJudging.darkSite_judged (h : d.DarkJudging y) (hk : 128 ≤ (tget (0, 0) d.cal.darkSums k).2) :
    d.DarkJudged k (y.darkSite k) := by
  refine ⟨h.darkSite k, ?_⟩
  obtain ⟨⟨r, n, m, v, rfl⟩, hm⟩ := h
  exact Dev.darkWritten_darkSite_same hm hk

theorem Dev.DarkJudged.darkSite (h : d.DarkJudged k y) (hk : 128 ≤ (tget (0, 0) d.cal.darkSums k).2) (i : Nat) :
    d.DarkJudged k (y.darkSite i) := by
  by_cases hi : i = k
  · subst hi
    exact h.toDarkJudging.darkSite_judged hk
  · exact ⟨h.toDarkJudging.darkSite i, (Dev.darkWritten_darkSite_other h.merges (Ne.symm hi)).trans h.dark⟩

end

theorem Dev.darkWritten_darkSites {m c : Nat} (hmerge : d.sram.Merges) (hm : m < d.cyc.conf.rows) (hc : c < 256)
    (hon : d.monitorOn c = true) (hk : 128 ≤ (tget (0, 0) d.cal.darkSums (256 * m + c)).2) :
    d.darkSites.darkWritten (256 * m + c) = d.darkMean (256 * m + c) := by
  have hsite : ∀ j i y, d.DarkJudging y → d.DarkJudging (if y.monitorOn i then y.darkSite (256 * j + i) else y) :=
    fun j i y hy => by
      split
      · exact hy.darkSite _
      · exact hy
  have hkeep : ∀ j i y, d.DarkJudged (256 * m + c) y →
      d.DarkJudged (256 * m + c) (if y.monitorOn i then y.darkSite (256 * j + i) else y) := fun j i y hy => by
    split
    · exact hy.darkSite hk _
    · exact hy
  have hjudge : ∀ y, d.DarkJudging y →
      d.DarkJudged (256 * m + c) (if y.monitorOn c then y.darkSite (256 * m + c) else y) := fun y hy => by
    have hony : y.monitorOn c = true := by
      obtain ⟨⟨r, n, m, v, rfl⟩, -⟩ := hy
      exact hon
    rw [if_pos hony]
    exact hy.darkSite_judged hk
  have hrows := iter_reaches (fun y => d.DarkJudging y) (fun y => d.DarkJudged (256 * m + c) y)
    (fun j y => iter (fun i y => if y.monitorOn i then y.darkSite (256 * j + i) else y) 256 0 y) (k := m)
    (fun j y hy => iter_keeps (fun y => d.DarkJudging y) _ _ _ _ (hsite j) hy)
    (fun j y hy => iter_keeps (fun y => d.DarkJudged (256 * m + c) y) _ _ _ _ (hkeep j) hy)
    (fun y hy => iter_reaches (fun y => d.DarkJudging y) (fun y => d.DarkJudged (256 * m + c) y) _ (k := c) (hsite m) (hkeep m)
      hjudge _ _ _ (Nat.zero_le c) (by omega) hy)
  exact (hrows _ _ _ (Nat.zero_le m) (by omega) ⟨.refl d, hmerge⟩).dark

theorem darkCaptureDone_waits {t : Nat} (ht : d.cal.darkRun = some t) (h : d.ticks < t + 256) : darkCaptureDone d = d := by
  rw [darkCaptureDone, ht]
  exact if_pos (.inl h)

/-- A capture whose cycles and conversions are over ends: the sites are judged. -/
theorem darkCaptureDone_over {t : Nat} (ht : d.cal.darkRun = some t) (hover : t + 256 ≤ d.ticks)
    (hconv : ∀ x ∈ d.rd.conversions, t + 256 ≤ x.tick) : darkCaptureDone d = (d.setCal (fun c => { c with
      darkShort := 0, darkRun := none })).darkSites.setCal (fun c => { c with darkSums := [] }) := by
  rw [darkCaptureDone, ht]
  refine if_neg (not_or.2 ⟨not_lt.2 hover, fun h => ?_⟩)
  obtain ⟨x, hx, hlt⟩ := List.any_eq_true.1 h
  exact absurd (hconv x hx) (not_le.2 (of_decide_eq_true hlt))

end

/-- Settles O21: a set written reads back word by word, and each site's DARK through the merge buffer. -/
theorem calibrationPoints : Obligations.CalibrationPoints := by
  intro elem points v s
  refine ⟨fun h => answers_of_ask (calPointsWrite elem.toNat points) rfl (calPointsWrite_noent h),
    fun he => ⟨fun h => answers_of_ask (calPointsWrite elem.toNat points) rfl (calPointsWrite_invalid he h),
      fun hlen hok => ?stored⟩,
    fun h => answers_of_ask (darkCapture v.toNat) rfl (darkCapture_not_one fun h1 => h (BitVec.eq_of_toNat_eq h1)),
    fun h => answers_of_ask (darkCapture 1) rfl (darkCapture_barred (h.imp_right Dev.darkBusy_iff.2)),
    fun hc hdue hrun => answers_of_ask (darkCapture 1) rfl (darkCapture_due hc (by simp [Dev.darkBusy, hdue, hrun])),
    fun t ht => ⟨fun hover hconv => ?done, fun h => gives_of_upd darkCaptureDone rfl (darkCaptureDone_waits ht h)⟩⟩
  case stored =>
    exact ⟨_, answers_of_ask (calPointsWrite elem.toNat points) rfl (calPointsWrite_stored he hlen hok),
      s.dev.calPoints_putPoints elem.toNat hlen hok, fun a ha => s.dev.byte_putPoints_other elem.toNat points ha,
      tget_tset_same false s.dev.cal.calPoisoned elem.toNat false, s.dev.putPoints_eq elem.toNat points⟩
  case done =>
    set x := s.dev.setCal (fun c => { c with darkShort := 0, darkRun := none }) with hx
    obtain ⟨r, n, mem, v, h⟩ := Dev.DarkWrites.darkSites x
    refine ⟨_, gives_of_upd darkCaptureDone rfl (darkCaptureDone_over ht hover hconv), ?_, rfl,
      fun hm m c hrow hc hon hk => ?_, ?_⟩
    · rw [← hx, h]
      rfl
    · have hmerges : x.sram.Merges := fun e he => by
        rw [hx, Dev.setCal_sram, hm] at he
        cases he
      exact Dev.darkWritten_darkSites hmerges hrow hc hon hk
    · rw [← hx, h]
      rfl

end Sys2Proof.Machine
end

section
/-! What passes between mates (R182, R245, R249, R368, R380): a point set or label command that is applied once, its
acknowledgement, and the frames sent again or given up. -/

namespace Sys2Proof.Machine

/-! ## Frames to the mate (R271, R368) -/

/-- A frame of class 4, type 17 to the mate, with its POISON bit. -/
def Dev.mateFrame (d : Dev) (poison : Bool) (p : List Byte) : Frame :=
  mkFrame 4 17 d.net.mateAddress d.net.address d.net.seq.toNat (!d.laneUp 0) poison p

theorem Dev.mateFrame_header (d : Dev) (poison : Bool) (p : List Byte) :
    (d.mateFrame poison p).cls = 4 ∧ (d.mateFrame poison p).typ = 17 := by
  simp [Frame.cls, Frame.typ, Dev.mateFrame, mkFrame, field, be, ofBe]

/-- A mate link, UP and in use, carries a frame to the mate that is within its MTU and finds room. -/
theorem Dev.toMate_sent {d : Dev} {l : Nat} (hl : l = 2 ∨ l = 3) (poison : Bool) {p : List Byte} (hup : d.laneUp l = true)
    (hused : (d.lane l).unused = false) (hmtu : (d.mateFrame poison p).size ≤ d.mtu l)
    (hroom : d.hasRoom l 4 (d.mateFrame poison p)) :
    d.toMate l 4 17 poison p = (d.enqueue l (d.mateFrame poison p) false).nextSeq := by
  obtain ⟨hcls, htyp⟩ := d.mateFrame_header poison p
  have hreceives : (d.lane l).receives = true := (Lane.receives_iff _).2 (.inr (.inr (of_decide_eq_true hup)))
  have htravel : d.mayTravel l (d.mateFrame poison p) = true := by
    rcases hl with rfl | rfl <;> simp [Dev.mayTravel, hreceives, hused, hup, htyp]
  have hsend : d.toMate l 4 17 poison p = if d.mayTravel l (d.mateFrame poison p) && (d.mateFrame poison p).size ≤ d.mtu l then
      (d.letIn l (d.mateFrame poison p) false).nextSeq else d := rfl
  rw [hsend, if_pos (by rw [Bool.and_eq_true, decide_eq_true_eq]; exact ⟨htravel, hmtu⟩),
    Dev.letIn_of_hasRoom false (hcls.symm ▸ hroom)]

/-! ## Acknowledgements (R368) -/

/-- The acknowledgement of a SYNC_SEQ with a status. -/
def Dev.ackFrame (d : Dev) (n : BitVec 32) (r : Resp) : Frame :=
  d.ownFrame 4 17 d.net.mateAddress (syncBytes 3 (respCode r) 0 n.toNat [])

/-- SL2 takes an acknowledgement: it is UP, in use, and its queue has room. -/
structure Dev.AcksOn (d : Dev) (n : BitVec 32) : Prop where
  up : d.laneUp 2 = true
  used : (d.lane 2).unused = false
  room : ∀ r, d.hasRoom 2 4 (d.ackFrame n r)

/-- An acknowledgement takes the same room whatever its status. -/
theorem Dev.acksOn_of_room {d : Dev} {n : BitVec 32} {r : Resp} (hup : d.laneUp 2 = true) (hused : (d.lane 2).unused = false)
    (hroom : d.hasRoom 2 4 (d.ackFrame n r)) : d.AcksOn n := by
  refine ⟨hup, hused, fun r' => ?_⟩
  have hsize : ∀ q, (d.ackFrame n q).size = 38 + (8 + 18) := fun q => by
    simp [Dev.ackFrame, Dev.ownFrame, mkFrame, Frame.size, syncBytes_length]
  rwa [Dev.hasRoom, hsize, ← hsize r]

/-- The acknowledgement sent from a device y whose network, clock and settings are those of d once the frame is taken up. -/
theorem Dev.AcksOn.sent {d y : Dev} {n : BitVec 32} (h : d.AcksOn n) (r : Resp) (hnet : y.net = (d.takeAny 17).net)
    (htime : y.time = d.time) (hcfg : y.cfg = d.cfg) :
    ∃ x, y.ack n r = { y with net := x } ∧ Queued d { y with net := x } 2 4 (d.ackFrame n r) := by
  have hlane : ∀ l, y.lane l = d.lane l := fun l => by
    rw [Dev.lane, hnet]
    rfl
  have hup : y.laneUp 2 = true := by
    rw [Dev.laneUp, hlane]
    exact h.up
  have hframe : y.ackFrame n r = d.ackFrame n r := by
    simp only [Dev.ackFrame, Dev.ownFrame, Dev.laneUp, hlane, hnet]
    rfl
  have hroom : y.hasRoom 2 4 (y.ackFrame n r) := by
    rw [hframe, Dev.hasRoom, hlane, Dev.queueLimit, hcfg]
    exact h.room r
  have hack : y.ack n r = (y.enqueue 2 (d.ackFrame n r) false).nextSeq := by
    rw [← hframe]
    refine (if_pos (by rw [Dev.mateUp, hup, Bool.true_or])).trans ?_
    rw [show y.mateLane = 2 from if_pos hup]
    exact Dev.toMate_of_hasRoom hup (by rw [hlane]; exact h.used) (by simp [syncBytes_length]) hroom
  refine ⟨(y.ack n r).net, by rw [hack]; rfl, ?_⟩
  obtain ⟨hqueue, hseq⟩ := queued_enqueue y 2 (d.ackFrame n r)
  rw [show (d.ackFrame n r).cls = 4 from (syncFrame_header ..).1, ← hack, hlane, htime] at hqueue
  rw [← hack, hnet] at hseq
  exact ⟨hqueue, hseq⟩

/-! ## A frame applied once (R368, R380) -/

/-- SYNC_SEQ n is noted among the last 64 applied. -/
def Dev.noteSync (d : Dev) (n : BitVec 32) : Dev := d.setTow (fun t => { t with syncApplied := (n :: t.syncApplied).take 64 })

section
variable {d y : Dev} {n : BitVec 32} {f : Dev → Resp × Dev} {r : Resp}

theorem applySync_poisoned : d.applySync n true f = (d.takeAny 17).ack n .poisoned := by
  rw [Dev.applySync]
  exact if_pos rfl

theorem applySync_again (h : d.tow.syncApplied.contains n = true) : d.applySync n false f = (d.takeAny 17).ack n .ok := by
  rw [Dev.applySync, if_neg Bool.false_ne_true]
  exact if_pos h

/-- A frame with a new SYNC_SEQ is acknowledged with its own code, and noted where that is OK. -/
theorem applySync_new (h : d.tow.syncApplied.contains n = false) (hf : f (d.takeAny 17) = (r, y)) :
    d.applySync n false f = (if r = .ok then y.noteSync n else y).ack n r := by
  have hnew : ¬(d.takeAny 17).tow.syncApplied.contains n = true := Bool.eq_false_iff.1 h
  rw [Dev.applySync, if_neg Bool.false_ne_true, if_neg hnew, hf]
  rfl

theorem applySync_taken (h : d.tow.syncApplied.contains n = false) (hf : f (d.takeAny 17) = (.ok, y)) :
    d.applySync n false f = (y.noteSync n).ack n .ok := by
  rw [applySync_new h hf, if_pos rfl]

theorem applySync_refused (h : d.tow.syncApplied.contains n = false) (hf : f (d.takeAny 17) = (r, y)) (hr : r ≠ .ok) :
    d.applySync n false f = y.ack n r := by
  rw [applySync_new h hf, if_neg hr]

end

section
variable {i : Instr} {s : State} {n : BitVec 32} (h : s.dev.AcksOn n)
include h

/-- A frame that changes nothing is acknowledged. -/
theorem completes_acked {g : Dev → Dev} {r : Resp} (hexec : exec i s = s.upd g) (hg : g s.dev = (s.dev.takeAny 17).ack n r) :
    Completes i s (fun d => Queued s.dev d 2 4 (s.dev.ackFrame n r) ∧ d = { s.dev with net := d.net }) := by
  obtain ⟨x, hx, hqueued⟩ := h.sent (y := s.dev.takeAny 17) r rfl rfl rfl
  exact ⟨_, gives_of_upd g hexec (hg.trans hx), hqueued, rfl⟩

/-- A frame that makes y of the device, the network apart, is noted and acknowledged. -/
theorem gives_noted {f : Dev → Resp × Dev} {y : Dev} (hnew : s.dev.tow.syncApplied.contains n = false)
    (hexec : exec i s = s.upd (fun d => d.applySync n false f))
    (hf : f (s.dev.takeAny 17) = (.ok, { y with net := (s.dev.takeAny 17).net })) (htow : y.tow = s.dev.tow)
    (htime : y.time = s.dev.time) (hcfg : y.cfg = s.dev.cfg) :
    ∃ x, Gives i s { y with net := x, tow := (s.dev.noteSync n).tow }
      ∧ Queued s.dev { y with net := x, tow := (s.dev.noteSync n).tow } 2 4 (s.dev.ackFrame n .ok) := by
  have hnote : ({ y with net := (s.dev.takeAny 17).net } : Dev).noteSync n
      = { y with net := (s.dev.takeAny 17).net, tow := (s.dev.noteSync n).tow } := by
    simp only [Dev.noteSync, Dev.setTow, htow]
  obtain ⟨x, hx, hqueued⟩ := h.sent
    (y := { y with net := (s.dev.takeAny 17).net, tow := (s.dev.noteSync n).tow }) .ok rfl htime hcfg
  have htaken := (applySync_taken hnew hf).trans ((congrArg (fun z => Dev.ack z n .ok) hnote).trans hx)
  exact ⟨x, gives_of_upd _ hexec htaken, hqueued⟩

end

/-! ## A label command of the mate's (R249) -/

/-- The mate's command as this unit runs it: an INSERT with REPLACE set. -/
def mateCmd (c : LabelCmd) : LabelCmd := if c.opcode = 1 then { c with flags := c.flags ||| 2 } else c

theorem mateCmd_operands (c : LabelCmd) :
    (mateCmd c).opcode = c.opcode ∧ (mateCmd c).key = c.key ∧ (mateCmd c).port = c.port := by
  unfold mateCmd
  split <;> exact ⟨rfl, rfl, rfl⟩

theorem labelCmdOk_mateCmd (c : LabelCmd) (ops : List Nat) : labelCmdOk (mateCmd c) ops = labelCmdOk c ops := by
  unfold mateCmd
  split <;> rfl

section
variable {d : Dev} {c : LabelCmd}

theorem applyMateLabel_invalid (h : labelCmdOk c [1, 2, 5] = false) : applyMateLabel c d = (.invalid, d) := by
  refine if_pos ?_
  change (!labelCmdOk (mateCmd c) [1, 2, 5]) = true
  rw [labelCmdOk_mateCmd, h]
  rfl

theorem applyMateLabel_ok (h : labelCmdOk c [1, 2, 5] = true) : applyMateLabel c d
    = if 32 ≤ d.commandsPending then (.busy, d) else (.ok, d.acceptLabel (mateCmd c) .mate) := by
  refine if_neg ?_
  change ¬(!labelCmdOk (mateCmd c) [1, 2, 5]) = true
  rw [labelCmdOk_mateCmd, h]
  decide

theorem acceptLabel_queued {o : CmdOrigin} (h : d.sightingsDue = true ∨ d.lab.busy = true) :
    d.acceptLabel c o = { d with lab := { d.lab with queue := d.lab.queue ++ [(c, o)] } } := by
  rcases h with h | h
  · exact if_pos h
  · refine (ite_eq_left_iff.2 fun _ => ?_)
    exact if_pos h

end

/-- The table is idle and its sightings are looked up: a command of the mate's executes at once (R244). -/
structure Dev.TableIdle (d : Dev) : Prop where
  queue : d.lab.queue = []
  flush : d.lab.flush = none
  busy : d.lab.busy = false
  sightings : d.sightingsDue = false

/-- The entry that an INSERT of an absent key writes (R246). -/
def insertedEntry (c : LabelCmd) : LabelEntry := {
  key := c.key.toNat, port := c.port.toNat, valid := true, hit := true, static := c.flags.getLsbD 0 }

theorem insertedEntry_mateCmd (c : LabelCmd) : insertedEntry (mateCmd c) = insertedEntry c := by
  unfold mateCmd
  split
  · simp [insertedEntry]
  · rfl

/-- The device whose table has taken the mate's command. -/
def Dev.mateTaken (d : Dev) : Dev := { d with lab := { d.lab with queue := [], busy := true } }

section
variable {d : Dev} {c : LabelCmd} (hi : d.TableIdle)
include hi

theorem acceptLabel_idle (o : CmdOrigin) : d.acceptLabel c o = (d.queueLabel c o).labelStep :=
  if_neg (by rw [show (d.queueLabel c o).sightingsDue = d.sightingsDue from rfl, hi.sightings]; decide)

theorem applyMateLabel_idle (h : labelCmdOk c [1, 2, 5] = true) :
    applyMateLabel c d = (.ok, (d.queueLabel (mateCmd c) .mate).labelStep) := by
  have hpend : d.commandsPending = 0 := by
    rw [Dev.commandsPending, hi.queue, hi.flush]
    rfl
  rw [applyMateLabel_ok h, hpend, if_neg (by decide), acceptLabel_idle hi]

theorem queueLabel_idle (o : CmdOrigin) : (d.queueLabel c o).lab.queue = [(c, o)] := by
  rw [Dev.queueLabel, Dev.setLab_lab, hi.queue]
  rfl

/-- A flush of a port of the map begins with the first bucket. -/
theorem labelStep_flush {o : CmdOrigin} (hc : c.opcode = 5) (himg : d.fab.image ≠ []) (hport : c.port.toNat < d.mapPorts) :
    (d.queueLabel c o).labelStep = d.mateTaken.flushStep c o 0 0 := by
  have hflush : (d.queueLabel c o).lab.flush = none := hi.flush
  rw [Dev.labelStep, if_neg (by rw [show (d.queueLabel c o).lab.busy = d.lab.busy from rfl, hi.busy]; decide), hflush,
    queueLabel_idle hi]
  dsimp only
  rw [hc]
  exact if_neg (not_or.2 ⟨himg, not_le.2 hport⟩)

/-- An INSERT of a key the table does not hold writes its entry and completes. -/
theorem labelStep_insert {o : CmdOrigin} {p : Nat} (hc : c.opcode = 1) (himg : d.fab.image ≠ [])
    (hport : c.port.toNat < d.mapPorts) (hp : d.lookupPoison c.key.toNat = false)
    (hf : d.findLabel c.key.toNat = none) (hfree : d.freeLabel c.key.toNat = some p) :
    (d.queueLabel c o).labelStep = (d.mateTaken.putLabel p (insertedEntry c)).completeLabel c o outOk := by
  have hok : labelCmdOk c [1] = true := by
    rw [labelCmdOk, hc]
    rfl
  have hrun : d.mateTaken.runLabel c 1 = (outOk, d.mateTaken.putLabel p (insertedEntry c)) :=
    (if_pos rfl).trans (runInsert_new (d := d.mateTaken) himg hp hport hf hfree)
  rw [labelStep_command (d := d.queueLabel c o) (x := d.mateTaken) hi.busy hi.flush (queueLabel_idle hi o) hok (by decide) rfl,
    hrun]

end

/-- A flush's step changes memory and what the table notes of the flush. -/
theorem Dev.flushStep_eq (d : Dev) (c : LabelCmd) (o : CmdOrigin) (k n : Nat) : ∃ m v w, d.flushStep c o k n
    = { d with sram := m, memory := v, lab := { d.lab with flush := some (c, o, k + 1, w) } } := by
  have hclear : ∀ ps : List Nat, ∃ m v, each ps (fun p d => d.clearLabel p) d = { d with sram := m, memory := v } := fun ps => by
    refine each_keeps (fun x : Dev => ∃ m v, x = { d with sram := m, memory := v }) ps _ d (fun p x hx => ?_)
      ⟨d.sram, d.memory, rfl⟩
    obtain ⟨m, v, rfl⟩ := hx
    exact ⟨_, _, rfl⟩
  unfold Dev.flushStep
  dsimp only
  generalize (stepPositions k).filter _ = ps
  obtain ⟨m, v, h⟩ := hclear ps
  exact ⟨m, v, n + ps.length, by rw [h]; rfl⟩

/-- A command of the mate's completes with its record alone, put in line for forwarding where the unit drives. -/
theorem Dev.completeLabel_mate (d : Dev) (c : LabelCmd) (o : LabelOut) : ∃ b l, d.completeLabel c .mate o
    = { d with lab := { d.lab with results := b, resultIndex := d.lab.resultIndex + 1, forward := l } } := by
  unfold Dev.completeLabel
  dsimp only
  split <;> exact ⟨_, _, rfl⟩

section
variable {d : Dev} {c : LabelCmd} (hi : d.TableIdle) (hok : labelCmdOk c [1, 2, 5] = true) (himg : d.fab.image ≠ [])
  (hport : c.port.toNat < d.mapPorts)
include hi hok himg hport

/-- The mate's flush is under way once its first bucket is done. -/
theorem applyMateLabel_flush (hc : c.opcode = 5) : ∃ m v w, applyMateLabel c d = (.ok, { d with
    sram := m, memory := v, lab := { d.lab with queue := [], busy := true, flush := some (c, .mate, 1, w) } }) := by
  have hown : mateCmd c = c := if_neg (by rw [hc]; decide)
  obtain ⟨m, v, w, hstep⟩ := d.mateTaken.flushStep_eq c .mate 0 0
  refine ⟨m, v, w, ?_⟩
  rw [applyMateLabel_idle hi hok, hown, labelStep_flush hi hc himg hport, hstep]
  rfl

/-- The mate's INSERT of an absent key leaves its entry and its record. -/
theorem applyMateLabel_insert {p : Nat} (hc : c.opcode = 1) (hp : d.lookupPoison c.key.toNat = false)
    (hf : d.findLabel c.key.toNat = none) (hfree : d.freeLabel c.key.toNat = some p) : ∃ b l, applyMateLabel c d
      = (.ok, { d.putLabel p (insertedEntry c) with lab := { d.lab with
          queue := [], busy := true, results := b, resultIndex := d.lab.resultIndex + 1, forward := l } }) := by
  obtain ⟨hop, hkey, hto⟩ := mateCmd_operands c
  obtain ⟨b, l, hdone⟩ := (d.mateTaken.putLabel p (insertedEntry c)).completeLabel_mate (mateCmd c) outOk
  refine ⟨b, l, ?_⟩
  rw [← hto] at hport
  rw [← hkey] at hp hf hfree
  rw [applyMateLabel_idle hi hok, labelStep_insert hi (hop.trans hc) himg hport hp hf hfree, insertedEntry_mateCmd, hdone]
  rfl

end

/-! ## Kept frames (R368) -/

section
variable {n : BitVec 32} {d : Dev}

theorem mateSyncResend_none (h : d.tow.syncOut.find? (fun x => x.seq = n) = none) : mateSyncResend n d = d := by
  rw [mateSyncResend, h]

theorem mateSyncLost_none (h : d.tow.syncOut.find? (fun x => x.seq = n) = none) : mateSyncLost n d = d := by
  rw [mateSyncLost, h]

variable {x : SyncOut} (h : d.tow.syncOut.find? (fun x => x.seq = n) = some x)
include h

theorem mateSyncResend_early (ht : d.mono < x.since + 10000000 * x.sends) : mateSyncResend n d = d := by
  rw [mateSyncResend, h]
  exact if_pos ht

theorem mateSyncResend_due (ht : x.since + 10000000 * x.sends ≤ d.mono) :
    mateSyncResend n d = (d.resend x).setTow (fun t => { t with
      syncOut := t.syncOut.map (fun y => if y.seq = n then { y with sends := y.sends + 1 } else y) }) := by
  rw [mateSyncResend, h]
  exact if_neg (not_lt.2 ht)

theorem mateSyncLost_early (ht : d.mono < 1000000000 + x.since) : mateSyncLost n d = d := by
  rw [mateSyncLost, h]
  exact if_pos ht

theorem mateSyncLost_due (ht : 1000000000 + x.since ≤ d.mono) : mateSyncLost n d = Dev.raise { d with
    tow := { d.tow with syncOut := d.tow.syncOut.filter (fun y => y.seq ≠ n) } } .mateSyncLost [x.kind, x.item] := by
  rw [mateSyncLost, h]
  exact if_neg (not_lt.2 ht)

end

/-- The mate link of the next sending of a kept frame: the other one where that is UP. -/
def Dev.resendLane (d : Dev) (x : SyncOut) : Nat :=
  if x.sends % 2 = 1 then (if d.laneUp 3 then 3 else 2) else (if d.laneUp 2 then 2 else 3)

theorem Dev.resendLane_mate (d : Dev) (x : SyncOut) : d.resendLane x = 2 ∨ d.resendLane x = 3 := by
  unfold Dev.resendLane
  (repeat' split) <;> simp

/-- A frame sent again is queued on its link; the network apart, nothing changes. -/
theorem Dev.resend_sent {d : Dev} {x : SyncOut} {f : Frame}
    (hf : f = d.mateFrame x.poison (syncBytes x.kind 0 x.item x.seq.toNat x.body)) (hup : d.laneUp (d.resendLane x) = true)
    (hused : (d.lane (d.resendLane x)).unused = false) (hmtu : f.size ≤ d.mtu (d.resendLane x))
    (hroom : d.hasRoom (d.resendLane x) 4 f) :
    ∃ v, d.resend x = { d with net := v } ∧ Queued d { d with net := v } (d.resendLane x) 4 f := by
  subst hf
  have hsent : d.resend x = _ := (if_pos hup).trans (Dev.toMate_sent (d.resendLane_mate x) x.poison hup hused hmtu hroom)
  have hqueued := queued_enqueue d (d.resendLane x) (d.mateFrame x.poison (syncBytes x.kind 0 x.item x.seq.toNat x.body))
  rw [(d.mateFrame_header ..).1] at hqueued
  exact ⟨_, hsent, hqueued⟩

/-- Settles O46: what is applied comes of the command's own run, and SL2 carries the acknowledgement of its code. -/
theorem mateSync : Obligations.MateSync := by
  intro n elem points c s
  refine ⟨fun f hf hup hused hroom => ?applied, ⟨_, gives_of_upd (mateSyncAck n) rfl rfl, rfl, rfl⟩,
    fun h => ⟨gives_of_upd (mateSyncResend n) rfl (mateSyncResend_none h),
      gives_of_upd (mateSyncLost n) rfl (mateSyncLost_none h)⟩,
    fun x hx => ⟨fun ht => gives_of_upd (mateSyncResend n) rfl (mateSyncResend_early hx ht),
      fun l f hl hf ht hup hused hmtu hroom => ?resent,
      fun ht => gives_of_upd (mateSyncLost n) rfl (mateSyncLost_early hx ht),
      fun ht => gives_of_upd (mateSyncLost n) rfl (mateSyncLost_due hx ht)⟩⟩
  case resent =>
    subst hl
    obtain ⟨v, hv, hqueued⟩ := Dev.resend_sent hf hup hused hmtu hroom
    exact ⟨_, gives_of_upd (mateSyncResend n) rfl ((mateSyncResend_due hx ht).trans (congrArg (fun y => Dev.setTow y _) hv)),
      hqueued, rfl, rfl⟩
  obtain rfl : f = s.dev.ackFrame n := funext hf
  have hacks := Dev.acksOn_of_room hup hused hroom
  refine ⟨fun hnew => ?new, fun hold => ⟨completes_acked hacks rfl (applySync_again hold),
    completes_acked hacks rfl (applySync_again hold)⟩, completes_acked hacks rfl applySync_poisoned,
    completes_acked hacks rfl applySync_poisoned⟩
  refine ⟨fun he hlen hok => ?points, fun he hlen hbad => ?badPoints, fun r hr => ?refused, fun own hown hok => ?label⟩
  case points =>
    obtain ⟨x, hgives, hqueued⟩ := gives_noted hacks hnew (i := .mateSyncCalPoints n elem points false)
      (y := s.dev.putPoints elem.toNat points) rfl (calPointsWrite_stored (d := s.dev.takeAny 17) he hlen hok) rfl rfl rfl
    exact ⟨_, hgives, rfl, rfl, fun a ha => s.dev.byte_putPoints_other elem.toNat points ha, rfl, hqueued, rfl⟩
  case badPoints =>
    have hinvalid := calPointsWrite_invalid (d := s.dev.takeAny 17) he (.inr hbad)
    exact completes_acked hacks rfl (applySync_refused hnew hinvalid (by decide))
  case refused =>
    rcases hr with ⟨hbad, rfl⟩ | ⟨hok, hpend, rfl⟩
    · exact completes_acked hacks rfl (applySync_refused hnew (applyMateLabel_invalid hbad) (by decide))
    · exact completes_acked hacks rfl (applySync_refused hnew ((applyMateLabel_ok hok).trans (if_pos hpend)) (by decide))
  obtain rfl : own = mateCmd c := hown
  refine ⟨fun hpend hwait => ?queued, fun hqueue hflush hbusy hsight himg hport => ?idle⟩
  case queued =>
    have hqueues := (applyMateLabel_ok (d := s.dev.takeAny 17) hok).trans
      ((if_neg (not_le.2 hpend)).trans (congrArg _ (acceptLabel_queued hwait)))
    obtain ⟨x, hgives, hqueued⟩ := gives_noted hacks hnew (i := .mateSyncLabelCommand n c false)
      (y := { s.dev with lab := { s.dev.lab with queue := s.dev.lab.queue ++ [(mateCmd c, .mate)] } }) rfl hqueues rfl rfl rfl
    exact ⟨_, hgives, rfl, hqueued, rfl⟩
  have hi : (s.dev.takeAny 17).TableIdle := ⟨hqueue, hflush, hbusy, hsight⟩
  refine ⟨fun hc => ?flush, fun p e hc hp hfind hfree he => ?insert⟩
  case flush =>
    obtain ⟨m, v, w, hrun⟩ := applyMateLabel_flush hi hok himg hport hc
    obtain ⟨x, hgives, hqueued⟩ := gives_noted hacks hnew (i := .mateSyncLabelCommand n c false)
      (y := { s.dev with sram := m, memory := v, lab := { s.dev.lab with
        queue := [], busy := true, flush := some (c, .mate, 1, w) } }) rfl hrun rfl rfl rfl
    exact ⟨_, hgives, ⟨w, by rw [← hqueue]⟩, rfl, hqueued, rfl⟩
  case insert =>
    subst he
    obtain ⟨b, l, hrun⟩ := applyMateLabel_insert hi hok himg hport hc hp hfind hfree
    obtain ⟨x, hgives, hqueued⟩ := gives_noted hacks hnew (i := .mateSyncLabelCommand n c false)
      (y := { s.dev.putLabel p (insertedEntry c) with lab := { s.dev.lab with
        queue := [], busy := true, results := b, resultIndex := s.dev.lab.resultIndex + 1, forward := l } }) rfl hrun rfl rfl rfl
    exact ⟨_, hgives, rfl, rfl, rfl, hqueued, rfl⟩

end Sys2Proof.Machine
end

section
/-! The bytes and bits of words, and the words of the two banks (R5, R209, R371): what the next bank and the current one read
once a word of the next bank is written. -/

namespace Sys2Proof.Machine

/-! ## Numbers and the bytes that spell them (R5) -/

theorem foldl_bytes (l : List Byte) (a : Nat) :
    l.foldl (fun a b => a * 256 + b.toNat) a = a * 256 ^ l.length + ofBe l := by
  induction l generalizing a with
  | nil => simp [ofBe]
  | cons b l ih =>
    rw [ofBe, List.foldl_cons, List.foldl_cons, ih, ih (0 * 256 + b.toNat), List.length_cons, pow_succ]
    ring

theorem ofBe_cons (b : Byte) (l : List Byte) : ofBe (b :: l) = b.toNat * 256 ^ l.length + ofBe l := by
  rw [ofBe, List.foldl_cons, foldl_bytes, Nat.zero_mul, Nat.zero_add]

theorem ofBe_lt (l : List Byte) : ofBe l < 256 ^ l.length := by
  induction l with
  | nil => exact Nat.one_pos
  | cons b l ih =>
    have hb : b.toNat + 1 ≤ 256 := b.isLt
    calc ofBe (b :: l) = b.toNat * 256 ^ l.length + ofBe l := ofBe_cons b l
      _ < (b.toNat + 1) * 256 ^ l.length := by rw [Nat.add_one_mul]; omega
      _ ≤ 256 * 256 ^ l.length := Nat.mul_le_mul_right _ hb
      _ = 256 ^ (b :: l).length := by rw [List.length_cons, pow_succ, Nat.mul_comm]

/-- The bytes of the number that bytes spell are those bytes. -/
theorem be_ofBe (l : List Byte) : be l.length (ofBe l) = l := by
  induction l with
  | nil => rfl
  | cons b l ih =>
    have hpos : 0 < 256 ^ l.length := Nat.pow_pos (by decide)
    have hdiv : ofBe (b :: l) / 256 ^ l.length = b.toNat := by
      rw [ofBe_cons, Nat.mul_comm, Nat.mul_add_div hpos, Nat.div_eq_of_lt (ofBe_lt l), Nat.add_zero]
    have hmod : ofBe (b :: l) % 256 ^ l.length = ofBe l := by
      rw [ofBe_cons, Nat.mul_comm, Nat.mul_add_mod, Nat.mod_eq_of_lt (ofBe_lt l)]
    rw [List.length_cons, be, hdiv, hmod, ih, BitVec.ofNat_toNat, BitVec.setWidth_eq]

theorem field_lt (l : List Byte) (off n : Nat) : field l off n < 256 ^ n :=
  (ofBe_lt _).trans_le (Nat.pow_le_pow_right (by decide) (List.length_take_le ..))

theorem be_field {l : List Byte} {off n : Nat} (h : off + n ≤ l.length) : be n (field l off n) = (l.drop off).take n := by
  have hlen : ((l.drop off).take n).length = n := by
    rw [List.length_take, List.length_drop]
    omega
  have hread := be_ofBe ((l.drop off).take n)
  rwa [hlen] at hread

theorem Mem.word_lt (m : Mem) (a : Nat) : m.word a < 2 ^ 64 := by
  have h := ofBe_lt (m.bytes a 8)
  rwa [Mem.bytes_eq_map, List.length_map, List.length_range, ← Mem.bytes_eq_map] at h

/-! ## Bits -/

theorem bit_eq_testBit (w n : Nat) : bit w n = w.testBit n := by
  rw [bit, Nat.testBit_eq_decide_div_mod_eq]

/-- One bit replaced: it reads the new value, and every other the old one. -/
theorem bit_putBits_one (w lo n : Nat) (b : Bool) : bit (putBits w lo 1 (ofBool b)) n = if n = lo then b else bit w n := by
  have hword : putBits w lo 1 (ofBool b) = 2 ^ lo * (2 * (w / 2 ^ (lo + 1)) + ofBool b) + w % 2 ^ lo := by
    rw [putBits, pow_succ, show ofBool b % 2 ^ 1 = ofBool b by cases b <;> rfl]
    ring
  have hb : ofBool b < 2 := by cases b <;> decide
  have hlow : w % 2 ^ lo < 2 ^ lo := Nat.mod_lt _ (Nat.two_pow_pos lo)
  rw [hword, bit_eq_testBit, bit_eq_testBit, Nat.testBit_two_pow_mul_add _ hlow]
  rcases lt_trichotomy n lo with h | rfl | h
  · rw [if_pos h, if_neg (by omega), Nat.testBit_mod_two_pow, decide_eq_true h, Bool.true_and]
  · rw [if_neg (by omega), if_pos rfl, Nat.sub_self]
    cases b <;> simp [ofBool]
  · obtain ⟨k, rfl⟩ : ∃ k, n = lo + 1 + k := ⟨n - (lo + 1), by omega⟩
    rw [if_neg (by omega), if_neg (by omega), show lo + 1 + k - lo = k + 1 by omega, Nat.testBit_succ,
      show (2 * (w / 2 ^ (lo + 1)) + ofBool b) / 2 = w / 2 ^ (lo + 1) by omega,
      Nat.testBit_div_two_pow, Nat.add_comm k]

theorem lt_of_bit_eq_false {w n : Nat} (h : ∀ i, n ≤ i → bit w i = false) : w < 2 ^ n :=
  Nat.lt_pow_two_of_testBit w fun i hi => (bit_eq_testBit w i).symm.trans (h i hi)

theorem bit_eq_false_of_lt {w n i : Nat} (hw : w < 2 ^ n) (hi : n ≤ i) : bit w i = false :=
  (bit_eq_testBit w i).trans (Nat.testBit_lt_two_pow (hw.trans_le (Nat.pow_le_pow_right (by decide) hi)))

/-! ## One step after another -/

/-- A property that every step of the list keeps holds in the end. -/
theorem each_keeps_mem {α β : Type} (p : β → Prop) {l : List α} {f : α → β → β} {b : β} (hf : ∀ a ∈ l, ∀ b, p b → p (f a b))
    (h : p b) : p (each l f b) := by
  induction l generalizing b with
  | nil => exact h
  | cons a l ih =>
    exact ih (fun x hx => hf x (List.mem_cons_of_mem _ hx)) (hf a (List.mem_cons_self ..) b h)

/-- A property that every step of the list keeps and one of them brings about, from another that every step keeps, holds in the
end. -/
theorem each_reaches {α β : Type} (p q : β → Prop) {l : List α} {f : α → β → β} {a : α} (ha : a ∈ l)
    (hp : ∀ x ∈ l, ∀ b, p b → p (f x b)) (hq : ∀ x ∈ l, ∀ b, p b → q b → q (f x b)) (hstep : ∀ b, p b → q (f a b)) {b : β}
    (h : p b) : q (each l f b) := by
  induction l generalizing b with
  | nil => exact absurd ha List.not_mem_nil
  | cons x l ih =>
    have hrest : ∀ y ∈ l, y ∈ x :: l := fun y hy => List.mem_cons_of_mem _ hy
    rcases List.mem_cons.1 ha with rfl | ha
    · exact (each_keeps_mem (fun b => p b ∧ q b) (fun y hy b hb => ⟨hp y (hrest y hy) b hb.1, hq y (hrest y hy) b hb.1 hb.2⟩)
        ⟨hp a (List.mem_cons_self ..) b h, hstep b h⟩).2
    · exact ih ha (fun y hy => hp y (hrest y hy)) (fun y hy => hq y (hrest y hy)) (hp x (List.mem_cons_self ..) b h)

theorem iter_eq_each {α : Type} (f : Nat → α → α) (n i : Nat) (a : α) : iter f n i a = each (List.range' i n) f a := by
  induction n generalizing i a with
  | zero => rfl
  | succ n ih => exact ih (i + 1) (f i a)

/-! ## Words of the banks (R209) -/

/-- An offset of one of the words of a bank. -/
def BankOff (off : Nat) : Prop := off % 8 = 0 ∧ off < 0x48000

theorem bankOff_entryOff {k : Nat} (h : k < 1024) : BankOff (entryOff k) ∧ BankOff (entryOff k + 8) := by
  unfold BankOff entryOff
  omega

theorem bankOff_targetOff {e : Nat} (h : e < 32768) : BankOff (targetOff e) := by
  unfold BankOff targetOff
  omega

theorem bankOff_cellOff {w : Nat} (h : w < 2048) : BankOff (cellOff w) := by
  unfold BankOff cellOff
  omega

/-- Memory and the record of what the next bank holds of its own apart, y is d. -/
def Dev.OnNextBank (d y : Dev) : Prop := ∃ m v w, y = { d with sram := m, memory := v, circ := { d.circ with written := w } }

theorem Dev.OnNextBank.refl (d : Dev) : d.OnNextBank d := ⟨d.sram, d.memory, d.circ.written, rfl⟩

theorem Dev.OnNextBank.trans {d x y : Dev} (hx : d.OnNextBank x) (hy : x.OnNextBank y) : d.OnNextBank y := by
  obtain ⟨m, v, w, rfl⟩ := hx
  obtain ⟨m', v', w', rfl⟩ := hy
  exact ⟨m', v', w', rfl⟩

section
variable (d : Dev) (off w : Nat)

theorem Dev.onNextBank_putNext : d.OnNextBank (d.putNext off w) := ⟨_, _, _, rfl⟩

theorem Dev.onNextBank_putNextIf : d.OnNextBank (d.putNextIf off w) := by
  unfold Dev.putNextIf
  split
  · exact .refl d
  · exact d.onNextBank_putNext off w

/-- The current bank and the next one are two banks, and no offset of one lies in the other. -/
theorem Dev.banks_apart : d.curBank ≠ d.nextBank
    ∧ (bankAddr d.curBank + 0x48000 ≤ bankAddr d.nextBank ∨ bankAddr d.nextBank + 0x48000 ≤ bankAddr d.curBank) := by
  unfold Dev.curBank Dev.nextBank bankAddr
  omega

/-- A written word is the next bank's own, and every other is read where it was. -/
theorem Dev.bankFor_putNext (next : Bool) (x : Nat) : (d.putNext off w).bankFor next x
    = if next = true ∧ x = off then d.nextBank else d.bankFor next x := by
  cases next with
  | false => rfl
  | true =>
    have hwritten : (d.putNext off w).circ.written = d.circ.written.map (fun l => if l.contains off then l else off :: l) := rfl
    have hnext : (d.putNext off w).nextBank = d.nextBank := rfl
    have hcur : (d.putNext off w).curBank = d.curBank := rfl
    simp only [Dev.bankFor, hwritten, hnext, hcur, Bool.true_eq_false, if_false, true_and]
    cases d.circ.written with
    | none => simp
    | some l =>
      have hmem : (if l.contains off then l else off :: l).contains x = (decide (x = off) || l.contains x) := by
        split
        · rename_i h
          rcases eq_or_ne x off with rfl | hx
          · rw [h, Bool.or_true]
          · rw [decide_eq_false hx, Bool.false_or]
        · rw [List.contains_cons, beq_eq_decide]
      rw [Option.map_some]
      dsimp only
      rw [hmem]
      by_cases hx : x = off <;> simp [hx]

theorem Dev.bankFor_cases (next : Bool) (x : Nat) : d.bankFor next x = d.curBank ∨ d.bankFor next x = d.nextBank := by
  unfold Dev.bankFor
  split
  · exact .inl rfl
  · split
    · split
      · exact .inr rfl
      · exact .inl rfl
    · exact .inr rfl

variable {off w}

/-- A word of the next bank written reads back there; every other word of both banks stands (R209). -/
theorem Dev.bankWord_putNext (hoff : BankOff off) (hw : w < 2 ^ 64) (next : Bool) {x : Nat} (hx : BankOff x) :
    (d.putNext off w).bankWord next x = if next = true ∧ x = off then w else d.bankWord next x := by
  have hsram : (d.putNext off w).sram = (d.mem fun m => m.putWord (bankAddr d.nextBank + off) w).sram := rfl
  have haddr : (bankAddr d.nextBank + off) % 8 = 0 := by
    unfold bankAddr
    obtain ⟨h8, -⟩ := hoff
    omega
  rw [Dev.bankWord, Dev.bankRead, hsram, Dev.word_mem, Dev.bankFor_putNext]
  split
  · rename_i h
    rw [h.2]
    exact Mem.word_putWord _ haddr hw
  · rename_i h
    have hapart : bankAddr (d.bankFor next x) + x + 8 ≤ bankAddr d.nextBank + off
        ∨ bankAddr d.nextBank + off + 8 ≤ bankAddr (d.bankFor next x) + x := by
      obtain ⟨hoff8, hoffTop⟩ := hoff
      obtain ⟨hx8, hxTop⟩ := hx
      have hbanks := d.banks_apart
      have hsame : d.bankFor next x = d.nextBank → x ≠ off := by
        rintro hb rfl
        cases next with
        | false => exact hbanks.1 hb
        | true => exact h ⟨rfl, rfl⟩
      rcases d.bankFor_cases next x with hb | hb
      · rw [hb]
        omega
      · have hne := hsame hb
        rw [hb]
        omega
    exact Mem.word_congr fun i hi => putBytes8_byte_other _ _ _ haddr (by omega)

theorem Dev.bankWord_lt (next : Bool) (x : Nat) : d.bankWord next x < 2 ^ 64 := Mem.word_lt ..

/-- A word of the next bank reads as written, whether it had to be written or stood so. -/
theorem Dev.bankWord_putNextIf (hoff : BankOff off) (hw : w < 2 ^ 64) (next : Bool) {x : Nat} (hx : BankOff x) :
    (d.putNextIf off w).bankWord next x = if next = true ∧ x = off then w else d.bankWord next x := by
  unfold Dev.putNextIf
  split
  · rename_i h
    split
    · rename_i heq
      rw [heq.1, heq.2, h]
    · rfl
  · exact d.bankWord_putNext hoff hw next hx

end

/-- Of memory, words of the next bank at most are changed: the current bank reads as before. -/
structure Dev.WritesNext (d y : Dev) : Prop where
  rest : d.OnNextBank y
  current : ∀ off, BankOff off → y.bankWord false off = d.bankWord false off

theorem Dev.WritesNext.refl (d : Dev) : d.WritesNext d := ⟨.refl d, fun _ _ => rfl⟩

theorem Dev.WritesNext.putNextIf {d y : Dev} (h : d.WritesNext y) {off w : Nat} (hoff : BankOff off) (hw : w < 2 ^ 64) :
    d.WritesNext (y.putNextIf off w) :=
  ⟨h.rest.trans (y.onNextBank_putNextIf off w), fun x hx => by
    rw [y.bankWord_putNextIf hoff hw false hx, if_neg (fun h => Bool.noConfusion h.1), h.current x hx]⟩

/-! ## Entries of the banks (R210) -/

theorem Circ.length_bytes (c : Circ) : c.bytes.length = 16 := by
  simp only [Circ.bytes, List.length_append, be_length]

section
variable (d : Dev) {k : Nat} (hk : k < 1024) (c : Circ)
include hk

/-- An entry of the next bank reads as stored; every other, and the current bank's, stands (R211). -/
theorem Dev.entryBytes_putEntry (next : Bool) {j : Nat} (hj : j < 1024) :
    (d.putEntry k c).entryBytes next j = if next = true ∧ j = k then c.bytes else d.entryBytes next j := by
  obtain ⟨hlow, hhigh⟩ := bankOff_entryOff hk
  obtain ⟨hjlow, hjhigh⟩ := bankOff_entryOff hj
  have hlen := c.length_bytes
  have hfields : be 8 (field c.bytes 0 8) ++ be 8 (field c.bytes 8 8) = c.bytes := by
    rw [be_field (by omega), be_field (by omega), List.drop_zero, List.take_of_length_le (l := c.bytes.drop 8) (by simp [hlen]),
      List.take_append_drop]
  have hfirst : entryOff j = entryOff k ↔ j = k := by unfold entryOff; omega
  have hcross : entryOff j ≠ entryOff k + 8 ∧ entryOff j + 8 ≠ entryOff k := by unfold entryOff; omega
  have h8 := field_lt c.bytes 0 8
  have h16 := field_lt c.bytes 8 8
  rw [Dev.entryBytes, Dev.putEntry, Dev.bankWord_putNextIf _ hhigh h16 next hjlow, Dev.bankWord_putNextIf _ hlow h8 next hjlow,
    Dev.bankWord_putNextIf _ hhigh h16 next hjhigh, Dev.bankWord_putNextIf _ hlow h8 next hjhigh]
  simp only [hfirst, hcross.1, hcross.2, Nat.add_right_cancel_iff, and_false, if_false]
  split
  · exact hfields
  · rfl

end

end Sys2Proof.Machine
end

section
/-! FABRIC_BLOCK, FABRIC_APPLY and FABRIC_IN_FORCE (R189, R190, R199, R217, R353): the checks in their order, and what a map
that is accepted or comes into force leaves alone. -/

namespace Sys2Proof.Machine

/-! ## Steps that write memory alone -/

/-- Memory apart, y is d. -/
def Dev.OnMemory (d y : Dev) : Prop := ∃ m v, y = { d with sram := m, memory := v }

theorem Dev.OnMemory.refl (d : Dev) : d.OnMemory d := ⟨d.sram, d.memory, rfl⟩

theorem Dev.OnMemory.mem {d y : Dev} (h : d.OnMemory y) (f : Mem → Mem) : d.OnMemory (y.mem f) := by
  obtain ⟨m, v, rfl⟩ := h
  exact ⟨_, _, rfl⟩

theorem Dev.OnMemory.each {α : Type} {d y : Dev} {l : List α} {f : α → Dev → Dev} (hf : ∀ a x, d.OnMemory x → d.OnMemory (f a x))
    (h : d.OnMemory y) : d.OnMemory (each l f y) := each_keeps _ _ _ _ hf h

theorem Dev.OnMemory.ite {d x y : Dev} {c : Prop} [Decidable c] (hx : d.OnMemory x) (hy : d.OnMemory y) :
    d.OnMemory (if c then x else y) := by
  split
  · exact hx
  · exact hy

theorem Dev.OnMemory.fieldRec {d y : Dev} (h : d.OnMemory y) (e : Nat) (who : Finder) (f : Rec → Rec) :
    d.OnMemory (y.fieldRec e who f) := h.mem fun m => m.putFields who (recAddr e) (f (y.record e)).words

theorem Dev.OnMemory.setElemField {d y : Dev} (h : d.OnMemory y) (e lo n v : Nat) (who : Finder) :
    d.OnMemory (y.setElemField e lo n v who) := by
  unfold Dev.setElemField
  exact h.mem _

theorem Dev.OnMemory.placeElem {d y : Dev} (h : d.OnMemory y) (old new : List Byte) (e : Nat) :
    d.OnMemory (y.placeElem old new e) := .ite ((h.fieldRec e .core _).setElemField e 2 3 0 .core) (h.fieldRec e .core _)

theorem Dev.OnMemory.dropJumps {d y : Dev} (h : d.OnMemory y) (l : List Nat) : d.OnMemory (y.dropJumps l) :=
  h.each fun e _ hx => .ite (hx.setElemField e 0 1 (ofBool false) .core) hx

theorem Dev.OnMemory.dropPorts {d y : Dev} (h : d.OnMemory y) (n : Nat) : d.OnMemory (y.dropPorts n) := by
  unfold Dev.dropPorts
  exact h.each fun p x hx => hx.mem fun m => m.putWord (labelAddr p) ({} : LabelEntry).word

/-! ## FABRIC_BLOCK (R189) -/

section
variable {j : Nat} {b : List Byte} {d : Dev}

theorem fabricBlockWrite_noent (h : 511 < j) : fabricBlockWrite j b d = (.noent, d) := if_pos h

theorem fabricBlockWrite_invalid (hj : j ≤ 511) (h : b.length ≠ 1024) : fabricBlockWrite j b d = (.invalid, d) := by
  rw [fabricBlockWrite, if_neg (not_lt.2 hj), if_pos h]

theorem fabricBlockWrite_sized (hj : j ≤ 511) (h : b.length = 1024) : fabricBlockWrite j b d
    = if d.fab.state = .pending then (.conflict, d)
      else (.ok, d.setFab (fun f => { f with staged := tset [] f.staged j b })) := by
  rw [fabricBlockWrite, if_neg (not_lt.2 hj), if_neg (not_not.2 h)]

end

/-! ## FABRIC_APPLY (R190, R217) -/

section
variable {d : Dev}

/-- What bars a map from being applied: the engine running, a circuit in a bank, a solve. -/
def Dev.mapBarred (d : Dev) : Prop :=
  d.loop.state ≠ .stopped ∨ d.circuits false ≠ [] ∨ d.circuits true ≠ [] ∨ d.solve.running ≠ none ∨ d.solve.queued ≠ none

theorem fabricApply_not_one {v : Nat} (h : v ≠ 1) : fabricApply v d = (.invalid, d) := if_pos h

theorem fabricApply_busy (h : d.fab.state = .pending) : fabricApply 1 d = (.busy, d) := by
  rw [fabricApply, if_neg (by decide), if_pos h]

theorem fabricApply_barred (hp : d.fab.state ≠ .pending) (h : d.mapBarred) : fabricApply 1 d = (.conflict, d) := by
  rw [fabricApply, if_neg (by decide), if_neg hp, if_pos (by simpa only [Dev.mapBarred, Option.isSome_iff_ne_none] using h)]

section
variable (hp : d.fab.state ≠ .pending) (h : ¬ d.mapBarred)
include hp h

theorem fabricApply_refused (hbad : (d.checkImage d.stagedImage).1 ≠ 0) :
    fabricApply 1 d = (.invalid, d.setFab (fun f => { f with error := d.checkImage d.stagedImage })) := by
  rw [fabricApply, if_neg (by decide), if_neg hp, if_neg (by simpa only [Dev.mapBarred, Option.isSome_iff_ne_none] using h),
    if_pos hbad]

/-- An accepted image writes records and tables; the map unit and memory apart, nothing changes. -/
theorem fabricApply_accepted (hgood : (d.checkImage d.stagedImage).1 = 0) : ∃ m v, fabricApply 1 d = (.ok, { d with
    sram := m, memory := v, fab := { d.fab with state := .pending, error := (0, 0), pending := d.stagedImage } }) := by
  rw [fabricApply, if_neg (by decide), if_neg hp, if_neg (by simpa only [Dev.mapBarred, Option.isSome_iff_ne_none] using h),
    if_neg (not_not.2 hgood)]
  dsimp only
  generalize elemsOf d.fab.image ++ _ = es
  obtain ⟨m, v, hplaced⟩ := (Dev.OnMemory.refl d).each (l := es) fun e x hx => hx.placeElem d.fab.image d.stagedImage e
  rw [hplaced]
  exact ⟨_, _, rfl⟩

end

end

/-! ## FABRIC_IN_FORCE (R199, R217, R353) -/

theorem Dev.reassignSites_eq (d : Dev) (old new : List (Nat × Nat × Nat)) :
    ∃ r, d.reassignSites old new = { d with rd := r } := by
  refine each_keeps (fun x : Dev => ∃ r, x = { d with rd := r }) _ _ _ (fun i x hx => ?_) ⟨d.rd, rfl⟩
  obtain ⟨r, rfl⟩ := hx
  exact ⟨_, rfl⟩

/-- A commit's tables once the new map has met them: what was pending is reported as missed for it (R217). -/
def Circuits.MissedByMap (c k : Circuits) : Prop := ∀ p, c.pending = some p →
  k.pending = none ∧ k.report.result = 2 ∧ k.report.cause = 1 ∧ k.report.at_ = p.at_

/-- Missing a commit ahead changes the Circuit Tables' record of it and the next scan's order alone. -/
theorem Dev.missAhead_eq (d : Dev) : ∃ k n, d.circ.MissedByMap k
    ∧ d.missAhead = { d with circ := k, cyc := { d.cyc with nextScan := n } } := by
  unfold Dev.missAhead
  split
  · rename_i c h
    refine ⟨(d.missCommit c 1).circ, [], fun p hp => ?_, rfl⟩
    obtain rfl : p = c := by simpa [Dev.commitAhead, hp] using h
    exact ⟨rfl, rfl, rfl, rfl⟩
  · rename_i h
    exact ⟨d.circ, d.cyc.nextScan, fun p hp => by simp [Dev.commitAhead, hp] at h, rfl⟩

theorem Dev.keepTaps_clearLabels_eq (d old : Dev) :
    (d.keepTaps old).clearLabels = { d with dec := (d.keepTaps old).clearLabels.dec } := rfl

/-- The solver that a new map leaves: nothing runs or waits, and no report is left. -/
def Solver.forgotten (s : Solver) : Solver := { s with
  running := none, queued := none, status := .none_, unplaced := 0xFFFF, moved := [], changed := 0, dual := 0 }

/-- The pending map is in force, and the sites whose role changes are reassigned. -/
def Dev.newMap (d : Dev) : Dev := (d.reassignSites (siteRoles d.fab.image) (siteRoles d.fab.pending)).setFab (fun f => { f with
  state := .inForce, image := d.fab.pending, pending := [] })

/-- Solves, the resident image and the load of a map are forgotten. -/
def Dev.forgetSolves (d : Dev) : Dev := { d with
  solve := d.solve.forgotten, tow := { d.tow with resident := none }
  memory := { d.memory with compat := if d.memory.compat.1 = 1 then (2, 0, 0) else d.memory.compat } }

theorem Dev.newMap_eq (d : Dev) : ∃ r, d.newMap = { d with
    rd := r, fab := { d.fab with state := .inForce, image := d.fab.pending, pending := [] } } := by
  obtain ⟨r, h⟩ := d.reassignSites_eq (siteRoles d.fab.image) (siteRoles d.fab.pending)
  exact ⟨r, by rw [Dev.newMap, h]; rfl⟩

theorem fabricInForce_none {d : Dev} (h : d.fab.state ≠ .pending) : fabricInForce d = d := if_pos (.inl h)

/-- At its tick a pending map comes into force: what it changes of each unit, and the units that it leaves alone. -/
theorem fabricInForce_effect {d : Dev} (hp : d.fab.state = .pending) (hs : d.cyc.slot = 0) :
    ∃ m v r c k n, d.circ.MissedByMap k ∧ fabricInForce d = { d with
      sram := m, memory := v, rd := r, dec := c, circ := k, cyc := { d.cyc with nextScan := n }
      fab := { d.fab with state := .inForce, image := d.fab.pending, pending := [] }
      solve := d.solve.forgotten, tow := { d.tow with resident := none } } := by
  have hstages : fabricInForce d = (((((d.newMap.missAhead.dropJumps (elemsOf d.fab.image ++ elemsOf d.fab.pending)).forgetSolves
      ).dropPorts (imagePorts d.fab.pending)).keepTaps d).clearLabels) := by
    rw [fabricInForce, if_neg (by simp [hp, hs])]
    rfl
  obtain ⟨r, hmap⟩ := d.newMap_eq
  obtain ⟨k, n, hmissed, hahead⟩ := d.newMap.missAhead_eq
  obtain ⟨m, v, hjumps⟩ := (Dev.OnMemory.refl d.newMap.missAhead).dropJumps (elemsOf d.fab.image ++ elemsOf d.fab.pending)
  rw [hahead, hmap] at hjumps
  obtain ⟨m', v', hports⟩ := (Dev.OnMemory.refl (d.newMap.missAhead.dropJumps
    (elemsOf d.fab.image ++ elemsOf d.fab.pending)).forgetSolves).dropPorts (imagePorts d.fab.pending)
  rw [hstages, Dev.keepTaps_clearLabels_eq, hports]
  generalize (Dev.clearLabels _).dec = c
  rw [hahead, hmap, hjumps]
  refine ⟨m', v', r, c, k, n, ?_, rfl⟩
  rwa [hmap] at hmissed

/-- Settles O24: the checks in their order, and each unit's part of what a map accepted or in force changes. -/
theorem fabricMap : Obligations.FabricMap := by
  intro block bytes v s
  refine ⟨fun h => ?_, fun hj h => ?_, fun hj hb hp => ?_, fun hj hb hp => ?_, fun hv => ?_, fun hp => ?_, fun hp h => ?_,
    fun hp hloop hcur hnext hrun hwait => ⟨fun hbad => ?refused, fun hgood => ?accepted⟩, fun hp hs => ?inForce, fun hp => ?_⟩
  · exact answers_of_ask (fabricBlockWrite block.toNat bytes) rfl (fabricBlockWrite_noent h)
  · exact answers_of_ask (fabricBlockWrite block.toNat bytes) rfl (fabricBlockWrite_invalid hj h)
  · exact answers_of_ask (fabricBlockWrite block.toNat bytes) rfl ((fabricBlockWrite_sized hj hb).trans (if_pos hp))
  · exact answers_of_ask (fabricBlockWrite block.toNat bytes) rfl ((fabricBlockWrite_sized hj hb).trans (if_neg hp))
  · exact answers_of_ask (fabricApply v.toNat) rfl (fabricApply_not_one fun h => hv (BitVec.eq_of_toNat_eq h))
  · exact answers_of_ask (fabricApply 1) rfl (fabricApply_busy hp)
  · exact answers_of_ask (fabricApply 1) rfl (fabricApply_barred hp h)
  case refused =>
    exact answers_of_ask (fabricApply 1) rfl (fabricApply_refused hp (by simp [Dev.mapBarred, *]) hbad)
  case accepted =>
    obtain ⟨m, w, hdone⟩ := fabricApply_accepted hp (by simp [Dev.mapBarred, *]) hgood
    exact ⟨_, answers_of_ask (fabricApply 1) rfl hdone, rfl, rfl⟩
  case inForce =>
    obtain ⟨m, w, r, c, k, n, hmissed, hdone⟩ := fabricInForce_effect hp hs
    exact ⟨_, gives_of_upd fabricInForce rfl hdone, rfl, rfl, rfl, rfl, rfl, rfl, rfl, rfl, hmissed, rfl, rfl⟩
  · exact gives_of_upd fabricInForce rfl (fabricInForce_none hp)

end Sys2Proof.Machine
end

section
/-! Solve requests, the end of a solve and raw targets (R197 to R199, R203, R204): what runs, waits or is refused, and what the
next bank reads once a solve has ended or a target is written. -/

namespace Sys2Proof.Machine

/-! ## Requests (R198) -/

theorem Dev.solveNow_request (d : Dev) (strict : Bool) :
    (d.solveNow strict).strict = strict ∧ (d.solveNow strict).gen = d.circ.gen := by
  unfold Dev.solveNow
  dsimp only
  split
  · exact ⟨rfl, rfl⟩
  · split <;> exact ⟨rfl, rfl⟩

section
variable {d : Dev} (strict : Bool)

theorem solveRequest_busy (hr : d.solve.running ≠ none) (hq : d.solve.queued ≠ none) : solveRequest strict d = (.busy, d) :=
  if_pos ⟨Option.isSome_iff_ne_none.2 hr, Option.isSome_iff_ne_none.2 hq⟩

/-- A request that finds the place of a waiting solve free is answered OK. -/
theorem solveRequest_free (h : d.solve.running = none ∨ d.solve.queued = none) : solveRequest strict d
    = if d.topology = 0 ∨ d.finishedSolve then (.ok, d)
      else if d.solve.running.isSome then (.ok, d.setSolve (fun s => { s with queued := some strict }))
      else (.ok, d.startSolve strict) := by
  refine if_neg ?_
  rcases h with h | h <;> simp [h]

theorem solveRequest_needless (h : d.solve.running = none ∨ d.solve.queued = none)
    (hn : d.topology = 0 ∨ d.finishedSolve = true) : solveRequest strict d = (.ok, d) := (solveRequest_free strict h).trans (if_pos hn)

section
variable (ht : d.topology ≠ 0) (hf : d.finishedSolve = false)
include ht hf

theorem solveRequest_waits (hr : d.solve.running ≠ none) (hq : d.solve.queued = none) :
    solveRequest strict d = (.ok, d.setSolve (fun s => { s with queued := some strict })) := by
  rw [solveRequest_free strict (.inr hq), if_neg (by simp [ht, hf]), if_pos (Option.isSome_iff_ne_none.2 hr)]

theorem solveRequest_runs (hr : d.solve.running = none) : solveRequest strict d = (.ok, d.startSolve strict) := by
  rw [solveRequest_free strict (.inl hr), if_neg (by simp [ht, hf]), if_neg (by simp [hr])]

end

end

/-! ## Words of cell states (R197) -/

theorem stateWord_cons (old w : Nat) (p : Nat × Bool) (l : List (Nat × Bool)) :
    stateWord old w (p :: l) = stateWord (if p.1 / 64 = w then putBits old (p.1 % 64) 1 (ofBool p.2) else old) w l := rfl

theorem putBits_one_lt {v j : Nat} (hv : v < 2 ^ 64) (hj : j < 64) (b : Bool) : putBits v j 1 (ofBool b) < 2 ^ 64 :=
  lt_of_bit_eq_false fun i hi => by rw [bit_putBits_one, if_neg (by omega), bit_eq_false_of_lt hv hi]

theorem stateWord_lt {old : Nat} (h : old < 2 ^ 64) (w : Nat) (l : List (Nat × Bool)) : stateWord old w l < 2 ^ 64 := by
  induction l generalizing old with
  | nil => exact h
  | cons p l ih =>
    rw [stateWord_cons]
    refine ih ?_
    split
    · exact putBits_one_lt h (Nat.mod_lt _ (by decide)) p.2
    · exact h

/-- A cell's state is the one listed for it, or the old one where none is. -/
theorem bit_stateWord (old : Nat) {l : List (Nat × Bool)} (hl : (l.map Prod.fst).Nodup) (c : Nat) :
    bit (stateWord old (c / 64) l) (c % 64) = (tfind l c).getD (bit old (c % 64)) := by
  induction l generalizing old with
  | nil => rfl
  | cons p l ih =>
    obtain ⟨j, b⟩ := p
    rw [List.map_cons, List.nodup_cons] at hl
    obtain ⟨hnew, hrest⟩ := hl
    rw [stateWord_cons, ih _ hrest, tfind]
    by_cases hj : j = c
    · subst hj
      have hnone : tfind l j = none := tfind_eq_none fun q hq h => hnew (List.mem_map.2 ⟨q, hq, h⟩)
      rw [if_pos rfl, if_pos rfl, hnone, bit_putBits_one, if_pos rfl]
      rfl
    · rw [if_neg hj]
      split
      · rename_i hw
        rw [bit_putBits_one, if_neg (by omega)]
      · rfl

/-! ## The words that a solve writes (R197) -/

/-- The words of cell states, then the elements' targets. -/
def Dev.writeStates (d : Dev) (r : SolveRun) : Dev :=
  iter (fun w d => d.putNextIf (cellOff w) (stateWord (d.bankWord false (cellOff w)) w r.cells)) ((d.mapCells + 63) / 64) 0 d

/-- The target that a solve leaves an element. -/
def SolveRun.targetOf (r : SolveRun) (d : Dev) (e : Nat) : Nat :=
  ((tfind r.targets e).map (fun w => w.toNat)).getD (d.target false e)

theorem Dev.onNextBank_writeStates (d : Dev) (r : SolveRun) : d.OnNextBank (d.writeStates r) :=
  iter_keeps _ _ _ _ _ (fun _ x hx => hx.trans (x.onNextBank_putNextIf _ _)) (.refl d)

theorem Dev.writeSolve_eq (d : Dev) (r : SolveRun) : d.writeSolve r
    = each d.solveElems (fun e d => d.putNextIf (targetOff e) (r.targetOf d e)) (d.writeStates r) := by
  have helems : (d.writeStates r).solveElems = d.solveElems := by
    obtain ⟨m, v, w, h⟩ := d.onNextBank_writeStates r
    rw [h]
    rfl
  rw [← helems]
  rfl

theorem Dev.onNextBank_writeSolve (d : Dev) (r : SolveRun) : d.OnNextBank (d.writeSolve r) := by
  rw [Dev.writeSolve_eq]
  exact each_keeps _ _ _ _ (fun _ x hx => hx.trans (x.onNextBank_putNextIf _ _)) (d.onNextBank_writeStates r)

theorem SolveRun.targetOf_lt (r : SolveRun) (d : Dev) (e : Nat) : r.targetOf d e < 2 ^ 64 := by
  unfold SolveRun.targetOf
  cases tfind r.targets e with
  | none =>
    rw [Option.map_none, Option.getD_none]
    exact d.bankWord_lt false _
  | some w =>
    rw [Option.map_some, Option.getD_some]
    exact w.isLt

theorem Dev.WritesNext.targetOf {d y : Dev} (h : d.WritesNext y) (r : SolveRun) {e : Nat} (he : e < 32768) :
    r.targetOf y e = r.targetOf d e := by
  rw [SolveRun.targetOf, SolveRun.targetOf, Dev.target, Dev.target, h.current _ (bankOff_targetOff he)]

section
variable {d : Dev} (r : SolveRun) (hcells : 2 * d.mapCells ≤ 32768)
include hcells

theorem Dev.writesNext_stateStep {y : Dev} (h : d.WritesNext y) {w : Nat} (hw : w ∈ List.range' 0 ((d.mapCells + 63) / 64)) :
    d.WritesNext (y.putNextIf (cellOff w) (stateWord (y.bankWord false (cellOff w)) w r.cells)) := by
  have hlt := (List.mem_range'_1.1 hw).2
  exact h.putNextIf (bankOff_cellOff (by omega)) (stateWord_lt (y.bankWord_lt ..) w r.cells)

theorem Dev.writesNext_writeStates : d.WritesNext (d.writeStates r) := by
  rw [Dev.writeStates, iter_eq_each]
  exact each_keeps_mem _ (fun w hw y hy => Dev.writesNext_stateStep r hcells hy hw) (.refl d)

theorem Dev.stateWord_writeStates {k : Nat} (hk : k < (d.mapCells + 63) / 64) :
    (d.writeStates r).bankWord true (cellOff k) = stateWord (d.bankWord false (cellOff k)) k r.cells := by
  have hoff : ∀ {w}, w ∈ List.range' 0 ((d.mapCells + 63) / 64) → BankOff (cellOff w) := fun hw => by
    have hlt := (List.mem_range'_1.1 hw).2
    exact bankOff_cellOff (by omega)
  have hmem : k ∈ List.range' 0 ((d.mapCells + 63) / 64) := List.mem_range'_1.2 ⟨Nat.zero_le k, by omega⟩
  rw [Dev.writeStates, iter_eq_each]
  refine each_reaches d.WritesNext
    (fun y => y.bankWord true (cellOff k) = stateWord (d.bankWord false (cellOff k)) k r.cells) hmem
    (fun w hw y hy => Dev.writesNext_stateStep r hcells hy hw) (fun w hw y hy hread => ?_) (fun y hy => ?_) (.refl d)
  · rw [y.bankWord_putNextIf (hoff hw) (stateWord_lt (y.bankWord_lt ..) w r.cells) true (hoff hmem)]
    split
    · rename_i h
      obtain rfl : k = w := by
        unfold cellOff at h
        omega
      rw [hy.current _ (hoff hmem)]
    · exact hread
  · rw [y.bankWord_putNextIf (hoff hmem) (stateWord_lt (y.bankWord_lt ..) k r.cells) true (hoff hmem), if_pos ⟨rfl, rfl⟩,
      hy.current _ (hoff hmem)]

variable (helems : ∀ e ∈ d.solveElems, e < 32768)
include helems

/-- After an OK solve each cell of the next bank is in the state that the solve gives it, or in the current bank's (R197). -/
theorem Dev.cell_writeSolve (hnodup : (r.cells.map Prod.fst).Nodup) {c : Nat} (hc : c < d.mapCells) :
    (d.writeSolve r).cell true c = (tfind r.cells c).getD (d.cell false c) := by
  have hword : (d.writeSolve r).bankWord true (cellOff (c / 64))
      = stateWord (d.bankWord false (cellOff (c / 64))) (c / 64) r.cells := by
    rw [Dev.writeSolve_eq]
    refine each_keeps_mem (fun y : Dev => y.bankWord true (cellOff (c / 64)) = _) (fun e he y hy => ?_)
      (Dev.stateWord_writeStates r hcells (k := c / 64) (by omega))
    have hlt := helems e he
    rw [y.bankWord_putNextIf (bankOff_targetOff hlt) (r.targetOf_lt y e) true (bankOff_cellOff (by omega)), if_neg, hy]
    unfold cellOff targetOff
    omega
  rw [Dev.cell, hword, bit_stateWord _ hnodup]
  rfl

/-- After an OK solve each element's target is the one that the solve gives it, or the current bank's (R197). -/
theorem Dev.target_writeSolve {e : Nat} (he : e ∈ d.solveElems) : (d.writeSolve r).target true e = r.targetOf d e := by
  have hoff := bankOff_targetOff (helems e he)
  rw [Dev.target, Dev.writeSolve_eq]
  refine each_reaches d.WritesNext (fun y => y.bankWord true (targetOff e) = r.targetOf d e) he
    (fun x hx y hy => hy.putNextIf (bankOff_targetOff (helems x hx)) (r.targetOf_lt y x))
    (fun x hx y hy hread => ?_) (fun y hy => ?_)
    (Dev.writesNext_writeStates r hcells)
  · rw [y.bankWord_putNextIf (bankOff_targetOff (helems x hx)) (r.targetOf_lt y x) true hoff]
    split
    · rename_i h
      obtain rfl : e = x := by
        unfold targetOff at h
        omega
      exact hy.targetOf r (helems e he)
    · exact hread
  · rw [y.bankWord_putNextIf hoff (r.targetOf_lt y e) true hoff, if_pos ⟨rfl, rfl⟩, hy.targetOf r (helems e he)]

end

/-! ## The end of a solve (R199) -/

/-- The status that a solve ends with where the next bank's generation is `gen`. -/
def SolveRun.endStatus (r : SolveRun) (gen : BitVec 32) : SolveStatus :=
  if r.status = .ok ∧ r.gen ≠ gen then .stale else if r.status = .conflict ∧ r.gen ≠ gen then .stale else r.status

theorem SolveRun.endStatus_same {r : SolveRun} {gen : BitVec 32} (h : r.gen = gen) : r.endStatus gen = r.status := by
  simp [SolveRun.endStatus, h]

theorem SolveRun.endStatus_stale {r : SolveRun} {gen : BitVec 32} (h : r.gen ≠ gen) (hs : r.status = .ok ∨ r.status = .conflict) :
    r.endStatus gen = .stale := by
  rcases hs with hs | hs <;> simp [SolveRun.endStatus, h, hs]

/-- What the solver reports of a solve that has ended. -/
def Solver.ended (s : Solver) (r : SolveRun) (status : SolveStatus) (time : Nat) : Solver :=
  let ok : Bool := status = .ok
  { s with
    running := none, status := status, solvedGen := r.gen, lastTime := time
    unplaced := if status = .conflict then r.unplaced else 0xFFFF
    moved := if ok then r.moved else [], changed := if ok then r.changed else 0
    dual := if ok then r.dual else s.dual }

/-- What a solve that ends leaves of the next bank. -/
def Dev.endBank (d : Dev) (r : SolveRun) : Dev :=
  let ok : Bool := r.endStatus d.circ.gen = .ok
  if ok then d.writeSolve r else d

theorem Dev.onNextBank_endBank (d : Dev) (r : SolveRun) : d.OnNextBank (d.endBank r) := by
  unfold Dev.endBank
  dsimp only
  split
  · exact d.onNextBank_writeSolve r
  · exact .refl d

theorem Dev.cell_reports (d : Dev) (v : Events) (x : Solver) (next : Bool) (c : Nat) :
    Dev.cell { d with ev := v, solve := x } next c = d.cell next c := rfl

theorem Dev.target_reports (d : Dev) (v : Events) (x : Solver) (next : Bool) (e : Nat) :
    Dev.target { d with ev := v, solve := x } next e = d.target next e := rfl

/-- A solve that has ended: its bank and its reports. -/
def Dev.endSolve (d : Dev) (r : SolveRun) (time : Nat) : Dev :=
  { d.endBank r with solve := (d.endBank r).solve.ended r (r.endStatus d.circ.gen) time }

/-- A solve that waits starts. -/
def Dev.startQueued (d : Dev) : Dev :=
  match d.solve.queued with
  | none => d
  | some m => (d.setSolve (fun s => { s with queued := none })).startSolve m

theorem solveDone_running {d : Dev} {r : SolveRun} (time : Nat) (hr : d.solve.running = some r) :
    ∃ args, solveDone time d = ((d.endSolve r time).raise .solveDone args).startQueued := by
  rw [solveDone, hr]
  exact ⟨_, rfl⟩

theorem Dev.startQueued_none {d : Dev} (h : d.solve.queued = none) : d.startQueued = d := by rw [Dev.startQueued, h]

/-- A solve that ends with none waiting leaves its bank and its reports; its event apart, nothing else. -/
theorem solveDone_ends {d : Dev} {r : SolveRun} (time : Nat) (hr : d.solve.running = some r) (hq : d.solve.queued = none) :
    ∃ v, solveDone time d = { d.endBank r with ev := v, solve := d.solve.ended r (r.endStatus d.circ.gen) time } := by
  have hsolve : (d.endBank r).solve = d.solve := by
    obtain ⟨m, v, w, h⟩ := d.onNextBank_endBank r
    rw [h]
  obtain ⟨args, hdone⟩ := solveDone_running time hr
  rw [Dev.endSolve, hsolve, Dev.startQueued_none (by rw [Dev.raise_solve]; exact hq), Dev.raise_eq] at hdone
  exact ⟨_, hdone⟩

/-! ## Raw targets (R204) -/

section
variable {d : Dev} {e : Nat} {b : List Byte}

theorem Dev.bankArmed_iff : d.bankArmed = true ↔ d.circ.armed ≠ none := Option.isSome_iff_ne_none

theorem rawTargetWrite_noent (h : 32767 < e) : rawTargetWrite e b d = (.noent, d) := if_pos h

theorem rawTargetWrite_invalid (he : e ≤ 32767)
    (h : b.length ≠ 8 ∨ e < 2 * d.mapCells ∨ d.portOf e ≠ none ∨ d.inUse e = false) : rawTargetWrite e b d = (.invalid, d) := by
  rw [rawTargetWrite, if_neg (not_lt.2 he), if_pos (by simpa only [Option.isSome_iff_ne_none] using h)]

/-- A value of 8 bytes for an element of no cell and no port that is in use is refused only while a commit is armed. -/
theorem rawTargetWrite_valid (he : e ≤ 32767) (hb : b.length = 8) (hc : 2 * d.mapCells ≤ e) (hp : d.portOf e = none)
    (hu : d.inUse e = true) : rawTargetWrite e b d = if d.bankArmed then (.late, d) else (.ok, d.putNext (targetOff e)
      (field b 0 3 * 2 ^ 40 + field b 4 4 % 2 ^ 20 * 2 ^ 20 + field b 3 1 % 2 * 2 ^ 19)) := by
  rw [rawTargetWrite, if_neg (not_lt.2 he), if_neg (by simp [hb, hc, hp, hu]), bitsOf, pow_zero, Nat.div_one]

theorem rawTarget_lt (b : List Byte) :
    field b 0 3 * 2 ^ 40 + field b 4 4 % 2 ^ 20 * 2 ^ 20 + field b 3 1 % 2 * 2 ^ 19 < 2 ^ 64 := by
  have h := field_lt b 0 3
  omega

end

/-- Settles O25: the requests by what runs and waits, the end of a solve by its status, the raw target by its word. -/
theorem solves : Obligations.Solves := by
  intro time elem bytes s
  refine ⟨fun hr hq => ⟨?_, ?_⟩, fun ht hf hr => ⟨?_, ?_⟩, fun ht hf hr hq => ⟨?_, ?_⟩, fun hn h => ⟨?_, ?_⟩,
    fun r hr hq => ?done, fun h => ?_, fun he h => ?_, fun hb he hc hp hu => ⟨fun ha => ?late, fun ha => ?stored⟩⟩
  · exact answers_of_ask solveStrict rfl (solveRequest_busy true hr hq)
  · exact answers_of_ask solvePermissive rfl (solveRequest_busy false hr hq)
  · exact ⟨_, answers_of_ask solveStrict rfl (solveRequest_runs true ht hf hr), _, rfl, s.dev.solveNow_request true⟩
  · exact ⟨_, answers_of_ask solvePermissive rfl (solveRequest_runs false ht hf hr), _, rfl, s.dev.solveNow_request false⟩
  · exact answers_of_ask solveStrict rfl (solveRequest_waits true ht hf hr hq)
  · exact answers_of_ask solvePermissive rfl (solveRequest_waits false ht hf hr hq)
  · exact answers_of_ask solveStrict rfl (solveRequest_needless true h hn)
  · exact answers_of_ask solvePermissive rfl (solveRequest_needless false h hn)
  case done =>
    obtain ⟨v, hdone⟩ := solveDone_ends time hr hq
    refine ⟨_, gives_of_upd (solveDone time) rfl hdone, rfl, rfl, rfl, fun h => SolveRun.endStatus_same h,
      fun h hs => SolveRun.endStatus_stale h hs, rfl, fun hno => ?_, fun hok => ?_, ?_⟩
    · have hno' : r.endStatus s.dev.circ.gen ≠ .ok := hno
      simp [Solver.ended, Dev.endBank, hno']
    · have hok' : r.endStatus s.dev.circ.gen = .ok := hok
      have hbank : s.dev.endBank r = s.dev.writeSolve r := if_pos (decide_eq_true hok')
      simp only [Solver.ended, hok', decide_true, if_true, true_and]
      rw [hbank]
      refine fun hcells helems hnodup => ⟨fun c hc => ?_, fun e he => ?_⟩
      · rw [Dev.cell_reports, Dev.cell_writeSolve r hcells helems hnodup hc]
      · rw [Dev.target_reports, Dev.target_writeSolve r hcells helems he, SolveRun.targetOf]
    · obtain ⟨m, v, w, h⟩ := s.dev.onNextBank_endBank r
      rw [h]
  · exact answers_of_ask (rawTargetWrite elem.toNat bytes) rfl (rawTargetWrite_noent h)
  · exact answers_of_ask (rawTargetWrite elem.toNat bytes) rfl (rawTargetWrite_invalid he h)
  case late =>
    exact answers_of_ask (rawTargetWrite elem.toNat bytes) rfl
      ((rawTargetWrite_valid he hb hc hp hu).trans (if_pos (Dev.bankArmed_iff.2 ha)))
  case stored =>
    have hfree : ¬ s.dev.bankArmed = true := fun h => Dev.bankArmed_iff.1 h ha
    have hoff := bankOff_targetOff (Nat.lt_succ_of_le he)
    refine ⟨_, answers_of_ask (rawTargetWrite elem.toNat bytes) rfl ((rawTargetWrite_valid he hb hc hp hu).trans (if_neg hfree)),
      ?_, rfl⟩
    rw [Dev.target, s.dev.bankWord_putNext hoff (rawTarget_lt bytes) true hoff, if_pos ⟨rfl, rfl⟩]

end Sys2Proof.Machine
end

section
/-! Writes to the next bank (R206, R211 to R213, R229, R244): the checks of an entry and of a batch in their order, and what the
next bank reads once a write is carried out. -/

namespace Sys2Proof.Machine

/-! ## The checks of an entry (R211, R212) -/

section
variable {d : Dev} {k : Nat} {b : List Byte} {bank : List (Nat × Circ)}

theorem Dev.checkEntry_late (ha : d.circ.armed ≠ none) : d.checkEntry k b bank = .error .late := if_pos (Dev.bankArmed_iff.2 ha)

section
variable (ha : d.circ.armed = none)
include ha

theorem Dev.bankArmed_of_none : ¬ d.bankArmed = true := fun h => Dev.bankArmed_iff.1 h ha

theorem Dev.checkEntry_bad (hbad : d.circuitBad (circOf b) = true) : d.checkEntry k b bank = .error .invalid := by
  rw [Dev.checkEntry, if_neg (Dev.bankArmed_of_none ha), if_pos hbad]

variable (hgood : d.circuitBad (circOf b) = false) (hlabel : (circOf b).byLabel = true)
include hgood hlabel

theorem Dev.checkEntry_unresolved {e : Resp} (h : d.resolve (circOf b) = .error e) : d.checkEntry k b bank = .error e := by
  rw [Dev.checkEntry, if_neg (Dev.bankArmed_of_none ha), if_neg (by rw [hgood]; decide), if_pos hlabel, h]

section
variable {p : Nat} (hp : d.resolve (circOf b) = .ok p)
include hp

/-- A good entry with BY_LABEL is stored with the port that its label resolves to, where no circuit clashes. -/
theorem Dev.checkEntry_resolves : d.checkEntry k b bank
    = if (circOf b).inUse && clashes k { circOf b with ingress := p } bank then .error .conflict
      else .ok { circOf b with ingress := p } := by
  rw [Dev.checkEntry, if_neg (Dev.bankArmed_of_none ha), if_neg (by rw [hgood]; decide), if_pos hlabel, hp]
  rfl

theorem Dev.checkEntry_clash (hu : (circOf b).inUse = true) (hc : clashes k { circOf b with ingress := p } bank = true) :
    d.checkEntry k b bank = .error .conflict := (Dev.checkEntry_resolves ha hgood hlabel hp).trans (if_pos (by simp [hu, hc]))

theorem Dev.checkEntry_resolved (h : (circOf b).inUse = false ∨ clashes k { circOf b with ingress := p } bank = false) :
    d.checkEntry k b bank = .ok { circOf b with ingress := p } :=
  (Dev.checkEntry_resolves ha hgood hlabel hp).trans (if_neg (by rcases h with h | h <;> simp [h]))

end

end

end

section
variable {d : Dev} {c : Circ}

theorem Dev.resolve_poisoned (h : d.lookupPoison c.label = true) : d.resolve c = .error .poisoned := if_pos h

variable (hread : d.lookupPoison c.label = false)
include hread

theorem Dev.resolve_noent (h : d.findLabel c.label = none) : d.resolve c = .error .noent := by
  rw [Dev.resolve, if_neg (by rw [hread]; decide), h]

variable {p : Nat} (hp : d.findLabel c.label = some p)
include hp

theorem Dev.resolve_stale (hs : (d.labelEntry p).stale = true) (hr : d.cfg.circ.rejectStale = true) :
    d.resolve c = .error .stale := by
  rw [Dev.resolve, if_neg (by rw [hread]; decide), hp]
  exact if_pos ⟨hs, hr⟩

theorem Dev.resolve_port (h : (d.labelEntry p).stale = false ∨ d.cfg.circ.rejectStale = false) :
    d.resolve c = .ok (d.labelEntry p).port := by
  rw [Dev.resolve, if_neg (by rw [hread]; decide), hp]
  refine if_neg ?_
  rcases h with h | h <;> simp [h]

end

/-! ## CIRCUIT_NEXT (R211) -/

/-- Memory, and of the Circuit Tables the generation and the record of what is written, apart, y is d. -/
def Dev.OnCircuits (d y : Dev) : Prop :=
  y.circ = { d.circ with gen := y.circ.gen, written := y.circ.written }
    ∧ y = { d with circ := y.circ, sram := y.sram, memory := y.memory }

theorem Dev.OnNextBank.onCircuits {d y : Dev} (h : d.OnNextBank y) : d.OnCircuits y := by
  obtain ⟨m, v, w, rfl⟩ := h
  exact ⟨rfl, rfl⟩

theorem Dev.OnNextBank.nextGen {d y : Dev} (h : d.OnNextBank y) :
    d.OnCircuits y.nextGen ∧ y.nextGen.circ.gen = d.circ.gen + 1 := by
  obtain ⟨m, v, w, rfl⟩ := h
  exact ⟨⟨rfl, rfl⟩, rfl⟩

theorem Dev.onNextBank_putEntry (d : Dev) (k : Nat) (c : Circ) : d.OnNextBank (d.putEntry k c) :=
  (d.onNextBank_putNextIf _ _).trans (Dev.onNextBank_putNextIf _ _ _)

/-- The entry of the next bank, written where it differs. -/
def Dev.storeEntry (d : Dev) (k : Nat) (c : Circ) : Dev :=
  if d.entryBytes true k = c.bytes then d else (d.putEntry k c).nextGen

section
variable {k : Nat} {b : List Byte} {d : Dev}

theorem circuitNextWrite_noent (h : 1023 < k) : circuitNextWrite k b d = (.noent, d) := if_pos h

theorem circuitNextWrite_length (hk : k ≤ 1023) (h : b.length ≠ 16) : circuitNextWrite k b d = (.invalid, d) := by
  rw [circuitNextWrite, if_neg (not_lt.2 hk), if_pos h]

section
variable (hk : k ≤ 1023) (hb : b.length = 16) {x : Dev} (hx : x = if (circOf b).byLabel then d.beforeResolution else d)
include hk hb hx

theorem circuitNextWrite_refused {e : Resp} (h : x.checkEntry k b (x.circuits true) = .error e) :
    circuitNextWrite k b d = (e, x) := by
  rw [circuitNextWrite, if_neg (not_lt.2 hk), if_neg (not_not.2 hb)]
  dsimp only
  rw [← hx, h]

theorem circuitNextWrite_stored {c : Circ} (h : x.checkEntry k b (x.circuits true) = .ok c) :
    circuitNextWrite k b d = (.ok, x.storeEntry k c) := by
  rw [circuitNextWrite, if_neg (not_lt.2 hk), if_neg (not_not.2 hb)]
  dsimp only
  rw [← hx, h]
  rfl

end

theorem Dev.entryBytes_nextGen (next : Bool) : d.nextGen.entryBytes next k = d.entryBytes next k := rfl

theorem Dev.circuits_nextGen (next : Bool) : d.nextGen.circuits next = d.circuits next := by
  simp only [Dev.circuits, Dev.circuit, Dev.entryBytes_nextGen]

theorem Dev.storeEntry_same {c : Circ} (h : d.entryBytes true k = c.bytes) : d.storeEntry k c = d := if_pos h

theorem Dev.entryBytes_storeEntry (hk : k < 1024) (c : Circ) : (d.storeEntry k c).entryBytes true k = c.bytes := by
  unfold Dev.storeEntry
  split
  · assumption
  · rw [Dev.entryBytes_nextGen, d.entryBytes_putEntry hk c true hk, if_pos ⟨rfl, rfl⟩]

theorem Dev.storeEntry_onCircuits (c : Circ) : d.OnCircuits (d.storeEntry k c)
    ∧ (d.storeEntry k c).circ.gen = if d.entryBytes true k = c.bytes then d.circ.gen else d.circ.gen + 1 := by
  unfold Dev.storeEntry
  split
  · exact ⟨(Dev.OnNextBank.refl d).onCircuits, rfl⟩
  · exact (d.onNextBank_putEntry k c).nextGen

end

/-! ## CIRCUIT_BATCH (R211, R229) -/

section
variable {d : Dev}

/-- Every entry that a batch's checks pass has a number of the table. -/
theorem Dev.checkBatch_numbers {i : Nat} {items : List (Nat × List Byte)} {bank l : List (Nat × Circ)}
    (h : d.checkBatch i items bank = .ok l) : ∀ p ∈ l, p.1 < 1024 := by
  induction items generalizing i bank l with
  | nil =>
    obtain rfl : [] = l := Except.ok.inj h
    exact fun p hp => absurd hp List.not_mem_nil
  | cons a items ih =>
    obtain ⟨k, b⟩ := a
    rw [Dev.checkBatch] at h
    split at h
    · cases h
    · rename_i hk
      cases hc : d.checkEntry k b bank with
      | error e => simp [hc] at h
      | ok c =>
        cases hr : d.checkBatch (i + 1) items (withEntry k c bank) with
        | error e => simp [hc, hr] at h
        | ok r =>
          obtain rfl : (k, c) :: r = l := by simpa [hc, hr] using h
          intro p hp
          rcases List.mem_cons.1 hp with rfl | hp
          · exact Nat.lt_succ_of_le (not_lt.1 hk)
          · exact ih hr p hp

/-- The entries of a batch, put one after another. -/
def Dev.putEntries (d : Dev) (l : List (Nat × Circ)) : Dev := each l (fun p d => d.putEntry p.1 p.2) d

theorem Dev.onNextBank_putEntries (l : List (Nat × Circ)) : d.OnNextBank (d.putEntries l) :=
  each_keeps _ _ _ _ (fun p x hx => hx.trans (x.onNextBank_putEntry p.1 p.2)) (.refl d)

/-- The entries of a batch, stored whole where they change the bank. -/
def Dev.storeEntries (d : Dev) (l : List (Nat × Circ)) : Dev :=
  if l.any (fun p => d.entryBytes true p.1 ≠ (d.putEntries l).entryBytes true p.1) then (d.putEntries l).nextGen else d

section
variable {l : List (Nat × Circ)} (hl : ∀ p ∈ l, p.1 < 1024)
include hl

/-- Of the entries put, one whose number no other has reads as it was put. -/
theorem Dev.entryBytes_putEntries {p : Nat × Circ} (hp : p ∈ l) (honce : ∀ q ∈ l, q.1 = p.1 → q = p) :
    (d.putEntries l).entryBytes true p.1 = p.2.bytes := by
  have hk := hl p hp
  rw [Dev.putEntries]
  refine each_reaches (fun _ => True) (fun y : Dev => y.entryBytes true p.1 = p.2.bytes) hp (fun _ _ _ _ => trivial)
    (fun q hq y _ hread => ?_) (fun y _ => ?_) trivial
  · rw [y.entryBytes_putEntry (hl q hq) q.2 true hk]
    split
    · rename_i h
      rw [honce q hq h.2.symm]
    · exact hread
  · rw [y.entryBytes_putEntry hk p.2 true hk, if_pos ⟨rfl, rfl⟩]

theorem Dev.entryBytes_putEntries_other {k : Nat} (hk : k < 1024) (hother : ∀ p ∈ l, p.1 ≠ k) :
    (d.putEntries l).entryBytes true k = d.entryBytes true k :=
  each_keeps_mem (fun y : Dev => y.entryBytes true k = d.entryBytes true k) (fun q hq y hread => by
    rw [y.entryBytes_putEntry (hl q hq) q.2 true hk, if_neg (fun h => hother q hq h.2.symm), hread]) rfl

end

/-- A batch that is stored changes the tables where it changes an entry, and then by one generation. -/
theorem Dev.storeEntries_onCircuits (l : List (Nat × Circ)) : d.OnCircuits (d.storeEntries l)
    ∧ ((d.storeEntries l).circ.gen = d.circ.gen ∨ (d.storeEntries l).circ.gen = d.circ.gen + 1) := by
  unfold Dev.storeEntries
  split
  · obtain ⟨hrest, hgen⟩ := (d.onNextBank_putEntries l).nextGen
    exact ⟨hrest, .inr hgen⟩
  · exact ⟨(Dev.OnNextBank.refl d).onCircuits, .inl rfl⟩

theorem Dev.entryBytes_storeEntries {l : List (Nat × Circ)} (hl : ∀ p ∈ l, p.1 < 1024) {p : Nat × Circ} (hp : p ∈ l)
    (honce : ∀ q ∈ l, q.1 = p.1 → q = p) : (d.storeEntries l).entryBytes true p.1 = p.2.bytes := by
  have hput := d.entryBytes_putEntries hl hp honce
  unfold Dev.storeEntries
  split
  · exact hput
  · rename_i h
    rw [← hput]
    by_contra hne
    exact h (List.any_eq_true.2 ⟨p, hp, decide_eq_true hne⟩)

variable {b : List Byte}

theorem circuitBatch_length (h : field b 0 1 = 0 ∨ 64 < field b 0 1 ∨ b.length ≠ 1 + 18 * field b 0 1) :
    circuitBatch b d = (.invalid, d) := if_pos h

section
variable (hlabel : ∀ p ∈ batchItems (field b 0 1) (b.drop 1), (circOf p.2).byLabel = false)
include hlabel

theorem batch_unresolved : ¬ (batchItems (field b 0 1) (b.drop 1)).any (fun p => (circOf p.2).byLabel) = true := by
  rw [List.any_eq_true]
  rintro ⟨p, hp, h⟩
  exact absurd h (by rw [hlabel p hp]; decide)

variable (hlow : 1 ≤ field b 0 1) (hhigh : field b 0 1 ≤ 64) (hlen : b.length = 1 + 18 * field b 0 1)
include hlow hhigh hlen

theorem circuitBatch_refused {i : Nat} {e : Resp}
    (h : d.checkBatch 0 (batchItems (field b 0 1) (b.drop 1)) (d.circuits true) = .error (i, e)) :
    circuitBatch b d = (e, d.setCirc (fun c => { c with batchError := (i, respCode e) })) := by
  rw [circuitBatch, if_neg (by omega)]
  dsimp only
  rw [if_neg (batch_unresolved hlabel), h]

theorem circuitBatch_passed {l : List (Nat × Circ)}
    (h : d.checkBatch 0 (batchItems (field b 0 1) (b.drop 1)) (d.circuits true) = .ok l) :
    circuitBatch b d = (.ok, d.storeEntries l) := by
  rw [circuitBatch, if_neg (by omega)]
  dsimp only
  rw [if_neg (batch_unresolved hlabel), h]
  rfl

end

end

/-! ## NEXT_RESET (R213) -/

section
variable {d : Dev}

theorem nextReset_late (ha : d.circ.armed ≠ none) : nextResetCopy d = (.late, d) ∧ nextResetClear d = (.late, d) :=
  ⟨if_pos (Dev.bankArmed_iff.2 ha), if_pos (Dev.bankArmed_iff.2 ha)⟩

theorem nextResetCopy_free (ha : d.circ.armed = none) :
    nextResetCopy d = (.ok, (d.setCirc (fun c => { c with written := some [] })).nextGen) := if_neg (Dev.bankArmed_of_none ha)

/-- Entries of no circuit in the place of the next bank's circuits. -/
def Dev.cleared (d : Dev) : Dev := d.putEntries ((d.circuits true).map (fun p => (p.1, {})))

theorem Dev.onNextBank_cleared (d : Dev) : d.OnNextBank d.cleared := d.onNextBank_putEntries _

theorem nextResetClear_free (ha : d.circ.armed = none) : nextResetClear d = (.ok, d.cleared.nextGen) := by
  rw [nextResetClear, if_neg (Dev.bankArmed_of_none ha), each, Dev.cleared, Dev.putEntries, each, List.foldl_map]

theorem Dev.mem_circuits {next : Bool} {p : Nat × Circ} :
    p ∈ d.circuits next ↔ p.1 < 1024 ∧ p.2 = d.circuit next p.1 ∧ p.2.inUse = true := by
  obtain ⟨k, c⟩ := p
  simp only [Dev.circuits, List.mem_filter, List.mem_map, List.mem_range, Prod.mk.injEq]
  constructor
  · rintro ⟨⟨k', hk, rfl, rfl⟩, hu⟩
    exact ⟨hk, rfl, hu⟩
  · rintro ⟨hk, rfl, hu⟩
    exact ⟨⟨k, hk, rfl, rfl⟩, hu⟩

theorem Dev.circuits_cleared : d.cleared.circuits true = [] := by
  refine List.eq_nil_iff_forall_not_mem.2 fun p hp => ?_
  obtain ⟨hk, hc, hu⟩ := Dev.mem_circuits.1 hp
  have hnumbers : ∀ q ∈ (d.circuits true).map (fun p => (p.1, ({} : Circ))), q.1 < 1024 := fun q hq => by
    obtain ⟨a, ha, rfl⟩ := List.mem_map.1 hq
    exact (Dev.mem_circuits.1 ha).1
  by_cases hused : (d.circuit true p.1).inUse = true
  · have hmem : (p.1, ({} : Circ)) ∈ (d.circuits true).map (fun p => (p.1, ({} : Circ))) :=
      List.mem_map.2 ⟨(p.1, d.circuit true p.1), Dev.mem_circuits.2 ⟨hk, rfl, hused⟩, rfl⟩
    have hread := d.entryBytes_putEntries hnumbers hmem fun q hq h => by
      obtain ⟨a, -, rfl⟩ := List.mem_map.1 hq
      exact Prod.ext h rfl
    have hempty : (circOf ({} : Circ).bytes).inUse = false := by decide
    rw [hc, Dev.circuit, Dev.cleared, hread, hempty] at hu
    exact Bool.noConfusion hu
  · have hread := d.entryBytes_putEntries_other hnumbers hk fun q hq h => by
      obtain ⟨a, ha, rfl⟩ := List.mem_map.1 hq
      obtain ⟨-, hac, hau⟩ := Dev.mem_circuits.1 ha
      rw [hac, h] at hau
      exact hused hau
    rw [hc, Dev.circuit, Dev.cleared, hread] at hu
    exact hused hu

end

/-! ## PORT_ATTEN (R213) -/

/-- The setting that a value of PORT_ATTEN spells. -/
def attenOf (b : List Byte) : PortAtten :=
  { phiOpen := signed 24 (field b 0 3), phiBlock := signed 24 (field b 3 3), power := field b 6 3 % 2 ^ 20 }

/-- The device with a port's setting. -/
def Dev.setAtten (d : Dev) (p : Nat) (a : PortAtten) : Dev :=
  d.setCircCfg (fun c => { c with portAtten := tset {} c.portAtten p a })

section
variable {p : Nat} {b : List Byte} {d : Dev}

theorem portAttenWrite_noent (h : 1023 < p) : portAttenWrite p b d = (.noent, d) := if_pos h

theorem portAttenWrite_length (hp : p ≤ 1023) (h : b.length ≠ 9) : portAttenWrite p b d = (.invalid, d) := by
  rw [portAttenWrite, if_neg (not_lt.2 hp), if_pos h]

theorem portAttenWrite_sized (hp : p ≤ 1023) (hb : b.length = 9) : portAttenWrite p b d = if d.bankArmed then (.late, d)
    else if field b 6 3 % 2 ^ 20 = 0 ∨ 524287 < field b 6 3 % 2 ^ 20 then (.invalid, d)
    else (.ok, ((d.setAtten p (attenOf b)).rawAtten p).nextGen) := by
  rw [portAttenWrite, if_neg (not_lt.2 hp), if_neg (not_not.2 hb)]
  rfl

theorem Dev.onNextBank_rawAtten : d.OnNextBank (d.rawAtten p) := by
  unfold Dev.rawAtten
  dsimp only
  split
  · exact d.onNextBank_putNextIf _ _
  · exact .refl d

end

/-- Settles O26: each write by its checks in their order; what it stores reads back, and the rest stands. -/
theorem circuitWrites : Obligations.CircuitWrites := by
  intro k port b s
  refine ⟨fun h => ?_, fun hk h => ?_, fun hk hb hlabel => ?given, fun hk hb hlabel x hx => ?byLabel, fun h => ?_,
    fun hlow hhigh hlen hlabel => ?batch, fun ha => ⟨?_, ?_⟩, fun ha => ⟨?copy, ?clear⟩, fun h => ?_, fun hp h => ?_,
    fun hp hb => ?atten⟩
  · exact answers_of_ask (circuitNextWrite k.toNat b) rfl (circuitNextWrite_noent h)
  · exact answers_of_ask (circuitNextWrite k.toNat b) rfl (circuitNextWrite_length hk h)
  case given =>
    have hx : s.dev = if (circOf b).byLabel then s.dev.beforeResolution else s.dev := (if_neg (by rw [hlabel]; decide)).symm
    refine ⟨fun e he => ?_, fun c hc => ⟨fun hsame => ?_, fun hother => ?_⟩⟩
    · exact answers_of_ask (circuitNextWrite k.toNat b) rfl (circuitNextWrite_refused hk hb hx he)
    · exact answers_of_ask (circuitNextWrite k.toNat b) rfl
        ((circuitNextWrite_stored hk hb hx hc).trans (congrArg _ (Dev.storeEntry_same hsame)))
    · obtain ⟨⟨hcirc, hrest⟩, hgen⟩ := s.dev.storeEntry_onCircuits (k := k.toNat) c
      rw [if_neg hother] at hgen
      refine ⟨_, answers_of_ask (circuitNextWrite k.toNat b) rfl (circuitNextWrite_stored hk hb hx hc),
        s.dev.entryBytes_storeEntry (Nat.lt_succ_of_le hk) c, ?_, hrest⟩
      rw [← hgen]
      exact hcirc
  case byLabel =>
    have hx' : x = if (circOf b).byLabel then s.dev.beforeResolution else s.dev := hx.trans (if_pos hlabel).symm
    have hrefused : ∀ e, x.checkEntry k.toNat b (x.circuits true) = .error e → Answers (.circuitNextWrite k b) s e x :=
      fun e he => answers_of_ask (circuitNextWrite k.toNat b) rfl (circuitNextWrite_refused hk hb hx' he)
    refine ⟨fun ha => hrefused _ (Dev.checkEntry_late ha), fun ha hbad => hrefused _ (Dev.checkEntry_bad ha hbad),
      fun ha hgood => ⟨fun hp => ?_, fun hread => ⟨fun hf => ?_, ?_⟩⟩⟩
    · exact hrefused _ (Dev.checkEntry_unresolved ha hgood hlabel (Dev.resolve_poisoned hp))
    · exact hrefused _ (Dev.checkEntry_unresolved ha hgood hlabel (Dev.resolve_noent hread hf))
    rintro p c hf rfl
    refine ⟨fun hs hr => ?_, fun hfresh => ?_⟩
    · exact hrefused _ (Dev.checkEntry_unresolved ha hgood hlabel (Dev.resolve_stale hread hf hs hr))
    have hport := Dev.resolve_port hread hf hfresh
    refine ⟨fun hu hc => hrefused _ (Dev.checkEntry_clash ha hgood hlabel hport hu hc), fun hfits => ?_⟩
    have hstored := circuitNextWrite_stored hk hb hx' (Dev.checkEntry_resolved ha hgood hlabel hport hfits)
    obtain ⟨⟨hcirc, hrest⟩, hgen⟩ := x.storeEntry_onCircuits (k := k.toNat) { circOf b with ingress := (x.labelEntry p).port }
    exact ⟨_, answers_of_ask (circuitNextWrite k.toNat b) rfl hstored, x.entryBytes_storeEntry (Nat.lt_succ_of_le hk) _, hgen,
      hcirc, hrest⟩
  · exact answers_of_ask (circuitBatch b) rfl (circuitBatch_length h)
  case batch =>
    refine ⟨fun i e he => ?_, fun l hl => ?_⟩
    · exact answers_of_ask (circuitBatch b) rfl (circuitBatch_refused hlabel hlow hhigh hlen he)
    · obtain ⟨⟨hcirc, hrest⟩, hgen⟩ := s.dev.storeEntries_onCircuits l
      exact ⟨_, answers_of_ask (circuitBatch b) rfl (circuitBatch_passed hlabel hlow hhigh hlen hl), hgen,
        fun p hp honce => s.dev.entryBytes_storeEntries (Dev.checkBatch_numbers hl) hp honce, hcirc, hrest⟩
  · exact answers_of_ask nextResetCopy rfl (nextReset_late ha).1
  · exact answers_of_ask nextResetClear rfl (nextReset_late ha).2
  case copy => exact ⟨_, answers_of_ask nextResetCopy rfl (nextResetCopy_free ha), fun off => rfl, rfl⟩
  case clear =>
    obtain ⟨⟨hcirc, hrest⟩, hgen⟩ := s.dev.onNextBank_cleared.nextGen
    refine ⟨_, answers_of_ask nextResetClear rfl (nextResetClear_free ha), ?_, ?_, hrest⟩
    · rw [Dev.circuits_nextGen, Dev.circuits_cleared]
    · rw [← hgen]
      exact hcirc
  · exact answers_of_ask (portAttenWrite port.toNat b) rfl (portAttenWrite_noent h)
  · exact answers_of_ask (portAttenWrite port.toNat b) rfl (portAttenWrite_length hp h)
  case atten =>
    have hwrite := portAttenWrite_sized (d := s.dev) hp hb
    refine ⟨fun ha => ?_, fun ha hbad => ?_, fun ha hpos hmax => ?_⟩
    · exact answers_of_ask (portAttenWrite port.toNat b) rfl (hwrite.trans (if_pos (Dev.bankArmed_iff.2 ha)))
    · exact answers_of_ask (portAttenWrite port.toNat b) rfl
        (hwrite.trans ((if_neg (Dev.bankArmed_of_none ha)).trans (if_pos hbad)))
    · have hdone := hwrite.trans ((if_neg (Dev.bankArmed_of_none ha)).trans 
        (if_neg (not_or.2 ⟨Nat.one_le_iff_ne_zero.1 hpos, not_lt.2 hmax⟩)))
      obtain ⟨m, v, w, hraw⟩ := (s.dev.setAtten port.toNat (attenOf b)).onNextBank_rawAtten (p := port.toNat)
      rw [hraw] at hdone
      exact ⟨_, answers_of_ask (portAttenWrite port.toNat b) rfl hdone, rfl, rfl, rfl⟩

end Sys2Proof.Machine
end

section
/-! The course of a commit (R209, R216, R221, R222): the arming point per cause, the report, the feedforward error, the copy of
the bank. -/

namespace Sys2Proof.Machine

/-! ## The arming point (R216) -/

/-- An abandoned sweep touches the calibration unit alone (R177). -/
theorem Dev.abortSweep_eq (d : Dev) (e : Nat) : ∃ k, d.abortSweep e = { d with cal := k } := by
  unfold Dev.abortSweep
  split
  · exact ⟨_, rfl⟩
  · exact ⟨d.cal, rfl⟩

theorem Dev.abortSweeps_eq (d : Dev) (es : List Nat) : ∃ k, each es (fun e x => x.abortSweep e) d = { d with cal := k } := by
  refine each_keeps (fun x : Dev => ∃ k, x = { d with cal := k }) _ _ _ (fun e x hx => ?_) ⟨d.cal, rfl⟩
  obtain ⟨k, rfl⟩ := hx
  exact Dev.abortSweep_eq _ e

/-- The commit c as the device would arm it now. -/
def Dev.armedOf (d : Dev) (c : PendingCommit) : Armed := {
  commit := c, marked := d.markedElems, rows := d.rowsOf d.markedElems, jumps := d.driving
  overtaken := d.circ.takenAt = d.cyc.ticks + 1, gen := d.circ.gen }

/-- Arming touches the Circuit Tables, the scan and the calibration unit alone. -/
theorem Dev.armCommit_eq (d : Dev) (c : PendingCommit) : ∃ k, d.armCommit c = { d with
    cal := k
    cyc := { d.cyc with
      nextScan := d.rowsOf d.markedElems, halfRate := d.cyc.halfRate.filter (fun p => !d.markedElems.contains p.1) }
    circ := { d.circ with
      pending := none, armed := some (d.armedOf c)
      jumpDue := if d.driving then jumpsOf d.circ.jumpDue d.markedElems else d.circ.jumpDue } } := by
  obtain ⟨k, haborted⟩ := d.abortSweeps_eq d.markedElems
  unfold Dev.armCommit
  dsimp only
  rw [haborted]
  exact ⟨_, rfl⟩

section
variable {d : Dev} {c : PendingCommit} (hc : d.circ.pending = some c) (hslot : d.cyc.slot = 0) (ht : c.tick ≤ d.time.nextTick)
include hc hslot ht

/-- A commit whose arming point has come is armed, or missed for its cause. -/
theorem armingPoint_due : armingPoint d = if d.missCause c = 0 then d.armCommit c
    else (d.missCommit c (d.missCause c)).raise .commitMissed [d.missCause c, c.group.toNat] := by
  unfold armingPoint
  rw [hc]
  refine (if_neg (not_or.2 ⟨not_not.2 hslot, not_lt.2 ht⟩)).trans ?_
  cases d.missCause c with
  | zero => rfl
  | succ n => rfl

end

/-! ## After the commit (R221, R222) -/

theorem commitDone_due {d : Dev} {t : Nat} {a : Armed} {l : List (Nat × Armed)} (h : d.circ.committing = (t, a) :: l)
    (ht : t + 3 ≤ d.cyc.ticks) (hslot : d.cyc.slot = 0) :
    commitDone d = (d.setCirc (fun x => { x with committing := l, report := a.report })).raise .commitDone
      [a.commit.group.toNat, a.rows.length, a.marked.length] := by
  unfold commitDone
  rw [h]
  exact if_neg (not_or.2 ⟨not_lt.2 ht, not_not.2 hslot⟩)

/-- The report with a feedforward error, where it still is that of the commit at a time. -/
def CommitReport.withError (r : CommitReport) (i : Time) (v : Nat) : CommitReport :=
  if r.at_ = i ∧ r.result = 1 then { r with ffError := v } else r

/-- The error recorded for some marked elements, and the free values drawn after it. -/
def Dev.recordedError (d : Dev) (m : List Nat) : Nat × Nat :=
  match d.ffError m with
  | some v => if v ≤ 0xFFFF then (v, d.free) else (d.draw.1 % 0x10000, d.free + 1)
  | none => (d.draw.1 % 0x10000, d.free + 1)

theorem Dev.recordedError_fits {d : Dev} {m : List Nat} {v : Nat} (h : d.ffError m = some v) (hv : v ≤ 0xFFFF) :
    d.recordedError m = (v, d.free) := by
  rw [Dev.recordedError, h]
  exact if_pos hv

theorem ffErrorRecord_due {d : Dev} {t : Nat} {i : Time} {m : List Nat} {l : List (Nat × Time × List Nat)}
    (h : d.circ.ffDue = (t, i, m) :: l) (ht : t ≤ d.cyc.ticks) (hslot : d.cyc.slot = 0) :
    ffErrorRecord d = { d with
      free := (d.recordedError m).2
      circ := { d.circ with ffDue := l, report := d.circ.report.withError i (d.recordedError m).1 } } := by
  unfold ffErrorRecord Dev.recordedError
  rw [h]
  refine (if_neg (not_or.2 ⟨not_lt.2 ht, not_not.2 hslot⟩)).trans ?_
  cases d.ffError m with
  | none => rfl
  | some v =>
    dsimp only
    split
    · rfl
    · rfl

/-! ## The copy (R209) -/

theorem bankCopy_under_way {d : Dev} {l : List Nat} (h : d.circ.written = some l) : bankCopy d =
    (d.mem (fun m => m.copyBank (bankAddr d.curBank) (bankAddr d.nextBank) l)).setCirc (fun x => { x with written := none }) := by
  rw [bankCopy, Dev.finishCopy, h]

theorem bankCopy_done {d : Dev} (h : d.circ.written = none) : bankCopy d = d := by
  rw [bankCopy, Dev.finishCopy, h]

/-- Settles O14, by one equation of each command's meaning per case. -/
theorem commitCourse : Obligations.CommitCourse := by
  intro s
  refine ⟨fun c hc hslot ht => ⟨fun h => ?armed, fun h => ?missed⟩, fun t a l hl ht hslot => ?done,
    fun t i m l hl ht hslot => ?error, fun l hl => ?copied, fun h => gives_of_upd bankCopy rfl (bankCopy_done h)⟩
  case armed =>
    obtain ⟨k, harmed⟩ := s.dev.armCommit_eq c
    exact ⟨_, gives_of_upd armingPoint rfl ((armingPoint_due hc hslot ht).trans ((if_pos h).trans harmed)), rfl, rfl⟩
  case missed =>
    refine ⟨_, gives_of_upd armingPoint rfl ((armingPoint_due hc hslot ht).trans (if_neg h)), ?_⟩
    rw [Dev.raise_eq]
    exact ⟨rfl, rfl, rfl⟩
  case done =>
    refine ⟨_, gives_of_upd commitDone rfl (commitDone_due hl ht hslot), ?_⟩
    rw [Dev.raise_eq]
    exact ⟨rfl, rfl⟩
  case error =>
    refine ⟨_, gives_of_upd ffErrorRecord rfl (ffErrorRecord_due hl ht hslot), rfl, fun v hv hfits hat hresult => ?_, rfl⟩
    rw [Dev.recordedError_fits hv hfits]
    exact ⟨if_pos ⟨hat, hresult⟩, rfl⟩
  case copied => exact ⟨_, gives_of_upd bankCopy rfl (bankCopy_under_way hl), rfl, rfl, rfl⟩

end Sys2Proof.Machine
end

section
/-! Path verification (R227, R248): VERIFY_ENABLE, and the circuits that are heard no more. -/

namespace Sys2Proof.Machine

/-- Telling of the batches that are done drops them and changes the Event Unit, and no more (R228). -/
theorem Dev.verifyDone_eq (d : Dev) : ∃ b v, d.verifyDone = { d with ver := { d.ver with batch := b }, ev := v } := by
  unfold Dev.verifyDone
  dsimp only
  refine each_keeps (fun x : Dev => ∃ b v, x = { d with ver := { d.ver with batch := b }, ev := v }) _ _ _
    (fun l x hx => ?_) ⟨_, d.ev, rfl⟩
  obtain ⟨b, v, rfl⟩ := hx
  rw [Dev.raise_eq]
  exact ⟨b, _, rfl⟩

/-- The timeout of circuit k has passed (R227). -/
def Dev.heardNoMore (d : Dev) (k : Nat) : Prop :=
  (d.verState k = .pending ∧ tget 0 d.ver.since k + 1000000 * d.cfg.ver.timeout ≤ d.now)
    ∨ (d.verState k = .verified ∧ tget 0 d.ver.lastAt k + 1000000 * d.cfg.ver.timeout ≤ d.now)

/-- Circuit k's run of decodes is dropped and its state is NO_LABEL. -/
def Dev.loseLabel (d : Dev) (k : Nat) : Dev :=
  (d.setVerState k .noLabel).setVer (fun v => { v with last := v.last.filter (fun p => p.1 ≠ k) })

section
variable {d : Dev} {k : Nat}

theorem Dev.heardNoMore_pending (h : d.verState k = .pending) :
    d.heardNoMore k ↔ tget 0 d.ver.since k + 1000000 * d.cfg.ver.timeout ≤ d.now := by
  simp [Dev.heardNoMore, h]

theorem Dev.heardNoMore_verified (h : d.verState k = .verified) :
    d.heardNoMore k ↔ tget 0 d.ver.lastAt k + 1000000 * d.cfg.ver.timeout ≤ d.now := by
  simp [Dev.heardNoMore, h]

theorem Dev.heardNoMore_watched (h : d.heardNoMore k) : d.verState k = .pending ∨ d.verState k = .verified :=
  h.imp And.left And.left

theorem verifyTimeout_lost (h : d.heardNoMore k) (hrun : d.dec.state = .running) : verifyTimeout k d =
    ((d.loseLabel k).raise .labelLost [k, (d.circuit false k).tag, (d.circuit false k).egress]).verifyDone := by
  refine if_pos ⟨?_, hrun⟩
  obtain ⟨hstate, hlate⟩ | ⟨hstate, hlate⟩ := h
  · rw [hstate]
    exact decide_eq_true hlate
  · rw [hstate]
    exact decide_eq_true hlate

theorem verifyTimeout_kept (h : d.dec.state ≠ .running ∨ ¬ d.heardNoMore k) : verifyTimeout k d = d := by
  refine if_neg fun ⟨hlate, hrun⟩ => h.elim (fun hstopped => hstopped hrun) fun hheard => hheard ?_
  split at hlate
  · rename_i hstate
    exact (Dev.heardNoMore_pending hstate).2 (of_decide_eq_true hlate)
  · rename_i hstate
    exact (Dev.heardNoMore_verified hstate).2 (of_decide_eq_true hlate)
  · contradiction

end

theorem Dev.verState_loseLabel (d : Dev) (k : Nat) : (d.loseLabel k).verState k = .noLabel :=
  tget_tset_same VerState.notChecked d.ver.state k .noLabel

/-- Settles O28, by whether the timeout of the circuit has passed. -/
theorem verification : Obligations.Verification := by
  intro v k s
  refine ⟨answers_of_ask (verifyEnableWrite v) rfl rfl, fun hrun h => ?lost, fun h => ?kept⟩
  case lost =>
    refine ⟨_, gives_of_upd (verifyTimeout k.toNat) rfl (verifyTimeout_lost h hrun), ?_⟩
    rw [Dev.raise_eq]
    obtain ⟨b, w, hdone⟩ := Dev.verifyDone_eq { s.dev.loseLabel k.toNat with ev := _ }
    rw [hdone]
    exact ⟨s.dev.verState_loseLabel k.toNat, rfl⟩
  case kept =>
    refine gives_of_upd (verifyTimeout k.toNat) rfl (verifyTimeout_kept ?_)
    rcases h with hstopped | ⟨hstate, hearly⟩ | ⟨hstate, hearly⟩ | ⟨hpending, hverified⟩
    · exact .inl hstopped
    · exact .inr fun h => absurd ((Dev.heardNoMore_pending hstate).1 h) (not_le.2 hearly)
    · exact .inr fun h => absurd ((Dev.heardNoMore_verified hstate).1 h) (not_le.2 hearly)
    · exact .inr fun h => (Dev.heardNoMore_watched h).elim hpending hverified

end Sys2Proof.Machine
end

section
/-! The soundness of the memory along every step (R372, R375, R376): the meanings that write memory keep its canonical form and the
bound of its merge buffer, and every other leaves it alone. -/

namespace Sys2Proof.Machine

/-! ## What a command may answer -/

/-- Whatever next state m answers on a state whose memory is sound has a sound memory. -/
def KeepsMemorySound (m : State → Host.Outcome State Fault Refusal) : Prop :=
  ∀ s t : State, s.dev.sram.sound = true → m s = .next t → t.dev.sram.sound = true

namespace KeepsMemorySound

theorem upd_of_sound {f : Dev → Dev} (hf : ∀ d : Dev, d.sram.sound = true → (f d).sram.sound = true) :
    KeepsMemorySound (State.upd f) := by
  rintro s t hs ⟨⟩
  exact hf s.dev hs

theorem ask_of_sound {f : Dev → Resp × Dev} (hf : ∀ d : Dev, d.sram.sound = true → (f d).2.sram.sound = true) :
    KeepsMemorySound (State.ask f) := by
  rintro s t hs ⟨⟩
  exact hf s.dev hs

theorem updM_of_sound {f : Dev → Except Fault Dev}
    (hf : ∀ d : Dev, d.sram.sound = true → ∀ d', f d = .ok d' → d'.sram.sound = true) : KeepsMemorySound (State.updM f) := by
  intro s t hs h
  unfold State.updM at h
  split at h
  case h_1 d hd =>
    cases h
    exact hf s.dev hs d hd
  case h_2 => cases h

theorem upd {f : Dev → Dev} (hf : ∀ d, (f d).sram = d.sram) : KeepsMemorySound (State.upd f) :=
  upd_of_sound fun d hd => (congrArg Mem.sound (hf d)).trans hd

theorem ask {f : Dev → Resp × Dev} (hf : ∀ d, (f d).2.sram = d.sram) : KeepsMemorySound (State.ask f) :=
  ask_of_sound fun d hd => (congrArg Mem.sound (hf d)).trans hd

theorem updM {f : Dev → Except Fault Dev} (hf : ∀ d d', f d = .ok d' → d'.sram = d.sram) : KeepsMemorySound (State.updM f) :=
  updM_of_sound fun d hd d' h => (congrArg Mem.sound (hf d d' h)).trans hd

end KeepsMemorySound

/-! ## Every command -/

/-- First the commands that write memory, then those that leave it alone. -/
theorem exec_keepsMemorySound : ∀ c : Instr, KeepsMemorySound (exec c)
  | .tick .. => .upd_of_sound (tick_sram_q _)
  | .slot .. => .upd_of_sound (slot_sram_q _)
  | .cycleConfigEffect => .upd_of_sound cycleConfigEffect_sram_q
  | .fabricInForce => .upd_of_sound fabricInForce_sram_q
  | .requestReceive .. => .upd_of_sound (requestReceive_sram_q _)
  | .registerWrite .. => .upd_of_sound (registerWrite_sram_q _ _ _)
  | .domainPartWrite .. => .upd_of_sound (domainPartWrite_sram_q _ _ _ _ _ _)
  | .resetAssert => .upd_of_sound resetAssert_sram_q
  | .firmwareApply .. => .ask_of_sound (firmwareApply_sram_q _)
  | .deviceReset .. => .ask_of_sound (deviceReset_sram_q _)
  | .conversionComplete .. => .upd_of_sound (conversionComplete_sram_q _ _ _)
  | .claimWindowEnd .. => .upd_of_sound (claimWindowEnd_sram_q _ _)
  | .bankCopy => .upd_of_sound bankCopy_sram_q
  | .groupStopped .. => .upd_of_sound (groupStopped_sram_q _)
  | .reverseLinearisation .. => .upd_of_sound (reverseLinearisation_sram_q _ _)
  | .traceArm => .ask_of_sound traceArm_sram_q
  | .calPointsWrite .. => .ask_of_sound (calPointsWrite_sram_q _ _)
  | .darkCaptureDone => .upd_of_sound darkCaptureDone_sram_q
  | .rotationStepEnd .. => .upd_of_sound (rotationStepEnd_sram_q _ _)
  | .sweepEnd .. => .upd_of_sound (sweepEnd_sram_q _)
  | .refitWindowClose .. => .upd_of_sound (refitWindowClose_sram_q _)
  | .fabricApply .. => .ask_of_sound (fabricApply_sram_q _)
  | .solveDone .. => .upd_of_sound (solveDone_sram_q _)
  | .rawTargetWrite .. => .ask_of_sound (rawTargetWrite_sram_q _ _)
  | .circuitNextWrite .. => .ask_of_sound (circuitNextWrite_sram_q _ _)
  | .circuitBatch .. => .ask_of_sound (circuitBatch_sram_q _)
  | .nextResetClear => .ask_of_sound nextResetClear_sram_q
  | .portAttenWrite .. => .ask_of_sound (portAttenWrite_sram_q _ _)
  | .quarterBit => .upd_of_sound quarterBit_sram_q
  | .labelGone .. => .upd_of_sound (labelGone_sram_q _ _)
  | .labelInsert .. => .upd_of_sound (labelInsert_sram_q _)
  | .labelDelete .. => .upd_of_sound (labelDelete_sram_q _)
  | .labelSearch .. => .upd_of_sound (labelSearch_sram_q _)
  | .labelNext .. => .upd_of_sound (labelNext_sram_q _)
  | .flushByPort .. => .upd_of_sound (flushByPort_sram_q _)
  | .decoderStopped => .upd_of_sound decoderStopped_sram_q
  | .checkpointReceive .. => .upd_of_sound (checkpointReceive_sram_q _ _)
  | .imageResident => .upd_of_sound imageResident_sram_q
  | .mateSyncCalPoints .. => .upd_of_sound (mateSyncCalPoints_sram_q _ _ _ _)
  | .mateSyncLabelCommand .. => .upd_of_sound (mateSyncLabelCommand_sram_q _ _ _)
  | .memoryUe .. => .updM_of_sound (memoryUe_sram_q _ _ _)
  | .correctiveWriteback .. => .updM_of_sound (correctiveWriteback_sram_q _)
  | .mergeRetire .. => .upd_of_sound (mergeRetire_sram_q _)
  | .scrubRead .. => .upd_of_sound (scrubRead_sram_q _)
  | .bankStoreScrubRead .. => .upd_of_sound (bankStoreScrubRead_sram_q _)
  | .recordRebuild .. => .upd_of_sound (recordRebuild_sram_q _ _)
  | .windowModeWrite .. => .ask_of_sound (windowModeWrite_sram_q _)
  | .compatLoad .. => .ask_of_sound (compatLoad_sram_q _)
  | .resetRelease .. => .upd_of_sound (resetRelease_sram_q _)
  | .startComplete => .upd_of_sound startComplete_sram_q
  | .rejoinComplete .. => .upd_of_sound (rejoinComplete_sram_q _)
  | .tickWindowOpen => .upd tickWindowOpen_sram
  | .armingPoint => .upd armingPoint_sram
  | .cycleApply .. => .ask (cycleApply_sram _)
  | .converterTimeout .. => .upd (converterTimeout_sram _ _)
  | .claimWindowStart => .upd claimWindowStart_sram
  | .outputRelease => .upd outputRelease_sram
  | .commitDone => .upd commitDone_sram
  | .ffErrorRecord => .upd ffErrorRecord_sram
  | .loadMeasure .. => .ask (loadMeasure_sram _ _ _)
  | .towerWiredWrite .. => .ask (towerWiredWrite_sram _)
  | .mateMissing => .upd mateMissing_sram
  | .auxPosition .. => .upd (auxPosition_sram _)
  | .injectRequest .. => .ask (injectRequest_sram _ _ _ _)
  | .idleCodeWrite .. => .ask (idleCodeWrite_sram _)
  | .rowFaultClear .. => .ask (rowFaultClear_sram _)
  | .groupStop .. => .ask (groupStop_sram _)
  | .groupStopForced .. => .ask (groupStopForced_sram _)
  | .groupEnable .. => .ask (groupEnable_sram _)
  | .laneUnfence .. => .ask (laneUnfence_sram _)
  | .laneSelftestDone .. => .upd (laneSelftestDone_sram _ _)
  | .loopStop => .ask loopStop_sram
  | .loopStart => .ask loopStart_sram
  | .recordFieldWrite .. => .ask (recordFieldWrite_sram _ _ _)
  | .modeWrite .. => .ask (modeWrite_sram _ _)
  | .setpointRequest .. => .ask (setpointRequest_sram _ _ _)
  | .traceForce => .ask traceForce_sram
  | .traceDisarm => .ask traceDisarm_sram
  | .darkCapture .. => .ask (darkCapture_sram _)
  | .spareMoveDeferred .. => .upd (spareMoveDeferred_sram _)
  | .calColumnSkipped .. => .upd (calColumnSkipped_sram _)
  | .calColumnRequest .. => .ask (calColumnRequest_sram _)
  | .calRotationStop => .ask calRotationStop_sram
  | .calRotationStart => .ask calRotationStart_sram
  | .sweepRequest .. => .ask (sweepRequest_sram _ _)
  | .sweepStart => .upd sweepStart_sram
  | .sweepCancel .. => .ask (sweepCancel_sram _)
  | .calPointsForward .. => .upd (calPointsForward_sram _)
  | .fabricBlockWrite .. => .ask (fabricBlockWrite_sram _ _)
  | .solveStrict => .ask solveStrict_sram
  | .solvePermissive => .ask solvePermissive_sram
  | .nextResetCopy => .ask nextResetCopy_sram
  | .commit .. => .ask (commitRequest_sram _)
  | .commitCancel .. => .ask (commitCancel_sram _)
  | .verifyEnableWrite .. => .ask (verifyEnableWrite_sram _)
  | .verifyTimeout .. => .upd (verifyTimeout_sram _)
  | .learnReadIndexWrite .. => .ask (learnReadIndexWrite_sram _)
  | .flushByPortDone => .upd flushByPortDone_sram
  | .agingPassStart => .upd agingPassStart_sram
  | .decoderStop => .ask decoderStop_sram
  | .decoderStart => .ask decoderStart_sram
  | .pairWrite .. => .ask (pairWrite_sram _ _ _ _)
  | .labelCommandForward => .upd labelCommandForward_sram
  | .frameReceive .. => .upd (frameReceive_sram _ _ _)
  | .helloSend .. => .upd (helloSend_sram _)
  | .helloReceive .. => .upd (helloReceive_sram _ _)
  | .helloTimeout .. => .upd (helloTimeout_sram _)
  | .linkLockLoss .. => .upd (linkLockLoss_sram _ _)
  | .enumStart .. => .ask (enumStart_sram _)
  | .enumCount .. => .upd (enumCount_sram _ _)
  | .enumCountReply .. => .upd (enumCountReply_sram _ _)
  | .enumAssign .. => .upd (enumAssign_sram _ _)
  | .enumAssignDone .. => .upd (enumAssignDone_sram _ _)
  | .enumChildTimeout .. => .upd (enumChildTimeout_sram _)
  | .laneDisable .. => .ask (laneDisable_sram _)
  | .laneEnable .. => .ask (laneEnable_sram _)
  | .laneDisabled .. => .upd (laneDisabled_sram _)
  | .bspiWriteRequest .. => .upd (bspiWriteRequest_sram _ _)
  | .bspiReadStatus => .upd bspiReadStatus_sram
  | .bspiReadResponse => .upd bspiReadResponse_sram
  | .bspiCsAbort .. => .upd (bspiCsAbort_sram _)
  | .schedulerSelect .. => .upd (schedulerSelect_sram _)
  | .shaperRateWrite .. => .ask (shaperRateWrite_sram _ _)
  | .shaperBurstWrite .. => .ask (shaperBurstWrite_sram _ _)
  | .meterProfileWrite .. => .ask (meterProfileWrite_sram _ _ _ _ _)
  | .meterInstanceFree .. => .upd (meterInstanceFree_sram _ _)
  | .histClear .. => .ask (histClear_sram _)
  | .timeSyncSend => .upd timeSyncSend_sram
  | .timeSyncReceive .. => .upd (timeSyncReceive_sram _ _ _ _)
  | .delayReqSend => .upd delayReqSend_sram
  | .delayReqReceive .. => .upd (delayReqReceive_sram _ _)
  | .delayRespReceive .. => .upd (delayRespReceive_sram _ _)
  | .timeStep => .upd timeStep_sram
  | .parentLost => .upd parentLost_sram
  | .holdoverExpired => .upd holdoverExpired_sram
  | .timeSet .. => .ask (timeSet_sram _ _)
  | .timeSourceWrite .. => .ask (timeSourceWrite_sram _)
  | .ppsInEdge => .upd ppsInEdge_sram
  | .ppsHoldover => .upd ppsHoldover_sram
  | .triggerSchedule .. => .ask (triggerSchedule_sram _ _ _ _)
  | .triggerCancel .. => .ask (triggerCancel_sram _)
  | .snapNow .. => .ask (snapNow_sram _)
  | .snapInEdge => .upd snapInEdge_sram
  | .describe .. => .upd (describe_sram _)
  | .assemblyTimeout .. => .upd (assemblyTimeout_sram _)
  | .windowFree .. => .upd (windowFree_sram _)
  | .rightsWrite .. => .ask (rightsWrite_sram _)
  | .checkpointSend => .upd checkpointSend_sram
  | .checkpointSeal .. => .upd (checkpointSeal_sram _)
  | .imageAck .. => .upd (imageAck_sram _)
  | .wordRequest .. => .upd (wordRequest_sram _)
  | .wordReply .. => .upd (wordReply_sram _ _ _ _)
  | .mateHealthSend => .upd mateHealthSend_sram
  | .mateHealthReceive .. => .upd (mateHealthReceive_sram _)
  | .mateSyncAck .. => .upd (mateSyncAck_sram _)
  | .mateSyncResend .. => .upd (mateSyncResend_sram _)
  | .mateSyncLost .. => .upd (mateSyncLost_sram _)
  | .yieldReq => .ask yieldReq_sram
  | .yieldForced => .ask yieldForced_sram
  | .yieldTimeout => .upd yieldTimeout_sram
  | .towerDutyDisable => .ask towerDutyDisable_sram
  | .towerDutyEnable => .ask towerDutyEnable_sram
  | .claimLineClear .. => .ask (claimLineClear_sram _)
  | .claimLineMaskWrite .. => .ask (claimLineMaskWrite_sram _)
  | .ceLeak => .upd ceLeak_sram
  | .scrubStart => .ask scrubStart_sram
  | .scrubStop => .ask scrubStop_sram
  | .scrubAutoPass => .upd scrubAutoPass_sram
  | .repairRow .. => .ask (repairRow_sram _ _)
  | .repairAuto .. => .upd (repairAuto_sram _ _)
  | .repairFuseDone => .upd repairFuseDone_sram
  | .coreDataAbort .. => .updM (coreDataAbort_sram _ _)
  | .heartbeatMissing .. => .upd (heartbeatMissing_sram _)
  | .deviceRestart .. => .ask (deviceRestart_sram _)
  | .refclkLoss .. => .upd (refclkLoss_sram _)
  | .eventSummary => .upd eventSummary_sram
  | .eventSend => .upd eventSend_sram
  | .faultLogCopy => .upd faultLogCopy_sram
  | .eventReadIndexWrite .. => .ask (eventReadIndexWrite_sram _)
  | .faultLogClear .. => .ask (faultLogClear_sram _)
  | .faultAck .. => .ask (faultAck_sram _)
  | .dieSensorSample .. => .upd (dieSensorSample_sram _)
  | .thermalRestart .. => .ask (thermalRestart_sram _)
  | .railOutOfRange .. => .upd (railOutOfRange_sram _)
  | .railFault .. => .upd (railFault_sram _)
  | .railRecovered .. => .upd (railRecovered_sram _)
  | .pumpFault .. => .upd (pumpFault_sram _)
  | .pumpRestart .. => .upd (pumpRestart_sram _)
  | .boot => .upd boot_sram
  | .firmwareStart => .upd firmwareStart_sram
  | .savedDutyRestore => .upd savedDutyRestore_sram
  | .savedStateWrite => .upd savedStateWrite_sram
  | .firmwareBlock .. => .ask (firmwareBlock_sram _ _)
  | .securityVersionCommit .. => .ask (securityVersionCommit_sram _)
  | .ownerKeyInstall .. => .ask (ownerKeyInstall_sram _)
  | .attestNonce .. => .ask (attestNonce_sram _)
  | .savedStateErase .. => .ask (savedStateErase_sram _)
  | .rejoin .. => .ask (rejoin_sram _)
  | .blockLockGained .. => .upd (blockLockGained_sram _)
  | .pumpRegulating .. => .upd (pumpRegulating_sram _)
  | .timebasePllUnlock => .upd timebasePllUnlock_sram
  | .enumAssignTimeout => .upd enumAssignTimeout_sram
/-- On an empty queue the clock alone moves on (R292). -/
theorem State.idle_sram (s : State) : s.idle.dev.sram = s.dev.sram := by
  unfold State.idle
  split <;> rfl

/-- Settles O4, by what each command's meaning makes of memory. -/
theorem stepKeepsTheMemorySound : Obligations.StepKeepsTheMemorySound := by
  intro s t hs h
  unfold step at h
  split at h
  case h_1 =>
    cases h
    rwa [State.idle_sram]
  case h_2 c q _ => exact exec_keepsMemorySound c (s.rest q) t hs h

end Sys2Proof.Machine
end

section
/-! The queue of commands (log entry 1): a step carries out the command at its front, and no command touches the rest. -/

namespace Sys2Proof.Machine

theorem State.updM_pending {f : Dev → Except Fault Dev} {s t : State} (h : s.updM f = .next t) : t.pending = s.pending := by
  unfold State.updM at h
  split at h
  case h_1 =>
    cases h
    rfl
  case h_2 => cases h

/-- Every meaning is an update of the device: of the commands that may stop, by State.updM; of the rest, by State.upd or
State.ask. -/
theorem exec_pending {c : Instr} {s t : State} (h : exec c s = .next t) : t.pending = s.pending := by
  cases c
  case memoryUe => exact State.updM_pending h
  case correctiveWriteback => exact State.updM_pending h
  case coreDataAbort => exact State.updM_pending h
  all_goals exact (congrArg State.pending (Host.Outcome.next.inj h)).symm

theorem State.idle_held {s : State} (h : s.dev.boot.phase = .held) : s.idle = s := if_pos h

theorem State.idle_runs {s : State} (h : s.dev.boot.phase ≠ .held) :
    s.idle = { s with dev := { s.dev with time := s.dev.time.clock } } := if_neg h

/-- Settles O1, by what a command may do with the queue. -/
theorem stepTakesTheFrontCommand : Obligations.StepTakesTheFrontCommand := by
  intro c l s
  refine ⟨rfl, fun t h => exec_pending h, fun h => ?_, fun h => ?_⟩
  · exact congrArg Host.Outcome.next (State.idle_held (s := { s with pending := [] }) h)
  · exact congrArg Host.Outcome.next (State.idle_runs (s := { s with pending := [] }) h)

end Sys2Proof.Machine
end

section
/-! DEVICE_RESET (R431), the claim window of a withdrawn unit (R345), and the board SPI port (R275). -/

namespace Sys2Proof.Machine

/-! ## DEVICE_RESET -/

theorem deviceReset_active {d : Dev} (h : d.tow.role = 0) : deviceReset 1 d = (.conflict, d) := by
  rw [deviceReset, if_neg (by decide), if_pos h]

theorem deviceReset_restarts {d : Dev} (h : d.tow.role ≠ 0) :
    deviceReset 1 d = (.ok, resetRelease d.boot.straps (resetAssert d)) := by
  rw [deviceReset, if_neg (by decide), if_neg h]
  rfl

/-- Settles O7, by the two cases of the role. -/
theorem deviceResetIsReset : Obligations.DeviceResetIsReset := by
  intro s
  exact ⟨fun h => answers_of_ask (deviceReset 1) rfl (deviceReset_active h), fun h =>
    ⟨_, _, gives_of_upd resetAssert rfl rfl, gives_of_upd (resetRelease s.dev.boot.straps) rfl rfl,
      answers_of_ask (deviceReset 1) rfl (deviceReset_restarts h)⟩⟩

/-! ## A claim of HEALTH 0 (R343, R345) -/

/-- A claim formed of HEALTH 0 has 0 in its first three bits. -/
theorem claimNumber_withdrawn (incumbent : Bool) (rank unit : Nat) : (claimNumber 0 incumbent rank unit).toNat / 2 ^ 13 = 0 := by
  have hbit : ofBool incumbent ≤ 1 := by cases incumbent <;> decide
  rw [claimNumber, BitVec.toNat_ofNat]
  omega

theorem sentBits_withdrawn {c : Nat} (hc : c / 2 ^ 13 = 0) (v : Nat) : sentBits c v = 0 := if_pos hc

/-- A line that reads 0xFFFF is wrong, whatever was sent on it (R347). -/
theorem judgeLine_all_ones (c : Nat) : judgeLine c 0xFFFF = .faulty := if_pos (.inl rfl)

theorem lineAfter_faulty (old : Nat) (suspect : Bool) : lineAfter old .faulty suspect = 2 := if_pos rfl

/-- CLAIM_WINDOW_END of a withdrawn unit: both values are recorded, no win is latched, and a line that read 0xFFFF is FAULTY. -/
theorem claimWindowEnd_withdrawn {d : Dev} (hw : d.tow.window = 1) (hc : d.tow.claim.toNat / 2 ^ 13 = 0) (va vb : Nat) :
    ∃ x : Dev, claimWindowEnd va vb d = x ∧ x.tow.va = BitVec.ofNat 16 va ∧ x.tow.vb = BitVec.ofNat 16 vb
      ∧ x.tow.latched = some false ∧ x.tow.won = d.tow.won ∧ x.tow.result = 2
      ∧ (∃ b, x.tow.lineA = lineAfter d.tow.lineA (judgeLine d.tow.claim.toNat va) b)
      ∧ (∃ b, x.tow.lineB = lineAfter d.tow.lineB (judgeLine d.tow.claim.toNat vb) b) := by
  refine ⟨_, rfl, ?_⟩
  rw [claimWindowEnd, if_neg (by simp [hw])]
  simp only [Dev.advanceTo_tow, hc, Nat.le_zero_eq, Nat.one_ne_zero, decide_false, Bool.and_false, Bool.false_and, Bool.or_self,
    Bool.false_eq_true, if_false, if_true]
  generalize hz : Dev.raiseIf _ _ _ _ = z
  obtain ⟨y, hy⟩ := z.endYield_eq
  rw [hy, ← hz]
  simp only [Dev.setTow_tow, Dev.raiseIf_tow, Dev.advanceTo_tow, true_and]
  exact ⟨⟨_, rfl⟩, ⟨_, rfl⟩⟩

/-- Settles O6: the claim of HEALTH 0 sends no bit, and the window's end takes neither line for its own. -/
theorem withdrawnUnit : Obligations.WithdrawnUnit := by
  intro va vb s hh hp hw
  have hc : s.dev.claimNumber.toNat / 2 ^ 13 = 0 := by
    rw [Dev.claimNumber, hh]
    exact claimNumber_withdrawn ..
  refine ⟨_, gives_of_upd claimWindowStart rfl (claimWindowStart_opens hp hw), rfl, sentBits_withdrawn hc, ?_⟩
  obtain ⟨x, hx, hva, hvb, hlatched, hwon, hresult, ⟨a, hA⟩, ⟨b, hB⟩⟩ := claimWindowEnd_withdrawn (d := { s.dev with
    time := _, tow := { s.dev.tow with claim := s.dev.claimNumber, window := 1, lineA := _, lineB := _, clearDue := false
                                       dutyWindow := _ } }) rfl hc va.toNat vb.toNat
  rw [BitVec.ofNat_toNat, BitVec.setWidth_eq] at hva hvb
  refine ⟨x, gives_of_upd (claimWindowEnd va.toNat vb.toNat) rfl hx, hva, hvb, hlatched, hwon, hresult, fun h => ?_, fun h => ?_⟩
  · rw [hA, h]
    exact (congrArg (lineAfter _ · a) (judgeLine_all_ones _)).trans (lineAfter_faulty ..)
  · rw [hB, h]
    exact (congrArg (lineAfter _ · b) (judgeLine_all_ones _)).trans (lineAfter_faulty ..)

/-! ## The board SPI port -/

theorem Dev.bspiOn_iff (d : Dev) : d.bspiOn = true ↔ d.boot.phase ≠ .held ∧ d.boot.phase ≠ .rom := by
  simp [Dev.bspiOn]

theorem Dev.bspiOn_eq_false_iff (d : Dev) : d.bspiOn = false ↔ d.boot.phase = .held ∨ d.boot.phase = .rom := by
  rw [← Bool.not_eq_true, Dev.bspiOn_iff, ← not_or, not_not]

section
variable {d : Dev}

theorem bspiWriteRequest_off (n : Nat) (body : List Byte) (h : d.bspiOn = false) : bspiWriteRequest n body d = d := if_pos h
theorem bspiReadStatus_off (h : d.bspiOn = false) : bspiReadStatus d = d := if_pos h
theorem bspiReadResponse_off (h : d.bspiOn = false) : bspiReadResponse d = d := if_pos h
theorem bspiCsAbort_other {b : Bool} (h : d.bspiOn = false ∨ b = false) : bspiCsAbort b d = d := if_pos h

section
variable (hon : d.bspiOn = true)
include hon

theorem bspiWriteRequest_overrun (n : Nat) (body : List Byte)
    (h : d.net.bspi.request ≠ none ∨ d.net.bspi.response ≠ none) :
    bspiWriteRequest n body d = d.setBspi (fun b => { b with overrun := true }) := by
  rw [bspiWriteRequest, if_neg (by simp [hon]), if_pos (h.imp Option.isSome_iff_ne_none.2 Option.isSome_iff_ne_none.2)]

theorem bspiWriteRequest_length {n : Nat} {body : List Byte} (hq : d.net.bspi.request = none) (hr : d.net.bspi.response = none)
    (h : 2010 < n ∨ body.length < n) : bspiWriteRequest n body d = d.setBspi (fun b => { b with lengthError := true }) := by
  rw [bspiWriteRequest, if_neg (by simp [hon]), if_neg (by simp [hq, hr]), if_pos h]

theorem bspiWriteRequest_taken {n : Nat} {body : List Byte} (hq : d.net.bspi.request = none) (hr : d.net.bspi.response = none)
    (hn : n ≤ 2010) (hb : n ≤ body.length) :
    bspiWriteRequest n body d = d.setBspi (fun b => { b with request := some (body.take n) }) := by
  rw [bspiWriteRequest, if_neg (by simp [hon]), if_neg (by simp [hq, hr]), if_neg (by omega)]

theorem bspiReadStatus_on : bspiReadStatus d
    = d.setBspi (fun b => { b with sent := be 1 b.status, overrun := false, lengthError := false }) := if_neg (by simp [hon])

theorem bspiReadResponse_on : bspiReadResponse d = d.setBspi (fun b =>
    { b with sent := be 2 (b.response.getD []).length ++ b.response.getD [], response := none }) := if_neg (by simp [hon])

theorem bspiCsAbort_short : bspiCsAbort true d = d.setBspi (fun b => { b with lengthError := true }) := if_neg (by simp [hon])

end
end

/-- Settles O35, by one equation of each transfer per case. -/
theorem boardSpi : Obligations.BoardSpi := by
  intro n body b s
  refine ⟨fun h => ?off, fun hheld hrom => ?on⟩
  case off =>
    have hoff := s.dev.bspiOn_eq_false_iff.2 h
    exact ⟨gives_of_upd (bspiWriteRequest n.toNat body) rfl (bspiWriteRequest_off _ _ hoff),
      gives_of_upd bspiReadStatus rfl (bspiReadStatus_off hoff), gives_of_upd bspiReadResponse rfl (bspiReadResponse_off hoff),
      gives_of_upd (bspiCsAbort b) rfl (bspiCsAbort_other (.inl hoff))⟩
  case on =>
    have hon := s.dev.bspiOn_iff.2 ⟨hheld, hrom⟩
    have hread := bspiReadResponse_on hon
    refine ⟨fun h => gives_of_upd (bspiWriteRequest n.toNat body) rfl (bspiWriteRequest_overrun hon _ _ h),
      fun hq hr h => gives_of_upd (bspiWriteRequest n.toNat body) rfl (bspiWriteRequest_length hon hq hr h),
      fun hq hr hn hb => gives_of_upd (bspiWriteRequest n.toNat body) rfl (bspiWriteRequest_taken hon hq hr hn hb),
      gives_of_upd bspiReadStatus rfl (bspiReadStatus_on hon),
      fun hr => gives_of_upd bspiReadResponse rfl (hread.trans ?_),
      fun r hr => gives_of_upd bspiReadResponse rfl (hread.trans ?_),
      gives_of_upd (bspiCsAbort true) rfl (bspiCsAbort_short hon),
      gives_of_upd (bspiCsAbort false) rfl (bspiCsAbort_other (.inr rfl))⟩
    · simp [Dev.setBspi, hr]
    · simp [Dev.setBspi, hr]

end Sys2Proof.Machine
end

section
/-! What a lane's receiver counts and the ways that its counts leave alone (R258, R268, R276); ingress meters and egress shapers
(R283 to R291). -/

namespace Sys2Proof.Machine

/-! ## What counting on lanes leaves alone -/

/-- The counters of lanes apart, FEC counters among them, y is d. -/
structure Dev.Counted (d y : Dev) : Prop where
  rest : ∃ t, y = { d with net := { d.net with lanes := t } }
  lane : ∀ k, y.lane k = { d.lane k with counters := (y.lane k).counters, fec := (y.lane k).fec }

theorem Dev.lane_countLane (d : Dev) (l i n k : Nat) : (d.countLane l i n).lane k
    = if k = l then { d.lane l with counters := tset 0 (d.lane l).counters i (tget 0 (d.lane l).counters i + BitVec.ofNat 64 n) }
      else d.lane k := Dev.lane_setLane ..

theorem Dev.lane_countLane_same (d : Dev) (l i n : Nat) : (d.countLane l i n).lane l
    = { d.lane l with counters := tset 0 (d.lane l).counters i (tget 0 (d.lane l).counters i + BitVec.ofNat 64 n) } := by
  rw [Dev.lane_countLane, if_pos rfl]

theorem Dev.counter_countLane (d : Dev) (l i n : Nat) :
    tget 0 ((d.countLane l i n).lane l).counters i = tget 0 (d.lane l).counters i + BitVec.ofNat 64 n := by
  rw [Dev.lane_countLane_same]
  exact tget_tset_same ..

/-- Codewords are counted on no other lane. -/
theorem Dev.lane_countFec_other (d : Dev) {l k : Nat} (w : FecSeen) (h : k ≠ l) : (d.countFec l w).lane k = d.lane k := by
  unfold Dev.countFec
  split
  · rfl
  · exact (Dev.lane_setLane ..).trans (if_neg h)

theorem Dev.Counted.refl (d : Dev) : d.Counted d := ⟨⟨_, rfl⟩, fun _ => rfl⟩

section
variable {d y : Dev} (h : d.Counted y)
include h

theorem Dev.Counted.countLane (l i n : Nat) : d.Counted (y.countLane l i n) where
  rest := by
    obtain ⟨⟨t, rfl⟩, -⟩ := h
    exact ⟨_, rfl⟩
  lane k := by
    rw [Dev.lane_countLane]
    split
    · rename_i hk
      rw [hk, h.lane l]
    · exact h.lane k

theorem Dev.Counted.countFec (l : Nat) (w : FecSeen) : d.Counted (y.countFec l w) where
  rest := by
    obtain ⟨⟨t, rfl⟩, -⟩ := h
    exact Dev.countFec_eq { d with net := { d.net with lanes := t } } l w
  lane k := by
    by_cases hk : k = l
    · rw [hk, Dev.lane_countFec, h.lane l]
    · rw [Dev.lane_countFec_other y w hk]
      exact h.lane k

theorem Dev.Counted.boot : y.boot = d.boot := h.rest.elim fun _ ht => by rw [ht]
theorem Dev.Counted.cfg : y.cfg = d.cfg := h.rest.elim fun _ ht => by rw [ht]
theorem Dev.Counted.time : y.time = d.time := h.rest.elim fun _ ht => by rw [ht]
theorem Dev.Counted.traf : y.traf = d.traf := h.rest.elim fun _ ht => by rw [ht]

theorem Dev.Counted.laneUp (k : Nat) : y.laneUp k = d.laneUp k := by rw [Dev.laneUp, Dev.laneUp, h.lane k]

theorem Dev.Counted.laneDuty (k : Nat) : y.laneDuty k = d.laneDuty k := by
  have hrole : y.net.role = d.net.role := h.rest.elim fun _ ht => by rw [ht]
  unfold Dev.laneDuty
  rw [h.lane k, h.boot, hrole]
  rfl

/-- A lane carries what it carried. -/
theorem Dev.Counted.mayTravel (k : Nat) (f : Frame) : y.mayTravel k f = d.mayTravel k f := by
  unfold Dev.mayTravel
  rw [h.laneUp, h.laneDuty, h.lane k]
  rfl

theorem Dev.Counted.laneRate (k : Nat) : y.laneRate k = d.laneRate k := by rw [Dev.laneRate, h.cfg, h.boot, Dev.laneRate]

theorem Dev.Counted.mtu (k : Nat) : y.mtu k = d.mtu k := by rw [Dev.mtu, h.laneRate, Dev.mtu]

theorem Dev.Counted.parse (k : Nat) (bytes : List Byte) : y.parse k bytes = d.parse k bytes := by
  unfold Dev.parse
  rw [h.mtu, h.cfg]

theorem Dev.Counted.way (i : Option Nat) (b free : Bool) (dest : Nat) : y.way i b free dest = d.way i b free dest := by
  obtain ⟨t, rfl⟩ := h.rest
  rfl

theorem Dev.Counted.rxStamp (k align : Nat) : y.rxStamp k align = d.rxStamp k align := by
  obtain ⟨t, rfl⟩ := h.rest
  rfl

theorem Dev.Counted.queues (k : Nat) : (y.lane k).queues = (d.lane k).queues := by rw [h.lane k]

theorem Dev.Counted.depth (k c : Nat) : (y.lane k).depth c = (d.lane k).depth c := by
  rw [h.lane k]
  rfl

theorem Dev.Counted.hasRoom {k c : Nat} {f : Frame} (hroom : d.hasRoom k c f) : y.hasRoom k c f := by
  rw [Dev.hasRoom, h.depth, Dev.queueLimit, h.cfg]
  exact hroom

end

/-! ## FRAME_RECEIVE -/

section
variable {d : Dev} {l : Nat} {bytes : List Byte} (rx : RxInfo) (hl : (d.lane l).receives = true)

theorem frameReceive_disabled (h : (d.lane l).receives = false) : frameReceive l bytes rx d = d := if_pos h

theorem Dev.counted_countFec (d : Dev) (l : Nat) (w : FecSeen) : d.Counted (d.countFec l w) := (Dev.Counted.refl d).countFec l w

include hl

/-- A frame that a check drops, that the lane does not carry, or whose FCS fails, is counted in the counter of its fault. -/
theorem frameReceive_counted {i : Nat} (h : d.parse l bytes = .drop i
      ∨ (∃ f, d.parse l bytes = .frame f ∧ d.mayTravel l f = false ∧ i = if f.bad then 3 else 5)
      ∨ (∃ f, d.parse l bytes = .frame f ∧ d.mayTravel l f = true ∧ f.bad = true
        ∧ (d.countFec l rx.fec).cutsThrough l f = false ∧ i = 3)) :
    frameReceive l bytes rx d = (d.countFec l rx.fec).countLane l i 1 := by
  have hn := d.counted_countFec l rx.fec
  rw [frameReceive, if_neg (by simp [hl])]
  dsimp only
  rw [hn.parse]
  rcases h with h | ⟨f, h, htravel, rfl⟩ | ⟨f, h, htravel, hbad, hcut, rfl⟩
  · rw [h]
  · rw [h]
    exact if_pos (by simp [hn.mayTravel, htravel])
  · rw [h]
    exact (if_neg (by simp [hn.mayTravel, htravel])).trans (if_pos (by simp [hbad, hcut]))

theorem frameReceive_accepted {f : Frame} (h : d.parse l bytes = .frame f) (htravel : d.mayTravel l f = true)
    (hbad : f.bad = false) :
    frameReceive l bytes rx d = (d.countFec l rx.fec).accept l { f with rx := d.rxStamp l rx.align.toNat } := by
  have hn := d.counted_countFec l rx.fec
  rw [frameReceive, if_neg (by simp [hl])]
  dsimp only
  rw [hn.parse, h, hn.rxStamp]
  exact (if_neg (by simp [hn.mayTravel, htravel])).trans (if_neg (by simp [hbad]))

end

/-! ## Delivery -/

/-- A frame to this controller is delivered from any lane, one of address 0 too (R268). -/
theorem Dev.way_own {d : Dev} {dest : Nat} (i : Option Nat) (b free : Bool) (h : dest = 0 ∨ dest = d.net.address) :
    d.way i b free dest = .deliver := by
  unfold Dev.way
  dsimp only
  split
  · exact if_pos h.symm
  · rcases h with h | h
    · exact if_pos h
    · rw [if_pos h, ite_self]

theorem Dev.route_delivered {d : Dev} {i : Option Nat} {f : Frame} (yellow : Bool) (hbad : f.bad = false)
    (hway : d.way i f.planeB false f.dest = .deliver) :
    d.route i f yellow = { d with net := { d.net with delivered := d.net.delivered ++ [(i.getD 0, f)] } } := by
  rw [Dev.route, hway]
  exact if_neg (by simp [hbad])

/-! ## Ingress meters (R286 to R288) -/

section
variable {d : Dev} {f : Frame} {l : Nat}

theorem Dev.meterFrame_unmetered (h : tget false d.cfg.traf.meterOn f.cls = false) : d.meterFrame f = (.green, d) :=
  if_pos (.inr h)

/-- With fewer peak tokens than the frame's bytes its meter marks it red, brought up to the present (R286). -/
theorem Dev.meterFrame_red {m : Meter} (hc : f.cls ≠ 0) (hon : tget false d.cfg.traf.meterOn f.cls = true)
    (hm : d.traf.meters.find? (meterIs f.src f.cls) = some m)
    (hp : (m.upTo (d.profile f.cls) d.time.up).p < f.stated * meterUnit) :
    d.meterFrame f = (.red, { d with traf := { d.traf with meters := d.traf.meters.filter (fun x => !meterIs f.src f.cls x)
      ++ [m.upTo (d.profile f.cls) d.time.up] } }) := by
  have hmark : (m.upTo (d.profile f.cls) d.time.up).mark f.stated = (.red, m.upTo (d.profile f.cls) d.time.up) := if_pos hp
  rw [Dev.meterFrame]
  dsimp only
  rw [if_neg (by simp [hc, hon]), hm, if_neg (by simp)]
  exact congrArg₂ Prod.mk (congrArg Prod.fst hmark) (by rw [Option.getD_some]; exact congrArg (fun r => { d with traf := { d.traf with
    meters := d.traf.meters.filter (fun x => !meterIs f.src f.cls x) ++ [r] } }) (congrArg Prod.snd hmark))

theorem Dev.accept_classZero (hbad : f.bad = false) (hc : f.cls = 0) :
    d.accept l f = (d.countLane l 0 1).route (some l) f false := by
  rw [Dev.accept, hbad]
  exact if_pos (.inl hc)

section
variable {y : Dev} (hbad : f.bad = false) (hc : f.cls ≠ 0) (h2 : l ≠ 2) (h3 : l ≠ 3)
include hbad hc h2 h3

theorem Dev.accept_green (hmeter : (d.countLane l 0 1).meterFrame f = (.green, y)) :
    d.accept l f = (y.countMeter (8 * l + f.cls) 0).route (some l) f false := by
  rw [Dev.accept, hbad]
  dsimp only
  rw [if_neg (by simp [hc, h2, h3]), if_neg (by decide), hmeter]

theorem Dev.accept_red (hmeter : (d.countLane l 0 1).meterFrame f = (.red, y)) :
    d.accept l f = y.countMeter (8 * l + f.cls) 2 := by
  rw [Dev.accept, hbad]
  dsimp only
  rw [if_neg (by simp [hc, h2, h3]), if_neg (by decide), hmeter]

end
/-- With its class's meter off a frame to this controller is counted green and delivered (R286). -/
theorem frameReceive_green {bytes : List Byte} (rx : RxInfo) (hl : (d.lane l).receives = true) (h2 : l ≠ 2) (h3 : l ≠ 3)
    (hparse : d.parse l bytes = .frame f) (hbad : f.bad = false) (htravel : d.mayTravel l f = true) (hc : f.cls ≠ 0)
    (hdest : f.dest = d.net.address) (hoff : tget false d.cfg.traf.meterOn f.cls = false) :
    ∃ t, frameReceive l bytes rx d = Dev.countMeter { d with net := { d.net with
      lanes := t, delivered := d.net.delivered ++ [(l, { f with rx := d.rxStamp l rx.align.toNat })] } } (8 * l + f.cls) 0 := by
  have hn := (d.counted_countFec l rx.fec).countLane l 0 1
  have hmeter : ((d.countFec l rx.fec).countLane l 0 1).meterFrame { f with rx := d.rxStamp l rx.align.toNat } = (.green, _) :=
    Dev.meterFrame_unmetered (by rw [hn.cfg]; exact hoff)
  obtain ⟨t, ht⟩ := hn.rest
  rw [frameReceive_accepted rx hl hparse htravel hbad, Dev.accept_green (f := { f with rx := d.rxStamp l rx.align.toNat }) hbad hc h2 h3
    hmeter, ht]
  exact ⟨t, Dev.route_delivered false hbad (Dev.way_own _ _ _ (.inr hdest))⟩

/-- With fewer peak tokens in its meter than its bytes a frame is counted red and goes no further (R286). -/
theorem frameReceive_red {bytes : List Byte} (rx : RxInfo) (hl : (d.lane l).receives = true) (h2 : l ≠ 2) (h3 : l ≠ 3)
    (hparse : d.parse l bytes = .frame f) (hbad : f.bad = false) (htravel : d.mayTravel l f = true) (hc : f.cls ≠ 0)
    {m : Meter} (hon : tget false d.cfg.traf.meterOn f.cls = true) (hm : d.traf.meters.find? (meterIs f.src f.cls) = some m)
    (hp : (m.upTo (d.profile f.cls) d.time.up).p < f.stated * meterUnit) :
    ∃ y ms, d.Counted y ∧ frameReceive l bytes rx d
      = Dev.countMeter { y with traf := { d.traf with meters := ms } } (8 * l + f.cls) 2 := by
  have hn := (d.counted_countFec l rx.fec).countLane l 0 1
  have hmeter := Dev.meterFrame_red (d := (d.countFec l rx.fec).countLane l 0 1)
    (f := { f with rx := d.rxStamp l rx.align.toNat }) (m := m) hc (by rw [hn.cfg]; exact hon) (by rw [hn.traf]; exact hm)
    (by rw [Dev.profile, hn.cfg, hn.time]; exact hp)
  rw [hn.traf] at hmeter
  exact ⟨_, _, hn, (frameReceive_accepted rx hl hparse htravel hbad).trans (Dev.accept_red hbad hc h2 h3 hmeter)⟩

end

theorem meterInstanceFree_none {src cls : Nat} {d : Dev} (h : d.traf.meters.find? (meterIs src cls) = none) :
    meterInstanceFree src cls d = d := by
  rw [meterInstanceFree, h]

theorem meterInstanceFree_some {src cls : Nat} {d : Dev} {m : Meter} (h : d.traf.meters.find? (meterIs src cls) = some m) :
    meterInstanceFree src cls d = if 1000000000 + m.fullAt (d.profile cls) ≤ d.time.up then
      { d with traf := { d.traf with meters := d.traf.meters.filter (fun y => !meterIs src cls y) } } else d := by
  rw [meterInstanceFree, h]
  rfl

/-! ## METER_PROFILE (R289) -/

section
variable {c cir cbs pir pbs : Nat} {d : Dev}

theorem meterProfileWrite_noClass (h : c = 0 ∨ 7 < c) : meterProfileWrite c cir cbs pir pbs d = (.noent, d) := if_pos h

section
variable (h1 : 1 ≤ c) (h7 : c ≤ 7)
include h1 h7

theorem meterProfileWrite_invalid (h : pir < cir ∨ cir < 1000 ∨ 25000000 < cir ∨ pir < 1000 ∨ 25000000 < pir
    ∨ cbs < 64 ∨ 1048576 < cbs ∨ pbs < 64 ∨ 1048576 < pbs) : meterProfileWrite c cir cbs pir pbs d = (.invalid, d) := by
  rw [meterProfileWrite, if_neg (by omega), if_pos h]

theorem meterProfileWrite_ok (hrate : cir ≤ pir) (hcir : 1000 ≤ cir) (hpir : pir ≤ 25000000) (hcbs : 64 ≤ cbs ∧ cbs ≤ 1048576)
    (hpbs : 64 ≤ pbs ∧ pbs ≤ 1048576) : meterProfileWrite c cir cbs pir pbs d = (.ok, { d with
      traf := { d.traf with
        meters := d.traf.meters.map (refitMeter (d.profile c) ⟨cir, cbs, pir, pbs⟩ c d.time.up)
        shared := d.traf.shared.map (refitMeter (d.profile c) ⟨cir, cbs, pir, pbs⟩ c d.time.up) }
      cfg := { d.cfg with traf := { d.cfg.traf with profile := tset {} d.cfg.traf.profile c ⟨cir, cbs, pir, pbs⟩ } } }) := by
  rw [meterProfileWrite, if_neg (by omega), if_neg (by omega)]
  rfl

end
end

theorem refitMeter_other {old new : MeterProfile} {c now : Nat} {m : Meter} (h : m.cls ≠ c) : refitMeter old new c now m = m :=
  if_neg h

/-- Whose meter it is stays. (m is taken apart first: the kernel would otherwise compare the contents too.) -/
theorem refitMeter_holder (old new : MeterProfile) (c now : Nat) (m : Meter) :
    (refitMeter old new c now m).src = m.src ∧ (refitMeter old new c now m).cls = m.cls := by
  obtain ⟨src, cls, c', p, at_, full⟩ := m
  show _ = src ∧ _ = cls
  unfold refitMeter
  split
  · exact ⟨rfl, rfl⟩
  · exact ⟨rfl, rfl⟩

theorem refitMeter_class {old new : MeterProfile} {c now : Nat} {m : Meter} (h : m.cls = c) :
    (refitMeter old new c now m).at_ = now
      ∧ (refitMeter old new c now m).c = min (min (old.cbs * meterUnit) (m.c + old.cir * (now - m.at_))) (new.cbs * meterUnit)
      ∧ (refitMeter old new c now m).p = min (min (old.pbs * meterUnit) (m.p + old.pir * (now - m.at_))) (new.pbs * meterUnit) := by
  rw [refitMeter, if_pos h]
  exact ⟨rfl, rfl, rfl⟩

/-- A meter counts as full under the new profile only with both contents at the new sizes. -/
theorem refitMeter_full {old new : MeterProfile} {c now : Nat} {m : Meter} (h : m.cls = c)
    (hfull : (refitMeter old new c now m).full ≠ none) :
    (refitMeter old new c now m).c = new.cbs * meterUnit ∧ (refitMeter old new c now m).p = new.pbs * meterUnit := by
  rw [refitMeter, if_pos h] at hfull ⊢
  dsimp only at hfull ⊢
  split at hfull
  · exact absurd rfl hfull
  · rename_i hsizes
    simp only [Bool.not_eq_eq_eq_not, Bool.not_true, Bool.not_eq_false, Bool.and_eq_true, decide_eq_true_eq] at hsizes
    exact ⟨min_eq_right hsizes.1, min_eq_right hsizes.2⟩

/-- Settles O37, by what the new profile makes of each meter of the class. -/
theorem meterProfileWriteHolds : Obligations.MeterProfileWrite := by
  intro cls cir cbs pir pbs s h1 h7
  refine ⟨fun h => answers_of_ask (meterProfileWrite _ _ _ _ _) rfl (meterProfileWrite_invalid h1 h7 h),
    fun hrate hcir hpir hcbs hcbs' hpbs hpbs' => ?_⟩
  refine ⟨_, answers_of_ask (meterProfileWrite _ _ _ _ _) rfl
    (meterProfileWrite_ok h1 h7 hrate hcir hpir ⟨hcbs, hcbs'⟩ ⟨hpbs, hpbs'⟩), tget_tset_same .., ⟨_, rfl, rfl,
    fun m h => refitMeter_other h, fun m h => ?_⟩, rfl⟩
  obtain ⟨hsrc, hcls⟩ := refitMeter_holder (s.dev.profile cls.toNat) ⟨cir.toNat, cbs.toNat, pir.toNat, pbs.toNat⟩ cls.toNat
    s.dev.time.up m
  obtain ⟨hat, hc, hp⟩ := refitMeter_class (old := s.dev.profile cls.toNat)
    (new := ⟨cir.toNat, cbs.toNat, pir.toNat, pbs.toNat⟩) (now := s.dev.time.up) h
  exact ⟨hsrc, hcls, hat, hc, hp, refitMeter_full h⟩

/-! ## Shapers (R283 to R285) -/

section
variable {x v : Nat} {d : Dev}

theorem shaperRateWrite_noQueue (h : 767 < x) : shaperRateWrite x v d = (.noent, d) := if_pos h
theorem shaperBurstWrite_noQueue (h : 767 < x) : shaperBurstWrite x v d = (.noent, d) := if_pos h

section
variable (hx : x ≤ 767)
include hx

theorem shaperRateWrite_invalid (h : x % 8 = 0 ∨ v < 1000 ∨ 25000000 < v) : shaperRateWrite x v d = (.invalid, d) := by
  rw [shaperRateWrite, if_neg (by omega), if_pos h]

theorem shaperBurstWrite_invalid (h : x % 8 = 0 ∨ v < 2068 ∨ 1048576 < v) : shaperBurstWrite x v d = (.invalid, d) := by
  rw [shaperBurstWrite, if_neg (by omega), if_pos h]

theorem shaperRateWrite_ok (hc : x % 8 ≠ 0) (hlow : 1000 ≤ v) (hhigh : v ≤ 25000000) : shaperRateWrite x v d
    = (.ok, (d.setBucket x (d.bucketNow x)).setTraf (fun t => { t with shaperRate := tset 1000000 t.shaperRate x v })) := by
  rw [shaperRateWrite, if_neg (by omega), if_neg (by omega)]

theorem shaperBurstWrite_ok (hc : x % 8 ≠ 0) (hlow : 2068 ≤ v) (hhigh : v ≤ 1048576) : shaperBurstWrite x v d
    = (.ok, (d.setBucket x (min (d.bucketNow x) ((v * bucketUnit : Nat) : Int))).setTraf
      (fun t => { t with shaperBurst := tset 4136 t.shaperBurst x v })) := by
  rw [shaperBurstWrite, if_neg (by omega), if_neg (by omega)]

end
end

/-- A bucket just brought up holds what was put in it, at most the burst, whatever settings are written with it. -/
theorem Dev.bucketNow_setBucket (d : Dev) (x : Nat) (b : Int) (f : TrafficCfg → TrafficCfg) :
    ((d.setBucket x b).setTraf f).bucketNow x
      = min ((((d.setBucket x b).setTraf f).shaperBurst x * bucketUnit : Nat) : Int) b := by
  have hfind : tfind ((d.setBucket x b).setTraf f).traf.bucket x = some (b, d.time.up) := by
    rw [show ((d.setBucket x b).setTraf f).traf.bucket = tins d.traf.bucket x (b, d.time.up) from rfl, tfind_tins, if_pos rfl]
  rw [Dev.bucketNow, hfind]
  have hnow : ((d.setBucket x b).setTraf f).mono = d.time.up := rfl
  simp only [hnow, Nat.sub_self, Nat.mul_zero, Nat.cast_zero, add_zero, Nat.cast_mul]

/-- Settles O36, by one equation of each command's meaning per case. -/
theorem shapersAndMeters : Obligations.ShapersAndMeters := by
  intro x v src cls w l bytes rx s
  refine ⟨fun h => ⟨answers_of_ask (shaperRateWrite _ _) rfl (shaperRateWrite_noQueue h),
      answers_of_ask (shaperBurstWrite _ _) rfl (shaperBurstWrite_noQueue h)⟩,
    fun hx => ⟨fun h => answers_of_ask (shaperRateWrite _ _) rfl (shaperRateWrite_invalid hx h),
      fun h => answers_of_ask (shaperBurstWrite _ _) rfl (shaperBurstWrite_invalid hx h), fun hc hlow hhigh => ?rate,
      fun hc hlow hhigh => ?burst⟩,
    fun h cir cbs pir pbs => answers_of_ask (meterProfileWrite _ _ _ _ _) rfl (meterProfileWrite_noClass h),
    fun f hl h2 h3 hparse hbad htravel hc hdest => ⟨fun hoff => ?green, fun m hon hm hp => ?red⟩,
    fun m full hm hfull => ?instance_,
    fun h => gives_of_upd (meterInstanceFree _ _) rfl (meterInstanceFree_none h),
    fun hw => answers_of_ask (histClear _) rfl (if_pos fun h => hw (BitVec.eq_of_toNat_eq h)),
    answers_of_ask (histClear 1) rfl rfl⟩
  case rate =>
    exact ⟨_, answers_of_ask (shaperRateWrite _ _) rfl (shaperRateWrite_ok hx hc hlow hhigh), Dev.bucketNow_setBucket ..,
      tget_tset_same .., rfl, rfl⟩
  case burst =>
    have hburst : ((s.dev.setBucket x.toNat (min (s.dev.bucketNow x.toNat) ((v.toNat * bucketUnit : Nat) : Int))).setTraf
        (fun t => { t with shaperBurst := tset 4136 t.shaperBurst x.toNat v.toNat })).shaperBurst x.toNat = v.toNat :=
      tget_tset_same ..
    refine ⟨_, answers_of_ask (shaperBurstWrite _ _) rfl (shaperBurstWrite_ok hx hc hlow hhigh), ?_, hburst, rfl, rfl⟩
    rw [Dev.bucketNow_setBucket, hburst, min_comm (s.dev.bucketNow _), ← min_assoc, min_self]
  case green =>
    obtain ⟨t, h⟩ := frameReceive_green rx hl h2 h3 hparse hbad htravel hc hdest hoff
    exact ⟨_, gives_of_upd (frameReceive l bytes rx) rfl h, tget_tset_same .., rfl, rfl⟩
  case red =>
    obtain ⟨y, ms, hy, h⟩ := frameReceive_red rx hl h2 h3 hparse hbad htravel hc hon hm hp
    obtain ⟨t, rfl⟩ := hy.rest
    exact ⟨_, gives_of_upd (frameReceive l bytes rx) rfl h, tget_tset_same .., hy.queues, rfl⟩
  case instance_ =>
    have hfree := meterInstanceFree_some hm
    rw [Meter.fullAt, ← hfull] at hfree
    exact ⟨fun h => gives_of_upd (meterInstanceFree _ _) rfl (hfree.trans (if_pos h)),
      fun h => gives_of_upd (meterInstanceFree _ _) rfl (hfree.trans (if_neg (not_le.2 h)))⟩

end Sys2Proof.Machine
end

section
/-! Frames received, forwarded and started, and the commands that stop and start a lane (R257 to R261, R268, R274, R276, R280 to
R284). -/

namespace Sys2Proof.Machine

/-! ## Fields of a header -/

theorem splice_length {α : Type} {l v : List α} {off : Nat} (h : off + v.length ≤ l.length) :
    (splice l off v).length = l.length := by
  simp only [splice, List.length_append, List.length_take, List.length_drop]
  omega

/-- What is put in is read back. -/
theorem field_splice_same {l v : List Byte} {off : Nat} (h : off ≤ l.length) : field (splice l off v) off v.length = ofBe v := by
  have htake : (l.take off).length = off := by rw [List.length_take, min_eq_left h]
  rw [field, splice, List.append_assoc, List.drop_append_of_le_length (le_of_eq htake.symm), List.drop_of_length_le (le_of_eq htake),
    List.nil_append, List.take_left' rfl]

/-- A field below what is put in stays. -/
theorem field_splice_below {l v : List Byte} {off k n : Nat} (hk : k ≤ l.length) (h : off + n ≤ k) :
    field (splice l k v) off n = field l off n := by
  have htake : (l.take k).length = k := by rw [List.length_take, min_eq_left hk]
  rw [field, splice, List.append_assoc, List.drop_append_of_le_length (by omega),
    List.take_append_of_le_length (by rw [List.length_drop]; omega), List.drop_take, List.take_take, min_eq_left (by omega), field]

theorem Frame.cls_fixHcrc {f : Frame} (h : 16 ≤ f.hdr.length) : Frame.cls { f with hdr := fixHcrc f.hdr } = f.cls := by
  rw [Frame.cls, fixHcrc, field_splice_below h (by decide), Frame.cls]

/-- A frame that is forwarded keeps its class (R258, R268). -/
theorem Frame.cls_hop {f : Frame} (h : f.hdr.length = 20) : f.hop.cls = f.cls := by
  have hlen : (splice f.hdr 6 (be 1 (putBits (field f.hdr 6 1) 2 6 (f.hops + 1)))).length = 20 := by
    rw [splice_length (by rw [be_length]; omega), h]
  rw [Frame.hop, Frame.cls_fixHcrc (f := { f with hdr := splice f.hdr 6 _ }) (by rw [hlen]; decide), Frame.cls,
    field_splice_below (by omega) (by decide), Frame.cls]

/-- A frame that passes the receiver's checks has the 20 bytes of its header (R257). -/
theorem Dev.parse_frame_hdr {d : Dev} {l : Nat} {bytes : List Byte} {f : Frame} (h : d.parse l bytes = .frame f) :
    f.hdr.length = 20 := by
  unfold Dev.parse at h
  dsimp only at h
  split at h
  · contradiction
  · rename_i hn
    have hf : ∀ g, Heard.frame g = .frame f → g.hdr.length = 20 → f.hdr.length = 20 := by
      rintro g ⟨⟩ hg
      exact hg
    have hlen : ((bytes.drop 14).take 20).length = 20 := by
      rw [List.length_take, List.length_drop]
      omega
    split at h
    · contradiction
    · split at h
      · contradiction
      · split at h
        · contradiction
        · split at h
          · contradiction
          · split at h
            · contradiction
            · exact hf _ h hlen

/-- TIMESTAMP of a time frame is the time at which it leaves (R297). -/
theorem Dev.timestamp_stamp {d : Dev} {l : Nat} {f : Frame} (hlen : f.hdr.length = 20) (htyp : f.typ = 3 ∨ f.typ = 4 ∨ f.typ = 5) :
    (d.stamp l f).timestamp = d.leavesAt l % 2 ^ 32 := by
  have hfield := field_splice_same (l := f.hdr) (v := be 4 (d.leavesAt l % 2 ^ 32)) (off := 12) (by omega)
  rw [be_length, ofBe_be] at hfield
  rw [Dev.stamp, if_pos htyp, Frame.timestamp, hfield]
  exact Nat.mod_mod _ _

/-! ## Forwarding -/

section
variable {d : Dev} {l k : Nat} {f : Frame}

theorem Dev.sendOn_forwards (hlen : f.hdr.length = 20) (hbad : f.bad = false) (htravel : d.mayTravel k f = true)
    (hsize : f.size ≤ d.mtu k) (hhops : f.hops < 63) (hroom : d.hasRoom k f.cls f) :
    d.sendOn (some l) k f false = d.enqueue k f.hop (d.atOnce k f.hop) := by
  rw [Dev.sendOn, if_neg (by simp [htravel]), if_neg (not_lt.2 hsize)]
  change d.forward l k f false = _
  rw [Dev.forward, if_neg (by omega)]
  refine (if_neg (by simp [hbad])).trans (Dev.letIn_of_hasRoom _ ?_)
  rw [Frame.cls_hop hlen]
  exact hroom

theorem Dev.route_out {i : Option Nat} {yellow : Bool} (hway : d.way i f.planeB false f.dest = .out k) (hup : d.laneUp k = true) :
    d.route i f yellow = d.sendOn i k f yellow := by
  rw [Dev.route, hway]
  exact if_pos hup

end

theorem Dev.counter_enqueue (d : Dev) (k : Nat) (f : Frame) (cut : Bool) (l i : Nat) :
    tget 0 ((d.enqueue k f cut).lane l).counters i = tget 0 (d.lane l).counters i := by
  rw [Dev.enqueue, Dev.lane_setLane]
  split
  · rename_i h
    rw [h]
  · rfl

theorem Dev.queue_enqueue (d : Dev) (k : Nat) (f : Frame) (cut : Bool) :
    tget [] ((d.enqueue k f cut).lane k).queues f.cls = tget [] (d.lane k).queues f.cls ++ [{ frame := f, at_ := d.time.up, cut := cut }] := by
  rw [Dev.enqueue, Dev.lane_setLane, if_pos rfl]
  exact tget_tset_same ..

section
variable {d : Dev} {l : Nat} {bytes : List Byte} {f : Frame} (rx : RxInfo) (hl : (d.lane l).receives = true)
  (hparse : d.parse l bytes = .frame f) (htravel : d.mayTravel l f = true) (hc : f.cls = 0) (hbad : f.bad = false)
include hl hparse htravel hc hbad

theorem frameReceive_delivered (hdest : f.dest = 0 ∨ f.dest = d.net.address) :
    ∃ y, d.Counted y ∧ tget 0 (y.lane l).counters 0 = tget 0 (d.lane l).counters 0 + 1
      ∧ frameReceive l bytes rx d = { y with net := { y.net with
        delivered := d.net.delivered ++ [(l, { f with rx := d.rxStamp l rx.align.toNat })] } } := by
  have hn := (d.counted_countFec l rx.fec).countLane l 0 1
  refine ⟨_, hn, ?_, ?_⟩
  · rw [Dev.counter_countLane, Dev.lane_countFec]
    rfl
  · rw [frameReceive_accepted rx hl hparse htravel hbad,
      Dev.accept_classZero (f := { f with rx := d.rxStamp l rx.align.toNat }) hbad hc]
    obtain ⟨t, ht⟩ := hn.rest
    rw [ht]
    exact Dev.route_delivered false hbad (Dev.way_own _ _ _ hdest)

/-- A class 0 frame for another lane that has room is queued there last, with HOPS one higher (R259, R268). -/
theorem frameReceive_forwarded {k : Nat} (hway : d.way (some l) f.planeB false f.dest = .out k) (hup : d.laneUp k = true)
    (hk : d.mayTravel k f = true) (hsize : f.size ≤ d.mtu k) (hhops : f.hops < 63) (hroom : d.hasRoom k 0 f) :
    ∃ y cut, d.Counted y ∧ tget 0 (y.lane l).counters 0 = tget 0 (d.lane l).counters 0 + 1
      ∧ frameReceive l bytes rx d = y.enqueue k (Frame.hop { f with rx := d.rxStamp l rx.align.toNat }) cut := by
  have hn := (d.counted_countFec l rx.fec).countLane l 0 1
  have hsend := Dev.sendOn_forwards (d := (d.countFec l rx.fec).countLane l 0 1) (l := l) (k := k)
    (f := { f with rx := d.rxStamp l rx.align.toNat }) (Dev.parse_frame_hdr hparse : f.hdr.length = 20) hbad (by rw [hn.mayTravel]; exact hk)
    (by rw [hn.mtu]; exact hsize) hhops (hn.hasRoom (c := f.cls) (by rw [hc]; exact hroom))
  refine ⟨_, _, hn, ?_, Eq.trans ?_ hsend⟩
  · rw [Dev.counter_countLane, Dev.lane_countFec]
    rfl
  · rw [frameReceive_accepted rx hl hparse htravel hbad,
      Dev.accept_classZero (f := { f with rx := d.rxStamp l rx.align.toNat }) hbad hc]
    exact Dev.route_out (by rw [hn.way]; exact hway) (by rw [hn.laneUp]; exact hup)

end

/-! ## SCHEDULER_SELECT -/

/-- The frame in transmission on a lane has ended. -/
def Dev.endFrame (d : Dev) (l : Nat) : Dev := d.setLane l { d.lane l with sending := none, cut := false }

theorem Dev.lane_endFrame (d : Dev) (l : Nat) : (d.endFrame l).lane l = { d.lane l with sending := none, cut := false } := by
  rw [Dev.endFrame, Dev.lane_setLane, if_pos rfl]

theorem Lane.state_ne_of_receives {x : Lane} (h : x.receives = true) :
    x.state ≠ .disabled ∧ x.state ≠ .stopping ∧ x.state ≠ .restartPending := by
  rcases (Lane.receives_iff x).1 h with hs | hs | hs <;> simp [hs]

section
variable {d : Dev} {l : Nat} {x : Lane} (hl : (d.lane l).receives = true)
include hl

theorem schedulerSelect_none (h : (d.endFrame l).select l = (none, x)) : schedulerSelect l d = (d.endFrame l).setLane l x := by
  have h' : (d.setLane l { d.lane l with sending := none, cut := false }).select l = (none, x) := h
  unfold schedulerSelect
  dsimp only
  rw [h']
  obtain ⟨hdisabled, hstopping, hpending⟩ := Lane.state_ne_of_receives hl
  split
  · exact absurd ‹_› hdisabled
  · exact absurd ‹_› hstopping
  · exact absurd ‹_› hpending
  · rfl
  · rfl
  · rfl

theorem schedulerSelect_some {c : Nat} (h : (d.endFrame l).select l = (some c, x)) :
    schedulerSelect l d = (d.endFrame l).start l c x := by
  have h' : (d.setLane l { d.lane l with sending := none, cut := false }).select l = (some c, x) := h
  unfold schedulerSelect
  dsimp only
  rw [h']
  obtain ⟨hdisabled, hstopping, hpending⟩ := Lane.state_ne_of_receives hl
  split
  · exact absurd ‹_› hdisabled
  · exact absurd ‹_› hstopping
  · exact absurd ‹_› hpending
  · rfl
  · rfl
  · rfl

end

/-- A class that has its turn afresh has its quantum (R281). -/
def Dev.freshTurn (d : Dev) (l : Nat) (x : Lane) : Lane :=
  if tget false x.fresh x.ptr then
    { x with deficit := tset 0 x.deficit x.ptr (tget 0 x.deficit x.ptr + d.quantum (8 * l + x.ptr)), fresh := tset false x.fresh x.ptr false }
  else x

theorem Dev.freshTurn_kept (d : Dev) (l : Nat) (x : Lane) :
    (d.freshTurn l x).queues = x.queues ∧ (d.freshTurn l x).sending = x.sending := by
  unfold Dev.freshTurn
  split
  · exact ⟨rfl, rfl⟩
  · exact ⟨rfl, rfl⟩

section
variable {d : Dev} {l n : Nat} {x : Lane} {q : QFrame} {r : List QFrame}

theorem Dev.selectFrom_empty (h : tget [] x.queues x.ptr = []) :
    d.selectFrom l (n + 1) x = d.selectFrom l n { x with deficit := tset 0 x.deficit x.ptr 0 }.advance := by
  rw [Dev.selectFrom, h]

theorem Dev.selectFrom_blocked (h : tget [] x.queues x.ptr = q :: r) (hb : d.blocked l x.ptr q.frame = true) :
    d.selectFrom l (n + 1) x = d.selectFrom l n x.advance := by
  rw [Dev.selectFrom, h]
  exact if_pos hb

theorem Dev.selectFrom_turn (h : tget [] x.queues x.ptr = q :: r) (hb : d.blocked l x.ptr q.frame = false) :
    d.selectFrom l (n + 1) x = if q.frame.wire ≤ tget 0 (d.freshTurn l x).deficit x.ptr then
      (some x.ptr, { d.freshTurn l x with
        deficit := tset 0 (d.freshTurn l x).deficit x.ptr (tget 0 (d.freshTurn l x).deficit x.ptr - q.frame.wire) })
      else d.selectFrom l n (d.freshTurn l x).advance := by
  rw [Dev.selectFrom, h]
  exact if_neg (by simp [hb])

end

/-- The deficit round robin takes a frame that heads its queue and is not blocked; turns and deficits alone change. -/
theorem Dev.selectFrom_cases (d : Dev) (l n : Nat) (x : Lane) :
    (d.selectFrom l n x).2.queues = x.queues ∧ (d.selectFrom l n x).2.sending = x.sending
      ∧ ∀ c, (d.selectFrom l n x).1 = some c → ∃ q r, tget [] x.queues c = q :: r ∧ d.blocked l c q.frame = false := by
  induction n generalizing x with
  | zero => exact ⟨rfl, rfl, fun c hc => nomatch hc⟩
  | succ n ih =>
    cases hq : tget [] x.queues x.ptr with
    | nil =>
      rw [Dev.selectFrom_empty hq]
      exact ih _
    | cons q r =>
      cases hb : d.blocked l x.ptr q.frame with
      | true =>
        rw [Dev.selectFrom_blocked hq hb]
        exact ih _
      | false =>
        obtain ⟨hqueues, hsending⟩ := d.freshTurn_kept l x
        rw [Dev.selectFrom_turn hq hb]
        split
        · exact ⟨hqueues, hsending, fun c hc => Option.some.inj hc ▸ ⟨q, r, hq, hb⟩⟩
        · obtain ⟨hq', hs', hc⟩ := ih (d.freshTurn l x).advance
          exact ⟨hq'.trans hqueues, hs'.trans hsending, hqueues ▸ hc⟩

theorem Dev.select_classZero {d : Dev} {l : Nat} (h : tget [] (d.lane l).queues 0 ≠ []) : d.select l = (some 0, d.lane l) := if_pos h

theorem Dev.select_others {d : Dev} {l : Nat} (h : tget [] (d.lane l).queues 0 = []) : d.select l = d.selectFrom l 8 (d.lane l) :=
  if_neg (not_not.2 h)

theorem Dev.noteDelayReq_eq (d : Dev) (l : Nat) (f : Frame) : d.noteDelayReq l f = { d with time := (d.noteDelayReq l f).time } := by
  unfold Dev.noteDelayReq
  split
  · split <;> rfl
  · rfl

/-- The note of a DELAY_REQ shows the clock, the address and what latency shows. -/
theorem Dev.noteDelayReq_time_lanes (d : Dev) (l : Nat) (f : Frame) (t : Tab Lane) (q : Tab (BitVec 64)) :
    (Dev.noteDelayReq { d with net := { d.net with lanes := t }, traf := { d.traf with queueCount := q } } l f).time
      = (d.noteDelayReq l f).time := by
  unfold Dev.noteDelayReq
  dsimp only
  split
  · split <;> rfl
  · rfl

/-- Lane x with the head q of a class's queue started; r waits behind it. -/
def Lane.started (x : Lane) (c : Nat) (f : Frame) (cut : Bool) (r : List QFrame) : Lane := { x with
  queues := tset [] x.queues c r, sending := some f, cut := cut
  counters := tset 0 x.counters 1 (tget 0 x.counters 1 + 1) }

theorem Dev.start_cons {d : Dev} {l c : Nat} {x : Lane} {q : QFrame} {r : List QFrame} (h : tget [] x.queues c = q :: r) :
    d.start l c x = (fun y : Dev => if c = 0 ∨ y.shaperOn (8 * l + c) = false then y
        else y.setBucket (8 * l + c) (y.bucketNow (8 * l + c) - (q.frame.wire * bucketUnit : Nat)))
      ((((d.setLane l { x with queues := tset [] x.queues c r, sending := some (d.stamp l q.frame), cut := q.cut }).countLane l 1
        1).countQueue (8 * l + c) 0 1).countQueue (8 * l + c) 1 q.frame.size |>.noteDelayReq l q.frame) := by
  rw [Dev.start, h]

theorem Dev.lane_noteDelayReq (d : Dev) (l : Nat) (f : Frame) (k : Nat) : (d.noteDelayReq l f).lane k = d.lane k := by
  rw [Dev.noteDelayReq_eq]
  rfl

theorem Dev.lane_start {d : Dev} {l c : Nat} {x : Lane} {q : QFrame} {r : List QFrame} (h : tget [] x.queues c = q :: r) :
    (d.start l c x).lane l = x.started c (d.stamp l q.frame) q.cut r := by
  have hbucket : ∀ (b : Prop) [Decidable b] (y : Dev) (v : Int), (if b then y else y.setBucket (8 * l + c) v).lane l = y.lane l := by
    intro b _ y v
    split <;> rfl
  rw [Dev.start_cons h]
  dsimp only
  rw [hbucket, Dev.lane_noteDelayReq]
  change (Dev.countLane _ l 1 1).lane l = _
  rw [Dev.lane_countLane_same, Dev.lane_setLane, if_pos rfl]
  rfl

theorem Dev.queueCount_countQueue (d : Dev) (x i n j : Nat) : tget 0 (d.countQueue x i n).traf.queueCount j
    = if j = 4 * x + i then tget 0 d.traf.queueCount j + BitVec.ofNat 64 n else tget 0 d.traf.queueCount j := by
  refine (tget_tset ..).trans ?_
  split
  · rename_i h
    rw [h]
  · rfl

/-- The counts of a class 0 frame that starts (R276, R291). -/
theorem Dev.startCounts_classZero (d : Dev) (l n : Nat) (x : Lane) : ∃ t counts,
    (((d.setLane l x).countLane l 1 1).countQueue (8 * l) 0 1).countQueue (8 * l) 1 n
        = { d with net := { d.net with lanes := t }, traf := { d.traf with queueCount := counts } }
      ∧ tget 0 counts (32 * l) = tget 0 d.traf.queueCount (32 * l) + 1
      ∧ tget 0 counts (32 * l + 1) = tget 0 d.traf.queueCount (32 * l + 1) + BitVec.ofNat 64 n := by
  obtain ⟨t, ht⟩ : ∃ t, (d.setLane l x).countLane l 1 1 = { d with net := { d.net with lanes := t } } := ⟨_, rfl⟩
  rw [ht]
  generalize hy : Dev.countQueue _ (8 * l) 1 n = y
  have hrest : y = { d with net := { d.net with lanes := t }, traf := { d.traf with queueCount := y.traf.queueCount } } := by
    rw [← hy]
    rfl
  refine ⟨t, y.traf.queueCount, hrest, ?_, ?_⟩
  · rw [← hy, Dev.queueCount_countQueue, if_neg (by omega), Dev.queueCount_countQueue, if_pos (by omega)]
    rfl
  · rw [← hy, Dev.queueCount_countQueue, if_pos (by omega), Dev.queueCount_countQueue, if_neg (by omega)]

/-- A class 0 frame that starts: its lane, its queue's counts and the note of a DELAY_REQ alone change. -/
theorem Dev.start_classZero {d : Dev} {l : Nat} {x : Lane} {q : QFrame} {r : List QFrame} (h : tget [] x.queues 0 = q :: r) :
    ∃ t counts, d.start l 0 x = { d with
        net := { d.net with lanes := t }, traf := { d.traf with queueCount := counts }, time := (d.noteDelayReq l q.frame).time }
      ∧ tget 0 counts (32 * l) = tget 0 d.traf.queueCount (32 * l) + 1
      ∧ tget 0 counts (32 * l + 1) = tget 0 d.traf.queueCount (32 * l + 1) + BitVec.ofNat 64 q.frame.size := by
  obtain ⟨t, counts, hcounts, hframes, hbytes⟩ := d.startCounts_classZero l q.frame.size
    { x with queues := tset [] x.queues 0 r, sending := some (d.stamp l q.frame), cut := q.cut }
  refine ⟨t, counts, ?_, hframes, hbytes⟩
  rw [Dev.start_cons h]
  dsimp only
  rw [if_pos (.inl rfl), Nat.add_zero, hcounts, Dev.noteDelayReq_eq, Dev.noteDelayReq_time_lanes]

section
variable {d : Dev} {l : Nat} (hl : (d.lane l).receives = true)
include hl

/-- With a class 0 frame waiting the oldest starts (R280). -/
theorem schedulerSelect_classZero {q : QFrame} {r : List QFrame} (h : tget [] (d.lane l).queues 0 = q :: r) :
    schedulerSelect l d = (d.endFrame l).start l 0 ((d.endFrame l).lane l) := by
  have hq : tget [] ((d.endFrame l).lane l).queues 0 = q :: r := by rw [Dev.lane_endFrame]; exact h
  exact schedulerSelect_some hl (Dev.select_classZero (by rw [hq]; exact List.cons_ne_nil q r))

/-- No frame starts, or the oldest of a class; of a class above 0 only with class 0 empty and the head not blocked (R280, R282,
R284). -/
theorem schedulerSelect_cases : ((schedulerSelect l d).lane l).sending = none
    ∨ ∃ c q r, tget [] (d.lane l).queues c = q :: r ∧ ((schedulerSelect l d).lane l).sending = some (d.stamp l q.frame)
      ∧ tget [] ((schedulerSelect l d).lane l).queues c = r
      ∧ (c ≠ 0 → tget [] (d.lane l).queues 0 = [] ∧ d.blocked l c q.frame = false) := by
  cases h0 : tget [] (d.lane l).queues 0 with
  | cons q r =>
    have hq : tget [] ((d.endFrame l).lane l).queues 0 = q :: r := by rw [Dev.lane_endFrame]; exact h0
    refine .inr ⟨0, q, r, h0, ?_, ?_, fun h => absurd rfl h⟩
    · rw [schedulerSelect_classZero hl h0, Dev.lane_start hq]
      rfl
    · rw [schedulerSelect_classZero hl h0, Dev.lane_start hq]
      exact tget_tset_same ..
  | nil =>
    have hq : tget [] ((d.endFrame l).lane l).queues 0 = [] := by rw [Dev.lane_endFrame]; exact h0
    obtain ⟨hqueues, hsending, hchoice⟩ := (d.endFrame l).selectFrom_cases l 8 ((d.endFrame l).lane l)
    rw [← Dev.select_others hq, Dev.lane_endFrame] at hqueues hsending hchoice
    cases hs : (d.endFrame l).select l with
    | mk choice x =>
      rw [hs] at hqueues hsending hchoice
      cases choice with
      | none =>
        left
        rw [schedulerSelect_none hl hs, Dev.lane_setLane, if_pos rfl]
        exact hsending
      | some c =>
        obtain ⟨q, r, hqr, hblocked⟩ := hchoice c rfl
        have hx : tget [] x.queues c = q :: r := by rw [hqueues]; exact hqr
        refine .inr ⟨c, q, r, hqr, ?_, ?_, fun _ => ⟨rfl, hblocked⟩⟩
        · rw [schedulerSelect_some hl hs, Dev.lane_start hx]
          rfl
        · rw [schedulerSelect_some hl hs, Dev.lane_start hx]
          exact tget_tset_same ..

end

/-! ## Stopping and starting a lane (R274) -/

theorem Dev.mateLinksJudge_cfg (d : Dev) : d.mateLinksJudge.cfg = d.cfg := by
  unfold Dev.mateLinksJudge
  split
  · rfl
  · split
    · rfl
    · dsimp only
      split <;> simp only [Dev.raise_cfg]

/-- A lane that stops in its order: nothing queued any more. -/
def Lane.stopped (x : Lane) : Lane := { x with
  state := .stopping, queues := []
  counters := tset 0 x.counters 7 (tget 0 x.counters 7 + BitVec.ofNat 64 (x.queues.map (fun q => q.2.length)).sum) }

/-- LANE_ENABLE 0, the queued frames discarded, and the lane STOPPING. -/
def Dev.stopLane (d : Dev) (l : Nat) : Dev := ((d.setEnable l false).flushLane l).setLaneState l .stopping

theorem Dev.lane_stopLane (d : Dev) (l : Nat) : (d.stopLane l).lane l = (d.lane l).stopped := by
  refine (Dev.lane_setLane ..).trans ((if_pos rfl).trans ?_)
  rw [Dev.lane_flushLane]
  rfl

theorem Dev.flushLane_eq (d : Dev) (l : Nat) : ∃ t, d.flushLane l = { d with net := { d.net with lanes := t } } := ⟨_, rfl⟩

theorem Dev.setLaneState_eq (d : Dev) (l : Nat) (a : LaneState) :
    ∃ t, d.setLaneState l a = { d with net := { d.net with lanes := t } } := ⟨_, rfl⟩

theorem Dev.stopLane_eq (d : Dev) (l : Nat) : ∃ t, d.stopLane l = { d.setEnable l false with net := { d.net with lanes := t } } := by
  obtain ⟨t, ht⟩ := (d.setEnable l false).flushLane_eq l
  obtain ⟨u, hu⟩ := ((d.setEnable l false).flushLane l).setLaneState_eq l .stopping
  exact ⟨u, hu.trans (by rw [ht]; rfl)⟩

/-- LANE_ENABLE reads as written. -/
theorem Dev.laneEnable_setEnable (d : Dev) (l : Nat) (b : Bool) : tget true (d.setEnable l b).cfg.net.laneEnable l = b :=
  tget_tset_same true d.cfg.net.laneEnable l b

/-- LANE_ENABLE written, and a lane in a state. -/
def Dev.laneSet (d : Dev) (l : Nat) (on : Bool) (a : LaneState) : Dev := (d.setEnable l on).setLaneState l a

theorem Dev.lane_laneSet (d : Dev) (l : Nat) (on : Bool) (a : LaneState) : (d.laneSet l on a).lane l = { d.lane l with state := a } :=
  (Dev.lane_setLane ..).trans (if_pos rfl)

section
variable {d : Dev} {l : Nat}

theorem laneDisable_receives (hl : (d.lane l).receives = true) : laneDisable l d
    = (.ok, (fun y : Dev => if ((d.lane l).state = .up : Bool) ∧ (l = 2 ∨ l = 3) then y.mateLinksJudge else y)
      (d.stopLane l)) := by
  obtain ⟨hdisabled, hstopping, hpending⟩ := Lane.state_ne_of_receives hl
  unfold laneDisable
  dsimp only
  split
  · exact absurd ‹_› hdisabled
  · exact absurd ‹_› hstopping
  · exact absurd ‹_› hpending
  · rfl
  · rfl
  · rfl

theorem laneDisable_stopped (h : (d.lane l).state = .disabled ∨ (d.lane l).state = .stopping) :
    laneDisable l d = (.ok, d.setEnable l false) := by
  have hlane : (d.setEnable l false).lane l = d.lane l := rfl
  unfold laneDisable
  dsimp only
  rw [hlane]
  rcases h with h | h <;> rw [h]

theorem laneDisable_pending (h : (d.lane l).state = .restartPending) : laneDisable l d = (.ok, d.laneSet l false .stopping) := by
  have hlane : (d.setEnable l false).lane l = d.lane l := rfl
  unfold laneDisable
  dsimp only
  rw [hlane, h]
  rfl

theorem laneEnable_disabled (h : (d.lane l).state = .disabled) : laneEnable l d = (.ok, d.laneSet l true .down) := by
  have hlane : (d.setEnable l true).lane l = d.lane l := rfl
  unfold laneEnable
  dsimp only
  rw [hlane, h]
  rfl

theorem laneEnable_stopping (h : (d.lane l).state = .stopping) : laneEnable l d = (.ok, d.laneSet l true .restartPending) := by
  have hlane : (d.setEnable l true).lane l = d.lane l := rfl
  unfold laneEnable
  dsimp only
  rw [hlane, h]
  rfl

theorem laneEnable_other (h : (d.lane l).state ≠ .disabled) (h' : (d.lane l).state ≠ .stopping) :
    laneEnable l d = (.ok, d.setEnable l true) := by
  unfold laneEnable
  dsimp only
  split
  · exact absurd ‹_› h
  · exact absurd ‹_› h'
  · rfl
  · rfl
  · rfl
  · rfl

theorem laneDisabled_stopping (h : (d.lane l).state = .stopping) : laneDisabled l d = d.setLane l { d.lane l with
    state := .disabled, lock := false, helloRun := 0, heard := false, sending := none, cut := false } := by
  unfold laneDisabled
  dsimp only
  split
  · rfl
  · simp_all
  · simp_all

theorem laneDisabled_pending (h : (d.lane l).state = .restartPending) : laneDisabled l d = d.setLane l { d.lane l with
    state := .down, lock := false, helloRun := 0, heard := false, sending := none, cut := false } := by
  unfold laneDisabled
  dsimp only
  split
  · simp_all
  · rfl
  · simp_all

theorem blockLockGained_down (h : (d.lane l).state = .down) :
    blockLockGained l d = d.setLane l { d.lane l with state := .locked, lock := true } := if_pos h

theorem blockLockGained_other (h : (d.lane l).state ≠ .down) : blockLockGained l d = d := if_neg h

end

/-- An enabled lane that is disabled: its own record, LANE_ENABLE, and what the mate links make of it. -/
theorem laneDisable_lane {d : Dev} {l : Nat} (hl : (d.lane l).receives = true) : ∃ y : Dev, laneDisable l d = (.ok, y)
    ∧ y.lane l = { d.lane l with state := .stopping, queues := [], counters := (y.lane l).counters }
    ∧ tget 0 (y.lane l).counters 7 = tget 0 (d.lane l).counters 7
      + BitVec.ofNat 64 ((d.lane l).queues.map (fun q => q.2.length)).sum
    ∧ tget true y.cfg.net.laneEnable l = false
    ∧ (l = 2 ∨ l = 3 ∨ y = { d with
      net := { d.net with lanes := y.net.lanes }
      cfg := { d.cfg with net := { d.cfg.net with laneEnable := y.cfg.net.laneEnable } } }) := by
  have hstages := laneDisable_receives hl
  have hstopped : ∀ y : Dev, y.lane l = (d.lane l).stopped → y.cfg = (d.stopLane l).cfg →
      y.lane l = { d.lane l with state := .stopping, queues := [], counters := (y.lane l).counters }
      ∧ tget 0 (y.lane l).counters 7 = tget 0 (d.lane l).counters 7
        + BitVec.ofNat 64 ((d.lane l).queues.map (fun q => q.2.length)).sum
      ∧ tget true y.cfg.net.laneEnable l = false := by
    intro y hlane hcfg
    rw [hlane, hcfg]
    exact ⟨rfl, tget_tset_same .., d.laneEnable_setEnable l false⟩
  dsimp only at hstages
  split at hstages
  · rename_i h
    obtain ⟨hlane, hcount, hcfg⟩ := hstopped _ ((Dev.lane_mateLinksJudge ..).trans (d.lane_stopLane l)) (Dev.mateLinksJudge_cfg _)
    exact ⟨_, hstages, hlane, hcount, hcfg, h.2.imp_right .inl⟩
  · obtain ⟨hlane, hcount, hcfg⟩ := hstopped _ (d.lane_stopLane l) rfl
    obtain ⟨t, ht⟩ := d.stopLane_eq l
    exact ⟨_, hstages, hlane, hcount, hcfg, .inr (.inr (by rw [ht]; rfl))⟩

/-- Settles O32, by what each command leaves of its lane and of the rest. -/
theorem framesOnLanes : Obligations.FramesOnLanes := by
  intro l bytes rx s
  refine ⟨fun h => gives_of_upd (frameReceive l bytes rx) rfl (frameReceive_disabled rx h), ?receive, ?start, ?select, ?disable,
    ?disableOff, ?enable, ?disabled, fun h => ?lock, fun h => gives_of_upd (blockLockGained l) rfl (blockLockGained_other h)⟩
  case receive =>
    rintro n hl rfl
    refine ⟨fun hfec => if_pos (by simp [hfec]), fun hfec => ?codewords, fun i h => ?counted,
      fun f hparse htravel hc hbad => ⟨fun hdest => ?delivered, fun k hway hup hk hsize hhops hroom => ?forwarded⟩⟩
    case codewords =>
      have hcount : (s.dev.countFec l rx.fec).lane l = _ :=
        (congrArg (fun d : Dev => d.lane l) (if_neg (by simp [hfec]))).trans ((Dev.lane_setLane ..).trans (if_pos rfl))
      refine ⟨?_, ?_, s.dev.lane_countFec l rx.fec⟩
      · rw [hcount]
        exact (tget_tset_other _ _ _ (by decide)).trans (tget_tset_same ..)
      · rw [hcount]
        refine (tget_tset_same ..).trans ?_
        rw [tget_tset_other _ _ _ (by decide)]
    case counted =>
      obtain ⟨t, ht⟩ := ((s.dev.counted_countFec l rx.fec).countLane l i 1).rest
      refine ⟨_, gives_of_upd (frameReceive l bytes rx) rfl (frameReceive_counted rx hl h), ?_, ?_, by rw [ht]⟩
      · rw [Dev.counter_countLane, Dev.lane_countFec]
        rfl
      · rw [Dev.lane_countLane_same]
    case delivered =>
      obtain ⟨y, hy, hcount, h⟩ := frameReceive_delivered rx hl hparse htravel hc hbad hdest
      obtain ⟨t, rfl⟩ := hy.rest
      exact ⟨_, gives_of_upd (frameReceive l bytes rx) rfl h, rfl, hcount, rfl⟩
    case forwarded =>
      obtain ⟨y, cut, hy, hcount, h⟩ := frameReceive_forwarded rx hl hparse htravel hc hbad hway hup hk hsize hhops hroom
      have hcls : (Frame.hop { f with rx := s.dev.rxStamp l rx.align.toNat }).cls = 0 :=
        (Frame.cls_hop (Dev.parse_frame_hdr hparse : f.hdr.length = 20)).trans hc
      have hqueue := y.queue_enqueue k (Frame.hop { f with rx := s.dev.rxStamp l rx.align.toNat }) cut
      rw [hcls, hy.queues, hy.time] at hqueue
      refine ⟨_, gives_of_upd (frameReceive l bytes rx) rfl h, ⟨cut, hqueue⟩, (Dev.counter_enqueue ..).trans hcount, ?_⟩
      obtain ⟨t, rfl⟩ := hy.rest
      rfl
  case start =>
    intro q r hl hq
    have hq' : tget [] ((s.dev.endFrame l).lane l).queues 0 = q :: r := by rw [Dev.lane_endFrame]; exact hq
    obtain ⟨t, counts, hstart, hframes, hbytes⟩ := Dev.start_classZero (d := s.dev.endFrame l) (l := l) hq'
    have hlane := Dev.lane_start (d := s.dev.endFrame l) (l := l) hq'
    rw [← schedulerSelect_classZero hl hq, Dev.lane_endFrame] at hlane
    have hrun := (schedulerSelect_classZero hl hq).trans hstart
    refine ⟨fun hlen htyp => Dev.timestamp_stamp hlen htyp, _, gives_of_upd (schedulerSelect l) rfl rfl, ?_, ?_, ?_, ?_, ?_, ?_⟩
    · rw [hlane]
      rfl
    · rw [hlane]
      exact tget_tset_same ..
    · rw [hlane]
      exact tget_tset_same ..
    · rw [hrun]
      exact hframes
    · rw [hrun]
      exact hbytes
    · rw [hrun]
      exact congrArg (fun x : Belfry => { s.dev with
        net := { s.dev.net with lanes := t }, traf := { s.dev.traf with queueCount := counts }, time := x })
        (Dev.noteDelayReq_time_lanes s.dev l q.frame _ _)
  case select =>
    exact fun hl => ⟨_, gives_of_upd (schedulerSelect l) rfl rfl, schedulerSelect_cases hl⟩
  case disable =>
    intro hl
    obtain ⟨y, h, hlane, hcount, henable, hrest⟩ := laneDisable_lane hl
    exact ⟨y, answers_of_ask (laneDisable l) rfl h, hlane, hcount, henable, hrest⟩
  case disableOff =>
    rintro a b (⟨rfl, rfl⟩ | ⟨rfl, rfl⟩ | ⟨rfl, rfl⟩) ha
    · exact ⟨_, answers_of_ask (laneDisable l) rfl (laneDisable_stopped (.inl ha)), by rw [← ha]; rfl, Dev.laneEnable_setEnable .., rfl⟩
    · exact ⟨_, answers_of_ask (laneDisable l) rfl (laneDisable_stopped (.inr ha)), by rw [← ha]; rfl, Dev.laneEnable_setEnable .., rfl⟩
    · exact ⟨_, answers_of_ask (laneDisable l) rfl (laneDisable_pending ha), Dev.lane_laneSet .., s.dev.laneEnable_setEnable l _, rfl⟩
  case enable =>
    rintro a b (⟨rfl, rfl⟩ | ⟨rfl, rfl⟩ | ⟨hdisabled, hstopping, rfl⟩) ha
    · exact ⟨_, answers_of_ask (laneEnable l) rfl (laneEnable_disabled ha), Dev.lane_laneSet .., s.dev.laneEnable_setEnable l _, rfl⟩
    · exact ⟨_, answers_of_ask (laneEnable l) rfl (laneEnable_stopping ha), Dev.lane_laneSet .., s.dev.laneEnable_setEnable l _, rfl⟩
    · exact ⟨_, answers_of_ask (laneEnable l) rfl (laneEnable_other (ha ▸ hdisabled) (ha ▸ hstopping)), by rw [← ha]; rfl,
        Dev.laneEnable_setEnable .., rfl⟩
  case disabled =>
    rintro a b (⟨rfl, rfl⟩ | ⟨rfl, rfl⟩) ha
    · exact ⟨_, gives_of_upd (laneDisabled l) rfl (laneDisabled_stopping ha), (Dev.lane_setLane ..).trans (if_pos rfl), rfl⟩
    · exact ⟨_, gives_of_upd (laneDisabled l) rfl (laneDisabled_pending ha), (Dev.lane_setLane ..).trans (if_pos rfl), rfl⟩
  case lock =>
    exact ⟨_, gives_of_upd (blockLockGained l) rfl (blockLockGained_down h), (Dev.lane_setLane ..).trans (if_pos rfl), rfl⟩

end Sys2Proof.Machine
end

section
/-! What is kept of a requester and freed after its time (R320, R332), and the access rights that are staged (R342). -/

namespace Sys2Proof.Machine

variable {d : Dev}

theorem assemblyTimeout_none {src : Nat} (h : d.heldParts src = none) : assemblyTimeout src d = d.dropParts src :=
  if_pos (by rw [h]; rfl)

theorem assemblyTimeout_held {src : Nat} (h : d.heldParts src ≠ none) : assemblyTimeout src d = d :=
  if_neg (by simpa using h)

theorem windowFree_window {src : Nat} {w : ReqWindow} (h : d.reqWindow src = some w) :
    windowFree src d = if d.mayFree w then d.freeWindow src else d := by
  rw [windowFree, h]

theorem windowFree_none {src : Nat} (h : d.reqWindow src = none) : windowFree src d = d := by
  rw [windowFree, h]

theorem Dev.mayFree_iff (d : Dev) (w : ReqWindow) : d.mayFree w = true ↔
    10000000000 + w.lastAt ≤ d.mono ∧ d.req.outstanding.all (fun o => o.spi || o.src.toNat ≠ w.src) = true := by
  simp [Dev.mayFree, or_iff_not_imp_left]

theorem Dev.mayFree_eq_false_iff (d : Dev) (w : ReqWindow) : d.mayFree w = false ↔
    d.mono < 10000000000 + w.lastAt ∨ d.req.outstanding.any (fun o => !o.spi && o.src.toNat = w.src) = true := by
  rw [Dev.mayFree, Bool.and_eq_false_iff, Bool.not_eq_false', decide_eq_false_iff_not, not_le]

/-- Settles O43, from what is held and whose time has passed, and from the checks of a level 0 write. -/
theorem requesterUpkeep : Obligations.RequesterUpkeep := by
  unfold Obligations.RequesterUpkeep
  intro src r lo hi x y b s
  have parts {d : Dev} (hd : assemblyTimeout src.toNat s.dev = d) : Gives (.assemblyTimeout src) s d := gives_of_upd _ rfl hd
  have window {d : Dev} (hd : windowFree src.toNat s.dev = d) : Gives (.windowFree src) s d := gives_of_upd _ rfl hd
  have rights {w : RightsWrite} {a : Resp} {d : Dev} (hd : rightsWrite w s.dev = (a, d)) : Answers (.rightsWrite w) s a d :=
    answers_of_ask _ rfl hd
  refine ⟨fun h => parts (assemblyTimeout_none h), fun h => parts (assemblyTimeout_held h), fun w hw => ⟨fun ht ho => window ?_,
    fun h => window ?_⟩, fun h => window (windowFree_none h), fun h => rights (if_pos h), fun hr h => rights ?_,
    fun hr hx hy hz => ⟨s.dev.stageRights (fun t => { t with ranges := tset (3, 3) t.ranges r.toNat (x.toNat, y.toNat) }), rights ?_, tget_tset_same .., rfl, rfl⟩, fun h => rights (if_pos h), fun hr h => rights ?_,
    fun hr hlo hx hb => ⟨s.dev.stageRights (fun t => { t with
      rules := tset {} t.rules r.toNat { low := lo.toNat, high := hi.toNat, level := x.toNat, valid := b } }), rights ?_, tget_tset_same .., rfl, rfl⟩, fun h => rights (if_pos h), fun h1 h3 => rights ?_⟩
  · rw [windowFree_window hw, if_pos ((Dev.mayFree_iff ..).2 ⟨ht, ho⟩)]
    rfl
  · rw [windowFree_window hw, if_neg (by simp [(Dev.mayFree_eq_false_iff ..).2 h])]
  · exact (if_neg (not_lt.2 hr)).trans (if_pos (h.imp_right (Or.imp_right (And.imp_right fun h0 h' => h0 (BitVec.eq_of_toNat_eq h')))))
  · refine (if_neg (not_lt.2 hr)).trans (if_neg ?_)
    rintro (h | h | ⟨h27, h⟩)
    · exact absurd hx (not_le.2 h)
    · exact absurd hy (not_le.2 h)
    · exact h (by rw [hz h27]; rfl)
  · exact (if_neg (not_lt.2 hr)).trans (if_pos (h.imp_right (Or.imp_right (And.imp_right fun h0 => by rw [h0]; rfl))))
  · refine (if_neg (not_lt.2 hr)).trans (if_neg ?_)
    rintro (h | h | ⟨hv, h⟩)
    · exact absurd hlo (not_le.2 h)
    · exact absurd hx (not_le.2 h)
    · exact hb hv (BitVec.eq_of_toNat_eq h)
  · exact if_neg (by omega)

end Sys2Proof.Machine
end

section
/-! YIELD, TOWER_DUTY and the claim lines' settings (R348, R366, R367, R370). -/

namespace Sys2Proof.Machine

/-- The duty of a unit that is not incumbent ends, or has ended (R367). -/
theorem towerDutyDisable_not_incumbent {d : Dev} (h : d.tow.role ≠ 0) :
    towerDutyDisable d = (.ok, d.setDuty 0 (if d.tow.dutyState = .stopped then .stopped else .stopping)) := by
  rw [towerDutyDisable, if_neg h]
  cases d.tow.dutyState <;> rfl

/-- The duty begins, or begins anew when what is under way has ended (R337, R367). -/
theorem towerDutyEnable_eq (d : Dev) : towerDutyEnable d
    = (.ok, d.setDuty 1 (if d.tow.dutyState = .stopped ∨ d.tow.dutyState = .running then .running else .restartPending)) := by
  unfold towerDutyEnable
  cases d.tow.dutyState <;> rfl

/-- A duty that does not run leaves the window of its withdrawal as it is. -/
theorem Dev.setDuty_eq (d : Dev) (v : Nat) {x : RunState} (h : x ≠ .running) : d.setDuty v x = { d with
    tow := { d.tow with dutyState := x }
    cfg := { d.cfg with tow := { d.cfg.tow with duty := v } }
    boot := { d.boot with savedDuty := none } } := by
  simp only [Dev.setDuty, if_neg h]
  rfl

/-- Settles O47, from the conditions under which each command is refused. -/
theorem yieldAndDuty : Obligations.YieldAndDuty := by
  unfold Obligations.YieldAndDuty
  intro v s
  have timeout {d : Dev} (hd : yieldTimeout s.dev = d) : Gives .yieldTimeout s d := gives_of_upd _ rfl hd
  have hne : v ≠ 1 → v.toNat ≠ 1 := fun h h' => h (BitVec.eq_of_toNat_eq h')
  refine ⟨fun h => answers_of_ask _ rfl (if_pos h), fun hr hb hf => answers_of_ask _ rfl ?_, fun h => answers_of_ask _ rfl (if_pos h),
    fun h => answers_of_ask _ rfl (if_neg (not_not.2 h)), fun h => timeout (if_pos h), fun ⟨h1, h2⟩ => timeout (if_neg ?_),
    fun h => answers_of_ask _ rfl (if_pos h), fun hr x hx => answers_of_ask _ rfl ?_, fun x hx => answers_of_ask _ rfl ?_,
    fun h => answers_of_ask _ rfl (if_pos (hne h)), answers_of_ask _ rfl rfl, fun h => answers_of_ask _ rfl (if_pos h),
    fun h => answers_of_ask _ rfl (if_neg h)⟩
  · exact if_neg (by simp [hr, hb, hf])
  · omega
  · rw [towerDutyDisable_not_incumbent hr, ← hx, Dev.setDuty_eq _ _ (by rw [hx]; split <;> decide)]
  · rw [towerDutyEnable_eq, ← hx]
    rfl

end Sys2Proof.Machine
end

section
/-! What a frame that the controller sends leaves alone (R268 to R271, R279); SUMMARY records, EVENT frames and the fault log
(R400 to R405). -/

namespace Sys2Proof.Machine

/-! ## Frames sent -/

/-- The links and the counts of the queues apart, y is d. -/
def Dev.OnNetwork (d y : Dev) : Prop := ∃ n t, y = { d with net := n, traf := t }

theorem Dev.OnNetwork.refl (d : Dev) : d.OnNetwork d := ⟨d.net, d.traf, rfl⟩

theorem Dev.OnNetwork.trans {d y z : Dev} (h : d.OnNetwork y) (h' : y.OnNetwork z) : d.OnNetwork z := by
  obtain ⟨n, t, rfl⟩ := h
  obtain ⟨n', t', rfl⟩ := h'
  exact ⟨n', t', rfl⟩

theorem Dev.OnNetwork.ite {d x y : Dev} {c : Prop} [Decidable c] (hx : d.OnNetwork x) (hy : d.OnNetwork y) :
    d.OnNetwork (if c then x else y) := by
  split
  · exact hx
  · exact hy

theorem Dev.OnNetwork.setNet (d : Dev) (f : Net → Net) : d.OnNetwork (d.setNet f) := ⟨_, d.traf, rfl⟩
theorem Dev.OnNetwork.countLane (d : Dev) (l i n : Nat) : d.OnNetwork (d.countLane l i n) := ⟨_, d.traf, rfl⟩
theorem Dev.OnNetwork.deliver (d : Dev) (l : Nat) (f : Frame) : d.OnNetwork (d.deliver l f) := .ite (.refl d) ⟨_, d.traf, rfl⟩
theorem Dev.OnNetwork.nextSeq (d : Dev) : d.OnNetwork d.nextSeq := ⟨_, d.traf, rfl⟩

theorem Dev.OnNetwork.letIn (d : Dev) (l : Nat) (f : Frame) (yellow cut : Bool) : d.OnNetwork (d.letIn l f yellow cut) :=
  .ite ⟨d.net, _, rfl⟩ (.ite ⟨d.net, _, rfl⟩ ⟨_, d.traf, rfl⟩)

theorem Dev.OnNetwork.sendOn (d : Dev) (i : Option Nat) (l : Nat) (f : Frame) (yellow : Bool) :
    d.OnNetwork (d.sendOn i l f yellow) := by
  refine .ite (.countLane ..) (.ite (.countLane ..) ?_)
  cases i with
  | none => exact .letIn ..
  | some i => exact .ite (.countLane ..) (.ite (.refl d) (.letIn ..))

theorem Dev.OnNetwork.each {α : Type} {d y : Dev} (l : List α) {f : α → Dev → Dev} (hf : ∀ a (x : Dev), x.OnNetwork (f a x))
    (h : d.OnNetwork y) : d.OnNetwork (each l f y) :=
  each_keeps _ l f y (fun a x hx => hx.trans (hf a x)) h

theorem Dev.OnNetwork.broadcast (d : Dev) (i : Option Nat) (f : Frame) (yellow : Bool) : d.OnNetwork (d.broadcast i f yellow) :=
  .ite (.each _ (fun l x => Dev.OnNetwork.sendOn x i l f yellow) (.deliver ..)) (.countLane ..)

theorem Dev.OnNetwork.route (d : Dev) (i : Option Nat) (f : Frame) (yellow : Bool) : d.OnNetwork (d.route i f yellow) := by
  unfold Dev.route
  split
  case h_1 => exact .deliver ..
  case h_2 => exact .broadcast ..
  case h_3 => exact .countLane ..
  case h_4 l _ =>
    refine .ite (.sendOn ..) (.ite (.countLane ..) ?_)
    dsimp only
    split
    · exact .ite (.sendOn ..) (.countLane ..)
    · exact .countLane ..

theorem Dev.OnNetwork.originate (d : Dev) (cls typ dest : Nat) (plane : Option Bool) (poison : Bool) (payload : List Byte) :
    d.OnNetwork (d.originate cls typ dest plane poison payload) :=
  (Dev.OnNetwork.route ..).trans (.nextSeq _)

theorem Dev.OnNetwork.sendLocal (d : Dev) (l cls typ dest : Nat) (poison : Bool) (payload : List Byte) :
    d.OnNetwork (d.sendLocal l cls typ dest poison payload) :=
  .ite ((Dev.OnNetwork.letIn ..).trans (.nextSeq _)) (.refl d)

/-! ## SUMMARY records (R400) -/

/-- The record that a post makes (R398). -/
def Dev.recordOf (d : Dev) (e : EventName) (args : List Nat) (summary : Bool) : EventRec := {
  seq := BitVec.ofNat 32 (d.ev.bootCount.toNat % 256 * 2 ^ 24 + d.ev.posted.toNat)
  at_ := ⟨d.time.secs, d.time.nanos⟩
  ev := e, locked := d.locked, faultN := e.severity = 3, summary := summary
  source := BitVec.ofNat 16 d.net.address, args := args }

/-- What a post leaves: the runs' ends and counts stand, and the record waits to be sent where it is to go. -/
theorem Dev.post_eq (d : Dev) (e : EventName) (args : List Nat) (summary : Bool) : ∃ v, d.post e args summary = { d with ev := v }
    ∧ v.ended = d.ev.ended ∧ v.posted = d.ev.posted + 1 ∧ v.counts = d.ev.counts
    ∧ v.toSend = if d.cfg.ev.dest = 0 then d.ev.toSend else d.ev.toSend ++ [d.recordOf e args summary] := by
  refine ⟨(d.post e args summary).ev, ?_⟩
  by_cases h : d.unread < 1024
  · rw [Dev.post, if_pos h]
    exact ⟨rfl, rfl, rfl, rfl, rfl⟩
  · rw [Dev.post, if_neg h]
    exact ⟨rfl, rfl, rfl, rfl, rfl⟩

theorem Dev.post_ended (d : Dev) (e : EventName) (args : List Nat) (summary : Bool) (l : List (EventName × Nat)) :
    Dev.post { d with ev := { d.ev with ended := l } } e args summary
      = { d.post e args summary with ev := { (d.post e args summary).ev with ended := l } } := by
  by_cases h : d.unread < 1024
  · rw [Dev.post, Dev.post, if_pos h]
    exact if_pos h
  · rw [Dev.post, Dev.post, if_neg h]
    exact if_neg h

theorem eventSummary_none {d : Dev} (h : d.ev.ended = []) : eventSummary d = d := by
  rw [eventSummary, h]
  change { d with ev := { d.ev with ended := [] } } = d
  rw [← h]

theorem eventSummary_cons {d : Dev} {e : EventName} {n : Nat} {l : List (EventName × Nat)} (h : d.ev.ended = (e, n) :: l) :
    eventSummary d = eventSummary { d.post e [n] true with ev := { (d.post e [n] true).ev with ended := l } } := by
  rw [eventSummary, h, each_cons, Dev.post_ended]
  rfl

/-- One SUMMARY record is posted for each code, in their order. -/
theorem each_post (l : List (EventName × Nat)) (d : Dev) : ∃ v r, each l (fun e d => d.post e.1 [e.2] true) d = { d with ev := v }
    ∧ v.ended = d.ev.ended ∧ v.posted = d.ev.posted + BitVec.ofNat _ l.length ∧ v.counts = d.ev.counts
    ∧ (d.cfg.ev.dest ≠ 0 → v.toSend = d.ev.toSend ++ r
      ∧ r.map (fun r => (r.ev, r.args, r.summary)) = l.map (fun e => (e.1, [e.2], true))) := by
  induction l generalizing d with
  | nil => exact ⟨d.ev, [], rfl, rfl, (BitVec.add_zero _).symm, rfl, fun _ => ⟨(List.append_nil _).symm, rfl⟩⟩
  | cons x l ih =>
    obtain ⟨v, hy, hended, hposted, hcounts, hsend⟩ := d.post_eq x.1 [x.2] true
    obtain ⟨v', r, hz, hended', hposted', hcounts', hsend'⟩ := ih { d with ev := v }
    refine ⟨v', d.recordOf x.1 [x.2] true :: r, ?_, hended'.trans hended, ?_, hcounts'.trans hcounts, fun hd => ⟨?_, ?_⟩⟩
    · rw [each_cons, hy, hz]
    · rw [hposted', hposted, List.length_cons, BitVec.add_assoc, Nat.add_comm l.length, BitVec.ofNat_add]
      rfl
    · rw [(hsend' hd).1, hsend, if_neg hd, List.append_assoc]
      rfl
    · rw [List.map_cons, (hsend' hd).2]
      rfl

/-! ## EVENT frames (R401) -/

/-- The records of a list leave in frames of 30 and a last one of the rest. -/
theorem Dev.sendEvents_eq (d : Dev) (dest n : Nat) (l : List EventRec) (h : l.length ≤ n) : d.sendEvents dest n l
    = each (List.range ((l.length + 29) / 30)) (fun i x => x.originate 3 12 dest none false
        ([1] ++ be 1 ((l.drop (30 * i)).take 30).length ++ [0, 0] ++ ((l.drop (30 * i)).take 30).flatMap EventRec.bytes)) d := by
  induction n generalizing l d with
  | zero =>
    obtain rfl := List.eq_nil_of_length_eq_zero (Nat.le_zero.1 h)
    rfl
  | succ n ih =>
    match l with
    | [] => rfl
    | a :: t =>
      have hcount : ((a :: t).length + 29) / 30 = (((a :: t).drop 30).length + 29) / 30 + 1 := by
        rw [List.length_drop, List.length_cons]
        omega
      rw [Dev.sendEvents, ih _ _ (by rw [List.length_drop]; simp at h ⊢; omega), hcount, List.range_succ_eq_map, each_cons]
      · simp only [each, List.foldl_map, Nat.mul_succ, List.drop_drop, Nat.add_comm 30]
        rfl
      · exact fun h => List.cons_ne_nil _ _ h

theorem Dev.OnNetwork.ev {d y : Dev} (h : d.OnNetwork y) : y.ev = d.ev := by
  obtain ⟨n, t, rfl⟩ := h
  rfl

theorem eventSend_toSend (d : Dev) : (eventSend d).ev.toSend = [] := by
  unfold eventSend
  dsimp only
  split
  · rfl
  · rw [Dev.sendEvents_eq _ _ _ _ le_rfl, Dev.OnNetwork.ev (.each _ (fun _ x => .originate x ..) (.refl _))]

/-! ## The fault log (R402) -/

/-- The log after some records: they stand at the next places in their order, unless as many again follow as there are places. -/
theorem logAll (l : List EventRec) (f : Flash) : ∃ t, l.foldl (fun f r => f.logOne r) f
      = { f with log := t, logIndex := f.logIndex + BitVec.ofNat 32 l.length }
    ∧ (∀ p, p < 4096 → (∀ i, i < l.length → (f.logIndex.toNat + i) % 4096 ≠ p) → tget [] t p = tget [] f.log p)
    ∧ ∀ i r, l[i]? = some r → l.length ≤ i + 4096 → tget [] t ((f.logIndex.toNat + i) % 4096) = r.bytes := by
  induction l generalizing f with
  | nil => exact ⟨f.log, by simp, fun _ _ _ => rfl, fun _ _ h => by simp at h⟩
  | cons r l ih =>
    obtain ⟨t, ht, hother, hsame⟩ := ih (f.logOne r)
    have hplace (i : Nat) : ((f.logOne r).logIndex.toNat + i) % 4096 = (f.logIndex.toNat + (i + 1)) % 4096 := by
      have : (f.logOne r).logIndex.toNat = (f.logIndex.toNat + 1) % 2 ^ 32 := BitVec.toNat_add ..
      omega
    refine ⟨t, ?_, fun p hp h => ?_, fun i x hx hlen => ?_⟩
    · rw [List.foldl_cons, ht, List.length_cons, Nat.add_comm l.length, BitVec.ofNat_add, ← BitVec.add_assoc]
      rfl
    · rw [hother p hp fun i hi => hplace i ▸ h (i + 1) (Nat.succ_lt_succ hi)]
      exact tget_tins_other _ _ _ (h 0 (Nat.succ_pos _)).symm
    · cases i with
      | zero =>
        obtain rfl : r = x := by simpa using hx
        rw [hother _ (Nat.mod_lt _ (by decide)) fun i hi => by rw [hplace]; simp at hlen; omega]
        exact tget_tins_same ..
      | succ i =>
        rw [← hplace]
        exact hsame i x (by simpa using hx) (by simp at hlen; omega)

/-- Settles O55, by induction over the records that wait. -/
theorem eventService : Obligations.EventService := by
  unfold Obligations.EventService
  intro v w s
  have hne : v ≠ 1 → v.toNat ≠ 1 := fun h h' => h (BitVec.eq_of_toNat_eq h')
  refine ⟨fun h => gives_of_upd _ rfl (eventSummary_none h), fun e n l d h => ?_, ⟨_, gives_of_upd _ rfl rfl, ?_⟩,
    fun h => gives_of_upd _ rfl (if_pos h), fun h hs => gives_of_upd _ rfl ?_, ?_, ⟨_, gives_of_upd _ rfl rfl, eventSend_toSend _⟩,
    ⟨_, gives_of_upd _ rfl rfl, ?_⟩, fun f r => rfl, fun h => answers_of_ask _ rfl (if_pos h),
    fun h => answers_of_ask _ rfl (if_neg (not_lt.2 h)),
    fun h => ⟨answers_of_ask _ rfl (if_pos (hne h)), answers_of_ask _ rfl (if_pos (hne h))⟩, answers_of_ask _ rfl rfl,
    answers_of_ask _ rfl rfl⟩
  · simp only [Gives, exec, execEventSummary, State.upd_next, ← eventSummary_cons h]
  · obtain ⟨x, r, hx, hended, hposted, hcounts, hsend⟩ :=
      each_post s.dev.ev.ended { s.dev with ev := { s.dev.ev with ended := [] } }
    rw [eventSummary, hx]
    refine ⟨hended, hposted, hcounts, fun hd => ?_, rfl⟩
    obtain ⟨hr, hmap⟩ := hsend hd
    rw [hr]
    exact ⟨by rw [List.drop_left, hmap], List.take_left⟩
  · have hstate : { s.dev with ev := { s.dev.ev with toSend := [] } } = s.dev := by rw [← hs]
    rw [eventSend, if_neg h, hs]
    exact hstate
  · rintro send rfl hd -
    refine gives_of_upd _ rfl ?_
    rw [eventSend, if_neg hd, Dev.sendEvents_eq _ _ _ _ le_rfl]
  · obtain ⟨t, ht, hother, hsame⟩ := logAll s.dev.ev.toLog s.dev.boot.flash
    have hlog : faultLogCopy s.dev = { s.dev with
        ev := { s.dev.ev with toLog := [] }, boot := { s.dev.boot with flash := { s.dev.boot.flash with
          log := t, logIndex := s.dev.boot.flash.logIndex + BitVec.ofNat 32 s.dev.ev.toLog.length } } } := by
      rw [← ht]
      rfl
    rw [hlog]
    exact ⟨rfl, rfl, ht.symm, hsame, hother, rfl⟩

end Sys2Proof.Machine
end

section
/-! Frames of the controller's own on a lane that carries them (R257, R258, R279), and the exchange of time frames (R297 to
R302). -/

namespace Sys2Proof.Machine

/-! ## Frames of the controller's own -/

theorem mkFrame_cls {cls typ : Nat} (dest src seq : Nat) (planeB poison : Bool) (p : List Byte) (hc : cls < 8) (ht : typ < 32) :
    (mkFrame cls typ dest src seq planeB poison p).cls = cls := by
  simp only [Frame.cls, mkFrame, field, be, ofBe, List.cons_append, List.nil_append, List.drop_succ_cons,
    List.drop_zero, List.take_succ_cons, List.take_zero, List.foldl_cons, List.foldl_nil, BitVec.toNat_ofNat]
  omega

theorem mkFrame_typ {typ : Nat} (cls dest src seq : Nat) (planeB poison : Bool) (p : List Byte) (ht : typ < 32) :
    (mkFrame cls typ dest src seq planeB poison p).typ = typ := by
  simp only [Frame.typ, mkFrame, field, be, ofBe, List.cons_append, List.nil_append, List.drop_succ_cons,
    List.drop_zero, List.take_succ_cons, List.take_zero, List.foldl_cons, List.foldl_nil, BitVec.toNat_ofNat]
  omega

theorem mkFrame_dest (cls typ dest src seq : Nat) (planeB poison : Bool) (p : List Byte) :
    (mkFrame cls typ dest src seq planeB poison p).dest = dest % 65536 := by
  simp only [Frame.dest, mkFrame, field, be, ofBe, List.cons_append, List.nil_append, List.drop_succ_cons,
    List.drop_zero, List.take_succ_cons, List.take_zero, List.foldl_cons, List.foldl_nil, BitVec.toNat_ofNat]
  omega

theorem mkFrame_payload (cls typ dest src seq : Nat) (planeB poison : Bool) {p : List Byte} (h : p.length < 65536) :
    (mkFrame cls typ dest src seq planeB poison p).payload = p := by
  have hlen : (mkFrame cls typ dest src seq planeB poison p).length = p.length := by
    simp only [Frame.length, mkFrame, field, be, ofBe, List.cons_append, List.nil_append, List.drop_succ_cons,
      List.drop_zero, List.take_succ_cons, List.take_zero, List.foldl_cons, List.foldl_nil, BitVec.toNat_ofNat]
    omega
  rw [Frame.payload, hlen]
  exact List.take_left

theorem mkFrame_size (cls typ dest src seq : Nat) (planeB poison : Bool) (p : List Byte) :
    (mkFrame cls typ dest src seq planeB poison p).size = 38 + max 26 p.length := by
  simp [Frame.size, mkFrame]
  omega

theorem Dev.mtu_ge (d : Dev) (l : Nat) : 1024 ≤ d.mtu l := by
  rw [Dev.mtu]
  split <;> decide

/-- A lane that carries a frame of the controller's own, and has room for it, takes it last. -/
theorem Dev.sendLocal_of_hasRoom {d : Dev} {l cls typ dest : Nat} {p : List Byte} (hc : cls < 8) (ht : typ < 32)
    (htravel : d.mayTravel l (d.ownFrame cls typ dest p) = true) (hp : p.length ≤ 986)
    (hroom : d.hasRoom l cls (d.ownFrame cls typ dest p)) :
    d.sendLocal l cls typ dest false p = (d.enqueue l (d.ownFrame cls typ dest p) false).nextSeq := by
  have hsize : (d.ownFrame cls typ dest p).size ≤ d.mtu l := by
    refine le_trans ?_ (d.mtu_ge l)
    rw [Dev.ownFrame, mkFrame_size]
    omega
  have hsend : d.sendLocal l cls typ dest false p = if d.mayTravel l (d.ownFrame cls typ dest p)
      && (d.ownFrame cls typ dest p).size ≤ d.mtu l then (d.letIn l (d.ownFrame cls typ dest p) false).nextSeq else d := rfl
  rw [hsend, if_pos (by rw [Bool.and_eq_true, decide_eq_true_eq]; exact ⟨htravel, hsize⟩), Dev.letIn_of_hasRoom]
  rwa [Dev.ownFrame, mkFrame_cls _ _ _ _ _ _ hc ht]

theorem Dev.laneDuty_mate (d : Dev) {l : Nat} (h2 : 2 ≤ l) (h4 : l < 4) : d.laneDuty l = 5 ∨ d.laneDuty l = 2 := by
  unfold Dev.laneDuty
  dsimp only
  rw [if_neg (not_lt.2 h2), if_pos h4]
  split
  · exact .inl rfl
  · exact .inr rfl

/-- An uplink or downlink that is UP carries every type of a frame above ENUMERATE (R255, R261). -/
theorem Dev.mayTravel_up {d : Dev} {l : Nat} {f : Frame} (hup : d.laneUp l = true)
    (hl : l < 2 ∨ d.laneDuty l = 3 ∨ d.laneDuty l = 4) (ht : 2 ≤ f.typ) : d.mayTravel l f = true := by
  have hreceives : (d.lane l).receives = true := (Lane.receives_iff _).2 (.inr (.inr (of_decide_eq_true hup)))
  have h0 : f.typ ≠ 0 := by omega
  have h1 : f.typ ≠ 1 := by omega
  rw [Dev.mayTravel, if_neg (by simp [hreceives]), if_neg h0]
  by_cases h2 : l < 2
  · rw [if_pos h2, hup, Bool.or_true]
  · have hduty := hl.resolve_left h2
    have h4 : ¬ l < 4 := fun h4 => by
      have hmate := d.laneDuty_mate (not_lt.1 h2) h4
      omega
    rw [if_neg h2, if_neg h4, if_neg h1, hup]
    simpa using hduty

/-- A queue of the lane takes a frame of the controller's own at its end. -/
theorem queued_ownFrame {d : Dev} {l cls typ dest : Nat} {p : List Byte} (hc : cls < 8) (ht : typ < 32) :
    Queued d (d.enqueue l (d.ownFrame cls typ dest p) false).nextSeq l cls (d.ownFrame cls typ dest p) := by
  have h := queued_enqueue d l (d.ownFrame cls typ dest p)
  rwa [show (d.ownFrame cls typ dest p).cls = cls from mkFrame_cls _ _ _ _ _ _ hc ht] at h

/-! ## What a frame of the controller's own leaves alone -/

/-- Queues, their counts and the frame sequence number apart, y is d. -/
def Dev.OnQueues (d y : Dev) : Prop := ∃ t n c, y = { d with net := { d.net with lanes := t, seq := n }, traf := c }

theorem Dev.OnQueues.refl (d : Dev) : d.OnQueues d := ⟨d.net.lanes, d.net.seq, d.traf, rfl⟩

theorem Dev.OnQueues.trans {d y z : Dev} (h : d.OnQueues y) (h' : y.OnQueues z) : d.OnQueues z := by
  obtain ⟨t, n, c, rfl⟩ := h
  obtain ⟨t', n', c', rfl⟩ := h'
  exact ⟨t', n', c', rfl⟩

theorem Dev.OnQueues.sendLocal (d : Dev) (l cls typ dest : Nat) (poison : Bool) (p : List Byte) :
    d.OnQueues (d.sendLocal l cls typ dest poison p) := by
  unfold Dev.sendLocal
  dsimp only
  split
  · unfold Dev.letIn
    dsimp only
    split
    · exact ⟨d.net.lanes, _, _, rfl⟩
    · split
      · exact ⟨d.net.lanes, _, _, rfl⟩
      · exact ⟨_, _, d.traf, rfl⟩
  · exact .refl d

theorem Dev.lane_sendLocal_other (d : Dev) {l k : Nat} (cls typ dest : Nat) (poison : Bool) (p : List Byte) (h : k ≠ l) :
    (d.sendLocal l cls typ dest poison p).lane k = d.lane k := by
  unfold Dev.sendLocal
  dsimp only
  split
  · unfold Dev.letIn
    dsimp only
    split
    · rfl
    · split
      · rfl
      · exact (Dev.lane_setLane ..).trans (if_neg h)
  · rfl

section
variable {d y : Dev} (h : d.OnQueues y)
include h

theorem Dev.OnQueues.laneDuty {k : Nat} (hk : y.lane k = d.lane k) : y.laneDuty k = d.laneDuty k := by
  obtain ⟨t, n, c, rfl⟩ := h
  unfold Dev.laneDuty
  rw [hk]

/-- A lane that stands carries what it carried. -/
theorem Dev.OnQueues.mayTravel {k : Nat} (hk : y.lane k = d.lane k) (f : Frame) : y.mayTravel k f = d.mayTravel k f := by
  have hduty := h.laneDuty hk
  unfold Dev.mayTravel
  rw [hduty, Dev.laneUp, Dev.laneUp, hk]

theorem Dev.OnQueues.queueLimit (x : Nat) : y.queueLimit x = d.queueLimit x := by
  obtain ⟨t, n, c, rfl⟩ := h
  rfl

end

/-! ## One frame on each of some lanes -/

/-- A lane takes a frame of the controller's own: it carries its type, and the class's queue has room. -/
structure Dev.Takes (d : Dev) (k cls typ : Nat) (p : List Byte) : Prop where
  travel : ∀ f : Frame, f.typ = typ → d.mayTravel k f = true
  room : (d.lane k).depth cls + (38 + max 26 p.length) ≤ d.queueLimit (8 * k + cls)

/-- From d to y the class's queue on lane k has grown by a frame of the type with the destination and the payload. -/
def Dev.LastQueued (d y : Dev) (k cls typ dest : Nat) (p : List Byte) : Prop :=
  ∃ q : QFrame, tget [] (y.lane k).queues cls = tget [] (d.lane k).queues cls ++ [q] ∧ q.frame.typ = typ
    ∧ q.frame.dest = dest % 65536 ∧ q.frame.payload = p

theorem Dev.Takes.queued {d : Dev} {k cls typ : Nat} {p : List Byte} (h : d.Takes k cls typ p) (hc : cls < 8) (ht : typ < 32)
    (hp : p.length ≤ 986) (dest : Nat) : d.LastQueued (d.sendLocal k cls typ dest false p) k cls typ dest p := by
  have htyp : (d.ownFrame cls typ dest p).typ = typ := mkFrame_typ _ _ _ _ _ _ _ ht
  have hroom : d.hasRoom k cls (d.ownFrame cls typ dest p) := by
    rw [Dev.hasRoom, Dev.ownFrame, mkFrame_size]
    exact h.room
  rw [Dev.sendLocal_of_hasRoom hc ht (h.travel _ htyp) hp hroom]
  exact ⟨_, (queued_ownFrame hc ht).1, htyp, mkFrame_dest .., mkFrame_payload _ _ _ _ _ _ _ (by omega)⟩

/-- A link-local frame on each of some lanes in turn, its payload that of the device as it is then. -/
def Dev.sendEach (d : Dev) (cls typ : Nat) (p : Nat → Dev → List Byte) (ls : List Nat) : Dev :=
  each ls (fun l x => x.sendLocal l cls typ 0 false (p l x)) d

theorem Dev.onQueues_sendEach (d : Dev) (cls typ : Nat) (p : Nat → Dev → List Byte) (ls : List Nat) :
    d.OnQueues (d.sendEach cls typ p ls) :=
  each_keeps d.OnQueues ls _ d (fun _ _ hx => hx.trans (.sendLocal ..)) (.refl d)

theorem Dev.lane_sendEach_other (d : Dev) (cls typ : Nat) (p : Nat → Dev → List Byte) {ls : List Nat} {k : Nat} (h : k ∉ ls) :
    (d.sendEach cls typ p ls).lane k = d.lane k := by
  induction ls generalizing d with
  | nil => rfl
  | cons l ls ih =>
    obtain ⟨hl, hls⟩ := not_or.1 (mt List.mem_cons.2 h)
    exact (ih _ hls).trans (Dev.lane_sendLocal_other _ _ _ _ _ _ hl)

/-- Each lane that takes its frame has it last, where the payload does not rest on queues. -/
theorem Dev.lastQueued_sendEach {d : Dev} {cls typ : Nat} {p : Nat → Dev → List Byte} (hc : cls < 8) (ht : typ < 32)
    (hlen : ∀ l x, (p l x).length ≤ 986) (hp : ∀ l x y, Dev.OnQueues x y → p l y = p l x) {ls : List Nat} (hnodup : ls.Nodup)
    {k : Nat} (hk : k ∈ ls) (h : d.Takes k cls typ (p k d)) : d.LastQueued (d.sendEach cls typ p ls) k cls typ 0 (p k d) := by
  induction ls generalizing d with
  | nil => exact absurd hk List.not_mem_nil
  | cons l ls ih =>
    obtain ⟨hl, hls⟩ := List.nodup_cons.1 hnodup
    have hq : d.OnQueues (d.sendLocal l cls typ 0 false (p l d)) := .sendLocal ..
    change d.LastQueued ((d.sendLocal l cls typ 0 false (p l d)).sendEach cls typ p ls) k cls typ 0 (p k d)
    by_cases hkl : k = l
    · subst hkl
      unfold Dev.LastQueued
      rw [Dev.lane_sendEach_other _ _ _ _ hl]
      exact h.queued hc ht (hlen ..) 0
    · have hlane := d.lane_sendLocal_other cls typ 0 false (p l d) hkl
      have hrest := ih (d := d.sendLocal l cls typ 0 false (p l d)) hls (List.mem_of_ne_of_mem hkl hk)
        ⟨fun f hf => by rw [hq.mayTravel hlane]; exact h.travel f hf, by rw [hlane, hq.queueLimit, hp _ _ _ hq]; exact h.room⟩
      unfold Dev.LastQueued at hrest ⊢
      rwa [hlane, hp _ _ _ hq] at hrest

/-! ## TIME_SYNC (R300, R302) -/

theorem Dev.syncPayload_length (d : Dev) : d.syncPayload.length = 16 := by
  simp [Dev.syncPayload, be_length]

theorem Dev.OnQueues.syncPayload {d y : Dev} (h : d.OnQueues y) : y.syncPayload = d.syncPayload := by
  obtain ⟨t, n, c, rfl⟩ := h
  rfl

/-- TIME_SYNC sent on some lanes in turn. -/
def Dev.sendSyncs (d : Dev) (ls : List Nat) : Dev := d.sendEach 0 3 (fun _ x => x.syncPayload) ls

theorem Dev.lastQueued_sendSyncs {d : Dev} {ls : List Nat} (hnodup : ls.Nodup) {k : Nat} (hk : k ∈ ls) (hup : d.laneUp k = true)
    (hduty : d.laneDuty k = 3 ∨ d.laneDuty k = 4) (hroom : (d.lane k).depth 0 + 64 ≤ d.queueLimit (8 * k)) :
    d.LastQueued (d.sendSyncs ls) k 0 3 0 d.syncPayload :=
  Dev.lastQueued_sendEach (p := fun _ x => x.syncPayload) (by decide) (by decide)
    (fun _ x => by rw [x.syncPayload_length]; decide) (fun _ _ _ h => h.syncPayload) hnodup hk
    ⟨fun f hf => Dev.mayTravel_up hup (.inr hduty) (by omega), by rw [d.syncPayload_length]; exact hroom⟩

theorem Dev.mem_downlinks {d : Dev} {b : Bool} {k : Nat} (h : k ∈ d.downlinks b) : d.laneDuty k = if b then 4 else 3 := by
  have := (List.mem_filter.1 h).2
  rw [Bool.and_eq_true, decide_eq_true_eq] at this
  exact this.1

theorem Dev.downlinks_nodup (d : Dev) : (d.downlinks false ++ d.downlinks true).Nodup := by
  have hlanes : ((List.range 92).map (fun i => i + 4)).Nodup :=
    List.Nodup.map (fun a b h => Nat.add_right_cancel h) List.nodup_range
  refine List.nodup_append.2 ⟨hlanes.filter _, hlanes.filter _, fun a ha b hb hab => ?_⟩
  have h3 := Dev.mem_downlinks ha
  have h4 := Dev.mem_downlinks hb
  rw [hab, h4] at h3
  exact absurd h3 (by decide)

/-- The lanes that TIME_SYNC leaves on. -/
def Dev.syncLanes (d : Dev) : List Nat := if d.net.chain then [4] else d.downlinks false ++ d.downlinks true

theorem timeSyncSend_lanes (d : Dev) : ∃ ls, timeSyncSend d = d.sendSyncs ls ∧ ls.Nodup ∧ (∀ k ∈ ls, k ∈ d.syncLanes)
    ∧ ∀ k ∈ d.syncLanes, d.laneUp k = true → k ∈ ls := by
  unfold timeSyncSend Dev.syncLanes
  cases d.net.chain with
  | false => exact ⟨_, rfl, d.downlinks_nodup, fun _ hk => hk, fun _ hk _ => hk⟩
  | true =>
    refine ⟨if d.laneUp 4 then [4] else [], rfl, ?_, fun k hk => ?_, fun k hk hup => ?_⟩
    · split
      · exact List.nodup_singleton _
      · exact List.nodup_nil
    · split at hk
      · exact hk
      · exact absurd hk List.not_mem_nil
    · obtain rfl := List.mem_singleton.1 hk
      rw [if_pos hup]
      exact hk

/-! ### TIME_SYNC heard -/

/-- What the servo and the states of TIME_STATE leave alone: what was heard, the parent and the clock's reading. -/
def Belfry.heardAt (t : Belfry) : Option SyncHeard × Option SyncHeard × Option Nat × Nat × Nat :=
  (t.syncA, t.syncB, t.parentLane, t.secs, t.nanos)

theorem Dev.heardAt_formOffset (d : Dev) : d.formOffset.time.heardAt = d.time.heardAt := by
  unfold Dev.formOffset
  split
  · split <;> rfl
  · rfl

theorem Dev.heardAt_writeAddend (d : Dev) (v : Nat) : (d.writeAddend v).time.heardAt = d.time.heardAt := by
  unfold Dev.writeAddend
  split <;> rfl

theorem Dev.heardAt_servo (d : Dev) : d.servo.time.heardAt = d.time.heardAt := Dev.heardAt_writeAddend ..
theorem Dev.heardAt_holdOffset (d : Dev) : d.holdOffset.time.heardAt = d.time.heardAt := Dev.heardAt_writeAddend ..

theorem Dev.heardAt_becomeLocked (d : Dev) : d.becomeLocked.time.heardAt = d.time.heardAt := by
  rw [Dev.becomeLocked, Dev.raise_eq]
  rfl

theorem Dev.heardAt_countLock (d : Dev) : d.countLock.time.heardAt = d.time.heardAt := by
  unfold Dev.countLock
  dsimp only
  generalize (if (decide (-1000 ≤ d.time.offsetLast ∧ d.time.offsetLast ≤ 1000)) = true then d.time.inLock + 1 else 0) = n
  split
  · rw [Dev.heardAt_becomeLocked]
    rfl
  · rfl

theorem Dev.heardAt_syncState (d : Dev) : d.syncState.time.heardAt = d.time.heardAt := by
  have hfollow : (if d.time.exchange.isSome then d.formOffset.servo.countLock else d).time.heardAt = d.time.heardAt := by
    split
    · rw [Dev.heardAt_countLock, Dev.heardAt_servo, Dev.heardAt_formOffset]
    · rfl
  unfold Dev.syncState
  cases d.time.state
  case free => rfl
  case lockPending => exact (Dev.heardAt_holdOffset _).trans (Dev.heardAt_formOffset d)
  case locked =>
    dsimp only
    split
    · exact (Dev.heardAt_servo _).trans (Dev.heardAt_formOffset d)
    · rfl
  case acquiring =>
    dsimp only
    split
    · exact hfollow
    · rfl
  case holdover => exact hfollow
  case expired => exact hfollow

theorem Dev.syncState_free {d : Dev} (h : d.time.state = .free) : d.syncState.time.state = .acquiring := by
  rw [Dev.syncState, h]
  rfl

/-- What TIME_SYNC makes known of the parent (R302). -/
def Dev.syncHeard (d : Dev) (l t1 : Nat) (q : QueuedTime) (m : TimeSyncMsg) : SyncHeard := {
  state := m.state.toNat, steps := m.steps.toNat, root := m.root, syncLog2 := m.syncLog2, at_ := d.mono
  goodAt := if m.state = 3 ∨ m.state = 4 then some d.mono
    else ((if l = 0 then d.time.syncA else d.time.syncB).bind (fun s => s.goodAt))
  stamped := true, t1 := extendAfter (1000000000 * q.secs.toNat + q.nanos.toNat) t1
  t2 := extendBefore d.time.secs (d.stampOf l 3) }

theorem Dev.chooseParent_parent {d : Dev} {l : Nat} (h : d.parentNow = some l) : d.chooseParent.time.parentLane = some l
    ∧ d.chooseParent.time.state = d.time.state ∧ d.chooseParent.parentNow = some l := by
  rw [Dev.chooseParent, h]
  exact ⟨rfl, rfl, h⟩

theorem Dev.chooseParent_kept (d : Dev) : d.chooseParent.time.syncA = d.time.syncA ∧ d.chooseParent.time.syncB = d.time.syncB
    ∧ d.chooseParent.time.secs = d.time.secs ∧ d.chooseParent.time.nanos = d.time.nanos := by
  unfold Dev.chooseParent
  split <;> exact ⟨rfl, rfl, rfl, rfl⟩

/-- Plane A's uplink of a controller that follows a parent: what the parent is, and what is done on its account. -/
theorem timeSyncReceive_planeA {d : Dev} (t1 : Nat) (q : QueuedTime) (m : TimeSyncMsg) (h : d.follows = true) {x : Dev}
    (hx : x = (d.take 0 3).setTime (fun t => { t with syncA := some (d.syncHeard 0 t1 q m) })) :
    timeSyncReceive 0 t1 q m d = if x.chooseParent.parentNow = some 0 then x.chooseParent.syncState else x.chooseParent := by
  subst hx
  refine if_neg ?_
  rintro (h2 | hf)
  · exact absurd h2 (by decide)
  · exact absurd (h.symm.trans hf) (by decide)

theorem timeSyncReceive_other {d : Dev} {l : Nat} (t1 : Nat) (q : QueuedTime) (m : TimeSyncMsg)
    (h : 2 ≤ l ∨ d.follows = false) : timeSyncReceive l t1 q m d = d.take l 3 := if_pos h

theorem interval_pos {n : Int} (h : -7 ≤ n) : 0 < interval n := by
  unfold interval
  split
  · have h7 : (-n).toNat ≤ 7 := by omega
    have hpow : 2 ^ (-n).toNat ≤ 2 ^ 7 := Nat.pow_le_pow_right (by decide) h7
    exact Nat.div_pos (by omega) (by positivity)
  · positivity

/-- A TIME_SYNC of the present instant from LOCKED or HOLDOVER is good. -/
theorem Dev.parentNow_planeA {d : Dev} {h : SyncHeard} (hd : d.time.syncA = some h) (hs : h.state = 3 ∨ h.state = 4)
    (hat : h.at_ = d.mono) (hi : -7 ≤ h.syncLog2) : d.parentNow = some 0 := by
  refine if_pos ?_
  rw [hd]
  change h.good d.mono = true
  have := interval_pos hi
  rw [SyncHeard.good, hat, Nat.sub_self]
  simpa [hs] using this

theorem timeSyncReceive_heard {d : Dev} (t1 : Nat) (q : QueuedTime) (m : TimeSyncMsg) (h : d.follows = true) {y : Dev}
    (hy : y = timeSyncReceive 0 t1 q m d) : y.time.syncA = some (d.syncHeard 0 t1 q m) ∧ y.time.syncB = d.time.syncB
      ∧ (m.state = 3 ∨ m.state = 4 → -7 ≤ m.syncLog2 → y.time.parentLane = some 0 ∧ (d.time.state = .free → y.time.state = .acquiring))
      ∧ y.time.secs = d.time.secs ∧ y.time.nanos = d.time.nanos := by
  obtain ⟨x, hx⟩ : ∃ x, x = (d.take 0 3).setTime (fun t => { t with syncA := some (d.syncHeard 0 t1 q m) }) := ⟨_, rfl⟩
  have hxA : x.time.syncA = some (d.syncHeard 0 t1 q m) := by rw [hx]; rfl
  have hxB : x.time.syncB = d.time.syncB := by rw [hx]; rfl
  have hxs : x.time.secs = d.time.secs := by rw [hx]; rfl
  have hxn : x.time.nanos = d.time.nanos := by rw [hx]; rfl
  have hstate : x.time.state = d.time.state := by rw [hx]; rfl
  have hmono : x.mono = d.mono := by rw [hx]; rfl
  obtain ⟨hA, hB, hs, hn⟩ := x.chooseParent_kept
  rw [timeSyncReceive_planeA t1 q m h hx] at hy
  have hkept : y.time.heardAt = x.chooseParent.time.heardAt := by
    rw [hy]
    split
    · exact Dev.heardAt_syncState _
    · rfl
  simp only [Belfry.heardAt, Prod.mk.injEq] at hkept
  obtain ⟨hyA, hyB, hyl, hys, hyn⟩ := hkept
  refine ⟨by rw [hyA, hA, hxA], by rw [hyB, hB, hxB], fun hm hi => ?_, by rw [hys, hs, hxs], by rw [hyn, hn, hxn]⟩
  have hgood : (d.syncHeard 0 t1 q m).state = 3 ∨ (d.syncHeard 0 t1 q m).state = 4 :=
    hm.imp (fun h => by simp [Dev.syncHeard, h]) (fun h => by simp [Dev.syncHeard, h])
  obtain ⟨hl, hst, hnow⟩ := Dev.chooseParent_parent (Dev.parentNow_planeA hxA hgood hmono.symm hi)
  rw [if_pos hnow] at hy
  exact ⟨by rw [hyl, hl], fun hfree => by rw [hy, Dev.syncState_free (by rw [hst, hstate, hfree])]⟩

/-! ## DELAY_REQ and DELAY_RESP (R301, R302) -/

theorem delayReqSend_none {d : Dev} (h : d.time.parentLane = none) : delayReqSend d = d := by
  rw [delayReqSend, h]

theorem delayReqSend_parent {d : Dev} {p : Nat} (h : d.time.parentLane = some p) : delayReqSend d
    = (d.setTime (fun t => { t with delayReq := some (d.net.seq, d.leavesAt p) })).sendLocal p 0 4 0 false
      (be 6 d.time.secs ++ be 4 d.time.nanos ++ List.replicate 6 0) := by
  rw [delayReqSend, h]
  rfl

theorem delayReqReceive_unassigned {d : Dev} (l seq : Nat) (h : d.net.role = .unassigned) : delayReqReceive l seq d = d.take l 4 :=
  if_pos (.inl h)

theorem delayReqReceive_answers {d : Dev} {l : Nat} (seq : Nat) {t4 : Time} (hr : d.net.role ≠ .unassigned)
    (hup : d.laneUp l = true) (h2 : l ≠ 2) (h3 : l ≠ 3) (ht : t4 = timeOf (extendBefore d.time.secs (d.stampOf l 4))) :
    delayReqReceive l seq d
      = (d.take l 4).sendLocal l 0 5 0 false (be 6 t4.secs ++ be 4 t4.nanos ++ be 2 seq ++ [0, 0, 0, 0]) := by
  subst ht
  refine if_neg ?_
  rintro (h | h | h | h)
  · exact hr h
  · exact absurd (hup.symm.trans h) (by decide)
  · exact h2 h
  · exact h3 h

/-- The answer awaited, its stamps kept (R301). -/
def Dev.answered (d : Dev) (l t3 t4 : Nat) : Dev :=
  ((d.take l 5).setTime (fun t => { t with delayReq := none, exchange := some (t3, t4) })).formOffset

theorem delayRespReceive_awaited {d : Dev} {l t3 : Nat} {a : DelayRespMsg} (hq : d.time.delayReq = some (a.reqSeq, t3))
    (hp : d.time.parentLane = some l) {x : Dev} (hx : x = d.answered l t3 (1000000000 * a.secs.toNat + a.nanos.toNat)) :
    delayRespReceive l a d = if x.time.state = .acquiring ∧ x.time.stepped = false then x.qualify else x := by
  subst hx
  have hq' : (d.take l 5).time.delayReq = some (a.reqSeq, t3) := hq
  rw [delayRespReceive, hq']
  refine if_neg ?_
  rintro (h | h)
  · exact h rfl
  · exact h hp

theorem delayRespReceive_other {d : Dev} {l : Nat} {a : DelayRespMsg} (h : d.time.delayReq = none ∨ d.time.parentLane ≠ some l
    ∨ (∃ n t3, d.time.delayReq = some (n, t3) ∧ n ≠ a.reqSeq)) : delayRespReceive l a d = d.take l 5 := by
  unfold delayRespReceive
  dsimp only
  split
  · rfl
  · rename_i q t3 hq
    replace hq : d.time.delayReq = some (q, t3) := hq
    refine if_pos ?_
    rcases h with h | h | ⟨n, t, h, hn⟩
    · exact absurd (hq.symm.trans h) (by simp)
    · exact .inr h
    · rw [hq] at h
      injection h with h
      injection h with h
      exact .inl (h ▸ hn)

theorem Dev.qualify_eq (d : Dev) : ∃ ds st w, d.qualify = d.setTime (fun t => { t with
    delays := ds, state := st, waitRaised := w }) := by
  unfold Dev.qualify
  dsimp only
  split
  · exact ⟨_, _, _, rfl⟩
  · exact ⟨_, d.time.state, d.time.waitRaised, rfl⟩

/-- OFFSET_LAST and PATH_DELAY, where the parent's stamps are at hand, and nothing else (R302). -/
theorem Dev.formOffset_eq (d : Dev) : ∃ o p, d.formOffset = d.setTime (fun t => { t with offsetLast := o, pathDelay := p }) := by
  unfold Dev.formOffset
  split
  · split
    · exact ⟨_, _, rfl⟩
    · exact ⟨d.time.offsetLast, d.time.pathDelay, rfl⟩
  · exact ⟨d.time.offsetLast, d.time.pathDelay, rfl⟩

theorem Dev.formOffset_stamped {d : Dev} {h : SyncHeard} {t3 t4 l : Nat} (hs : d.parentSync = some h) (hst : h.stamped = true)
    (he : d.time.exchange = some (t3, t4)) (hl : d.time.parentLane = some l) : d.formOffset = d.setTime (fun t => { t with
      offsetLast := masterOffset h.t1 h.t2 t3 t4 (tget 0 d.cfg.time.asymTrim l), pathDelay := pathOf h.t1 h.t2 t3 t4 }) := by
  unfold Dev.formOffset
  rw [hs, he, hl]
  exact if_pos hst

theorem delayRespReceive_eq {d : Dev} {l t3 : Nat} {a : DelayRespMsg} (hq : d.time.delayReq = some (a.reqSeq, t3))
    (hp : d.time.parentLane = some l) : ∃ o p ds st w, delayRespReceive l a d = (d.take l 5).setTime (fun t => { t with
      delayReq := none, exchange := some (t3, 1000000000 * a.secs.toNat + a.nanos.toNat)
      offsetLast := o, pathDelay := p, delays := ds, state := st, waitRaised := w })
    ∧ (∀ h, d.parentSync = some h → h.stamped = true →
      o = masterOffset h.t1 h.t2 t3 (1000000000 * a.secs.toNat + a.nanos.toNat) (tget 0 d.cfg.time.asymTrim l)
        ∧ p = pathOf h.t1 h.t2 t3 (1000000000 * a.secs.toNat + a.nanos.toNat))
    ∧ (d.time.state ≠ .acquiring ∨ d.time.stepped = true → st = d.time.state ∧ ds = d.time.delays) := by
  obtain ⟨t4, ht4⟩ : ∃ t4, t4 = 1000000000 * a.secs.toNat + a.nanos.toNat := ⟨_, rfl⟩
  rw [← ht4]
  obtain ⟨o, p, hform⟩ := ((d.take l 5).setTime (fun t => { t with delayReq := none, exchange := some (t3, t4) })).formOffset_eq
  have hvalues : ∀ h, d.parentSync = some h → h.stamped = true →
      o = masterOffset h.t1 h.t2 t3 t4 (tget 0 d.cfg.time.asymTrim l) ∧ p = pathOf h.t1 h.t2 t3 t4 := fun h hs hst => by
    have hstamped := Dev.formOffset_stamped
      (d := (d.take l 5).setTime (fun t => { t with delayReq := none, exchange := some (t3, t4) })) hs hst rfl hp
    rw [hform] at hstamped
    exact ⟨congrArg (fun x => x.time.offsetLast) hstamped, congrArg (fun x => x.time.pathDelay) hstamped⟩
  have hif := delayRespReceive_awaited hq hp rfl
  rw [← ht4, Dev.answered, hform] at hif
  by_cases hc : d.time.state = .acquiring ∧ d.time.stepped = false
  · obtain ⟨ds, st, w, hqual⟩ := (((d.take l 5).setTime (fun t => { t with delayReq := none, exchange := some (t3, t4) })).setTime
      (fun t => { t with offsetLast := o, pathDelay := p })).qualify_eq
    refine ⟨o, p, ds, st, w, hif.trans ((if_pos hc).trans hqual), hvalues, fun h => ?_⟩
    obtain ⟨hs, hst⟩ := hc
    rcases h with h | h
    · exact absurd hs h
    · exact absurd (h.symm.trans hst) (by decide)
  · exact ⟨o, p, d.time.delays, d.time.state, d.time.waitRaised, hif.trans (if_neg hc), hvalues, fun _ => ⟨rfl, rfl⟩⟩

/-- Settles O38, from what the controller's own frames do to a lane that has room, and from what each message records. -/
theorem timeExchange : Obligations.TimeExchange := by
  unfold Obligations.TimeExchange
  intro l seq t1 q m a s
  refine ⟨fun ls hls => ⟨_, gives_of_upd _ rfl rfl, ?_⟩, fun good hgood hf => ⟨_, gives_of_upd _ rfl rfl, ?_⟩,
    fun h => gives_of_upd _ rfl (timeSyncReceive_other _ q m h), fun h => gives_of_upd _ rfl (delayReqSend_none h),
    fun p f hp hp2 hup hfr hroom => ?_, fun h => gives_of_upd _ rfl (delayReqReceive_unassigned l seq.toNat h),
    fun t4 f hr hup hl ht hfr hroom => ?_, fun t3 t4 hreq hp ht => ?_, fun h => gives_of_upd _ rfl (delayRespReceive_other h)⟩
  · replace hls : ls = s.dev.syncLanes := hls
    obtain ⟨ls', hsend, hnodup, hsub, hsup⟩ := timeSyncSend_lanes s.dev
    rw [hsend]
    refine ⟨fun k hk hup hduty hroom => ?_, fun k hk => Dev.lane_sendEach_other _ _ _ _ fun h => hk (hls ▸ hsub k h), ?_⟩
    · exact Dev.lastQueued_sendSyncs hnodup (hsup k (hls ▸ hk) hup) hup hduty hroom
    · rw [Dev.sendSyncs]
      obtain ⟨t, n, c, hy⟩ := s.dev.onQueues_sendEach 0 3 (fun _ x => x.syncPayload) ls'
      rw [hy]
  · obtain ⟨hA, hB, hparent, hs, hn⟩ := timeSyncReceive_heard t1.toNat q m hf rfl
    exact ⟨by rw [hgood]; exact hA, hB, hparent, hs, hn, timeSyncReceive_cyc ..⟩
  · have htyp : f.typ = 4 := by rw [hfr]; exact mkFrame_typ _ _ _ _ _ _ _ (by decide)
    have htravel : (s.dev.setTime (fun t => { t with delayReq := some (s.dev.net.seq, s.dev.leavesAt p) })).mayTravel p f = true :=
      Dev.mayTravel_up hup (.inl hp2) (by rw [htyp]; decide)
    subst hfr
    refine ⟨_, gives_of_upd _ rfl ((delayReqSend_parent hp).trans (Dev.sendLocal_of_hasRoom (by decide) (by decide) htravel
      (by simp [be_length]) hroom)), queued_ownFrame (by decide) (by decide), rfl, rfl⟩
  · have hlane : (l : Nat) ≠ 2 ∧ (l : Nat) ≠ 3 := by
      have hmate := fun h2 h4 => s.dev.laneDuty_mate (l := l) h2 h4
      omega
    have htyp : f.typ = 5 := by rw [hfr]; exact mkFrame_typ _ _ _ _ _ _ _ (by decide)
    have htravel : (s.dev.take l 4).mayTravel l f = true := Dev.mayTravel_up hup hl (by rw [htyp]; decide)
    subst hfr
    refine ⟨_, gives_of_upd _ rfl ((delayReqReceive_answers seq.toNat hr hup hlane.1 hlane.2 ht).trans
      (Dev.sendLocal_of_hasRoom (by decide) (by decide) htravel (by simp [be_length]) hroom)),
      queued_ownFrame (by decide) (by decide), rfl⟩
  · subst ht
    obtain ⟨o, p, ds, st, w, hy, hvalues, hkept⟩ := delayRespReceive_eq hreq hp
    exact ⟨_, gives_of_upd _ rfl hy, rfl, rfl, hvalues, hkept, rfl, rfl, rfl⟩

end Sys2Proof.Machine
end

section
/-! The clock's single step, the loss of its source and the Dome's own sources (R293, R296, R304 to R307, R310). -/

namespace Sys2Proof.Machine

/-! ## The single step (R304, R310) -/

/-- The device at the step: the clock and the tick grid at the target, nothing that waited for it left. -/
def Dev.stepTaken (d : Dev) : Dev :=
  let y := d.setTime (fun b => { b.setNow d.stepTarget with
    stepped := true, state := .acquiring, inLock := 0, ppsGood := 0, stepBy := none, setTo := none
    lastTick := d.stepTarget, nextTick := ceilTo d.period (d.stepTarget + d.period)
    syncA := unstamp b.syncA, syncB := unstamp b.syncB, exchange := none, delayReq := none, delays := [] })
  { y with rd := { d.rd with injects := releasePassed d.cycleNo (y.time.nextTick / d.period) d.rd.injects } }

theorem timeStep_due {d : Dev} (hs : d.time.state = .lockPending) (hst : d.time.stepped = false) (hl : d.loop.state = .stopped)
    (hn : d.now = d.time.lastTick) :
    timeStep d = if d.domeEn = true ∧ d.cfg.time.source = 0 then d.stepTaken.becomeLocked else d.stepTaken :=
  if_pos ⟨hs, hst, hl, hn⟩

theorem timeStep_not_due {d : Dev} (h : d.time.state ≠ .lockPending ∨ d.time.stepped = true ∨ d.loop.state ≠ .stopped
    ∨ d.now ≠ d.time.lastTick) : timeStep d = d := by
  refine if_neg ?_
  rintro ⟨hs, hst, hl, hn⟩
  rcases h with h | h | h | h
  · exact h hs
  · exact absurd (h.symm.trans hst) (by decide)
  · exact h hl
  · exact h hn

theorem Belfry.now_setNow (b : Belfry) {t : Nat} (h : t < 2 ^ 48 * 1000000000) : (b.setNow t).now = t := by
  simp only [Belfry.setNow, Belfry.now]
  omega

theorem Dev.now_stepTaken {d : Dev} (h : d.stepTarget < 2 ^ 48 * 1000000000) : d.stepTaken.now = d.stepTarget :=
  Belfry.now_setNow d.time h

/-- The clock apart, LOCKED leaves the Event Unit's record of it (R304). -/
theorem Dev.becomeLocked_eq (d : Dev) : ∃ v, d.becomeLocked = { d with
    time := { d.time with state := .locked, inLock := 0, ppsGood := 0, recover := false }, ev := v }
    ∧ v = (Dev.raise (d.setTime (fun t => { t with state := .locked, inLock := 0, ppsGood := 0, recover := false })) .timeLocked).ev :=
  ⟨_, Dev.raise_eq .., rfl⟩

/-! ## Losing the source (R306, R307) -/

/-- The device without its parent. -/
def Dev.orphaned (d : Dev) : Dev := d.setTime (fun t => { t with
  parentLane := none, syncA := none, syncB := none, exchange := none, delayReq := none, inLock := 0 })

theorem parentLost_kept {d : Dev} (h : d.follows = false ∨ d.parentRecent = true) : parentLost d = d := if_pos h

section
variable {d : Dev} (hf : d.follows = true) (hr : d.parentRecent = false)
include hf hr

theorem parentLost_orphaned : parentLost d = match d.time.state with
    | .locked => d.orphaned.enterHoldover
    | .acquiring | .lockPending => d.orphaned.loseBeforeLock
    | .free | .holdover | .expired => d.orphaned := if_neg (by simp [hf, hr])

theorem parentLost_locked (h : d.time.state = .locked) : parentLost d = d.orphaned.enterHoldover := by
  rw [parentLost_orphaned hf hr, h]

theorem parentLost_unlocked (h : d.time.state = .acquiring ∨ d.time.state = .lockPending) :
    parentLost d = d.orphaned.loseBeforeLock := by
  rw [parentLost_orphaned hf hr]
  rcases h with h | h <;> rw [h]

theorem parentLost_idle (h : d.time.state = .free ∨ d.time.state = .holdover ∨ d.time.state = .expired) :
    parentLost d = d.orphaned := by
  rw [parentLost_orphaned hf hr]
  rcases h with h | h | h <;> rw [h]

end

theorem Belfry.inLock_freeze (t : Belfry) : t.freeze.inLock = t.inLock := by
  unfold Belfry.freeze
  split <;> rfl

theorem Dev.enterHoldover_eq {d : Dev} (h : d.time.inLock = 0) : d.enterHoldover = Dev.raise
    { d with time := { d.time.freeze with state := .holdover, holdoverAt := d.time.up, ppsGood := 0 } } .timeHoldover := by
  have hlock : { d.time.freeze with state := .holdover, holdoverAt := d.time.up, inLock := 0, ppsGood := 0 }
      = { d.time.freeze with state := .holdover, holdoverAt := d.time.up, ppsGood := 0 } := by
    rw [← h, ← d.time.inLock_freeze]
  rw [← hlock]
  rfl

theorem holdoverExpired_due {d : Dev} (hs : d.time.state = .holdover)
    (ht : d.time.holdoverAt + 1000000 * d.cfg.time.holdoverLimit ≤ d.time.up) :
    holdoverExpired d = Dev.raise { d with time := { d.time with state := .expired } } .timeLost := if_pos ⟨hs, ht⟩

theorem holdoverExpired_not_due {d : Dev} (h : d.time.state ≠ .holdover
    ∨ d.time.up < d.time.holdoverAt + 1000000 * d.cfg.time.holdoverLimit) : holdoverExpired d = d :=
  if_neg fun ⟨hs, ht⟩ => h.elim (fun h => h hs) (fun h => absurd ht (not_le.2 h))

/-! ## TIME_SET and TIME_SOURCE (R305, R306) -/

section
variable {d : Dev} {secs nanos : Nat} (hn : nanos < 1000000000)
include hn

theorem timeSet_conflict (h : d.domeEn = false ∨ d.cfg.time.source = 1 ∨ d.time.state ≠ .free) :
    timeSet secs nanos d = (.conflict, d) := by
  rw [timeSet, if_neg (not_le.2 hn), if_pos h]

theorem timeSet_free (hd : d.domeEn = true) (h1 : d.cfg.time.source ≠ 1) (hs : d.time.state = .free) : timeSet secs nanos d
    = if d.cfg.time.source = 0 then
        (.ok, d.setTime (fun t => { t with state := .lockPending, waitRaised := false, setTo := some ⟨secs, nanos⟩ }))
      else (.ok, d.setTime (fun t => { t with state := .acquiring, ppsSeconds := some secs })) := by
  rw [timeSet, if_neg (not_le.2 hn), if_neg (by simp [hd, h1, hs])]

end

theorem timeSourceWrite_free {d : Dev} {v : Nat} (h : d.time.state = .free) : timeSourceWrite v d
    = if 2 < v then (.invalid, d) else if d.domeEn = false then (.conflict, d)
      else (.ok, { d with cfg := { d.cfg with time := { d.cfg.time with source := v } } }) := if_neg (not_not.2 h)

/-! ## The servo's rate (R293, R304) -/

theorem servoLimit_bounds (v : Nat) : 4294967296 - 858993 ≤ servoLimit v ∧ servoLimit v ≤ 4294967296 + 858993 := by
  unfold servoLimit nominal
  omega

/-- What the servo writes is accepted: ADDEND stays within 200 ppm of nominal (R293). -/
theorem Dev.writeAddend_servoLimit (d : Dev) (v : Nat) : ∃ a : BitVec 36, d.writeAddend (servoLimit v)
    = d.setTime (fun t => { t with addend := a }) ∧ 4294967296 - 858993 ≤ a.toNat ∧ a.toNat ≤ 4294967296 + 858993 := by
  obtain ⟨hlo, hhi⟩ := servoLimit_bounds v
  refine ⟨BitVec.ofNat 36 (servoLimit v), if_pos ?_, ?_⟩
  · unfold nominal
    omega
  · rw [BitVec.toNat_ofNat, Nat.mod_eq_of_lt (by omega)]
    exact ⟨hlo, hhi⟩

theorem Dev.servo_eq (d : Dev) : ∃ a : BitVec 36, d.servo = { d with time := { d.time with addend := a }, free := d.free + 1 }
    ∧ 4294967296 - 858993 ≤ a.toNat ∧ a.toNat ≤ 4294967296 + 858993 := by
  obtain ⟨a, ha, hb⟩ := d.writeAddend_servoLimit
    (d.time.recoverLimit (Config.servoAddend d.time.addend.toNat d.time.offsetLast d.time.pathDelay d.free))
  refine ⟨a, ?_, hb⟩
  rw [Dev.servo, ha]
  rfl

theorem Dev.holdOffset_eq (d : Dev) : ∃ a : BitVec 36, d.holdOffset
    = { d with time := { d.time with addend := a }, free := d.free + 1 }
    ∧ 4294967296 - 858993 ≤ a.toNat ∧ a.toNat ≤ 4294967296 + 858993 := by
  obtain ⟨a, ha, hb⟩ := d.writeAddend_servoLimit (Config.holdAddend d.time.addend.toNat d.time.offsetLast d.free)
  refine ⟨a, ?_, hb⟩
  rw [Dev.holdOffset, ha]
  rfl

/-! ## PPS_IN (R296, R305, R306) -/

/-- The edge's stamp. -/
def Dev.ppsStamped (d : Dev) : Dev :=
  d.setTime (fun t => { t with ppsStamp := ⟨t.secs, t.nanos⟩, ppsLast := some t.up })

theorem ppsInEdge_other {d : Dev} (h : d.domeEn = false ∨ d.cfg.time.source ≠ 2) : ppsInEdge d = d.ppsStamped := if_pos h

section
variable {d : Dev} (hd : d.domeEn = true) (hs : d.cfg.time.source = 2)
include hd hs

theorem ppsInEdge_pps : ppsInEdge d = if d.time.stepped then d.ppsStamped.ppsTrack
    else match d.time.state, d.time.ppsSeconds with
      | .acquiring, some n => d.ppsStamped.setTime (fun t => { t with
          state := .lockPending, waitRaised := false, ppsSeconds := none
          stepBy := some ((t.now : Int) - (1000000000 * n : Nat)) })
      | .lockPending, _ => match d.time.stepBy with
        | some b => (d.ppsStamped.setTime (fun t => { t with
            offsetLast := fromSecond (((d.ppsStamped.now : Int) - b) % 1000000000).toNat * 100 })).holdOffset
        | none => d.ppsStamped
      | _, _ => d.ppsStamped := by
  refine if_neg ?_
  rintro (h | h)
  · exact absurd (hd.symm.trans h) (by decide)
  · exact h hs

theorem ppsInEdge_second {n : Nat} (hst : d.time.stepped = false) (ha : d.time.state = .acquiring)
    (hn : d.time.ppsSeconds = some n) : ppsInEdge d = d.ppsStamped.setTime (fun t => { t with
      state := .lockPending, waitRaised := false, ppsSeconds := none
      stepBy := some ((d.now : Int) - ((1000000000 * n : Nat) : Int)) }) := by
  rw [ppsInEdge_pps hd hs, hst, ha, hn]
  rfl

theorem ppsInEdge_waits {b : Int} (hst : d.time.stepped = false) (hl : d.time.state = .lockPending)
    (hb : d.time.stepBy = some b) : ppsInEdge d = (d.ppsStamped.setTime (fun t => { t with
      offsetLast := fromSecond (((d.now : Int) - b) % 1000000000).toNat * 100 })).holdOffset := by
  rw [ppsInEdge_pps hd hs, hst, hl, hb]
  rfl

theorem ppsInEdge_stepped (hst : d.time.stepped = true) : ppsInEdge d = d.ppsStamped.ppsTrack := by
  rw [ppsInEdge_pps hd hs, hst]
  rfl

end

/-- What an edge after the step records, and the lock of the 16th good one in a row (R306). -/
theorem Dev.ppsTrack_eq {d : Dev} {o : Int} {n : Nat} (ho : o = fromSecond d.time.nanos)
    (hn : n = if -10 ≤ o ∧ o ≤ 10 then d.time.ppsGood + 1 else 0) : ∃ a : BitVec 36,
      d.ppsTrack = (if 16 ≤ n ∧ d.time.state ≠ .locked then Dev.becomeLocked else id) { d with
          time := { d.time with offsetLast := o * 100, ppsGood := n, addend := a }, free := d.free + 1 }
      ∧ 4294967296 - 858993 ≤ a.toNat ∧ a.toNat ≤ 4294967296 + 858993 := by
  obtain ⟨a, ha, hb⟩ := (d.setTime (fun t => { t with offsetLast := o * 100, ppsGood := n })).servo_eq
  refine ⟨a, ?_, hb⟩
  have htrack : d.ppsTrack = if 16 ≤ n ∧ (d.setTime (fun t => { t with offsetLast := o * 100, ppsGood := n })).servo.time.state ≠ .locked
      then (d.setTime (fun t => { t with offsetLast := o * 100, ppsGood := n })).servo.becomeLocked
      else (d.setTime (fun t => { t with offsetLast := o * 100, ppsGood := n })).servo := by
    rw [hn, ho]
    simp only [Dev.ppsTrack, decide_eq_true_eq]
  rw [htrack, ha]
  by_cases h : 16 ≤ n ∧ d.time.state ≠ .locked
  · rw [if_pos h]
    exact if_pos h
  · rw [if_neg h]
    exact if_neg h

theorem ppsHoldover_due {d : Dev} (hd : d.domeEn = true) (hs : d.cfg.time.source = 2) (hl : d.time.state = .locked)
    (ht : ∀ t, d.time.ppsLast = some t → 3000000000 + t ≤ d.time.up) (hnone : d.time.ppsLast = none → 3000000000 ≤ d.time.up) :
    ppsHoldover d = d.enterHoldover := by
  refine (if_neg ?_).trans (by rw [hl])
  rintro (h | h | h)
  · exact absurd (hd.symm.trans h) (by decide)
  · exact h hs
  · cases hp : d.time.ppsLast with
    | none =>
      rw [hp] at h
      exact absurd (of_decide_eq_true h) (not_lt.2 (hnone hp))
    | some t =>
      rw [hp] at h
      exact absurd (of_decide_eq_true h) (not_lt.2 (ht t hp))

/-- Settles O39, from what each command does in the states in which it does anything. -/
theorem timeKeeping : Obligations.TimeKeeping := by
  unfold Obligations.TimeKeeping
  intro secs nanos v s
  refine ⟨fun hs hst hl hn ht => ⟨_, gives_of_upd _ rfl (timeStep_due hs hst hl hn), ?step⟩,
    fun h => gives_of_upd _ rfl (timeStep_not_due h), fun h => gives_of_upd _ rfl (parentLost_kept h), ?lost,
    fun h ht => gives_of_upd _ rfl (holdoverExpired_due h ht), fun h => gives_of_upd _ rfl (holdoverExpired_not_due h),
    fun h => answers_of_ask _ rfl (if_pos h), fun hn => ⟨fun h => answers_of_ask _ rfl (timeSet_conflict hn h), fun hd h1 hf =>
      ⟨fun h => answers_of_ask _ rfl ((timeSet_free hn hd h1 hf).trans (if_pos h)),
        fun h => answers_of_ask _ rfl ((timeSet_free hn hd h1 hf).trans (if_neg h))⟩⟩,
    fun h => answers_of_ask _ rfl (if_pos h), fun hf => ⟨fun h => answers_of_ask _ rfl ((timeSourceWrite_free hf).trans (if_pos h)),
      fun h2 hd => answers_of_ask _ rfl ((timeSourceWrite_free hf).trans ((if_neg (not_lt.2 h2)).trans (if_pos hd))),
      fun h2 hd => answers_of_ask _ rfl ((timeSourceWrite_free hf).trans ((if_neg (not_lt.2 h2)).trans (if_neg (by simp [hd]))))⟩,
    ?pps, fun hd hs hl ht hnone => gives_of_upd _ rfl (ppsHoldover_due hd hs hl ht hnone)⟩
  case step =>
    have hnow := Dev.now_stepTaken ht
    by_cases hdome : s.dev.domeEn = true ∧ s.dev.cfg.time.source = 0
    · obtain ⟨v, hy, hv⟩ := s.dev.stepTaken.becomeLocked_eq
      rw [if_pos hdome, hy]
      refine ⟨hnow, rfl, rfl, rfl, fun h => ?_, fun _ _ => ⟨rfl, ?_⟩, rfl, rfl⟩
      · rcases h with h | h
        · exact absurd (hdome.1.symm.trans h) (by decide)
        · exact absurd hdome.2 h
      · exact hv.trans (Dev.raise_ev_congr _ _ rfl rfl rfl rfl)
    · rw [if_neg hdome]
      exact ⟨hnow, rfl, rfl, rfl, fun _ => ⟨rfl, rfl⟩, fun hd hs => absurd ⟨hd, hs⟩ hdome, rfl, rfl⟩
  case lost =>
    rintro b rfl hf hr
    refine ⟨fun h => gives_of_upd _ rfl ((parentLost_locked hf hr h).trans (Dev.enterHoldover_eq rfl)), fun h => ⟨fun hst => ?_,
      fun hst => ?_⟩, fun h => gives_of_upd _ rfl (parentLost_idle hf hr h)⟩
    · exact gives_of_upd _ rfl ((parentLost_unlocked hf hr h).trans (if_neg (by simpa [Dev.orphaned] using hst)))
    · exact gives_of_upd _ rfl ((parentLost_unlocked hf hr h).trans (if_pos hst))
  case pps =>
    rintro b rfl
    refine ⟨fun h => gives_of_upd _ rfl (ppsInEdge_other h), fun hd hs => ⟨fun n hst ha hn =>
      gives_of_upd _ rfl (ppsInEdge_second hd hs hst ha hn), fun b hst hl hb => ?_, fun o n ho hn hst => ?_⟩⟩
    · obtain ⟨a, ha, hlo, hhi⟩ := (s.dev.ppsStamped.setTime (fun t => { t with
        offsetLast := fromSecond (((s.dev.now : Int) - b) % 1000000000).toNat * 100 })).holdOffset_eq
      exact ⟨_, gives_of_upd _ rfl ((ppsInEdge_waits hd hs hst hl hb).trans ha), rfl, hl, hst, hb, hlo, hhi, rfl⟩
    · obtain ⟨a, ha, hlo, hhi⟩ := Dev.ppsTrack_eq (d := s.dev.ppsStamped) ho hn
      have hy := (ppsInEdge_stepped hd hs hst).trans ha
      by_cases h : 16 ≤ n ∧ s.dev.ppsStamped.time.state ≠ .locked
      · obtain ⟨v, hlock, -⟩ := Dev.becomeLocked_eq { s.dev.ppsStamped with
          time := { s.dev.ppsStamped.time with offsetLast := o * 100, ppsGood := n, addend := a }
          free := s.dev.ppsStamped.free + 1 }
        rw [if_pos h, hlock] at hy
        exact ⟨_, gives_of_upd _ rfl hy, rfl, hlo, hhi, fun _ => rfl, fun h' => absurd h.1 (not_le.2 h'), rfl⟩
      · rw [if_neg h] at hy
        exact ⟨_, gives_of_upd _ rfl hy, rfl, hlo, hhi, fun h' => not_not.1 fun hl => h ⟨h', hl⟩, fun _ => ⟨rfl, rfl, rfl⟩, rfl⟩

end Sys2Proof.Machine
end

section
/-! Enumeration: the count and assignment passes (R262 to R267, R277). -/

namespace Sys2Proof.Machine

variable {d : Dev}

/-! ## Frames sent as the device stood (R257, R279) -/

/-- A device y that sends a frame as d does: its lanes, its numbering, its address, its settings and its clock are those of d. -/
structure Dev.SendsAs (d y : Dev) : Prop where
  lanes : y.net.lanes = d.net.lanes
  seq : y.net.seq = d.net.seq
  address : y.net.address = d.net.address
  role : y.net.role = d.net.role
  boot : y.boot = d.boot
  cfg : y.cfg = d.cfg
  time : y.time = d.time

section
variable {y : Dev} (h : d.SendsAs y)
include h

theorem Dev.SendsAs.lane (k : Nat) : y.lane k = d.lane k := by rw [Dev.lane, Dev.lane, h.lanes]

theorem Dev.SendsAs.ownFrame (cls typ dest : Nat) (p : List Byte) : y.ownFrame cls typ dest p = d.ownFrame cls typ dest p := by
  rw [Dev.ownFrame, Dev.ownFrame, Dev.laneUp, Dev.laneUp, h.lane, h.address, h.seq]

theorem Dev.SendsAs.mayTravel (k : Nat) (f : Frame) : y.mayTravel k f = d.mayTravel k f := by
  unfold Dev.mayTravel Dev.laneDuty
  rw [Dev.laneUp, Dev.laneUp, h.lane, h.boot, h.role]

theorem Dev.SendsAs.hasRoom {k cls : Nat} {f : Frame} (hr : d.hasRoom k cls f) : y.hasRoom k cls f := by
  rw [Dev.hasRoom, h.lane, Dev.queueLimit, h.cfg]
  exact hr

/-- The frame goes to the end of the lane's queue, under the next number. -/
theorem Dev.SendsAs.sent {l cls typ dest : Nat} {p : List Byte} (hc : cls < 8) (ht : typ < 32)
    (htravel : d.mayTravel l (d.ownFrame cls typ dest p) = true) (hp : p.length ≤ 986)
    (hroom : d.hasRoom l cls (d.ownFrame cls typ dest p)) : ∃ t q z, y.sendLocal l cls typ dest false p = z
      ∧ z = { y with net := { y.net with lanes := t, seq := q } } ∧ Queued d z l cls (d.ownFrame cls typ dest p) := by
  have hf := h.ownFrame cls typ dest p
  refine ⟨_, _, _, Dev.sendLocal_of_hasRoom hc ht (by rw [h.mayTravel, hf]; exact htravel) hp (by rw [hf]; exact h.hasRoom hroom),
    rfl, ?_⟩
  obtain ⟨hq, hs⟩ := queued_ownFrame (d := y) (l := l) (dest := dest) (p := p) hc ht
  rw [hf, h.lane, h.time] at hq
  rw [h.seq] at hs
  rw [← hf] at hq ⊢
  exact ⟨hq, hs⟩

end

/-! ## ENUMERATE frames (R262) -/

theorem enumPayload_length (op depth status : Nat) (chain : Bool) (gen value blockHigh dome : Nat) :
    (enumPayload op depth status chain gen value blockHigh dome).length = 16 := by
  simp [enumPayload, be_length]

/-- The uplink to the parent carries ENUMERATE while it is enabled (R261). -/
theorem Dev.mayTravel_enum_uplink {f : Frame} (hr : (d.lane 0).receives = true) (ht : f.typ = 1) : d.mayTravel 0 f = true := by
  rw [Dev.mayTravel, if_neg (by simp [hr]), if_neg (by omega), if_pos (by decide), ht]
  rfl

/-- An ENUMERATE frame to the parent, its lane enabled and with room. -/
theorem Dev.SendsAs.sent_parent {y : Dev} (h : d.SendsAs y) {p : List Byte} (hr : (d.lane 0).receives = true) (hp : p.length ≤ 986)
    (hroom : d.hasRoom 0 2 (d.ownFrame 2 1 0 p)) : ∃ t q z, y.sendLocal 0 2 1 0 false p = z
      ∧ z = { y with net := { y.net with lanes := t, seq := q } } ∧ Queued d z 0 2 (d.ownFrame 2 1 0 p) :=
  h.sent (by decide) (by decide) (Dev.mayTravel_enum_uplink hr (mkFrame_typ _ _ _ _ _ _ _ (by decide))) hp hroom

/-! ## The children (R263) -/

theorem Dev.childLanes_nodup (d : Dev) : d.childLanes.Nodup :=
  (List.Nodup.map (fun _ _ h => Nat.add_right_cancel h) List.nodup_range).filter _

theorem Dev.mem_childLanes {k : Nat} (h : k ∈ d.childLanes) : 4 ≤ k ∧ (d.lane k).heard = true ∧ (d.lane k).peerLane = 0 := by
  obtain ⟨hk, hp⟩ := List.mem_filter.1 h
  obtain ⟨i, -, rfl⟩ := List.mem_map.1 hk
  rw [Bool.and_eq_true, decide_eq_true_eq] at hp
  exact ⟨Nat.le_add_left .., hp⟩

/-- An enabled lane with a child carries ENUMERATE (R255). -/
theorem Dev.mayTravel_enum_child {k : Nat} {f : Frame} (hk : k ∈ d.childLanes) (hr : (d.lane k).receives = true) (ht : f.typ = 1) :
    d.mayTravel k f = true := by
  obtain ⟨h4, hheard, hpeer⟩ := Dev.mem_childLanes hk
  rw [Dev.mayTravel, if_neg (by simp [hr]), if_neg (by omega), if_neg (by omega), if_neg (by omega), if_pos ht, hheard, hpeer]
  rfl

/-- The count of the children begins (R263). -/
def Dev.counting (d : Dev) : Dev :=
  d.setNet (fun n => { n with enumState := .counting, enumAt := d.mono, children := d.childLanes.map (fun l => { lane := l }) })

/-- What a COUNT to a child says. -/
def Dev.countAsked (d : Dev) : List Byte :=
  enumPayload 0 (d.net.depth + 1) 0 d.net.chain d.net.enumGen.toNat 0 0 d.net.domeAddr

theorem Dev.askCounts_eq (d : Dev) : d.askCounts = d.counting.sendEach 2 1 (fun _ x => x.countAsked) d.childLanes := rfl

theorem Dev.OnQueues.countAsked {y : Dev} (h : d.OnQueues y) : y.countAsked = d.countAsked := by
  obtain ⟨t, n, c, rfl⟩ := h
  rfl

theorem Dev.onQueues_askCounts (d : Dev) : d.counting.OnQueues d.askCounts := Dev.onQueues_sendEach ..

theorem Dev.lastQueued_askCounts {k : Nat} (hk : k ∈ d.childLanes) (hr : (d.lane k).receives = true)
    (hroom : (d.lane k).depth 2 + 64 ≤ d.queueLimit (8 * k + 2)) : d.LastQueued d.askCounts k 2 1 0 d.counting.countAsked := by
  rw [Dev.askCounts_eq]
  exact Dev.lastQueued_sendEach (d := d.counting) (p := fun _ x => x.countAsked) (by decide) (by decide)
    (fun _ x => by rw [Dev.countAsked, enumPayload_length]; decide) (fun _ _ _ h => h.countAsked) d.childLanes_nodup hk
    ⟨fun f hf => Dev.mayTravel_enum_child (d := d.counting) hk hr hf, by rw [Dev.countAsked, enumPayload_length]; exact hroom⟩

/-- A child still counting keeps the count from its end. -/
theorem Dev.finishIfCounted_waits (h : ∃ c ∈ d.net.children, c.count = none ∧ c.excluded = false) : d.finishIfCounted = d := by
  refine if_neg fun hall => ?_
  obtain ⟨c, hc, hcount, hex⟩ := h
  have := List.all_eq_true.1 hall c hc
  simp [hcount, hex] at this

theorem Dev.askCounts_waits (h : d.childLanes ≠ []) : d.askCounts.finishIfCounted = d.askCounts := by
  obtain ⟨t, n, c, hy⟩ := d.onQueues_askCounts
  obtain ⟨k, hk⟩ := List.exists_mem_of_ne_nil _ h
  exact Dev.finishIfCounted_waits ⟨{ lane := k }, by rw [hy]; exact List.mem_map_of_mem hk, rfl, rfl⟩

theorem Dev.askCounts_none (h : d.childLanes = []) : d.askCounts.finishIfCounted = d.counting.finishCount := by
  have hask : d.askCounts = d.counting := by
    rw [Dev.askCounts_eq, h]
    rfl
  rw [hask]
  refine if_pos ?_
  rw [Dev.counted, Dev.counting, h]
  rfl

/-! ## What the passes leave alone (R262, R264) -/

/-- A controller's place in the tree. -/
def Net.seat (n : Net) : Role × Nat × Nat × Nat × BitVec 32 × Option Nat × Bool :=
  (n.role, n.depth, n.address, n.domeAddr, n.enumGen, n.enumParent, n.chain)

theorem Dev.seat_sendLocal (d : Dev) (l cls typ dest : Nat) (poison : Bool) (p : List Byte) :
    (d.sendLocal l cls typ dest poison p).net.seat = d.net.seat := by
  obtain ⟨t, n, c, hy⟩ := Dev.OnQueues.sendLocal d l cls typ dest poison p
  rw [hy]
  rfl

theorem Dev.seat_sendEnum (d : Dev) (l op depth status value blockHigh : Nat) :
    (d.sendEnum l op depth status value blockHigh).net.seat = d.net.seat := Dev.seat_sendLocal ..

theorem Dev.seat_raise (d : Dev) (e : EventName) (a : List Nat) : (d.raise e a).net.seat = d.net.seat := by rw [Dev.raise_net]

theorem Dev.seat_addRoute (d : Dev) (r : Route) : (d.addRoute r).net.seat = d.net.seat := by
  unfold Dev.addRoute
  split <;> rfl

theorem Dev.seat_offerSpare (d : Dev) (l : Nat) : (d.offerSpare l).net.seat = d.net.seat := by
  unfold Dev.offerSpare
  dsimp only
  generalize (if d.net.enumState = .assigning then d.net.blockHigh - d.cfg.net.spareAddresses else d.net.blockHigh) = top
  generalize (d.net.children.any fun c => c.lane ≠ l && c.waits) = busy
  split
  · exact Dev.seat_raise ..
  · cases busy with
    | true => rfl
    | false => exact Dev.seat_sendEnum ..

theorem Dev.seat_offerNext (d : Dev) : d.offerNext.net.seat = d.net.seat :=
  each_keeps (fun x : Dev => x.net.seat = d.net.seat) _ _ _ (fun _ x hx => (x.seat_offerSpare _).trans hx) rfl

theorem Dev.seat_giveBlocks (d : Dev) (top : Nat) (bs : List Block) : (d.giveBlocks top bs).net.seat = d.net.seat := by
  refine each_keeps (fun x : Dev => x.net.seat = d.net.seat) _ _ _ (fun b x hx => ?_) rfl
  dsimp only
  split
  · exact (Dev.seat_raise ..).trans hx
  · exact (Dev.seat_sendEnum ..).trans ((x.seat_addRoute _).trans hx)

theorem Dev.seat_finishAssign (d : Dev) (value : Nat) : (d.finishAssign value).net.seat = d.net.seat := by
  unfold Dev.finishAssign
  dsimp only
  split
  · exact Dev.seat_raise ..
  · exact Dev.seat_sendEnum ..

theorem Dev.seat_finishIfAssigned (d : Dev) : d.finishIfAssigned.net.seat = d.net.seat := by
  unfold Dev.finishIfAssigned
  split
  · exact Dev.seat_finishAssign ..
  · rfl

theorem Dev.seat_startAssign (d : Dev) : d.startAssign.net.seat = d.net.seat :=
  (Dev.seat_finishIfAssigned _).trans ((Dev.seat_offerNext _).trans (Dev.seat_giveBlocks ..))

theorem Dev.seat_finishCount (d : Dev) : d.finishCount.net.seat = d.net.seat := by
  unfold Dev.finishCount
  dsimp only
  split
  · exact Dev.seat_sendEnum ..
  · split
    · rfl
    · exact Dev.seat_startAssign _

theorem Dev.seat_askCounts (d : Dev) : d.askCounts.net.seat = d.net.seat := by
  obtain ⟨t, n, c, hy⟩ := d.onQueues_askCounts
  rw [hy]
  rfl

theorem Dev.seat_finishIfCounted (d : Dev) : d.finishIfCounted.net.seat = d.net.seat := by
  unfold Dev.finishIfCounted
  split
  · exact Dev.seat_finishCount _
  · rfl

theorem Dev.takeAddress_eq (d : Dev) (a : Nat) : ∃ v, d.takeAddress a = { d with net := { d.net with address := a }, ev := v } :=
  Dev.raiseIf_ev ..

/-! ## ENUM_START (R262 to R264, R266) -/

theorem enumStart_not_one {v : Nat} (h : v ≠ 1) : enumStart v d = (.invalid, d) := if_pos h

theorem enumStart_conflict (h : d.domeEn = false) : enumStart 1 d = (.conflict, d) := by
  rw [enumStart, if_neg (by decide), if_pos h]

theorem enumStart_busy (hd : d.domeEn = true) (h : d.net.enumState = .counting ∨ d.net.enumState = .assigning) :
    enumStart 1 d = (.busy, d) := by
  rw [enumStart, if_neg (by decide), if_neg (by simp [hd]), if_pos h]

/-- The Dome at the root of its tree, its generation a new one. -/
def Dev.atRoot (d : Dev) : Dev := (d.takeAddress d.cfg.net.domainBase).setNet (fun n => { n with
  role := .dome, depth := 0, domeAddr := d.cfg.net.domainBase, enumGen := n.enumGen + 1, enumParent := none
  chain := (d.takeAddress d.cfg.net.domainBase).chainEn, late := false, enumTotal := 0, enumStatus := 0, enumExcluded := 0
  blockHigh := d.cfg.net.domainBase })

theorem Dev.atRoot_eq (d : Dev) : ∃ v, d.atRoot = { d with ev := v, net := { d.net with
    address := d.cfg.net.domainBase
    role := .dome, depth := 0, domeAddr := d.cfg.net.domainBase, enumGen := d.net.enumGen + 1, enumParent := none
    chain := d.chainEn, late := false, enumTotal := 0, enumStatus := 0, enumExcluded := 0, blockHigh := d.cfg.net.domainBase } } := by
  obtain ⟨v, hv⟩ := d.takeAddress_eq d.cfg.net.domainBase
  rw [Dev.atRoot, hv]
  exact ⟨v, rfl⟩

section
variable (hd : d.domeEn = true) (hc : d.net.enumState ≠ .counting) (ha : d.net.enumState ≠ .assigning)
include hd hc ha

/-- The Dome counts its children, or passes ASSIGN along its chain. -/
theorem enumStart_starts : ∃ y, enumStart 1 d = (.ok, y) ∧ y.net.seat = d.atRoot.net.seat
    ∧ (d.chainEn = false → y = d.atRoot.askCounts.finishIfCounted) := by
  have hroot : d.atRoot.chainEn = d.chainEn := by
    obtain ⟨v, hv⟩ := d.atRoot_eq
    rw [hv]
    rfl
  have hstart : ∀ {r : Resp × Dev}, (if d.atRoot.chainEn = true then
      if (d.atRoot.dropRoutes (fun r => !r.hello)).childLanes.contains 4 = true then
        (.ok, ((d.atRoot.dropRoutes (fun r => !r.hello)).setNet (fun n => { n with
          enumState := .assigning, enumAt := (d.atRoot.dropRoutes (fun r => !r.hello)).mono, children := [{ lane := 4 }] })).sendEnum
            4 2 1 0 (d.cfg.net.domainBase + 1) 0)
      else (.ok, Dev.finishAssign ((d.atRoot.dropRoutes (fun r => !r.hello)).setNet (fun n => { n with
        enumTotal := 1, children := [] })) d.cfg.net.domainBase)
    else (.ok, d.atRoot.askCounts.finishIfCounted)) = r → enumStart 1 d = r := by
    rintro r rfl
    rw [enumStart, if_neg (by decide), if_neg (by simp [hd]), if_neg (by simp [hc, ha])]
    rfl
  cases h : d.chainEn with
  | false =>
    rw [hroot, h] at hstart
    exact ⟨_, hstart (if_neg (by decide)), (Dev.seat_finishIfCounted _).trans (Dev.seat_askCounts _), fun _ => rfl⟩
  | true =>
    rw [hroot, h] at hstart
    by_cases h4 : (d.atRoot.dropRoutes (fun r => !r.hello)).childLanes.contains 4 = true
    · rw [if_pos rfl, if_pos h4] at hstart
      exact ⟨_, hstart rfl, Dev.seat_sendEnum .., fun h => absurd h (by decide)⟩
    · rw [if_pos rfl, if_neg h4] at hstart
      exact ⟨_, hstart rfl, Dev.seat_finishAssign .., fun h => absurd h (by decide)⟩

end

/-! ## ENUM_COUNT (R263) -/

theorem enumCount_dome {l : Nat} (m : EnumMsg) (hd : d.domeEn = true) (hl : l < 2) : enumCount l m d = (d.take l 1).raise .wiringFault := by
  refine if_pos ?_
  rw [Dev.domeUplink, Bool.and_eq_true, decide_eq_true_eq]
  exact ⟨hd, hl⟩

theorem Dev.domeUplink_eq_false {l : Nat} (h : d.domeEn = false ∨ 2 ≤ l) : ¬ (d.take l 1).domeUplink l = true := by
  rw [Dev.domeUplink, Bool.and_eq_true, decide_eq_true_eq]
  rintro ⟨hd, hl⟩
  rcases h with h | h
  · exact absurd (h.symm.trans hd) (by decide)
  · omega

theorem enumCount_wiring {l : Nat} (m : EnumMsg) (hd : d.domeEn = false) (hl : l ≠ 0) : enumCount l m d
    = ((d.take l 1).beginResult 3).sendLocal l 2 1 0 false
      (enumPayload 1 (m.depth.toNat - 1) 3 m.chain m.gen.toNat 0 0 m.dome.toNat) := by
  refine (if_neg (Dev.domeUplink_eq_false (.inl hd))).trans (if_pos hl)

theorem enumCount_deep {m : EnumMsg} (hd : d.domeEn = false) (hm : 8 < m.depth.toNat) : enumCount 0 m d
    = ((d.take 0 1).beginResult 1).sendLocal 0 2 1 0 false
      (enumPayload 1 (m.depth.toNat - 1) 1 m.chain m.gen.toNat 0 0 m.dome.toNat) := by
  refine (if_neg (Dev.domeUplink_eq_false (.inl hd))).trans ((if_neg (by decide)).trans (if_pos hm))

/-- A controller below the Dome, its place that which COUNT gives it. -/
def Dev.placed (d : Dev) (m : EnumMsg) : Dev := ((d.take 0 1).beginResult 0).setNet (fun n => { n with
  depth := m.depth.toNat, enumGen := m.gen, enumParent := some 0, domeAddr := m.dome.toNat, chain := false, late := false })

theorem enumCount_counts {m : EnumMsg} (hd : d.domeEn = false) (hm : m.depth.toNat ≤ 8) : enumCount 0 m d
    = (d.placed m).askCounts.finishIfCounted := by
  refine (if_neg (Dev.domeUplink_eq_false (.inl hd))).trans ((if_neg (by decide)).trans (if_neg (not_lt.2 hm)))

theorem Dev.finishCount_parent {l : Nat} (h : d.net.enumParent = some l) : d.finishCount
    = (d.setNet (fun n => { n with enumTotal := d.countTotal })).sendEnum l 1 d.parentDepth 0 d.countTotal 0 := by
  have h' : (d.setNet (fun n => { n with enumTotal := d.countTotal })).net.enumParent = some l := h
  unfold Dev.finishCount
  dsimp only
  rw [h']
  rfl

/-- Without children the count is that of the controller and its spares. -/
theorem Dev.countTotal_counting (h : d.childLanes = []) : d.counting.countTotal = 1 + d.cfg.net.spareAddresses := by
  rw [Dev.countTotal, Dev.counting, h]
  rfl

/-- A controller without children that answers COUNT, and what it answers. -/
def Dev.answers (d : Dev) (m : EnumMsg) : Dev :=
  (d.placed m).counting.setNet (fun n => { n with enumTotal := 1 + d.cfg.net.spareAddresses })

def Dev.answerPayload (d : Dev) (m : EnumMsg) : List Byte :=
  enumPayload 1 (m.depth.toNat - 1) 0 false m.gen.toNat (1 + d.cfg.net.spareAddresses) 0 m.dome.toNat

theorem enumCount_childless {m : EnumMsg} (h : d.childLanes = []) :
    (d.placed m).askCounts.finishIfCounted = (d.answers m).sendLocal 0 2 1 0 false (d.answerPayload m) := by
  have h' : (d.placed m).childLanes = [] := h
  rw [Dev.askCounts_none h', Dev.finishCount_parent (l := 0) rfl, Dev.countTotal_counting h']
  rfl

/-- The controller that counts its children, its place that which COUNT gives it: its links and its address stand. -/
theorem Dev.placed_counting (d : Dev) (m : EnumMsg) : ∃ x, (d.placed m).counting = { d with net := { d.net with
    delivered := x, enumTotal := 0, enumStatus := 0, enumExcluded := 0, depth := m.depth.toNat, enumGen := m.gen
    enumParent := some 0, domeAddr := m.dome.toNat, chain := false, late := false, enumState := .counting
    enumAt := d.time.up, children := d.childLanes.map (fun l => { lane := l }) } } := by
  obtain ⟨x, hx⟩ : ∃ x, d.placed m = { d with net := { d.net with
      delivered := x, enumTotal := 0, enumStatus := 0, enumExcluded := 0, depth := m.depth.toNat, enumGen := m.gen
      enumParent := some 0, domeAddr := m.dome.toNat, chain := false, late := false } } := ⟨_, rfl⟩
  rw [hx]
  exact ⟨x, rfl⟩

theorem Dev.sendsAs_answers (d : Dev) (m : EnumMsg) : d.SendsAs (d.answers m) := by
  obtain ⟨x, hx⟩ := d.placed_counting m
  rw [Dev.answers, hx]
  exact ⟨rfl, rfl, rfl, rfl, rfl, rfl, rfl⟩

theorem Dev.queued_answers (d : Dev) (m : EnumMsg) (hr : (d.lane 0).receives = true)
    (hroom : d.hasRoom 0 2 (d.ownFrame 2 1 0 (d.answerPayload m))) :
    Queued d ((d.answers m).sendLocal 0 2 1 0 false (d.answerPayload m)) 0 2 (d.ownFrame 2 1 0 (d.answerPayload m)) := by
  have hlen : (d.answerPayload m).length = 16 := enumPayload_length ..
  obtain ⟨-, -, z, hz, -, hq⟩ := (d.sendsAs_answers m).sent_parent hr (by omega) hroom
  rw [hz]
  exact hq

/-! ## ENUM_COUNT_REPLY and ENUM_CHILD_TIMEOUT (R263) -/

/-- A child on the lane is still counting. -/
def Net.countsOn (n : Net) (l : Nat) : Prop := ∃ c ∈ n.children, c.lane = l ∧ c.count = none ∧ c.excluded = false

/-- A child on another lane is still counting. -/
def Net.countsOff (n : Net) (l : Nat) : Prop := ∃ c ∈ n.children, c.lane ≠ l ∧ c.count = none ∧ c.excluded = false

theorem Net.countsOn.any {n : Net} {l : Nat} (h : n.countsOn l) :
    n.children.any (fun c => c.lane = l && c.count.isNone && !c.excluded) = true := by
  obtain ⟨c, hc, hl, hcount, hex⟩ := h
  exact List.any_eq_true.2 ⟨c, hc, by simp [hl, hcount, hex]⟩

/-- What is noted of the children on one lane leaves another child counting. -/
theorem Net.countsOff.waits {n : Net} {l : Nat} (h : n.countsOff l) (g : EnumChild → EnumChild) :
    ∃ c ∈ n.children.map (fun c => if c.lane = l then g c else c), c.count = none ∧ c.excluded = false := by
  obtain ⟨c, hc, hl, hcount, hex⟩ := h
  exact ⟨c, List.mem_map.2 ⟨c, hc, if_neg hl⟩, hcount, hex⟩

theorem Dev.exclude_eq (d : Dev) (l : Nat) : d.exclude l = { d with
    net := { d.net with
      children := d.net.children.map (fun c => if c.lane = l then { c with excluded := true } else c)
      enumExcluded := d.net.enumExcluded + 1 }
    ev := (d.raise .enumChildExcluded [l]).ev } := by
  have hev := Dev.raise_ev_congr (y := d) (x := d.setNet (fun n => { n with
    children := n.children.map (fun c => if c.lane = l then { c with excluded := true } else c)
    enumExcluded := n.enumExcluded + 1 })) .enumChildExcluded [l] rfl rfl rfl rfl
  rw [Dev.exclude, Dev.raise_eq, hev]
  rfl

theorem Dev.raise_take (d : Dev) (l : Nat) (e : EventName) (a : List Nat) : (d.take l 1).raise e a = { d with
    net := { d.net with delivered := (d.take l 1).net.delivered }, ev := (d.raise e a).ev } := by
  rw [Dev.raise_eq, Dev.raise_ev_congr (x := d.take l 1) (y := d) e a rfl rfl rfl rfl]
  rfl

theorem Dev.exclude_take (d : Dev) (l : Nat) : (d.take l 1).exclude l = { d with
    net := { d.net with
      delivered := (d.take l 1).net.delivered
      children := d.net.children.map (fun c => if c.lane = l then { c with excluded := true } else c)
      enumExcluded := d.net.enumExcluded + 1 }
    ev := (d.raise .enumChildExcluded [l]).ev } := by
  rw [Dev.exclude_eq, Dev.raise_take]
  rfl

theorem Dev.exclude_waits {l : Nat} (h : d.net.countsOff l) : (d.exclude l).finishIfCounted = d.exclude l := by
  refine Dev.finishIfCounted_waits ?_
  rw [Dev.exclude_eq]
  exact h.waits (fun c => { c with excluded := true })

section
variable {l : Nat} {m : EnumMsg} (hl : 2 ≤ l) (hs : d.net.enumState = .counting) (hon : d.net.countsOn l) (hoff : d.net.countsOff l)
include hl hs hon hoff

theorem enumCountReply_counted (hm : m.status = 0) : enumCountReply l m d = (d.take l 1).setNet (fun n => { n with
    children := n.children.map (fun c => if c.lane = l then { c with count := some m.value.toNat } else c) }) := by
  refine (if_neg (Dev.domeUplink_eq_false (.inr hl))).trans ((if_pos ⟨hs, hon.any⟩).trans ?_)
  rw [if_pos hm]
  exact Dev.finishIfCounted_waits (hoff.waits (fun c => { c with count := some m.value.toNat }))

theorem enumCountReply_excluded (hm : m.status ≠ 0) : enumCountReply l m d = (d.take l 1).exclude l := by
  refine (if_neg (Dev.domeUplink_eq_false (.inr hl))).trans ((if_pos ⟨hs, hon.any⟩).trans ?_)
  rw [if_neg hm]
  exact Dev.exclude_waits (d := d.take l 1) hoff

end

theorem enumChildTimeout_excluded {l : Nat} (hover : d.enumOver = true) (hs : d.net.enumState = .counting)
    (hon : d.net.countsOn l) (hoff : d.net.countsOff l) : enumChildTimeout l d = d.exclude l :=
  (if_pos ⟨hover, hs, hon.any⟩).trans (Dev.exclude_waits hoff)

theorem enumChildTimeout_waits {l : Nat} (hover : d.enumOver = false) : enumChildTimeout l d = d :=
  if_neg fun h => absurd (h.1.symm.trans hover) (by decide)

/-! ## ENUM_ASSIGN (R262, R264, R266, R267) -/

theorem Dev.seat_chainAssign {m : EnumMsg} (hm : m.depth.toNat < 64) : ∃ r, (d.chainAssign m).net.seat
    = (r, m.depth.toNat, m.value.toNat, m.dome.toNat, m.gen, some 0, true) := by
  obtain ⟨v, hv⟩ := d.takeAddress_eq m.value.toNat
  rw [Dev.chainAssign, if_neg (not_le.2 hm), hv]
  dsimp only
  split
  · exact ⟨_, Dev.seat_sendEnum ..⟩
  · exact ⟨_, Dev.seat_finishAssign ..⟩

theorem enumAssign_chain {m : EnumMsg} (hd : d.domeEn = false) (hc : m.chain = true) :
    enumAssign 0 m d = (d.take 0 1).chainAssign m := by
  refine (if_neg (Dev.domeUplink_eq_false (.inl hd))).trans ((if_neg (by decide)).trans (if_pos hc))

theorem enumAssign_tree {m : EnumMsg} (hd : d.domeEn = false) (hc : m.chain = false) (hu : d.unserved m = false) :
    ∃ r, (enumAssign 0 m d).net.seat = (r, m.depth.toNat, m.value.toNat, m.dome.toNat, m.gen, some 0, false) := by
  have hu' : (d.take 0 1).unserved m = false := hu
  obtain ⟨v, hv⟩ := (d.take 0 1).takeAddress_eq m.value.toNat
  rw [enumAssign, if_neg (Dev.domeUplink_eq_false (.inl hd)), if_neg (by decide), if_neg (by simp [hc]), if_neg (by simp [hu']), hv]
  exact ⟨_, Dev.seat_startAssign _⟩

/-! ## ENUM_ASSIGN_DONE and ENUM_ASSIGN_TIMEOUT (R264, R266, R267) -/

theorem Dev.finishIfAssigned_waits (h : ∃ c ∈ d.net.children, c.assigned = false ∧ c.excluded = false) : d.finishIfAssigned = d := by
  refine if_neg fun hall => ?_
  obtain ⟨c, hc, ha, hex⟩ := h
  have := List.all_eq_true.1 hall.2 c hc
  simp [ha, hex] at this

/-- The children on a lane are assigned. -/
def Dev.assignOn (d : Dev) (l : Nat) : Dev := d.setNet (fun n => { n with
  children := n.children.map (fun x => if x.lane = l then { x with assigned := true } else x) })

theorem Dev.assignOn_waits {l : Nat} (h : ∃ x ∈ d.net.children, x.lane ≠ l ∧ x.assigned = false ∧ x.excluded = false) :
    (d.assignOn l).finishIfAssigned = d.assignOn l := by
  obtain ⟨x, hx, hl, ha, hex⟩ := h
  exact Dev.finishIfAssigned_waits ⟨x, List.mem_map.2 ⟨x, hx, if_neg hl⟩, ha, hex⟩

/-- A counted child, or one that was offered nothing, is assigned; another still waits. -/
theorem enumAssignDone_assigned {l : Nat} {m : EnumMsg} {c : EnumChild} (hl : 2 ≤ l) (hchain : d.net.chain = false)
    (hfind : d.net.children.find? (fun c => c.lane = l && !c.assigned && !c.excluded) = some c)
    (hc : c.offered = none ∨ c.count ≠ none)
    (hoff : ∃ x ∈ d.net.children, x.lane ≠ l ∧ x.assigned = false ∧ x.excluded = false) :
    enumAssignDone l m d = (d.take l 1).assignOn l := by
  have hfind' : (d.take l 1).net.children.find? (fun c => c.lane = l && !c.assigned && !c.excluded) = some c := hfind
  refine Eq.trans ?_ (Dev.assignOn_waits (d := d.take l 1) hoff)
  rw [enumAssignDone, if_neg (Dev.domeUplink_eq_false (.inr hl)), hfind']
  refine (if_neg (show ¬ (d.take l 1).net.chain = true by rw [show (d.take l 1).net.chain = false from hchain]; decide)).trans (congrArg Dev.finishIfAssigned ?_)
  cases hcount : c.count with
  | some n => rfl
  | none =>
    rw [hc.resolve_right (not_not.2 hcount)]
    rfl

/-- A controller below the Dome whose pass ends answers its parent (R264). -/
theorem Dev.finishAssign_parent {l value : Nat} (hp : d.net.enumParent = some l) (hlate : d.net.late = false) :
    d.finishAssign value = (d.setNet (fun n => { n with enumState := .done })).sendEnum l 3 d.parentDepth 0 value 0 := by
  have hset : d.setNet (fun n => { n with enumState := .done, blockHigh := if n.late then value else n.blockHigh })
      = d.setNet (fun n => { n with enumState := .done }) := by
    simp only [Dev.setNet, hlate]
    rfl
  have hp' : (d.setNet (fun n => { n with enumState := .done })).net.enumParent = some l := hp
  unfold Dev.finishAssign
  rw [hlate]
  dsimp only
  rw [if_neg (by decide), hset, hp']
  rfl

theorem Dev.enumOver_iff (d : Dev) : d.enumOver = true ↔
    d.net.enumAt + ((if d.net.chain then 63 else 8) - d.net.depth) * 25000000 ≤ d.time.up := decide_eq_true_iff

theorem enumAssignTimeout_waits (hover : d.enumOver = false) : enumAssignTimeout d = d := if_pos hover

theorem enumAssignTimeout_answers (hover : d.enumOver = true) (hs : d.net.enumState = .assigning) (hp : d.net.enumParent = some 0)
    (hlate : d.net.late = false) : enumAssignTimeout d
      = (d.setNet (fun n => { n with enumState := .done })).sendLocal 0 2 1 0 false (enumPayload 3 (d.net.depth - 1) 0 d.net.chain
        d.net.enumGen.toNat d.lastUsed 0 d.net.domeAddr) := by
  exact (if_neg (by simp [hover])).trans ((if_pos ⟨hs, by rw [hp]; rfl⟩).trans (Dev.finishAssign_parent hp hlate))

/-- Settles O34, by one equation of each command's meaning per case, and by what the passes leave of a controller's place. -/
theorem enumeration : Obligations.Enumeration := by
  unfold Obligations.Enumeration
  intro l v m s late hlate
  rw [← Dev.enumOver_iff] at hlate
  have hne : v ≠ 1 → v.toNat ≠ 1 := fun h h' => h (BitVec.eq_of_toNat_eq h')
  refine ⟨fun h => answers_of_ask _ rfl (enumStart_not_one (hne h)), fun h => answers_of_ask _ rfl (enumStart_conflict h),
    fun hd h => answers_of_ask _ rfl (enumStart_busy hd h), fun hd hc ha => ?start,
    fun hd hl => ⟨_, gives_of_upd _ rfl (enumCount_dome m hd hl), ?dome⟩,
    fun f hl hd hf ht hroom => ?wiring, fun f hd hm hf hr hroom => ?deep,
    fun hd hm => ⟨_, gives_of_upd _ rfl (enumCount_counts hd hm), ?count⟩,
    fun hl hs hon hoff => ⟨fun hm => ⟨_, gives_of_upd _ rfl (enumCountReply_counted hl hs hon hoff hm), rfl, rfl⟩,
      fun hm => ⟨_, gives_of_upd _ rfl (enumCountReply_excluded hl hs hon hoff hm), ?excluded⟩⟩,
    fun hd hc hu => ⟨_, gives_of_upd _ rfl rfl, ?assign⟩,
    fun c hl hc hfind h hoff => ⟨_, gives_of_upd _ rfl (enumAssignDone_assigned hl hc hfind h hoff), rfl, rfl⟩,
    fun hl hs hon hoff => gives_of_upd _ rfl (enumChildTimeout_excluded (hlate.1 hl) hs hon hoff), fun hl => ?waits,
    fun f hl hs hp hlt hf hr hroom => ?timeout⟩
  case start =>
    obtain ⟨y, hy, hseat, htree⟩ := enumStart_starts hd hc ha
    obtain ⟨v, hroot⟩ := s.dev.atRoot_eq
    have hcyc : (enumStart 1 s.dev).2.cyc = s.dev.cyc := enumStart_cyc ..
    rw [hroot] at hseat
    simp only [Net.seat, Prod.mk.injEq] at hseat
    obtain ⟨hrole, hdepth, haddr, hdome, hgen, hparent, hchain⟩ := hseat
    refine ⟨y, answers_of_ask _ rfl hy, hrole, hdepth, haddr, hdome, hgen, hparent, hchain, fun hce hkids => ?_, by rw [← hcyc, hy]⟩
    have hlanes : s.dev.atRoot.childLanes = s.dev.childLanes := by rw [hroot]; rfl
    rw [htree hce, Dev.askCounts_waits (hlanes ▸ hkids)]
    obtain ⟨t, n, c, hask⟩ := s.dev.atRoot.onQueues_askCounts
    refine ⟨by rw [hask]; rfl, by rw [hask, hroot]; rfl, by rw [hask, hroot]; rfl, ?_, fun k hk hr hroom => ?_⟩
    · rw [hask, ← hlanes]
      rfl
    · obtain ⟨q, hq, htyp, -, hpay⟩ := Dev.lastQueued_askCounts (d := s.dev.atRoot) (hlanes ▸ hk) (by rw [hroot]; exact hr)
        (by rw [hroot]; exact hroom)
      refine ⟨q, ?_, htyp, ?_⟩
      · rw [hq, hroot]
        rfl
      · rw [hpay, hroot, ← hce]
        rfl
  case dome =>
    rw [Dev.raise_take]
    exact ⟨rfl, rfl⟩
  case wiring =>
    have hsends : s.dev.SendsAs ((s.dev.take l 1).beginResult 3) := ⟨rfl, rfl, rfl, rfl, rfl, rfl, rfl⟩
    subst hf
    obtain ⟨t, q, z, hz, hzeq, hq⟩ := hsends.sent (by decide) (by decide) ht (by rw [enumPayload_length]; decide) hroom
    exact ⟨z, gives_of_upd _ rfl ((enumCount_wiring m hd hl).trans hz), hq, by rw [hzeq]; rfl, by rw [hzeq]; rfl⟩
  case deep =>
    have hsends : s.dev.SendsAs ((s.dev.take 0 1).beginResult 1) := ⟨rfl, rfl, rfl, rfl, rfl, rfl, rfl⟩
    subst hf
    obtain ⟨t, q, z, hz, hzeq, hq⟩ := hsends.sent_parent hr (by rw [enumPayload_length]; decide) hroom
    exact ⟨z, gives_of_upd _ rfl ((enumCount_deep hd hm).trans hz), hq, by rw [hzeq]; rfl, by rw [hzeq]; rfl⟩
  case count =>
    by_cases hkids : s.dev.childLanes = []
    · rw [enumCount_childless hkids]
      have hqueued := s.dev.queued_answers m
      obtain ⟨t, n, c, hy⟩ := Dev.OnQueues.sendLocal (s.dev.answers m) 0 2 1 0 false (s.dev.answerPayload m)
      obtain ⟨x, hx⟩ := s.dev.placed_counting m
      rw [hy, Dev.answers, hx] at hqueued
      rw [hy, Dev.answers, hx]
      refine ⟨rfl, rfl, rfl, rfl, rfl, rfl, rfl, rfl, fun f _ hf hr hroom => ?_, rfl⟩
      subst hf
      exact hqueued hr hroom
    · have hwaits : (s.dev.placed m).askCounts.finishIfCounted = (s.dev.placed m).askCounts := Dev.askCounts_waits hkids
      obtain ⟨t, n, c, hy⟩ := (s.dev.placed m).onQueues_askCounts
      obtain ⟨x, hx⟩ := s.dev.placed_counting m
      rw [hwaits, hy, hx]
      exact ⟨rfl, rfl, rfl, rfl, rfl, rfl, rfl, rfl, fun _ h => absurd h hkids, rfl⟩
  case excluded =>
    rw [Dev.exclude_take]
    exact ⟨rfl, rfl⟩
  case assign =>
    have hseat : ∃ r, (enumAssign 0 m s.dev).net.seat
        = (r, m.depth.toNat, m.value.toNat, m.dome.toNat, m.gen, some 0, m.chain) := by
      cases h : m.chain with
      | true =>
        rw [enumAssign_chain hd h]
        exact Dev.seat_chainAssign (hc h)
      | false => exact enumAssign_tree hd h (hu h)
    obtain ⟨r, hseat⟩ := hseat
    simp only [Net.seat, Prod.mk.injEq] at hseat
    obtain ⟨-, hdepth, haddr, hdome, hgen, hparent, hchain⟩ := hseat
    exact ⟨haddr, hdepth, hgen, hdome, hparent, hchain, enumAssign_cyc ..⟩
  case waits =>
    have hover : s.dev.enumOver = false := Bool.eq_false_iff.2 fun h => hl (hlate.2 h)
    exact ⟨gives_of_upd _ rfl (enumChildTimeout_waits hover), gives_of_upd _ rfl (enumAssignTimeout_waits hover)⟩
  case timeout =>
    have hsends : s.dev.SendsAs (s.dev.setNet (fun n => { n with enumState := .done })) := ⟨rfl, rfl, rfl, rfl, rfl, rfl, rfl⟩
    subst hf
    obtain ⟨t, q, z, hz, hzeq, hq⟩ := hsends.sent_parent hr (by rw [enumPayload_length]; decide) hroom
    exact ⟨z, gives_of_upd _ rfl ((enumAssignTimeout_answers (hlate.1 hl) hs hp hlt).trans hz), by rw [hzeq]; rfl, hq, by rw [hzeq]; rfl⟩

end Sys2Proof.Machine
end

section
/-! What passes between mates beside images: MATE_HEALTH, IMAGE_ACK, and words for a record's rebuild (R356, R361, R366, R368,
R380, R386). -/

namespace Sys2Proof.Machine

variable {d : Dev}

/-- A mate link that is UP and in use carries MATE_HEALTH, images and MATE_SYNC (R271). -/
theorem Dev.mayTravel_mate {l : Nat} {f : Frame} (hl : l = 2 ∨ l = 3) (hup : d.laneUp l = true) (hused : (d.lane l).unused = false)
    (ht : f.typ = 16 ∨ f.typ = 17 ∨ f.typ = 18) : d.mayTravel l f = true := by
  have hreceives : (d.lane l).receives = true := (Lane.receives_iff _).2 (.inr (.inr (of_decide_eq_true hup)))
  rw [Dev.mayTravel, if_neg (by simp [hreceives]), if_neg (by omega), if_neg (by omega), if_pos (by omega), hused, hup]
  rcases ht with h | h | h <;> rw [h] <;> rfl

/-! ## MATE_HEALTH (R356) -/

theorem Dev.healthPayload_length (d : Dev) : d.healthPayload.length = 32 := by
  simp [Dev.healthPayload, be_length]

theorem Dev.healthPayload_eq (d : Dev) : d.healthPayload = be 2 d.tow.claim.toNat ++ be 1 d.tow.role ++ be 1 d.tow.readiness
    ++ be 8 (if d.tow.role = 0 then d.tow.lastSent else (d.tow.resident.map (fun i => i.cycle)).getD 0)
    ++ be 4 d.circ.committedGen.toNat ++ be 4 d.healthCauses ++ be 4 d.tow.selftest.toNat
    ++ be 2 (Machine.code 16 d.therm.dieTempMax) ++ be 1 d.time.state.code ++ be 1 d.tow.dutyState.code
    ++ be 1 (ofBool d.cfg.tow.enable) ++ [0, 0, 0] := by
  have hcycle : d.reportCycle = if d.tow.role = 0 then d.tow.lastSent else (d.tow.resident.map (fun i => i.cycle)).getD 0 := by
    unfold Dev.reportCycle
    cases d.tow.resident <;> rfl
  rw [Dev.healthPayload, hcycle]

theorem Dev.healthDue_iff (d : Dev) : d.healthDue = true ↔
    (d.cycleNo % 1024 = 0 ∧ d.tow.healthAt ≠ some d.cyc.ticks) ∨ watched d.healthPayload ≠ d.tow.healthSent := by
  rw [Dev.healthDue, Bool.or_eq_true, Bool.and_eq_true, decide_eq_true_eq, decide_eq_true_eq, decide_eq_true_eq]
  rfl

/-- MATE_HEALTH on one mate link, while it is UP. -/
def Dev.healthOn (d : Dev) (l : Nat) (p : List Byte) : Dev := if d.laneUp l then d.toMate l 3 18 false p else d

theorem mateHealthSend_due (h : d.healthDue = true) : mateHealthSend d = ((d.healthOn 2 d.healthPayload).healthOn 3 d.healthPayload).setTow
    (fun t => { t with healthSent := watched d.healthPayload, healthAt := some d.cyc.ticks }) := if_pos h

theorem mateHealthSend_not_due (h : d.healthDue = false) : mateHealthSend d = d := if_neg (by simp [h])

theorem Dev.onQueues_healthOn (d : Dev) (l : Nat) (p : List Byte) : d.OnQueues (d.healthOn l p) := by
  unfold Dev.healthOn
  split
  · exact .sendLocal ..
  · exact .refl d

theorem Dev.lane_healthOn_other (d : Dev) {l k : Nat} (p : List Byte) (h : k ≠ l) : (d.healthOn l p).lane k = d.lane k := by
  unfold Dev.healthOn
  split
  · exact Dev.lane_sendLocal_other _ _ _ _ _ _ h
  · rfl

theorem Dev.lastQueued_healthOn {l : Nat} (hl : l = 2 ∨ l = 3) (hup : d.laneUp l = true) (hused : (d.lane l).unused = false)
    {p : List Byte} (hp : p.length = 32) (hroom : (d.lane l).depth 3 + 70 ≤ d.queueLimit (8 * l + 3)) :
    d.LastQueued (d.healthOn l p) l 3 18 d.net.mateAddress p := by
  rw [Dev.healthOn, if_pos hup]
  exact Dev.Takes.queued ⟨fun f hf => Dev.mayTravel_mate hl hup hused (.inr (.inr hf)), by rw [hp]; exact hroom⟩ (by decide)
    (by decide) (by omega) _

/-- Each mate link takes MATE_HEALTH by itself. -/
theorem Dev.lastQueued_health {l : Nat} (hl : l = 2 ∨ l = 3) (hup : d.laneUp l = true) (hused : (d.lane l).unused = false)
    {p : List Byte} (hp : p.length = 32) (hroom : (d.lane l).depth 3 + 70 ≤ d.queueLimit (8 * l + 3)) :
    d.LastQueued ((d.healthOn 2 p).healthOn 3 p) l 3 18 d.net.mateAddress p := by
  rcases hl with rfl | rfl
  · unfold Dev.LastQueued
    rw [Dev.lane_healthOn_other _ p (by decide)]
    exact Dev.lastQueued_healthOn (.inl rfl) hup hused hp hroom
  · have hlane := d.lane_healthOn_other p (show 3 ≠ 2 by decide)
    have haddr : (d.healthOn 2 p).net.mateAddress = d.net.mateAddress := by
      obtain ⟨t, n, c, hy⟩ := d.onQueues_healthOn 2 p
      rw [hy]
    have hlast := Dev.lastQueued_healthOn (d := d.healthOn 2 p) (.inr rfl) (by rw [Dev.laneUp, hlane]; exact hup)
      (by rw [hlane]; exact hused) hp (by rw [hlane, (d.onQueues_healthOn 2 p).queueLimit]; exact hroom)
    unfold Dev.LastQueued at hlast ⊢
    rwa [hlane, haddr] at hlast

/-! ## IMAGE_ACK (R366) -/

theorem imageAck_awaited {cycle : Nat} (hs : d.tow.yieldState = 1) (hc : d.tow.yieldCycle = some cycle) : imageAck cycle d
    = (d.takeAny 17).setTow (fun t => { t with yieldState := 2, withdrawAt := d.cyc.ticks }) := if_pos ⟨hs, hc⟩

theorem imageAck_other {cycle : Nat} (h : d.tow.yieldState ≠ 1 ∨ d.tow.yieldCycle ≠ some cycle) : imageAck cycle d = d.takeAny 17 :=
  if_neg fun ⟨hs, hc⟩ => h.elim (fun h => h hs) (fun h => h hc)

/-! ## WORD_REQUEST and WORD_REPLY (R361, R386) -/

section
variable {e : Nat}

theorem wordRequest_word {i : Image} {a : Nat} (ha : a = bufferAddr i.buffer + 8 * e) (hi : d.freshImage = some i) (he : e < 32768)
    (hp : d.sram.poisoned a = false) :
    wordRequest e d = (d.takeAny 17).sendSync 6 0 e false (be 8 i.cycle ++ be 8 (d.sram.word a)) := by
  subst ha
  have hi' : (d.takeAny 17).freshImage = some i := hi
  have hp' : (d.takeAny 17).sram.poisoned (bufferAddr i.buffer + 8 * e) = false := hp
  unfold wordRequest
  dsimp only
  rw [hi']
  dsimp only
  rw [if_pos he, hp']
  rfl

theorem wordRequest_noent (hi : d.freshImage ≠ none) (he : 32768 ≤ e) :
    wordRequest e d = (d.takeAny 17).sendSync 6 3 e false (List.replicate 16 0) := by
  obtain ⟨i, hi⟩ := Option.ne_none_iff_exists'.1 hi
  have hi' : (d.takeAny 17).freshImage = some i := hi
  unfold wordRequest
  dsimp only
  rw [hi']
  exact if_neg (not_lt.2 he)

theorem wordRequest_stale (hi : d.freshImage = none) :
    wordRequest e d = (d.takeAny 17).sendSync 6 5 e false (List.replicate 16 0) := by
  have hi' : (d.takeAny 17).freshImage = none := hi
  unfold wordRequest
  dsimp only
  rw [hi']
  rfl

theorem Dev.mateLane_up (h : d.mateUp = true) : (d.mateLane = 2 ∨ d.mateLane = 3) ∧ d.laneUp d.mateLane = true := by
  unfold Dev.mateLane
  by_cases h2 : d.laneUp 2 = true
  · rw [if_pos h2]
    exact ⟨.inl rfl, h2⟩
  · rw [if_neg h2]
    refine ⟨.inr rfl, ?_⟩
    rw [Dev.mateUp, Bool.or_eq_true] at h
    exact h.resolve_left h2

/-- A frame of MATE_SYNC leaves on the mate link, under the next SYNC_SEQ. -/
theorem Dev.sendSync_queued {kind status item : Nat} {body p : List Byte} (hup : d.mateUp = true)
    (hused : (d.lane d.mateLane).unused = false) (hp : p = syncBytes kind status item d.tow.syncSeq.toNat body)
    (hlen : body.length ≤ 80) (hroom : d.hasRoom d.mateLane 4 (d.ownFrame 4 17 d.net.mateAddress p)) :
    Queued d ((d.takeAny 17).sendSync kind status item false body) d.mateLane 4 (d.ownFrame 4 17 d.net.mateAddress p)
      ∧ ∃ n, (d.takeAny 17).sendSync kind status item false body
        = { d with net := n, tow := { d.tow with syncSeq := d.tow.syncSeq + 1 } } := by
  obtain ⟨y, hy⟩ : ∃ y, y = (d.takeAny 17).setTow (fun t => { t with syncSeq := d.tow.syncSeq + 1 }) := ⟨_, rfl⟩
  have hsends : d.SendsAs y := by
    rw [hy]
    exact ⟨rfl, rfl, rfl, rfl, rfl, rfl, rfl⟩
  obtain ⟨hl, hlup⟩ := Dev.mateLane_up hup
  have hlen' : p.length ≤ 986 := by
    rw [hp, syncBytes_length]
    omega
  obtain ⟨t, q, z, hz, hzeq, hq⟩ := hsends.sent (by decide) (by decide)
    (Dev.mayTravel_mate hl hlup hused (.inr (.inl (mkFrame_typ _ _ _ _ _ _ _ (by decide))))) hlen' hroom
  have hsync : (d.takeAny 17).sendSync kind status item false body = y.sendLocal d.mateLane 4 17 d.net.mateAddress false p := by
    rw [hy, hp]
    exact if_pos hup
  rw [hsync, hz]
  refine ⟨hq, z.net, ?_⟩
  rw [hzeq, hy]
  rfl

/-- A word that was asked for waits less than 2 ms (R386). -/
theorem Dev.wordWaits_eq (d : Dev) (e : Nat) : d.wordWaits e
    = d.tow.wordAsked.any (fun p => p.2.1 = e && p.2.2.any (fun t => d.time.up < t + 2000000)) := by
  unfold Dev.wordWaits Dev.mono
  refine congrArg d.tow.wordAsked.any (funext fun p => congrArg _ ?_)
  cases p.2.2 with
  | none => rfl
  | some t => rw [Option.any_some]

theorem wordReply_unasked {code : Resp} {w : BitVec 64} {b : Bool} (h : d.wordWaits e = false) :
    wordReply e code w b d = d.takeAny 17 := by
  have h' : (d.takeAny 17).wordWaits e = false := h
  exact if_neg (by simp [h'])

theorem wordReply_asked {code : Resp} {w : BitVec 64} {b : Bool} (h : d.wordWaits e = true) : wordReply e code w b d = { d with
    net := (d.takeAny 17).net
    memory := { d.memory with rebuild := (if code = .ok ∧ b = false then
      d.memory.rebuild.map (fun p => if p.1 = e then (e, some w) else p) else d.memory.rebuild) }
    tow := { d.tow with wordAsked := d.tow.wordAsked.map (fun p => if p.2.1 = e then (p.1, e, none) else p) } } := by
  have h' : (d.takeAny 17).wordWaits e = true := h
  refine (if_pos h').trans ?_
  by_cases hok : code = .ok ∧ b = false
  · rw [if_pos hok, if_pos hok]
    rfl
  · rw [if_neg hok, if_neg hok]
    rfl

end

/-- Settles O45, from the mate link that takes a frame, and from the cases of what is received. -/
theorem mateExchange : Obligations.MateExchange := by
  unfold Obligations.MateExchange
  intro cycle ic m e n w code b s
  refine ⟨fun p hp seen hseen => ⟨fun h => ⟨_, gives_of_upd _ rfl (mateHealthSend_due ?due), ?sent⟩,
      fun h1 h2 => gives_of_upd _ rfl (mateHealthSend_not_due ?notDue)⟩,
    ⟨_, gives_of_upd _ rfl rfl, rfl⟩, fun hs hc => ⟨_, gives_of_upd _ rfl (imageAck_awaited hs hc), rfl⟩,
    fun h => gives_of_upd _ rfl (imageAck_other h), fun p f l hl hup hused hcases hf hroom => ?request, fun asked hasked =>
      ⟨fun h => ⟨_, gives_of_upd _ rfl (wordReply_asked ?asked), rfl, rfl⟩, fun h => gives_of_upd _ rfl (wordReply_unasked ?unasked)⟩⟩
  case due =>
    rw [Dev.healthDue_iff, Dev.healthPayload_eq, ← hp]
    exact h.imp_right (fun h' => by rw [watched, ← hseen]; exact h')
  case notDue =>
    rw [← Bool.not_eq_true, Dev.healthDue_iff, Dev.healthPayload_eq, ← hp, watched, ← hseen]
    rintro (⟨h3, h4⟩ | h3)
    · exact h1.elim (fun h => h h3) (fun h => h4 h)
    · exact h3 h2
  case sent =>
    rw [← Dev.healthPayload_eq] at hp
    have hlen : p.length = 32 := by rw [hp, Dev.healthPayload_length]
    rw [← hp, show watched p = seen from hseen.symm]
    refine ⟨fun l hl hup hused hroom => ?_, ?_⟩
    · rw [Dev.hasRoom, Dev.ownFrame, mkFrame_size, hlen] at hroom
      obtain ⟨q, hq, hrest⟩ := Dev.lastQueued_health hl hup hused hlen (show (s.dev.lane l).depth 3 + 70 ≤ _ by simpa using hroom)
      exact ⟨q, hq, hrest⟩
    · obtain ⟨t, n, c, hy⟩ := (s.dev.onQueues_healthOn 2 p).trans (Dev.onQueues_healthOn _ 3 p)
      rw [hy]
      rfl
  case request =>
    subst hl hf
    obtain ⟨k, st, body, hreq, hbytes, hlen⟩ : ∃ k st body, wordRequest e.toNat s.dev = (s.dev.takeAny 17).sendSync k st e.toNat false body
        ∧ p = syncBytes k st e.toNat s.dev.tow.syncSeq.toNat body ∧ body.length ≤ 80 := by
      rcases hcases with ⟨i, hi, he, hpo, hb⟩ | ⟨hi, he, hb⟩ | ⟨hi, hb⟩
      · have hreq := wordRequest_word (by rw [bufferAddr]) hi he hpo
        exact ⟨6, 0, _, hreq, hb, by rw [List.length_append, be_length, be_length]; decide⟩
      · exact ⟨6, 3, _, wordRequest_noent hi he, hb, by rw [List.length_replicate]; decide⟩
      · exact ⟨6, 5, _, wordRequest_stale hi, hb, by rw [List.length_replicate]; decide⟩
    obtain ⟨hq, n, hy⟩ := Dev.sendSync_queued hup hused hbytes hlen hroom
    exact ⟨_, gives_of_upd _ rfl hreq, hq, by rw [hy]⟩
  case asked =>
    rw [Dev.wordWaits_eq, ← hasked, h]
  case unasked =>
    rw [Dev.wordWaits_eq, ← hasked, h]

end Sys2Proof.Machine
end

section
/-! The codes of memory (R373, R377), and what a read of a word or byte leaves that met no bit in error, one, or two. -/

namespace Sys2Proof.Machine

/-! ## The columns of a code -/

/-- A number's bits are odd in count. -/
def oddBits (n w : Nat) : Bool := popcount n w % 2 = 1

theorem iter_popcount_xor (n i a b c x y : Nat) (h : c % 2 = (a + b) % 2) :
    iter (fun i a => a + (x ^^^ y) / 2 ^ i % 2) n i c % 2
      = (iter (fun i a => a + x / 2 ^ i % 2) n i a + iter (fun i a => a + y / 2 ^ i % 2) n i b) % 2 := by
  induction n generalizing i a b c with
  | zero => exact h
  | succ n ih =>
    refine ih (i + 1) _ _ _ ?_
    have hbit : (x ^^^ y) / 2 ^ i % 2 = (x / 2 ^ i % 2 + y / 2 ^ i % 2) % 2 := by
      have hx := Nat.testBit_xor x y i
      simp only [Nat.testBit_eq_decide_div_mod_eq] at hx
      have h1 := Nat.mod_two_eq_zero_or_one ((x ^^^ y) / 2 ^ i)
      have h2 := Nat.mod_two_eq_zero_or_one (x / 2 ^ i)
      have h3 := Nat.mod_two_eq_zero_or_one (y / 2 ^ i)
      rcases h1 with h1 | h1 <;> rcases h2 with h2 | h2 <;> rcases h3 with h3 | h3 <;> simp [h1, h2, h3] at hx ⊢
    dsimp only
    omega

/-- Two columns of odd weight sum to one of even weight. -/
theorem oddBits_xor {n x y : Nat} (hx : oddBits n x = true) (hy : oddBits n y = true) : oddBits n (x ^^^ y) = false := by
  have h := iter_popcount_xor n 0 0 0 0 x y rfl
  have hx' := of_decide_eq_true hx
  have hy' := of_decide_eq_true hy
  refine decide_eq_false ?_
  simp only [popcount] at hx' hy' ⊢
  omega

theorem tfind_mem {α : Type} {t : List (Nat × α)} {k : Nat} {v : α} (h : tfind t k = some v) : (k, v) ∈ t := by
  induction t with
  | nil => exact absurd h (by simp [tfind])
  | cons e t ih =>
    obtain ⟨j, w⟩ := e
    rw [tfind] at h
    split at h
    · injection h with h
      rename_i hj
      exact List.mem_cons.2 (.inl (Prod.ext hj.symm h.symm))
    · exact List.mem_cons_of_mem _ (ih h)

theorem firstWhere_some {p : Nat → Bool} {n i k : Nat} (h : firstWhere p n i = some k) : p k = true ∧ k < i + n := by
  induction n generalizing i with
  | zero => exact absurd h (by simp [firstWhere])
  | succ n ih =>
    rw [firstWhere] at h
    split at h
    · injection h with h
      subst h
      exact ⟨‹_›, by omega⟩
    · obtain ⟨hp, hk⟩ := ih h
      exact ⟨hp, by omega⟩

/-- A code of k data bits and n check bits: one bit in error is found, and every column's weight is odd. -/
structure Code (k n : Nat) : Prop where
  single : ∀ p < k + n, classify k n (syndromeOf k n [p]) = .single p
  odd : ∀ p < k + n, oddBits n (column k n p) = true

theorem code_native : Code 64 8 := ⟨by decide +kernel, by decide +kernel⟩
theorem code_perByte : Code 8 5 := ⟨by decide +kernel, by decide +kernel⟩

theorem syndromeOf_single (k n p : Nat) : syndromeOf k n [p] = column k n p := Nat.zero_xor _

theorem syndromeOf_double (k n p q : Nat) : syndromeOf k n [p, q] = column k n p ^^^ column k n q := by
  rw [← syndromeOf_single k n p]
  rfl

/-- Two bits in error are found to be more than one. -/
theorem Code.double {k n p q : Nat} (h : Code k n) (hp : p < k + n) (hq : q < k + n) (hpq : p ≠ q) :
    classify k n (syndromeOf k n [p, q]) = .bad := by
  have hne : syndromeOf k n [p, q] ≠ 0 := fun h0 => by
    rw [syndromeOf_double, Nat.xor_eq_zero_iff, ← syndromeOf_single, ← syndromeOf_single] at h0
    have h1 := h.single p hp
    rw [h0, h.single q hq] at h1
    injection h1 with h1
    exact hpq h1.symm
  have heven : oddBits n (syndromeOf k n [p, q]) = false := by
    rw [syndromeOf_double]
    exact oddBits_xor (h.odd p hp) (h.odd q hq)
  rw [classify, if_neg hne]
  cases hb : bitOfSyndrome k n (syndromeOf k n [p, q]) with
  | none => rfl
  | some r =>
    obtain ⟨hr, hlt⟩ := firstWhere_some hb
    have hodd := h.odd r (by omega)
    rw [of_decide_eq_true hr, heven] at hodd
    exact absurd hodd (by decide)

theorem classify_clean (k n : Nat) : classify k n (syndromeOf k n []) = .clean := rfl

theorem xor_flipMask_nil (k w : Nat) : w ^^^ flipMask k [] = w := Nat.xor_zero w

/-- One bit in error is flipped back, or was no data bit. -/
theorem correct_flipMask (k w p : Nat) : correct k (w ^^^ flipMask k [p]) p = w := by
  simp only [correct, flipMask, List.foldl_cons, List.foldl_nil]
  split
  · rw [Nat.zero_xor, Nat.xor_assoc, Nat.xor_self, Nat.xor_zero]
  · rw [Nat.xor_zero]

/-! ## Words stored again -/

theorem Mem.setCells_eq (m : Mem) (a : Nat) (l : List Byte) : m.setCells a l = { m with cells := (m.setCells a l).cells } := by
  induction l generalizing m a with
  | nil => rfl
  | cons b l ih =>
    rw [Mem.setCells, ih]
    rfl

/-- A word stored again as it stands leaves every byte. -/
theorem Mem.cell_setStored_same (m : Mem) (a x : Nat) : (m.setStored a (m.stored a)).cell x = m.cell x := by
  have hbe : be 8 (m.stored a) = [m.cell a, m.cell (a + 1), m.cell (a + 2), m.cell (a + 3), m.cell (a + 4), m.cell (a + 5),
      m.cell (a + 6), m.cell (a + 7)] := be_ofBe [_, _, _, _, _, _, _, _]
  rw [Mem.setStored]
  by_cases hx : x < a ∨ a + 8 ≤ x
  · exact cell_setCells_other _ _ _ (by rw [be_length]; exact hx)
  · obtain ⟨i, rfl⟩ := Nat.exists_eq_add_of_le (not_lt.1 (not_or.1 hx).1)
    rw [cell_setCells _ _ _ (by rw [be_length]; omega), hbe]
    have hi : i < 8 := by omega
    interval_cases i <;> rfl

theorem Mem.cell_setStored_other (m : Mem) (a w : Nat) {x : Nat} (h : x < a ∨ a + 8 ≤ x) : (m.setStored a w).cell x = m.cell x :=
  cell_setCells_other _ _ _ (by rw [be_length]; exact h)

/-! ## What is noted of an error (R373, R379, R387) -/

variable {d : Dev}

theorem Dev.hardError_eq (d : Dev) (a : Nat) : ∃ h v, d.hardError a
    = { d with memory := { d.memory with hardRows := h }, ev := v } := by
  obtain ⟨v, hv⟩ := Dev.raise_ev d .hardError []
  unfold Dev.hardError
  rw [hv]
  dsimp only
  split
  · exact ⟨d.memory.hardRows, v, rfl⟩
  · obtain ⟨h, hh⟩ : ∃ h, h = countRow d.cfg.mem.repairThreshold (a / 65536) (a / 64 % 1024) d.memory.hardRows := ⟨_, rfl⟩
    rw [← hh]
    obtain ⟨w, hw⟩ := Dev.raiseIf_ev { d with ev := v, memory := { d.memory with hardRows := h } }
      (!rowCandidate (a / 65536) (a / 64 % 1024) d.memory.hardRows && rowCandidate (a / 65536) (a / 64 % 1024) h
        && !d.cfg.mem.repairAuto) .repairCandidate []
    exact ⟨h, w, hw⟩

theorem Dev.hardErrorIf_eq (d : Dev) (c : Bool) (a : Nat) : ∃ h v, (if c then d.hardError a else d)
    = { d with memory := { d.memory with hardRows := h }, ev := v } := by
  split
  · exact d.hardError_eq a
  · exact ⟨d.memory.hardRows, d.ev, rfl⟩

/-- What is noted of a corrected error: its region's count, LAST_ERROR, and what the bucket and the row make of it. -/
theorem Dev.noteCorrected_eq (d : Dev) (a : Nat) (f : Finder) (syn : Nat) : ∃ b r h v, d.noteCorrected a f syn = { d with
    memory := { d.memory with
      ce := tset 0 d.memory.ce ((regionOf a).getD 9) (tget 0 d.memory.ce ((regionOf a).getD 9) + 1)
      bucket := b, ceRaised := r, hardRows := h
      lastError := { addr := a, kind := 0, finder := finderCode f, syndrome := syn, cycle := d.cycleNo } }
    ev := v } := by
  obtain ⟨b, r, v, hc⟩ : ∃ b r v, d.countCorrected ((regionOf a).getD 9) = { d with
      memory := { d.memory with
        ce := tset 0 d.memory.ce ((regionOf a).getD 9) (tget 0 d.memory.ce ((regionOf a).getD 9) + 1), bucket := b, ceRaised := r }
      ev := v } := by
    unfold Dev.countCorrected
    dsimp only
    obtain ⟨v, hv⟩ := Dev.raiseIf_ev _ _ _ _
    rw [hv]
    exact ⟨_, _, v, rfl⟩
  unfold Dev.noteCorrected
  rw [hc]
  obtain ⟨h, w, hw⟩ := Dev.hardErrorIf_eq (Dev.lastError { d with
      memory := { d.memory with
        ce := tset 0 d.memory.ce ((regionOf a).getD 9) (tget 0 d.memory.ce ((regionOf a).getD 9) + 1), bucket := b, ceRaised := r }
      ev := v } a 0 f syn)
    (d.memory.corrected.any (fun e => e.1 = a && e.2.1 = syn && (d.mono - e.2.2 ≤ 60000000000 : Bool))) a
  exact ⟨b, r, h, w, hw⟩

/-- An element whose record is in error waits for its rebuild (R386). -/
theorem Dev.askRebuild_eq (d : Dev) (a : Nat) : ∃ r, d.askRebuild a = { d with memory := { d.memory with rebuild := r } }
    ∧ (regionOf a = some 0 → r.any (fun x => x.1 = a / 64) = true) := by
  unfold Dev.askRebuild
  split
  · exact ⟨_, rfl, fun _ => by simp⟩
  · rename_i h
    refine ⟨d.memory.rebuild, rfl, fun hr => ?_⟩
    cases hf : tfind d.memory.rebuild (a / 64) with
    | none => exact absurd ⟨hr, by rw [hf]; rfl⟩ h
    | some v => exact List.any_eq_true.2 ⟨_, tfind_mem hf, by simp⟩

/-- A hard error where a full-word write cleared the word within 60 s (R387). -/
def Dev.afterBad (d : Dev) (a : Nat) : Dev :=
  if d.memory.cleared.any (fun e => e.1 = wordOf a && (d.mono - e.2 ≤ 60000000000 : Bool)) then d.hardError a else d

/-- What is noted of an error that is not corrected: its region's count, LAST_ERROR, and the rebuild of a record. -/
theorem Dev.noteBad_eq (d : Dev) (a : Nat) (f : Finder) (syn : Nat) : ∃ r h v, d.noteBad a f syn = { d with
    memory := { d.memory with
      ue := tset 0 d.memory.ue ((regionOf a).getD 9) (tget 0 d.memory.ue ((regionOf a).getD 9) + 1)
      rebuild := r, hardRows := h
      lastError := { addr := a, kind := 1, finder := finderCode f, syndrome := syn, cycle := d.cycleNo } }
    ev := v } ∧ (regionOf a = some 0 → r.any (fun x => x.1 = a / 64) = true) := by
  obtain ⟨x, hx⟩ : ∃ x : Dev, x = Dev.lastError { d with memory := { d.memory with
    ue := tset 0 d.memory.ue ((regionOf a).getD 9) (tget 0 d.memory.ue ((regionOf a).getD 9) + 1) } } a 1 f syn := ⟨_, rfl⟩
  obtain ⟨v, hv⟩ := Dev.raise_ev x .memUe [a, finderCode f]
  obtain ⟨r, hr, hany⟩ := Dev.askRebuild_eq { x with ev := v } a
  obtain ⟨h, w, hw⟩ := Dev.hardErrorIf_eq { x with ev := v, memory := { x.memory with rebuild := r } }
    (x.memory.cleared.any (fun e => e.1 = wordOf a && (x.mono - e.2 ≤ 60000000000 : Bool))) a
  have hnote : d.noteBad a f syn = Dev.afterBad ((x.raise .memUe [a, finderCode f]).askRebuild a) a := by rw [hx]; rfl
  rw [hnote, hv, hr]
  refine ⟨r, h, w, hw.trans ?_, hany⟩
  rw [hx]
  rfl

/-! ## What a read leaves (R373 to R377) -/

/-- The bytes, the merge buffer and the poison marks of two memories are the same. -/
def Mem.ReadsAs (m y : Mem) : Prop :=
  (∀ x, y.cell x = m.cell x) ∧ y.merge = m.merge ∧ y.poison = m.poison ∧ y.bytePoison = m.bytePoison

theorem Mem.ReadsAs.refl (m : Mem) : m.ReadsAs m := ⟨fun _ => rfl, rfl, rfl, rfl⟩

theorem Mem.ReadsAs.trans {m y z : Mem} (h : m.ReadsAs y) (h' : y.ReadsAs z) : m.ReadsAs z := by
  obtain ⟨hc, hm, hp, hb⟩ := h
  obtain ⟨hc', hm', hp', hb'⟩ := h'
  exact ⟨fun x => (hc' x).trans (hc x), hm'.trans hm, hp'.trans hp, hb'.trans hb⟩

theorem Mem.ReadsAs.byte {m y : Mem} (h : m.ReadsAs y) (x : Nat) : y.byte x = m.byte x := by
  obtain ⟨hc, hm, -⟩ := h
  exact Mem.byte_congr (hc x) (by rw [hm])

/-- A word stored again as it stands. -/
theorem Mem.readsAs_setStored (m : Mem) (a : Nat) : m.ReadsAs (m.setStored a (m.stored a)) :=
  ⟨m.cell_setStored_same a, setCells_merge .., by rw [Mem.setStored, Mem.setCells_eq], by rw [Mem.setStored, Mem.setCells_eq]⟩

/-- A byte stored again as it stands. -/
theorem Mem.readsAs_setCell (m : Mem) (a : Nat) : m.ReadsAs (m.setCell a (BitVec.ofNat 8 (m.cell a).toNat)) := by
  refine ⟨fun x => ?_, rfl, rfl, rfl⟩
  rw [Mem.setCell, Mem.cell, tget_tset, BitVec.ofNat_toNat, BitVec.setWidth_eq]
  split
  · rename_i h
    rw [h]
  · rfl

theorem Mem.readsAs_dueWriteback (m : Mem) (a syn : Nat) : m.ReadsAs (m.dueWriteback a syn) := by
  unfold Mem.dueWriteback
  split
  · exact .refl m
  · exact ⟨fun _ => rfl, rfl, rfl, rfl⟩

/-- A write-back is due for a corrected word that no merge-buffer entry serves (R374). -/
theorem Mem.tfind_dueWriteback {m : Mem} {a : Nat} (syn : Nat) (h : mergeEntry m.merge a = none) :
    tfind (m.dueWriteback a syn).writebacks a = some syn := by
  rw [Mem.dueWriteback, if_neg (by simp [h])]
  exact (tfind_replace ..).trans (if_pos rfl)

/-- A read that met no error. -/
def Dev.ReadClean (d y : Dev) : Prop :=
  d.sram.ReadsAs y.sram ∧ ∃ l, y = { d with sram := y.sram, memory := { d.memory with cleared := l } }

/-- A read that met an error at an address and corrected it. -/
def Dev.ReadCorrected (d y : Dev) (a : Nat) (f : Finder) (syn : Nat) : Prop :=
  d.sram.ReadsAs y.sram ∧ ∃ b r h l v, y = { d with
    sram := y.sram
    memory := { d.memory with
      ce := tset 0 d.memory.ce ((regionOf a).getD 9) (tget 0 d.memory.ce ((regionOf a).getD 9) + 1)
      bucket := b, ceRaised := r, hardRows := h, cleared := l
      lastError := { addr := a, kind := 0, finder := finderCode f, syndrome := syn, cycle := d.cycleNo } }
    ev := v }

/-- A read that met an error at an address and could not correct it. -/
def Dev.ReadBad (d y : Dev) (a : Nat) (f : Finder) (syn : Nat) : Prop :=
  ∃ r h l v, y = { d with
    sram := y.sram
    memory := { d.memory with
      ue := tset 0 d.memory.ue ((regionOf a).getD 9) (tget 0 d.memory.ue ((regionOf a).getD 9) + 1)
      rebuild := r, hardRows := h, cleared := l
      lastError := { addr := a, kind := 1, finder := finderCode f, syndrome := syn, cycle := d.cycleNo } }
    ev := v } ∧ (regionOf a = some 0 → r.any (fun x => x.1 = a / 64) = true)

theorem Dev.ReadClean.refl (d : Dev) : d.ReadClean d := ⟨.refl _, d.memory.cleared, rfl⟩

theorem Dev.ReadClean.trans {d x y : Dev} (h : d.ReadClean x) (h' : x.ReadClean y) : d.ReadClean y := by
  obtain ⟨hs, l, hx⟩ := h
  obtain ⟨hs', l', hy⟩ := h'
  exact ⟨hs.trans hs', l', by rw [hy, hx]⟩

theorem Dev.ReadClean.corrected {d x y : Dev} {a syn : Nat} {f : Finder} (h : d.ReadClean x)
    (h' : x.ReadCorrected y a f syn) : d.ReadCorrected y a f syn := by
  obtain ⟨hs, l, hx⟩ := h
  obtain ⟨hs', b, r, k, l', v, hy⟩ := h'
  refine ⟨hs.trans hs', b, r, k, l', v, ?_⟩
  rw [hy, hx]
  rfl

theorem Dev.ReadCorrected.clean {d x y : Dev} {a syn : Nat} {f : Finder} (h : d.ReadCorrected x a f syn)
    (h' : x.ReadClean y) : d.ReadCorrected y a f syn := by
  obtain ⟨hs, b, r, k, l, v, hx⟩ := h
  obtain ⟨hs', l', hy⟩ := h'
  refine ⟨hs.trans hs', b, r, k, l', v, ?_⟩
  rw [hy, hx]

theorem Dev.ReadClean.bad {d x y : Dev} {a syn : Nat} {f : Finder} (h : d.ReadClean x) (h' : x.ReadBad y a f syn) :
    d.ReadBad y a f syn := by
  obtain ⟨-, l, hx⟩ := h
  obtain ⟨r, k, l', v, hy, hr⟩ := h'
  refine ⟨r, k, l', v, ?_, hr⟩
  rw [hy, hx]
  rfl

theorem Dev.ReadBad.clean {d x y : Dev} {a syn : Nat} {f : Finder} (h : d.ReadBad x a f syn) (h' : x.ReadClean y) :
    d.ReadBad y a f syn := by
  obtain ⟨r, k, l, v, hx, hr⟩ := h
  obtain ⟨-, l', hy⟩ := h'
  refine ⟨r, k, l', v, ?_, hr⟩
  rw [hy, hx]

/-- Memory read over and left to read as it did. -/
theorem Dev.readClean_mem {d : Dev} {g : Mem → Mem} (h : d.sram.ReadsAs (g d.sram)) : d.ReadClean (d.mem g) :=
  ⟨h.trans ⟨fun _ => rfl, rfl, rfl, rfl⟩, _, rfl⟩

theorem Dev.readCorrected_noteCorrected (d : Dev) (a : Nat) (f : Finder) (syn : Nat) :
    d.ReadCorrected (d.noteCorrected a f syn) a f syn := by
  obtain ⟨b, r, h, v, hn⟩ := d.noteCorrected_eq a f syn
  rw [hn]
  exact ⟨.refl _, b, r, h, d.memory.cleared, v, rfl⟩

theorem Dev.readBad_mem_noteBad (d : Dev) (g : Mem → Mem) (a : Nat) (f : Finder) (syn : Nat) :
    d.ReadBad ((d.mem g).noteBad a f syn) a f syn := by
  obtain ⟨r, h, v, hn, hr⟩ := (d.mem g).noteBad_eq a f syn
  rw [hn]
  exact ⟨r, h, (d.mem g).memory.cleared, v, rfl, hr⟩

/-! ## A word in the native code -/

section
variable {d : Dev} {a : Nat} (f : Finder)

theorem Dev.readNative_poisoned (h : d.sram.poisoned a = true) (l : List Nat) : d.readNative a f l = d := if_pos h

variable (h : d.sram.poisoned a = false)
include h

theorem Dev.readNative_clean : d.ReadClean (d.readNative a f []) := by
  rw [Dev.readNative, if_neg (by simp [h])]
  dsimp only
  rw [xor_flipMask_nil]
  exact Dev.readClean_mem (d.sram.readsAs_setStored a)

theorem Dev.readNative_single {p : Nat} (hp : p < 72) : d.readNative a f [p]
    = (d.mem (fun m => (m.setStored a (d.sram.stored a)).dueWriteback a (syndromeOf 64 8 [p]))).noteCorrected a f
      (syndromeOf 64 8 [p]) := by
  rw [Dev.readNative, if_neg (by simp [h])]
  dsimp only
  rw [code_native.single p hp]
  dsimp only
  rw [correct_flipMask]

theorem Dev.readNative_corrected {p : Nat} (hp : p < 72) :
    d.ReadCorrected (d.readNative a f [p]) a f (syndromeOf 64 8 [p]) := by
  rw [Dev.readNative_single f h hp]
  exact (Dev.readClean_mem ((d.sram.readsAs_setStored a).trans (Mem.readsAs_dueWriteback ..))).corrected
    (Dev.readCorrected_noteCorrected ..)

theorem Dev.readNative_due {p : Nat} (hp : p < 72) (hm : mergeEntry d.sram.merge a = none) :
    tfind (d.readNative a f [p]).sram.writebacks a = some (syndromeOf 64 8 [p]) := by
  rw [Dev.readNative_single f h hp, Dev.noteCorrected_sram]
  exact Mem.tfind_dueWriteback _ (by rw [Mem.setStored, setCells_merge]; exact hm)

theorem Dev.readNative_double {p q : Nat} (hp : p < 72) (hq : q < 72) (hpq : p ≠ q) : d.readNative a f [p, q]
    = (d.mem (fun m => (m.setStored a (d.sram.stored a ^^^ flipMask 64 [p, q])).mark a true)).noteBad a f
      (syndromeOf 64 8 [p, q]) := by
  rw [Dev.readNative, if_neg (by simp [h])]
  dsimp only
  rw [code_native.double hp hq hpq]

end

/-! ## A byte in the per-byte code -/

section
variable {d : Dev} {a : Nat} (f : Finder)

theorem Dev.readByte_clean : d.ReadClean (d.readByte a f []) := by
  unfold Dev.readByte
  split
  · exact .refl d
  · dsimp only
    rw [xor_flipMask_nil]
    exact Dev.readClean_mem (d.sram.readsAs_setCell a)

variable (h : tget false d.sram.bytePoison a = false)
include h

theorem Dev.readByte_corrected {p : Nat} (hp : p < 13) :
    d.ReadCorrected (d.readByte a f [p]) a f (syndromeOf 8 5 [p]) := by
  rw [Dev.readByte, if_neg (by simp [h])]
  dsimp only
  rw [code_perByte.single p hp]
  dsimp only
  rw [correct_flipMask]
  exact (Dev.readClean_mem ((d.sram.readsAs_setCell a).trans (Mem.readsAs_dueWriteback ..))).corrected
    (Dev.readCorrected_noteCorrected ..)

theorem Dev.readByte_double {p q : Nat} (hp : p < 13) (hq : q < 13) (hpq : p ≠ q) : d.readByte a f [p, q]
    = (d.mem (fun m => { m.setCell a (BitVec.ofNat 8 ((d.sram.cell a).toNat ^^^ flipMask 8 [p, q])) with
        bytePoison := tset false m.bytePoison a true })).noteBad a f (syndromeOf 8 5 [p, q]) := by
  rw [Dev.readByte, if_neg (by simp [h])]
  dsimp only
  rw [code_perByte.double hp hq hpq]

end

/-! ## A read of a word -/

theorem wordOf_wordOf (a : Nat) : wordOf (wordOf a) = wordOf a := by unfold wordOf; omega

/-- Regions begin and end at whole words. -/
theorem regionOf_congr {a b : Nat} (h : a / 8 = b / 8) : regionOf a = regionOf b := by
  have hlt : ∀ n, n % 8 = 0 → (a < n ↔ b < n) := fun n hn => by omega
  have hle : 0xA00000 ≤ a ↔ 0xA00000 ≤ b := by omega
  simp only [regionOf, hlt 0x200000 rfl, hlt 0x500000 rfl, hlt 0x540000 rfl, hlt 0x5C0000 rfl, hlt 0x6C0000 rfl,
    hlt 0x740000 rfl, hlt 0x940000 rfl, hlt 0x980000 rfl, hlt 0xA90000 rfl, hle]

theorem regionOf_wordOf (a : Nat) : regionOf (wordOf a) = regionOf a := regionOf_congr (by unfold wordOf; omega)

theorem Mem.poisoned_wordOf (m : Mem) (a : Nat) : m.poisoned (wordOf a) = m.poisoned a := by
  rw [Mem.poisoned, Mem.poisoned, wordOf_wordOf]

/-- A word stored and poisoned is poisoned, and no other word changes. -/
theorem Mem.poisoned_mark_setStored (m : Mem) (a w : Nat) :
    ((m.setStored (wordOf a) w).mark (wordOf a) true).poisoned a = true := by
  rw [← Mem.poisoned_wordOf]
  exact Bool.or_eq_true_iff.2 (.inl (tget_tset_same false (m.setStored (wordOf a) w).poison _ true))

theorem Mem.mark_setStored_other (m : Mem) {a x : Nat} (w : Nat) (h : wordOf x ≠ wordOf a) :
    ((m.setStored (wordOf a) w).mark (wordOf a) true).byte x = m.byte x
      ∧ ((m.setStored (wordOf a) w).mark (wordOf a) true).poisoned x = m.poisoned x := by
  obtain ⟨c, hc⟩ : ∃ c, c = (m.setStored (wordOf a) w).cells := ⟨_, rfl⟩
  have hset : m.setStored (wordOf a) w = { m with cells := c } := hc ▸ m.setCells_eq ..
  have hcell : tget 0 c x = m.cell x := hc ▸ m.cell_setStored_other _ w (by unfold wordOf at *; omega)
  rw [hset]
  refine ⟨Mem.byte_congr hcell rfl, congrArg (· || _) ?_⟩
  exact tget_tset_other false m.poison true ((wordOf_wordOf a).symm ▸ h)

/-- Two memories differ in one byte and its mark at most, and the mark is set in the second. -/
def Mem.MarksByte (m y : Mem) (k : Nat) : Prop :=
  tget false y.bytePoison k = true
    ∧ ∀ a, a ≠ k → y.byte a = m.byte a ∧ tget false y.bytePoison a = tget false m.bytePoison a

theorem Mem.marksByte (m : Mem) (k : Nat) (b : Byte) :
    m.MarksByte { m.setCell k b with bytePoison := tset false m.bytePoison k true } k :=
  ⟨tget_tset_same false m.bytePoison k true, fun _ ha =>
    ⟨Mem.byte_congr (tget_tset_other 0 m.cells b ha) rfl, tget_tset_other false m.bytePoison true ha⟩⟩

theorem Dev.readWord_native {d : Dev} {a : Nat} (h : d.perByte a = false) (f : Finder) (l : List Nat) :
    d.readWord a f l = d.readNative a f l := if_neg (by simp [h])

/-- A step at one index makes of what held up to it what holds from it on. -/
theorem iter_at {α : Type} {f : Nat → α → α} {j : Nat} {R S : α → Prop} (hR : ∀ k x, k ≠ j → R x → R (f k x))
    (hj : ∀ x, R x → S (f j x)) (hS : ∀ k x, k ≠ j → S x → S (f k x)) (n i : Nat) (x : α) (hr : i ≤ j → R x)
    (hs : j < i → S x) (hn : j < i + n) : S (iter f n i x) := by
  induction n generalizing i x with
  | zero => exact hs hn
  | succ n ih =>
    refine ih (i + 1) _ (fun h => hR i x (by omega) (hr (by omega))) (fun h => ?_) (by omega)
    by_cases hij : i = j
    · exact hij ▸ hj x (hr (by omega))
    · exact hS i x hij (hs (by omega))

/-- In the per-byte code a read with errors in one byte is a read of that byte, the others being read well. -/
theorem Dev.readWord_perByte {d : Dev} {a k : Nat} {f : Finder} {l : List Nat} {S : Dev → Prop} (h : d.perByte a = true)
    (hk : k < 8) (hl : ∀ p ∈ l, p / 13 = k)
    (hS : ∀ x y : Dev, S x → x.ReadClean y → S y)
    (hat : ∀ x : Dev, d.ReadClean x → S (x.readByte (a + k) f (l.map (fun p => p % 13)))) : S (d.readWord a f l) := by
  have hother : ∀ i, i ≠ k → l.filter (fun p => p / 13 = i) = [] := fun i hi =>
    List.filter_eq_nil_iff.2 fun p hp hpi => hi ((of_decide_eq_true hpi).symm.trans (hl p hp))
  have hall : l.filter (fun p => p / 13 = k) = l := List.filter_eq_self.2 fun p hp => decide_eq_true (hl p hp)
  rw [Dev.readWord, if_pos h]
  refine iter_at (R := d.ReadClean) (j := k) (fun i x hi hx => ?_) (fun x hx => ?_) (fun i x hi hx => ?_) 8 0 d
    (fun _ => .refl d) (fun h => absurd h (by omega)) (by omega)
  · rw [hother i hi]
    exact hx.trans (Dev.readByte_clean f)
  · rw [hall]
    exact hat x hx
  · rw [hother i hi]
    exact hS _ _ hx (Dev.readByte_clean f)

/-- Every byte of a word of the window stands in the window. -/
theorem regionOf_perByte {d : Dev} {a k : Nat} (h : d.perByte (wordOf a) = true) (hk : k < 8) :
    regionOf (wordOf a + k) = some 7 :=
  (regionOf_congr (by unfold wordOf; omega)).trans (of_decide_eq_true (Bool.and_eq_true_iff.1 h).2)

/-! ## MEMORY_UE and CORRECTIVE_WRITEBACK (R373, R374) -/

section
variable {s : State} {addr : BitVec 24} {g : Nat}

theorem gives_memoryUe (hg : regionOf addr.toNat = some g) (f : Finder) (l : List Nat) :
    Gives (.memoryUe addr f l) s (s.dev.readWord (wordOf addr.toNat) f l) :=
  State.updM_ok (by rw [memoryUe, hg])

section
variable {f : Finder} (hg : regionOf addr.toNat = some g) (hnative : s.dev.perByte (wordOf addr.toNat) = false)
include hg hnative

theorem gives_memoryUe_native (l : List Nat) :
    Gives (.memoryUe addr f l) s (s.dev.readNative (wordOf addr.toNat) f l) :=
  Dev.readWord_native hnative f l ▸ gives_memoryUe hg f l

variable (hgood : s.dev.sram.poisoned (wordOf addr.toNat) = false)
include hgood

theorem memoryUe_clean : Completes (.memoryUe addr f []) s (fun d =>
    (∀ a, d.sram.byte a = s.dev.sram.byte a) ∧ d.sram.poison = s.dev.sram.poison
      ∧ d = { s.dev with sram := d.sram, memory := { s.dev.memory with cleared := d.memory.cleared } }) := by
  obtain ⟨hreads, l, hd⟩ := Dev.readNative_clean f hgood
  refine ⟨_, gives_memoryUe_native hg hnative [], hreads.byte, hreads.2.2.1, ?_⟩
  rw [hd]

theorem memoryUe_single {p : Nat} (hp : p < 72) : Completes (.memoryUe addr f [p]) s (fun d =>
    (∀ a, d.sram.byte a = s.dev.sram.byte a) ∧ d.sram.poison = s.dev.sram.poison
      ∧ tget 0 d.memory.ce g = tget 0 s.dev.memory.ce g + 1
      ∧ (d.memory.lastError.addr = wordOf addr.toNat ∧ d.memory.lastError.kind = 0
        ∧ d.memory.lastError.finder = (finderCode f))
      ∧ (mergeEntry s.dev.sram.merge (wordOf addr.toNat) = none →
        tfind d.sram.writebacks (wordOf addr.toNat) = some (syndromeOf 64 8 [p]))
      ∧ d = { s.dev with sram := d.sram, memory := d.memory, ev := d.ev }) := by
  obtain ⟨hreads, b, r, h, l, v, hd⟩ := Dev.readNative_corrected f hgood hp
  have hregion : (regionOf (wordOf addr.toNat)).getD 9 = g := by rw [regionOf_wordOf, hg]; rfl
  refine ⟨_, gives_memoryUe_native hg hnative [p], hreads.byte, hreads.2.2.1, ?_, ?_, Dev.readNative_due f hgood hp, ?_⟩
  · rw [hd, hregion]
    exact tget_tset_same ..
  · rw [hd]
    exact ⟨rfl, rfl, rfl⟩
  · rw [hd]

theorem memoryUe_double {p q : Nat} (hp : p < 72) (hq : q < 72) (hpq : p ≠ q) :
    Completes (.memoryUe addr f [p, q]) s (fun d =>
      d.sram.poisoned addr.toNat = true
        ∧ (∀ a, wordOf a ≠ wordOf addr.toNat →
          d.sram.byte a = s.dev.sram.byte a ∧ d.sram.poisoned a = s.dev.sram.poisoned a)
        ∧ tget 0 d.memory.ue g = tget 0 s.dev.memory.ue g + 1
        ∧ (d.memory.lastError.addr = wordOf addr.toNat ∧ d.memory.lastError.kind = 1
          ∧ d.memory.lastError.finder = (finderCode f))
        ∧ (g = 0 → d.memory.rebuild.any (fun x => x.1 = wordOf addr.toNat / 64) = true)
        ∧ d = { s.dev with sram := d.sram, memory := d.memory, ev := d.ev }) := by
  have hread := Dev.readNative_double f hgood hp hq hpq
  obtain ⟨r, h, l, v, hd, hr⟩ := hread ▸ Dev.readBad_mem_noteBad s.dev _ (wordOf addr.toNat) f (syndromeOf 64 8 [p, q])
  have hregion := (regionOf_wordOf addr.toNat).trans hg
  refine ⟨_, gives_memoryUe_native hg hnative [p, q], ?_, fun a ha => ?_, ?_, ?_, fun h0 => ?_, ?_⟩
  · rw [hread, Dev.noteBad_sram]
    exact Mem.poisoned_mark_setStored ..
  · rw [hread, Dev.noteBad_sram]
    obtain ⟨hb, hm⟩ := s.dev.sram.mark_setStored_other (s.dev.sram.stored (wordOf addr.toNat) ^^^ flipMask 64 [p, q]) ha
    exact ⟨hb, hm⟩
  · rw [hd, hregion]
    exact tget_tset_same ..
  · rw [hd]
    exact ⟨rfl, rfl, rfl⟩
  · rw [hd]
    exact hr (h0 ▸ hregion)
  · rw [hd]

end

section
variable {f : Finder} {k p : Nat} (hbyte : s.dev.perByte (wordOf addr.toNat) = true) (hg : regionOf addr.toNat = some g)
  (hp : p < 104) (hk : k = wordOf addr.toNat + p / 13) (hgood : tget false s.dev.sram.bytePoison k = false)
include hbyte hg hp hk

theorem regionOf_byte : (regionOf k).getD 9 = g := by
  have h0 : regionOf (wordOf addr.toNat + 0) = some 7 := regionOf_perByte hbyte (by omega)
  rw [hk, regionOf_perByte hbyte (by omega)]
  exact Option.some.inj (h0.symm.trans ((regionOf_wordOf addr.toNat).trans hg))

include hgood

theorem memoryUe_byte_single : Completes (.memoryUe addr f [p]) s (fun d =>
    (∀ a, d.sram.byte a = s.dev.sram.byte a) ∧ d.sram.bytePoison = s.dev.sram.bytePoison
      ∧ d.sram.poison = s.dev.sram.poison ∧ tget 0 d.memory.ce g = tget 0 s.dev.memory.ce g + 1
      ∧ d = { s.dev with sram := d.sram, memory := d.memory, ev := d.ev }) := by
  have hread : s.dev.ReadCorrected (s.dev.readWord (wordOf addr.toNat) f [p]) k f (syndromeOf 8 5 [p % 13]) := by
    refine Dev.readWord_perByte (k := p / 13) hbyte (by omega) (fun x hx => by rw [List.mem_singleton.1 hx])
      (S := fun y => s.dev.ReadCorrected y k f _) (fun x y hx hy => hx.clean hy) fun x hx => ?_
    refine hx.corrected ?_
    rw [← hk]
    exact Dev.readByte_corrected f (by rw [hx.1.2.2.2]; exact hgood) (Nat.mod_lt p (by decide))
  obtain ⟨hreads, b, r, h, l, v, hd⟩ := hread
  refine ⟨_, gives_memoryUe hg f [p], hreads.byte, hreads.2.2.2, hreads.2.2.1, ?_, ?_⟩
  · rw [hd, regionOf_byte hbyte hg hp hk]
    exact tget_tset_same ..
  · rw [hd]

theorem memoryUe_byte_double {q : Nat} (hpq : p / 13 = q / 13) (hne : p ≠ q) :
    Completes (.memoryUe addr f [p, q]) s (fun d =>
      tget false d.sram.bytePoison k = true ∧ (∀ a, a ≠ k → d.sram.byte a = s.dev.sram.byte a
          ∧ tget false d.sram.bytePoison a = tget false s.dev.sram.bytePoison a)
        ∧ tget 0 d.memory.ue g = tget 0 s.dev.memory.ue g + 1
        ∧ d = { s.dev with sram := d.sram, memory := d.memory, ev := d.ev }) := by
  have hread : s.dev.sram.MarksByte (s.dev.readWord (wordOf addr.toNat) f [p, q]).sram k
      ∧ s.dev.ReadBad (s.dev.readWord (wordOf addr.toNat) f [p, q]) k f (syndromeOf 8 5 [p % 13, q % 13]) := by
    refine Dev.readWord_perByte (k := p / 13) hbyte (by omega) (by simp [hpq])
      (S := fun y => s.dev.sram.MarksByte y.sram k ∧ s.dev.ReadBad y k f _) (fun x y hx hy => ⟨?_, hx.2.clean hy⟩) fun x hx => ?_
    · obtain ⟨⟨hmark, hother⟩, -⟩ := hx
      refine ⟨by rw [hy.1.2.2.2]; exact hmark, fun a ha => ?_⟩
      rw [hy.1.byte, hy.1.2.2.2]
      exact hother a ha
    · obtain ⟨hreads, -⟩ := id hx
      rw [← hk]
      have hdouble := Dev.readByte_double (d := x) (a := k) f (by rw [hreads.2.2.2]; exact hgood) (p := p % 13) (q := q % 13)
        (by omega) (by omega) (by omega)
      rw [List.map_cons, List.map_cons, List.map_nil, hdouble]
      refine ⟨?_, hx.bad (Dev.readBad_mem_noteBad ..)⟩
      rw [Dev.noteBad_sram]
      obtain ⟨hmark, hother⟩ := x.sram.marksByte k (BitVec.ofNat 8 ((x.sram.cell k).toNat ^^^ flipMask 8 [p % 13, q % 13]))
      refine ⟨hmark, fun a ha => ?_⟩
      rw [← hreads.byte, ← hreads.2.2.2]
      exact hother a ha
  obtain ⟨⟨hmark, hother⟩, r, h, l, v, hd, -⟩ := hread
  refine ⟨_, gives_memoryUe hg f [p, q], hmark, hother, ?_, ?_⟩
  · rw [hd, regionOf_byte hbyte hg hp hk]
    exact tget_tset_same ..
  · rw [hd]

end

theorem gives_correctiveWriteback_none (hg : regionOf addr.toNat = some g)
    (h : tfind s.dev.sram.writebacks addr.toNat = none) : Gives (.correctiveWriteback addr) s s.dev :=
  State.updM_ok (by rw [correctiveWriteback, hg]; dsimp only; rw [h])

theorem correctiveWriteback_due {y : Nat} (hg : regionOf addr.toNat = some g)
    (h : tfind s.dev.sram.writebacks addr.toNat = some y) : Completes (.correctiveWriteback addr) s (fun d =>
      d.sram.writebacks = tdel s.dev.sram.writebacks addr.toNat
        ∧ (addr.toNat, y, s.dev.mono) ∈ d.memory.corrected
        ∧ d = { s.dev with sram := { s.dev.sram with writebacks := d.sram.writebacks }
                           memory := { s.dev.memory with corrected := d.memory.corrected } }) := by
  refine ⟨_, State.updM_ok (by rw [correctiveWriteback, hg]; dsimp only; rw [h]), rfl, ?_, rfl⟩
  exact List.mem_filter.2 ⟨List.mem_cons_self .., by simp⟩

end

/-- Settles O48: a read that meets no error or one bit in error leaves what memory reads, one that meets two poisons. -/
theorem codedReads : Obligations.CodedReads := by
  unfold Obligations.CodedReads
  intro addr f g p q s
  refine ⟨fun _ hg hnative hgood => ⟨memoryUe_clean hg hnative hgood, memoryUe_single hg hnative hgood,
    memoryUe_double hg hnative hgood⟩, fun hg hnative hbad l => ?_, fun k _ hbyte hg hp hk hgood => ?_, fun hnone l => ?_,
    fun hg => ⟨gives_correctiveWriteback_none hg, fun y hy => correctiveWriteback_due hg hy⟩⟩
  · have hread := gives_memoryUe_native (f := f) hg hnative l
    rwa [Dev.readNative_poisoned f hbad] at hread
  · exact ⟨memoryUe_byte_single hbyte hg hp hk hgood, fun _ => memoryUe_byte_double hbyte hg hp hk hgood⟩
  · exact ⟨State.updM_error (by rw [memoryUe, hnone]), State.updM_error (by rw [correctiveWriteback, hnone])⟩

end Sys2Proof.Machine
end

section
/-! Scrub passes (R337, R382 to R385): the host's start and stop, the reads of a pass and its end, the circuit tables' own pass. -/

namespace Sys2Proof.Machine

/-! ## Start and stop -/

section
variable {d : Dev}

theorem scrubStart_stopped (hauto : d.cfg.mem.scrubAuto = false) (h : d.memory.scrubState = .stopped) :
    scrubStart d = (.ok, startPass (d.setScrubControl 1)) := by
  rw [scrubStart, if_neg (by simp [hauto]), h]

theorem scrubStart_running (hauto : d.cfg.mem.scrubAuto = false) (h : d.memory.scrubState = .running) :
    scrubStart d = (.conflict, d) := by
  rw [scrubStart, if_neg (by simp [hauto]), h]

theorem scrubStart_ending (hauto : d.cfg.mem.scrubAuto = false)
    (h : d.memory.scrubState = .stopping ∨ d.memory.scrubState = .restartPending) :
    scrubStart d = (.ok, (d.setScrubControl 1).setScrubState .restartPending) := by
  rw [scrubStart, if_neg (by simp [hauto])]
  rcases h with h | h <;> rw [h]

theorem scrubStop_stopped (hauto : d.cfg.mem.scrubAuto = false) (h : d.memory.scrubState = .stopped) :
    scrubStop d = (.ok, d.setScrubControl 0) := by
  rw [scrubStop, if_neg (by simp [hauto]), h]

theorem scrubStop_started (hauto : d.cfg.mem.scrubAuto = false) (h : d.memory.scrubState ≠ .stopped) :
    scrubStop d = (.ok, (d.setScrubControl 0).setScrubState .stopping) := by
  rw [scrubStop, if_neg (by simp [hauto])]
  cases hs : d.memory.scrubState with
  | stopped => exact absurd hs h
  | _ => rfl

/-! ## A read of a pass -/

/-- The pass after the word at a: its next word and its summary. -/
def Dev.passed (d : Dev) (a : Nat) (b : ScrubSummary) : Dev :=
  { d with memory := { d.memory with scrubNext := a + 8, scrub := b } }

/-- A pass under a stop ends with the word read, any other with its last. -/
def Dev.judgePass (d : Dev) (a : Nat) : Dev :=
  if d.memory.scrubState ≠ .running then endPass 3 d else if d.memory.scrub.stop ≤ a then endPass 2 d else d

theorem scrubRead_started (h : d.memory.scrubState ≠ .stopped) (l : List Nat)
    {y : Dev} (hy : d.readWord d.memory.scrubNext .scrubber l = y) :
    scrubRead l d = (y.passed d.memory.scrubNext (tally y.memory.scrub d.memory.scrubNext
      ((d.errorCounts d.memory.scrubNext).1 ≠ (y.errorCounts d.memory.scrubNext).1)
      ((d.errorCounts d.memory.scrubNext).2 ≠ (y.errorCounts d.memory.scrubNext).2)
      (d.sram.poisoned d.memory.scrubNext))).judgePass d.memory.scrubNext := by
  rw [scrubRead, if_neg h, ← hy]
  rfl

theorem tally_clean (b : ScrubSummary) (a : Nat) : tally b a false false false = { b with read := b.read + 1 } := rfl

theorem tally_poison (b : ScrubSummary) (a : Nat) :
    tally b a false false true = { b with read := b.read + 1, poisonSeen := b.poisonSeen + 1 } := rfl

theorem tally_corrected (b : ScrubSummary) (a : Nat) : tally b a true false false = { b with
    read := b.read + 1, corrected := b.corrected + 1, lastFail := a
    firstFail := if b.firstFail = 0xFFFFFFFF then a else b.firstFail } := by
  simp [tally, ofBool]

section
variable {a : Nat} (ha : a = d.memory.scrubNext) (hs : d.memory.scrubState ≠ .stopped) (hnative : d.perByte a = false)
include ha hs hnative

/-- A pass reads a good word. -/
theorem scrubRead_clean (h : d.sram.poisoned a = false) : ∃ y, d.ReadClean y ∧ scrubRead [] d
    = (y.passed a { d.memory.scrub with read := d.memory.scrub.read + 1 }).judgePass a := by
  subst ha
  have hread := Dev.readNative_clean .scrubber h
  refine ⟨_, hread, (scrubRead_started hs [] (Dev.readWord_native hnative ..)).trans ?_⟩
  obtain ⟨-, l, hy⟩ := hread
  rw [hy, h]
  congr 2
  refine (congrArg₂ (fun c u => tally d.memory.scrub d.memory.scrubNext c u false) ?_ ?_).trans (tally_clean ..)
  · exact decide_eq_false (not_not.2 rfl)
  · exact decide_eq_false (not_not.2 rfl)

/-- A pass reads a word with one bit in error. -/
theorem scrubRead_corrected (h : d.sram.poisoned a = false) {p : Nat} (hp : p < 72) :
    ∃ y, d.ReadCorrected y a .scrubber (syndromeOf 64 8 [p]) ∧ scrubRead [p] d = (y.passed a { d.memory.scrub with
      read := d.memory.scrub.read + 1, corrected := d.memory.scrub.corrected + 1, lastFail := a
      firstFail := if d.memory.scrub.firstFail = 0xFFFFFFFF then a else d.memory.scrub.firstFail }).judgePass a := by
  subst ha
  have hread := Dev.readNative_corrected .scrubber h hp
  refine ⟨_, hread, (scrubRead_started hs [p] (Dev.readWord_native hnative ..)).trans ?_⟩
  obtain ⟨-, b, r, k, l, v, hy⟩ := hread
  rw [hy, h]
  congr 2
  refine (congrArg₂ (fun c u => tally d.memory.scrub d.memory.scrubNext c u false) ?_ ?_).trans (tally_corrected ..)
  · refine decide_eq_true fun heq => ?_
    have hce := heq.trans (tget_tset_same ..)
    simp only [Dev.errorCounts] at hce
    bv_omega
  · exact decide_eq_false (not_not.2 rfl)

/-- A pass leaves a poisoned word as it is. -/
theorem scrubRead_poisoned (h : d.sram.poisoned a = true) (l : List Nat) : scrubRead l d = (d.passed a { d.memory.scrub with
    read := d.memory.scrub.read + 1, poisonSeen := d.memory.scrub.poisonSeen + 1 }).judgePass a := by
  subst ha
  rw [scrubRead_started hs l ((Dev.readWord_native hnative ..).trans (Dev.readNative_poisoned _ h l)), h]
  congr 2
  refine (congrArg₂ (fun c u => tally d.memory.scrub d.memory.scrubNext c u true) ?_ ?_).trans (tally_poison ..)
  · exact decide_eq_false (not_not.2 rfl)
  · exact decide_eq_false (not_not.2 rfl)

end

/-! ## The end of a pass -/

theorem Dev.judgePass_on {a : Nat} (h : d.memory.scrubState = .running) (ha : a < d.memory.scrub.stop) : d.judgePass a = d := by
  rw [Dev.judgePass, if_neg (not_not.2 h), if_neg (by omega)]

theorem Dev.judgePass_last {a : Nat} (h : d.memory.scrubState = .running) (ha : d.memory.scrub.stop ≤ a) :
    d.judgePass a = endPass 2 d := by
  rw [Dev.judgePass, if_neg (not_not.2 h), if_pos ha]

theorem Dev.judgePass_stopping {a : Nat} (h : d.memory.scrubState ≠ .running) : d.judgePass a = endPass 3 d := if_pos h

/-- The pass is over with a status. -/
def Dev.passClosed (d : Dev) (status : Nat) : Dev := { d with memory := { d.memory with
  scrubState := .stopped, scrub := { d.memory.scrub with status := status, finish := timeOf d.now } } }

/-- The device after a pass, SCRUB_DONE raised. -/
def Dev.passEnded (d : Dev) (status : Nat) : Dev := { d.passClosed status with ev := (d.raise .scrubDone).ev }

theorem Dev.raise_passEnded (d : Dev) (status : Nat) : (d.passClosed status).raise .scrubDone = d.passEnded status := by
  rw [Dev.raise_eq, Dev.raise_ev_congr (x := d.passClosed status) (y := d) .scrubDone [] rfl rfl rfl rfl]
  rfl

theorem endPass_over (status : Nat) (h : d.memory.scrubState ≠ .restartPending) : endPass status d = d.passEnded status :=
  (if_neg h).trans (d.raise_passEnded status)

theorem endPass_again (status : Nat) (h : d.memory.scrubState = .restartPending) :
    endPass status d = startPass (d.passEnded status) :=
  (if_pos h).trans (congrArg startPass (d.raise_passEnded status))

end

/-! ## SCRUB_READ and the circuit tables' pass -/

section
variable {s : State} {a : Nat} (ha : a = s.dev.memory.scrubNext) (hnative : s.dev.perByte a = false)
include ha hnative

theorem scrubRead_on_clean (hs : s.dev.memory.scrubState = .running) (hstop : a < s.dev.memory.scrub.stop)
    (h : s.dev.sram.poisoned a = false) : Completes (.scrubRead []) s (fun d =>
      (∀ x, d.sram.byte x = s.dev.sram.byte x)
        ∧ d = { s.dev with sram := d.sram, memory := { s.dev.memory with
            scrubNext := a + 8, scrub := { s.dev.memory.scrub with read := s.dev.memory.scrub.read + 1 }
            cleared := d.memory.cleared } }) := by
  obtain ⟨y, ⟨hreads, l, hy⟩, hread⟩ := scrubRead_clean ha (by simp [hs]) hnative h
  refine ⟨_, gives_of_upd (scrubRead []) rfl (hread.trans (Dev.judgePass_on ?_ ?_)), hreads.byte, ?_⟩
  · rw [hy]
    exact hs
  · exact hstop
  · rw [hy]
    rfl

theorem scrubRead_on_corrected (hs : s.dev.memory.scrubState = .running) (hstop : a < s.dev.memory.scrub.stop)
    (h : s.dev.sram.poisoned a = false) {p : Nat} (hp : p < 72) : Completes (.scrubRead [p]) s (fun d =>
      (∀ x, d.sram.byte x = s.dev.sram.byte x) ∧ d.memory.scrubNext = a + 8 ∧ d.memory.scrubState = .running
        ∧ d.memory.scrub = { s.dev.memory.scrub with
          read := s.dev.memory.scrub.read + 1, corrected := s.dev.memory.scrub.corrected + 1, lastFail := a
          firstFail := if s.dev.memory.scrub.firstFail = 0xFFFFFFFF then a else s.dev.memory.scrub.firstFail }
        ∧ d = { s.dev with sram := d.sram, memory := d.memory, ev := d.ev }) := by
  obtain ⟨y, ⟨hreads, b, r, k, l, v, hy⟩, hread⟩ := scrubRead_corrected ha (by simp [hs]) hnative h hp
  have hrunning : y.memory.scrubState = .running := by
    rw [hy]
    exact hs
  refine ⟨_, gives_of_upd (scrubRead [p]) rfl (hread.trans (Dev.judgePass_on hrunning hstop)), hreads.byte, rfl, hrunning, rfl, ?_⟩
  rw [hy]
  rfl

theorem scrubRead_on_poisoned (hs : s.dev.memory.scrubState = .running) (hstop : a < s.dev.memory.scrub.stop)
    (h : s.dev.sram.poisoned a = true) (l : List Nat) : Gives (.scrubRead l) s { s.dev with memory := { s.dev.memory with
      scrubNext := a + 8, scrub := { s.dev.memory.scrub with
        read := s.dev.memory.scrub.read + 1, poisonSeen := s.dev.memory.scrub.poisonSeen + 1 } } } :=
  gives_of_upd (scrubRead l) rfl
    ((scrubRead_poisoned ha (by simp [hs]) hnative h l).trans (Dev.judgePass_on hs hstop))

theorem scrubRead_over (status : Nat) (hs : (s.dev.memory.scrubState = .running ∧ s.dev.memory.scrub.stop ≤ a ∧ status = 2)
      ∨ (s.dev.memory.scrubState = .stopping ∧ status = 3)) (h : s.dev.sram.poisoned a = false) :
    Completes (.scrubRead []) s (fun d =>
      (∀ x, d.sram.byte x = s.dev.sram.byte x)
        ∧ d = { s.dev with
          sram := d.sram, ev := (s.dev.raise .scrubDone).ev
          memory := { s.dev.memory with
            scrubState := .stopped, scrubNext := a + 8, cleared := d.memory.cleared
            scrub := { s.dev.memory.scrub with
              read := s.dev.memory.scrub.read + 1, status := status, finish := timeOf s.dev.now } } }) := by
  have hstarted : s.dev.memory.scrubState ≠ .stopped := by rcases hs with ⟨hs, -⟩ | ⟨hs, -⟩ <;> simp [hs]
  obtain ⟨y, ⟨hreads, l, hy⟩, hread⟩ := scrubRead_clean ha hstarted hnative h
  have hstate : y.memory.scrubState = s.dev.memory.scrubState := by rw [hy]
  obtain ⟨z, hz⟩ : ∃ z, z = y.passed a { s.dev.memory.scrub with read := s.dev.memory.scrub.read + 1 } := ⟨_, rfl⟩
  have hev : (z.raise .scrubDone).ev = (s.dev.raise .scrubDone).ev := Dev.raise_ev_congr .scrubDone [] (by rw [hz, hy]; rfl)
    (by rw [hz, hy]; rfl) (by rw [hz, hy]; rfl) (by rw [hz, hy]; rfl)
  have hend : z.judgePass a = z.passEnded status := by
    rcases hs with ⟨hs, hstop, rfl⟩ | ⟨hs, rfl⟩
    · exact (Dev.judgePass_last (by rw [hz]; exact hstate.trans hs) (by rw [hz]; exact hstop)).trans
        (endPass_over 2 (by rw [hz]; exact fun hc => absurd (hs.symm.trans (hstate.symm.trans hc)) (by decide)))
    · exact (Dev.judgePass_stopping (by rw [hz]; exact fun hc => absurd (hs.symm.trans (hstate.symm.trans hc)) (by decide))).trans
        (endPass_over 3 (by rw [hz]; exact fun hc => absurd (hs.symm.trans (hstate.symm.trans hc)) (by decide)))
  rw [← hz] at hread
  refine ⟨_, gives_of_upd (scrubRead []) rfl (hread.trans hend), fun x => ?_, ?_⟩
  · rw [← hreads.byte x, hz]
    rfl
  · rw [Dev.passEnded, hev, hz, hy]
    rfl

theorem scrubRead_again (hs : s.dev.memory.scrubState = .restartPending) (h : s.dev.sram.poisoned a = false) :
    Completes (.scrubRead []) s (fun d =>
      (∀ x, d.sram.byte x = s.dev.sram.byte x) ∧ d.memory.scrubState = .running
        ∧ d.memory.scrubNext = s.dev.cfg.mem.scrubStart ∧ d.memory.scrub.read = 0 ∧ d.memory.scrub.status = 1
        ∧ d = { s.dev with sram := d.sram, memory := d.memory, ev := (s.dev.raise .scrubDone).ev }) := by
  obtain ⟨y, ⟨hreads, l, hy⟩, hread⟩ := scrubRead_clean ha (by simp [hs]) hnative h
  have hstate : y.memory.scrubState = .restartPending := by rw [hy]; exact hs
  obtain ⟨z, hz⟩ : ∃ z, z = y.passed a { s.dev.memory.scrub with read := s.dev.memory.scrub.read + 1 } := ⟨_, rfl⟩
  have hev : (z.raise .scrubDone).ev = (s.dev.raise .scrubDone).ev := Dev.raise_ev_congr .scrubDone [] (by rw [hz, hy]; rfl)
    (by rw [hz, hy]; rfl) (by rw [hz, hy]; rfl) (by rw [hz, hy]; rfl)
  have hend : z.judgePass a = startPass (z.passEnded 3) :=
    (Dev.judgePass_stopping (by rw [hz]; exact fun hc => absurd (hstate.symm.trans hc) (by decide))).trans
      (endPass_again 3 (by rw [hz]; exact hstate))
  rw [← hz] at hread
  refine ⟨_, gives_of_upd (scrubRead []) rfl (hread.trans hend), fun x => ?_, rfl, ?_, rfl, rfl, ?_⟩
  · rw [← hreads.byte x, hz]
    rfl
  · rw [hz, hy]
    rfl
  · rw [Dev.passEnded, hev, hz, hy]
    rfl

end

theorem bankStoreScrubRead_clean {s : State} {a : Nat} (ha : a = s.dev.memory.bankNext) (hnative : s.dev.perByte a = false)
    (h : s.dev.sram.poisoned a = false) : Completes (.bankStoreScrubRead []) s (fun d =>
      (∀ x, d.sram.byte x = s.dev.sram.byte x)
        ∧ d.memory.bankNext = (if a + 8 < 0xA90000 then a + 8 else 0xA00000)
        ∧ d = { s.dev with sram := d.sram, memory := { s.dev.memory with
            bankNext := d.memory.bankNext, cleared := d.memory.cleared } }) := by
  subst ha
  obtain ⟨hreads, l, hy⟩ := Dev.readNative_clean .circuitTables h
  refine ⟨_, gives_of_upd (bankStoreScrubRead []) rfl rfl, ?_, rfl, ?_⟩
  · rw [bankStoreScrubRead, Dev.readWord_native hnative]
    exact hreads.byte
  · rw [bankStoreScrubRead, Dev.readWord_native hnative, hy]

theorem scrubAutoPass_starts {s : State} (hauto : s.dev.cfg.mem.scrubAuto = true) (h : s.dev.memory.scrubState = .stopped) :
    scrubAutoPass s.dev = startPass { s.dev with cfg := { s.dev.cfg with mem := { s.dev.cfg.mem with
      scrubStart := 0, scrubEnd := 0x97FFF8 } } } := if_pos ⟨hauto, h⟩

/-- Settles O50: a pass's commands by its state, and its read by what the word holds. -/
theorem scrubbing : Obligations.Scrubbing := by
  unfold Obligations.Scrubbing
  intro s
  refine ⟨fun hauto => ⟨answers_of_ask scrubStart rfl (if_pos hauto), answers_of_ask scrubStop rfl (if_pos hauto)⟩,
    fun hauto hs => ⟨answers_of_ask scrubStart rfl (scrubStart_stopped hauto hs),
      answers_of_ask scrubStop rfl (scrubStop_stopped hauto hs)⟩,
    fun hauto hs => answers_of_ask scrubStart rfl (scrubStart_running hauto hs),
    fun hauto hs => answers_of_ask scrubStart rfl (scrubStart_ending hauto hs),
    fun hauto hs => answers_of_ask scrubStop rfl (scrubStop_started hauto hs),
    fun hauto hs => ⟨_, gives_of_upd scrubAutoPass rfl (scrubAutoPass_starts hauto hs), rfl, rfl, rfl, rfl, rfl, rfl, rfl⟩,
    fun hoff => gives_of_upd scrubAutoPass rfl (if_neg fun h => hoff.elim (by simp [h.1]) (absurd h.2)),
    fun hs l => gives_of_upd (scrubRead l) rfl (if_pos hs), ?_, ?_⟩
  · rintro a b ha rfl - hnative
    exact ⟨fun hs hstop => ⟨fun h => ⟨scrubRead_on_clean ha hnative hs hstop h,
        fun p hp => scrubRead_on_corrected ha hnative hs hstop h hp⟩,
      fun h l => scrubRead_on_poisoned ha hnative hs hstop h l⟩,
      fun status hs h => scrubRead_over ha hnative status hs h, fun hs h => scrubRead_again ha hnative hs h⟩
  · exact fun a ha _ hnative h => bankStoreScrubRead_clean ha hnative h

end Sys2Proof.Machine
end

section
/-! The merge buffer's oldest entry retires (R375, R376), the leaky buckets (R379), and poison met by a core (R381). -/

namespace Sys2Proof.Machine

/-! ## Bytes of an entry stored -/

/-- Bytes listed once each, stored one by one, are the cells. -/
theorem cell_each_setCell_nodup {t : Tab Byte} (h : (t.map (fun c => c.1)).Nodup) (m : Mem) (x : Nat) :
    (each t (fun c m => m.setCell c.1 c.2) m).cell x = (tfind t x).getD (m.cell x) := by
  induction t generalizing m with
  | nil => rfl
  | cons c t ih =>
    obtain ⟨hnot, hrest⟩ := List.nodup_cons.1 h
    rw [each_cons, ih hrest, tfind, Mem.setCell, Mem.cell, tget_tset]
    by_cases hx : c.1 = x
    · rw [if_pos hx, if_pos hx.symm, tfind_eq_none fun y hy hyx => hnot (List.mem_map.2 ⟨y, hy, hyx.trans hx.symm⟩)]
      rfl
    · rw [if_neg hx, if_neg (Ne.symm hx)]
      rfl

/-- The oldest entry retires, and every byte reads as it read. -/
theorem Mem.byte_retire {m : Mem} {e : MergeEntry} {l : List MergeEntry} (he : m.merge = e :: l)
    (hnodup : (e.bytes.map (fun c => c.1)).Nodup) (hword : ∀ c ∈ e.bytes, wordOf c.1 = e.word) (x : Nat) :
    (m.retire e).byte x = m.byte x := by
  have hcell : (m.retire e).cell x = (tfind e.bytes x).getD (m.cell x) := cell_each_setCell_nodup hnodup m x
  have hmerge : (m.retire e).merge = m.merge.filter (fun y => y.word ≠ e.word) := rfl
  by_cases hx : wordOf x = e.word
  · rw [Mem.byte_of_none (hmerge ▸ hx ▸ mergeEntry_settle_same ..), hcell,
      Mem.byte_of_entry (by rw [hx, he, mergeEntry, if_pos rfl])]
  · refine Mem.byte_congr ?_ (hmerge ▸ mergeEntry_settle _ hx)
    rw [hcell, tfind_eq_none fun c hc (hcx : c.1 = x) => hx (hcx ▸ hword c hc)]
    rfl

theorem Mem.retire_eq (m : Mem) (e : MergeEntry) :
    m.retire e = { m with cells := (m.retire e).cells, merge := m.merge.filter (fun x => x.word ≠ e.word) } := by
  obtain ⟨c, hc⟩ : ∃ c, each e.bytes (fun c m => m.setCell c.1 c.2) m = { m with cells := c } :=
    each_keeps (fun y : Mem => ∃ c, y = { m with cells := c }) _ _ _
      (fun c y hy => by obtain ⟨t, rfl⟩ := hy; exact ⟨_, rfl⟩) ⟨m.cells, rfl⟩
  unfold Mem.retire
  rw [hc]

/-! ## MERGE_RETIRE -/

section
variable {d : Dev}

theorem Dev.readNative_nil (d : Dev) (a : Nat) (f : Finder) : d.ReadClean (d.readNative a f []) := by
  cases h : d.sram.poisoned a with
  | true => exact (Dev.readNative_poisoned f h []).symm ▸ .refl d
  | false => exact Dev.readNative_clean f h

/-- The device after an entry's word was read well, merged and rewritten. -/
def Dev.retireOldest (d : Dev) (e : MergeEntry) : Dev :=
  (d.readNative e.word e.finder []).mem fun m => { m.retire e with writebacks := m.writebacks.filter (fun x => x.1 ≠ e.word) }

theorem mergeRetire_cons {e : MergeEntry} {l : List MergeEntry} (h : d.sram.merge = e :: l) : mergeRetire [] d
    = (if e.host then (d.retireOldest e).reply ((d.retireOldest e).mergeCode [e.word]) else d.retireOldest e).answerMerged := by
  rw [mergeRetire, h]
  rfl

theorem Dev.retireOldest_eq (d : Dev) (e : MergeEntry) : d.retireOldest e
    = { d with sram := (d.retireOldest e).sram, memory := { d.memory with cleared := (d.retireOldest e).memory.cleared } } := by
  obtain ⟨-, l, hy⟩ := d.readNative_nil e.word e.finder
  unfold Dev.retireOldest Dev.mem
  rw [hy]

theorem Dev.retireOldest_poison (d : Dev) (e : MergeEntry) : (d.retireOldest e).sram.poison = d.sram.poison
    ∧ (d.retireOldest e).sram.bytePoison = d.sram.bytePoison
    ∧ (d.retireOldest e).sram.merge = d.sram.merge.filter (fun x => x.word ≠ e.word) := by
  obtain ⟨⟨-, hmerge, hpoison, hbyte⟩, -⟩ := d.readNative_nil e.word e.finder
  rw [Dev.retireOldest, Dev.mem, Mem.retire_eq]
  exact ⟨hpoison, hbyte, congrArg _ hmerge⟩

theorem Dev.retireOldest_poisoned (d : Dev) (e : MergeEntry) (a : Nat) :
    (d.retireOldest e).sram.poisoned a = d.sram.poisoned a := by
  obtain ⟨hpoison, hbyte, -⟩ := d.retireOldest_poison e
  rw [Mem.poisoned, Mem.poisoned, hpoison, hbyte]

theorem Dev.retireOldest_byte {e : MergeEntry} {l : List MergeEntry} (he : d.sram.merge = e :: l)
    (hnodup : (e.bytes.map (fun c => c.1)).Nodup) (hword : ∀ c ∈ e.bytes, wordOf c.1 = e.word) (x : Nat) :
    (d.retireOldest e).sram.byte x = d.sram.byte x := by
  obtain ⟨hreads, -⟩ := d.readNative_nil e.word e.finder
  exact (Mem.byte_retire (hreads.2.1.trans he) hnodup hword x).trans (hreads.byte x)

theorem Dev.mergeCode_retireOldest (d : Dev) (e : MergeEntry) :
    (d.retireOldest e).mergeCode [e.word] = if d.sram.poisoned e.word then .poisoned else .ok := by
  simp [Dev.mergeCode, Dev.retireOldest_poisoned]

theorem Dev.answerMerged_none (h : d.mergeWaits = []) : d.answerMerged = d := by
  rw [Dev.answerMerged, h]
  rfl

theorem Dev.mergeWaits_congr {y : Dev} (h : y.req.outstanding = d.req.outstanding) : y.mergeWaits = d.mergeWaits := by
  rw [Dev.mergeWaits, h, Dev.mergeWaits]

theorem Dev.retireOldest_req (d : Dev) (e : MergeEntry) : (d.retireOldest e).req = d.req := by rw [d.retireOldest_eq e]

/-- A host's entry retires. -/
theorem mergeRetire_host {e : MergeEntry} {l : List MergeEntry} (h : d.sram.merge = e :: l) (hhost : e.host = true)
    (hwaits : d.mergeWaits = []) :
    mergeRetire [] d = (d.retireOldest e).reply (if d.sram.poisoned e.word then .poisoned else .ok) := by
  rw [mergeRetire_cons h, if_pos hhost, Dev.mergeCode_retireOldest]
  exact Dev.answerMerged_none ((Dev.mergeWaits_congr (congrArg Requests.outstanding (d.retireOldest_req e))).trans hwaits)

/-- A block's entry retires. -/
theorem mergeRetire_block {e : MergeEntry} {l : List MergeEntry} (h : d.sram.merge = e :: l) (hhost : e.host = false)
    (hwaits : d.mergeWaits = []) : mergeRetire [] d = d.retireOldest e := by
  rw [mergeRetire_cons h, if_neg (by simp [hhost])]
  exact Dev.answerMerged_none ((Dev.mergeWaits_congr (congrArg Requests.outstanding (d.retireOldest_req e))).trans hwaits)

/-- The one item of the one request outstanding waits for a word whose bytes have left the buffer. -/
theorem Dev.answerMerged_one {o : Outstanding} {k a : Nat} (hmerge : d.sram.merge = []) (hout : d.req.outstanding = [o])
    (hwaits : o.waits = [(k, .merge [a])]) : d.answerMerged = Dev.finishRequest (d.setReq (fun r => { r with outstanding := [] }))
      { o with answers := setCode (d.mergeCode [a]) k o.answers, waits := [] } := by
  have hlist : d.mergeWaits = [[a]] := by simp [Dev.mergeWaits, hout, hwaits]
  have hmerging : d.merging [a] = false := by simp [Dev.merging, hmerge]
  have hsettle : o.settle (.merge [a]) (d.mergeCode [a])
      = { o with answers := setCode (d.mergeCode [a]) k o.answers, waits := [] } := by
    simp [Outstanding.settle, hwaits, each]
  rw [Dev.answerMerged, hlist, List.filter_cons, if_pos (by simp [hmerging]), List.filter_nil, each_cons]
  show d.answerWait (.merge [a]) (d.mergeCode [a]) = _
  unfold Dev.answerWait
  rw [hout, List.map_singleton, hsettle, hwaits]
  simp [each]

end

section
variable {s : State} {e : MergeEntry} {l : List MergeEntry}

theorem mergeRetire_clean (h : s.dev.sram.merge = e :: l) (hnodup : (e.bytes.map (fun c => c.1)).Nodup)
    (hword : ∀ c ∈ e.bytes, wordOf c.1 = e.word) (hwaits : s.dev.mergeWaits = [])
    (hgood : s.dev.sram.poisoned e.word = false) : ∃ d : Dev,
      ((e.host = true → Answers (.mergeRetire []) s .ok d) ∧ (e.host = false → Gives (.mergeRetire []) s d))
        ∧ (∀ a, d.sram.byte a = s.dev.sram.byte a) ∧ d.sram.merge = s.dev.sram.merge.filter (fun x => x.word ≠ e.word)
        ∧ d.sram.poison = s.dev.sram.poison
        ∧ d = { s.dev with sram := d.sram, memory := { s.dev.memory with cleared := d.memory.cleared } } := by
  obtain ⟨hpoison, -, hmerge⟩ := s.dev.retireOldest_poison e
  refine ⟨s.dev.retireOldest e, ⟨fun hhost => ?_, fun hhost => ?_⟩, Dev.retireOldest_byte h hnodup hword, hmerge, hpoison,
    s.dev.retireOldest_eq e⟩
  · exact gives_of_upd (mergeRetire []) rfl ((mergeRetire_host h hhost hwaits).trans (by rw [hgood]; rfl))
  · exact gives_of_upd (mergeRetire []) rfl (mergeRetire_block h hhost hwaits)

section
variable (h : s.dev.sram.merge = e :: l) (hwaits : s.dev.mergeWaits = []) (hbad : s.dev.sram.poisoned e.word = true)
include h hwaits hbad

theorem mergeRetire_poisoned_host (hhost : e.host = true) : Replies (.mergeRetire []) s .poisoned (fun d =>
    d.sram.poisoned e.word = true ∧ d.sram.merge = s.dev.sram.merge.filter (fun x => x.word ≠ e.word)
      ∧ d = { s.dev with sram := d.sram, memory := { s.dev.memory with cleared := d.memory.cleared } }) :=
  ⟨s.dev.retireOldest e, gives_of_upd (mergeRetire []) rfl ((mergeRetire_host h hhost hwaits).trans (by rw [hbad]; rfl)),
    (s.dev.retireOldest_poisoned ..).trans hbad, (s.dev.retireOldest_poison e).2.2, s.dev.retireOldest_eq e⟩

theorem mergeRetire_poisoned_block (hhost : e.host = false) : Completes (.mergeRetire []) s (fun d =>
    d.sram.poisoned e.word = true ∧ d.sram.merge = s.dev.sram.merge.filter (fun x => x.word ≠ e.word)
      ∧ d = { s.dev with sram := d.sram, memory := { s.dev.memory with cleared := d.memory.cleared } }) :=
  ⟨s.dev.retireOldest e, gives_of_upd (mergeRetire []) rfl (mergeRetire_block h hhost hwaits),
    (s.dev.retireOldest_poisoned ..).trans hbad, (s.dev.retireOldest_poison e).2.2, s.dev.retireOldest_eq e⟩

end

/-- A request whose one item waited for the word is answered. -/
theorem mergeRetire_request {o : Outstanding} {k : Nat} {r : Resp} (h : s.dev.sram.merge = [e]) (hhost : e.host = true)
    (hout : s.dev.req.outstanding = [o]) (hwaits : o.waits = [(k, .merge [e.word])])
    (hr : r = if s.dev.sram.poisoned e.word then .poisoned else .ok) : Completes (.mergeRetire []) s (fun d => ∃ m c,
      d = Dev.finishRequest
        { s.dev with sram := m, memory := { s.dev.memory with cleared := c }
                     req := { s.dev.req with answer := some { code := r }, outstanding := [] } }
        { o with answers := setCode r k o.answers, waits := [] }) := by
  obtain ⟨x, hx⟩ : ∃ x, x = (s.dev.retireOldest e).reply r := ⟨_, rfl⟩
  have hcode : x.mergeCode [e.word] = r := by
    rw [hx, hr]
    exact Dev.mergeCode_retireOldest ..
  have hmerge : x.sram.merge = [] := by
    rw [hx]
    refine (s.dev.retireOldest_poison e).2.2.trans ?_
    simp [h]
  have hreq : x.req.outstanding = [o] := by
    rw [hx]
    exact (congrArg Requests.outstanding (s.dev.retireOldest_req e)).trans hout
  have hretire : mergeRetire [] s.dev = x.answerMerged := by
    rw [mergeRetire_cons h, if_pos hhost, Dev.mergeCode_retireOldest, ← hr, hx]
  refine ⟨_, gives_of_upd (mergeRetire []) rfl (hretire.trans (Dev.answerMerged_one hmerge hreq hwaits)),
    (s.dev.retireOldest e).sram, (s.dev.retireOldest e).memory.cleared, ?_⟩
  rw [hcode, hx, s.dev.retireOldest_eq e]
  rfl

end

/-! ## CE_LEAK -/

/-- The buckets of some regions leak, the rest standing as they were. -/
theorem iter_leakOne (n i : Nat) (d : Dev) : ∃ b c, iter (fun g d => leakOne d g) n i d
      = { d with memory := { d.memory with bucket := b, ceRaised := c } }
    ∧ (∀ r, tget 0 b r = if i ≤ r ∧ r < i + n then tget 0 d.memory.bucket r - 1 else tget 0 d.memory.bucket r)
    ∧ (∀ r, tget false c r = if (i ≤ r ∧ r < i + n) ∧ tget 0 d.memory.bucket r - 1 ≤ d.ceThreshold r / 2 then false
        else tget false d.memory.ceRaised r) := by
  induction n generalizing i d with
  | zero => exact ⟨_, _, rfl, fun r => (if_neg (by omega)).symm, fun r => (if_neg (by omega)).symm⟩
  | succ n ih =>
    obtain ⟨b, c, hiter, hb, hc⟩ := ih (i + 1) (leakOne d i)
    have hraised : ∀ r, tget false (leakOne d i).memory.ceRaised r
        = if r = i ∧ tget 0 d.memory.bucket r - 1 ≤ d.ceThreshold r / 2 then false else tget false d.memory.ceRaised r := fun r => by
      show tget false (if _ then _ else _) r = _
      by_cases hr : r = i
      · subst hr
        by_cases hle : tget 0 d.memory.bucket r - 1 ≤ d.ceThreshold r / 2
        · rw [if_pos hle, tget_tset_same, if_pos ⟨rfl, hle⟩]
        · rw [if_neg hle, if_neg fun h => hle h.2]
      · refine Eq.trans ?_ (if_neg fun h => hr h.1).symm
        split
        · exact tget_tset_other _ _ _ hr
        · rfl
    refine ⟨b, c, hiter.trans rfl, fun r => (hb r).trans ?_, fun r => (hc r).trans ?_⟩
    · have hbucket : tget 0 (leakOne d i).memory.bucket r
          = if r = i then tget 0 d.memory.bucket i - 1 else tget 0 d.memory.bucket r := tget_tset ..
      rw [hbucket]
      by_cases hr : r = i
      · rw [if_neg (by omega), if_pos hr, if_pos (by omega), hr]
      · rw [if_neg hr]
        exact if_congr (by omega) rfl rfl
    · rw [hraised]
      by_cases hr : r = i
      · rw [if_neg (by omega)]
        exact if_congr (by omega) rfl rfl
      · have hbucket : tget 0 (leakOne d i).memory.bucket r = tget 0 d.memory.bucket r := tget_tset_other _ _ _ hr
        rw [hbucket, if_neg (c := r = i ∧ _) fun h => hr h.1]
        exact if_congr (and_congr_left fun _ => by omega) rfl rfl

theorem ceLeak_leaks (s : State) : Completes .ceLeak s (fun d =>
    (∀ r, r < 9 → tget 0 d.memory.bucket r = tget 0 s.dev.memory.bucket r - 1
      ∧ tget false d.memory.ceRaised r
        = (if tget 0 s.dev.memory.bucket r - 1 ≤ s.dev.ceThreshold r / 2 then false else tget false s.dev.memory.ceRaised r))
      ∧ d = { s.dev with memory := { s.dev.memory with bucket := d.memory.bucket, ceRaised := d.memory.ceRaised } }) := by
  obtain ⟨b, c, hiter, hb, hc⟩ := iter_leakOne 9 0 s.dev
  refine ⟨_, gives_of_upd ceLeak rfl hiter, fun r hr => ⟨(hb r).trans (if_pos (by omega)), (hc r).trans ?_⟩, rfl⟩
  exact if_congr (and_iff_right (by omega)) rfl rfl

/-! ## CORE_DATA_ABORT -/

theorem Dev.consumePoison_eq (d : Dev) (a : Nat) :
    d.consumePoison a = { d.lastError a 2 .core 0 with ev := (d.raise .memPoisonConsumed [a]).ev } := by
  rw [Dev.consumePoison, Dev.raise_eq, Dev.raise_ev_congr (x := d.lastError a 2 .core 0) (y := d) .memPoisonConsumed [a] rfl rfl rfl rfl]

section
variable {s : State} {addr : BitVec 24} {g : Nat} (hg : regionOf addr.toNat = some g)
include hg

theorem coreDataAbort_good (b : Bool) (h : s.dev.sram.poisoned addr.toNat = false) : Gives (.coreDataAbort addr b) s s.dev :=
  State.updM_ok (by rw [coreDataAbort, hg]; dsimp only; rw [if_neg (by simp [h])])

variable (h : s.dev.sram.poisoned addr.toNat = true)
include h

theorem coreDataAbort_poisoned (b : Bool) : coreDataAbort addr.toNat b s.dev = .ok (if b then
      (match (s.dev.consumePoison addr.toNat).itemAtWork with
        | some w => ((s.dev.consumePoison addr.toNat).answerWait w .poisoned).reply .poisoned
        | none => (s.dev.consumePoison addr.toNat).reply .poisoned)
    else { s.dev.consumePoison addr.toNat with tow := { (s.dev.consumePoison addr.toNat).tow with coreHalted := true } }) := by
  rw [coreDataAbort, hg]
  exact if_pos h

theorem coreDataAbort_alone (hitem : s.dev.itemAtWork = none) :
    Answers (.coreDataAbort addr true) s .poisoned (s.dev.consumePoison addr.toNat) := by
  have hnone : (s.dev.consumePoison addr.toNat).itemAtWork = none := by
    rw [Dev.consumePoison_eq]
    exact hitem
  refine State.updM_ok ((coreDataAbort_poisoned hg h true).trans ?_)
  rw [if_pos rfl, hnone]

theorem coreDataAbort_item {w : WaitFor} (hitem : s.dev.itemAtWork = some w) :
    Answers (.coreDataAbort addr true) s .poisoned ((s.dev.consumePoison addr.toNat).answerWait w .poisoned) := by
  have hsome : (s.dev.consumePoison addr.toNat).itemAtWork = some w := by
    rw [Dev.consumePoison_eq]
    exact hitem
  refine State.updM_ok ((coreDataAbort_poisoned hg h true).trans ?_)
  rw [if_pos rfl, hsome]

theorem coreDataAbort_halts : Completes (.coreDataAbort addr false) s (fun d =>
    d.tow.coreHalted = true
      ∧ d.memory.lastError = ⟨addr.toNat, 2, 1, 0, s.dev.cycleNo⟩
      ∧ d = { s.dev with memory := { s.dev.memory with lastError := d.memory.lastError }
                         ev := (s.dev.raise .memPoisonConsumed [addr.toNat]).ev
                         tow := { s.dev.tow with coreHalted := true } }) := by
  refine ⟨_, State.updM_ok ((coreDataAbort_poisoned hg h false).trans (by rw [if_neg Bool.false_ne_true])), rfl, ?_, ?_⟩
  · rw [Dev.consumePoison_eq]
    rfl
  · rw [Dev.consumePoison_eq]
    rfl

end

/-- Settles O49: the oldest entry retires, the buckets leak, a core meets poison. -/
theorem mergeBufferAndLeak : Obligations.MergeBufferAndLeak := by
  unfold Obligations.MergeBufferAndLeak
  intro e l o w k addr g b s
  refine ⟨fun h => gives_of_upd (mergeRetire []) rfl (by rw [mergeRetire, h]), fun _ h _ hnodup hword hwaits =>
      ⟨mergeRetire_clean h hnodup hword hwaits, mergeRetire_poisoned_host h hwaits, mergeRetire_poisoned_block h hwaits⟩,
    fun h hhost hout hwaits r hr _ _ _ => mergeRetire_request h hhost hout hwaits hr, ceLeak_leaks s,
    fun hnone => State.updM_error (by rw [coreDataAbort, hnone]), fun hg => ⟨coreDataAbort_good hg b, fun h =>
      ⟨fun hitem => ⟨_, coreDataAbort_alone hg h hitem, rfl⟩, fun hitem => ⟨_, coreDataAbort_item hg h hitem, rfl⟩,
        coreDataAbort_halts hg h⟩⟩⟩

end Sys2Proof.Machine
end

section
/-! Repairs (R387, R388): a row is mapped to a spare, its fuse is queued and blown. -/

namespace Sys2Proof.Machine

/-- Keys below the first where p holds fail it. -/
theorem firstWhere_below {p : Nat → Bool} {n i k j : Nat} (h : firstWhere p n i = some k) (hi : i ≤ j) (hj : j < k) :
    p j = false := by
  induction n generalizing i with
  | zero => exact absurd h (by simp [firstWhere])
  | succ n ih =>
    rw [firstWhere] at h
    split at h
    · injection h with h
      omega
    · rename_i hp
      by_cases hij : i = j
      · exact hij ▸ Bool.eq_false_iff.2 hp
      · exact ih h (by omega)

section
variable {d : Dev} {mac row : Nat}

/-! ## A row is mapped -/

/-- The row mapped to a spare, its fuse queued, and the row no candidate any longer. -/
def Dev.rowMapped (d : Dev) (mac row sp k : Nat) : Dev := Dev.raise { d with memory := { d.memory with
  softMap := d.memory.softMap ++ [(mac, row, sp)]
  repairs := d.memory.repairs ++ [{ mac := mac, row := row, spare := sp, entry := k }]
  hardRows := d.memory.hardRows.map
    (fun e => if e.1 = mac ∧ e.2.1 = row then (e.1, e.2.1, e.2.2.1, false) else e) } } .repairMapped

theorem repairMap_mapped {sp k : Nat} (hsp : d.freeSpare mac = some sp) (hk : d.freeFuse = some k) :
    repairMap mac row d = (true, d.rowMapped mac row sp k) := by
  rw [repairMap, hsp, hk]
  simp only [Dev.rowMapped, Bool.and_eq_true, decide_eq_true_eq]

theorem repairMap_exhausted (h : d.freeSpare mac = none ∨ d.freeFuse = none) :
    repairMap mac row d = (false, d.raise .repairExhausted) := by
  rw [repairMap]
  cases hsp : d.freeSpare mac with
  | none => rfl
  | some sp =>
    rw [h.resolve_left (by simp [hsp])]

theorem freeSpare_lowest {sp : Nat} (h : d.freeSpare mac = some sp) :
    sp < 4 ∧ d.spareTaken mac sp = false ∧ ∀ j, j < sp → d.spareTaken mac j = true := by
  obtain ⟨hfree, hlt⟩ := firstWhere_some h
  exact ⟨hlt, by simpa using hfree, fun j hj => by simpa using firstWhere_below h (Nat.zero_le j) hj⟩

theorem freeFuse_free {k : Nat} (h : d.freeFuse = some k) :
    k < 64 ∧ fuseValid (d.fuse k) = false ∧ ∀ p ∈ d.memory.repairs, p.entry ≠ k := by
  obtain ⟨hfree, hlt⟩ := firstWhere_some h
  obtain ⟨hvalid, hqueued⟩ := Bool.and_eq_true_iff.1 hfree
  exact ⟨hlt, by simpa using hvalid, by simpa using hqueued⟩

/-! ## REPAIR_ROW and REPAIR_AUTO -/

theorem repairRow_invalid (h : 151 < mac ∨ 1023 < row) : repairRow mac row d = (.invalid, d) := if_pos h

section
variable (hmac : mac ≤ 151) (hrow : row ≤ 1023)
include hmac hrow

theorem repairRow_barred (h : d.repairBarred = true) : repairRow mac row d = (.conflict, d) := by
  rw [repairRow, if_neg (by omega), if_pos h]

theorem repairRow_allowed (h : d.repairBarred = false) :
    repairRow mac row d = (if (repairMap mac row d).1 then .ok else .busy, (repairMap mac row d).2) := by
  rw [repairRow, if_neg (by omega), if_neg (by simp [h])]

end

theorem repairAuto_candidate (hauto : d.cfg.mem.repairAuto = true) (hrow : rowCandidate mac row d.memory.hardRows = true)
    (h : d.repairBarred = false) : repairAuto mac row d = (repairMap mac row d).2 :=
  if_pos (by simp [hauto, hrow, h])

theorem repairAuto_idle (h : d.cfg.mem.repairAuto = false ∨ rowCandidate mac row d.memory.hardRows = false
    ∨ d.repairBarred = true) : repairAuto mac row d = d :=
  if_neg (by rcases h with h | h | h <;> simp [h])

end

/-- Settles O53: refused, mapped to the lowest free spare or exhausted, and the queued fuse blown. -/
theorem repairs : Obligations.Repairs := by
  unfold Obligations.Repairs
  intro mac row m r s
  refine ⟨?_, fun _ _ => freeSpare_lowest, fun _ => freeFuse_free,
    fun h => gives_of_upd (repairAuto m r) rfl (repairAuto_idle h), fun h => gives_of_upd repairFuseDone rfl ?_,
    fun q l h => gives_of_upd repairFuseDone rfl ?_⟩
  · rintro _ rfl
    refine ⟨fun h => answers_of_ask (repairRow _ _) rfl (repairRow_invalid h),
      fun hmac hrow h => answers_of_ask (repairRow _ _) rfl (repairRow_barred hmac hrow h),
      fun hmac hrow h => ⟨fun sp k hsp hk => answers_of_ask (repairRow _ _) rfl ?_,
        fun hnone => answers_of_ask (repairRow _ _) rfl ?_⟩,
      fun hauto hrow h => ⟨fun sp k hsp hk => gives_of_upd (repairAuto m r) rfl ?_,
        fun hnone => gives_of_upd (repairAuto m r) rfl ?_⟩⟩
    · rw [repairRow_allowed hmac hrow h, repairMap_mapped hsp hk]
      rfl
    · rw [repairRow_allowed hmac hrow h, repairMap_exhausted hnone]
      rfl
    · rw [repairAuto_candidate hauto hrow h, repairMap_mapped hsp hk]
      rfl
    · rw [repairAuto_candidate hauto hrow h, repairMap_exhausted hnone]
  · rw [repairFuseDone, h]
  · rw [repairFuseDone, h]

end Sys2Proof.Machine
end

section
/-! The compatibility window: its mode clears it (R377), and an image loaded through it is staged, applied and followed by its
settings (R378, R381). -/

namespace Sys2Proof.Machine

/-! ## Words rewritten with zero -/

theorem tget_filter_not {α : Type} (d : α) (p : Nat → Bool) (t : Tab α) (a : Nat) :
    tget d (t.filter (fun c => !p c.1)) a = if p a then d else tget d t a := by
  induction t with
  | nil => simp [tget]
  | cons c t ih =>
    obtain ⟨j, v⟩ := c
    by_cases hj : p j = true
    · rw [List.filter_cons, if_neg (by simp [hj]), ih, tget]
      by_cases ha : j = a
      · rw [← ha, if_pos hj, if_pos hj]
      · rw [if_neg ha]
    · rw [List.filter_cons, if_pos (by simpa using hj), tget, tget, ih]
      by_cases ha : j = a
      · rw [if_pos ha, if_pos ha, ← ha, if_neg hj]
      · rw [if_neg ha, if_neg ha]

theorem mergeEntry_filter_not (p : Nat → Bool) (l : List MergeEntry) (a : Nat) :
    mergeEntry (l.filter (fun e => !p e.word)) a = if p a then none else mergeEntry l a := by
  induction l with
  | nil => simp [mergeEntry]
  | cons e l ih =>
    by_cases he : p e.word = true
    · rw [List.filter_cons, if_neg (by simp [he]), ih, mergeEntry]
      by_cases ha : e.word = a
      · rw [← ha, if_pos he, if_pos he]
      · rw [if_neg ha]
    · rw [List.filter_cons, if_pos (by simpa using he), mergeEntry, mergeEntry, ih]
      by_cases ha : e.word = a
      · rw [if_pos ha, if_pos ha, ← ha, if_neg he]
      · rw [if_neg ha, if_neg ha]

section
variable (m : Mem) {p : Nat → Bool} (hp : ∀ a, p (wordOf a) = p a)
include hp

/-- Whole words rewritten with zero read 0 and are unpoisoned. -/
theorem Mem.byte_blank (a : Nat) : (m.blank p).byte a = if p a then 0 else m.byte a := by
  have hmerge : mergeEntry (m.blank p).merge (wordOf a) = if p a then none else mergeEntry m.merge (wordOf a) := by
    rw [← hp a]
    exact mergeEntry_filter_not ..
  have hcell : (m.blank p).cell a = if p a then 0 else m.cell a := tget_filter_not ..
  by_cases ha : p a = true
  · rw [if_pos ha] at hmerge hcell ⊢
    exact (Mem.byte_of_none hmerge).trans hcell
  · rw [if_neg ha] at hmerge hcell ⊢
    exact Mem.byte_congr hcell hmerge

theorem Mem.poisoned_blank (a : Nat) : (m.blank p).poisoned a = if p a then false else m.poisoned a := by
  have hword : tget false (m.blank p).poison (wordOf a) = if p a then false else tget false m.poison (wordOf a) := by
    rw [← hp a]
    exact tget_filter_not ..
  have hbyte : ∀ e : Nat × Bool, wordOf e.1 = wordOf a → p e.1 = p a := fun e he => by rw [← hp, he, hp]
  have hbytes : (m.blank p).bytePoison.any (fun e => e.2 && wordOf e.1 = wordOf a)
      = if p a then false else m.bytePoison.any (fun e => e.2 && wordOf e.1 = wordOf a) := by
    refine List.any_filter.trans ?_
    split
    · rename_i ha
      refine List.any_eq_false.2 fun e _ h => ?_
      simp only [Bool.and_eq_true, Bool.not_eq_true', decide_eq_true_eq] at h
      exact absurd ((hbyte e h.2.2).symm.trans h.1) (by simp [ha])
    · rename_i ha
      refine congrArg (List.any m.bytePoison) (funext fun e => ?_)
      by_cases he : wordOf e.1 = wordOf a
      · simp [hbyte e he, ha]
      · simp [he]
  rw [Mem.poisoned, Mem.poisoned, hword, hbytes]
  split <;> rfl

end

theorem inWindow_iff (a : Nat) : (0x940000 ≤ a && a < 0x980000 : Bool) = decide (regionOf a = some 7) := by
  rw [← Bool.decide_and, decide_eq_decide]
  unfold regionOf
  split_ifs <;> simp <;> omega

theorem inWindow_wordOf (a : Nat) :
    (0x940000 ≤ wordOf a && wordOf a < 0x980000 : Bool) = (0x940000 ≤ a && a < 0x980000 : Bool) := by
  rw [inWindow_iff, inWindow_iff, regionOf_wordOf]

theorem Mem.byte_clearWindow (m : Mem) (a : Nat) : m.clearWindow.byte a = if regionOf a = some 7 then 0 else m.byte a := by
  rw [Mem.clearWindow, m.byte_blank inWindow_wordOf, inWindow_iff]
  exact if_congr decide_eq_true_iff rfl rfl

theorem Mem.poisoned_clearWindow (m : Mem) (a : Nat) :
    m.clearWindow.poisoned a = if regionOf a = some 7 then false else m.poisoned a := by
  rw [Mem.clearWindow, m.poisoned_blank inWindow_wordOf, inWindow_iff]
  exact if_congr decide_eq_true_iff rfl rfl

/-! ## WINDOW_MODE -/

section
variable {d : Dev} {v : Nat}

theorem windowModeWrite_running (h : d.compatRunning = true) : windowModeWrite v d = (.conflict, d) := if_pos h

section
variable (hrun : d.compatRunning = false)
include hrun

theorem windowModeWrite_invalid (h : 1 < v) : windowModeWrite v d = (.invalid, d) := by
  rw [windowModeWrite, if_neg (by simp [hrun]), if_pos h]

theorem windowModeWrite_present (hv : v ≤ 1) (h : v = d.cfg.mem.windowMode) : windowModeWrite v d = (.ok, d) := by
  rw [windowModeWrite, if_neg (by simp [hrun]), if_neg (by omega), if_pos h]

theorem windowModeWrite_other (hv : v ≤ 1) (h : v ≠ d.cfg.mem.windowMode) : windowModeWrite v d = (.ok,
    { d.mem Mem.clearWindow with cfg := { d.cfg with mem := { d.cfg.mem with windowMode := v } } }) := by
  rw [windowModeWrite, if_neg (by simp [hrun]), if_neg (by omega), if_neg h]

end

end

/-! ## The settings of an image -/

/-- One setting of an image is written, and the first refusal is kept. -/
def settingStep (p : Nat × Nat × Int) (x : Option (Resp × Nat) × Dev) : Option (Resp × Nat) × Dev :=
  (if x.1.isSome ∨ (anyFieldWrite p.1 (fieldOf p.2.1) p.2.2 x.2).1 = .ok then x.1
    else some ((anyFieldWrite p.1 (fieldOf p.2.1) p.2.2 x.2).1, p.1),
   (anyFieldWrite p.1 (fieldOf p.2.1) p.2.2 x.2).2)

/-- The device after the settings of an image are written in turn. -/
def Dev.withSettings (d : Dev) (l : List (Nat × Nat × Int)) : Dev :=
  each l (fun p d => (anyFieldWrite p.1 (fieldOf p.2.1) p.2.2 d).2) d

/-- The code that the i-th setting of an image is answered with. -/
def Dev.settingCode (d : Dev) (l : List (Nat × Nat × Int)) (i : Nat) (p : Nat × Nat × Int) : Resp :=
  (anyFieldWrite p.1 (fieldOf p.2.1) p.2.2 (d.withSettings (l.take i))).1

section
variable (l : List (Nat × Nat × Int)) (d : Dev)

theorem Dev.stageSettings_eq : d.stageSettings l = each l settingStep (none, d) := rfl

theorem each_settingStep_snd (c : Option (Resp × Nat)) : (each l settingStep (c, d)).2 = d.withSettings l := by
  induction l generalizing c d with
  | nil => rfl
  | cons p l ih => exact ih _ _

/-- A refusal stands. -/
theorem each_settingStep_refused (c : Resp × Nat) : (each l settingStep (some c, d)).1 = some c := by
  induction l generalizing d with
  | nil => rfl
  | cons p l ih => exact ih _

variable {l d}

theorem each_settingStep_ok (h : ∀ i p, l[i]? = some p → d.settingCode l i p = .ok) : (each l settingStep (none, d)).1 = none := by
  induction l generalizing d with
  | nil => rfl
  | cons p l ih =>
    have hp : (anyFieldWrite p.1 (fieldOf p.2.1) p.2.2 d).1 = .ok := h 0 p rfl
    have hstep : settingStep p (none, d) = (none, (anyFieldWrite p.1 (fieldOf p.2.1) p.2.2 d).2) := by simp [settingStep, hp]
    rw [each_cons, hstep]
    exact ih fun i q hq => h (i + 1) q hq

theorem each_settingStep_first {i : Nat} {p : Nat × Nat × Int} (hp : l[i]? = some p) (hr : d.settingCode l i p ≠ .ok)
    (h : ∀ j q, j < i → l[j]? = some q → d.settingCode l j q = .ok) :
    (each l settingStep (none, d)).1 = some (d.settingCode l i p, p.1) := by
  induction l generalizing d i with
  | nil => exact absurd hp (by simp)
  | cons q l ih =>
    rw [each_cons]
    cases i with
    | zero =>
      obtain rfl : q = p := Option.some.inj hp
      have hstep : settingStep q (none, d)
          = (some (d.settingCode (q :: l) 0 q, q.1), (anyFieldWrite q.1 (fieldOf q.2.1) q.2.2 d).2) :=
        Prod.ext (if_neg fun h => h.elim (by simp) hr) rfl
      rw [hstep]
      exact each_settingStep_refused l _ _
    | succ i =>
      have hq : (anyFieldWrite q.1 (fieldOf q.2.1) q.2.2 d).1 = .ok := h 0 q (Nat.succ_pos i) rfl
      have hstep : settingStep q (none, d) = (none, (anyFieldWrite q.1 (fieldOf q.2.1) q.2.2 d).2) := by simp [settingStep, hq]
      rw [hstep]
      exact ih hp hr fun j x hj hx => h (j + 1) x (by omega) hx

theorem compatSet_ok (h : ∀ i p, l[i]? = some p → d.settingCode l i p = .ok) :
    d.compatSet l = (.ok, (d.withSettings l).compatStatus 1 0 0) := by
  rw [Dev.compatSet, Dev.stageSettings_eq]
  rw [each_settingStep_ok h, each_settingStep_snd]

theorem compatSet_refused {i : Nat} {p : Nat × Nat × Int} (hp : l[i]? = some p) (hr : d.settingCode l i p ≠ .ok)
    (h : ∀ j q, j < i → l[j]? = some q → d.settingCode l j q = .ok) :
    d.compatSet l = (d.settingCode l i p, (d.withSettings l).compatStatus 3 0 p.1) := by
  rw [Dev.compatSet, Dev.stageSettings_eq]
  rw [each_settingStep_first hp hr h, each_settingStep_snd]

end

/-! ## COMPAT_LOAD -/

section
variable {d : Dev}

theorem compatLoad_invalid {v : Nat} (h : v ≠ 1) : compatLoad v d = (.invalid, d) := if_pos h

theorem compatLoad_native (h : d.cfg.mem.windowMode = 0) : compatLoad 1 d = (.conflict, d) := by
  rw [compatLoad, if_neg (by decide), if_pos h]

section
variable (hmode : d.cfg.mem.windowMode ≠ 0)
include hmode

theorem compatLoad_busy (h : d.compatRunning = true) : compatLoad 1 d = (.busy, d) := by
  rw [compatLoad, if_neg (by decide), if_neg hmode, if_pos h]

variable (hrun : d.compatRunning = false)
include hrun

theorem compatLoad_poisoned {a : Nat} {l : List (Nat × Bool)} (h : d.windowMarks = (a, true) :: l) :
    compatLoad 1 d = (.poisoned, (d.consumePoison a).compatStatus 3 0 0) := by
  rw [compatLoad, if_neg (by decide), if_neg hmode, if_neg (by simp [hrun]), if_pos (by simp [Dev.windowPoisoned, h]), h]
  rfl

variable (hclean : d.windowPoisoned = false)
include hclean

theorem compatLoad_no_image (h : Config.compatImage d.windowBytes = none) :
    compatLoad 1 d = (.invalid, d.compatStatus 3 0 0) := by
  rw [compatLoad, if_neg (by decide), if_neg hmode, if_neg (by simp [hrun]), if_neg (by simp [hclean])]
  dsimp only
  rw [h]

/-- An image is staged and applied, and its map's answer decides. -/
theorem compatLoad_image {img : List Byte} (h : Config.compatImage d.windowBytes = some img) {r : Resp} {x : Dev}
    (hr : fabricApply 1 (d.stageImage img) = (r, x)) : compatLoad 1 d
      = if r = .ok then x.compatSet (Config.compatSettings d.windowBytes)
        else if r = .invalid then (.invalid, x.compatStatus 4 x.fab.error.1 x.fab.error.2) else (r, x.compatStatus 4 0 0) := by
  rw [compatLoad, if_neg (by decide), if_neg hmode, if_neg (by simp [hrun]), if_neg (by simp [hclean])]
  dsimp only
  rw [h]
  dsimp only
  rw [hr]

end

end

theorem compatLoad_marked {s : State} {a : Nat} {l : List (Nat × Bool)} (hmode : s.dev.cfg.mem.windowMode ≠ 0)
    (hrun : s.dev.compatRunning = false) (h : s.dev.windowMarks = (a, true) :: l) :
    Replies (.compatLoad 1) s .poisoned (fun d =>
      d.memory.lastError = ⟨a, 2, 1, 0, s.dev.cycleNo⟩
        ∧ d = { s.dev with
          memory := { s.dev.memory with compat := (3, 0, 0), lastError := d.memory.lastError }
          ev := (s.dev.raise .memPoisonConsumed [a]).ev }) := by
  refine ⟨_, answers_of_ask (compatLoad 1) rfl (compatLoad_poisoned hmode hrun h), ?_, ?_⟩
  · rw [Dev.consumePoison_eq]
    rfl
  · rw [Dev.consumePoison_eq]
    rfl

theorem windowMode_clears {s : State} {v : BitVec 8} (hrun : s.dev.compatRunning = false) (hv : v.toNat ≤ 1)
    (h : v.toNat ≠ s.dev.cfg.mem.windowMode) : Replies (.windowModeWrite v) s .ok (fun d =>
      (∀ a, regionOf a = some 7 → d.sram.byte a = 0 ∧ d.sram.poisoned a = false)
        ∧ (∀ a, regionOf a ≠ some 7 → d.sram.byte a = s.dev.sram.byte a ∧ d.sram.poisoned a = s.dev.sram.poisoned a)
        ∧ d = { s.dev with
          sram := d.sram, memory := { s.dev.memory with cleared := d.memory.cleared }
          cfg := { s.dev.cfg with mem := { s.dev.cfg.mem with windowMode := v.toNat } } }) :=
  ⟨_, answers_of_ask (windowModeWrite v.toNat) rfl (windowModeWrite_other hrun hv h),
    fun a ha => ⟨(Mem.byte_clearWindow ..).trans (if_pos ha), (Mem.poisoned_clearWindow ..).trans (if_pos ha)⟩,
    fun a ha => ⟨(Mem.byte_clearWindow ..).trans (if_neg ha), (Mem.poisoned_clearWindow ..).trans (if_neg ha)⟩, rfl⟩

/-- Settles O52: the window's mode and the load by their conditions, an image by what its map and its settings are answered. -/
theorem windowAndCompat : Obligations.WindowAndCompat := by
  unfold Obligations.WindowAndCompat
  intro v a l s
  refine ⟨fun h => answers_of_ask (windowModeWrite _) rfl (windowModeWrite_running h),
    fun hrun => ⟨fun h => answers_of_ask (windowModeWrite _) rfl (windowModeWrite_invalid hrun h),
      fun hv h => answers_of_ask (windowModeWrite _) rfl (windowModeWrite_present hrun hv h), windowMode_clears hrun⟩,
    fun h => answers_of_ask (compatLoad _) rfl (compatLoad_invalid fun hv => h (BitVec.eq_of_toNat_eq hv)),
    fun h => answers_of_ask (compatLoad _) rfl (compatLoad_native h),
    fun hmode h => answers_of_ask (compatLoad _) rfl (compatLoad_busy hmode h), compatLoad_marked,
    fun hmode hrun hclean => ⟨(compatLoad 1 s.dev).2.reply (compatLoad 1 s.dev).1, State.ask_next (compatLoad 1) s, fun h => ?_, fun img x h hx => ?_,
      fun img r x h hx hinv hok => ?_, fun img x z r k h hx hz hr hk => ⟨fun hall => ?_, fun i p hp hri hall => ?_⟩⟩⟩
  · rw [compatLoad_no_image hmode hrun hclean h]
    rfl
  · rw [compatLoad_image hmode hrun hclean h hx, if_neg (by decide), if_pos rfl]
    rfl
  · rw [compatLoad_image hmode hrun hclean h hx, if_neg hok, if_neg hinv]
    rfl
  all_goals
    have hcode : ∀ i p, (Config.compatSettings s.dev.windowBytes)[i]? = some p →
        x.settingCode (Config.compatSettings s.dev.windowBytes) i p = r i := fun i p hp => by
      rw [hr i p hp, hz]
      rfl
    have hend : x.withSettings (Config.compatSettings s.dev.windowBytes) = z k := by
      rw [hz, hk, List.take_length]
      rfl
    rw [compatLoad_image hmode hrun hclean h hx, if_pos rfl]
  · rw [compatSet_ok fun i p hp => (hcode i p hp).trans (hall i (hk ▸ (List.getElem?_eq_some_iff.1 hp).1)), hend]
    rfl
  · rw [compatSet_refused hp ((hcode i p hp).symm ▸ hri) fun j q hj hq => (hcode j q hq).trans (hall j hj), hend, hcode i p hp]
    rfl

end Sys2Proof.Machine
end

section
/-! The Label Decoder's control (R232 to R239, R248): start and stop, its pairs, the quarter-bit, lost labels, and the index up to
which its notifications are read. -/

namespace Sys2Proof.Machine

/-! ## Start and stop -/

section
variable {d : Dev}

theorem decoderStop_eq (d : Dev) : (decoderStop d).1 = .ok ∧ (decoderStop d).2 = { d with
    dec := (decoderStop d).2.dec, cfg := { d.cfg with dec := { d.cfg.dec with control := 0 } } } := ⟨rfl, rfl⟩

theorem decoderStop_restartPending (h : d.dec.state = .restartPending) :
    (decoderStop d).2.dec = { d.dec with state := .stopping } := by
  simp [decoderStop, Dev.setDec, Dev.setDecCfg, h]

theorem decoderStop_stopping (h : d.dec.state = .stopping) : (decoderStop d).2.dec = { d.dec with due := none } := by
  simp [decoderStop, Dev.setDec, Dev.setDecCfg, h]

theorem decoderStop_due (hr : d.dec.state ≠ .restartPending) (hs : d.dec.state ≠ .stopping) :
    (decoderStop d).2.dec = { d.dec with due := some 0 } := by
  show (match d.dec.state with
    | .restartPending => _
    | .stopping => _
    | _ => _) = _
  cases h : d.dec.state with
  | restartPending => exact absurd h hr
  | stopping => exact absurd h hs
  | _ => rfl

theorem decoderStart_stopping (h : d.dec.state = .stopping) :
    (decoderStart d).2.dec = { d.dec with state := .restartPending } := if_pos h

theorem decoderStart_due (h : d.dec.state ≠ .stopping) : (decoderStart d).2.dec = { d.dec with due := some 1 } := if_neg h

theorem decoderStopped_busy (h : ∃ x ∈ d.dec.chans, x.2.decode ≠ none) : decoderStopped d = d := by
  obtain ⟨x, hx, hdecode⟩ := h
  exact if_pos (.inr (List.any_eq_true.2 ⟨x, hx, Option.isSome_iff_ne_none.2 hdecode⟩))

section
variable (hslot : d.cyc.slot = 0) (hidle : ∀ x ∈ d.dec.chans, x.2.decode = none)
include hslot hidle

theorem not_decoding : ¬ (d.cyc.slot ≠ 0 ∨ d.dec.chans.any (fun p => p.2.decode.isSome) = true) := by
  simpa [hslot] using fun x y hx => hidle (x, y) hx

theorem decoderStopped_stopping (h : d.dec.state = .stopping) :
    decoderStopped d = { d with dec := { d.dec with state := .stopped, chans := [] } } := by
  rw [decoderStopped, if_neg (not_decoding hslot hidle), h]
  rfl

theorem decoderStopped_restartPending (h : d.dec.state = .restartPending) : decoderStopped d = d.resumeDecoder := by
  rw [decoderStopped, if_neg (not_decoding hslot hidle), h]

end

/-! ### What the resumption leaves -/

theorem each_dec {α : Type} (l : List α) (f : α → Dev → Dev) (d : Dev) (h : ∀ a x, (f a x).dec = x.dec) :
    (each l f d).dec = d.dec :=
  each_keeps (fun x : Dev => x.dec = d.dec) l f d (fun a x hx => (h a x).trans hx) rfl

theorem Dev.hitAll_dec (d : Dev) : d.hitAll.dec = d.dec := each_dec _ _ _ fun _ _ => rfl

theorem Dev.verifyDone_dec (d : Dev) : d.verifyDone.dec = d.dec := by
  refine each_dec _ _ _ fun l x => ?_
  obtain ⟨v, hv⟩ := x.raise_ev .verifyDone _
  rw [hv]

theorem Dev.pendAll_dec (d : Dev) : d.pendAll.dec = d.dec := by
  unfold Dev.pendAll
  refine each_dec _ _ _ fun p x => ?_
  split
  · rfl
  · rfl

theorem Dev.repend_dec (d : Dev) : d.repend.dec = d.dec := by
  unfold Dev.repend
  rw [Dev.verifyDone_dec, Dev.pendAll_dec]
  rfl

theorem Dev.resumeDecoder_dec (d : Dev) : d.resumeDecoder.dec = { d.dec with
    state := .running, quarter := d.time.lastTick / 500000, chans := [], ticksAhead := 0
    ticksNow := d.resumeDecoder.dec.ticksNow, tickCounts := d.resumeDecoder.dec.tickCounts } := by
  have h : d.resumeDecoder.dec = { d.dec with
      state := .running, quarter := d.time.lastTick / 500000, chans := []
      ticksNow := ticksIn d.period (d.time.lastTick / 500000) d.time.lastTick, ticksAhead := 0
      tickCounts := (List.range 3).map (fun i => ticksIn d.period (d.time.lastTick / 500000 - 1 - i) d.time.lastTick) } :=
    by
    unfold Dev.resumeDecoder
    dsimp only
    rw [Dev.repend_dec, Dev.hitAll_dec]
    rfl
  rw [h]

end

/-! ## Pairs -/

section
variable {d : Dev} {j f0 f1 : Nat} {on : Bool}

theorem pairWrite_invalid (h : (on = true ∧ j ∉ activePairs d.period (splice d.pairs j [⟨f0, f1, on⟩]))
    ∨ ∃ k ∈ activePairs d.period d.pairs, k ≠ j ∧ k ∉ activePairs d.period (splice d.pairs j [⟨f0, f1, on⟩])) :
    pairWrite j f0 f1 on d = (.invalid, d) := by
  refine if_pos (h.imp (fun ⟨hon, hj⟩ => ⟨hon, by simpa using hj⟩) fun ⟨k, hk, hkj, hafter⟩ => List.any_eq_true.2 ⟨k, hk, ?_⟩)
  simpa using ⟨hkj, hafter⟩

theorem pairWrite_ok (hon : on = true → j ∈ activePairs d.period (splice d.pairs j [⟨f0, f1, on⟩]))
    (hother : ∀ k ∈ activePairs d.period d.pairs, k ≠ j → k ∈ activePairs d.period (splice d.pairs j [⟨f0, f1, on⟩])) :
    ∃ o, pairWrite j f0 f1 on d = (.ok, { d with
      dec := { d.dec with oldEnable := o }
      cfg := { d.cfg with dec := { d.cfg.dec with
        f0 := tset 0 d.cfg.dec.f0 j (BitVec.ofNat 32 f0), f1 := tset 0 d.cfg.dec.f1 j (BitVec.ofNat 32 f1)
        enable := tset false d.cfg.dec.enable j on } } }) := by
  refine ⟨_, (if_neg ?_).trans rfl⟩
  rintro (⟨h, hj⟩ | h)
  · exact absurd (hon h) (by simpa using hj)
  · obtain ⟨k, hk, hbad⟩ := List.any_eq_true.1 h
    obtain ⟨hkj, hafter⟩ : k ≠ j ∧ k ∉ activePairs d.period (splice d.pairs j [⟨f0, f1, on⟩]) := by simpa using hbad
    exact hafter (hother k hk hkj)

end

/-! ## The quarter-bit -/

section
variable {d : Dev}

theorem Dev.OnNetwork.dec {d y : Dev} (h : d.OnNetwork y) : y.dec = d.dec := by
  obtain ⟨n, t, rfl⟩ := h
  rfl

theorem Dev.sendResponse_dec (d : Dev) (spi : Bool) (src cls : Nat) (planeB poison : Bool) (body : List Byte) :
    (d.sendResponse spi src cls planeB poison body).dec = d.dec := by
  unfold Dev.sendResponse
  dsimp only
  split
  · rfl
  · rw [Dev.OnNetwork.dec (.originate ..)]
    rfl

theorem Dev.recordEntry_dec (d : Dev) (o : Outstanding) (status : Resp) (body : List Byte) :
    (d.recordEntry o status body).dec = d.dec := by
  unfold Dev.recordEntry
  (repeat' split) <;> rfl

theorem Dev.answerFromCache_dec (d : Dev) (src cls : Nat) (planeB : Bool) (e : WinEntry) :
    (d.answerFromCache src cls planeB e).dec = d.dec := by
  rw [Dev.answerFromCache, Dev.sendResponse_dec]
  rfl

theorem Dev.finishRequest_dec (d : Dev) (o : Outstanding) : (d.finishRequest o).dec = d.dec := by
  unfold Dev.finishRequest
  dsimp only
  split
  · split
    · exact Dev.recordEntry_dec d o _ _
    · exact Dev.recordEntry_dec d o _ _
  · rw [each_dec _ _ _ fun p x => x.answerFromCache_dec .., Dev.sendResponse_dec, Dev.recordEntry_dec]

theorem Dev.answerWait_dec (d : Dev) (w : WaitFor) (code : Resp) : (d.answerWait w code).dec = d.dec :=
  (each_dec _ _ _ fun o x => x.finishRequest_dec o).trans rfl

/-- A notification changes its queue and the Event Unit. -/
theorem Dev.pushLearn_eq (d : Dev) (b : List Byte) : ∃ s r w n u v, d.pushLearn b = { d with
    ev := v, dec := { d.dec with learnSeq := s, learnRing := r, learnWrite := w, learnDropped := n, learnRun := u } } := by
  unfold Dev.pushLearn
  dsimp only
  split
  · exact ⟨_, _, _, _, _, d.ev, rfl⟩
  · obtain ⟨v, hv⟩ := Dev.raiseIf_ev _ _ _ _
    rw [hv]
    exact ⟨_, _, _, _, _, v, rfl⟩

theorem Dev.pushLearn_quarter (d : Dev) (b : List Byte) : (d.pushLearn b).dec.quarter = d.dec.quarter := by
  obtain ⟨s, r, w, n, u, v, h⟩ := d.pushLearn_eq b
  rw [h]

/-- The answer or notification of a command that has completed. -/
def Dev.answerLabel (d : Dev) (o : LabelOut) : CmdOrigin → Dev
  | .host id => if d.req.outstanding.any (fun x => x.waits.any (fun w => w.2 = .label id)) then d.answerWait (.label id) o.resp
    else d.reply o.resp
  | .firmware r => d.pushLearn (splice r 7 (be 1 (insertResult o.resp)))
  | .mate => d

theorem Dev.completeLabel_eq (d : Dev) (c : LabelCmd) (origin : CmdOrigin) (o : LabelOut) :
    ∃ l, d.completeLabel c origin o = Dev.answerLabel { d with lab := l } o origin := by
  obtain ⟨l, hl⟩ : ∃ l, (if (o.resp = .ok && (c.opcode = 1 || c.opcode = 2 || c.opcode = 5) : Bool) && (d.putResult80 c o).driving then
      (d.putResult80 c o).setLab (fun t => { t with forward := t.forward ++ [c] }) else d.putResult80 c o) = { d with lab := l } := by
    split
    · exact ⟨_, rfl⟩
    · exact ⟨_, rfl⟩
  refine ⟨l, ?_⟩
  rw [← hl]
  cases origin <;> rfl

theorem Dev.answerLabel_quarter (d : Dev) (o : LabelOut) (origin : CmdOrigin) :
    (d.answerLabel o origin).dec.quarter = d.dec.quarter := by
  cases origin with
  | host id =>
    unfold Dev.answerLabel
    dsimp only
    split
    · rw [Dev.answerWait_dec]
    · rfl
  | firmware r => exact Dev.pushLearn_quarter ..
  | mate => rfl

theorem Dev.completeLabel_quarter (d : Dev) (c : LabelCmd) (origin : CmdOrigin) (o : LabelOut) :
    (d.completeLabel c origin o).dec.quarter = d.dec.quarter := by
  obtain ⟨l, hl⟩ := d.completeLabel_eq c origin o
  rw [hl, Dev.answerLabel_quarter]

theorem Dev.runInsert_dec (d : Dev) (c : LabelCmd) : (d.runInsert c).2.dec = d.dec := by
  unfold Dev.runInsert
  dsimp only
  (repeat' split) <;> rfl

theorem Dev.runDelete_dec (d : Dev) (c : LabelCmd) : (d.runDelete c).2.dec = d.dec := by
  unfold Dev.runDelete
  (repeat' split) <;> rfl

theorem Dev.runSearch_dec (d : Dev) (c : LabelCmd) : (d.runSearch c).2.dec = d.dec := by
  unfold Dev.runSearch
  (repeat' split) <;> rfl

theorem Dev.runNext_dec (d : Dev) (c : LabelCmd) : (d.runNext c).2.dec = d.dec := by
  unfold Dev.runNext
  dsimp only
  (repeat' split) <;> rfl

theorem Dev.flushStep_dec (d : Dev) (c : LabelCmd) (o : CmdOrigin) (k n : Nat) : (d.flushStep c o k n).dec = d.dec :=
  each_dec _ _ _ fun _ _ => rfl

/-- The table's turn in a cycle leaves the present quarter-bit. -/
theorem Dev.labelStep_quarter (d : Dev) : d.labelStep.dec.quarter = d.dec.quarter := by
  unfold Dev.labelStep
  split
  · rfl
  · split
    · split
      · rename_i c o k n _ _
        exact congrArg Decoder.quarter (d.flushStep_dec c o k n)
      · rfl
    · split
      · rfl
      · dsimp only
        split
        · rw [Dev.completeLabel_quarter, Dev.runInsert_dec]
          rfl
        · rw [Dev.completeLabel_quarter, Dev.runDelete_dec]
          rfl
        · rw [Dev.completeLabel_quarter, Dev.runSearch_dec]
          rfl
        · rw [Dev.completeLabel_quarter, Dev.runNext_dec]
          rfl
        · split
          · rw [Dev.completeLabel_quarter]
            rfl
          · rw [Dev.flushStep_dec]
            rfl

theorem quarterBit_idle (h : d.decoding = false ∨ d.lab.busy = true) : quarterBit d = d :=
  if_pos (h.imp id fun h => .inr (.inl h))

theorem quarterBit_passes (hdec : d.decoding = true) (hbusy : d.lab.busy = false)
    (hpast : d.time.lastTick / 500000 ≠ d.dec.quarter)
    (hin : ∀ x ∈ d.rd.conversions, 500000 * (d.dec.quarter + 1) ≤ x.start) :
    (quarterBit d).dec.quarter = d.time.lastTick / 500000 := by
  unfold quarterBit
  dsimp only
  rw [if_neg]
  · exact Dev.labelStep_quarter _
  · rintro (h | h | h | h)
    · simp [hdec] at h
    · exact hpast h
    · simp [hbusy] at h
    · obtain ⟨x, hx, hlt⟩ := List.any_eq_true.1 h
      exact absurd (hin x hx) (not_le.2 (of_decide_eq_true hlt))

end

/-! ## Lost labels and the read index -/

section
variable {d : Dev} {t j : Nat}

theorem Dev.chan_setChan (d : Dev) (t j : Nat) (x : PairChan) : (d.setChan t j x).chan t j = x := tget_tset_same ..

theorem labelGone_none (h : (d.chan t j).current = none) : labelGone t j d = d := by
  unfold labelGone
  dsimp only
  rw [h]

section
variable {c : CurLabel} (h : (d.chan t j).current = some c)
include h

theorem labelGone_early (hnow : d.now < 240000000 + c.lastEnd) : labelGone t j d = d := by
  unfold labelGone
  dsimp only
  rw [h]
  exact if_pos (.inl hnow)

/-- A label is lost: an ingress channel posts it. -/
theorem labelGone_lost (hnow : 240000000 + c.lastEnd ≤ d.now) (hrun : d.dec.state = .running) : labelGone t j d
    = if t % 2 = 0 then (d.setChan t j { d.chan t j with current := none, lost := some c }).pushLearn
        (learnRecord 2 j (t / 2) c.key.toNat 0 0 0xFFFF c.lastStart 0)
      else d.setChan t j { d.chan t j with current := none, lost := some c } := by
  unfold labelGone
  dsimp only
  rw [h]
  refine (if_neg (by simp [hrun, hnow])).trans ?_
  rfl

theorem labelGone_chan (hnow : 240000000 + c.lastEnd ≤ d.now) (hrun : d.dec.state = .running) :
    (labelGone t j d).chan t j = { d.chan t j with current := none, lost := some c }
      ∧ (t % 2 = 1 → labelGone t j d = { d with dec := (labelGone t j d).dec }) := by
  rw [labelGone_lost h hnow hrun]
  split
  · obtain ⟨s, r, w, n, u, v, hpush⟩ := (d.setChan t j { d.chan t j with current := none, lost := some c }).pushLearn_eq
      (learnRecord 2 j (t / 2) c.key.toNat 0 0 0xFFFF c.lastStart 0)
    rw [hpush]
    exact ⟨Dev.chan_setChan .., fun hodd => by omega⟩
  · exact ⟨Dev.chan_setChan .., fun _ => rfl⟩

end

end

/-- Settles O29: the decoder's control by its state, its pairs by their conditions, its labels by their time. -/
theorem decoderControl : Obligations.DecoderControl := by
  unfold Obligations.DecoderControl
  intro p f0 f1 on v chan s
  refine ⟨⟨_, answers_of_ask decoderStop rfl rfl, rfl, decoderStop_restartPending, decoderStop_stopping, decoderStop_due⟩,
    ⟨_, answers_of_ask decoderStart rfl rfl, rfl, decoderStart_stopping, decoderStart_due⟩,
    fun hslot hidle h => gives_of_upd decoderStopped rfl (decoderStopped_stopping hslot hidle h),
    fun hslot hidle h => ⟨_, gives_of_upd decoderStopped rfl (decoderStopped_restartPending hslot hidle h),
      Dev.resumeDecoder_dec _, Dev.resumeDecoder_cyc _⟩,
    fun h => gives_of_upd decoderStopped rfl (decoderStopped_busy h),
    fun h => answers_of_ask (pairWrite _ _ _ on) rfl (pairWrite_invalid h), fun hon hother => ?_,
    fun h => answers_of_ask (learnReadIndexWrite v) rfl (if_pos h),
    fun h => answers_of_ask (learnReadIndexWrite v) rfl (if_neg (not_le.2 h)),
    fun hdec hbusy hpast hin => ⟨_, gives_of_upd quarterBit rfl rfl, quarterBit_passes hdec hbusy hpast hin, quarterBit_cyc _⟩,
    fun h => gives_of_upd quarterBit rfl (quarterBit_idle h), fun c hc hnow hrun => ?_,
    fun c hc hnow => gives_of_upd (labelGone _ _) rfl (labelGone_early hc hnow),
    fun hnone => gives_of_upd (labelGone _ _) rfl (labelGone_none hnone)⟩
  · obtain ⟨o, ho⟩ := pairWrite_ok hon hother
    refine ⟨_, answers_of_ask (pairWrite _ _ _ on) rfl ho, ?_⟩
    rw [BitVec.ofNat_toNat, BitVec.setWidth_eq, BitVec.ofNat_toNat, BitVec.setWidth_eq]
  · obtain ⟨hchan, hodd⟩ := labelGone_chan hc hnow hrun
    refine ⟨_, gives_of_upd (labelGone _ _) rfl rfl, ?_, ?_, hodd, labelGone_cyc ..⟩
    · rw [hchan]
    · rw [hchan]

end Sys2Proof.Machine
end

section
/-! REJOIN (R435): the mate's bank as it was read is written into both banks, and its digest decides. -/

namespace Sys2Proof.Machine

/-! ## Bytes stored in the banks (R209) -/

/-- The bytes of a list that stand at an offset are all v, and v is 0 where none does. -/
def ReadsAt (l : List Host.Cell) (off : Nat) (v : Byte) : Prop :=
  (∀ c ∈ l, c.1 = off → c.2 = v) ∧ ((∃ c ∈ l, c.1 = off) ∨ v = 0)

theorem cell_each_setCell_at {l : List Host.Cell} {base off : Nat} {v : Byte} (hl : ∀ c ∈ l, c.1 = off → c.2 = v) (m : Mem)
    (h : (∃ c ∈ l, c.1 = off) ∨ m.cell (base + off) = v) :
    (each l (fun c m => m.setCell (base + c.1) c.2) m).cell (base + off) = v := by
  induction l generalizing m with
  | nil => exact h.resolve_left (by simp)
  | cons a l ih =>
    refine ih (fun c hc => hl c (List.mem_cons_of_mem _ hc)) (m.setCell (base + a.1) a.2) ?_
    by_cases ha : a.1 = off
    · refine .inr ?_
      rw [ha, ← hl a (List.mem_cons_self ..) ha]
      exact tget_tset_same ..
    · rcases h with ⟨c, hc, hoff⟩ | h
      · exact .inl ⟨c, (List.mem_cons.1 hc).resolve_left fun hca => ha (hca ▸ hoff), hoff⟩
      · exact .inr ((tget_tset_other _ _ _ (by omega)).trans h)

theorem each_setCell_eq (l : List Host.Cell) (base : Nat) (m : Mem) : ∃ c,
    each l (fun c m => m.setCell (base + c.1) c.2) m = { m with cells := c } :=
  each_keeps (fun y : Mem => ∃ c, y = { m with cells := c }) _ _ _
    (fun c y hy => by obtain ⟨t, rfl⟩ := hy; exact ⟨_, rfl⟩) ⟨m.cells, rfl⟩

theorem Mem.cell_blank (m : Mem) (p : Nat → Bool) (a : Nat) : (m.blank p).cell a = if p a then 0 else m.cell a :=
  tget_filter_not ..

/-- Memory whose banks hold nothing but the bytes of a list, from a base. -/
def Mem.withBank (m : Mem) (base : Nat) (l : List Host.Cell) : Mem :=
  each l (fun c m => m.setCell (base + c.1) c.2) (m.blank (fun a => 0xA00000 ≤ a))

theorem inBanks_wordOf (a : Nat) : decide (0xA00000 ≤ wordOf a) = decide (0xA00000 ≤ a) :=
  decide_eq_decide.2 (by unfold wordOf; omega)

theorem Mem.mergeEntry_withBank (m : Mem) (base : Nat) (l : List Host.Cell) (x : Nat) :
    mergeEntry (m.withBank base l).merge x = if 0xA00000 ≤ x then none else mergeEntry m.merge x := by
  obtain ⟨c, hc⟩ := each_setCell_eq l base (m.blank (fun a => 0xA00000 ≤ a))
  rw [Mem.withBank, hc]
  refine (mergeEntry_filter_not (fun a => 0xA00000 ≤ a) m.merge x).trans ?_
  exact if_congr decide_eq_true_iff rfl rfl

/-- A byte of the banks reads what was listed for it, or 0. -/
theorem Mem.byte_withBank (m : Mem) {base off : Nat} {l : List Host.Cell} {v : Byte} (hbase : 0xA00000 ≤ base)
    (h : ReadsAt l off v) : (m.withBank base l).byte (base + off) = v := by
  have hnone : mergeEntry (m.withBank base l).merge (wordOf (base + off)) = none :=
    (m.mergeEntry_withBank ..).trans (if_pos (by unfold wordOf; omega))
  refine (Mem.byte_of_none hnone).trans (cell_each_setCell_at h.1 _ (h.2.imp id fun hv => ?_))
  exact (m.cell_blank (fun a => 0xA00000 ≤ a) _).trans ((if_pos (decide_eq_true (by omega))).trans hv.symm)

/-- A byte of the banks that no listed byte stands at reads 0. -/
theorem Mem.byte_withBank_other (m : Mem) {base x : Nat} {l : List Host.Cell} (hx : 0xA00000 ≤ x)
    (h : ∀ c ∈ l, base + c.1 ≠ x) : (m.withBank base l).byte x = 0 := by
  have hnone : mergeEntry (m.withBank base l).merge (wordOf x) = none :=
    (m.mergeEntry_withBank ..).trans (if_pos (by unfold wordOf; omega))
  refine (Mem.byte_of_none hnone).trans ?_
  refine each_keeps_mem (fun y : Mem => y.cell x = 0) (fun c hc y hy => ?_) ?_
  · exact (tget_tset_other _ _ _ (h c hc).symm).trans hy
  · exact (m.cell_blank (fun a => 0xA00000 ≤ a) _).trans (if_pos (decide_eq_true hx))

/-- Below the banks nothing changes. -/
theorem Mem.withBank_below (m : Mem) {base x : Nat} (l : List Host.Cell) (hbase : 0xA00000 ≤ base) (hx : x < 0xA00000) :
    (m.withBank base l).byte x = m.byte x ∧ (m.withBank base l).poisoned x = m.poisoned x := by
  have hout : ¬ decide (0xA00000 ≤ x) = true := by simpa using hx
  constructor
  · refine Mem.byte_congr ?_ ((m.mergeEntry_withBank ..).trans (if_neg (by unfold wordOf; omega)))
    refine each_keeps (fun y : Mem => y.cell x = m.cell x) _ _ _ (fun c y hy => ?_) ?_
    · exact (tget_tset_other _ _ _ (by omega)).trans hy
    · exact (m.cell_blank (fun a => 0xA00000 ≤ a) _).trans (if_neg hout)
  · obtain ⟨c, hc⟩ := each_setCell_eq l base (m.blank (fun a => 0xA00000 ≤ a))
    have hpoisoned := m.poisoned_blank (p := fun a => 0xA00000 ≤ a) inBanks_wordOf x
    rw [if_neg hout] at hpoisoned
    rw [Mem.withBank, hc, ← hpoisoned]
    rfl

/-! ## Blocks of bytes -/

/-- Bytes given as blocks from their offsets. -/
def blockCells (l : List (Nat × List Byte)) : List Host.Cell := l.flatMap (fun p => cellsFrom p.1 p.2)

theorem getD_of_mem_cellsFrom {a : Nat} {l : List Byte} {c : Host.Cell} (h : c ∈ cellsFrom a l) : c.2 = l.getD (c.1 - a) 0 := by
  induction l generalizing a with
  | nil => cases h
  | cons b l ih =>
    rcases List.mem_cons.1 h with rfl | h
    · rw [Nat.sub_self]
      rfl
    · have := mem_cellsFrom h
      rw [ih h, show c.1 - a = c.1 - (a + 1) + 1 by omega]
      rfl

theorem exists_cellsFrom {a i : Nat} {l : List Byte} (h : i < l.length) : ∃ c ∈ cellsFrom a l, c.1 = a + i := by
  induction l generalizing a i with
  | nil => cases h
  | cons b l ih =>
    cases i with
    | zero => exact ⟨(a, b), List.mem_cons_self .., rfl⟩
    | succ i =>
      obtain ⟨c, hc, hci⟩ := ih (a := a + 1) (Nat.lt_of_succ_lt_succ h)
      exact ⟨c, List.mem_cons_of_mem _ hc, by omega⟩

/-- Where every block that meets some bytes is those bytes, they are read; and zeros are, where none meets them. -/
theorem readsAt_blockCells {l : List (Nat × List Byte)} {off : Nat} {v : List Byte}
    (hl : ∀ p ∈ l, p = (off, v) ∨ p.1 + p.2.length ≤ off ∨ off + v.length ≤ p.1)
    (h : (off, v) ∈ l ∨ v = List.replicate v.length 0) {i : Nat} (hi : i < v.length) :
    ReadsAt (blockCells l) (off + i) (v.getD i 0) := by
  refine ⟨fun c hc hoff => ?_, h.imp (fun hv => ?_) fun hv => ?_⟩
  · obtain ⟨p, hp, hcp⟩ := List.mem_flatMap.1 hc
    have hrange := mem_cellsFrom hcp
    rcases hl p hp with rfl | hbefore | hafter
    · rw [getD_of_mem_cellsFrom hcp, hoff, Nat.add_sub_cancel_left]
    · omega
    · omega
  · obtain ⟨c, hc, hci⟩ := exists_cellsFrom (a := off) hi
    exact ⟨c, List.mem_flatMap.2 ⟨_, hv, hc⟩, hci⟩
  · rw [hv]
    simp

theorem Mem.bytes_withBank (m : Mem) {base off : Nat} {l : List (Nat × List Byte)} {v : List Byte} (hbase : 0xA00000 ≤ base)
    (hl : ∀ p ∈ l, p = (off, v) ∨ p.1 + p.2.length ≤ off ∨ off + v.length ≤ p.1)
    (h : (off, v) ∈ l ∨ v = List.replicate v.length 0) : (m.withBank base (blockCells l)).bytes (base + off) v.length = v := by
  rw [Mem.bytes_eq_map]
  refine List.ext_getElem (by simp) fun i hi hv => ?_
  rw [List.getElem_map, List.getElem_range, Nat.add_assoc, m.byte_withBank hbase (readsAt_blockCells hl h hv)]
  simp [hv]

/-! ## Bits of a word of cell states -/

theorem add_pow_eq_putBits {w i : Nat} (h : bit w i = false) : w + 2 ^ i = putBits w i 1 (ofBool true) := by
  have hzero : w / 2 ^ i % 2 = 0 := by
    have := of_decide_eq_false h
    omega
  have hmod := Nat.mod_pow_succ (x := w) (b := 2) (k := i)
  have hdiv := Nat.div_add_mod' w (2 ^ (i + 1))
  rw [hzero] at hmod
  simp only [putBits, ofBool, if_true, pow_one, Nat.mod_eq_of_lt (show 1 < 2 by decide), one_mul] at hmod ⊢
  omega

/-- The word with the bits of some cells set. -/
def cellWord (l : List Nat) : Nat := each l (fun c n => n + 2 ^ (c % 64)) 0

theorem bit_each_pow {l : List Nat} (hl : (l.map (fun c => c % 64)).Nodup) (acc n : Nat) (h : ∀ c ∈ l, bit acc (c % 64) = false) :
    bit (each l (fun c n => n + 2 ^ (c % 64)) acc) n = (bit acc n || l.any (fun c => c % 64 = n)) := by
  induction l generalizing acc with
  | nil => simp [each]
  | cons c l ih =>
    obtain ⟨hnew, hrest⟩ := List.nodup_cons.1 hl
    rw [each_cons, add_pow_eq_putBits (h c (List.mem_cons_self ..)), ih hrest, bit_putBits_one, List.any_cons]
    · by_cases hn : n = c % 64
      · simp [hn]
      · simp [hn, Ne.symm hn]
    · intro x hx
      rw [bit_putBits_one, if_neg fun hxc => hnew (List.mem_map.2 ⟨x, hx, hxc⟩)]
      exact h x (List.mem_cons_of_mem _ hx)

theorem bit_cellWord {l : List Nat} (hl : (l.map (fun c => c % 64)).Nodup) (n : Nat) :
    bit (cellWord l) n = l.any (fun c => c % 64 = n) := by
  rw [cellWord, bit_each_pow hl 0 n fun c _ => by simp [bit], show bit 0 n = false by simp [bit], Bool.false_or]

theorem cellWord_lt {l : List Nat} (hl : (l.map (fun c => c % 64)).Nodup) : cellWord l < 2 ^ 64 := by
  refine lt_of_bit_eq_false fun i hi => ?_
  rw [bit_cellWord hl]
  exact List.any_eq_false.2 fun c _ h => absurd (of_decide_eq_true h) (by omega)

/-- The cells of one word, of which each is listed once. -/
theorem nodup_wordCells {l : List Nat} (hl : l.Nodup) (w : Nat) :
    ((l.filter (fun c => c / 64 = w)).map (fun c => c % 64)).Nodup := by
  refine List.Nodup.map_on (fun x hx y hy hxy => ?_) (hl.filter _)
  have hx' := of_decide_eq_true (List.mem_filter.1 hx).2
  have hy' := of_decide_eq_true (List.mem_filter.1 hy).2
  omega

/-! ## Cell states from the targets read (R435) -/

/-- A cell's state is taken where its element has a target. -/
def cellStep (ts : List (Nat × BitVec 64)) (c : Nat) (r : List Nat × Dev) : List Nat × Dev :=
  match tfind ts c with
  | some w => (if (r.2.cellFrom c (targetPhi w.toNat)).1 then c :: r.1 else r.1, (r.2.cellFrom c (targetPhi w.toNat)).2)
  | none => r

theorem Dev.cellStates_eq (d : Dev) (ts : List (Nat × BitVec 64)) :
    d.cellStates ts = iter (cellStep ts) d.mapCells 0 ([], d) := rfl

/-- A property of an index that every step takes to the next holds at the end. -/
theorem iter_to {α : Type} {P : Nat → α → Prop} {f : Nat → α → α} (hf : ∀ i x, P i x → P (i + 1) (f i x)) (n i : Nat) (x : α)
    (h : P i x) : P (i + n) (iter f n i x) := by
  induction n generalizing i x with
  | zero => exact h
  | succ n ih =>
    rw [show i + (n + 1) = i + 1 + n by omega]
    exact ih (i + 1) _ (hf i x h)

section
variable {d : Dev} {ts : List (Nat × BitVec 64)}

theorem Dev.cellFrom_eq (d : Dev) (c : Nat) (phi : Int) : ∃ f, (d.cellFrom c phi).2 = { d with free := f } := by
  unfold Dev.cellFrom
  split
  · exact ⟨_, rfl⟩
  · split
    · exact ⟨_, rfl⟩
    · exact ⟨_, rfl⟩

theorem Dev.cellFrom_cross {c : Nat} (h : d.phiCross c ≠ d.phiBar c) : (d.cellFrom c (d.phiCross c)).1 = true := by
  rw [Dev.cellFrom, if_pos ⟨h.symm, rfl⟩]

theorem Dev.cellFrom_bar {c : Nat} (h : d.phiCross c ≠ d.phiBar c) : (d.cellFrom c (d.phiBar c)).1 = false := by
  rw [Dev.cellFrom, if_neg fun hc => h hc.2.symm, if_pos ⟨h.symm, rfl⟩]

/-- The states of the cells below i: the crossed ones have a target, and stand where their phase says so. -/
structure CellsTo (d : Dev) (ts : List (Nat × BitVec 64)) (i : Nat) (r : List Nat × Dev) : Prop where
  dev : ∃ f, r.2 = { d with free := f }
  nodup : r.1.Nodup
  below : ∀ c ∈ r.1, c < i ∧ tfind ts c ≠ none
  crossed : ∀ c < i, ∀ w, tfind ts c = some w → d.phiCross c ≠ d.phiBar c → targetPhi w.toNat = d.phiCross c → c ∈ r.1
  barred : ∀ c w, tfind ts c = some w → d.phiCross c ≠ d.phiBar c → targetPhi w.toNat = d.phiBar c → c ∉ r.1

theorem CellsTo.start (d : Dev) (ts : List (Nat × BitVec 64)) : CellsTo d ts 0 ([], d) :=
  ⟨⟨d.free, rfl⟩, .nil, fun _ h => absurd h (by simp), fun _ h => absurd h (by omega), fun _ _ _ _ _ h => absurd h (by simp)⟩

theorem CellsTo.step {i : Nat} {r : List Nat × Dev} (h : CellsTo d ts i r) : CellsTo d ts (i + 1) (cellStep ts i r) := by
  obtain ⟨l, x⟩ := r
  obtain ⟨⟨f, hx⟩, hnodup, hbelow, hcrossed, hbarred⟩ := h
  replace hx : x = { d with free := f } := hx
  have hnew : i ∉ l := fun hi => absurd (hbelow i hi).1 (by omega)
  cases ht : tfind ts i with
  | none =>
    rw [cellStep, ht]
    refine ⟨⟨f, hx⟩, hnodup, fun c hc => ⟨by have := (hbelow c hc).1; omega, (hbelow c hc).2⟩, fun c hc w hw => ?_, hbarred⟩
    by_cases hci : c = i
    · rw [hci, ht] at hw
      cases hw
    · exact hcrossed c (by omega) w hw
  | some w =>
    obtain ⟨b, y, hb⟩ : ∃ b y, x.cellFrom i (targetPhi w.toNat) = (b, y) := ⟨_, _, rfl⟩
    have hstep : cellStep ts i (l, x) = (if b then i :: l else l, y) := by
      rw [cellStep, ht]
      dsimp only
      rw [hb]
    have hcross : d.phiCross i ≠ d.phiBar i → targetPhi w.toNat = d.phiCross i → b = true := fun hne hphi => by
      have := Dev.cellFrom_cross (d := x) (c := i) (by rw [hx]; exact hne)
      rw [hphi, show d.phiCross i = x.phiCross i by rw [hx]; rfl] at hb
      exact (congrArg Prod.fst hb).symm.trans this
    have hbar : d.phiCross i ≠ d.phiBar i → targetPhi w.toNat = d.phiBar i → b = false := fun hne hphi => by
      have := Dev.cellFrom_bar (d := x) (c := i) (by rw [hx]; exact hne)
      rw [hphi, show d.phiBar i = x.phiBar i by rw [hx]; rfl] at hb
      exact (congrArg Prod.fst hb).symm.trans this
    have hmem : ∀ c, c ∈ (if b then i :: l else l) ↔ (c = i ∧ b = true) ∨ c ∈ l := fun c => by cases b <;> simp
    rw [hstep]
    refine ⟨?_, ?_, fun c hc => ?_, fun c hc v hv hne hphi => ?_, fun c v hv hne hphi hc => ?_⟩
    · obtain ⟨g, hg⟩ := x.cellFrom_eq i (targetPhi w.toNat)
      exact ⟨g, (congrArg Prod.snd hb).symm.trans (hg.trans (by rw [hx]))⟩
    · show (if b then i :: l else l).Nodup
      cases b
      · exact hnodup
      · exact List.nodup_cons.2 ⟨hnew, hnodup⟩
    · rcases (hmem c).1 hc with ⟨rfl, -⟩ | hc
      · exact ⟨by omega, by simp [ht]⟩
      · exact ⟨by have := (hbelow c hc).1; omega, (hbelow c hc).2⟩
    · refine (hmem c).2 ?_
      by_cases hci : c = i
      · subst hci
        rw [ht] at hv
        obtain rfl := Option.some.inj hv
        exact .inl ⟨rfl, hcross hne hphi⟩
      · exact .inr (hcrossed c (by omega) v hv hne hphi)
    · rcases (hmem c).1 hc with ⟨rfl, htrue⟩ | hc
      · rw [ht] at hv
        obtain rfl := Option.some.inj hv
        exact absurd (htrue.symm.trans (hbar hne hphi)) (by decide)
      · exact hbarred c v hv hne hphi hc

theorem Dev.cellsTo_cellStates (d : Dev) (ts : List (Nat × BitVec 64)) : CellsTo d ts d.mapCells (d.cellStates ts) := by
  have h := iter_to (P := CellsTo d ts) (fun _ _ => CellsTo.step) d.mapCells 0 _ (.start d ts)
  rwa [Nat.zero_add] at h

end

/-! ## A bank as blocks -/

/-- The words of a bank that hold crossed cells. -/
def crossedWords (l : List Nat) : List Nat := (l.map (fun c => c / 64)).eraseDups

/-- The blocks of a bank: its entries, its targets, its words of cell states. -/
def bankBlocks (es : List (Nat × List Byte)) (ts : List (Nat × BitVec 64)) (crossed : List Nat) : List (Nat × List Byte) :=
  es.map (fun p => (entryOff p.1, fit 16 p.2)) ++ ts.map (fun p => (targetOff p.1, be 8 p.2.toNat))
    ++ (crossedWords crossed).map (fun w => (cellOff w, be 8 (cellWord (crossed.filter (fun c => c / 64 = w)))))

theorem bankCells_eq (es : List (Nat × List Byte)) (ts : List (Nat × BitVec 64)) (crossed : List Nat) :
    bankCells es ts crossed = blockCells (bankBlocks es ts crossed) := by
  simp only [blockCells, bankBlocks, List.flatMap_append, List.flatMap_map]
  rfl

theorem mem_bankBlocks {es : List (Nat × List Byte)} {ts : List (Nat × BitVec 64)} {crossed : List Nat} {b : Nat × List Byte} :
    b ∈ bankBlocks es ts crossed ↔ (∃ p ∈ es, (entryOff p.1, fit 16 p.2) = b) ∨ (∃ p ∈ ts, (targetOff p.1, be 8 p.2.toNat) = b)
      ∨ ∃ w ∈ crossedWords crossed, (cellOff w, be 8 (cellWord (crossed.filter (fun c => c / 64 = w)))) = b := by
  simp only [bankBlocks, List.mem_append, List.mem_map, or_assoc]

section
variable {es : List (Nat × List Byte)} {ts : List (Nat × BitVec 64)} {crossed : List Nat} (m : Mem) {base : Nat}
  (hbase : 0xA00000 ≤ base) (hes : ∀ p ∈ es, p.1 < 1024) (hts : ∀ p ∈ ts, p.1 < 32768)
include hbase

/-- An entry of the bank reads the bytes listed for it, or 0. -/
theorem Mem.entry_withBank {k : Nat} (hk : k < 1024) {v : List Byte} (hv : v.length = 16) (hall : ∀ b, (k, b) ∈ es → fit 16 b = v)
    (h : (∃ b, (k, b) ∈ es) ∨ v = List.replicate 16 0) :
    (m.withBank base (bankCells es ts crossed)).bytes (base + entryOff k) 16 = v := by
  rw [bankCells_eq, ← hv]
  refine m.bytes_withBank hbase (fun b hb => ?_) (h.imp (fun ⟨b, hb⟩ => ?_) fun h => by rw [hv]; exact h)
  · rcases mem_bankBlocks.1 hb with ⟨p, hp, rfl⟩ | ⟨p, hp, rfl⟩ | ⟨w, hw, rfl⟩
    · by_cases hpk : p.1 = k
      · exact .inl (by rw [hpk, hall p.2 (hpk ▸ hp)])
      · refine .inr ?_
        dsimp only
        rw [fit_length, hv]
        unfold entryOff
        omega
    · refine .inr (.inr ?_)
      dsimp only
      rw [hv]
      unfold entryOff targetOff
      omega
    · refine .inr (.inr ?_)
      dsimp only
      rw [hv]
      unfold entryOff cellOff
      omega
  · exact mem_bankBlocks.2 (.inl ⟨_, hb, by rw [hall b hb]⟩)

include hes

/-- A target of the bank reads the word listed for it, or 0. -/
theorem Mem.target_withBank {e : Nat} (he : e < 32768) {v : BitVec 64} (hall : ∀ w, (e, w) ∈ ts → w = v)
    (h : (∃ w, (e, w) ∈ ts) ∨ v = 0) : (m.withBank base (bankCells es ts crossed)).word (base + targetOff e) = v.toNat := by
  have hlen : (be 8 v.toNat).length = 8 := be_length ..
  have hbytes : (m.withBank base (bankCells es ts crossed)).bytes (base + targetOff e) (be 8 v.toNat).length = be 8 v.toNat := by
    rw [bankCells_eq]
    refine m.bytes_withBank hbase (fun b hb => ?_) (h.imp (fun ⟨w, hw⟩ => ?_) fun h => by rw [hlen, h]; rfl)
    · rcases mem_bankBlocks.1 hb with ⟨p, hp, rfl⟩ | ⟨p, hp, rfl⟩ | ⟨w, hw, rfl⟩
      · have := hes p hp
        refine .inr (.inl ?_)
        dsimp only
        rw [fit_length]
        unfold entryOff targetOff
        omega
      · by_cases hpe : p.1 = e
        · exact .inl (by rw [hpe, hall p.2 (hpe ▸ hp)])
        · refine .inr ?_
          dsimp only
          rw [be_length, hlen]
          unfold targetOff
          omega
      · refine .inr (.inr ?_)
        dsimp only
        rw [hlen]
        unfold targetOff cellOff
        omega
    · exact mem_bankBlocks.2 (.inr (.inl ⟨_, hw, by rw [hall w hw]⟩))
  rw [hlen] at hbytes
  rw [Mem.word, hbytes, ofBe_be]
  exact Nat.mod_eq_of_lt v.isLt

include hts

/-- A word of cell states of the bank has the bits of the crossed cells. -/
theorem Mem.cells_withBank (hcrossed : crossed.Nodup) (w : Nat) : (m.withBank base (bankCells es ts crossed)).word (base + cellOff w)
    = cellWord (crossed.filter (fun c => c / 64 = w)) := by
  obtain ⟨v, hv⟩ : ∃ v, v = be 8 (cellWord (crossed.filter (fun c => c / 64 = w))) := ⟨_, rfl⟩
  have hlen : v.length = 8 := hv ▸ be_length ..
  have hbytes : (m.withBank base (bankCells es ts crossed)).bytes (base + cellOff w) v.length = v := by
    rw [bankCells_eq]
    refine m.bytes_withBank hbase (fun b hb => ?_) ?_
    · rcases mem_bankBlocks.1 hb with ⟨p, hp, rfl⟩ | ⟨p, hp, rfl⟩ | ⟨x, hx, rfl⟩
      · have := hes p hp
        refine .inr (.inl ?_)
        dsimp only
        rw [fit_length]
        unfold entryOff cellOff
        omega
      · have := hts p hp
        refine .inr (.inl ?_)
        dsimp only
        rw [be_length]
        unfold targetOff cellOff
        omega
      · by_cases hxw : x = w
        · exact .inl (by rw [hxw, hv])
        · refine .inr ?_
          dsimp only
          rw [be_length, hlen]
          unfold cellOff
          omega
    · by_cases hw : w ∈ crossedWords crossed
      · exact .inl (mem_bankBlocks.2 (.inr (.inr ⟨w, hw, by rw [hv]⟩)))
      · refine .inr ?_
        have hnone : crossed.filter (fun c => c / 64 = w) = [] := List.filter_eq_nil_iff.2 fun c hc h =>
          hw (List.mem_eraseDups.2 (List.mem_map.2 ⟨c, hc, of_decide_eq_true h⟩))
        rw [hv, hnone]
        rfl
  rw [hlen, hv] at hbytes
  rw [Mem.word, hbytes, ofBe_be]
  exact Nat.mod_eq_of_lt (cellWord_lt (nodup_wordCells hcrossed w))

end

/-! ## What was read is taken (R435) -/

theorem tfind_of_mem {α : Type} {t : List (Nat × α)} {k : Nat} {v : α} (h : (k, v) ∈ t) (honly : ∀ w, (k, w) ∈ t → w = v) :
    tfind t k = some v := by
  cases hf : tfind t k with
  | some w => rw [honly w (tfind_mem hf)]
  | none =>
    exfalso
    induction t with
    | nil => cases h
    | cons e t ih =>
      obtain ⟨j, w⟩ := e
      rw [tfind] at hf
      split at hf
      · cases hf
      · rename_i hj
        refine ih ((List.mem_cons.1 h).resolve_left fun he => hj (congrArg Prod.fst he).symm) (fun w hw => honly w (List.mem_cons_of_mem _ hw)) hf

/-- The entries and targets of a reading that a bank has places for. -/
def readEntries (x : RejoinData) : List (Nat × List Byte) := x.entries.filter (fun p => p.1 < 1024)
def readTargets (x : RejoinData) : List (Nat × BitVec 64) := x.targets.filter (fun p => p.1 < 32768)

theorem mem_readEntries {x : RejoinData} {p : Nat × List Byte} :
    p ∈ (readEntries x) ↔ p ∈ x.entries ∧ p.1 < 1024 := by simp [readEntries]

theorem mem_readTargets {x : RejoinData} {p : Nat × BitVec 64} :
    p ∈ (readTargets x) ↔ p ∈ x.targets ∧ p.1 < 32768 := by simp [readTargets]

/-- The device with the reading in both banks and their digest formed. -/
def Dev.rejoined (d : Dev) (x : RejoinData) : Dev :=
  (((d.cellStates (readTargets x)).2.putBank (bankCells (readEntries x) (readTargets x) (d.cellStates (readTargets x)).1) x.genAfter).setCirc
    (fun c => { c with digestDue := true })).digestTick

section
variable {d : Dev} {x : RejoinData}

theorem Dev.takeBank_eq : d.takeBank x = if (d.rejoined x).circ.bankDigest = x.bankDigest then (d.rejoined x).setRejoin 2 0
    else ((d.rejoined x).draw.2.setRejoin 3 ((d.rejoined x).draw.1 % 10)).raise .bankMismatch := rfl

theorem Dev.bankWord_congr {y : Dev} (hs : y.sram = d.sram) (hc : y.circ = d.circ) (next : Bool) (off : Nat) :
    y.bankWord next off = d.bankWord next off := by
  have hread : y.bankRead next off = d.bankRead next off := by
    unfold Dev.bankRead Dev.bankFor Dev.curBank Dev.nextBank
    rw [hc]
  rw [Dev.bankWord, Dev.bankWord, hread, hs]

theorem Dev.entryBytes_congr {y : Dev} (hs : y.sram = d.sram) (hc : y.circ = d.circ) (next : Bool) (k : Nat) :
    y.entryBytes next k = d.entryBytes next k := by
  rw [Dev.entryBytes, Dev.bankWord_congr hs hc, Dev.bankWord_congr hs hc, Dev.entryBytes]

theorem Dev.rejoined_eq : ∃ f l, d.rejoined x = { d with
    sram := { d.sram.withBank (bankAddr d.curBank) (bankCells (readEntries x) (readTargets x) (d.cellStates (readTargets x)).1) with
      cleared := [] }
    free := f, memory := { d.memory with cleared := l }
    circ := { d.circ with
      written := some [], gen := x.genAfter, committedGen := x.genAfter, digestDue := false
      bankDigest := (d.rejoined x).circ.bankDigest } } := by
  obtain ⟨f, hf⟩ := (d.cellsTo_cellStates (readTargets x)).dev
  obtain ⟨l, hl⟩ : ∃ l, ((d.cellStates (readTargets x)).2.putBank
      (bankCells (readEntries x) (readTargets x) (d.cellStates (readTargets x)).1) x.genAfter) = { d with
        sram := { d.sram.withBank (bankAddr d.curBank) (bankCells (readEntries x) (readTargets x) (d.cellStates (readTargets x)).1) with
          cleared := [] }
        free := f, memory := { d.memory with cleared := l }
        circ := { d.circ with written := some [], gen := x.genAfter, committedGen := x.genAfter } } := by
    rw [hf]
    exact ⟨_, rfl⟩
  refine ⟨f, l, ?_⟩
  rw [Dev.rejoined, hl]
  rfl

theorem Dev.rejoined_digest :
    (d.rejoined x).circ.bankDigest = sha384 ((List.range 1024).flatMap (fun k => (d.rejoined x).entryBytes false k)) := by
  obtain ⟨y, hy⟩ : ∃ y, y = ((d.cellStates (readTargets x)).2.putBank
    (bankCells (readEntries x) (readTargets x) (d.cellStates (readTargets x)).1) x.genAfter).setCirc
      (fun c => { c with digestDue := true }) := ⟨_, rfl⟩
  have hdue : d.rejoined x = y.setCirc (fun c => { c with
      digestDue := false, bankDigest := sha384 ((List.range 1024).flatMap (fun k => y.entryBytes false k)) }) := by
    rw [Dev.rejoined, ← hy, Dev.digestTick, if_pos (by rw [hy]; rfl)]
  rw [hdue]
  rfl

/-- Both banks of the device read the bank that was stored. -/
theorem Dev.bankWord_rejoined (next : Bool) (off : Nat) : (d.rejoined x).bankWord next off
    = (d.sram.withBank (bankAddr d.curBank) (bankCells (readEntries x) (readTargets x) (d.cellStates (readTargets x)).1)).word
      (bankAddr d.curBank + off) := by
  obtain ⟨f, l, h⟩ := d.rejoined_eq (x := x)
  rw [h]
  cases next <;> exact Mem.word_congr fun _ _ => rfl

theorem bankAddr_base (b : Nat) : 0xA00000 ≤ bankAddr b := Nat.le_add_right ..

theorem readEntries_lt : ∀ p ∈ (readEntries x), p.1 < 1024 := fun _ hp => (mem_readEntries.1 hp).2
theorem readTargets_lt : ∀ p ∈ (readTargets x), p.1 < 32768 := fun _ hp => (mem_readTargets.1 hp).2

theorem Mem.bytes_add (m : Mem) (a n k : Nat) : m.bytes a (n + k) = m.bytes a n ++ m.bytes (a + n) k := by
  simp only [Mem.bytes_eq_map, List.range_add, List.map_append, List.map_map, Function.comp_def, Nat.add_assoc]

theorem be_word (m : Mem) (a : Nat) : be 8 (m.word a) = m.bytes a 8 := be_ofBe (m.bytes a 8)

theorem Dev.entryBytes_rejoined (next : Bool) (k : Nat) : (d.rejoined x).entryBytes next k
    = (d.sram.withBank (bankAddr d.curBank) (bankCells (readEntries x) (readTargets x) (d.cellStates (readTargets x)).1)).bytes
      (bankAddr d.curBank + entryOff k) 16 := by
  rw [Dev.entryBytes, Dev.bankWord_rejoined, Dev.bankWord_rejoined, be_word, be_word, ← Nat.add_assoc]
  exact (Mem.bytes_add _ _ 8 8).symm

/-! ### Entries, targets and cells -/

theorem rejoined_entry (next : Bool) {k : Nat} (hk : k < 1024) :
    (∀ b, (k, b) ∈ x.entries → (∀ b', (k, b') ∈ x.entries → b' = b) → (d.rejoined x).entryBytes next k = fit 16 b)
      ∧ ((∀ b, (k, b) ∉ x.entries) → (d.rejoined x).entryBytes next k = List.replicate 16 0) := by
  have hmem : ∀ b, (k, b) ∈ (readEntries x) ↔ (k, b) ∈ x.entries := fun b => mem_readEntries.trans (and_iff_left hk)
  refine ⟨fun b hb honly => ?_, fun hnone => ?_⟩
  · rw [Dev.entryBytes_rejoined]
    exact d.sram.entry_withBank (bankAddr_base _) hk (fit_length ..)
      (fun b' hb' => by rw [honly b' ((hmem b').1 hb')]) (.inl ⟨b, (hmem b).2 hb⟩)
  · rw [Dev.entryBytes_rejoined]
    exact d.sram.entry_withBank (bankAddr_base _) hk rfl
      (fun b hb => absurd ((hmem b).1 hb) (hnone b)) (.inr rfl)

theorem rejoined_target (next : Bool) {e : Nat} (he : e < 32768) :
    (∀ w, (e, w) ∈ x.targets → (∀ w', (e, w') ∈ x.targets → w' = w) → (d.rejoined x).bankWord next (targetOff e) = w.toNat)
      ∧ ((∀ w, (e, w) ∉ x.targets) → (d.rejoined x).bankWord next (targetOff e) = 0) := by
  have hmem : ∀ w, (e, w) ∈ (readTargets x) ↔ (e, w) ∈ x.targets := fun w => mem_readTargets.trans (and_iff_left he)
  refine ⟨fun w hw honly => ?_, fun hnone => ?_⟩
  · rw [Dev.bankWord_rejoined]
    exact d.sram.target_withBank (bankAddr_base _) readEntries_lt he
      (fun w' hw' => honly w' ((hmem w').1 hw')) (.inl ⟨w, (hmem w).2 hw⟩)
  · rw [Dev.bankWord_rejoined]
    exact d.sram.target_withBank (bankAddr_base _) readEntries_lt he
      (fun w hw => absurd ((hmem w).1 hw) (hnone w)) (.inr rfl)

theorem rejoined_cell (next : Bool) (c : Nat) :
    (d.rejoined x).cell next c = decide (c ∈ (d.cellStates (readTargets x)).1) := by
  have hcells := d.cellsTo_cellStates (readTargets x)
  rw [Dev.cell, Dev.bankWord_rejoined, d.sram.cells_withBank (bankAddr_base _) readEntries_lt
    readTargets_lt hcells.nodup, bit_cellWord (nodup_wordCells hcells.nodup _), Bool.eq_iff_iff, List.any_eq_true,
    decide_eq_true_iff]
  constructor
  · rintro ⟨c', hc', hmod⟩
    obtain ⟨hin, hdiv⟩ := List.mem_filter.1 hc'
    have hdiv := of_decide_eq_true hdiv
    have hmod := of_decide_eq_true hmod
    rwa [show c = c' by omega]
  · exact fun hc => ⟨c, List.mem_filter.2 ⟨hc, decide_eq_true rfl⟩, decide_eq_true rfl⟩

theorem rejoined_cell_mapped (next : Bool) {c : Nat} (hc : c < d.mapCells) (hsmall : c < 32768) :
    (∀ w, (c, w) ∈ x.targets → (∀ w', (c, w') ∈ x.targets → w' = w) → d.phiCross c ≠ d.phiBar c →
      (targetPhi w.toNat = d.phiCross c → (d.rejoined x).cell next c = true)
      ∧ (targetPhi w.toNat = d.phiBar c → (d.rejoined x).cell next c = false))
    ∧ ((∀ w, (c, w) ∉ x.targets) → (d.rejoined x).cell next c = false) := by
  have hcells := d.cellsTo_cellStates (readTargets x)
  rw [rejoined_cell]
  refine ⟨fun w hw honly hne => ?_, fun hnone => decide_eq_false fun hc => ?_⟩
  · have hfind : tfind (readTargets x) c = some w := tfind_of_mem (mem_readTargets.2 ⟨hw, hsmall⟩)
      fun w' hw' => honly w' (mem_readTargets.1 hw').1
    exact ⟨fun hphi => decide_eq_true (hcells.crossed c hc w hfind hne hphi),
      fun hphi => decide_eq_false (hcells.barred c w hfind hne hphi)⟩
  · obtain ⟨w, hw⟩ := Option.ne_none_iff_exists'.1 (hcells.below c hc).2
    exact hnone w (mem_readTargets.1 (tfind_mem hw)).1

theorem rejoined_cell_unmapped (next : Bool) {c : Nat} (hc : d.mapCells ≤ c) : (d.rejoined x).cell next c = false := by
  rw [rejoined_cell]
  exact decide_eq_false fun h => absurd ((d.cellsTo_cellStates (readTargets x)).below c h).1 (by omega)

theorem rejoined_below {a : Nat} (ha : a < 0xA00000) :
    (d.rejoined x).sram.byte a = d.sram.byte a ∧ (d.rejoined x).sram.poisoned a = d.sram.poisoned a := by
  obtain ⟨f, l, h⟩ := d.rejoined_eq (x := x)
  obtain ⟨hbyte, hpoisoned⟩ := d.sram.withBank_below (bankCells (readEntries x) (readTargets x) (d.cellStates (readTargets x)).1)
    (bankAddr_base d.curBank) ha
  rw [h]
  exact ⟨hbyte, hpoisoned⟩

end

/-! ## REJOIN and REJOIN_COMPLETE -/

section
variable {d : Dev}

theorem Dev.fabricDiffers_iff : d.fabricDiffers = true ↔ ∃ f, d.tow.mateFabric = some f ∧ f ≠ d.fabricDigest := by
  unfold Dev.fabricDiffers
  cases d.tow.mateFabric with
  | none => simp
  | some f => simp

theorem rejoin_invalid {v : Nat} (h : v ≠ 1) : rejoin v d = (.invalid, d) := if_pos h

theorem rejoin_conflict (h : d.tow.role = 0 ∨ d.net.mateAddress = 0 ∨ ∃ f, d.tow.mateFabric = some f ∧ f ≠ d.fabricDigest) :
    rejoin 1 d = (.conflict, d) := by
  rw [rejoin, if_neg (by decide), if_pos (h.imp_right (.imp_right Dev.fabricDiffers_iff.2))]

theorem rejoin_ok (hrole : d.tow.role ≠ 0) (hmate : d.net.mateAddress ≠ 0) (hfabric : ∀ f, d.tow.mateFabric = some f → f = d.fabricDigest) :
    rejoin 1 d = (.ok, { d with boot := { d.boot with rejoinState := 1, rejoinCode := 0, rejoinTries := 0, rejoinSent := 0 } }) := by
  rw [rejoin, if_neg (by decide), if_neg]
  · rfl
  · rintro (h | h | h)
    · exact hrole h
    · exact hmate h
    · obtain ⟨f, hf, hne⟩ := Dev.fabricDiffers_iff.1 h
      exact hne (hfabric f hf)

section
variable {x : RejoinData} (hrun : d.boot.rejoinState = 1)
include hrun

theorem rejoinComplete_refused (h : x.status ≠ .ok) : rejoinComplete x d = d.setRejoin 3 (respCode x.status) := by
  rw [rejoinComplete, if_neg (not_not.2 hrun), if_pos h]

theorem rejoinComplete_again (h : x.status = .ok) (hgen : x.genBefore ≠ x.genAfter) (ht : d.boot.rejoinTries < 3) :
    rejoinComplete x d = d.setBoot (fun b => { b with rejoinTries := b.rejoinTries + 1, rejoinSent := 0 }) := by
  rw [rejoinComplete, if_neg (not_not.2 hrun), if_neg (not_not.2 h), if_pos hgen, if_pos ht]

theorem rejoinComplete_spent (h : x.status = .ok) (hgen : x.genBefore ≠ x.genAfter) (ht : 3 ≤ d.boot.rejoinTries) :
    rejoinComplete x d = d.draw.2.setRejoin 3 (d.draw.1 % 10) := by
  rw [rejoinComplete, if_neg (not_not.2 hrun), if_neg (not_not.2 h), if_pos hgen, if_neg (not_lt.2 ht)]

theorem rejoinComplete_takes (h : x.status = .ok) (hgen : x.genBefore = x.genAfter) : rejoinComplete x d = d.takeBank x := by
  rw [rejoinComplete, if_neg (not_not.2 hrun), if_neg (not_not.2 h), if_neg (not_not.2 hgen)]

end

/-- How a rejoin that wrote the banks ends. -/
theorem Dev.takeBank_ends (d : Dev) (x : RejoinData) : (d.takeBank x).sram = (d.rejoined x).sram
    ∧ (d.takeBank x).circ = (d.rejoined x).circ
    ∧ ∀ y, y = { d with
        sram := (d.takeBank x).sram, free := (d.takeBank x).free
        memory := { d.memory with cleared := (d.takeBank x).memory.cleared }
        circ := { d.circ with
          written := some [], gen := x.genAfter, committedGen := x.genAfter, digestDue := false
          bankDigest := (d.takeBank x).circ.bankDigest } } →
      ((d.takeBank x).circ.bankDigest = x.bankDigest → d.takeBank x = { y with boot := { y.boot with rejoinState := 2, rejoinCode := 0 } })
      ∧ ((d.takeBank x).circ.bankDigest ≠ x.bankDigest → d.takeBank x = Dev.raise { y with boot := { y.boot with
          rejoinState := 3, rejoinCode := (d.takeBank x).boot.rejoinCode } } .bankMismatch) := by
  obtain ⟨f, l, hz⟩ := d.rejoined_eq (x := x)
  by_cases hdigest : (d.rejoined x).circ.bankDigest = x.bankDigest
  · have htake : d.takeBank x = (d.rejoined x).setRejoin 2 0 := Dev.takeBank_eq.trans (if_pos hdigest)
    rw [htake]
    refine ⟨rfl, rfl, ?_⟩
    rintro y rfl
    refine ⟨fun _ => ?_, fun hne => absurd hdigest hne⟩
    rw [hz]
    rfl
  · obtain ⟨w, hw⟩ : ∃ w, w = (d.rejoined x).draw.2.setRejoin 3 ((d.rejoined x).draw.1 % 10) := ⟨_, rfl⟩
    have htake : d.takeBank x = w.raise .bankMismatch := Dev.takeBank_eq.trans ((if_neg hdigest).trans (by rw [hw]))
    obtain ⟨v, hv⟩ := w.raise_ev .bankMismatch []
    have hends : ∀ z : Dev, z = { w with ev := v } → z.sram = (d.rejoined x).sram ∧ z.circ = (d.rejoined x).circ := by
      rintro z rfl
      rw [hw]
      exact ⟨rfl, rfl⟩
    obtain ⟨hsram, hcirc⟩ := hends _ (htake.trans hv)
    refine ⟨hsram, hcirc, ?_⟩
    rintro y rfl
    refine ⟨fun h => absurd (hcirc ▸ h) hdigest, fun _ => htake.trans (congrArg (Dev.raise · .bankMismatch) ?_)⟩
    rw [htake, hv, hw, hz]
    rfl

end

/-- Settles O60: the rejoin's commands by their conditions, and what a reading taken leaves of the banks. -/
theorem rejoining : Obligations.Rejoining := by
  unfold Obligations.Rejoining
  intro v x s
  refine ⟨fun h => answers_of_ask (rejoin _) rfl (rejoin_invalid fun hv => h (BitVec.eq_of_toNat_eq hv)),
    fun h => answers_of_ask (rejoin _) rfl (rejoin_conflict h),
    fun hrole hmate hfabric => answers_of_ask (rejoin _) rfl (rejoin_ok hrole hmate hfabric),
    fun h => gives_of_upd (rejoinComplete x) rfl (if_pos h),
    fun hrun => ⟨fun h => gives_of_upd (rejoinComplete x) rfl (rejoinComplete_refused hrun h),
      fun h hgen => ⟨fun ht => gives_of_upd (rejoinComplete x) rfl (rejoinComplete_again hrun h hgen ht),
        fun ht => ⟨_, gives_of_upd (rejoinComplete x) rfl (rejoinComplete_spent hrun h hgen ht), rfl⟩⟩,
      fun h hgen => ?_⟩⟩
  obtain ⟨hsram, hcirc, hends⟩ := s.dev.takeBank_ends x
  have hentry := Dev.entryBytes_congr hsram hcirc
  have hword := Dev.bankWord_congr hsram hcirc
  have hcell : ∀ next c, (s.dev.takeBank x).cell next c = (s.dev.rejoined x).cell next c := fun next c => by
    rw [Dev.cell, hword, Dev.cell]
  refine ⟨_, gives_of_upd (rejoinComplete x) rfl (rejoinComplete_takes hrun h hgen), fun next k hk => ?_, fun next e he => ?_,
    fun next c hc hsmall => ?_, fun next c hc _ => ?_, fun a ha => ?_, ?_, hends⟩
  · rw [hentry]
    exact rejoined_entry next hk
  · rw [hword]
    exact rejoined_target next he
  · rw [hcell]
    exact rejoined_cell_mapped next hc hsmall
  · rw [hcell]
    exact rejoined_cell_unmapped next hc
  · rw [hsram]
    exact rejoined_below ha
  · rw [hcirc, Dev.rejoined_digest]
    simp only [hentry]

end Sys2Proof.Machine
end

section
/-! Firmware update, the security version, the owner key, attestation and the saved copies erased (R430, R432, R436, R439, R441). -/

namespace Sys2Proof.Machine

variable {d : Dev}

/-! ## A restart (R423, R431) -/

/-- A restart keeps the flash, its count of boots one higher, and the fuses; the rest is as after a reset. -/
theorem Dev.restart_eq (d : Dev) : d.restart = { d.afterReset with
    boot := { d.afterReset.boot with
      phase := .rom, straps := d.boot.straps &&& 0x07FF, flash := { d.boot.flash with bootCount := d.boot.flash.bootCount + 1 } }
    ev := { d.afterReset.ev with bootCount := d.boot.flash.bootCount + 1 }
    sram := {}, therm := { d.afterReset.therm with pumpH := 1, pumpL := 1 } } :=
  resetRelease_released rfl (d.afterReset.railOrder_iff.2 fun _ _ _ _ _ => rfl)

/-! ## Firmware update (R430) -/

theorem Flash.slot_setSlot_same (f : Flash) (k : Nat) (t : Tab (List Byte)) : (f.setSlot k t).slot k = t := by
  unfold Flash.slot Flash.setSlot
  split <;> rfl

theorem Flash.slot_setSlot_other (f : Flash) {k j : Nat} (h : j = 0 ↔ k ≠ 0) (t : Tab (List Byte)) :
    (f.setSlot k t).slot j = f.slot j := by
  unfold Flash.slot Flash.setSlot
  by_cases hk : k = 0
  · rw [if_pos hk, if_neg fun hj => h.1 hj hk, if_neg fun hj => h.1 hj hk]
  · rw [if_neg hk, if_pos (h.2 hk), if_pos (h.2 hk)]

theorem Flash.setSlot_eq (f : Flash) (k : Nat) (t : Tab (List Byte)) :
    f.setSlot k t = { f with slot0 := (f.setSlot k t).slot0, slot1 := (f.setSlot k t).slot1 } := by
  unfold Flash.setSlot
  split <;> rfl

section
variable {j : Nat} {b : List Byte}

theorem firmwareBlock_noent (h : 1024 < j) : firmwareBlock j b d = (.noent, d) := if_pos h

theorem firmwareBlock_invalid (hj : j ≤ 1024) (h : b.length ≠ 1024) : firmwareBlock j b d = (.invalid, d) := by
  rw [firmwareBlock, if_neg (not_lt.2 hj), if_pos h]

theorem firmwareBlock_written (hj : j ≤ 1024) (h : b.length = 1024) : firmwareBlock j b d = (.ok, { d with boot := { d.boot with
    flash := d.boot.flash.setSlot d.boot.target (tset erased (d.boot.flash.slot d.boot.target) j b) } }) := by
  rw [firmwareBlock, if_neg (not_lt.2 hj), if_neg (not_not.2 h)]
  rfl

end

theorem firmwareApply_value {v : Nat} (h : v ≠ 1) : firmwareApply v d = (.invalid, d) := if_pos h

theorem firmwareApply_unchecked (h : d.slotCheck d.boot.target ≠ 1) : firmwareApply 1 d = (.invalid, d) := by
  rw [firmwareApply, if_neg (by decide), if_pos h]

/-- The device whose boot record prefers the target slot. -/
def Dev.preferTarget (d : Dev) : Dev :=
  { d with boot := { d.boot with flash := { d.boot.flash with bootRecord := BitVec.ofNat 8 d.boot.target } } }

section
variable (h : d.slotCheck d.boot.target = 1)
include h

theorem firmwareApply_running (hp : d.boot.phase ≠ .recovery) : firmwareApply 1 d = (.ok, d.preferTarget) := by
  rw [firmwareApply, if_neg (by decide), if_neg (not_not.2 h)]
  exact congrArg (Prod.mk Resp.ok) (if_neg hp)

theorem firmwareApply_recovery (hp : d.boot.phase = .recovery) : firmwareApply 1 d = (.ok, d.preferTarget.restart) := by
  rw [firmwareApply, if_neg (by decide), if_neg (not_not.2 h)]
  exact congrArg (Prod.mk Resp.ok) (if_pos hp)

end

theorem securityVersionCommit_value {v : Nat} (h : v ≠ 1) : securityVersionCommit v d = (.invalid, d) := if_pos h

theorem securityVersionCommit_barred (h : d.ev.guarantee ≠ 0) : securityVersionCommit 1 d = (.conflict, d) := by
  rw [securityVersionCommit, if_neg (by decide), if_pos h]

theorem securityVersionCommit_commits (h : d.ev.guarantee = 0) : securityVersionCommit 1 d = (.ok, { d with boot := { d.boot with
    securityVersion := max d.boot.securityVersion (min 64 d.boot.imageSecurity) } }) := by
  rw [securityVersionCommit, if_neg (by decide), if_neg (not_not.2 h)]
  rfl

theorem savedStateErase_value {v : Nat} (h : v ≠ 1) : savedStateErase v d = (.invalid, d) := if_pos h

theorem savedStateErase_erases : savedStateErase 1 d = (.ok, { d with boot := { d.boot with
    flash := { d.boot.flash with copy0 := none, copy1 := none }, saving := none } }) := rfl

/-! ## The owner key (R436) -/

theorem Dev.slotShutOut_iff (key : List Byte) (k : Nat) : d.slotShutOut key k = true ↔
    (imageOf (d.boot.flash.slot k)).format = 0x0301 ∧ field (imageOf (d.boot.flash.slot k)).header 12 4 ≤ 1048576
      ∧ ecdsaVerify key (imageOf (d.boot.flash.slot k)).digest (imageOf (d.boot.flash.slot k)).ownerSig = false := by
  simp only [Dev.slotShutOut, bodyFits, Bool.and_eq_true, decide_eq_true_eq, Bool.not_eq_true', and_assoc]

section
variable {key : List Byte}

theorem ownerKeyInstall_invalid (h : key.length ≠ 97 ∨ key.head? ≠ some 0x04) : ownerKeyInstall key d = (.invalid, d) := if_pos h

section
variable (hlen : key.length = 97) (hhead : key.head? = some 0x04)
include hlen hhead

theorem ownerKeyInstall_conflict
    (h : 4 ≤ d.boot.ownerSlots.length ∨ d.slotShutOut key 0 = true ∨ d.slotShutOut key 1 = true) :
    ownerKeyInstall key d = (.conflict, d) := by
  rw [ownerKeyInstall, if_neg (by simp [hlen, hhead]), if_pos h]

theorem ownerKeyInstall_installs (hroom : d.boot.ownerSlots.length < 4) (h0 : d.slotShutOut key 0 = false)
    (h1 : d.slotShutOut key 1 = false) : ownerKeyInstall key d = (.ok, { d with
      boot := { d.boot with
        flash := { d.boot.flash with ownerKey := key, ownerSlot := d.boot.ownerSlots.length, ownerCounters := [] }
        ownerSlots := d.boot.ownerSlots ++ [sha384 key] }
      req := { d.req with ownerCounter := 0 } }) := by
  rw [ownerKeyInstall, if_neg (by simp [hlen, hhead]), if_neg (by simp [h0, h1, hroom])]
  rfl

end

end

/-! ## Attestation (R439) -/

theorem attestNonce_invalid {nonce : List Byte} (h : nonce.length ≠ 32) : attestNonce nonce d = (.invalid, d) := if_pos h

theorem attestNonce_signs {nonce : List Byte} (h : nonce.length = 32) : ∃ n, attestNonce nonce d = (.ok, { d with
    free := d.free + 1
    boot := { d.boot with attest := d.reportBody nonce ++ ecdsaSign Config.identitySecret n (sha384 (d.reportBody nonce)) } }) := by
  rw [attestNonce, if_neg (not_not.2 h)]
  exact ⟨_, rfl⟩

/-- FIRMWARE_APPLY in recovery. -/
theorem firmwareApply_restarts {s : State} (h : s.dev.slotCheck s.dev.boot.target = 1) (hp : s.dev.boot.phase = .recovery) :
    Replies (.firmwareApply 1) s .ok (fun d =>
      d.boot.phase = .rom ∧ d.boot.straps = s.dev.boot.straps &&& 0x07FF
        ∧ d.boot.flash = { s.dev.boot.flash with
            bootRecord := BitVec.ofNat 8 s.dev.boot.target, bootCount := s.dev.boot.flash.bootCount + 1 }
        ∧ d.cfg = ({} : Dev).cfg ∧ d.cyc = ({} : Dev).cyc ∧ d.loop = ({} : Dev).loop ∧ d.sram = {}
        ∧ d.memory.fuses = s.dev.memory.fuses) := by
  refine ⟨_, answers_of_ask (firmwareApply 1) rfl (firmwareApply_recovery h hp), ?_⟩
  rw [Dev.restart_eq]
  exact ⟨rfl, rfl, rfl, rfl, rfl, rfl, rfl, rfl⟩

/-- Settles O59: firmware, keys and the report by their conditions. -/
theorem firmwareAndKeys : Obligations.FirmwareAndKeys := by
  unfold Obligations.FirmwareAndKeys
  intro j l v s
  have hv : v ≠ 1 → v.toNat ≠ 1 := fun h hv => h (BitVec.eq_of_toNat_eq hv)
  refine ⟨fun h => answers_of_ask (firmwareBlock _ l) rfl (firmwareBlock_noent h),
    fun hj h => answers_of_ask (firmwareBlock _ l) rfl (firmwareBlock_invalid hj h), fun hj h => ?_,
    fun h => ⟨answers_of_ask (firmwareApply _) rfl (firmwareApply_value (hv h)),
      answers_of_ask (securityVersionCommit _) rfl (securityVersionCommit_value (hv h)),
      answers_of_ask (savedStateErase _) rfl (savedStateErase_value (hv h))⟩,
    fun h => answers_of_ask (firmwareApply _) rfl (firmwareApply_unchecked h),
    fun h => ⟨fun hp => answers_of_ask (firmwareApply _) rfl (firmwareApply_running h hp), firmwareApply_restarts h⟩,
    fun h => answers_of_ask (securityVersionCommit _) rfl (securityVersionCommit_barred h),
    fun h => answers_of_ask (securityVersionCommit _) rfl (securityVersionCommit_commits h),
    answers_of_ask (savedStateErase _) rfl savedStateErase_erases,
    fun h => answers_of_ask (ownerKeyInstall l) rfl (ownerKeyInstall_invalid h),
    fun hlen hhead => ⟨fun h => answers_of_ask (ownerKeyInstall l) rfl (ownerKeyInstall_conflict hlen hhead h),
      fun hroom h0 h1 => answers_of_ask (ownerKeyInstall l) rfl (ownerKeyInstall_installs hlen hhead hroom h0 h1)⟩,
    fun k x hx => hx ▸ Dev.slotShutOut_iff l k, fun h => answers_of_ask (attestNonce l) rfl (attestNonce_invalid h), fun h => ?_⟩
  · refine ⟨_, answers_of_ask (firmwareBlock _ l) rfl (firmwareBlock_written hj h), Flash.slot_setSlot_same ..,
      fun k _ hk => Flash.slot_setSlot_other _ hk _, ?_⟩
    exact congrArg (fun f : Flash => ({ s.dev with boot := { s.dev.boot with flash := f } } : Dev)) (Flash.setSlot_eq ..)
  · obtain ⟨n, hn⟩ := attestNonce_signs (d := s.dev) h
    refine ⟨_, answers_of_ask (attestNonce l) rfl hn, ?_, rfl⟩
    rintro body rfl
    refine ⟨n, congrArg (fun b => b ++ ecdsaSign Config.identitySecret n (sha384 b)) ?_⟩
    simp only [Dev.reportBody, Time.bytes, List.append_assoc]
    rfl

end Sys2Proof.Machine
end

section
/-! The start's completion and what it restores of the saved copy, the copies and which is the newest, DEVICE_RESET (R431 to R433). -/

namespace Sys2Proof.Machine

/-! ## Memory restored -/

/-- The words of the saved records written, then the saved bytes of the tables. -/
def Mem.withRecords (m : Mem) (l : List (Nat × List Nat)) : Mem := each l (fun p m => m.putWords (recAddr p.1) p.2) m
def Mem.withTables (m : Mem) (l : List Host.Cell) : Mem := each l (fun c m => m.setCell c.1 c.2) m

theorem Mem.merge_putWords (m : Mem) (a : Nat) (l : List Nat) : ∀ e ∈ (m.putWords a l).merge, e ∈ m.merge := by
  induction l generalizing m a with
  | nil => exact fun e he => he
  | cons w l ih =>
    intro e he
    have hput : e ∈ (m.putWord a w).merge := ih _ _ e he
    rw [Mem.putWord, putBytes8_merge] at hput
    exact (List.mem_filter.1 hput).1

/-- Every entry of the merge buffer is of a record's word. -/
def Mem.MergesRecords (m : Mem) : Prop := ∀ e ∈ m.merge, e.word < 0x200000

theorem Mem.MergesRecords.withRecords {m : Mem} (h : m.MergesRecords) (l : List (Nat × List Nat)) :
    (m.withRecords l).MergesRecords :=
  each_keeps Mem.MergesRecords l _ m (fun p y hy e he => hy e (y.merge_putWords _ _ e he)) h

theorem Mem.merge_withTables (m : Mem) (l : List Host.Cell) : (m.withTables l).merge = m.merge :=
  each_keeps (fun y : Mem => y.merge = m.merge) l _ m (fun _ _ hy => hy) rfl

section
variable {l : List (Nat × List Nat)} (hsized : ∀ p ∈ l, p.2.length = 8)
include hsized

theorem Mem.byte_withRecords_other (m : Mem) {n : Nat} (h : ∀ p ∈ l, n < 64 * p.1 ∨ 64 * (p.1 + 1) ≤ n) :
    (m.withRecords l).byte n = m.byte n := by
  refine each_keeps_mem (fun y : Mem => y.byte n = m.byte n) (fun p hp y hy => ?_) rfl
  have := h p hp
  refine (putWords_byte_other _ _ _ (by unfold recAddr; omega) ?_).trans hy
  rw [hsized p hp]
  unfold recAddr
  omega

/-- A record's words read as they were saved. -/
theorem Mem.word_withRecords (m : Mem) (hwords : ∀ p ∈ l, ∀ w ∈ p.2, w < 2 ^ 64) (hnodup : (l.map Prod.fst).Nodup)
    {p : Nat × List Nat} (hp : p ∈ l) {k : Nat} (hk : k < 8) : (m.withRecords l).word (64 * p.1 + 8 * k) = p.2.getD k 0 := by
  refine each_reaches (fun _ : Mem => True) (fun y => y.word (64 * p.1 + 8 * k) = p.2.getD k 0) hp (fun _ _ _ _ => trivial)
    (fun q hq y _ hy => ?_) (fun y _ => ?_) trivial
  · by_cases hpq : q.1 = p.1
    · rw [List.inj_on_of_nodup_map hnodup hq hp hpq]
      exact y.word_putWords (by unfold recAddr; omega) (by rw [hsized p hp]; exact hk) (hwords p hp)
    · refine (Mem.word_congr fun i hi => putWords_byte_other _ _ _ (by unfold recAddr; omega) ?_).trans hy
      rw [hsized q hq]
      unfold recAddr
      omega
  · exact y.word_putWords (by unfold recAddr; omega) (by rw [hsized p hp]; exact hk) (hwords p hp)

end

theorem Mem.byte_withTables_other (m : Mem) {l : List Host.Cell} {n : Nat} (h : ∀ c ∈ l, c.1 ≠ n) :
    (m.withTables l).byte n = m.byte n :=
  Mem.byte_congr (cell_each_setCell h m) (by rw [m.merge_withTables])

/-- A byte of the tables reads as it was saved. -/
theorem Mem.byte_withTables {m : Mem} (hm : m.MergesRecords) {l : List Host.Cell} (hnodup : (l.map Prod.fst).Nodup)
    {c : Host.Cell} (hc : c ∈ l) (hhigh : 0x200000 ≤ c.1) : (m.withTables l).byte c.1 = c.2 := by
  have hnone : mergeEntry (m.withTables l).merge (wordOf c.1) = none := by
    rw [m.merge_withTables]
    exact mergeEntry_eq_none fun e he => by
      have := hm e he
      unfold wordOf
      omega
  have hfind : tfind l c.1 = some c.2 := tfind_of_mem hc fun w hw =>
    congrArg Prod.snd (List.inj_on_of_nodup_map hnodup hw hc rfl)
  rw [Mem.byte_of_none hnone, Mem.withTables, cell_each_setCell_nodup hnodup, hfind]
  rfl

theorem savedByte_range {n : Nat} (h : savedByte n = true) : 0x200000 ≤ n ∧ n < 0xA00000 := by
  simp only [savedByte, Bool.or_eq_true, Bool.and_eq_true, decide_eq_true_eq] at h
  omega

/-- Memory with what a saved copy holds of it. -/
def Mem.restored (m : Mem) (a : Saved) (base : Nat) : Mem := ((m.withRecords a.records).withTables a.tables).withBank base a.bank

section
variable {m : Mem} {a : Saved} {base : Nat} (hbase : 0xA00000 ≤ base)
include hbase

theorem Mem.restored_bank (hnodup : (a.bank.map Prod.fst).Nodup) {c : Host.Cell} (hc : c ∈ a.bank) :
    (m.restored a base).byte (base + c.1) = c.2 :=
  Mem.byte_withBank _ hbase ⟨fun x hx hxc => congrArg Prod.snd (List.inj_on_of_nodup_map hnodup hx hc hxc), .inl ⟨c, hc, rfl⟩⟩

theorem Mem.restored_below {n : Nat} (hn : n < 0xA00000) :
    (m.restored a base).byte n = ((m.withRecords a.records).withTables a.tables).byte n :=
  (Mem.withBank_below _ _ hbase hn).1

theorem Mem.restored_table (htables : ∀ c ∈ a.tables, savedByte c.1 = true)
    (hm : m.MergesRecords) (hnodup : (a.tables.map Prod.fst).Nodup) {c : Host.Cell} (hc : c ∈ a.tables) :
    (m.restored a base).byte c.1 = c.2 := by
  obtain ⟨hhigh, hlow⟩ := savedByte_range (htables c hc)
  rw [Mem.restored_below hbase hlow]
  exact Mem.byte_withTables (hm.withRecords _) hnodup hc hhigh

variable (hrecords : ∀ p ∈ a.records, p.1 < 32768 ∧ p.2.length = 8 ∧ ∀ w ∈ p.2, w < 2 ^ 64)
  (htables : ∀ c ∈ a.tables, savedByte c.1 = true)
include hrecords

theorem Mem.restored_other {n : Nat} (hn : n < 0xA00000) (hr : ∀ p ∈ a.records, n < 64 * p.1 ∨ 64 * (p.1 + 1) ≤ n)
    (ht : ∀ c ∈ a.tables, c.1 ≠ n) : (m.restored a base).byte n = m.byte n := by
  rw [Mem.restored_below hbase hn, Mem.byte_withTables_other _ ht, Mem.byte_withRecords_other (fun p hp => (hrecords p hp).2.1) _ hr]

include htables

theorem Mem.restored_record (hnodup : (a.records.map Prod.fst).Nodup) {p : Nat × List Nat} (hp : p ∈ a.records) {k : Nat}
    (hk : k < 8) : (m.restored a base).word (64 * p.1 + 8 * k) = p.2.getD k 0 := by
  have hsmall := (hrecords p hp).1
  refine Eq.trans (Mem.word_congr fun i hi => ?_)
    (m.word_withRecords (fun p hp => (hrecords p hp).2.1) (fun p hp => (hrecords p hp).2.2) hnodup hp hk)
  rw [Mem.restored_below hbase (by omega)]
  exact Mem.byte_withTables_other _ fun c hc hcn => by
    have := (savedByte_range (htables c hc)).1
    omega

end

/-! ## Settings that take effect as a write does -/

section
variable {d : Dev}

theorem tget_eq_tfind {α : Type} (v : α) (t : List (Nat × α)) (k : Nat) : tget v t k = (tfind t k).getD v := by
  induction t with
  | nil => rfl
  | cons e t ih =>
    obtain ⟨j, w⟩ := e
    rw [tget, tfind]
    split
    · rfl
    · exact ih

/-- The Scrubber takes its setting: its own state apart, nothing changes. -/
theorem Dev.replayScrub_eq (d : Dev) : ∃ st nx sc, (if d.cfg.mem.scrubControl = 1 then (scrubControlWrite 1 d).2 else d)
    = { d with memory := { d.memory with scrubState := st, scrubNext := nx, scrub := sc } } := by
  split
  · rename_i h
    have hsame : d.setScrubControl 1 = d := by
      rw [← h]
      rfl
    rw [scrubControlWrite, if_neg (by decide), if_pos rfl, scrubStart, hsame]
    split
    · exact ⟨_, _, _, rfl⟩
    · split
      · exact ⟨_, _, _, rfl⟩
      · exact ⟨_, _, _, rfl⟩
      · exact ⟨_, _, _, rfl⟩
      · exact ⟨_, _, _, rfl⟩
  · exact ⟨_, _, _, rfl⟩

/-- The column groups take their settings. -/
theorem Dev.each_groupWrite (l : List (Nat × Nat)) (d : Dev) : ∃ q t, each l (fun p d => d.groupWrite p.1 p.2) d = { d with
      drv := { d.drv with groupDue := q }, cfg := { d.cfg with drv := { d.cfg.drv with groupControl := t } } }
    ∧ ((l.map Prod.fst).Nodup → ∀ g, tget 1 t g = (tfind l g).getD (tget 1 d.cfg.drv.groupControl g)) := by
  induction l generalizing d with
  | nil => exact ⟨_, _, rfl, fun _ _ => rfl⟩
  | cons p l ih =>
    obtain ⟨j, v⟩ := p
    obtain ⟨q, t, hl, ht⟩ := ih (d.groupWrite j v)
    refine ⟨q, t, hl, fun hnodup g => ?_⟩
    obtain ⟨hnew, hrest⟩ := List.nodup_cons.1 hnodup
    have hwrite : tget 1 (d.groupWrite j v).cfg.drv.groupControl g = if g = j then v else tget 1 d.cfg.drv.groupControl g :=
      tget_tset ..
    rw [ht hrest, hwrite, tfind]
    by_cases hg : j = g
    · rw [if_pos hg, if_pos hg.symm, tfind_eq_none fun c hc hcg => hnew (List.mem_map.2 ⟨c, hc, hcg.trans hg.symm⟩)]
      rfl
    · rw [if_neg hg, if_neg (Ne.symm hg)]

/-- The rotation takes its setting. -/
theorem Dev.replayRotation_eq (d : Dev) : ∃ r, (if d.cfg.cal.rotation = 1 then (calRotationWrite 1 d).2 else d)
    = { d with cal := { d.cal with rotState := r } } := by
  split
  · rename_i h
    have hsame : d.setCalCfg (fun c => { c with rotation := 1 }) = d := by
      rw [← h]
      rfl
    have hstart : (calRotationWrite 1 d).2 = (d.setCalCfg (fun c => { c with rotation := 1 })).setCal (fun c => { c with
        rotState := if c.rotState = .stopped then .running else if c.rotState = .stopping then .restartPending else c.rotState }) := rfl
    rw [hstart, hsame]
    exact ⟨_, rfl⟩
  · exact ⟨_, rfl⟩

/-- The decoder takes its setting. -/
theorem Dev.replayDecoder_eq (d : Dev) : ∃ st due, (decoderControlWrite d.cfg.dec.control d).2
    = { d with dec := { d.dec with state := st, due := due } } := by
  have hsame : d.setDecCfg (fun c => { c with control := d.cfg.dec.control }) = d := rfl
  unfold decoderControlWrite
  split
  · rename_i h
    rw [h] at hsame
    unfold decoderStop
    rw [hsame]
    cases hs : d.dec.state <;> exact ⟨_, _, by simp only [Dev.setDec, hs]; rfl⟩
  · rename_i h
    rw [h] at hsame
    unfold decoderStart
    rw [hsame]
    by_cases hs : d.dec.state = .stopping
    · exact ⟨_, _, by simp only [Dev.setDec, hs, if_true]; rfl⟩
    · exact ⟨_, _, by simp only [Dev.setDec, hs, if_false]; rfl⟩
  · exact ⟨_, _, rfl⟩

/-- A lane's state by its setting. -/
def Dev.replayLane (d : Dev) (l : Nat) : Dev := d.setLane l { d.lane l with state := if d.laneEnabled l then .down else .disabled }

theorem Dev.iter_replayLane (n i : Nat) (d : Dev) : ∃ t, iter (fun l d => d.replayLane l) n i d
      = { d with net := { d.net with lanes := t } }
    ∧ ∀ k, tget {} t k = if i ≤ k ∧ k < i + n then { d.lane k with state := if d.laneEnabled k then .down else .disabled }
        else d.lane k := by
  induction n generalizing i d with
  | zero => exact ⟨d.net.lanes, rfl, fun k => (if_neg (by omega)).symm⟩
  | succ n ih =>
    obtain ⟨t, hiter, hlanes⟩ := ih (i + 1) (d.replayLane i)
    refine ⟨t, hiter, fun k => ?_⟩
    have hlane : (d.replayLane i).lane k = if k = i then { d.lane i with state := if d.laneEnabled i then .down else .disabled }
        else d.lane k := Dev.lane_setLane ..
    have henabled : (d.replayLane i).laneEnabled k = d.laneEnabled k := rfl
    rw [hlanes, hlane, henabled]
    by_cases hk : k = i
    · subst hk
      refine (if_neg (by omega)).trans ((if_pos rfl).trans (if_pos ?_).symm)
      omega
    · rw [if_neg hk]
      exact if_congr (by omega) rfl rfl

/-- The settings whose blocks hold state of their own take effect; nothing else of them changes. -/
theorem Dev.replaySettings_eq (d : Dev) : ∃ st nx sc q g r ds du t, d.replaySettings = { d with
      memory := { d.memory with scrubState := st, scrubNext := nx, scrub := sc }
      drv := { d.drv with groupDue := q }, cfg := { d.cfg with drv := { d.cfg.drv with groupControl := g } }
      cal := { d.cal with rotState := r }, dec := { d.dec with state := ds, due := du }
      net := { d.net with lanes := t }, circ := { d.circ with digestDue := true } }
    ∧ ((d.cfg.drv.groupControl.map Prod.fst).Nodup → ∀ j, tget 1 g j = tget 1 d.cfg.drv.groupControl j)
    ∧ ∀ l, l < 96 → tget {} t l = { d.lane l with state := if d.laneEnabled l then .down else .disabled } := by
  obtain ⟨st, nx, sc, hscrub⟩ := d.replayScrub_eq
  obtain ⟨x1, hx1⟩ : ∃ x : Dev, x = { d with memory := { d.memory with scrubState := st, scrubNext := nx, scrub := sc } } := ⟨_, rfl⟩
  obtain ⟨q, g, hgroup, hcontrol⟩ := Dev.each_groupWrite d.cfg.drv.groupControl x1
  obtain ⟨x2, hx2⟩ : ∃ x : Dev, x = { x1 with
    drv := { x1.drv with groupDue := q }, cfg := { x1.cfg with drv := { x1.cfg.drv with groupControl := g } } } := ⟨_, rfl⟩
  obtain ⟨r, hrot⟩ := x2.replayRotation_eq
  obtain ⟨x3, hx3⟩ : ∃ x : Dev, x = { x2 with cal := { x2.cal with rotState := r } } := ⟨_, rfl⟩
  obtain ⟨ds, du, hdec⟩ := x3.replayDecoder_eq
  obtain ⟨x4, hx4⟩ : ∃ x : Dev, x = { x3 with dec := { x3.dec with state := ds, due := du } } := ⟨_, rfl⟩
  obtain ⟨t, hlanes, hlane⟩ := Dev.iter_replayLane 96 0 x4
  have hrot' : (if d.cfg.cal.rotation = 1 then (calRotationWrite 1 x2).2 else x2) = x3 := by
    rw [hx3, ← hrot, hx2, hx1]
  have hdec' : (decoderControlWrite d.cfg.dec.control x3).2 = x4 := by
    rw [hx4, ← hdec, hx3, hx2, hx1]
  have hsteps : d.replaySettings = ({ x4 with net := { x4.net with lanes := t } } : Dev).setCirc (fun x => { x with digestDue := true }) := by
    unfold Dev.replaySettings
    dsimp only
    rw [hscrub, ← hx1, hgroup, ← hx2, hrot', hdec', ← hlanes]
    rfl
  refine ⟨st, nx, sc, q, g, r, ds, du, t, ?_, fun hnodup j => ?_, fun l hl => ?_⟩
  · rw [hsteps, hx4, hx3, hx2, hx1]
    rfl
  · rw [hcontrol hnodup, hx1]
    show (tfind d.cfg.drv.groupControl j).getD (tget 1 d.cfg.drv.groupControl j) = tget 1 d.cfg.drv.groupControl j
    rw [tget_eq_tfind]
    cases tfind d.cfg.drv.groupControl j <;> rfl
  · rw [hlane, if_pos (by omega), hx4, hx3, hx2, hx1]
    rfl

end

/-! ## START_COMPLETE (R433) -/

/-- The start is done: the loop is STOPPED with cause RESET. -/
def Dev.startedUp (d : Dev) : Dev :=
  (d.setLoop (fun l => { l with state := .stopped, stopCause := 4, due := none })).setBoot (fun b => { b with startDone := true })

theorem Dev.startedUp_eq (d : Dev) : d.startedUp = { d with
    loop := { d.loop with state := .stopped, stopCause := 4, due := none }, boot := { d.boot with startDone := true } } := rfl

section
variable {d : Dev}

theorem startComplete_idle (h : d.boot.phase ≠ .firmware ∨ d.boot.startDone = true) : startComplete d = d := if_pos h

section
variable (hp : d.boot.phase = .firmware) (hd : d.boot.startDone = false)
include hp hd

theorem startComplete_begins : ¬ (d.boot.phase ≠ .firmware ∨ d.boot.startDone = true) := by simp [hp, hd]

theorem startComplete_empty (h : d.boot.startMode ≠ 0 ∨ d.boot.flash.newest = none) : startComplete d = d.startedUp := by
  have hnone : (if d.boot.startMode = 0 then d.boot.flash.newest else none) = none := by
    split
    · rename_i h0
      exact h.resolve_left (not_not.2 h0)
    · rfl
  rw [startComplete, if_neg (startComplete_begins hp hd), hnone]
  rfl

section
variable {a : Saved} {r : Resp} {x : Dev} (hm : d.boot.startMode = 0) (ha : d.boot.flash.newest = some a)
  (hx : d.restoreMap a.fabric = (r, x))
include hm ha hx

theorem startComplete_restores (hr : r = .ok) : startComplete d = (x.restoreRest a).startedUp := by
  rw [startComplete, if_neg (startComplete_begins hp hd), if_pos hm, ha]
  dsimp only
  rw [hx, hr]
  rfl

theorem startComplete_refused (hr : r ≠ .ok) : startComplete d
    = Dev.startedUp { x with boot := { x.boot with startMode := 1, startWhy := 3, savedDuty := none } } := by
  rw [startComplete, if_neg (startComplete_begins hp hd), if_pos hm, ha]
  dsimp only
  rw [hx]
  cases r with
  | ok => exact absurd rfl hr
  | _ => rfl

end

end

theorem Dev.restoreMap_nil : d.restoreMap [] = (.ok, d) := if_pos rfl

/-- The device with a saved copy's settings, memory and bank, before the settings that act as a write does. -/
def Dev.restoredBase (d : Dev) (a : Saved) (m : Mem) (l : List (Nat × Nat)) : Dev := { d with
  cfg := { a.cfg with tow := { a.cfg.tow with duty := d.cfg.tow.duty } }
  drv := { d.drv with lastCode := [], lastFill := a.cfg.drv.idleCode }
  time := { d.time with triggers := a.triggers.map (fun (p : Nat × Trigger) => (p.1, { p.2 with state := .empty })) }
  req := { d.req with staged := a.rights, rightsPending := true }
  sram := m, memory := { d.memory with cleared := l }
  circ := { d.circ with written := some [], gen := a.gen, committedGen := a.gen } }

/-- Two memories hold the same bytes and the same entries of the merge buffer. -/
def Mem.Alike (m y : Mem) : Prop := y.cells = m.cells ∧ y.merge = m.merge

theorem Mem.Alike.byte {m y : Mem} (h : m.Alike y) (n : Nat) : y.byte n = m.byte n :=
  Mem.byte_congr (congrArg (tget 0 · n) h.1) (congrArg (mergeEntry · _) h.2)

theorem Mem.Alike.each {m y : Mem} (h : m.Alike y) (l : List Host.Cell) (f : Host.Cell → Nat) :
    (each l (fun c m => m.setCell (f c) c.2) m).Alike (each l (fun c m => m.setCell (f c) c.2) y) := by
  induction l generalizing m y with
  | nil => exact h
  | cons c l ih => exact ih ⟨congrArg (tset 0 · (f c) c.2) h.1, h.2⟩

theorem Mem.Alike.withTables {m y : Mem} (h : m.Alike y) (l : List Host.Cell) : (m.withTables l).Alike (y.withTables l) :=
  h.each l Prod.fst

theorem Mem.Alike.withBank {m y : Mem} (h : m.Alike y) (base : Nat) (l : List Host.Cell) :
    (m.withBank base l).Alike (y.withBank base l) :=
  Mem.Alike.each ⟨congrArg (List.filter _) h.1, congrArg (List.filter _) h.2⟩ l (fun c => base + c.1)

/-- An operation over the memory that clears no poison to be noted. -/
theorem Dev.mem_eq (d : Dev) (f : Mem → Mem) : ∃ m l, d.mem f = { d with sram := m, memory := { d.memory with cleared := l } }
    ∧ (f d.sram).Alike m := ⟨_, _, rfl, rfl, rfl⟩

theorem Dev.restoreRest_eq (d : Dev) (a : Saved) : ∃ m l, d.restoreRest a = (d.restoredBase a m l).replaySettings
    ∧ ∀ n, m.byte n = (d.sram.restored a (bankAddr d.curBank)).byte n := by
  obtain ⟨x, hx⟩ : ∃ x : Dev, x = { d with
    cfg := { a.cfg with tow := { a.cfg.tow with duty := d.cfg.tow.duty } }
    drv := { d.drv with lastCode := [], lastFill := a.cfg.drv.idleCode }
    time := { d.time with triggers := a.triggers.map (fun (p : Nat × Trigger) => (p.1, { p.2 with state := .empty })) }
    req := { d.req with staged := a.rights, rightsPending := true } } := ⟨_, rfl⟩
  obtain ⟨m1, l1, h1, hm1⟩ := x.mem_eq (fun m => m.withRecords a.records)
  obtain ⟨x1, hx1⟩ : ∃ y : Dev, y = { x with sram := m1, memory := { x.memory with cleared := l1 } } := ⟨_, rfl⟩
  obtain ⟨m2, l2, h2, hm2⟩ := x1.mem_eq (fun m => m.withTables a.tables)
  obtain ⟨x2, hx2⟩ : ∃ y : Dev, y = { x1 with sram := m2, memory := { x1.memory with cleared := l2 } } := ⟨_, rfl⟩
  obtain ⟨m3, l3, h3, hm3⟩ := x2.mem_eq (fun m => m.withBank (bankAddr x2.curBank) a.bank)
  have hrest : d.restoreRest a = (((x.mem (fun m => m.withRecords a.records)).mem (fun m => m.withTables a.tables)).putBank
      a.bank a.gen).replaySettings := by
    rw [hx]
    rfl
  have hput : x2.putBank a.bank a.gen = (x2.mem (fun m => m.withBank (bankAddr x2.curBank) a.bank)).setCirc (fun c => { c with
      written := some [], gen := a.gen, committedGen := a.gen }) := rfl
  refine ⟨m3, l3, ?_, fun n => ?_⟩
  · rw [hrest, h1, ← hx1, h2, ← hx2, hput, h3, hx2, hx1, hx]
    rfl
  · have hbank : x2.curBank = d.curBank := by
      rw [hx2, hx1, hx]
      rfl
    have hsram1 : x1.sram = m1 := by rw [hx1]
    have hsram2 : x2.sram = m2 := by rw [hx2]
    have hsram : x.sram = d.sram := by rw [hx]
    rw [hsram] at hm1
    rw [hsram1] at hm2
    rw [hsram2, hbank] at hm3
    rw [hm3.byte]
    refine Mem.Alike.byte (Mem.Alike.withBank ?_ _ _) n
    obtain ⟨hc, hm⟩ := hm1.withTables a.tables
    exact ⟨hm2.1.trans hc, hm2.2.trans hm⟩

end

/-! ## The saved copies (R432) -/

section
variable {f : Flash}

/-- The copy that a write of the saved state goes into, and the sequence number it takes. -/
def Flash.nextCopy (f : Flash) : Nat :=
  match f.newest with
  | none => 0
  | some _ => 1 - f.newestCopy

def Flash.nextSeq (f : Flash) : BitVec 32 :=
  match f.newest with
  | none => 1
  | some a => a.seq + 1

theorem savedStateWrite_idle {d : Dev} (h : d.boot.phase ≠ .firmware ∨ d.boot.startDone = false ∨ d.boot.saving ≠ none) :
    savedStateWrite d = d := if_pos (by simpa [Option.isSome_iff_ne_none] using h)

theorem savedStateWrite_writes {d : Dev} (hp : d.boot.phase = .firmware) (hd : d.boot.startDone = true)
    (hs : d.boot.saving = none) : savedStateWrite d = { d with boot := { d.boot with
      flash := d.boot.flash.setCopy d.boot.flash.nextCopy (some (d.savedNow d.boot.flash.nextSeq))
      saving := some d.boot.flash.nextCopy } } := by
  rw [savedStateWrite, if_neg (by simp [hp, hd, hs])]
  rfl

theorem Flash.setCopy_eq (f : Flash) (k : Nat) (x : Option Saved) :
    f.setCopy k x = { f with copy0 := if k = 0 then x else f.copy0, copy1 := if k = 0 then f.copy1 else x } := by
  unfold Flash.setCopy
  split <;> rfl

/-! ### Which copy is the newest -/

theorem Saved.valid_eq_some {x : Option Saved} {a : Saved} : Saved.valid x = some a ↔ x = some a ∧ a.whole = true := by
  rw [Saved.valid, Option.filter_eq_some_iff]

theorem Saved.valid_unwhole {b : Saved} (hb : b.whole = false) : Saved.valid (some b) = none := by
  rw [Saved.valid, Option.filter_some, if_neg (by rw [hb]; decide)]

theorem Flash.newest_none (h : f.newest = none) : Saved.valid f.copy0 = none ∧ Saved.valid f.copy1 = none := by
  unfold Flash.newest at h
  cases h0 : Saved.valid f.copy0 with
  | none => cases h1 : Saved.valid f.copy1 <;> simp_all
  | some a =>
    cases h1 : Saved.valid f.copy1 with
    | none => simp_all
    | some b =>
      rw [h0, h1] at h
      dsimp only at h
      split at h <;> exact absurd h (by simp)

/-- The newest copy is whole, and it stands in the copy of its number. -/
theorem Flash.newest_some {a : Saved} (h : f.newest = some a) :
    a.whole = true ∧ (f.newestCopy = 0 ∧ f.copy0 = some a ∨ f.newestCopy = 1 ∧ f.copy1 = some a) := by
  have hheld : Saved.valid f.copy0 = some a ∨ Saved.valid f.copy1 = some a := by
    unfold Flash.newest at h
    cases h0 : Saved.valid f.copy0 with
    | none => cases h1 : Saved.valid f.copy1 <;> simp_all
    | some x =>
      cases h1 : Saved.valid f.copy1 with
      | none => simp_all
      | some y =>
        rw [h0, h1] at h
        dsimp only at h
        split at h
        · exact .inr h
        · exact .inl h
  have hnumber : f.newestCopy = if f.copy1 = some a ∧ f.copy0 ≠ some a then 1 else 0 := by
    rw [Flash.newestCopy, h]
  rw [hnumber]
  rcases hheld with h0 | h1
  · obtain ⟨h0, hw⟩ := Saved.valid_eq_some.1 h0
    exact ⟨hw, .inl ⟨if_neg fun hn => hn.2 h0, h0⟩⟩
  · obtain ⟨h1, hw⟩ := Saved.valid_eq_some.1 h1
    by_cases h0 : f.copy0 = some a
    · exact ⟨hw, .inl ⟨if_neg fun hn => hn.2 h0, h0⟩⟩
    · exact ⟨hw, .inr ⟨if_pos ⟨h1, h0⟩, h1⟩⟩

theorem Flash.newest_eq_copy1 (h : Saved.valid f.copy0 = none) : f.newest = Saved.valid f.copy1 := by
  unfold Flash.newest
  rw [h]

theorem Flash.newest_eq_copy0 (h : Saved.valid f.copy1 = none) : f.newest = Saved.valid f.copy0 := by
  unfold Flash.newest
  rw [h]
  cases Saved.valid f.copy0 <;> rfl

theorem Flash.newest_both {a b : Saved} (ha : Saved.valid f.copy0 = some a) (hb : Saved.valid f.copy1 = some b) :
    f.newest = if (b.seq - a.seq).toNat < 2 ^ 31 ∧ a.seq ≠ b.seq then some b else some a := by
  unfold Flash.newest
  rw [ha, hb]

/-- While the next copy is being written, the newest stands. -/
theorem Flash.newest_writing {b : Saved} (hb : b.whole = false) : (f.setCopy f.nextCopy (some b)).newest = f.newest := by
  have hinvalid : Saved.valid (some b) = none := Saved.valid_unwhole hb
  cases hn : f.newest with
  | none =>
    have hk : f.nextCopy = 0 := by rw [Flash.nextCopy, hn]
    rw [hk, ← (Flash.newest_none hn).2]
    exact Flash.newest_eq_copy1 hinvalid
  | some a =>
    have hk : f.nextCopy = 1 - f.newestCopy := by rw [Flash.nextCopy, hn]
    obtain ⟨hw, ⟨hc, h0⟩ | ⟨hc, h1⟩⟩ := Flash.newest_some hn
    · rw [hk, hc, ← Saved.valid_eq_some.2 ⟨h0, hw⟩]
      exact Flash.newest_eq_copy0 hinvalid
    · rw [hk, hc, ← Saved.valid_eq_some.2 ⟨h1, hw⟩]
      exact Flash.newest_eq_copy1 hinvalid

/-- Once whole, the copy written is the newest. -/
theorem Flash.newest_written {b : Saved} (hb : b.whole = true) (hseq : b.seq = f.nextSeq) :
    (f.setCopy f.nextCopy (some b)).newest = some b := by
  have hvalid : Saved.valid (some b) = some b := Saved.valid_eq_some.2 ⟨rfl, hb⟩
  cases hn : f.newest with
  | none =>
    have hk : f.nextCopy = 0 := by rw [Flash.nextCopy, hn]
    rw [hk]
    exact (Flash.newest_eq_copy0 (f := f.setCopy 0 (some b)) (Flash.newest_none hn).2).trans hvalid
  | some a =>
    have hk : f.nextCopy = 1 - f.newestCopy := by rw [Flash.nextCopy, hn]
    have hq : b.seq = a.seq + 1 := by rw [hseq, Flash.nextSeq, hn]
    obtain ⟨hw, ⟨hc, h0⟩ | ⟨hc, h1⟩⟩ := Flash.newest_some hn
    · rw [hk, hc]
      refine (Flash.newest_both (f := f.setCopy 1 (some b)) (Saved.valid_eq_some.2 ⟨h0, hw⟩) hvalid).trans (if_pos ?_)
      rw [hq]
      constructor
      · bv_omega
      · bv_omega
    · rw [hk, hc]
      refine (Flash.newest_both (f := f.setCopy 0 (some b)) hvalid (Saved.valid_eq_some.2 ⟨h1, hw⟩)).trans (if_neg ?_)
      rw [hq]
      bv_omega

/-- At the next tick the copy being written is whole. -/
theorem Dev.savedTick_whole {d : Dev} {k : Nat} {f : Flash} {b : Saved} (hs : d.boot.saving = some k)
    (hf : d.boot.flash = f.setCopy k (some b)) : d.savedTick = { d with boot := { d.boot with
      flash := f.setCopy k (some { b with whole := true }), saving := none } } := by
  have hcopy : ((f.setCopy k (some b)).copy k).map (fun a => { a with whole := true }) = some { b with whole := true } := by
    unfold Flash.setCopy Flash.copy
    split <;> rfl
  have hset : ∀ x y, (f.setCopy k x).setCopy k y = f.setCopy k y := fun x y => by
    unfold Flash.setCopy
    split <;> rfl
  have hflash : d.boot.flash.setCopy k ((d.boot.flash.copy k).map (fun a => { a with whole := true }))
      = f.setCopy k (some { b with whole := true }) := by rw [hf, hcopy, hset]
  rw [Dev.savedTick, hs, ← hflash]
  rfl

/-- SAVED_STATE_WRITE: the copy being written leaves the newest as it was, and is the newest at the next tick. -/
theorem savedStateWrite_newest {d x : Dev} (hp : d.boot.phase = .firmware) (hd : d.boot.startDone = true)
    (hs : d.boot.saving = none) (hx : x = savedStateWrite d) : x.boot.flash.newest = d.boot.flash.newest
      ∧ x.savedTick.boot.flash.newest = some { d.savedNow d.boot.flash.nextSeq with whole := true }
      ∧ x.savedTick.boot.saving = none := by
  rw [savedStateWrite_writes hp hd hs] at hx
  have hsaving : x.boot.saving = some d.boot.flash.nextCopy := by rw [hx]
  have hflash : x.boot.flash = d.boot.flash.setCopy d.boot.flash.nextCopy (some (d.savedNow d.boot.flash.nextSeq)) := by rw [hx]
  rw [Dev.savedTick_whole hsaving hflash, hflash]
  exact ⟨Flash.newest_writing rfl, Flash.newest_written rfl rfl, rfl⟩

end

/-! ## The start, the saved duty and the reset as the statement reads them -/

theorem Dev.savedNow_tables (d : Dev) (q : BitVec 32) (c : Host.Cell) :
    c ∈ (d.savedNow q).tables ↔ c ∈ d.sram.cells ∧ savedByte c.1 = true := List.mem_filter

theorem Dev.savedNow_bank (d : Dev) (q : BitVec 32) (n : Nat) (v : Byte) :
    (n, v) ∈ (d.savedNow q).bank ↔ n < 0x48000 ∧ (bankAddr d.curBank + n, v) ∈ d.sram.cells := by
  refine List.mem_map.trans ⟨?_, fun ⟨hn, hc⟩ => ⟨_, List.mem_filter.2 ⟨hc, ?_⟩, ?_⟩⟩
  · rintro ⟨⟨a, w⟩, hc, heq⟩
    obtain ⟨hc, hin⟩ := List.mem_filter.1 hc
    simp only [Bool.and_eq_true, decide_eq_true_eq] at hin
    obtain ⟨rfl, rfl⟩ := Prod.mk.inj heq
    exact ⟨by omega, by rwa [Nat.add_sub_cancel' hin.1]⟩
  · simp only [Bool.and_eq_true, decide_eq_true_eq]
    omega
  · simp

/-- What SAVED_DUTY_RESTORE waits for. -/
theorem savedDutyRestore_idle {d : Dev}
    (h : d.boot.savedDuty = none ∨ d.boot.startDone = false ∨ d.time.state ≠ .locked ∨ d.cyc.slot ≠ 0) : savedDutyRestore d = d := by
  unfold savedDutyRestore
  cases hs : d.boot.savedDuty with
  | none => rfl
  | some v => exact if_pos (h.resolve_left (by simp [hs]))

section
variable {d : Dev} {n : Nat} (hs : d.boot.savedDuty = some n) (hd : d.boot.startDone = true) (ht : d.time.state = .locked)
  (hc : d.cyc.slot = 0)
include hs hd ht hc

theorem savedDutyRestore_due : savedDutyRestore d = if n = 1 then (towerDutyEnable d).2 else
    d.setBoot (fun b => { b with savedDuty := none }) := by
  unfold savedDutyRestore
  rw [hs]
  exact if_neg (by simp [hd, ht, hc])

theorem savedDutyRestore_enables (hn : n = 1) : savedDutyRestore d
    = d.setDuty 1 (if d.tow.dutyState = .stopped ∨ d.tow.dutyState = .running then .running else .restartPending) := by
  rw [savedDutyRestore_due hs hd ht hc, if_pos hn, towerDutyEnable_eq]

end

/-- Memory as the saved copy's bytes and records spell it. -/
theorem Mem.reads_restored {m y : Mem} {a : Saved} {base : Nat} (hbase : 0xA00000 ≤ base)
    (hy : ∀ n, y.byte n = (m.restored a base).byte n) (hm : m.MergesRecords)
    (hrecords : ∀ p ∈ a.records, p.1 < 32768 ∧ p.2.length = 8 ∧ ∀ w ∈ p.2, w < 2 ^ 64) (hnr : (a.records.map Prod.fst).Nodup)
    (htables : ∀ c ∈ a.tables, savedByte c.1 = true) (hnt : (a.tables.map Prod.fst).Nodup) (hnb : (a.bank.map Prod.fst).Nodup) :
    (∀ p ∈ a.records, ∀ k, k < 8 → y.word (64 * p.1 + 8 * k) = p.2.getD k 0) ∧ (∀ c ∈ a.tables, y.byte c.1 = c.2)
      ∧ (∀ c ∈ a.bank, y.byte (base + c.1) = c.2)
      ∧ (∀ n, 0xA00000 ≤ n → (∀ c ∈ a.bank, base + c.1 ≠ n) → y.byte n = 0)
      ∧ ∀ n, n < 0xA00000 → (∀ p ∈ a.records, n < 64 * p.1 ∨ 64 * (p.1 + 1) ≤ n) → (∀ c ∈ a.tables, c.1 ≠ n) →
        y.byte n = m.byte n :=
  ⟨fun _ hp _ hk => (Mem.word_congr fun _ _ => hy _).trans (Mem.restored_record hbase hrecords htables hnr hp hk),
    fun _ hc => (hy _).trans (Mem.restored_table hbase htables hm hnt hc),
    fun _ hc => (hy _).trans (Mem.restored_bank hbase hnb hc), fun n hn h => (hy n).trans (Mem.byte_withBank_other _ hn h),
    fun n hn hr ht => (hy n).trans (Mem.restored_other hbase hrecords hn hr ht)⟩

/-- Settles O58: the start's completion from the settings replayed over the copy restored, the copies from which is the newest. -/
theorem startAndSavedState : Obligations.StartAndSavedState := by
  unfold Obligations.StartAndSavedState
  intro v s
  refine ⟨fun h => gives_of_upd startComplete rfl (startComplete_idle h), ?_,
    fun h => gives_of_upd savedDutyRestore rfl (savedDutyRestore_idle h), fun n hs hd ht hc => ⟨fun hn => ?_, ?_⟩,
    fun h => gives_of_upd savedStateWrite rfl (savedStateWrite_idle h), ?_,
    fun hv => answers_of_ask (deviceReset v.toNat) rfl (if_pos fun h => hv (BitVec.eq_of_toNat_eq h)),
    fun h => answers_of_ask (deviceReset 1) rfl (deviceReset_active h), fun h => ?_⟩
  · rintro done rfl hp hd
    refine ⟨fun h => gives_of_upd startComplete rfl (startComplete_empty hp hd h), fun a r x hm ha hx => ⟨fun hr => ?_, fun hr =>
      gives_of_upd startComplete rfl (startComplete_refused hp hd hm ha hx hr)⟩, ?_⟩
    · obtain ⟨m, l, hrest, hbytes⟩ := x.restoreRest_eq a
      obtain ⟨st, nx, sc, q, g, rot, ds, du, t, hreplay, hgroups, hlanes⟩ := (x.restoredBase a m l).replaySettings_eq
      refine ⟨_, gives_of_upd startComplete rfl ((startComplete_restores hp hd hm ha hx hr).trans
        (congrArg Dev.startedUp (hrest.trans hreplay))), rfl, hgroups, rfl, rfl, rfl, rfl, rfl,
        fun hmerge hrecords hnr htables hnt _ hnb =>
          Mem.reads_restored (bankAddr_base _) hbytes hmerge hrecords hnr htables hnt hnb, hlanes, rfl⟩
    · rintro a r x _ _ hx hf
      rw [hf, Dev.restoreMap_nil] at hx
      obtain ⟨rfl, rfl⟩ := Prod.mk.inj hx
      exact ⟨rfl, rfl⟩
  · exact gives_of_upd savedDutyRestore rfl ((savedDutyRestore_due hs hd ht hc).trans (if_neg hn))
  · rintro hn x rfl
    exact gives_of_upd savedDutyRestore rfl (savedDutyRestore_enables hs hd ht hc hn)
  · intro hp hd hs k q b hk hq hb
    have hk' : k = s.dev.boot.flash.nextCopy := hk.trans (by rw [Flash.nextCopy]; cases s.dev.boot.flash.newest <;> rfl)
    have hq' : q = s.dev.boot.flash.nextSeq := hq.trans (by rw [Flash.nextSeq]; cases s.dev.boot.flash.newest <;> rfl)
    subst hb
    refine ⟨rfl, rfl, rfl, rfl, rfl, rfl, rfl, rfl, Dev.savedNow_tables _ _, Dev.savedNow_bank _ _, savedStateWrite s.dev,
      gives_of_upd savedStateWrite rfl rfl, ?_, ?_⟩
    · rw [savedStateWrite_writes hp hd hs, Flash.setCopy_eq, hk', hq']
      rfl
    · rw [hq']
      exact savedStateWrite_newest hp hd hs rfl
  · refine ⟨_, answers_of_ask (deviceReset 1) rfl (deviceReset_restarts h), ⟨_, gives_of_upd resetAssert rfl rfl,
      gives_of_upd (resetRelease _) rfl rfl⟩, ?_⟩
    have hrestart := s.dev.restart_eq
    rw [Dev.restart] at hrestart
    rw [hrestart]
    exact ⟨rfl, rfl, rfl, rfl, rfl, rfl, rfl, rfl⟩

end Sys2Proof.Machine
end

section
/-! Requests (R324 to R333): over the board SPI port, judged and executed item by item; over the network, refused or answered from
the requester's window. -/

namespace Sys2Proof.Machine

/-! ## Refusals and answers -/

section
variable {d : Dev} {q : ReqFrame}

/-- A device whose board SPI port holds a response, the request gone. -/
def Dev.portAnswered (d : Dev) (body : List Byte) : Dev := { d with
  net := { d.net with bspi := { d.net.bspi with request := none, response := some body } }
  req := { d.req with response := some body } }

/-- Over the network a response leaves everything but the links, and the response kept, alone. -/
theorem Dev.sendResponse_network (d : Dev) (src cls : Nat) (planeB poison : Bool) (body : List Byte) :
    Dev.OnNetwork { d with req := { d.req with response := some body } } (d.sendResponse false src cls planeB poison body) :=
  Dev.OnNetwork.originate (d.setReq (fun r => { r with response := some body })) cls 9 src (some planeB) poison body

/-- The body of a refusal. -/
def Dev.refusal (d : Dev) (spi : Bool) (src seq : Nat) (code : Resp) : List Byte :=
  responseBody seq code 0 2 (d.unsignedLevel spi src) (d.windowHigh src) []

/-- A refusal says the same of a request that has been counted. -/
theorem Dev.refusal_countReq (d : Dev) (i : Nat) (spi : Bool) (src seq : Nat) (code : Resp) :
    (d.countReq i).refusal spi src seq code = d.refusal spi src seq code := rfl

theorem Dev.refuse_spi (h : q.spi = true) (code : Resp) : d.refuse q code = d.portAnswered (d.refusal true q.src.toNat 0 code) := by
  rw [Dev.refuse, h]
  rfl

theorem Dev.refuse_network (h : q.spi = false) (code : Resp) :
    Dev.OnNetwork { d with req := { d.req with response := some (d.refusal false q.src.toNat q.seq.toNat code) } } (d.refuse q code) := by
  rw [Dev.refuse, h]
  exact Dev.sendResponse_network ..

end

/-! ## Reading and executing -/

/-- A READ item changes LAST_ERROR at most. -/
theorem readItem_eq (level idx sub : Nat) (sel : Option Nat) (off len : Nat) (d : Dev) :
    ∃ m, (readItem level idx sub sel off len d).2 = { d with memory := m } := by
  unfold readItem
  cases d.named idx sub sel with
  | error e => exact ⟨_, rfl⟩
  | ok p =>
    dsimp only
    by_cases hr : (!p.1.acc.readable) = true
    · rw [if_pos hr]
      exact ⟨_, rfl⟩
    by_cases hl : p.1.readLevel d.req.rights < level
    · rw [if_neg hr, if_pos hl]
      exact ⟨_, rfl⟩
    rw [if_neg hr, if_neg hl]
    cases p.1.value d p.2 with
    | none => exact ⟨_, rfl⟩
    | some b =>
      dsimp only
      cases p.1.ty.part b off len with
      | none => exact ⟨_, rfl⟩
      | some v =>
        dsimp only
        cases p.1.poison d p.2 off (off + v.length) <;> exact ⟨_, rfl⟩

/-- A request of one READ item runs it, and waits for nothing. -/
theorem runItems_read {src level : Nat} {link : Bool} {i : ReqItem} {d e : Dev} {a : Answer} (hi : i.op = 1)
    (h : readItem level i.obj.index.toNat i.obj.sub.toNat (i.obj.sel.map BitVec.toNat) i.off i.len d = (a, e)) :
    runItems src level link [i] {} d = ({ answers := [a] }, e) := by
  have hrun : runItem src level link i d = (a, none, e) := by
    rw [runItem, hi, h]
    rfl
  rw [runItems, hrun]
  exact ite_self _

theorem statusOf_single (a : Answer) : statusOf [a] = a.code := by
  by_cases h : a.code = .ok
  · exact (if_pos h).trans h.symm
  · exact if_neg h

theorem Dev.recordEntry_none {d : Dev} {o : Outstanding} (h : d.reqWindow o.src.toNat = none) (status : Resp) (body : List Byte) :
    d.recordEntry o status body = d := by
  rw [Dev.recordEntry, h]

section
variable {d : Dev} {o : Outstanding}

/-- The body of a response over the board SPI port. -/
def Dev.portBody (d : Dev) (o : Outstanding) : List Byte :=
  responseBody 0 (statusOf o.answers) o.answers.length 0 o.level (d.windowHigh o.src.toNat) (o.answers.flatMap Answer.bytes)

variable (hspi : o.spi = true) (hw : d.reqWindow o.src.toNat = none)
include hspi hw

theorem Dev.finishRequest_port (hdups : o.dups = []) (h : o.quiet = false ∨ statusOf o.answers ≠ .ok) :
    d.finishRequest o = d.portAnswered (d.portBody o) := by
  have hloud : ¬ (o.quiet = true ∧ statusOf o.answers = .ok) := fun hq => h.elim (fun hf => by simp [hf] at hq) (fun hn => hn hq.2)
  unfold Dev.finishRequest
  dsimp only
  rw [Dev.recordEntry_none hw, if_neg hloud, if_neg hloud, hdups, hspi]
  rfl

theorem Dev.finishRequest_quiet (hq : o.quiet = true) (hok : statusOf o.answers = .ok) :
    d.finishRequest o = d.setBspi (fun b => { b with request := none }) := by
  unfold Dev.finishRequest
  dsimp only
  rw [Dev.recordEntry_none hw, if_pos ⟨hq, hok⟩, if_pos ⟨hq, hok⟩, if_pos hspi]

end

/-- The last outstanding request is concluded, its items having answered. -/
theorem Dev.conclude_last {d : Dev} {l : List Outstanding} {was o : Outstanding} (h : d.req.outstanding = l ++ [was]) (hnew : was ∉ l)
    (hwaits : o.waits = []) : d.conclude was o = Dev.finishRequest { d with req := { d.req with outstanding := l } } o := by
  have herase : d.req.outstanding.erase was = l := by
    rw [h, List.erase_append_right _ hnew, List.erase_cons_head, List.append_nil]
  unfold Dev.conclude
  dsimp only
  rw [if_pos (by rw [hwaits]; rfl), ← herase]
  rfl

/-- An unsigned request as it is outstanding while its items execute. -/
def Dev.newOutstanding (d : Dev) (q : ReqFrame) (b : ReqBody) (digest : List Byte) : Outstanding := {
  src := q.src, seq := q.seq, cls := q.cls, planeB := q.planeB, spi := q.spi, quiet := b.quiet
  level := d.unsignedLevel q.spi q.src.toNat, digest := digest, answers := [], waits := [] }

theorem Dev.judge_unsigned {d d0 : Dev} {q : ReqFrame} {b : ReqBody} {digest : List Byte} (h : b.signed = false) :
    d.judge d0 q b digest = d.execute d0 q b (d.newOutstanding q b digest) := if_pos h

/-- Items whose answers fit are executed and the request concluded. -/
theorem Dev.execute_runs {d d0 e : Dev} {q : ReqFrame} {b : ReqBody} {o : Outstanding} {x : ItemRun}
    (hrun : runItems q.src.toNat o.level (!q.spi) b.items {} (d.setReq (fun r => { r with outstanding := r.outstanding ++ [o] })) = (x, e))
    (hfits : 8 + (x.answers.flatMap Answer.bytes).length ≤ (d.setReq (fun r => { r with outstanding := r.outstanding ++ [o] })).responseRoom q)
    (hphase : e.boot.phase ≠ .rom) :
    d.execute d0 q b o = (e.countReq 0).conclude o { o with answers := x.answers, waits := x.waits } := by
  rw [Dev.execute, hrun]
  exact (if_neg (Nat.not_lt.2 hfits)).trans (if_neg hphase)

/-! ## The board SPI port (R275) -/

section
variable {d : Dev} {q : ReqFrame} {body : List Byte}

theorem requestReceive_empty_port (hs : q.spi = true) (h : d.net.bspi.request = none) : requestReceive q d = d := by
  rw [requestReceive, if_pos hs, h]
  exact ite_self _

variable (hs : q.spi = true) (hon : d.bspiOn = true) (hreq : d.net.bspi.request = some body) (hresp : d.net.bspi.response = none)
  (hidle : d.req.outstanding.any (fun o => o.spi) = false)
include hs hon hreq hresp hidle

theorem requestReceive_port : requestReceive q d = d.serve { q with src := 0, body := body } := by
  rw [requestReceive, if_pos hs, if_neg (by rw [hon, hresp, hidle]; simp), hreq]

theorem requestReceive_malformed (hb : parseBody body = none) :
    requestReceive q d = (d.countReq 5).portAnswered (d.refusal true 0 0 .invalid) := by
  rw [requestReceive_port hs hon hreq hresp hidle, Dev.serve, if_neg (by simp [hs])]
  dsimp only
  rw [hb]
  rw [Dev.refuse_spi (q := { q with src := 0, body := body }) hs, Dev.refusal_countReq]
  rfl

section
variable {b : ReqBody} {i : ReqItem} {a : Answer} {e : Dev} {o : Outstanding} (hb : parseBody body = some b)
  (hsigned : b.signed = false) (hitems : b.items = [i]) (hi : i.op = 1) (hlen : d.req.outstanding.length < 1024)
  (hown : (d.req.outstanding.filter (fun o => o.src = 0)).length < 64)
  (ho : o = { src := 0, seq := q.seq, cls := q.cls, planeB := q.planeB, spi := true, quiet := b.quiet
              level := d.req.rights.bspi, digest := [], answers := [], waits := [] })
  (hread : readItem d.req.rights.bspi i.obj.index.toNat i.obj.sub.toNat (i.obj.sel.map BitVec.toNat) i.off i.len
    { d with req := { d.req with outstanding := d.req.outstanding ++ [o] } } = (a, e))
  (hfits : 8 + a.bytes.length ≤ 2010)
include hb hsigned hitems hi hlen hown ho hread hfits

/-- A request of one READ item is executed and concluded. -/
theorem requestReceive_read : ∃ m, e = { d with req := { d.req with outstanding := d.req.outstanding ++ [o] }, memory := m }
    ∧ requestReceive q d = Dev.finishRequest (Dev.countReq { e with req := d.req } 0) { o with answers := [a] } := by
  obtain ⟨m, hm⟩ := readItem_eq d.req.rights.bspi i.obj.index.toNat i.obj.sub.toNat (i.obj.sel.map BitVec.toNat) i.off i.len
    { d with req := { d.req with outstanding := d.req.outstanding ++ [o] } }
  replace hm : e = _ := (congrArg Prod.snd hread).symm.trans hm
  obtain ⟨q', hq'⟩ : ∃ q' : ReqFrame, q' = { q with src := 0, body := body } := ⟨_, rfl⟩
  have hspi : q'.spi = true := by rw [hq', ← hs]
  have hsrc : q'.src = 0 := by rw [hq']
  have hnew : o ∉ d.req.outstanding := fun hin => by
    have := List.any_eq_false.1 hidle o hin
    simp [ho] at this
  have hbound : d.atBound q' = false := by
    rw [Dev.atBound, hsrc, Bool.or_eq_false_iff]
    constructor <;> exact decide_eq_false (by omega)
  have haccept : d.acceptRequest q' = some d := by
    rw [Dev.acceptRequest, if_neg (by rw [hbound]; decide), if_pos (.inl hspi)]
  have hlevel : o.level = d.req.rights.bspi := by rw [ho]
  have hrun : runItems q'.src.toNat o.level (!q'.spi) b.items {} (d.setReq (fun r => { r with outstanding := r.outstanding ++ [o] }))
      = ({ answers := [a] }, e) := by
    rw [hitems, hlevel]
    exact runItems_read hi hread
  have hroom : (d.setReq (fun r => { r with outstanding := r.outstanding ++ [o] })).responseRoom q' = 2010 := if_pos hspi
  have hphase : e.boot.phase ≠ .rom := by
    rw [hm]
    exact (d.bspiOn_iff.1 hon).2
  have hwaits : o.waits = [] := by rw [ho]
  have ho' : o = d.newOutstanding q' b [] := by
    have hlev : d.unsignedLevel q'.spi q'.src.toNat = d.req.rights.bspi := if_pos hspi
    rw [Dev.newOutstanding, hlev, hspi, hsrc, ho, hq']
  refine ⟨m, hm, ?_⟩
  rw [requestReceive_port hs hon hreq hresp hidle, ← hq', Dev.serve, if_neg (by simp [hspi])]
  have hbody : q'.body = body := by rw [hq']
  rw [hbody, hb]
  dsimp only
  rw [if_pos (.inl hspi), Dev.take4, haccept]
  dsimp only
  rw [Dev.judge_unsigned hsigned, ← ho', Dev.execute_runs hrun (by rw [hroom]; simpa using hfits) hphase]
  have houtstanding : (e.countReq 0).req.outstanding = d.req.outstanding ++ [o] := by
    rw [hm]
    rfl
  rw [Dev.conclude_last houtstanding hnew rfl, hm, ← hwaits]
  rfl

end

end

/-! ## The network (R326, R331) -/

/-- The device once it has taken up a request of a source, its window noted. -/
def Dev.heard (d : Dev) (src : Nat) : Dev := (d.takeAny 8).touchWindow src

theorem Dev.reqWindow_heard (d : Dev) (src : Nat) :
    (d.heard src).reqWindow src = (d.reqWindow src).map (fun w => { w with lastAt := d.mono }) := by
  have hsame (t : Nat) : ((fun w : ReqWindow => decide (w.src = src)) ∘ fun w => if w.src = src then { w with lastAt := t } else w)
      = fun w : ReqWindow => decide (w.src = src) := by
    funext w
    dsimp only [Function.comp]
    split <;> rfl
  have hfind : (d.heard src).reqWindow src = (d.reqWindow src).map (fun w => if w.src = src then { w with lastAt := d.mono } else w) := by
    refine List.find?_map.trans ?_
    rw [hsame]
    rfl
  rw [hfind]
  cases hw : d.reqWindow src with
  | none => rfl
  | some w => exact congrArg some (if_pos (of_decide_eq_true (List.find?_some hw :)))

@[simp] theorem Dev.windowHigh_heard (d : Dev) (src : Nat) : (d.heard src).windowHigh src = d.windowHigh src := by
  unfold Dev.windowHigh
  rw [Dev.reqWindow_heard]
  cases d.reqWindow src <;> rfl

theorem Dev.refusal_heard (d : Dev) (src seq : Nat) (code : Resp) : (d.heard src).refusal false src seq code
    = responseBody seq code 0 2 (d.req.rights.levelOf src) (d.windowHigh src) [] := by
  rw [Dev.refusal, Dev.windowHigh_heard]
  rfl

theorem Dev.heard_frame (d : Dev) (src : Nat) : d.heard src = { d with net := (d.heard src).net, req := (d.heard src).req } := rfl

theorem Dev.heard_countReq_frame (d : Dev) (src i : Nat) : (d.heard src).countReq i
    = { d with net := ((d.heard src).countReq i).net, req := ((d.heard src).countReq i).req } := rfl

@[simp] theorem Dev.counters_heard (d : Dev) (src : Nat) : (d.heard src).req.counters = d.req.counters := rfl

/-- A response over the network, the counters of a request apart, leaves the device as it was but for the Request Service. -/
theorem Dev.answered_network {d x y : Dev} {body : List Byte} (hx : x = { d with net := x.net, req := x.req })
    (hy : Dev.OnNetwork { x with req := { x.req with response := some body } } y) :
    y.req.response = some body ∧ y.req.counters = x.req.counters ∧ y = { d with net := y.net, traf := y.traf, req := y.req } := by
  obtain ⟨n, t, rfl⟩ := hy
  refine ⟨rfl, rfl, ?_⟩
  rw [hx]

section
variable {d : Dev} {w : ReqWindow} {seq : BitVec 16} {digest : List Byte}

theorem Dev.winCase_stale (h : 64 ≤ (w.high - seq).toNat) (h' : (w.high - seq).toNat ≤ 32768) : d.winCase w seq digest = .stale :=
  (if_pos (by omega)).trans (if_neg (by omega))

section
variable {e : WinEntry} (h : (w.high - seq).toNat ≤ 63) (he : w.entries.find? (fun e => e.seq = seq) = some e)
include h he

theorem Dev.winCase_entry : d.winCase w seq digest = if e.digest = digest then .cached e else .conflict := by
  unfold Dev.winCase
  dsimp only
  rw [if_neg (by omega), he]

end

end

section
variable {d : Dev} {q : ReqFrame} (hs : q.spi = false) (hf : d.boot.phase = .firmware)
include hs

theorem requestReceive_unserved (h : d.boot.phase ≠ .firmware) : requestReceive q d = d := by
  rw [requestReceive, if_neg (by simp [hs]), if_pos h]

include hf

theorem requestReceive_unassigned (h : d.net.role = .unassigned) : requestReceive q d = d.takeAny 8 := by
  rw [requestReceive, if_neg (by simp [hs]), if_neg (not_not.2 hf), if_pos h]

variable (hr : d.net.role ≠ .unassigned)
include hr

theorem requestReceive_network : requestReceive q d = (d.heard q.src.toNat).serve q := by
  rw [requestReceive, if_neg (by simp [hs]), if_neg (not_not.2 hf), if_neg hr]
  rfl

theorem requestReceive_poisoned (hp : q.poison = true) : requestReceive q d = (d.heard q.src.toNat).refuse q .poisoned := by
  rw [requestReceive_network hs hf hr, Dev.serve, if_pos ⟨hp, hs⟩]

section
variable {b : ReqBody} {w : ReqWindow} (hp : q.poison = false) (hsrc : q.src ≠ 0) (hb : parseBody q.body = some b)
  (hw : d.reqWindow q.src.toNat = some w)
include hp hsrc hb

/-- A request of a requester that takes a window. -/
theorem requestReceive_windowed : requestReceive q d = (d.heard q.src.toNat).take3 q b := by
  rw [requestReceive_network hs hf hr, Dev.serve, if_neg (by simp [hp]), hb]
  exact if_neg fun h => h.elim (by simp [hs]) hsrc

include hw

theorem requestReceive_stale (h : 64 ≤ (w.high - q.seq).toNat) (h' : (w.high - q.seq).toNat ≤ 32768) :
    requestReceive q d = ((d.heard q.src.toNat).countReq 4).refuse q .stale := by
  rw [requestReceive_windowed hs hf hr hp hsrc hb, Dev.take3, Dev.reqWindow_heard, hw]
  dsimp only [Option.map]
  rw [Dev.winCase_stale (w := { w with lastAt := d.mono }) h h']

section
variable {e : WinEntry} (h : (w.high - q.seq).toNat ≤ 63) (he : w.entries.find? (fun e => e.seq = q.seq) = some e)
include h he

theorem requestReceive_conflict (hd : e.digest ≠ (sha384 q.body).take 8) :
    requestReceive q d = (d.heard q.src.toNat).refuse q .conflict := by
  rw [requestReceive_windowed hs hf hr hp hsrc hb, Dev.take3, Dev.reqWindow_heard, hw]
  dsimp only [Option.map]
  rw [Dev.winCase_entry (w := { w with lastAt := d.mono }) h he, if_neg hd]

theorem requestReceive_duplicate (hd : e.digest = (sha384 q.body).take 8) (hloud : b.quiet = false ∨ e.status ≠ .ok) :
    requestReceive q d = (d.heard q.src.toNat).answerFromCache q.src.toNat q.cls.toNat q.planeB e := by
  rw [requestReceive_windowed hs hf hr hp hsrc hb, Dev.take3, Dev.reqWindow_heard, hw]
  dsimp only [Option.map]
  rw [Dev.winCase_entry (w := { w with lastAt := d.mono }) h he, if_pos hd]
  exact if_neg fun hq => hloud.elim (fun hf => by simp [hf] at hq) (fun hn => hn hq.2)

end

end

end

/-- The response to a duplicate from its entry (R331). -/
theorem Dev.answerFromCache_network (d : Dev) (src cls : Nat) (planeB : Bool) {e : WinEntry} {full : List Byte} (h : e.full = some full) :
    Dev.OnNetwork { d.countReq 1 with req := { (d.countReq 1).req with
        response := some (splice (splice full 4 (be 1 (field full 4 1 ||| 1))) 6 (be 2 (d.windowHigh src))) } }
      (d.answerFromCache src cls planeB e) := by
  have hbody : cachedBody e (d.windowHigh src) = splice (splice full 4 (be 1 (field full 4 1 ||| 1))) 6 (be 2 (d.windowHigh src)) := by
    rw [cachedBody, h]
  rw [← hbody]
  exact Dev.sendResponse_network ..

theorem Dev.counters_countReq (d : Dev) (i : Nat) : tget 0 (d.countReq i).req.counters i = tget 0 d.req.counters i + 1 :=
  tget_tset_same ..

/-- A request counted and answered over the board SPI port leaves the rest alone. -/
theorem Dev.portAnswered_counted {d y : Dev} {i : Nat} {body : List Byte} (hy : y = (d.countReq i).portAnswered body) :
    y.net.bspi.response = some body ∧ tget 0 y.req.counters i = tget 0 d.req.counters i + 1
      ∧ y = { d with
          net := { d.net with bspi := { d.net.bspi with request := none, response := y.net.bspi.response } }
          req := { d.req with counters := y.req.counters, response := y.net.bspi.response } } := by
  subst hy
  exact ⟨rfl, d.counters_countReq i, rfl⟩

theorem Dev.refusal_port (d : Dev) (code : Resp) :
    d.refusal true 0 0 code = responseBody 0 code 0 2 d.req.rights.bspi (d.windowHigh 0) [] := by
  rw [Dev.refusal, Dev.unsignedLevel, if_pos rfl]

/-- Settles O41: over the port from the request's run, over the network from what the window says. -/
theorem requestsReceived : Obligations.RequestsReceived := by
  unfold Obligations.RequestsReceived
  intro q body s
  refine ⟨fun hs hon hreq hresp hidle => ⟨fun hb => ?_, ?_⟩, fun hs h => gives_of_upd (requestReceive q) rfl (requestReceive_empty_port hs h),
    fun hs h => gives_of_upd (requestReceive q) rfl (requestReceive_unserved hs h),
    fun hs hf h => gives_of_upd (requestReceive q) rfl (requestReceive_unassigned hs hf h), ?_⟩
  · refine ⟨_, gives_of_upd (requestReceive q) rfl (requestReceive_malformed hs hon hreq hresp hidle hb), ?_⟩
    rw [← Dev.refusal_port]
    exact Dev.portAnswered_counted rfl
  · intro b i a e o hb hsigned hitems hi hw hlen hown ho hread hfits
    obtain ⟨m, hm, hrun⟩ := requestReceive_read hs hon hreq hresp hidle hb hsigned hitems hi hlen hown ho hread hfits
    have hspi : o.spi = true := by rw [ho]
    have hdups : o.dups = [] := by rw [ho]
    have hquiet : o.quiet = b.quiet := by rw [ho]
    have hwindow : (Dev.countReq { e with req := s.dev.req } 0).reqWindow o.src.toNat = none := by
      rw [ho]
      exact hw
    have hnet : e.net = s.dev.net := by rw [hm]
    refine ⟨fun h => ?_, fun hq hok => ?_⟩
    · have hloud : o.quiet = false ∨ statusOf [a] ≠ .ok := by rwa [hquiet, statusOf_single]
      have hbody : (Dev.countReq { e with req := s.dev.req } 0).portBody { o with answers := [a] }
          = responseBody 0 a.code 1 0 s.dev.req.rights.bspi (s.dev.windowHigh 0) a.bytes := by
        rw [Dev.portBody, statusOf_single, List.flatMap_cons, List.flatMap_nil, List.append_nil, ho]
        rfl
      have hrun' := hrun.trans (Dev.finishRequest_port (o := { o with answers := [a] }) hspi hwindow hdups hloud)
      obtain ⟨hresponse, hcount, hframe⟩ := Dev.portAnswered_counted hrun'
      refine ⟨_, gives_of_upd (requestReceive q) rfl rfl, hresponse.trans (congrArg some hbody), hcount, ?_⟩
      rwa [← hnet]
    · have hok' : statusOf [a] = .ok := by rwa [statusOf_single]
      have hrun' := hrun.trans (Dev.finishRequest_quiet (o := { o with answers := [a] }) hspi hwindow (hquiet.trans hq) hok')
      refine ⟨_, gives_of_upd (requestReceive q) rfl hrun', Dev.counters_countReq { e with req := s.dev.req } 0, ?_⟩
      rw [← hnet]
      rfl
  · rintro level high hs hf hr rfl rfl
    refine ⟨fun hp => ?_, fun b w hp hsrc hb hw => ⟨fun h h' => ?_, fun e h he => ⟨fun hd => ?_, fun full hd hloud hfull => ?_⟩⟩⟩
    · refine ⟨_, gives_of_upd (requestReceive q) rfl (requestReceive_poisoned hs hf hr hp), ?_⟩
      rw [← Dev.refusal_heard, ← Dev.counters_heard s.dev q.src.toNat]
      exact Dev.answered_network (Dev.heard_frame ..) (Dev.refuse_network hs _)
    · refine ⟨_, gives_of_upd (requestReceive q) rfl (requestReceive_stale hs hf hr hp hsrc hb hw h h'), ?_⟩
      obtain ⟨hresponse, hcounters, hframe⟩ := Dev.answered_network (s.dev.heard_countReq_frame ..)
        (Dev.refuse_network (d := (s.dev.heard q.src.toNat).countReq 4) hs .stale)
      rw [Dev.refusal_countReq, Dev.refusal_heard] at hresponse
      exact ⟨hresponse, (congrArg (tget 0 · 4) hcounters).trans (Dev.counters_countReq ..), hframe⟩
    · refine ⟨_, gives_of_upd (requestReceive q) rfl (requestReceive_conflict hs hf hr hp hsrc hb hw h he hd), ?_⟩
      rw [← Dev.refusal_heard, ← Dev.counters_heard s.dev q.src.toNat]
      exact Dev.answered_network (Dev.heard_frame ..) (Dev.refuse_network hs _)
    · refine ⟨_, gives_of_upd (requestReceive q) rfl (requestReceive_duplicate hs hf hr hp hsrc hb hw h he hd hloud), ?_⟩
      obtain ⟨hresponse, hcounters, hframe⟩ := Dev.answered_network (s.dev.heard_countReq_frame ..)
        ((s.dev.heard q.src.toNat).answerFromCache_network q.src.toNat q.cls.toNat q.planeB hfull)
      rw [Dev.windowHigh_heard] at hresponse
      exact ⟨hresponse, (congrArg (tget 0 · 1) hcounters).trans (Dev.counters_countReq ..), hframe⟩

end Sys2Proof.Machine
end

section
/-! Objects written and described (R317 to R330): the checks of a write, the settings that keep a number of their range, parts. -/

namespace Sys2Proof.Machine

/-! ## Numbers of a type (R317) -/

/-- Least number of a type, and the first beyond it. -/
def ObjTy.low (t : ObjTy) : Int := if t.isSigned then -(2 ^ (8 * t.most - 1)) else 0
def ObjTy.top (t : ObjTy) : Int := if t.isSigned then 2 ^ (8 * t.most - 1) else 2 ^ (8 * t.most)

section
variable {t : ObjTy}

theorem valueBytes_num {n : Int} (ht : t.code ≤ 9) (hlow : t.low ≤ n) (htop : n < t.top) : valueBytes (.num n) t = some (t.encode n) :=
  if_pos ⟨ht, hlow, htop⟩

theorem valueBytes_outside {n : Int} (h : n < t.low ∨ t.top ≤ n) : valueBytes (.num n) t = none :=
  if_neg fun ⟨_, hlow, htop⟩ => h.elim (fun h => absurd hlow (not_le.2 h)) (fun h => absurd htop (not_lt.2 h))

theorem ObjTy.length_encode (t : ObjTy) (n : Int) : (t.encode n).length = t.most := be_length ..

theorem pow_256 (k : Nat) : 256 ^ k = 2 ^ (8 * k) := by rw [pow_mul]; norm_num

/-- A number below the type's top is read back from its bytes. -/
theorem ObjTy.ofBe_encode {v : Nat} (h : v < 2 ^ (8 * t.most)) : ofBe (t.encode v) = v := by
  have hcode : Machine.code (8 * t.most) v = v := by
    rw [Machine.code]
    have : ((v : Int) % 2 ^ (8 * t.most)) = ((v % 2 ^ (8 * t.most) : Nat) : Int) := by push_cast; rfl
    rw [this, Int.toNat_natCast, Nat.mod_eq_of_lt h]
  rw [ObjTy.encode, hcode, ofBe_be, pow_256, Nat.mod_eq_of_lt h]

/-- A signed number of the type is read back from its bytes. -/
theorem ObjTy.signed_encode {n : Int} (ht : t.isSigned = true) (hmost : 0 < t.most) (hlow : t.low ≤ n) (htop : n < t.top) :
    signed (8 * t.most) (ofBe (t.encode n)) = n := by
  rw [ObjTy.low, if_pos ht] at hlow
  rw [ObjTy.top, if_pos ht] at htop
  rw [ObjTy.encode, ofBe_be, pow_256]
  exact signed_code (by omega) hlow htop

end

/-! ## A row that keeps a number of its range -/

/-- A row keeps the setting's number: within the range it is taken and read, outside it is refused. -/
structure ObjRow.Keeps (r : ObjRow) (p : Setting) : Prop where
  fixed : r.ty.least = r.ty.most
  number : r.ty.code ≤ 9
  low : r.ty.low ≤ p.low
  top : p.high < r.ty.top
  bool : r.ty.code = 1 → p.low = 0 ∧ p.high = 1
  accepts : ∀ src x n (d : Dev), r.sel = none ∨ r.selFrom ≤ x → r.isIdle d x = true → p.low ≤ n → n ≤ p.high →
    r.write src x (r.ty.encode n) d = (.now .ok, { d with cfg := p.put x n d.cfg })
  reads : ∀ x n (d : Dev), r.sel = none ∨ r.selFrom ≤ x → p.low ≤ n → n ≤ p.high → r.read { d with cfg := p.put x n d.cfg } x = .num n
  refuses : r.ty.code ≠ 1 → ∀ src x n (d : Dev), r.isIdle d x = true → r.ty.low ≤ n → n < r.ty.top → n < p.low ∨ p.high < n →
    r.write src x (r.ty.encode n) d = (.now .invalid, d)

/-- The dictionary has a row that keeps the setting. -/
def Setting.Kept (p : Setting) : Prop := ∃ r, rowOf p.idx p.sub = some r ∧ r.Keeps p

section
variable {r : ObjRow} {p : Setting}

/-- A row of an unsigned number from a to b. -/
theorem ObjRow.Keeps.unsigned {f : Nat → Nat → Dev → Resp × Dev} (a b : Nat) (hw : r.write = wrN f)
    (haccepts : ∀ x v (d : Dev), r.isIdle d x = true → a ≤ v → v ≤ b → f x v d = (.ok, { d with cfg := p.put x v d.cfg }))
    (hrefuses : ∀ x v (d : Dev), r.isIdle d x = true → v < 2 ^ (8 * r.ty.most) → v < a ∨ b < v → f x v d = (.invalid, d))
    (hreads : ∀ x (v : Nat) (d : Dev), v ≤ b → r.read { d with cfg := p.put x v d.cfg } x = .num v)
    (hty : r.ty.least = r.ty.most ∧ 1 < r.ty.code ∧ r.ty.code ≤ 5 ∧ p.low = a ∧ p.high = b ∧ b < 2 ^ (8 * r.ty.most) := by decide) :
    r.Keeps p := by
  obtain ⟨hfixed, hcode, hcode', hlow, hhigh, hb⟩ := hty
  have hunsigned : r.ty.isSigned = false := by
    rw [ObjTy.isSigned, Bool.and_eq_false_iff]
    exact .inl (decide_eq_false (by omega))
  have htlow : r.ty.low = 0 := by
    rw [ObjTy.low, hunsigned]
    rfl
  have httop : r.ty.top = ((2 ^ (8 * r.ty.most) : Nat) : Int) := by
    rw [ObjTy.top, hunsigned]
    push_cast
    rfl
  refine ⟨hfixed, by omega, by omega, by rw [httop, hhigh]; exact_mod_cast hb, by omega, fun src x n d _ hidle hn hn' => ?_,
    fun x n d _ hn hn' => ?_, fun _ src x n d hidle hn hn' hout => ?_⟩
  · obtain ⟨v, rfl⟩ := Int.eq_ofNat_of_zero_le (show 0 ≤ n by omega)
    rw [hw, wrN, ObjTy.ofBe_encode (by omega), haccepts x v d hidle (by omega) (by omega)]
    rfl
  · obtain ⟨v, rfl⟩ := Int.eq_ofNat_of_zero_le (show 0 ≤ n by omega)
    exact hreads x v d (by omega)
  · obtain ⟨v, rfl⟩ := Int.eq_ofNat_of_zero_le (show 0 ≤ n by omega)
    have hv : v < 2 ^ (8 * r.ty.most) := by
      rw [httop] at hn'
      exact_mod_cast hn'
    rw [hw, wrN, ObjTy.ofBe_encode hv, hrefuses x v d hidle hv (by omega)]
    rfl

/-- A row of an unsigned number that takes every value of its type. -/
theorem ObjRow.Keeps.every {f : Nat → Nat → Dev → Resp × Dev} (b : Nat) (hw : r.write = wrN f)
    (haccepts : ∀ x v (d : Dev), r.isIdle d x = true → f x v d = (.ok, { d with cfg := p.put x v d.cfg }))
    (hreads : ∀ x (v : Nat) (d : Dev), v ≤ b → r.read { d with cfg := p.put x v d.cfg } x = .num v)
    (hty : r.ty.least = r.ty.most ∧ 1 < r.ty.code ∧ r.ty.code ≤ 5 ∧ p.low = (0 : Nat) ∧ p.high = b ∧ b + 1 = 2 ^ (8 * r.ty.most) := by
      decide) : r.Keeps p := by
  obtain ⟨hfixed, hcode, hcode', hlow, hhigh, hb⟩ := hty
  exact .unsigned 0 b hw (fun x v d hidle _ _ => haccepts x v d hidle) (fun _ _ _ _ _ _ => by omega) hreads
    ⟨hfixed, hcode, hcode', hlow, hhigh, by omega⟩

/-- A row of an unsigned number that takes every value of its type from a on. -/
theorem ObjRow.Keeps.above {f : Nat → Nat → Dev → Resp × Dev} (a b : Nat) (hw : r.write = wrN f)
    (haccepts : ∀ x v (d : Dev), r.isIdle d x = true → a ≤ v → f x v d = (.ok, { d with cfg := p.put x v d.cfg }))
    (hrefuses : ∀ x v (d : Dev), r.isIdle d x = true → v < a → f x v d = (.invalid, d))
    (hreads : ∀ x (v : Nat) (d : Dev), v ≤ b → r.read { d with cfg := p.put x v d.cfg } x = .num v)
    (hty : r.ty.least = r.ty.most ∧ 1 < r.ty.code ∧ r.ty.code ≤ 5 ∧ p.low = a ∧ p.high = b ∧ b + 1 = 2 ^ (8 * r.ty.most) := by decide) :
    r.Keeps p := by
  obtain ⟨hfixed, hcode, hcode', hlow, hhigh, hb⟩ := hty
  exact .unsigned a b hw (fun x v d hidle hv _ => haccepts x v d hidle hv) (fun x v d hidle _ _ => hrefuses x v d hidle (by omega)) hreads
    ⟨hfixed, hcode, hcode', hlow, hhigh, by omega⟩

/-- A row of a signed number. -/
theorem ObjRow.Keeps.twos {f : Nat → Int → Dev → Resp × Dev} (hw : r.write = wrI (8 * r.ty.most) f)
    (haccepts : ∀ x n (d : Dev), r.isIdle d x = true → p.low ≤ n → n ≤ p.high → f x n d = (.ok, { d with cfg := p.put x n d.cfg }))
    (hrefuses : ∀ x n (d : Dev), r.isIdle d x = true → r.ty.low ≤ n → n < r.ty.top → n < p.low ∨ p.high < n → f x n d = (.invalid, d))
    (hreads : ∀ x n (d : Dev), r.read { d with cfg := p.put x n d.cfg } x = .num n)
    (hty : r.ty.least = r.ty.most ∧ 6 ≤ r.ty.code ∧ r.ty.code ≤ 9 ∧ 0 < r.ty.most ∧ r.ty.low ≤ p.low ∧ p.high < r.ty.top := by decide) :
    r.Keeps p := by
  obtain ⟨hfixed, hcode, hcode', hmost, hlow, htop⟩ := hty
  have hsigned : r.ty.isSigned = true := by
    rw [ObjTy.isSigned, Bool.and_eq_true]
    exact ⟨decide_eq_true hcode, decide_eq_true hcode'⟩
  refine ⟨hfixed, hcode', hlow, htop, by omega, fun src x n d _ hidle hn hn' => ?_, fun x n d _ _ _ => hreads x n d,
    fun _ src x n d hidle hn hn' hout => ?_⟩
  · rw [hw, wrI, ObjTy.signed_encode hsigned hmost (by omega) (by omega), haccepts x n d hidle hn hn']
    rfl
  · rw [hw, wrI, ObjTy.signed_encode hsigned hmost hn hn', hrefuses x n d hidle hn hn' hout]
    rfl

/-- A row of a BOOL. -/
theorem ObjRow.Keeps.flag {f : Nat → Bool → Dev → Resp × Dev} (hw : r.write = wrB f)
    (haccepts : ∀ x b (d : Dev), r.sel = none ∨ r.selFrom ≤ x → f x b d = (.ok, { d with cfg := p.put x (ofBool b) d.cfg }))
    (hreads : ∀ x b (d : Dev), r.sel = none ∨ r.selFrom ≤ x → r.read { d with cfg := p.put x (ofBool b) d.cfg } x = .num (ofBool b))
    (hty : r.ty = Ty.bool ∧ p.low = 0 ∧ p.high = 1 := by decide) : r.Keeps p := by
  obtain ⟨hty, hlow, hhigh⟩ := hty
  have hbit : ∀ n : Int, p.low ≤ n → n ≤ p.high → ∃ b : Bool, n = ofBool b := fun n hn hn' => by
    obtain rfl | rfl : n = 0 ∨ n = 1 := by omega
    · exact ⟨false, rfl⟩
    · exact ⟨true, rfl⟩
  have hwrite : ∀ b, (decide (ofBe (r.ty.encode (ofBool b : Nat)) = 1)) = b := fun b => by
    rw [hty]
    cases b <;> decide
  refine ⟨by rw [hty]; rfl, by rw [hty]; decide, by rw [hty, hlow]; decide, by rw [hty, hhigh]; decide, fun _ => ⟨hlow, hhigh⟩,
    fun src x n d hx _ hn hn' => ?_, fun x n d hx hn hn' => ?_, fun h => absurd (by rw [hty]; rfl) h⟩
  · obtain ⟨b, rfl⟩ := hbit n hn hn'
    rw [hw, wrB, hwrite b, haccepts x b d hx]
    rfl
  · obtain ⟨b, rfl⟩ := hbit n hn hn'
    exact hreads x b d hx

end

/-! ## The 53 settings -/

/-- What a row reads after a write of a word's number. -/
theorem reads_word {w v b : Nat} (h : v ≤ b) (hb : b < 2 ^ w) : ObjOut.num (BitVec.ofNat w (v : Int).toNat).toNat = .num v := by
  rw [Int.toNat_natCast, BitVec.toNat_ofNat, Nat.mod_eq_of_lt (by omega)]

theorem reads_tget {t : Tab Nat} {u x v : Nat} : ObjOut.num (tget u (tset u t x v) x : Nat) = .num v := by
  rw [tget_tset_same]

theorem reads_tfind {t : Tab Nat} {u x v : Nat} : ObjOut.num ((tfind (tins t x v) x).getD u : Nat) = .num v := by
  rw [tfind_tins, if_pos rfl]
  rfl

theorem reads_flag {t : Tab Bool} {u : Bool} {x : Nat} (b : Bool) :
    ObjOut.num (ofBool (tget u (tset u t x (decide (((ofBool b : Nat) : Int) = 1))) x) : Nat) = .num (ofBool b) := by
  rw [tget_tset_same]
  cases b <;> rfl

theorem not_busy {b : Bool} (h : b = true) : ¬ (!b) = true := by simp [h]

theorem not_outside {a b n : Int} (h : a ≤ n) (h' : n ≤ b) : ¬ (n < a ∨ b < n) := by omega

theorem within_true {a b v : Nat} (h : a ≤ v) (h' : v ≤ b) : (decide (a ≤ v) && decide (v ≤ b)) = true := by simp [h, h']

theorem within_false {a b v : Nat} (h : v < a ∨ b < v) : (decide (a ≤ v) && decide (v ≤ b)) = false := by
  rw [Bool.and_eq_false_iff]
  exact h.imp (fun h => decide_eq_false (by omega)) (fun h => decide_eq_false (by omega))

section
variable {d : Dev} {ok : Bool} {f : TraceCfg → TraceCfg} (hidle : d.traceIdle = true)
include hidle

theorem Dev.traceSet_takes (h : ok = true) : d.traceSet ok f = (.ok, d.setTraceCfg f) :=
  (if_neg (not_busy hidle)).trans (if_neg (not_busy h))

theorem Dev.traceSet_refuses (h : ok = false) : d.traceSet ok f = (.invalid, d) :=
  (if_neg (not_busy hidle)).trans (if_pos (by rw [h]; rfl))

end

/-- Identity and time. -/
theorem plainIdentity_kept : ∀ p ∈ plainIdentity, p.Kept := by
  simp only [plainIdentity, List.forall_mem_cons]
  exact ⟨
    -- SYSTEM_ID
    ⟨_, rfl, .every 4294967295 rfl (fun _ _ _ _ => rfl) (fun _ _ _ h => reads_word h (by decide))⟩,
    -- DOMAIN_ID
    ⟨_, rfl, .every 65535 rfl (fun _ _ _ _ => rfl) (fun _ _ _ h => reads_word h (by decide))⟩,
    -- SYNC_LOG2
    ⟨_, rfl, .twos rfl (fun _ _ _ _ h h' => if_neg (not_outside h h')) (fun _ _ _ _ _ _ h => if_pos h) (fun _ _ _ => rfl)⟩,
    -- DELAY_REQ_LOG2
    ⟨_, rfl, .twos rfl (fun _ _ _ _ h h' => if_neg (not_outside h h')) (fun _ _ _ _ _ _ h => if_pos h) (fun _ _ _ => rfl)⟩,
    -- HOLDOVER_LIMIT
    ⟨_, rfl, .unsigned 0 60000 rfl (fun _ _ _ _ _ _ => if_neg (by omega)) (fun _ _ _ _ _ _ => if_pos (by omega))
      (fun _ _ _ _ => rfl)⟩,
    -- ASYM_TRIM
    ⟨_, rfl, .twos rfl (fun _ _ _ _ h h' => if_neg (not_outside h h')) (fun _ _ _ _ _ _ h => if_pos h)
      (fun _ _ _ => congrArg ObjOut.num (tget_tset_same ..))⟩,
    -- TICK_OUT_DIV
    ⟨_, rfl, .every 65535 rfl (fun _ _ _ _ => rfl) (fun _ _ _ _ => rfl)⟩,
    -- SNAP_IN_ENABLE
    ⟨_, rfl, .flag rfl (fun _ b _ _ => by cases b <;> rfl) (fun _ b _ _ => by cases b <;> rfl)⟩,
    -- SNAP_LOCK
    ⟨_, rfl, .flag rfl (fun _ b _ _ => by cases b <;> rfl) (fun _ b _ _ => by cases b <;> rfl)⟩,
    fun _ h => absurd h List.not_mem_nil⟩

/-- Links and traffic. -/
theorem plainLinks_kept : ∀ p ∈ plainLinks, p.Kept := by
  simp only [plainLinks, List.forall_mem_cons]
  exact ⟨
    -- LANE_RATE
    ⟨_, rfl, .unsigned 0 1 rfl (fun _ _ _ _ _ _ => if_neg (by omega)) (fun _ _ _ _ _ _ => if_pos (by omega))
      (fun _ _ _ _ => reads_tfind)⟩,
    -- ETHERTYPE
    ⟨_, rfl, .every 65535 rfl (fun _ _ _ _ => rfl) (fun _ _ _ _ => rfl)⟩,
    -- HELLO_PERIOD
    ⟨_, rfl, .unsigned 100 10000 rfl (fun _ _ _ _ _ _ => if_neg (by omega)) (fun _ _ _ _ _ _ => if_pos (by omega))
      (fun _ _ _ _ => rfl)⟩,
    -- DOMAIN_BASE
    ⟨_, rfl, .every 65535 rfl (fun _ _ _ _ => rfl) (fun _ _ _ _ => rfl)⟩,
    -- DOMAIN_SIZE
    ⟨_, rfl, .every 65535 rfl (fun _ _ _ _ => rfl) (fun _ _ _ _ => rfl)⟩,
    -- SPARE_ADDRESSES
    ⟨_, rfl, .every 65535 rfl (fun _ _ _ _ => rfl) (fun _ _ _ _ => rfl)⟩,
    -- METER_ENABLE
    ⟨_, rfl, .flag rfl
      (fun _ b _ hx => (if_neg (Nat.one_le_iff_ne_zero.1 (hx.resolve_left (by decide)))).trans (by cases b <;> rfl))
      (fun _ b _ hx => (if_neg (Nat.one_le_iff_ne_zero.1 (hx.resolve_left (by decide)))).trans (reads_flag b))⟩,
    fun _ h => absurd h List.not_mem_nil⟩

/-- Arrays, loops and calibration. -/
theorem plainArrays_kept : ∀ p ∈ plainArrays, p.Kept := by
  simp only [plainArrays, List.forall_mem_cons]
  exact ⟨
    -- ZONE_NOM_RES
    ⟨_, rfl, .above 1 4294967295 rfl (fun _ _ _ _ _ => if_neg (by omega)) (fun _ _ _ _ _ => if_pos (by omega))
      (fun _ _ _ _ => reads_tget)⟩,
    -- ZONE_BETA
    ⟨_, rfl, .above 1 65535 rfl (fun _ _ _ _ _ => if_neg (by omega)) (fun _ _ _ _ _ => if_pos (by omega))
      (fun _ _ _ _ => reads_tget)⟩,
    -- ZONE_FALLBACK
    ⟨_, rfl, .unsigned 0 15 rfl (fun _ _ _ _ _ _ => if_neg (by omega)) (fun _ _ _ _ _ _ => if_pos (by omega))
      (fun _ _ _ _ => reads_tfind)⟩,
    -- OFFSET_TRIM
    ⟨_, rfl, .twos rfl (fun _ _ _ h _ _ => if_neg (not_busy h))
      (fun _ n _ _ h h' hout => absurd hout (not_outside h (Int.le_of_lt_add_one h'))) (fun _ _ _ => congrArg ObjOut.num (tget_tset_same ..))⟩,
    -- GAIN_TRIM
    ⟨_, rfl, .twos rfl (fun _ _ _ h _ _ => if_neg (not_busy h))
      (fun _ n _ _ h h' hout => absurd hout (not_outside h (Int.le_of_lt_add_one h'))) (fun _ _ _ => congrArg ObjOut.num (tget_tset_same ..))⟩,
    -- CONTENTION_LIMIT
    ⟨_, rfl, .unsigned 50 2000 rfl (fun _ _ _ _ _ _ => if_neg (by omega)) (fun _ _ _ _ _ _ => if_pos (by omega))
      (fun _ _ _ _ => rfl)⟩,
    -- SETTLE_ENTRY
    ⟨_, rfl, .unsigned 1 63 rfl (fun _ _ _ _ _ _ => if_neg (by omega)) (fun _ _ _ _ _ _ => if_pos (by omega)) (fun _ _ _ _ => rfl)⟩,
    -- TRACE_NODES
    ⟨_, rfl, .every 18446744073709551615 rfl (fun _ _ _ h => Dev.traceSet_takes h rfl) (fun _ _ _ h => reads_word h (by decide))⟩,
    -- TRACE_MODE
    ⟨_, rfl, .unsigned 0 1 rfl (fun _ _ _ h _ _ => Dev.traceSet_takes h (decide_eq_true (by omega)))
      (fun _ _ _ h _ _ => Dev.traceSet_refuses h (decide_eq_false (by omega))) (fun _ _ _ _ => rfl)⟩,
    -- TRACE_POST
    ⟨_, rfl, .every 65535 rfl (fun _ _ _ h => Dev.traceSet_takes h rfl) (fun _ _ _ _ => rfl)⟩,
    -- TRACE_DECIMATE
    ⟨_, rfl, .unsigned 1 256 rfl (fun _ _ _ h hv hv' => Dev.traceSet_takes h (within_true hv hv'))
      (fun _ _ _ h _ hv => Dev.traceSet_refuses h (within_false hv)) (fun _ _ _ _ => rfl)⟩,
    -- TRACE_TRIGGER
    ⟨_, rfl, .unsigned 0 63 rfl (fun _ _ _ h _ _ => Dev.traceSet_takes h (decide_eq_true (by omega)))
      (fun _ _ _ h _ _ => Dev.traceSet_refuses h (decide_eq_false (by omega))) (fun _ _ _ h => reads_word h (by decide))⟩,
    -- ENTRY_SLEW
    ⟨_, rfl, .above 2 255 rfl (fun _ _ _ _ _ => if_neg (by omega)) (fun _ _ _ _ _ => if_pos (by omega)) (fun _ _ _ _ => rfl)⟩,
    -- CAL_DRIFT_OFFSET
    ⟨_, rfl, .every 65535 rfl (fun _ _ _ _ => rfl) (fun _ _ _ _ => rfl)⟩,
    -- CAL_DRIFT_GAIN
    ⟨_, rfl, .every 65535 rfl (fun _ _ _ _ => rfl) (fun _ _ _ _ => rfl)⟩,
    -- REFIT_WINDOW
    ⟨_, rfl, .unsigned 1024 16384 rfl (fun _ _ _ _ _ _ => if_neg (by omega)) (fun _ _ _ _ _ _ => if_pos (by omega))
      (fun _ _ _ _ => rfl)⟩,
    -- REFIT_A0_MAX
    ⟨_, rfl, .every 255 rfl (fun _ _ _ _ => rfl) (fun _ _ _ _ => rfl)⟩,
    -- REFIT_DEADBAND
    ⟨_, rfl, .every 255 rfl (fun _ _ _ _ => rfl) (fun _ _ _ _ => rfl)⟩,
    -- REFIT_SLOPE_TOL
    ⟨_, rfl, .every 255 rfl (fun _ _ _ _ => rfl) (fun _ _ _ _ => rfl)⟩,
    fun _ h => absurd h List.not_mem_nil⟩

/-- Circuits, labels, memory, tower and events. -/
theorem plainCircuits_kept : ∀ p ∈ plainCircuits, p.Kept := by
  simp only [plainCircuits, List.forall_mem_cons]
  exact ⟨
    -- FABRIC_LENGTH
    ⟨_, rfl, .unsigned 0 524288 rfl (fun _ _ _ _ _ _ => if_neg (by omega)) (fun _ _ _ _ _ _ => if_pos (by omega))
      (fun _ _ _ _ => rfl)⟩,
    -- REJECT_STALE
    ⟨_, rfl, .flag rfl (fun _ b _ _ => by cases b <;> rfl) (fun _ b _ _ => by cases b <;> rfl)⟩,
    -- VERIFY_ENABLE
    ⟨_, rfl, .flag rfl (fun _ b _ _ => by cases b <;> rfl) (fun _ b _ _ => by cases b <;> rfl)⟩,
    -- VERIFY_TIMEOUT
    ⟨_, rfl, .unsigned 250 2000 rfl (fun _ _ _ _ _ _ => if_neg (by omega)) (fun _ _ _ _ _ _ => if_pos (by omega))
      (fun _ _ _ _ => rfl)⟩,
    -- MIN_LEVEL
    ⟨_, rfl, .every 65535 rfl (fun _ _ _ _ => rfl) (fun _ _ _ _ => rfl)⟩,
    -- LEARN_MODE
    ⟨_, rfl, .unsigned 0 1 rfl (fun _ _ _ _ _ _ => if_neg (by omega)) (fun _ _ _ _ _ _ => if_pos (by omega)) (fun _ _ _ _ => rfl)⟩,
    -- CE_THRESHOLD
    ⟨_, rfl, .every 65535 rfl (fun _ _ _ _ => rfl) (fun _ _ _ _ => reads_tget)⟩,
    -- CE_LEAK_INTERVAL
    ⟨_, rfl, .unsigned 1 60000 rfl (fun _ _ _ _ hv hv' => if_pos (within_true hv hv'))
      (fun _ _ _ _ _ hv => if_neg (Bool.not_eq_true _ ▸ within_false hv)) (fun _ _ _ _ => rfl)⟩,
    -- SCRUB_RATE
    ⟨_, rfl, .unsigned 1 16384 rfl (fun _ _ _ _ hv hv' => if_pos (within_true hv hv'))
      (fun _ _ _ _ _ hv => if_neg (Bool.not_eq_true _ ▸ within_false hv)) (fun _ _ _ _ => rfl)⟩,
    -- SCRUB_AUTO
    ⟨_, rfl, .flag rfl (fun _ b _ _ => by cases b <;> rfl) (fun _ b _ _ => by cases b <;> rfl)⟩,
    -- REPAIR_AUTO
    ⟨_, rfl, .flag rfl (fun _ b _ _ => by cases b <;> rfl) (fun _ b _ _ => by cases b <;> rfl)⟩,
    -- REPAIR_THRESHOLD
    ⟨_, rfl, .above 1 255 rfl (fun _ _ _ _ _ => if_pos (decide_eq_true (by omega)))
      (fun _ _ _ _ _ => if_neg (by rw [decide_eq_true_eq]; omega)) (fun _ _ _ _ => rfl)⟩,
    -- CLAIM_RANK
    ⟨_, rfl, .every 255 rfl (fun _ _ _ _ => rfl) (fun _ _ _ _ => rfl)⟩,
    -- CHECKPOINT_ENABLE
    ⟨_, rfl, .flag rfl (fun _ b _ _ => by cases b <;> rfl) (fun _ b _ _ => by cases b <;> rfl)⟩,
    -- FRESH_LIMIT
    ⟨_, rfl, .unsigned 64 16384 rfl (fun _ _ _ _ _ _ => if_neg (by omega)) (fun _ _ _ _ _ _ => if_pos (by omega))
      (fun _ _ _ _ => rfl)⟩,
    -- EVENT_DEST
    ⟨_, rfl, .every 65535 rfl (fun _ _ _ _ => rfl) (fun _ _ _ h => reads_word h (by decide))⟩,
    -- IRQ_LEVEL
    ⟨_, rfl, .unsigned 0 3 rfl (fun _ _ _ _ _ _ => if_pos (decide_eq_true (by omega)))
      (fun _ _ _ _ _ _ => if_neg (by rw [decide_eq_true_eq]; omega)) (fun _ _ _ _ => rfl)⟩,
    -- EVENT_SUPPRESS_LIMIT
    ⟨_, rfl, .above 1 255 rfl (fun _ _ _ _ _ => if_pos (decide_eq_true (by omega)))
      (fun _ _ _ _ _ => if_neg (by rw [decide_eq_true_eq]; omega)) (fun _ _ _ _ => rfl)⟩,
    fun _ h => absurd h List.not_mem_nil⟩

theorem plainSettings_kept (p : Setting) (hp : p ∈ plainSettings) : p.Kept := by
  simp only [plainSettings, List.mem_append] at hp
  obtain ((hp | hp) | hp) | hp := hp
  · exact plainIdentity_kept p hp
  · exact plainLinks_kept p hp
  · exact plainArrays_kept p hp
  · exact plainCircuits_kept p hp

/-- A number of a type is a value of it, unless it is a BOOL above 1. -/
theorem ObjTy.takes_encode {t : ObjTy} {n : Int} (hfixed : t.least = t.most) (hcode : t.code ≤ 9) (hlow : t.low ≤ n) (htop : n < t.top) :
    t.takes (t.encode n) = true ↔ (t.code = 1 → n ≤ 1) := by
  have hbool : t.code = 1 → (ofBe (t.encode n) ≤ 1 ↔ n ≤ 1) := fun h1 => by
    have hunsigned : t.isSigned = false := by rw [ObjTy.isSigned, h1]; rfl
    rw [ObjTy.low, if_neg (by rw [hunsigned]; decide)] at hlow
    rw [ObjTy.top, if_neg (by rw [hunsigned]; decide)] at htop
    obtain ⟨v, rfl⟩ := Int.eq_ofNat_of_zero_le hlow
    rw [ObjTy.ofBe_encode (by exact_mod_cast htop)]
    omega
  have h11 : t.code ≠ 11 := by omega
  have h12 : t.code ≠ 12 := by omega
  simp only [ObjTy.takes, ObjTy.length_encode, hfixed, le_refl, decide_true, Bool.true_and, Bool.and_eq_true, Bool.or_eq_true,
    decide_eq_true_eq, h11, h12, ne_eq, not_false_eq_true, true_or, and_true]
  exact ⟨fun h h1 => (hbool h1).1 (h.resolve_left (not_not.2 h1)),
    fun h => or_iff_not_imp_left.2 fun h1 => (hbool (not_not.1 h1)).2 (h (not_not.1 h1))⟩

/-! ## The checks of a write (R327) -/

section
variable {d : Dev} {idx sub x : Nat} {sel : Option Nat} {r : ObjRow}

/-- An object that is named stands in the dictionary, and its selector is one of its range. -/
theorem Dev.named_row (h : d.named idx sub sel = .ok (r, x)) : rowOf idx sub = some r ∧ (r.sel = none ∨ r.selFrom ≤ x) := by
  unfold Dev.named at h
  cases hrow : rowOf idx sub with
  | none =>
    rw [hrow] at h
    exact absurd h (by simp)
  | some r' =>
    rw [hrow] at h
    dsimp only at h
    split at h
    · exact absurd h (by simp)
    · split at h
      · obtain ⟨rfl, -⟩ := Prod.mk.inj (Except.ok.inj h)
        exact ⟨rfl, .inl ‹_›⟩
      · split at h
        · rename_i hin
          obtain ⟨rfl, rfl⟩ := Prod.mk.inj (Except.ok.inj h)
          exact ⟨rfl, .inr hin.1⟩
        · exact absurd h (by simp)
      · exact absurd h (by simp)

theorem Dev.writeTarget_named {level : Nat} {link : Bool} (h : d.writeTarget level link idx sub sel = .ok (r, x)) :
    d.named idx sub sel = .ok (r, x) := by
  unfold Dev.writeTarget at h
  cases hnamed : d.named idx sub sel with
  | error e =>
    rw [hnamed] at h
    exact absurd h (by simp)
  | ok p =>
    rw [hnamed] at h
    dsimp only at h
    split at h
    · exact absurd h (by simp)
    · split at h
      · exact absurd h (by simp)
      · exact h

end

section
variable {r : ObjRow} {src x : Nat} {w : List Byte} {d : Dev}

theorem ObjRow.put_untyped (h : r.ty.takes w = false) : r.put src x w d = (.now .invalid, d) := if_pos (by rw [h]; rfl)

theorem ObjRow.put_busy (h : r.ty.takes w = true) (hi : r.isIdle d x = false) : r.put src x w d = (.now .conflict, d) :=
  (if_neg (by rw [h]; decide)).trans (if_pos (by rw [hi]; rfl))

theorem ObjRow.put_writes (h : r.ty.takes w = true) (hi : r.isIdle d x = true) : r.put src x w d = r.write src x w d :=
  (if_neg (by rw [h]; decide)).trans (if_neg (by rw [hi]; decide))

end

section
variable {level : Nat} {obj : ObjRef} {v : ObjVal} {d e : Dev} {r : ObjRow} {x : Nat} {c : Resp}

theorem registerWrite_error (h : d.writeTarget level false obj.index.toNat obj.sub.toNat (obj.sel.map BitVec.toNat) = .error c) :
    registerWrite level obj v d = d.reply c := by
  rw [registerWrite, h]

variable (h : d.writeTarget level false obj.index.toNat obj.sub.toNat (obj.sel.map BitVec.toNat) = .ok (r, x))
include h

theorem registerWrite_untyped (hv : valueBytes v r.ty = none) : registerWrite level obj v d = d.reply .invalid := by
  rw [registerWrite, h]
  dsimp only
  rw [hv]

section
variable {w : List Byte} (hv : valueBytes v r.ty = some w)
include hv

theorem registerWrite_now (hw : r.put 0 x w d = (.now c, e)) : registerWrite level obj v d = e.reply c := by
  rw [registerWrite, h]
  dsimp only
  rw [hv]
  dsimp only
  rw [hw]
  rfl

theorem registerWrite_later {y : WaitFor} (hw : r.put 0 x w d = (.later y, e)) (hy : e.awaits y = true) :
    registerWrite level obj v d = e := by
  rw [registerWrite, h]
  dsimp only
  rw [hv]
  dsimp only
  rw [hw]
  dsimp only [Dev.settled]
  rw [if_pos hy]
  rfl

end

section
variable {p : Setting} (hp : r.Keeps p) (hidle : r.isIdle d x = true) {n : Int}
include hp hidle

theorem registerWrite_keeps (hx : r.sel = none ∨ r.selFrom ≤ x) (hn : p.low ≤ n) (hn' : n ≤ p.high) :
    registerWrite level obj (.num n) d = Dev.reply { d with cfg := p.put x n d.cfg } .ok := by
  have hlow : r.ty.low ≤ n := hp.low.trans hn
  have htop : n < r.ty.top := hn'.trans_lt hp.top
  have htakes : r.ty.takes (r.ty.encode n) = true :=
    (ObjTy.takes_encode hp.fixed hp.number hlow htop).2 fun h1 => (hp.bool h1).2 ▸ hn'
  exact registerWrite_now h (valueBytes_num hp.number hlow htop)
    ((ObjRow.put_writes htakes hidle).trans (hp.accepts 0 x n d hx hidle hn hn'))

theorem registerWrite_outside (hn : n < p.low ∨ p.high < n) : registerWrite level obj (.num n) d = d.reply .invalid := by
  by_cases hout : n < r.ty.low ∨ r.ty.top ≤ n
  · exact registerWrite_untyped h (valueBytes_outside hout)
  obtain ⟨hlow, htop⟩ : r.ty.low ≤ n ∧ n < r.ty.top := by omega
  have hv := valueBytes_num hp.number hlow htop
  cases htakes : r.ty.takes (r.ty.encode n) with
  | false => exact registerWrite_now h hv (ObjRow.put_untyped htakes)
  | true =>
    refine registerWrite_now h hv ((ObjRow.put_writes htakes hidle).trans (hp.refuses (fun h1 => ?_) 0 x n d hidle hlow htop hn))
    have hone := (ObjTy.takes_encode hp.fixed hp.number hlow htop).1 htakes h1
    have hzero : r.ty.low = 0 := by
      rw [ObjTy.low, ObjTy.isSigned, h1]
      rfl
    obtain ⟨hplow, hphigh⟩ := hp.bool h1
    omega

end

end

theorem helloPeriod_kept : Setting.Kept ⟨0x3000, 0x0A, 100, 10000, fun _ v c => { c with net := { c.net with helloPeriod := v.toNat } }⟩ :=
  plainLinks_kept _ (.tail _ (.tail _ (.head _)))

/-- HELLO_PERIOD may be written at the level of its index, outside recovery. -/
theorem Dev.writeTarget_helloPeriod {d : Dev} {level : Nat} (hl : level ≤ min 1 (d.req.rights.range (rangeOf 0x3000)).2)
    (hp : d.boot.phase ≠ .recovery) : ∃ r, d.writeTarget level false 0x3000 0x0A none = .ok (r, 0)
      ∧ r.isIdle d 0 = true := by
  obtain ⟨r, hrow, hidx, hpriv, hacc, hsel, hidle⟩ : ∃ r, rowOf 0x3000 0x0A = some r ∧ r.idx = 0x3000 ∧ r.priv = 1
      ∧ r.acc.writable = true ∧ r.sel = none ∧ r.isIdle d 0 = true := ⟨_, rfl, rfl, rfl, rfl, rfl, rfl⟩
  have hoffers : d.offers r = true := by simp [Dev.offers, hp]
  have hnamed : d.named 0x3000 0x0A none = .ok (r, 0) := by
    rw [Dev.named, hrow]
    dsimp only
    rw [if_neg (not_busy hoffers), hsel]
  have howned : r.ownerless = false := by simp [ObjRow.ownerless, hidx]
  have hmay : d.mayWrite r level false = true := by
    rw [Dev.mayWrite, if_neg (by simp [hp]), if_neg (by simp [howned]), ObjRow.writeLevel, hidx, hpriv]
    exact decide_eq_true hl
  refine ⟨r, ?_, hidle⟩
  rw [Dev.writeTarget, hnamed]
  exact (if_neg (not_busy hacc)).trans (if_neg (not_busy hmay))

theorem describe_error {obj : ObjRef} {d : Dev} {e : Resp}
    (h : d.named obj.index.toNat obj.sub.toNat (obj.sel.map BitVec.toNat) = .error e) : describe obj d = d.replyWith (plainAnswer e) := by
  rw [describe, describeItem, h]

theorem describe_ok {obj : ObjRef} {d : Dev} {r : ObjRow} {x : Nat}
    (h : d.named obj.index.toNat obj.sub.toNat (obj.sel.map BitVec.toNat) = .ok (r, x)) :
    describe obj d = d.replyWith { code := .ok, ty := (Config.openType 16).toNat, value := r.description } := by
  rw [describe, describeItem, h]

/-! ## Values in parts (R330) -/

section
variable {src level off x : Nat} {obj : ObjRef} {b : List Byte} {more : Bool} {d : Dev} {r : ObjRow}

theorem domainPartWrite_error {e : Resp}
    (h : d.writeTarget level (decide (src ≠ 0)) obj.index.toNat obj.sub.toNat (obj.sel.map BitVec.toNat) = .error e) :
    domainPartWrite src level obj off b more d = d.reply e := by
  rw [domainPartWrite, writeItem, h]
  rfl

variable (h : d.writeTarget level (decide (src ≠ 0)) obj.index.toNat obj.sub.toNat (obj.sel.map BitVec.toNat) = .ok (r, x))
include h

theorem domainPartWrite_untyped (ht : r.ty.code ≠ 13) : domainPartWrite src level obj off b more d = d.reply .invalid := by
  rw [domainPartWrite, writeItem, h]
  dsimp only
  rw [if_pos ht.symm]
  rfl

variable (ht : r.ty.code = 13)
include ht

/-- A part is put with those that are held. -/
theorem domainPartWrite_part (hpart : isPart (d.heldParts src) obj off more = true) : domainPartWrite src level obj off b more d
    = Dev.answerNow ((partItem src r x obj off b more d).2.settled (partItem src r x obj off b more d).1,
      (partItem src r x obj off b more d).2) := by
  rw [domainPartWrite, writeItem, h]
  dsimp only
  rw [if_neg (not_not.2 ht.symm), putItem, if_pos hpart]

end

section
variable {src off x : Nat} {obj : ObjRef} {b : List Byte} {d : Dev} {r : ObjRow} {a : Assembly}
  (ha : (d.heldParts src).getD { src := src, obj := obj, bytes := [], at_ := 0 } = a)
include ha

theorem partItem_misplaced {more : Bool} (h : off ≠ a.bytes.length ∨ 2048 < (a.bytes ++ b).length) :
    partItem src r x obj off b more d = (.now .invalid, d.dropParts src) := by
  unfold partItem
  dsimp only
  rw [ha]
  exact if_pos (.inr (.inr h))

variable (ht : r.ty.code = 13) (hobj : a.obj = obj)
include ht hobj

variable (hoff : off = a.bytes.length) (hlen : (a.bytes ++ b).length ≤ 2048)
include hoff hlen

theorem partItem_fits (more : Bool) : partItem src r x obj off b more d = if more then
      if !r.isIdle d x then (.now .conflict, d)
      else (.now .ok, (d.dropParts src).setReq (fun q => { q with
        assembly := q.assembly ++ [{ src := src, obj := obj, bytes := a.bytes ++ b, at_ := d.mono }] }))
    else r.put src x (a.bytes ++ b) (d.dropParts src) := by
  unfold partItem
  dsimp only
  rw [ha]
  refine if_neg ?_
  rintro (h | h | h | h)
  · exact h ht
  · exact h hobj
  · exact h hoff
  · omega

theorem partItem_held (hi : r.isIdle d x = true) : partItem src r x obj off b true d = (.now .ok, (d.dropParts src).setReq (fun q => { q with
    assembly := q.assembly ++ [{ src := src, obj := obj, bytes := a.bytes ++ b, at_ := d.mono }] })) := by
  rw [partItem_fits ha ht hobj hoff hlen, if_pos rfl, if_neg (not_busy hi)]

theorem partItem_busy (hi : r.isIdle d x = false) : partItem src r x obj off b true d = (.now .conflict, d) := by
  rw [partItem_fits ha ht hobj hoff hlen, if_pos rfl, if_pos (by rw [hi]; rfl)]

theorem partItem_last : partItem src r x obj off b false d = r.put src x (a.bytes ++ b) (d.dropParts src) := by
  rw [partItem_fits ha ht hobj hoff hlen, if_neg (by decide)]

end

/-- Settles O42: the checks of a write in their order, the settings by the rows that keep them, the parts by what is held. -/
theorem objectCommands : Obligations.ObjectCommands := by
  unfold Obligations.ObjectCommands
  intro level src off obj v b s
  refine ⟨fun e h => ?_, fun r x h => ⟨fun hv => ?_, fun w hv hw => ?_, fun w hv hw hi => ?_, fun w hv hw hi => ⟨fun c e hc => ?_,
    fun y e hc hy => ?_⟩, fun p hp n hidx hsub hi hn => ?_⟩, fun n hl hp hn hn' => ?_, fun e h => ?_, fun r x h => ?_,
    fun p e more hsrc h => ?_, fun p r x more hsrc h ht => ?_, fun p r x hsrc h ht => ?_⟩
  · exact gives_of_upd (registerWrite level obj v) rfl (registerWrite_error h)
  · exact gives_of_upd (registerWrite level obj v) rfl (registerWrite_untyped h hv)
  · exact gives_of_upd (registerWrite level obj v) rfl (registerWrite_now h hv (ObjRow.put_untyped hw))
  · exact gives_of_upd (registerWrite level obj v) rfl (registerWrite_now h hv (ObjRow.put_busy hw hi))
  · exact gives_of_upd (registerWrite level obj v) rfl (registerWrite_now h hv ((ObjRow.put_writes hw hi).trans hc))
  · exact gives_of_upd (registerWrite level obj v) rfl (registerWrite_later h hv ((ObjRow.put_writes hw hi).trans hc) hy)
  · subst hn
    obtain ⟨hrow, hx⟩ := Dev.named_row (Dev.writeTarget_named h)
    obtain ⟨r', hrow', hkeeps⟩ := plainSettings_kept p hp
    obtain rfl : r' = r := Option.some.inj (hrow'.symm.trans (by rw [hidx, hsub]; exact hrow))
    exact ⟨fun hn hn' => ⟨gives_of_upd (registerWrite level obj _) rfl (registerWrite_keeps h hkeeps hi hx hn hn'),
      hkeeps.reads x n s.dev hx hn hn'⟩, fun hn => gives_of_upd (registerWrite level obj _) rfl (registerWrite_outside h hkeeps hi hn)⟩
  · obtain ⟨r, h, hidle⟩ := Dev.writeTarget_helloPeriod hl hp
    obtain ⟨hrow, hx⟩ := Dev.named_row (Dev.writeTarget_named h)
    obtain ⟨r', hrow', hkeeps⟩ := helloPeriod_kept
    obtain rfl : r' = r := Option.some.inj (hrow'.symm.trans hrow)
    exact gives_of_upd (registerWrite level ⟨0x3000, 0x0A, none⟩ (.num n)) rfl
      (registerWrite_keeps h hkeeps hidle hx (Int.ofNat_le.2 hn) (Int.ofNat_le.2 hn'))
  · exact ⟨_, gives_of_upd (describe obj) rfl (describe_error h), rfl, rfl⟩
  · exact ⟨_, gives_of_upd (describe obj) rfl (describe_ok h), rfl, rfl⟩
  · subst hsrc
    exact gives_of_upd (domainPartWrite _ level obj off b more) rfl (domainPartWrite_error h)
  · subst hsrc
    exact gives_of_upd (domainPartWrite _ level obj off b more) rfl (domainPartWrite_untyped h ht)
  · subst hsrc
    have hgives {off d} {b : List Byte} {more} (hd : domainPartWrite p.toNat level obj off b more s.dev = d) :
        Gives (.domainPartWrite p level obj off b more) s d := gives_of_upd (domainPartWrite p.toNat level obj off b more) rfl hd
    refine ⟨fun hheld hlen hi => ?_, fun hheld hlen hi => ?_, fun a hheld hobj => ⟨fun hoff hlen hi => ?_, fun hoff hlen hi => ?_,
      fun hbad => ?_, fun hoff hlen => ?_⟩⟩
    · refine hgives ((domainPartWrite_part h ht rfl).trans ?_)
      rw [partItem_held (off := 0) (obj := obj) (a := ⟨p.toNat, obj, [], 0⟩) (by rw [hheld]; rfl) ht rfl rfl hlen hi]
      rfl
    · refine hgives ((domainPartWrite_part h ht rfl).trans ?_)
      rw [partItem_busy (off := 0) (obj := obj) (a := ⟨p.toNat, obj, [], 0⟩) (by rw [hheld]; rfl) ht rfl rfl hlen hi]
      rfl
    · refine hgives ((domainPartWrite_part h ht rfl).trans ?_)
      rw [partItem_held (by rw [hheld]; rfl) ht hobj hoff hlen hi]
      rfl
    · refine hgives ((domainPartWrite_part h ht rfl).trans ?_)
      rw [partItem_busy (by rw [hheld]; rfl) ht hobj hoff hlen hi]
      rfl
    · refine hgives ((domainPartWrite_part h ht rfl).trans ?_)
      rw [partItem_misplaced (by rw [hheld]; rfl) hbad]
      rfl
    · refine hgives ((domainPartWrite_part h ht (by simp [isPart, hheld, hobj])).trans ?_)
      rw [partItem_last (by rw [hheld]; rfl) ht hobj hoff hlen]
      rfl

end Sys2Proof.Machine
end
